-- ==== Sys2Proof/Word.lean ====
section
/-!
DEFINITION. Word.lean: the word types of the register file and of records, and the shape of a sparse table.
-/
namespace Sys2Proof

/-- A 32-bit register or record word (R72, R318). -/
abbrev Word := BitVec 32

/-- A byte. -/
abbrev Byte := BitVec 8

/-- A code-group abcdei fghj of the ring's line code, bit a the most significant (R534). -/
abbrev CodeGroup := BitVec 10

/-- A sparse table: pairs of a key and what is held there, keys strictly rising.  A key that is not listed holds the
value its owner names (a reset value, an empty place). -/
abbrev Tab (α : Type) := List (Nat × α)

end Sys2Proof
end

