-- ==== Sys2Proof/Syntax.lean ====
section
/-!
DEFINITION. Syntax.lean: the commands the block takes, with what each brings from outside.
-/
namespace Sys2Proof
/-- The decimator values of an MI's three chains at one 1.28 MSPS output (R425, R427): the Jikan time in ns of their centre instant, cell
voltage in µV, shunt voltage in nV and resistance ratio times 10^6, before any correction. -/
structure DecVal where
  time  : Nat
  v     : Int
  sh    : Int
  ratio : Nat
  deriving DecidableEq, Repr

/-- What a calibration window of an MI measures (R443): error of the reference check in ppm, gain corrections of voltage, shunt and
thermistor in ppm, and offset corrections in µV, nV and ratio × 10^6. -/
structure CalIn where
  err : Int
  gv  : Int
  gs  : Int
  gt  : Int
  ov  : Int
  os  : Int
  ot  : Int
  deriving DecidableEq, Repr

/-- What an encoder answers in one serial frame (R756, R757): data line high before the frame, the ns until its start bit, data bits as a
number, data line low after the last bit and the ns until it is high again, nE, nW and the six CRC bits received. -/
structure FrameIn where
  ready   : Bool
  startNs : Nat
  data    : Nat
  low     : Bool
  highNs  : Nat
  nE      : Bool
  nW      : Bool
  crc     : Nat
  deriving DecidableEq, Repr

/-- A CAN frame (R711, R718): `id` has the identifier in bits 28–0, IDE in 29, FDF in 30 and BRS in 31. -/
structure CanFrame where
  id     : Nat
  dlc    : Nat
  esi    : Bool := false
  remote : Bool := false
  data   : List Byte := []
  deriving DecidableEq, Repr

/-- What the field die measures for its uplink slot (R639): VFIELD in 10 mV, its temperature in °C, and the current of the switch the
slot names, in 2 mA units. -/
structure FieldIn where
  vfield  : Int
  temp    : Int
  current : Nat
  deriving DecidableEq, Repr

/-- Capabilities of PCI Express and CXL that a function carries or does not (R180). -/
inductive Cap where
  | msix | aer | serialNumber | powerManagement | l1Substates | ptm | cxl
  | msi | intx | sriov | ats | pasid | pri | acs | ari | ltr | tph | resizableBar
  deriving DecidableEq, Repr

/-- A field of a function's configuration space by the name that PCI Express or CXL gives it (R180–R183, R188, R201, R202, R210): `bar k` is
the k-th 32-bit BAR register, `severity e` the severity of AER error `e`, and `ldBinding` the fabric manager's binding of the logical device
with the function's number. -/
inductive CfgField where
  | vendorId | deviceId | revisionId | classCode | subsystemVendorId | subsystemId
  | bar (k : Nat) | capability (c : Cap) | serial | msixTableSize | noSoftReset | maxPayloadSupported | l1ExitLatency
  | busMaster | memorySpace | powerState | msixEnable | functionMask | ptmEnable | maxPayload | maxReadRequest
  | ecrcGeneration | ecrcCheck | timeoutRange | timeoutDisable | l11Enable | severity (err : Nat) | ldBinding
  deriving DecidableEq, Repr

/-- The commands: one for each row of the opcode table, in the table's order.  An operand named `f` is the host function (0 or 1), `off` and
`v` a BAR0 offset and a value, `t` a tick count, `r` a command ring, `n` a channel, spool, strip, switch, driver, input or encoder, `j` a
phase, `d` a domain, `p` a Jikanlink port, `h` and `pl` a cell's header and payload, `b` a CAN bus, `l` a logical device, `words` words in
flight at crossings; the others are named where the meaning stands.  [DESIGN CHOICE, unsafe: log 3] -/
inductive Instr where
  /-- VSAFE_APPLY (R847) -/
  | vsafeApply
  /-- VSAFE_LOSS (R846) -/
  | vsafeLoss
  /-- VCORE_ENTER (R876) -/
  | vcoreEnter
  /-- POWER_LOSS (R844) -/
  | powerLoss (rails : List (Nat × Nat))
  /-- RESET (R827) -/
  | reset (f : Nat)
  /-- RESET_CHECK_DONE (R64) -/
  | resetCheckDone (damage : List (Nat × Byte))
  /-- CS_RECHECK (R63) -/
  | csRecheck (f : Nat) (v : Word)
  /-- RECHECK_DONE (R66) -/
  | recheckDone (damage : List (Nat × Byte))
  /-- SHEET_READ (R58) -/
  | sheetRead (v : Nat)
  /-- SHEET_REGION_WRITE (R37) -/
  | sheetRegionWrite (f : Nat) (off : Nat) (v : Word)
  /-- REGISTER_WRITE (R90) -/
  | registerWrite (f : Nat) (off : Nat) (v : Word)
  /-- SQ_READ (R84) -/
  | sqRead (f : Nat) (off : Nat)
  /-- SQ_ACK_WRITE (R85) -/
  | sqAckWrite (f : Nat) (off : Nat) (v : Word)
  /-- RC_READ (R78) -/
  | rcRead (f : Nat) (off : Nat)
  /-- CNT_READ (R78) -/
  | cntRead (f : Nat) (off : Nat)
  /-- SPLIT_LO_READ (R87) -/
  | splitLoRead (f : Nat) (off : Nat)
  /-- SPLIT_LO_WRITE (R88) -/
  | splitLoWrite (f : Nat) (off : Nat) (v : Word)
  /-- SPLIT_HI_WRITE (R88) -/
  | splitHiWrite (f : Nat) (off : Nat) (v : Word)
  /-- UNDEFINED_OFFSET_ACCESS (R103) -/
  | undefinedOffsetAccess (f : Nat) (off : Nat) (write : Bool) (v : Word)
  /-- UNSUPPORTED_REQUEST (R104) -/
  | unsupportedRequest (f : Nat) (isRead : Bool)
  /-- LOUPE_REGISTER_ACCESS (R944) -/
  | loupeRegisterAccess (off : Nat) (write : Bool) (v : Word)
  /-- PRESS_ACCEPTED (R110) -/
  | pressAccepted (t : Nat)
  /-- WINDOW_CLOSE (R111) -/
  | windowClose
  /-- CLOSE (R112) -/
  | close (f : Nat)
  /-- CALEN_CHANGE (R115) -/
  | calenChange (t : Nat) (fitted : Bool)
  /-- SEAL_SAMPLE (R116) -/
  | sealSample (t : Nat) (isOpen : Bool)
  /-- BUTTON_STUCK (R130) -/
  | buttonStuck (t : Nat)
  /-- HUB_DOM_ENABLE (R143) -/
  | hubDomEnable (f : Nat) (v : Word)
  /-- DOMAIN_UP_PHASE_END (R140) -/
  | domainUpPhaseEnd (d : Nat)
  /-- DOM_FAIL (R175) -/
  | domFail (d : Nat)
  /-- QUIESCE_END (R142) -/
  | quiesceEnd (d : Nat) (words : Nat)
  /-- DOMAIN_DOWN_COMPLETE (R141) -/
  | domainDownComplete (d : Nat)
  /-- BEACON (R152) -/
  | beacon
  /-- ISLAND_TIME_CORRECTION (R153); from now on the island's clock gains `rate` × 10^-9 on the hub's -/
  | islandTimeCorrection (d : Nat) (rate : Int)
  /-- EPOCH_BOUNDARY (R156) -/
  | epochBoundary
  /-- XING_TIMEOUT (R174) -/
  | xingTimeout (sender : Nat) (receiver : Nat) (rose : Bool) (words : Nat)
  /-- FLL_UNLOCK (R173) -/
  | fllUnlock (d : Nat) (words : Nat)
  /-- REFCLK_LOSS (R172) -/
  | refclkLoss
  /-- REFCLK_RESTORED (R172) -/
  | refclkRestored
  /-- TSYNC_EDGE (R164) -/
  | tsyncEdge
  /-- TSYNC_MISSING (R163) -/
  | tsyncMissing
  /-- TIME_RESTORED (R838) -/
  | timeRestored (t : Nat)
  /-- PERST_ASSERT (R213) -/
  | perstAssert (writes : Nat) (copied : Option Nat)
  /-- PERST_DEASSERT (R214) -/
  | perstDeassert
  /-- LINK_UP (R214) -/
  | linkUp (speed : Nat) (width : Nat)
  /-- LINK_DOWN (R212) -/
  | linkDown (writes : Nat) (copied : Option Nat)
  /-- FUNCTION_LEVEL_RESET (R203) -/
  | functionLevelReset (f : Nat) (writes : Nat) (copied : Option Nat)
  /-- FLR_COMPLETE (R203) -/
  | flrComplete (f : Nat)
  /-- D3HOT_ENTRY (R202) -/
  | d3hotEntry (f : Nat)
  /-- MSIX_UNMASK (R204) -/
  | msixUnmask (f : Nat) (v : Nat)
  /-- VECTOR_INTERVAL_END (R190) -/
  | vectorIntervalEnd (v : Nat)
  /-- PTM_DIALOG_START (R191) -/
  | ptmDialogStart
  /-- PTM_CAPTURE (R192) -/
  | ptmCapture (t41 : Nat) (t2 : Nat) (prop : Nat)
  /-- PTM_MISS (R191) -/
  | ptmMiss
  /-- DMA_COMPLETION (R211) -/
  | dmaCompletion (tag : Nat) (kind : Nat) (data : List Byte)
  /-- COMPLETION_TIMEOUT (R210) -/
  | completionTimeout (tag : Nat)
  /-- POISONED_TLP_RECEIVED (R210) -/
  | poisonedTlpReceived
  /-- ECRC_ERROR (R210) -/
  | ecrcError (f : Nat) (tag : Option Nat)
  /-- UNEXPECTED_COMPLETION (R210) -/
  | unexpectedCompletion
  /-- MALFORMED_TLP (R210) -/
  | malformedTlp (kind : Nat)
  /-- FATAL_INTERNAL (R210) -/
  | fatalInternal (writes : Nat) (copied : Option Nat)
  /-- CXL_LINK_CRC_ERROR (R210) -/
  | cxlLinkCrcError
  /-- SPEED_CHANGE (R208) -/
  | speedChange (v : Nat)
  /-- WIDTH_CHANGE (R208) -/
  | widthChange (v : Nat)
  /-- L1_ENTRY (R201) -/
  | l1Entry (sub : Bool)
  /-- L1_EXIT (R201) -/
  | l1Exit
  /-- BAR2_ACCESS (R185) -/
  | bar2Access (f : Nat) (off : Nat) (size : Nat) (write : Bool) (value : Nat)
  /-- CXL_MEM_READ (R196) -/
  | cxlMemRead (l : Nat) (a : Nat) (words : Nat) (ue : Bool)
  /-- CXL_MEM_WRITE (R198) -/
  | cxlMemWrite (l : Nat) (a : Nat) (bytes : List Byte) (poison : Bool)
  /-- HDM_COMMIT (R195) -/
  | hdmCommit (l : Nat) (base : Nat) (size : Nat) (ways : Nat) (lock : Bool)
  /-- IDENTIFY_MEMORY_DEVICE (R180) -/
  | identifyMemoryDevice (l : Nat)
  /-- GET_HEALTH_INFO (R180) -/
  | getHealthInfo (l : Nat)
  /-- GET_EVENT_RECORDS (R180) -/
  | getEventRecords (l : Nat)
  /-- CLEAR_EVENT_RECORDS (R180) -/
  | clearEventRecords (l : Nat) (n : Nat)
  /-- GET_POISON_LIST (R199) -/
  | getPoisonList (l : Nat)
  /-- INJECT_POISON (R180) -/
  | injectPoison (l : Nat) (addr : Nat)
  /-- CLEAR_POISON (R199) -/
  | clearPoison (l : Nat) (addr : Nat) (data : List Byte)
  /-- UNSUPPORTED_MAILBOX_COMMAND (R180) -/
  | unsupportedMailboxCommand (l : Nat)
  /-- GET_LD_INFO (R180) -/
  | getLdInfo
  /-- GET_LD_ALLOCATIONS (R194) -/
  | getLdAllocations
  /-- SET_LD_ALLOCATIONS (R194) -/
  | setLdAllocations (sizes : List Nat)
  /-- DOORBELL_POLL (R229) -/
  | doorbellPoll
  /-- DOORBELL_LINE_ARRIVAL (R230) -/
  | doorbellLineArrival
  /-- DESCRIPTOR_ARRIVAL (R231) -/
  | descriptorArrival
  /-- BAD_DESCRIPTOR (R223) -/
  | badDescriptor (r : Nat)
  /-- COMPLETION_WRITE (R234) -/
  | completionWrite (r : Nat)
  /-- COMPLETION_WAIT_EXPIRY (R247) -/
  | completionWaitExpiry (r : Nat)
  /-- MODERATION_TIMEOUT (R236) -/
  | moderationTimeout (v : Nat)
  /-- HOST_LOSS (R240) -/
  | hostLoss
  /-- POLL_ENABLE (R246) -/
  | pollEnable (f : Nat)
  /-- RING_ENABLE (R248) -/
  | ringEnable (f : Nat) (r : Nat)
  /-- RING_DISABLE (R247) -/
  | ringDisable (f : Nat) (r : Nat)
  /-- HOST_LOSS_TIMEOUT_WRITE (R244) -/
  | hostLossTimeoutWrite (f : Nat) (v : Word)
  /-- NOP (R256) -/
  | nop (r : Nat)
  /-- LOAD_RECIPE (R264) -/
  | loadRecipe (r : Nat)
  /-- SWAP_BANK (R265) -/
  | swapBank (r : Nat)
  /-- START (R266) -/
  | start (r : Nat)
  /-- HOLD (R268) -/
  | hold (r : Nat)
  /-- RESUME (R486) -/
  | resume (r : Nat)
  /-- ABORT (R269) -/
  | abort (r : Nat)
  /-- PRESET_EXPOSURE (R494) -/
  | presetExposure (r : Nat)
  /-- SNAPSHOT (R270) -/
  | snapshot (r : Nat)
  /-- GANG (R272) -/
  | gang (r : Nat)
  /-- CH_PARK (R273) -/
  | chPark (r : Nat)
  /-- CH_READMIT (R810) -/
  | chReadmit (r : Nat)
  /-- SET_LIMITS (R271) -/
  | setLimits (r : Nat)
  /-- SET_CAL (R271) -/
  | setCal (r : Nat)
  /-- BUDGET_SET (R276) -/
  | budgetSet (r : Nat)
  /-- PRIORITY_SET (R522) -/
  | prioritySet (r : Nat)
  /-- STRIP_BIND (R277) -/
  | stripBind (r : Nat)
  /-- FUSION_SET (R278) -/
  | fusionSet (r : Nat)
  /-- GRADE_SET (R278) -/
  | gradeSet (r : Nat)
  /-- LEASE_TAKE (R352) -/
  | leaseTake (r : Nat)
  /-- LEASE_RENEW (R354) -/
  | leaseRenew (r : Nat)
  /-- LEASE_DROP (R355) -/
  | leaseDrop (r : Nat)
  /-- ARCHIVE_COPY (R280) -/
  | archiveCopy (r : Nat)
  /-- VALVE_LOAD (R690) -/
  | valveLoad (r : Nat)
  /-- VALVE_RUN (R691) -/
  | valveRun (r : Nat)
  /-- SWITCH_SET (R645) -/
  | switchSet (r : Nat)
  /-- FIELD_SET (R645) -/
  | fieldSet (r : Nat)
  /-- CAN_SEND (R716) -/
  | canSend (r : Nat)
  /-- CAN_FILTER (R718) -/
  | canFilter (r : Nat)
  /-- ENC_SET (R748) -/
  | encSet (r : Nat)
  /-- SENSOR_SCHEDULE (R764) -/
  | sensorSchedule (r : Nat)
  /-- JL_USER (R559) -/
  | jlUser (r : Nat)
  /-- STOP (R796) -/
  | stop (r : Nat)
  /-- CLEAR_FAULT (R284) -/
  | clearFault (r : Nat)
  /-- SELFTEST (R814) -/
  | selftest (r : Nat)
  /-- TABLE_FETCH_DONE (R261) -/
  | tableFetchDone
  /-- RECORD_COMMIT (R319) -/
  | recordCommit (prod spool : Nat) (words : List (Nat × Word))
  /-- CASCADE_FORWARD (R330) -/
  | cascadeForward (n : Nat) (ue : Bool)
  /-- TAIL_READ_COMPLETE (R310) -/
  | tailReadComplete
  /-- SLOT_WRITE (R309) -/
  | slotWrite (n : Nat) (ue : Bool)
  /-- STALL_REREAD (R313) -/
  | stallReread (n : Nat)
  /-- STRIP_STALL (R313) -/
  | stripStall (n : Nat)
  /-- REWIND_TAIL_READ (R328) -/
  | rewindTailRead (n : Nat)
  /-- EXTENT_ZEROED (R344) -/
  | extentZeroed
  /-- HEARTBEAT_SAMPLE (R359) -/
  | heartbeatSample
  /-- ARCHIVE_TRAINING_DONE (R852) -/
  | archiveTrainingDone (failed : Option Nat)
  /-- PWM_PERIOD_BOUNDARY (R475) -/
  | pwmPeriodBoundary (n : Nat) (codes : List (List Int))
  /-- NORMAL_TRIP (R397) -/
  | normalTrip (n : Nat) (j : Nat) (ua : Int) (at_ : Nat) (lasts : Nat)
  /-- HARD_TRIP (R405) -/
  | hardTrip (n : Nat) (j : Nat) (ua : Int)
  /-- DRIVER_FAULT (R406) -/
  | driverFault (n : Nat) (j : Nat) (low : Bool)
  /-- PH_RETRY (R399) -/
  | phRetry (n : Nat) (j : Nat)
  /-- DISCHARGE_END (R462) -/
  | dischargeEnd (n : Nat)
  /-- SAMPLE_WINDOW_END (R428) -/
  | sampleWindowEnd (n : Nat) (w : List DecVal) (w2 : List DecVal) (delay : Nat)
  /-- FAST_VALUE (R431) -/
  | fastValue (n : Nat) (v : Int) (sh : Int) (sh2 : Int)
  /-- CAL_DUE (R441) -/
  | calDue (n : Nat)
  /-- CAL_FORCED (R442) -/
  | calForced (n : Nat)
  /-- CAL_REQUEST_HOLDOFF_END (R446) -/
  | calRequestHoldoffEnd (n : Nat)
  /-- LADDER_GRANT (R447) -/
  | ladderGrant
  /-- CAL_WINDOW_END (R443) -/
  | calWindowEnd (n : Nat) (x : CalIn) (y : CalIn)
  /-- MOD_FAULT (R457) -/
  | modFault (n : Nat) (chain : Nat)
  /-- REQUEST_WORD (R508) -/
  | requestWord (n : Nat)
  /-- ROUND_BOUNDARY (R511) -/
  | roundBoundary (vbus : Nat)
  /-- GRANT_WORD (R513) -/
  | grantWord (n : Nat)
  /-- BEAT_BOUNDARY (R528) -/
  | beatBoundary
  /-- SYNC (R546) -/
  | sync (p : Nat) (h : Nat) (pl : List Byte)
  /-- REPORT (R550) -/
  | report (p : Nat) (h : Nat) (pl : List Byte)
  /-- GRANT (R553) -/
  | grant (p : Nat) (h : Nat) (pl : List Byte)
  /-- STOP_CELL (R797) -/
  | stopCell (p : Nat) (h : Nat) (pl : List Byte)
  /-- WAKE_CELL (R562) -/
  | wakeCell (p : Nat) (h : Nat) (pl : List Byte)
  /-- JOIN (R566) -/
  | join (p : Nat) (h : Nat) (pl : List Byte)
  /-- LEAVE (R567) -/
  | leave (p : Nat) (h : Nat) (pl : List Byte)
  /-- CLAIM (R569) -/
  | claim (p : Nat) (h : Nat) (pl : List Byte)
  /-- ECHO (R549) -/
  | echo (p : Nat) (h : Nat) (pl : List Byte)
  /-- USER_MESSAGE (R560) -/
  | userMessage (p : Nat) (h : Nat) (pl : List Byte)
  /-- BAD_CELL (R584) -/
  | badCell (p : Nat) (line : List CodeGroup) (afterIdle inSlot : Bool)
  /-- COLLECTION_CLOSE (R551) -/
  | collectionClose
  /-- SYNC_MISS_CHECK (R569) -/
  | syncMissCheck
  /-- ECHO_REQUEST_DUE (R549) -/
  | echoRequestDue (p : Nat)
  /-- PORT_PLL_LOCK (R579) -/
  | portPllLock (p : Nat)
  /-- PORT_UP (R581) -/
  | portUp (p : Nat)
  /-- PORT_DOWN (R581) -/
  | portDown (p : Nat) (cause : Nat)
  /-- UNWRAP (R583) -/
  | unwrap (p : Nat) (arrived : Bool)
  /-- TONE (R562) -/
  | tone (f : Nat) (p : Nat)
  /-- WAKE_RING (R563) -/
  | wakeRing (f : Nat)
  /-- TONE_ACCEPTED (R563) -/
  | toneAccepted (p : Nat) (t : Nat) (periods : List Nat)
  /-- PRINT_INPUT_ARRIVAL (R595) -/
  | printInputArrival
  /-- PRINT_EMIT (R593) -/
  | printEmit
  /-- REGRADE (R624) -/
  | regrade (f : Nat) (n : Nat)
  /-- FRAME_BOUNDARY (R642) -/
  | frameBoundary
  /-- DOWNLINK_FRAME (R643) -/
  | downlinkFrame (line : Option Nat) (x : FieldIn)
  /-- UPLINK_FRAME (R659) -/
  | uplinkFrame (line : Option Nat)
  /-- HELLO_UPLINK (R649) -/
  | helloUplink (x : FieldIn)
  /-- BATCH_RESEND (R644) -/
  | batchResend
  /-- DOWNLINK_WATCHDOG (R652) -/
  | downlinkWatchdog
  /-- LINK_LOST (R672) -/
  | linkLost
  /-- FIELD_DIE_POWER_UP (R647) -/
  | fieldDiePowerUp
  /-- BARRIER_POWER_LOSS (R673) -/
  | barrierPowerLoss (reported : Bool)
  /-- INPUT_ACCEPTED (R657) -/
  | inputAccepted (n : Nat) (mv : Int) (ua samples : Nat)
  /-- WIRE_BREAK (R658) -/
  | wireBreak (n : Nat)
  /-- WIRE_OK (R658) -/
  | wireOk (n : Nat)
  /-- REVERSE (R668) -/
  | reverse (v : Int)
  /-- FGND_LOSS (R668) -/
  | fgndLoss
  /-- SURGE (R668) -/
  | surge (v : Int)
  /-- UNDERVOLT (R668) -/
  | undervolt (v : Int)
  /-- SUPPLY_CONDITION_END (R668) -/
  | supplyConditionEnd (k : Nat)
  /-- SW_THERMAL_OFF (R670) -/
  | swThermalOff (n : Nat)
  /-- SW_THERMAL_RESTART (R670) -/
  | swThermalRestart (n : Nat)
  /-- SW_OVERLOAD (R671) -/
  | swOverload (n : Nat)
  /-- SW_OPEN_LOAD (R671) -/
  | swOpenLoad (n : Nat)
  /-- SW_SHORT_SUPPLY (R671) -/
  | swShortSupply (n : Nat)
  /-- CLAMP_END (R663) -/
  | clampEnd (n : Nat)
  /-- REGULATION_PERIOD (R681) -/
  | regulationPeriod (n : Nat) (mean : Int) (duty : Nat)
  /-- SETI (R686) -/
  | seti (n : Nat)
  /-- WAND_RAMP (R686) -/
  | wandRamp (n : Nat)
  /-- WAITT (R686) -/
  | waitt (n : Nat)
  /-- WAITI (R686) -/
  | waiti (n : Nat)
  /-- WAITIN (R686) -/
  | waitin (n : Nat)
  /-- DITHER (R686) -/
  | dither (n : Nat)
  /-- WAND_LOOP (R686) -/
  | wandLoop (n : Nat)
  /-- WAND_JIF (R686) -/
  | wandJif (n : Nat)
  /-- DECAY (R686) -/
  | decay (n : Nat)
  /-- END (R692) -/
  | endWord (n : Nat)
  /-- DECAY_COMPLETE (R692) -/
  | decayComplete (n : Nat)
  /-- DRV_TRIP (R703) -/
  | drvTrip (n : Nat) (leg : Nat) (ma : Nat) (since : Nat) (lasts : Nat)
  /-- PEAK_CAPPED (R685) -/
  | peakCapped (n : Nat)
  /-- OFF_STATE_TEST (R694) -/
  | offStateTest (n : Nat) (v1 : Int) (v2 : Int) (pulse : Nat)
  /-- CAN_FRAME_RX (R721) -/
  | canFrameRx (b : Nat) (f : CanFrame) (tec : Nat) (rec_ : Nat)
  /-- CAN_FRAME_ACKNOWLEDGED (R716) -/
  | canFrameAcknowledged (b : Nat) (tec : Nat) (rec_ : Nat) (tdc : Nat)
  /-- CAN_TX_RETRY (R716) -/
  | canTxRetry (b : Nat) (tec : Nat) (rec_ : Nat)
  /-- CAN_TX_TIMEOUT (R282) -/
  | canTxTimeout (b : Nat)
  /-- CAN_ERROR_STATE_CHANGE (R739) -/
  | canErrorStateChange (b : Nat) (tec : Nat) (rec_ : Nat)
  /-- BUS_ON (R711) -/
  | busOn (b : Nat)
  /-- BUS_IDLE_SETTINGS (R715) -/
  | busIdleSettings (b : Nat)
  /-- SLEEP (R725) -/
  | sleep (f : Nat) (b : Nat)
  /-- SLEEP_ENTRY (R725) -/
  | sleepEntry (b : Nat)
  /-- SLEEP_CLEAR (R731) -/
  | sleepClear (f : Nat) (b : Nat)
  /-- WAKE_PATTERN (R727) -/
  | wakePattern (b : Nat) (phases : List (Bool × Nat))
  /-- WAKE_FRAME (R729) -/
  | wakeFrame (b : Nat) (f : CanFrame) (kind : Nat)
  /-- DECODER_DISARM (R730) -/
  | decoderDisarm (b : Nat)
  /-- TXD_DOMINANT (R738) -/
  | txdDominant (b : Nat)
  /-- BUS_DOMINANT (R738) -/
  | busDominant (b : Nat)
  /-- QUADRATURE_EDGE (R744) -/
  | quadratureEdge (n : Nat) (a : Bool) (b : Bool) (held : Nat)
  /-- INDEX (R747) -/
  | index (n : Nat) (held : Nat)
  /-- SPEED_LATCH (R750) -/
  | speedLatch (n : Nat)
  /-- SERIAL_FRAME (R755) -/
  | serialFrame (n : Nat) (f : FrameIn)
  /-- LINE_FAULT (R768) -/
  | lineFault (n : Nat) (l : Nat)
  /-- LINE_FAULT_END (R768) -/
  | lineFaultEnd (n : Nat) (l : Nat)
  /-- SENSOR_POLL_DUE (R762) -/
  | sensorPollDue
  /-- SENSOR_TRANSFER_DONE (R763) -/
  | sensorTransferDone (rx : List Byte)
  /-- ECC_WRITE_BACK (R776) -/
  | eccWriteBack
  /-- SCRUB_PASS_START (R781) -/
  | scrubPassStart
  /-- SCRUB_ACCESS (R782) -/
  | scrubAccess (kind : Nat)
  /-- MM_LATCH_CLEAR (R780) -/
  | mmLatchClear (f : Nat) (v : Word)
  /-- STOP_PIN_LOW (R793) -/
  | stopPinLow
  /-- STOP_PIN_HIGH (R793) -/
  | stopPinHigh
  /-- CI_WATCHDOG (R804) -/
  | ciWatchdog (n : Nat) (words : Nat)
  /-- MI_WATCHDOG (R804) -/
  | miWatchdog (n : Nat) (words : Nat)
  /-- VBUS_OVER (R804) -/
  | vbusOver (v held : Nat)
  /-- VBUS_UNDER (R804) -/
  | vbusUnder (v held : Nat)
  /-- SB_HUB_READMIT (R813) -/
  | sbHubReadmit (f : Nat) (v : Word)
  /-- ISLAND_SELFTEST_DONE (R810) -/
  | islandSelftestDone (d : Nat) (mask : Nat) (words : Nat)
  /-- PARK (R829) -/
  | park (f : Nat)
  /-- PARK_DRAIN_END (R830) -/
  | parkDrainEnd
  /-- PARK_EDGE (R830) -/
  | parkEdge (t : Nat)
  /-- DEVICE_WAKE (R834) -/
  | deviceWake
  /-- ALARM_MATCH (R833) -/
  | alarmMatch
  /-- XTAL_MEASUREMENT (R837) -/
  | xtalMeasurement (t dj : Nat)
  /-- XTAL_FAIL (R845) -/
  | xtalFail (t : Nat)
  /-- XTAL_OK (R845) -/
  | xtalOk (t : Nat)
  /-- TEMP_CONVERSION (R895) -/
  | tempConversion (t0 : Int) (t1 : Int) (t2 : Int) (t3 : Int) (t4 : Int)
  /-- PRES_RELEASED (R130) -/
  | presReleased (t : Nat)
  /-- CONFIGURATION_REQUEST (R188) -/
  | configurationRequest (f : Nat) (field : CfgField) (write : Option Nat)
  /-- EMPTY_CELL (R558) -/
  | emptyCell (p : Nat) (h : Nat) (pl : List Byte) (room : Bool)
  /-- Z_FALLING_EDGE (R752) -/
  | zFallingEdge (n : Nat) (held : Nat)
  /-- CAN_INTEGRATED (R715) -/
  | canIntegrated (b : Nat)
  /-- SW_OPEN_LOAD_CLEAR (R671) -/
  | swOpenLoadClear (n : Nat)
  /-- SW_SHORT_SUPPLY_CLEAR (R671) -/
  | swShortSupplyClear (n : Nat)
  /-- MAIN_RAIL_BELOW_MINIMUM (R888) -/
  | mainRailBelowMinimum (r mv : Nat)
  /-- SELFTEST_FINISHED (R814) -/
  | selftestFinished (r : Nat) (mask : Nat) (failing : List Nat)
  /-- ARCHIVE_COPY_DONE (R280) -/
  | archiveCopyDone (r : Nat) (words : Nat) (ue : Option Nat)
  /-- ILLEGAL_WORD (R705) -/
  | illegalWord (n : Nat)
  deriving DecidableEq, Repr

end Sys2Proof
end

