-- ==== Sys2Proof/Decode.lean ====
section
/-!
DEFINITION. Decode.lean: the command that a word spells by the opcode table's bits.  No row of this block's table gives bits, so no word
spells a command.
-/
namespace Sys2Proof

/-- The command an opcode-table word of `nbits` bits spells: none, since every row's field list is empty.
[DESIGN CHOICE, unsafe: log 3] -/
def decodeTableWord (_nbits _w : Nat) : Option Instr := none

end Sys2Proof
end

