-- ==== Sys2Proof/Machine/LineCode.lean ====
section
/-!
DEFINITION. Machine/LineCode.lean: what stands on the wires of the rack ring and of the easel link: the CRC-16 of R539 and R638, the
Manchester code of the easel link (R635), the 8b/10b line code with running disparity (R534), and the code-groups of a cell, of an idle ordered set and of a guard (R538, R544).
-/
namespace Sys2Proof.Machine

/-! ### CRC-16 (R539) -/

/-- One byte into the CRC: polynomial 0x1021, most significant bit first, no reflection. -/
def crc16Byte (c : BitVec 16) (b : Byte) : BitVec 16 :=
  (List.range 8).foldl (fun c _ => if c.msb then (c <<< 1) ^^^ 0x1021#16 else c <<< 1) (c ^^^ (b.zeroExtend 16 <<< 8))

/-- The CRC of `l` in sending order: initial value 0xFFFF, no final XOR. -/
def crc16 (l : List Byte) : Nat := (l.foldl crc16Byte 0xFFFF#16).toNat

/-! ### Manchester code (R635) -/

/-- The two half-bits of each of a frame's 128 bits, bit 127 first: low and then high for a 1, high and then low for a 0.  The half-bit
sent first is bit 255 of the result.  [DESIGN CHOICE, safe: log 215] -/
def manchester (w : Nat) : Nat := (List.range 128).foldl (fun a i => 4 * a + (if w / 2 ^ (127 - i) % 2 = 1 then 0b01 else 0b10)) 0

/-- The 128 bits that half-bits stand for; none where a bit has no transition at its middle, a Manchester violation (R638).
[DESIGN CHOICE, safe: log 215] -/
def manchesterRead (h : Nat) : Option Nat :=
  (List.range 128).foldl (fun a i =>
    match a, h / 4 ^ (127 - i) % 4 with
    | some a, 0b01 => some (2 * a + 1)
    | some a, 0b10 => some (2 * a)
    | _, _ => none) (some 0)

/-! ### 8b/10b (R534) -/

/-- What a code-group stands for. -/
inductive LineSym where
  | data (b : Byte)
  /-- K27.7, K23.7 and K28.5 -/
  | cellStart | guardMark | comma
  deriving DecidableEq, Repr

/-- Sub-blocks abcdei of D0 to D31 and fghj of Dx.0 to Dx.7 at negative running disparity.  [PRESUMED, unsafe: log 212] -/
def sixTable : List Nat :=
  [0b100111, 0b011101, 0b101101, 0b110001, 0b110101, 0b101001, 0b011001, 0b111000] ++
  [0b111001, 0b100101, 0b010101, 0b110100, 0b001101, 0b101100, 0b011100, 0b010111] ++
  [0b011011, 0b100011, 0b010011, 0b110010, 0b001011, 0b101010, 0b011010, 0b111010] ++
  [0b110011, 0b100110, 0b010110, 0b110110, 0b001110, 0b101110, 0b011110, 0b101011]
/-- [PRESUMED, unsafe: log 212] -/
def fourTable : List Nat := [0b1011, 0b1001, 0b0101, 0b1100, 0b1101, 0b1010, 0b0110, 0b1110]

/-- Ones among the low `n` bits of `x`. -/
def onesIn (n x : Nat) : Nat := (List.range n).foldl (fun a i => a + x / 2 ^ i % 2) 0

/-- The running disparity (true: positive) after a sub-block of `n` bits.  [PRESUMED, unsafe: log 212] -/
def rdAfter (n : Nat) (rd : Bool) (x : Nat) : Bool :=
  let k := onesIn n x
  if 2 * k > n then true
  else if 2 * k < n then false
  else if n = 6 then (if x = 0b000111 then true else if x = 0b111000 then false else rd)
  else if x = 0b0011 then true
  else if x = 0b1100 then false
  else rd

/-- The running disparity after a code-group. -/
def rdAfterGroup (rd : Bool) (g : CodeGroup) : Bool := rdAfter 4 (rdAfter 6 rd (g.toNat / 16)) (g.toNat % 16)

/-- The sub-block of the table's entry `x` at running disparity `rd`: an unbalanced one, 111000 and 1100 change. -/
def sixOf (rd : Bool) (x : Nat) : Nat :=
  let g := sixTable.getD x 0
  if rd && (onesIn 6 g != 3 || g == 0b111000) then 63 - g else g
def fourOf (rd : Bool) (x y : Nat) : Nat :=
  let alt := y == 7 && (if rd then x == 11 || x == 13 || x == 14 else x == 17 || x == 18 || x == 20)
  let g := if alt then 0b0111 else fourTable.getD y 0
  if rd && (onesIn 4 g != 2 || g == 0b1100) then 15 - g else g

/-- The code-group of a symbol at running disparity `rd`.  [PRESUMED, unsafe: log 212] -/
def encodeSym (rd : Bool) : LineSym → CodeGroup
  | .data b =>
    let x := b.toNat % 32
    let six := sixOf rd x
    BitVec.ofNat 10 (six * 16 + fourOf (rdAfter 6 rd six) x (b.toNat / 32))
  | .cellStart => if rd then 0b0010010111#10 else 0b1101101000#10
  | .guardMark => if rd then 0b0001010111#10 else 0b1110101000#10
  | .comma => if rd then 0b1100000101#10 else 0b0011111010#10

/-- The symbol of a code-group at running disparity `rd`; none is a code error: the group stands for nothing there.
[PRESUMED, unsafe: log 212] -/
def decodeSym (rd : Bool) (g : CodeGroup) : Option LineSym :=
  if g = encodeSym rd .cellStart then some .cellStart
  else if g = encodeSym rd .guardMark then some .guardMark
  else if g = encodeSym rd .comma then some .comma
  else
    let six := g.toNat / 16
    match (List.range 32).find? fun x => sixOf rd x == six with
    | none => none
    | some x =>
      let mid := rdAfter 6 rd six
      ((List.range 8).find? fun y => fourOf mid x y == g.toNat % 16).map fun y => .data (BitVec.ofNat 8 (y * 32 + x))

/-- Symbols sent in order: their code-groups and the running disparity after them. -/
def sendSyms (rd : Bool) (l : List LineSym) : List CodeGroup × Bool :=
  l.foldl (fun a y => let g := encodeSym a.2 y; (a.1 ++ [g], rdAfterGroup a.2 g)) ([], rd)

/-- The idle ordered set sent at running disparity `rd`: /I1/ (K28.5, D5.6) where it is positive, else /I2/ (K28.5, D16.2). -/
def idleSet (rd : Bool) : List LineSym := [.comma, .data (if rd then 0xC5 else 0x50)]

/-- A guard: K23.7 and `n` idle ordered sets; a master sends 8, 17 code-groups in all (R544, R545). -/
def guardGroups (n : Nat) (rd : Bool) : List CodeGroup × Bool :=
  (List.range n).foldl (fun a _ => let b := sendSyms a.2 (idleSet a.2); (a.1 ++ b.1, b.2)) (sendSyms rd [.guardMark])

/-! ### Cells on the line (R538) -/

/-- The 18 bytes of a cell that its CRC covers: header and payload in sending order. -/
def cellBytes (hdr : Nat) (pl : List Byte) : List Byte :=
  [BitVec.ofNat 8 (hdr / 256), BitVec.ofNat 8 hdr] ++ pl

/-- The 21 code-groups of a cell with header, payload and CRC, and the running disparity after it. -/
def cellLine (rd : Bool) (hdr : Nat) (pl : List Byte) (crc : Nat) : List CodeGroup × Bool :=
  sendSyms rd (.cellStart :: (cellBytes hdr pl ++ [BitVec.ofNat 8 (crc / 256), BitVec.ofNat 8 crc]).map .data)

/-- What a receiver reads from the code-groups of a cell, and the running disparity after them: whether K27.7 stands first, and the
bytes after it, none where the code-group is no data code-group. -/
def readLine (rd : Bool) (line : List CodeGroup) : Bool × List (Option Byte) × Bool :=
  line.foldl (fun (a : Bool × List (Option Byte) × Bool × Bool) g =>
    let y := decodeSym a.2.2.1 g
    let rd := rdAfterGroup a.2.2.1 g
    if a.2.2.2 then (y == some .cellStart, a.2.1, rd, false)
    else (a.1, a.2.1 ++ [match y with | some (.data b) => some b | _ => none], rd, false)) (false, [], rd, true)
  |> fun a => (a.1, a.2.1, a.2.2.1)

end Sys2Proof.Machine
end

