-- ==== Sys2Proof/Config.lean ====
section
/-!
DEFINITION. Config.lean: what a part fixes (its variant) and the values the spec leaves open, as constants without a body.
-/
namespace Sys2Proof

/-- The variants of R3.  [DESIGN CHOICE, unsafe: log 1] -/
inductive Variant where
  | xf6408 | xf3208 | xf6400
  deriving DecidableEq, Repr

/-- Channels of the variant (R3, R12). -/
def Variant.channels : Variant → Nat
  | .xf3208 => 32
  | _ => 64

/-- Whether the variant has a field die, an easel bridge and a wand (R3, R13). -/
def Variant.hasField : Variant → Bool
  | .xf6400 => false
  | _ => true

/-- The device code D of R3 and R182. -/
def Variant.deviceCode : Variant → Nat
  | .xf6408 => 0x6408
  | .xf3208 => 0x3208
  | .xf6400 => 0x6400

namespace Config

/-- A fresh open number: the n-th value the spec leaves open in a run.  No body: nothing can be proved of it.
[DESIGN CHOICE, safe: log 10] -/
opaque freeNat : Nat → Nat

/-- A fresh open choice between two courses the spec allows (R93, R334).  [DESIGN CHOICE, safe: log 10] -/
opaque freeBool : Nat → Bool

/-- The fused serial number of the Device Serial Number capability (R180). -/
opaque serialNumber : Nat

end Config
end Sys2Proof
end

