-- ==== Sys2Proof/Machine/Tab.lean ====
section
/-!
DEFINITION. Machine/Tab.lean: reading and changing a sparse table, and the byte and bit helpers every block uses.
-/
namespace Sys2Proof

/-- What the table holds at `k`. -/
def Tab.find {α : Type} : Tab α → Nat → Option α
  | [], _ => none
  | (j, a) :: t, k => if j = k then some a else Tab.find t k

/-- The table without the key `k`. -/
def Tab.del {α : Type} : Tab α → Nat → Tab α
  | [], _ => []
  | (j, a) :: t, k => if j = k then Tab.del t k else (j, a) :: Tab.del t k

/-- Insert a key that is not listed, keeping the keys rising. -/
def Tab.ins {α : Type} : Tab α → Nat → α → Tab α
  | [], k, a => [(k, a)]
  | (j, b) :: t, k, a => if k < j then (k, a) :: (j, b) :: t else (j, b) :: Tab.ins t k a

/-- The table with `a` at `k`. -/
def Tab.put {α : Type} (t : Tab α) (k : Nat) (a : α) : Tab α := Tab.ins (Tab.del t k) k a

/-- What the table holds at `k`, or `d` where it lists nothing. -/
def Tab.get {α : Type} (t : Tab α) (k : Nat) (d : α) : α := (Tab.find t k).getD d

/-- Whether the table lists `k`. -/
def Tab.has {α : Type} (t : Tab α) (k : Nat) : Bool := (Tab.find t k).isSome

/-- Keys strictly rising. -/
def Tab.rising {α : Type} : Tab α → Bool
  | [] => true
  | [_] => true
  | (j, _) :: (k, b) :: t => decide (j < k) && Tab.rising ((k, b) :: t)

/-- Keep the entries whose key satisfies `p`. -/
def Tab.keep {α : Type} (t : Tab α) (p : Nat → Bool) : Tab α := t.filter fun e => p e.1

/-- The bit field of `width` bits at `lsb`, as a number (R5). -/
def fld (w : Word) (lsb width : Nat) : Nat := (w.toNat >>> lsb) % 2 ^ width

/-- One bit of a word (R5). -/
def bitOf (w : Word) (i : Nat) : Bool := w.getLsbD i

/-- `w` with the field of `width` bits at `lsb` set to `v`. -/
def setFld (w : Word) (lsb width v : Nat) : Word :=
  BitVec.ofNat 32 (w.toNat - fld w lsb width * 2 ^ lsb + v % 2 ^ width * 2 ^ lsb)

/-- A Bool as a bit. -/
def b2n (b : Bool) : Nat := if b then 1 else 0

/-- A field value moved to its place, for composing a register out of fields. -/
def at_ (lsb width v : Nat) : Nat := v % 2 ^ width * 2 ^ lsb

/-- A signed reading of the low `width` bits of `v` (two's complement). -/
def signed (width v : Nat) : Int :=
  let m := v % 2 ^ width
  if m < 2 ^ (width - 1) then (m : Int) else (m : Int) - 2 ^ width

/-- The two's complement code of `v` in `width` bits. -/
def unsigned (width : Nat) (v : Int) : Nat := (v % (2 ^ width : Int)).toNat

/-- `v` brought into the range of a signed `width`-bit number. -/
def satInt (width : Nat) (v : Int) : Int :=
  max (-(2 ^ (width - 1) : Int)) (min ((2 ^ (width - 1) : Int) - 1) v)

/-- Little-endian bytes of a number (R6). -/
def bytesOf : Nat → Nat → List Byte
  | 0, _ => []
  | n + 1, v => BitVec.ofNat 8 v :: bytesOf n (v / 256)

/-- The number little-endian bytes spell (R6). -/
def ofBytes : List Byte → Nat
  | [] => 0
  | b :: t => b.toNat + 256 * ofBytes t

/-- `n` bytes of a list from `off`, as a little-endian number; absent bytes read zero. -/
def leAt (l : List Byte) (off n : Nat) : Nat := ofBytes ((l.drop off).take n)

/-- A 32-bit word of a number. -/
def w32 (v : Nat) : Word := BitVec.ofNat 32 v

/-- Reverse the low `n` bits of `v`. -/
def revBits : Nat → Nat → Nat
  | 0, _ => 0
  | n + 1, v => (v % 2) * 2 ^ n + revBits n (v / 2)

/-- One bit of a reflected CRC register. -/
def crcStep (poly c : Nat) : Nat := if c % 2 = 1 then Nat.xor (c / 2) poly else c / 2

/-- One byte into a reflected CRC register. -/
def crcByte (poly c : Nat) (b : Nat) : Nat :=
  let c := Nat.xor c b
  crcStep poly (crcStep poly (crcStep poly (crcStep poly (crcStep poly (crcStep poly (crcStep poly (crcStep poly c)))))))

/-- The IEEE 802.3 CRC-32 of R43. -/
def crc32 (l : List Byte) : Nat :=
  Nat.xor (l.foldl (fun c b => crcByte 0xEDB88320 c b.toNat) 0xFFFFFFFF) 0xFFFFFFFF

end Sys2Proof
end

