-- ==== Sys2Proof/Machine/RegTable.lean ====
section
/-!
DEFINITION. Machine/RegTable.lean: every register definition of R919 (R924–R943) with its codes and reset value, and the
writable fields with the values each lists, from the register tables of the chapters.
-/
namespace Sys2Proof.Machine

/-- Access codes (R78). -/
inductive Acc where
  | rw | ro | rc | sq | w1p | cnt
  deriving DecidableEq, Repr

/-- Take-effect codes (R90). -/
inductive Te where
  | imm | pwm | step | epoch | beat | frame | reset
  deriving DecidableEq, Repr

/-- Privilege codes (R74). -/
inductive Priv where
  | any | p | pp | ps
  deriving DecidableEq, Repr

/-- The values a field lists (R101). -/
inductive Legal where
  | any
  | range (lo hi : Nat)
  | oneOf (vs : List Nat)
  deriving DecidableEq, Repr

/-- A field a write reaches. -/
structure FieldDef where
  lsb   : Nat
  width : Nat
  acc   : Acc
  legal : Legal
  deriving DecidableEq, Repr

/-- A register definition. -/
structure RegDef where
  name   : String
  off    : Nat
  acc    : Acc
  priv   : Priv
  te     : Te
  reset  : Word
  fields : List FieldDef
  deriving DecidableEq, Repr

/-- The CS_ registers. -/
def regsCS : List RegDef := [
  ⟨"CS_STATUS", 0x0, .ro, .any, .imm, 0x00000002, []⟩,
  ⟨"CS_CRC_SEEN", 0x4, .ro, .any, .imm, 0, []⟩,
  ⟨"CS_WRITES", 0x8, .cnt, .p, .imm, 0, []⟩,
  ⟨"CS_RECHECK", 0xC, .w1p, .p, .imm, 0, [⟨0, 1, .w1p, .any⟩]⟩]

/-- The HUB_ registers. -/
def regsHUB : List RegDef := [
  ⟨"HUB_READY", 0x0, .ro, .any, .imm, 0, []⟩,
  ⟨"HUB_TEMP", 0x4, .ro, .any, .imm, 0x80008000, []⟩,
  ⟨"HUB_LIFE_S", 0x8, .cnt, .p, .imm, 0, []⟩,
  ⟨"HUB_LIFE_EQ_S", 0xC, .cnt, .p, .imm, 0, []⟩,
  ⟨"HUB_UNPRIV_WRITES", 0x30, .cnt, .p, .imm, 0, []⟩,
  ⟨"HUB_SQ_REJECTS", 0x34, .cnt, .p, .imm, 0, []⟩,
  ⟨"HUB_BAD_VALUES", 0x38, .cnt, .p, .imm, 0, []⟩,
  ⟨"HUB_UNDEF_ACCESSES", 0x3C, .cnt, .p, .imm, 0, []⟩,
  ⟨"HUB_BAD_SIZE", 0x40, .cnt, .p, .imm, 0, []⟩,
  ⟨"HUB_DOM_ENABLE", 0x44, .rw, .p, .imm, 0x00067E00, [⟨17, 2, .rw, .any⟩, ⟨9, 6, .rw, .any⟩]⟩,
  ⟨"HUB_DOM_SELECT", 0x48, .rw, .any, .imm, 0, [⟨0, 8, .rw, .any⟩]⟩,
  ⟨"HUB_DOM_STATUS", 0x4C, .ro, .any, .imm, 0x00000002, []⟩,
  ⟨"HUB_XING_DISCARDS", 0x50, .cnt, .p, .imm, 0, []⟩,
  ⟨"HUB_SUPPLY", 0x54, .ro, .any, .imm, 0, []⟩]

/-- The HL_ registers. -/
def regsHL : List RegDef := [
  ⟨"HL_STATUS", 0x0, .ro, .any, .imm, 0, []⟩,
  ⟨"HL_LINK_CAP", 0x4, .rw, .p, .reset, 0x00000044, [⟨4, 4, .rw, .range 1 4⟩, ⟨0, 4, .rw, .oneOf [1,2,4]⟩]⟩,
  ⟨"HL_PTM_PERIOD", 0x8, .rw, .p, .imm, 0x00000064, [⟨0, 10, .rw, .range 1 1000⟩]⟩,
  ⟨"HL_PTM_DIALOGS", 0xC, .ro, .any, .imm, 0, []⟩,
  ⟨"HL_EVENTS", 0x10, .sq, .p, .imm, 0, []⟩,
  ⟨"HL_DMA_ERRORS", 0x14, .cnt, .p, .imm, 0, []⟩,
  ⟨"HL_DMA_ERR_INFO", 0x18, .ro, .p, .imm, 0, []⟩,
  ⟨"HL_DMA_ERR_ADDR_LO", 0x1C, .ro, .p, .imm, 0, []⟩,
  ⟨"HL_DMA_ERR_ADDR_HI", 0x20, .ro, .p, .imm, 0, []⟩,
  ⟨"HL_ECRC_ERRORS", 0x24, .cnt, .p, .imm, 0, []⟩,
  ⟨"HL_POISON_RX", 0x28, .cnt, .p, .imm, 0, []⟩,
  ⟨"HL_LINK_DOWNS", 0x2C, .cnt, .p, .imm, 0, []⟩,
  ⟨"HL_RECOVERIES", 0x30, .cnt, .p, .imm, 0, []⟩,
  ⟨"HL_REPLAYS", 0x34, .cnt, .p, .imm, 0, []⟩,
  ⟨"HL_LD_STATUS", 0x38, .ro, .p, .imm, 0, []⟩,
  ⟨"HL_POISON_SENT", 0x3C, .cnt, .p, .imm, 0, []⟩,
  ⟨"HL_POISON_LIST", 0x40, .ro, .p, .imm, 0, []⟩,
  ⟨"HL_CPL_TIMEOUTS", 0x44, .cnt, .p, .imm, 0, []⟩]

/-- The RG_ registers. -/
def regsRG : List RegDef := [
  ⟨"RG_CONTROL", 0x0, .rw, .p, .imm, 0x00000400, [⟨8, 6, .rw, .any⟩, ⟨4, 1, .rw, .any⟩, ⟨0, 4, .rw, .any⟩]⟩,
  ⟨"RG_STATUS", 0x4, .ro, .any, .imm, 0, []⟩,
  ⟨"RG_DBL_LO", 0x8, .rw, .p, .imm, 0, [⟨6, 26, .rw, .any⟩]⟩,
  ⟨"RG_DBL_HI", 0xC, .rw, .p, .imm, 0, [⟨0, 32, .rw, .any⟩]⟩,
  ⟨"RG_HOST_LOSS", 0x10, .rw, .p, .imm, 0x000001F4, [⟨0, 14, .rw, .range 1 10000⟩]⟩,
  ⟨"RG_HOST_POLICY0", 0x14, .rw, .p, .imm, 0xAAAAAAAA, [⟨0, 2, .rw, .oneOf [0,1,2]⟩, ⟨2, 2, .rw, .oneOf [0,1,2]⟩, ⟨4, 2, .rw, .oneOf [0,1,2]⟩, ⟨6, 2, .rw, .oneOf [0,1,2]⟩, ⟨8, 2, .rw, .oneOf [0,1,2]⟩, ⟨10, 2, .rw, .oneOf [0,1,2]⟩, ⟨12, 2, .rw, .oneOf [0,1,2]⟩, ⟨14, 2, .rw, .oneOf [0,1,2]⟩, ⟨16, 2, .rw, .oneOf [0,1,2]⟩, ⟨18, 2, .rw, .oneOf [0,1,2]⟩, ⟨20, 2, .rw, .oneOf [0,1,2]⟩, ⟨22, 2, .rw, .oneOf [0,1,2]⟩, ⟨24, 2, .rw, .oneOf [0,1,2]⟩, ⟨26, 2, .rw, .oneOf [0,1,2]⟩, ⟨28, 2, .rw, .oneOf [0,1,2]⟩, ⟨30, 2, .rw, .oneOf [0,1,2]⟩]⟩,
  ⟨"RG_HOST_POLICY1", 0x18, .rw, .p, .imm, 0xAAAAAAAA, [⟨0, 2, .rw, .oneOf [0,1,2]⟩, ⟨2, 2, .rw, .oneOf [0,1,2]⟩, ⟨4, 2, .rw, .oneOf [0,1,2]⟩, ⟨6, 2, .rw, .oneOf [0,1,2]⟩, ⟨8, 2, .rw, .oneOf [0,1,2]⟩, ⟨10, 2, .rw, .oneOf [0,1,2]⟩, ⟨12, 2, .rw, .oneOf [0,1,2]⟩, ⟨14, 2, .rw, .oneOf [0,1,2]⟩, ⟨16, 2, .rw, .oneOf [0,1,2]⟩, ⟨18, 2, .rw, .oneOf [0,1,2]⟩, ⟨20, 2, .rw, .oneOf [0,1,2]⟩, ⟨22, 2, .rw, .oneOf [0,1,2]⟩, ⟨24, 2, .rw, .oneOf [0,1,2]⟩, ⟨26, 2, .rw, .oneOf [0,1,2]⟩, ⟨28, 2, .rw, .oneOf [0,1,2]⟩, ⟨30, 2, .rw, .oneOf [0,1,2]⟩]⟩,
  ⟨"RG_HOST_POLICY2", 0x1C, .rw, .p, .imm, 0xAAAAAAAA, [⟨0, 2, .rw, .oneOf [0,1,2]⟩, ⟨2, 2, .rw, .oneOf [0,1,2]⟩, ⟨4, 2, .rw, .oneOf [0,1,2]⟩, ⟨6, 2, .rw, .oneOf [0,1,2]⟩, ⟨8, 2, .rw, .oneOf [0,1,2]⟩, ⟨10, 2, .rw, .oneOf [0,1,2]⟩, ⟨12, 2, .rw, .oneOf [0,1,2]⟩, ⟨14, 2, .rw, .oneOf [0,1,2]⟩, ⟨16, 2, .rw, .oneOf [0,1,2]⟩, ⟨18, 2, .rw, .oneOf [0,1,2]⟩, ⟨20, 2, .rw, .oneOf [0,1,2]⟩, ⟨22, 2, .rw, .oneOf [0,1,2]⟩, ⟨24, 2, .rw, .oneOf [0,1,2]⟩, ⟨26, 2, .rw, .oneOf [0,1,2]⟩, ⟨28, 2, .rw, .oneOf [0,1,2]⟩, ⟨30, 2, .rw, .oneOf [0,1,2]⟩]⟩,
  ⟨"RG_HOST_POLICY3", 0x20, .rw, .p, .imm, 0xAAAAAAAA, [⟨0, 2, .rw, .oneOf [0,1,2]⟩, ⟨2, 2, .rw, .oneOf [0,1,2]⟩, ⟨4, 2, .rw, .oneOf [0,1,2]⟩, ⟨6, 2, .rw, .oneOf [0,1,2]⟩, ⟨8, 2, .rw, .oneOf [0,1,2]⟩, ⟨10, 2, .rw, .oneOf [0,1,2]⟩, ⟨12, 2, .rw, .oneOf [0,1,2]⟩, ⟨14, 2, .rw, .oneOf [0,1,2]⟩, ⟨16, 2, .rw, .oneOf [0,1,2]⟩, ⟨18, 2, .rw, .oneOf [0,1,2]⟩, ⟨20, 2, .rw, .oneOf [0,1,2]⟩, ⟨22, 2, .rw, .oneOf [0,1,2]⟩, ⟨24, 2, .rw, .oneOf [0,1,2]⟩, ⟨26, 2, .rw, .oneOf [0,1,2]⟩, ⟨28, 2, .rw, .oneOf [0,1,2]⟩, ⟨30, 2, .rw, .oneOf [0,1,2]⟩]⟩,
  ⟨"RG_SEL", 0x24, .rw, .p, .imm, 0, [⟨4, 3, .rw, .any⟩, ⟨0, 2, .rw, .any⟩]⟩,
  ⟨"RG_CR_BASE_LO", 0x28, .rw, .p, .imm, 0, [⟨12, 20, .rw, .any⟩]⟩,
  ⟨"RG_CR_BASE_HI", 0x2C, .rw, .p, .imm, 0, [⟨0, 32, .rw, .any⟩]⟩,
  ⟨"RG_CQ_BASE_LO", 0x30, .rw, .p, .imm, 0, [⟨12, 20, .rw, .any⟩]⟩,
  ⟨"RG_CQ_BASE_HI", 0x34, .rw, .p, .imm, 0, [⟨0, 32, .rw, .any⟩]⟩,
  ⟨"RG_RING_CFG", 0x38, .rw, .p, .imm, 0x80000001, [⟨28, 4, .rw, .range 4 12⟩, ⟨8, 10, .rw, .range 0 1000⟩, ⟨0, 8, .rw, .range 1 255⟩]⟩,
  ⟨"RG_RING_STATUS", 0x3C, .ro, .any, .imm, 0, []⟩,
  ⟨"RG_NS_MOD", 0x40, .rw, .p, .imm, 0x00000001, [⟨8, 10, .rw, .range 0 1000⟩, ⟨0, 8, .rw, .range 1 255⟩]⟩,
  ⟨"RG_EVENTS", 0x44, .sq, .p, .imm, 0, []⟩,
  ⟨"RG_PHASE_RETRIES", 0x48, .cnt, .p, .imm, 0, []⟩,
  ⟨"RG_HEARTBEAT_SEEN", 0x4C, .ro, .any, .imm, 0, []⟩]

/-- The SP_ registers. -/
def regsSP : List RegDef := [
  ⟨"SP_CONFIG", 0x0, .rw, .p, .epoch, 0x80000000, [⟨31, 1, .rw, .any⟩, ⟨30, 1, .rw, .any⟩, ⟨24, 4, .rw, .any⟩]⟩,
  ⟨"SP_LEVELS", 0x4, .rw, .p, .imm, 0x01C00040, [⟨16, 12, .rw, .range 0 2047⟩, ⟨0, 12, .rw, .any⟩]⟩,
  ⟨"SP_CHMAP_LO", 0x8, .rw, .p, .epoch, 0xF, [⟨0, 32, .rw, .any⟩]⟩,
  ⟨"SP_CHMAP_HI", 0xC, .rw, .p, .epoch, 0, [⟨0, 32, .rw, .any⟩]⟩,
  ⟨"SP_STATUS", 0x10, .ro, .any, .imm, 0x000F000C, []⟩,
  ⟨"SP_DROPS", 0x14, .cnt, .p, .imm, 0, []⟩]

/-- The AR_ registers. -/
def regsAR : List RegDef := [
  ⟨"AR_STATUS", 0x0, .ro, .any, .imm, 0, []⟩,
  ⟨"AR_CONTROL", 0x4, .rw, .p, .imm, 0, [⟨0, 1, .rw, .any⟩]⟩,
  ⟨"AR_FILL_RANGE", 0x8, .rw, .p, .epoch, 0x07FE0000, [⟨16, 11, .rw, .any⟩, ⟨0, 11, .rw, .any⟩]⟩,
  ⟨"AR_FILL_SPOOLS", 0xC, .rw, .p, .epoch, 0x000FFFFF, [⟨16, 5, .rw, .any⟩, ⟨0, 16, .rw, .any⟩]⟩,
  ⟨"AR_FILL_POS", 0x10, .ro, .any, .imm, 0, []⟩,
  ⟨"AR_FILL_SEQ", 0x14, .ro, .any, .imm, 0, []⟩,
  ⟨"AR_FILL_DROPS", 0x18, .cnt, .p, .imm, 0, []⟩,
  ⟨"AR_EXT_SEL", 0x1C, .rw, .p, .imm, 0, [⟨0, 11, .rw, .any⟩]⟩,
  ⟨"AR_EXT_STATUS", 0x20, .ro, .any, .imm, 0, []⟩,
  ⟨"AR_LD_SEL", 0x24, .rw, .p, .imm, 0, [⟨0, 2, .rw, .any⟩]⟩,
  ⟨"AR_LD_STATUS", 0x28, .ro, .any, .imm, 0, []⟩,
  ⟨"AR_LD_SESSION", 0x2C, .ro, .any, .imm, 0, []⟩,
  ⟨"AR_LD_TERM", 0x30, .ro, .any, .imm, 0, []⟩,
  ⟨"AR_UNLEASED_READS", 0x34, .cnt, .p, .imm, 0, []⟩,
  ⟨"AR_UNLEASED_WRITES", 0x38, .cnt, .p, .imm, 0, []⟩,
  ⟨"AR_ZERO_STATUS", 0x3C, .ro, .any, .imm, 0, []⟩,
  ⟨"AR_ECC_CORRECTED", 0x40, .cnt, .p, .imm, 0, []⟩,
  ⟨"AR_ECC_UNCORRECTED", 0x44, .cnt, .p, .imm, 0, []⟩,
  ⟨"AR_EVENTS", 0x48, .sq, .p, .imm, 0, []⟩,
  ⟨"AR_SESSION_NEXT", 0x4C, .ro, .any, .imm, 0x00000001, []⟩]

/-- The SH_ registers. -/
def regsSH : List RegDef := [
  ⟨"SH_STATUS", 0x0, .ro, .any, .imm, 0, []⟩,
  ⟨"SH_CONFIG", 0x4, .rw, .p, .beat, 0x001003B6, [⟨16, 8, .rw, .range 4 255⟩, ⟨0, 10, .rw, .range 500 1000⟩]⟩,
  ⟨"SH_FLOOR", 0x8, .rw, .pp, .beat, 0, [⟨0, 16, .rw, .any⟩]⟩,
  ⟨"SH_SINK", 0xC, .rw, .p, .beat, 0, [⟨0, 22, .rw, .range 0 4000000⟩]⟩,
  ⟨"SH_CEILING", 0x10, .rw, .p, .beat, 0, [⟨0, 16, .rw, .any⟩]⟩,
  ⟨"SH_RACK_BUDGET", 0x14, .rw, .p, .beat, 0, [⟨0, 22, .rw, .range 0 4000000⟩]⟩,
  ⟨"SH_NET", 0x18, .ro, .any, .imm, 0, []⟩,
  ⟨"SH_GRANT_IN", 0x1C, .ro, .any, .imm, 0, []⟩,
  ⟨"SH_CH_SEL", 0x20, .rw, .p, .imm, 0, [⟨0, 6, .rw, .any⟩]⟩,
  ⟨"SH_CH_STATUS", 0x24, .ro, .any, .imm, 0, []⟩,
  ⟨"SH_CH_REQ", 0x28, .ro, .any, .imm, 0, []⟩,
  ⟨"SH_LAPSES", 0x2C, .cnt, .p, .imm, 0, []⟩,
  ⟨"SH_EVENTS", 0x30, .sq, .p, .imm, 0, []⟩,
  ⟨"SH_PARTIAL_ROUNDS", 0x34, .cnt, .p, .imm, 0, []⟩]

/-- The JL_ registers. -/
def regsJL : List RegDef := [
  ⟨"JL_PORT_STATUS", 0x0, .ro, .any, .imm, 0x00000001, []⟩,
  ⟨"JL_PORT_CONTROL", 0x4, .rw, .p, .imm, 0x00001101, [⟨12, 2, .rw, .any⟩, ⟨8, 2, .rw, .any⟩, ⟨1, 1, .w1p, .any⟩, ⟨0, 1, .rw, .any⟩]⟩,
  ⟨"JL_CODE_ERRORS", 0x8, .cnt, .p, .imm, 0, []⟩,
  ⟨"JL_CRC_ERRORS", 0xC, .cnt, .p, .imm, 0, []⟩,
  ⟨"JL_STALE_DROPS", 0x10, .cnt, .p, .imm, 0, []⟩,
  ⟨"JL_SLOT_ERRORS", 0x14, .cnt, .p, .imm, 0, []⟩,
  ⟨"JL_LINK_DELAY", 0x18, .ro, .any, .imm, 0, []⟩,
  ⟨"JL_NODE_ID", 0x40, .rw, .pp, .imm, 0x0000003F, [⟨0, 6, .rw, .oneOf [0,1,2,3,4,5,6,7,8,9,10,11,12,13,14,15,16,17,18,19,20,21,22,23,24,25,26,27,28,29,30,31,63]⟩]⟩,
  ⟨"JL_CONTROL", 0x44, .rw, .p, .beat, 0x001F0300, [⟨31, 1, .w1p, .any⟩, ⟨16, 5, .rw, .any⟩, ⟨8, 2, .rw, .any⟩, ⟨1, 1, .rw, .any⟩, ⟨0, 1, .rw, .any⟩]⟩,
  ⟨"JL_RING_STATUS", 0x48, .ro, .any, .imm, 0x000FC000, []⟩,
  ⟨"JL_LOOP", 0x4C, .ro, .any, .imm, 0, []⟩,
  ⟨"JL_EVENTS", 0x50, .sq, .p, .imm, 0, []⟩,
  ⟨"JL_SYNC_MISSES", 0x54, .cnt, .p, .imm, 0, []⟩,
  ⟨"JL_DROPS", 0x58, .cnt, .p, .imm, 0, []⟩,
  ⟨"JL_GRANT_LATE", 0x5C, .cnt, .p, .imm, 0, []⟩,
  ⟨"JL_MEMBERS", 0x60, .ro, .any, .imm, 0, []⟩]

/-- The PE_ registers. -/
def regsPE : List RegDef := [
  ⟨"PE_STATUS", 0x0, .ro, .any, .imm, 0, []⟩,
  ⟨"PE_CONFIG", 0x4, .rw, .p, .epoch, 0x00C800FF, [⟨16, 10, .rw, .range 0 500⟩, ⟨8, 1, .rw, .any⟩, ⟨0, 8, .rw, .any⟩]⟩,
  ⟨"PE_DISPUTE", 0x8, .rw, .p, .epoch, 0x258141F4, [⟨20, 12, .rw, .range 1 4095⟩, ⟨14, 6, .rw, .range 1 63⟩, ⟨0, 14, .rw, .range 1 10000⟩]⟩,
  ⟨"PE_TOL", 0xC, .rw, .p, .epoch, 0x01F40096, [⟨16, 16, .rw, .range 1 60000⟩, ⟨0, 16, .rw, .range 1 5000⟩]⟩,
  ⟨"PE_MOTION", 0x10, .rw, .p, .epoch, 0, [⟨16, 16, .rw, .any⟩, ⟨0, 16, .rw, .any⟩]⟩,
  ⟨"PE_PATH", 0x14, .rw, .p, .epoch, 0, [⟨0, 20, .rw, .any⟩]⟩,
  ⟨"PE_SEL", 0x18, .rw, .p, .imm, 0, [⟨16, 6, .rw, .range 0 40⟩, ⟨0, 6, .rw, .any⟩]⟩,
  ⟨"PE_MAP", 0x1C, .rw, .p, .epoch, 0, [⟨31, 1, .rw, .any⟩, ⟨30, 1, .rw, .any⟩, ⟨25, 5, .rw, .any⟩, ⟨20, 5, .rw, .range 0 15⟩, ⟨17, 1, .rw, .any⟩, ⟨15, 2, .rw, .any⟩, ⟨14, 1, .rw, .any⟩, ⟨10, 4, .rw, .any⟩]⟩,
  ⟨"PE_CAP", 0x20, .rw, .p, .epoch, 0, [⟨0, 32, .rw, .any⟩]⟩,
  ⟨"PE_OCV", 0x24, .rw, .p, .epoch, 0, [⟨0, 32, .rw, .any⟩]⟩,
  ⟨"PE_LATE", 0x28, .cnt, .p, .imm, 0, []⟩,
  ⟨"PE_EVENTS", 0x2C, .sq, .p, .imm, 0, []⟩]

/-- The FX_ registers. -/
def regsFX : List RegDef := [
  ⟨"FX_STATUS", 0x0, .ro, .any, .imm, 0, []⟩,
  ⟨"FX_ENABLE_LO", 0x4, .rw, .p, .imm, 0, [⟨0, 32, .rw, .any⟩]⟩,
  ⟨"FX_ENABLE_HI", 0x8, .rw, .p, .imm, 0, [⟨0, 32, .rw, .any⟩]⟩,
  ⟨"FX_REST", 0xC, .rw, .p, .imm, 0x02580258, [⟨16, 16, .rw, .range 1 65535⟩, ⟨0, 16, .rw, .range 1 65535⟩]⟩,
  ⟨"FX_DCIR", 0x10, .rw, .p, .imm, 0x03E81388, [⟨16, 16, .rw, .range 250 10000⟩, ⟨0, 16, .rw, .range 100 60000⟩]⟩,
  ⟨"FX_TABLE_CRC", 0x14, .ro, .any, .imm, 0, []⟩,
  ⟨"FX_REGRADE", 0x18, .rw, .p, .imm, 0, [⟨8, 1, .w1p, .any⟩, ⟨0, 6, .rw, .any⟩]⟩,
  ⟨"FX_GRADES", 0x1C, .cnt, .p, .imm, 0, []⟩,
  ⟨"FX_EVENTS", 0x20, .sq, .p, .imm, 0, []⟩,
  ⟨"FX_LAST", 0x24, .ro, .any, .imm, 0x0000FFFF, []⟩]

/-- The EZ_ registers. -/
def regsEZ : List RegDef := [
  ⟨"EZ_STATUS", 0x0, .ro, .any, .imm, 0, []⟩,
  ⟨"EZ_SAFE_STATE", 0x4, .rw, .pp, .frame, 0, [⟨16, 8, .rw, .any⟩, ⟨0, 16, .rw, .any⟩]⟩,
  ⟨"EZ_SW_CMD", 0x8, .rw, .p, .frame, 0, [⟨0, 16, .rw, .any⟩]⟩,
  ⟨"EZ_SW_CONFIG", 0xC, .rw, .p, .frame, 0, [⟨0, 16, .rw, .any⟩]⟩,
  ⟨"EZ_SW_STATUS", 0x10, .ro, .any, .imm, 0, []⟩,
  ⟨"EZ_SEL", 0x14, .rw, .p, .imm, 0, [⟨0, 4, .rw, .any⟩]⟩,
  ⟨"EZ_SW_DIAG", 0x18, .ro, .any, .imm, 0, []⟩,
  ⟨"EZ_IN_TYPE", 0x1C, .rw, .p, .frame, 0x00FFFFFF, [⟨0, 24, .rw, .any⟩]⟩,
  ⟨"EZ_IN_WB", 0x20, .rw, .p, .frame, 0, [⟨0, 24, .rw, .any⟩]⟩,
  ⟨"EZ_IN_FILTER", 0x24, .rw, .p, .frame, 0x00000003, [⟨0, 4, .rw, .range 0 10⟩]⟩,
  ⟨"EZ_IN_LEVEL", 0x28, .ro, .any, .imm, 0x80000000, []⟩,
  ⟨"EZ_IN_CHANGE", 0x2C, .sq, .any, .imm, 0, []⟩,
  ⟨"EZ_IN_BREAK", 0x30, .ro, .any, .imm, 0, []⟩,
  ⟨"EZ_SUPPLY", 0x34, .ro, .any, .imm, 0, []⟩,
  ⟨"EZ_EVENTS", 0x38, .sq, .p, .imm, 0, []⟩,
  ⟨"EZ_UP_BAD", 0x3C, .cnt, .p, .imm, 0, []⟩,
  ⟨"EZ_DOWN_BAD", 0x40, .cnt, .p, .imm, 0, []⟩,
  ⟨"EZ_SAFE_ENTRIES", 0x44, .cnt, .p, .imm, 0, []⟩]

/-- The WN_ registers. -/
def regsWN : List RegDef := [
  ⟨"WN_CONFIG", 0x0, .rw, .p, .frame, 0x00190403, [⟨31, 1, .rw, .any⟩, ⟨16, 8, .rw, .range 20 50⟩, ⟨8, 4, .rw, .range 1 15⟩, ⟨1, 1, .rw, .any⟩, ⟨0, 1, .rw, .any⟩]⟩,
  ⟨"WN_STATUS", 0x4, .ro, .any, .imm, 0, []⟩,
  ⟨"WN_CURRENT", 0x8, .ro, .any, .imm, 0, []⟩,
  ⟨"WN_DIAG", 0xC, .ro, .any, .imm, 0xFF000000, []⟩,
  ⟨"WN_EVENTS", 0x10, .sq, .p, .imm, 0, []⟩]

/-- The CN_ registers. -/
def regsCN : List RegDef := [
  ⟨"CN_CONFIG", 0x0, .rw, .p, .imm, 0, [⟨9, 1, .rw, .any⟩, ⟨0, 2, .rw, .range 0 2⟩]⟩,
  ⟨"CN_NBT", 0x4, .rw, .p, .imm, 0x021F0808, [⟨24, 8, .rw, .range 1 32⟩, ⟨16, 8, .rw, .range 2 127⟩, ⟨8, 8, .rw, .range 1 64⟩, ⟨0, 8, .rw, .range 1 64⟩]⟩,
  ⟨"CN_DBT", 0x8, .rw, .p, .imm, 0x010E0505, [⟨24, 8, .rw, .range 1 32⟩, ⟨16, 8, .rw, .range 1 31⟩, ⟨8, 8, .rw, .range 1 16⟩, ⟨0, 8, .rw, .range 1 16⟩]⟩,
  ⟨"CN_STATUS", 0xC, .ro, .any, .imm, 0, []⟩,
  ⟨"CN_ERR", 0x10, .ro, .any, .imm, 0, []⟩,
  ⟨"CN_WAKE_CONFIG", 0x14, .rw, .p, .imm, 0x201F000A, [⟨30, 2, .rw, .range 0 2⟩, ⟨28, 2, .rw, .any⟩, ⟨16, 5, .rw, .range 1 31⟩, ⟨0, 6, .rw, .range 5 50⟩]⟩,
  ⟨"CN_WAKE_ID", 0x18, .ro, .any, .imm, 0, []⟩,
  ⟨"CN_WAKE_DATA_LO", 0x1C, .ro, .any, .imm, 0, []⟩,
  ⟨"CN_WAKE_DATA_HI", 0x20, .ro, .any, .imm, 0, []⟩,
  ⟨"CN_WAKE_INFO", 0x24, .ro, .any, .imm, 0, []⟩,
  ⟨"CN_RX_DROPS", 0x28, .cnt, .p, .imm, 0, []⟩,
  ⟨"CN_EVENTS", 0x2C, .sq, .p, .imm, 0, []⟩]

/-- The EN_ registers. -/
def regsEN : List RegDef := [
  ⟨"EN_CONFIG", 0x0, .rw, .p, .imm, 0x00140100, [⟨26, 2, .rw, .any⟩, ⟨24, 2, .rw, .any⟩, ⟨16, 8, .rw, .range 1 255⟩, ⟨3, 1, .rw, .any⟩]⟩,
  ⟨"EN_SERIAL", 0x4, .rw, .p, .imm, 0x04193219, [⟨24, 4, .rw, .range 1 15⟩, ⟨16, 8, .rw, .range 2 255⟩, ⟨8, 8, .rw, .range 10 255⟩, ⟨6, 1, .rw, .any⟩, ⟨0, 6, .rw, .range 8 32⟩]⟩,
  ⟨"EN_COUNT", 0x8, .ro, .any, .imm, 0, []⟩,
  ⟨"EN_INDEX", 0xC, .ro, .any, .imm, 0, []⟩,
  ⟨"EN_SPEED", 0x10, .ro, .any, .imm, 0, []⟩,
  ⟨"EN_CAPTURE", 0x14, .ro, .any, .imm, 0, []⟩,
  ⟨"EN_ERRORS", 0x18, .cnt, .p, .imm, 0, []⟩,
  ⟨"EN_EVENTS", 0x1C, .sq, .p, .imm, 0, []⟩]

/-- The SN_ registers. -/
def regsSN : List RegDef := [
  ⟨"SN_CONFIG", 0x0, .rw, .p, .imm, 0, [⟨0, 1, .rw, .any⟩]⟩,
  ⟨"SN_STATUS", 0x4, .ro, .any, .imm, 0, []⟩,
  ⟨"SN_SEL", 0x8, .rw, .p, .imm, 0, [⟨0, 4, .rw, .any⟩]⟩,
  ⟨"SN_VALUE", 0xC, .ro, .any, .imm, 0, []⟩,
  ⟨"SN_TIME", 0x10, .ro, .any, .imm, 0, []⟩,
  ⟨"SN_EVENTS", 0x14, .sq, .p, .imm, 0, []⟩]

/-- The MM_ registers. -/
def regsMM : List RegDef := [
  ⟨"MM_STATUS", 0x0, .ro, .any, .imm, 0, []⟩,
  ⟨"MM_SEL", 0x4, .rw, .p, .imm, 0, [⟨0, 8, .rw, .range 0 218⟩]⟩,
  ⟨"MM_MACRO_INFO", 0x8, .ro, .any, .imm, 0x85000400, []⟩,
  ⟨"MM_UNEXP_ADDR", 0xC, .ro, .any, .imm, 0, []⟩,
  ⟨"MM_UE_ADDR", 0x10, .ro, .any, .imm, 0, []⟩,
  ⟨"MM_LATCH_CLEAR", 0x14, .w1p, .p, .imm, 0, [⟨0, 1, .w1p, .any⟩, ⟨1, 1, .w1p, .any⟩]⟩,
  ⟨"MM_CE_COUNT", 0x18, .cnt, .p, .imm, 0, []⟩,
  ⟨"MM_UE_COUNT", 0x1C, .cnt, .p, .imm, 0, []⟩,
  ⟨"MM_UNEXP_COUNT", 0x20, .cnt, .p, .imm, 0, []⟩,
  ⟨"MM_SCRUB", 0x24, .rw, .p, .imm, 0x8000003C, [⟨31, 1, .rw, .any⟩, ⟨0, 12, .rw, .range 1 3600⟩]⟩,
  ⟨"MM_FUSE", 0x28, .ro, .any, .imm, 0x8FFFFFFF, []⟩,
  ⟨"MM_EVENTS", 0x2C, .sq, .p, .imm, 0, []⟩]

/-- The SB_ registers. -/
def regsSB : List RegDef := [
  ⟨"SB_STATUS", 0x0, .ro, .any, .imm, 0, []⟩,
  ⟨"SB_CONFIG", 0x4, .rw, .p, .imm, 0x00010008, [⟨16, 3, .rw, .range 1 3⟩, ⟨15, 1, .rw, .any⟩, ⟨0, 8, .rw, .range 4 255⟩]⟩,
  ⟨"SB_LAST_STOP", 0x8, .ro, .any, .imm, 0, []⟩,
  ⟨"SB_STOP_TIME", 0xC, .ro, .any, .imm, 0, []⟩,
  ⟨"SB_FENCED_CI_LO", 0x10, .ro, .any, .imm, 0, []⟩,
  ⟨"SB_FENCED_CI_HI", 0x14, .ro, .any, .imm, 0, []⟩,
  ⟨"SB_FENCED_MI_LO", 0x18, .ro, .any, .imm, 0, []⟩,
  ⟨"SB_FENCED_MI_HI", 0x1C, .ro, .any, .imm, 0, []⟩,
  ⟨"SB_FENCED_HUB", 0x20, .ro, .any, .imm, 0, []⟩,
  ⟨"SB_HUB_READMIT", 0x24, .w1p, .p, .imm, 0, [⟨0, 32, .w1p, .any⟩]⟩,
  ⟨"SB_LATCHED_LO", 0x28, .ro, .any, .imm, 0, []⟩,
  ⟨"SB_LATCHED_HI", 0x2C, .ro, .any, .imm, 0, []⟩,
  ⟨"SB_FAULT_SEL", 0x30, .rw, .p, .imm, 0, [⟨0, 6, .rw, .any⟩]⟩,
  ⟨"SB_FAULT_CH", 0x34, .ro, .any, .imm, 0, []⟩,
  ⟨"SB_EVENTS", 0x38, .sq, .p, .imm, 0, []⟩,
  ⟨"SB_FENCES", 0x3C, .cnt, .p, .imm, 0, []⟩]

/-- The SL_ registers.  [DEDUCED, unsafe: log 195] -/
def regsSL : List RegDef := [
  ⟨"SL_STATUS", 0x0, .ro, .any, .imm, 0x00000021, []⟩,
  ⟨"SL_CONTROL", 0x4, .rw, .p, .imm, 0x00000064, [⟨31, 1, .w1p, .any⟩, ⟨16, 1, .w1p, .any⟩, ⟨0, 10, .rw, .range 1 1000⟩]⟩,
  ⟨"SL_WAKE_EN", 0x8, .rw, .p, .imm, 0x0000000E, [⟨1, 7, .rw, .any⟩]⟩,
  ⟨"SL_WAKE_CAUSE", 0xC, .ro, .any, .imm, 0, []⟩,
  ⟨"SL_WAKE_TICKS_LO", 0x10, .ro, .any, .imm, 0, []⟩,
  ⟨"SL_WAKE_TICKS_HI", 0x14, .ro, .any, .imm, 0, []⟩,
  ⟨"SL_ALARM", 0x18, .rw, .p, .imm, 0, [⟨0, 24, .rw, .range 1 16777215⟩]⟩,
  ⟨"SL_XTAL_MEAS", 0x1C, .ro, .any, .imm, 0, []⟩,
  ⟨"SL_PARK_INFO", 0x20, .ro, .any, .imm, 0, []⟩,
  ⟨"SL_EVENTS", 0x24, .sq, .p, .imm, 0, []⟩]

/-- The PR_ registers. -/
def regsPR : List RegDef := [
  ⟨"PR_STATUS", 0x0, .ro, .any, .imm, 0, []⟩,
  ⟨"PR_CONTROL", 0x4, .rw, .p, .imm, 0, [⟨8, 1, .w1p, .any⟩, ⟨0, 4, .rw, .any⟩]⟩,
  ⟨"PR_REFUSALS", 0x8, .cnt, .p, .imm, 0, []⟩,
  ⟨"PR_LAST_REFUSAL", 0xC, .ro, .p, .imm, 0, []⟩,
  ⟨"PR_SEAL_LOG_LO", 0x10, .ro, .p, .imm, 0x00001000, []⟩,
  ⟨"PR_SEAL_LOG_HI", 0x14, .ro, .p, .imm, 0, []⟩]

/-- The TK_ registers. -/
def regsTK : List RegDef := [
  ⟨"TK_STATUS", 0x0, .ro, .any, .imm, 0x00000010, []⟩,
  ⟨"TK_CONFIG", 0x4, .rw, .p, .reset, 0, [⟨0, 1, .rw, .any⟩]⟩,
  ⟨"TK_EPOCH", 0x8, .rw, .p, .epoch, 0x00000004, [⟨0, 6, .rw, .range 1 40⟩]⟩,
  ⟨"TK_NOW_LO", 0xC, .ro, .any, .imm, 0, []⟩,
  ⟨"TK_NOW_HI", 0x10, .ro, .any, .imm, 0, []⟩,
  ⟨"TK_SYNC_OFFSET", 0x14, .ro, .any, .imm, 0, []⟩,
  ⟨"TK_TSYNC_DIFF", 0x18, .ro, .any, .imm, 0, []⟩,
  ⟨"TK_EVENTS", 0x1C, .sq, .p, .imm, 0, []⟩,
  ⟨"TK_PTM_JT_LO", 0x20, .ro, .any, .imm, 0, []⟩,
  ⟨"TK_PTM_JT_HI", 0x24, .ro, .any, .imm, 0, []⟩,
  ⟨"TK_PTM_HOST_LO", 0x28, .ro, .any, .imm, 0, []⟩,
  ⟨"TK_PTM_HOST_HI", 0x2C, .ro, .any, .imm, 0, []⟩]

/-- The DV_ registers. -/
def regsDV : List RegDef := [
  ⟨"DV_STATE", 0x0, .ro, .any, .imm, 0, []⟩,
  ⟨"DV_RUN", 0x4, .ro, .any, .imm, 0x000F0000, []⟩,
  ⟨"DV_EXPO_LO", 0x8, .ro, .any, .imm, 0, []⟩,
  ⟨"DV_EXPO_HI", 0xC, .ro, .any, .imm, 0, []⟩,
  ⟨"DV_SEL", 0x10, .rw, .p, .imm, 0, [⟨0, 3, .rw, .range 0 5⟩]⟩,
  ⟨"DV_LIMITS", 0x14, .rw, .pp, .pwm, 0x00419CE0, [⟨0, 32, .rw, .any⟩]⟩,
  ⟨"DV_EVENTS", 0x18, .sq, .p, .imm, 0, []⟩,
  ⟨"DV_PWM", 0x20, .rw, .p, .step, 0xF01003E8, [⟨28, 4, .rw, .any⟩, ⟨16, 8, .rw, .range 8 160⟩, ⟨0, 13, .rw, .range 1000 8000⟩]⟩,
  ⟨"DV_LOOP", 0x24, .rw, .p, .pwm, 0x20084010, [⟨24, 8, .rw, .any⟩, ⟨16, 8, .rw, .any⟩, ⟨8, 8, .rw, .any⟩, ⟨0, 8, .rw, .any⟩]⟩,
  ⟨"DV_TRIP", 0x28, .rw, .p, .pwm, 0x0A0A0090, [⟨24, 8, .rw, .any⟩, ⟨16, 8, .rw, .range 4 40⟩, ⟨0, 8, .rw, .range 20 160⟩]⟩,
  ⟨"DV_FADE", 0x2C, .rw, .p, .imm, 0x00C80190, [⟨16, 16, .rw, .range 10 1000⟩, ⟨0, 16, .rw, .range 10 1000⟩]⟩,
  ⟨"DV_PH_STATUS", 0x30, .ro, .any, .imm, 0x00006666, []⟩,
  ⟨"DV_PH_EVENTS", 0x34, .sq, .p, .imm, 0, []⟩]

/-- The MS_ registers. -/
def regsMS : List RegDef := [
  ⟨"MS_CONFIG", 0x0, .rw, .p, .epoch, 0x00030100, [⟨16, 3, .rw, .range 0 4⟩, ⟨8, 1, .rw, .any⟩]⟩,
  ⟨"MS_STATUS", 0x4, .ro, .any, .imm, 0xFFFF0020, []⟩,
  ⟨"MS_SHUNT", 0x8, .rw, .p, .epoch, 0x000CB735, [⟨0, 32, .rw, .range 100000 10000000⟩]⟩,
  ⟨"MS_THERM", 0xC, .rw, .p, .epoch, 0x0D6B2710, [⟨16, 16, .rw, .range 1000 9999⟩, ⟨0, 16, .rw, .range 1000 65535⟩]⟩,
  ⟨"MS_CAL_SEL", 0x10, .rw, .p, .imm, 0, [⟨0, 2, .rw, .range 0 2⟩]⟩,
  ⟨"MS_CAL_GAIN", 0x14, .rw, .ps, .epoch, 0x40000000, [⟨0, 32, .rw, .range 966367642 1181116006⟩]⟩,
  ⟨"MS_CAL_OFFSET", 0x18, .rw, .ps, .epoch, 0, [⟨0, 32, .rw, .any⟩]⟩,
  ⟨"MS_AUTOCAL", 0x1C, .rw, .p, .imm, 0x0000312C, [⟨13, 1, .rw, .any⟩, ⟨12, 1, .rw, .any⟩, ⟨0, 12, .rw, .range 10 3600⟩]⟩,
  ⟨"MS_REF_CHECK", 0x20, .ro, .any, .imm, 0, []⟩,
  ⟨"MS_EVENTS", 0x24, .sq, .p, .imm, 0, []⟩]

/-- The blocks of R56. -/
inductive Blk where
  | cs | hub | hl | rg | sp | ar | dv | ms | sh | jl | pe | fx | ez | wn | cn | en | sn | mm | sb | sl | pr | tk
  deriving DecidableEq, Repr

/-- Low byte of the block's type code (R56). -/
def Blk.code : Blk → Nat
  | .cs => 0x01 | .hub => 0x02 | .hl => 0x03 | .rg => 0x04 | .sp => 0x05 | .ar => 0x06 | .dv => 0x07 | .ms => 0x08
  | .sh => 0x09 | .jl => 0x0A | .pe => 0x0B | .fx => 0x0C | .ez => 0x0D | .wn => 0x0E | .cn => 0x0F | .en => 0x10
  | .sn => 0x11 | .mm => 0x12 | .sb => 0x13 | .sl => 0x14 | .pr => 0x15 | .tk => 0x16

/-- BAR0 base of the block's first instance-place (R56). -/
def Blk.base : Blk → Nat
  | .cs => 0x40000 | .hub => 0x41000 | .hl => 0x42000 | .rg => 0x43000 | .sp => 0x44000 | .ar => 0x45000
  | .sh => 0x46000 | .jl => 0x47000 | .pe => 0x48000 | .fx => 0x49000 | .ez => 0x4A000 | .wn => 0x4B000
  | .cn => 0x4C000 | .en => 0x4D000 | .sn => 0x4E000 | .mm => 0x4F000 | .sb => 0x50000 | .sl => 0x51000
  | .pr => 0x52000 | .tk => 0x53000 | .dv => 0x60000 | .ms => 0xA0000

/-- Stride of the block's places in BAR0; a single one occupies 0x1000 (R46, R56). -/
def Blk.stride : Blk → Nat
  | .sp => 0x100 | .jl => 0x400 | .wn => 0x100 | .cn => 0x800 | .en => 0x400 | _ => 0x1000

/-- How many places of the block the variant's sheet lists (R12, R13, R56). -/
def Blk.count (v : Variant) : Blk → Nat
  | .sp => 16 | .jl => 2 | .wn => if v.hasField then 8 else 0 | .ez => if v.hasField then 1 else 0
  | .cn => 2 | .en => 4 | .dv => v.channels | .ms => v.channels | _ => 1

/-- The block's register definitions. -/
def Blk.regs : Blk → List RegDef
  | .cs => regsCS
  | .hub => regsHUB
  | .hl => regsHL
  | .rg => regsRG
  | .sp => regsSP
  | .ar => regsAR
  | .sh => regsSH
  | .jl => regsJL
  | .pe => regsPE
  | .fx => regsFX
  | .ez => regsEZ
  | .wn => regsWN
  | .cn => regsCN
  | .en => regsEN
  | .sn => regsSN
  | .mm => regsMM
  | .sb => regsSB
  | .sl => regsSL
  | .pr => regsPR
  | .tk => regsTK
  | .dv => regsDV
  | .ms => regsMS

/-- Every block, in block entry order (R56). -/
def allBlks : List Blk :=
  [.cs, .hub, .hl, .rg, .sp, .ar, .sh, .jl, .pe, .fx, .ez, .wn, .cn, .en, .sn, .mm, .sb, .sl, .pr, .tk, .dv, .ms]

end Sys2Proof.Machine
end

