-- ==== Sys2Proof/Machine/State.lean ====
section
/-!
DEFINITION. Machine/State.lean: every piece of state the spec gives the block, as plain data, block by block; the queue of
waiting commands; the faults and refusals; and the state right after a device reset.
-/
namespace Sys2Proof.Machine

/-! ### Jikanlink (chapter 15) -/

/-- A cell: header bits and payload; whether it arrived bad and is changed, so that its CRC is sent inverted; and the CRC it came with
where it arrived bad and is sent on as received (R538, R543). -/
structure Cell where
  hdr : Nat
  pl  : List Byte
  bad : Bool := false
  raw : Option Nat := none
  deriving DecidableEq, Repr

/-- Port states (R588). -/
inductive PortState where
  | off | notReady | seeking | up | down
  deriving DecidableEq, Repr

/-- One port; 0 is A, which transmits ring E, and 1 is B, which transmits ring W. -/
structure Port where
  st      : PortState := .notReady
  pll     : Bool := false
  rxSync  : Bool := false
  /-- running disparity of the transmitter and of the receiver, true where it is positive (R534) -/
  txRd    : Bool := false
  rxRd    : Bool := false
  /-- consecutive received cells that failed their check (R581) -/
  bad     : Nat := 0
  /-- cells bound for this port are turned (R582) -/
  wrap    : Bool := false
  /-- local beats since the PLL locked and since the port came UP -/
  locked  : Nat := 0
  upBeats : Nat := 0
  /-- clock count at which a tone being sent ends (R562) -/
  toneEnd : Nat := 0
  nbValid : Bool := false
  nb      : Nat := 0
  /-- clock count of the last ECHO request (R549) -/
  echoAt  : Option Nat := none
  /-- clock count of the last code error (R581) -/
  errAt   : Option Nat := none
  /-- the last link-delay samples in ns, newest first, at most eight (R549) -/
  delays  : List Nat := []
  /-- the last SYNC that passed on the port: its beat and the path delay P (R546, R547) -/
  syncAt  : Option Nat := none
  path    : Nat := 0
  /-- cells held until the PLL locks, with their beats (R579) -/
  held    : List (Nat × Cell) := []
  /-- the beat proposed and the beat agreed for the unwrap (R583) -/
  proposed : Option Nat := none
  agreed  : Option Nat := none
  /-- the beat agreed is one that this port confirmed -/
  confirms : Bool := false
  deriving DecidableEq, Repr

/-- Node states (R564), apart from OFF, which follows from the ports. -/
inductive NodeState where
  | masterless | follower | joining | member | master | refused
  deriving DecidableEq, Repr

/-- A message waiting to be sent: `e` and `w` are the cells still to send on ring E and ring W. -/
structure OutMsg where
  ty   : Nat
  /-- header without RING -/
  hdr  : Nat
  pl   : List Byte
  e    : Nat
  w    : Nat
  /-- arrival of the ECHO request that a reply answers (R549) -/
  at_  : Option Nat := none
  /-- its first cell has left, or it repeats one that has (R556) -/
  began : Bool := false
  /-- the beats of its last cells on ring E and ring W (R558, R561) -/
  lastE : Option Nat := none
  lastW : Option Nat := none
  /-- the ring of the JL_USER that it carries out (R559) -/
  user : Option Nat := none
  /-- a cell that a port held before its PLL locked, to leave as it is (R579) -/
  whole : Option Cell := none
  deriving DecidableEq, Repr

/-- The ring node. -/
structure Jl where
  port    : Tab Port := []
  st      : NodeState := .masterless
  idInUse : Nat := 0x3F
  /-- of the last SYNC followed: JOINED, MASTER, WRAPPED, its beat -/
  joined  : Nat := 0
  master  : Nat := 0
  wrapped : Bool := false
  beat    : Option Nat := none
  /-- consecutive beats followed, and consecutive beats whose SYNC was missing (R565, R569) -/
  run     : Nat := 0
  miss    : Nat := 0
  /-- beat of the last SYNC_MISS_CHECK taken -/
  checkAt : Nat := 0
  /-- the last master followed since device reset (R542) -/
  lastFollowed : Option Nat := none
  /-- JOIN_EN at the last beat boundary (R567) -/
  joinWas : Bool := false
  /-- the node was the master and has resigned to the one it follows next (R572) -/
  resigned : Bool := false
  /-- local beats without a SYNC -/
  quiet   : Nat := 0
  /-- time was loaded, or TIME_SPLIT raised, while following before JOIN (R161) -/
  loaded  : Bool := false
  splitSaid : Bool := false
  /-- the last offset of a SYNC followed, in ns -/
  offset  : Int := 0
  /-- beats since the last JOIN -/
  joinAge : Nat := 0
  /-- a LEAVE has been asked, and its cell has left (R567) -/
  leaving : Bool := false
  left    : Bool := false
  /-- an open claim, true = COLD; it is decided at the next beat boundary -/
  claim   : Option Bool := none
  /-- CLAIM_RANK of nodes as their CLAIM cells told it -/
  ranks   : Tab Nat := []
  /-- ALT of the last message sent and the beat of its sending, per type (R556) -/
  alt     : Tab Nat := []
  sentAt  : Tab Nat := []
  /-- ALT of the last message delivered, keyed by type × 32 + SRC (R557) -/
  got     : Tab Nat := []
  out     : List OutMsg := []
  /-- beat in which a message was last put into an EMPTY cell, per ring (R558) -/
  filled  : Tab Nat := []
  wakeAsked : Bool := false
  /-- report copies written: key is ring, value the number of the beat served (R550) -/
  wrote   : Tab Nat := []
  /-- grant train cells of the running beat, and the whole train of the last beat that passed (R553) -/
  trainAt : Nat := 0
  trainIn : Tab (List Word) := []
  train   : List Word := []
  /-- as master: first beat, members, pending JOINs and LEAVEs, reports collected per beat and node, beats without a
  report, previous grants, loop delays, whether it must resign, and SPLIT -/
  first   : Option Nat := none
  members : Tab Unit := []
  joins   : Tab Unit := []
  leaves  : Tab Unit := []
  reports : Tab Word := []
  missing : Tab Nat := []
  grants  : Tab Int := []
  loopE   : Nat := 0
  loopW   : Nat := 0
  resign  : Bool := false
  split   : Bool := false
  admission : Nat := 0
  /-- Jikan time of the last collection close taken -/
  closeAt : Nat := 0
  deriving DecidableEq, Repr
/-! ### Records (chapter 09) -/

/-- A record on its way to host memory (R298, R299).  `body` is bytes 0x10–0x37 as ten little-endian words. -/
structure Rec where
  kind   : Nat := 3
  src    : Nat := 0
  time   : Nat := 0
  stream : Nat := 0
  gen    : Nat := 0
  seq    : Nat := 0
  body   : List Word := []
  /-- made by a SNAPSHOT, which completes once it has committed (R256, R270) -/
  snapshot : Bool := false
  deriving DecidableEq, Repr

/-- A committed record in its granule.  `origin` is the spool of commit, `rewritten` R308's REWRITTEN, `oldStrip` the strip that a
release or a rewind keeps for it (R335, R338; `none` while ordinary routing holds), `wr` the strip, `none` where that binding has ended,
and the device-wide slot write number once written (R328), `path` the spools of its cascade chain it has still to pass (R330, R332). -/
structure Granule where
  r         : Rec
  origin    : Nat
  rewritten : Bool := false
  /-- left unexposed by a memory march (R815) -/
  blank     : Bool := false
  oldStrip  : Option Nat := none
  /-- a release found it unwritten: unclaimed though a strip was bound with its spool's bit, or routed to the strip `oldStrip`, then in
  error (R335, R339) -/
  seen      : Bool := false
  dead      : Bool := false
  wr        : Option (Option Nat × Nat) := none
  path      : List Nat := []
  deriving DecidableEq, Repr

/-- One spool (R318–R325). -/
structure Spool where
  /-- committed granules, oldest first; those with `wr` set wait for the rewind mark (R328) -/
  q        : List Granule := []
  /-- an AF episode is running (R322) -/
  episode  : Bool := false
  /-- clock count at which the latest episode began (R333) -/
  episodeAt : Nat := 0
  /-- a negative was shed in this episode (SP_STATUS.SHEDDING) -/
  shedding : Bool := false
  /-- drop reasons already reported in this episode or, with no episode, in this millisecond (R325) -/
  reported : List Nat := []
  /-- the millisecond of Jikan time the reports above belong to when no episode runs -/
  repMs    : Nat := 0
  deriving DecidableEq, Repr

/-- What a strip knows of one slot from `next` on: its tail is being read, its OWNER read 0x00, its OWNER read other than 0x00 at a clock
count, or its tail is being read again after that (R310, R313). -/
inductive Look where
  | read | free | owned (at_ : Nat) | again
  deriving DecidableEq, Repr

/-- One negative strip (R308–R313, R277). -/
structure Strip where
  bound     : Bool := false
  fn        : Nat := 0
  base      : Nat := 0
  slots     : Nat := 0
  kinds     : Nat := 0
  spools    : Nat := 0
  /-- next slot to write -/
  next      : Nat := 0
  /-- SEQ of the next slot write (R312) -/
  seq       : Nat := 0
  /-- what is known of the slots from `next` on, in slot order (R310) -/
  looks     : List Look := []
  /-- clock count at which the present stall began (R313, R336) -/
  stall     : Option Nat := none
  /-- STRIP_STALL was raised in this stall -/
  stallSaid : Bool := false
  error     : Bool := false
  /-- a release is in progress (R277, R335) -/
  releasing : Bool := false
  /-- clock count and number of the last slot write; `none` when a memory read issued since has completed, or a tail read serves (R328) -/
  lastWrite : Option (Nat × Nat) := none
  /-- records not yet signalled and the time of the oldest, which a release leaves (R236) -/
  unsig     : Nat := 0
  unsigAt   : Nat := 0
  deriving DecidableEq, Repr

/-- All spools, strips and what producers have under way. -/
structure Spools where
  sp       : Tab Spool := []
  ns       : Tab Strip := []
  /-- records made and not yet committed, with their producer, oldest first -/
  making   : List (Nat × Rec) := []
  /-- words in each producer's staging granule in a spool, oldest first, keyed by producer × 16 + spool (R318) -/
  staging  : Tab (List Word) := []
  /-- clock count of the latest commit, and its producer (R319) -/
  lastIn   : Option (Nat × Nat) := none
  /-- SRC_SEQ counts, keyed by SOURCE and KIND (R299) -/
  srcSeq   : Tab Nat := []
  /-- slot writes issued since device reset, the number that `Granule.wr` names -/
  issued   : Nat := 0
  deriving DecidableEq, Repr

/-! ### Registers (chapter 03) -/

/-- The register file.  Keys are BAR0 offsets, plus 0x100000 times the selector for a selected register. -/
structure Regs where
  /-- the value last written or committed (R90); a key not listed holds the reset value -/
  val    : Tab Word := []
  /-- the value still acting where a written value waits for its boundary (R90) -/
  act    : Tab Word := []
  /-- keys whose written value waits, with the Jikan time of acceptance (R93) -/
  pend   : Tab Nat := []
  /-- values that waited, with their times of acceptance, when a SET_CAL wrote over them: its end without effect brings them back (R259) -/
  prior  : Tab (Word × Nat) := []
  /-- MS_ values that an EPOCH boundary has replaced, with the Jikan time of that boundary: windows that end at it still take them (R434) -/
  was    : Tab (Nat × Word) := []
  /-- held low words, keyed by offset and requester (R88) -/
  held   : Tab Word := []
  /-- shadows of high words, keyed by offset and requester (R87, R193) -/
  shadow : Tab Word := []
  /-- CNT counts (R80) -/
  cnt    : Tab Nat := []
  /-- SQ event counts (R82) -/
  sqN    : Tab Nat := []
  /-- set SQ event bits with the count each carries, keyed by offset × 32 + bit (R83) -/
  sqBit  : Tab Nat := []
  /-- SQ snapshots (R84) -/
  snap   : Tab Nat := []
  /-- RC bits set since the last clearing read, keyed by offset (R78) -/
  rc     : Tab Word := []
  deriving DecidableEq, Repr

/-! ### Contact sheet (chapter 02) -/

/-- The contact sheet block.  [DESIGN CHOICE, unsafe: log 176] -/
structure Sheet where
  /-- bytes of the selected mask ROM image that the reset check read wrong (R35, R64) -/
  damage   : List (Nat × Byte) := []
  checking : Bool := false
  checked  : Bool := true
  magicBad : Bool := false
  lengthBad : Bool := false
  crcBad   : Bool := false
  structBad : Bool := false
  crcSeen  : Word := 0
  /-- the device is held in standby by a bad sheet (R65) -/
  hold     : Bool := false
  /-- the loupe's IEEE 1149.1 instruction register (R58) -/
  loupeIr  : BitVec 8 := 0
  /-- the loupe's SHEET_READ data register after Capture-DR (R58) -/
  loupeDr  : BitVec 64 := 0
  deriving DecidableEq, Repr

/-! ### Presence (chapter 04) -/

/-- The presence block, in domain 19. -/
structure Presence where
  /-- tick of the latest opening or restart while the window is open (R110, R111) -/
  window   : Option Nat := none
  /-- accepted CALEN state since the last device reset (R115, R134) -/
  calen    : Option Bool := none
  /-- agreed seal state since the last device reset, true = open (R134) -/
  sealOpen : Option Bool := none
  /-- last seal sample since the last device reset -/
  sample   : Option Bool := none
  /-- debounced PRES# level -/
  pressed  : Bool := false
  stuck    : Bool := false
  lastRefusal : Word := 0
  deriving DecidableEq, Repr

/-! ### Domains and time (chapter 05) -/

/-- Domain states (R139). -/
inductive DomState where
  | off | up | on | down | fenced | failed
  deriving DecidableEq, Repr

/-- Phases of a transition (R140, R141). -/
inductive DomPhase where
  | idle | rail | fll | release | beacon | quiesce | isolate | discharge
  deriving DecidableEq, Repr

/-- One switched domain. -/
structure Dom where
  st      : DomState := .off
  phase   : DomPhase := .idle
  /-- the most recent requested target, true = ON (R168) -/
  target  : Bool := false
  /-- ON since the running epoch began (R592) -/
  whole  : Bool := false
  /-- the transition under way is a fence (R142, R800) -/
  fence   : Bool := false
  trans   : Nat := 0
  lastUs  : Nat := 0
  /-- clock count at which the transition began -/
  since   : Nat := 0
  /-- the island's local Jikan time (R153): its value at the timekeeper's count `run` of `anchor`, the island nanoseconds that it then
  holds still (`wait`), the correction it slews in after them, and what its clock gains, in 10^-9 (R144) -/
  base    : Nat := 0
  anchor  : Nat := 0
  wait    : Nat := 0
  slew    : Int := 0
  rate    : Int := 0
  /-- local time recorded at the latest strobe, with the beacon's 64-bit value on its way by crossing (R152, R153) -/
  strobe  : Option (Nat × Nat) := none
  /-- the island clock cycle of the latest correction and the local time that stood before it (R170) -/
  before  : Option (Nat × Nat) := none
  /-- an epoch boundary that the timekeeper has passed and the island's local time has not (R157) -/
  owes    : Bool := false
  /-- beacons taken since ON -/
  beacons : Nat := 0
  /-- a power-up ordered by CH_READMIT or SB_HUB_READMIT: READMIT is due at ON (R810) -/
  readmit : Bool := false
  /-- self-test of a readmitted island is running (R810) -/
  testing : Bool := false
  deriving DecidableEq, Repr

/-- One crossing from a domain to another (R147): the bundle of a 32-bit word and a 2-bit tag, REQ from the sender and ACK back. -/
structure Crossing where
  word : Word := 0
  tag  : BitVec 2 := 0
  req  : Bool := false
  ack  : Bool := false
  deriving DecidableEq, Repr

/-- SOURCE of TK_STATUS. -/
inductive TimeSource where
  | free | master | follower | holdover
  deriving DecidableEq, Repr

/-- The timekeeper. -/
structure Timekeeper where
  /-- Jikan time, ns -/
  now       : Nat := 0
  /-- hub clock cycles since State.reset: a model clock for durations, never set back -/
  clk       : Nat := 0
  /-- nanoseconds of Jikan time gone since State.reset, loads apart: the count that island times go by (R153, R155) -/
  run       : Nat := 0
  /-- the latest time before a load set published Jikan time back: no hub record is stamped lower (R154, R161) -/
  floor     : Nat := 0
  /-- Jikan time of the last beacon and of the last epoch boundary taken -/
  beaconAt  : Nat := 0
  epochAt   : Nat := 0
  /-- acting epoch length in units of 250 µs (R156) -/
  epochQ    : Nat := 4
  published : Bool := false
  refclkOk  : Bool := true
  source    : TimeSource := .free
  tsyncMissing : Bool := false
  tsyncAligned : Bool := false
  /-- a follower has missed a SYNC and has not followed one since (R176) -/
  holding   : Bool := false
  /-- clock count at which domain 16 became ON, the timekeeper's start (R163) -/
  startedAt : Nat := 0
  /-- publication waits for a TSYNC edge (R163) -/
  waitTsync : Bool := false
  /-- offset to the ring's time still to be slewed, and the time since the last nanosecond of it (R159) -/
  slew      : Int := 0
  slewAcc   : Nat := 0
  syncOffset : Int := 0
  tsyncDiff : Int := 0
  ptmJt     : Nat := 0
  ptmHost   : Nat := 0
  deriving DecidableEq, Repr

/-! ### Host link (chapter 06) -/

/-- The block behind a DMA request; the number is the ring or strip. -/
inductive Issuer where
  | descFetch (ring : Nat) (first : Nat) (count : Nat)
  | poll
  | tail (strip : Nat) (slot : Nat)
  /-- a tail read of a binding that has ended -/
  | oldTail (strip : Nat)
  | slot (strip : Nat) (slot : Nat)
  | table (ring : Nat)
  /-- a completion write of the ring's enabling number `era` -/
  | cpl (ring : Nat) (era : Nat)
  | copy (ring : Nat)
  deriving DecidableEq, Repr

/-- A non-posted request outstanding at the host link. -/
structure Req where
  tag    : Nat
  /-- read request size of its function when it was issued -/
  cut    : Nat := 512
  fn     : Nat
  addr   : Nat
  len    : Nat
  issuer : Issuer
  /-- its function was reset after it was issued (R203) -/
  dead   : Bool := false
  /-- slot writes issued before it (R328) -/
  mark   : Nat := 0
  /-- clock count at which it was issued -/
  at_    : Nat := 0
  deriving DecidableEq, Repr

/-- A configuration-space function: 0 and 1 of PF/LD0, 2–4 the functions of LD1–LD3.  [PRESUMED, unsafe: log 207] -/
structure Fn where
  bme    : Bool := false
  memEn  : Bool := false
  d3hot  : Bool := false
  msixEn : Bool := false
  fmask  : Bool := false
  flr    : Bool := false
  /-- it answers configuration requests other than with Configuration Request Retry Status (R214) -/
  ready  : Bool := false
  /-- Max_Payload_Size and Max_Read_Request_Size in bytes -/
  mps    : Nat := 128
  mrrs   : Nat := 512
  /-- ECRC Generation Enable and ECRC Check Enable (R180, R210) -/
  ecrcGen   : Bool := false
  ecrcCheck : Bool := false
  /-- Completion Timeout Disable and the range code (R180) -/
  timeoutOff   : Bool := false
  timeoutRange : Nat := 0
  /-- L1.1 is enabled (R201) -/
  l11En  : Bool := false
  /-- words written to the BAR registers, keyed by register (R183) -/
  bars   : Tab Word := []
  /-- severities the host has programmed, true = fatal, keyed by AER error (R210) -/
  severity : Tab Bool := []
  /-- MSI-X table words as written, keyed by word index; an unlisted vector control word reads masked (R215) -/
  table  : Tab Word := []
  /-- pending vectors -/
  pba    : Tab Unit := []
  deriving DecidableEq, Repr

/-- One logical device's HDM decoder (R195). -/
structure Ld where
  committed : Bool := false
  locked    : Bool := false
  errNotCommitted : Bool := false
  base      : Nat := 0
  bound     : Bool := false
  deriving DecidableEq, Repr

/-- The link's training state. -/
inductive LinkState where
  | down | training | up
  deriving DecidableEq, Repr

/-- The host link. -/
structure HostLink where
  /-- CXL mode, and the present level of the HLMODE ball, which a device reset samples (R179) -/
  cxl     : Bool := false
  strap   : Bool := false
  link    : LinkState := .down
  speed   : Nat := 0
  width   : Nat := 0
  inL1    : Bool := false
  /-- the link is in L1.1, and the clock count of the last TLP seen (R201) -/
  inL11   : Bool := false
  busyAt  : Nat := 0
  perst   : Bool := false
  /-- clock count of the latest deassertion of PERST# (R214) -/
  perstHigh : Nat := 0
  ptmEn   : Bool := false
  /-- clock count at which the last PTM dialog began (R191) -/
  ptmAt   : Option Nat := none
  /-- a PTM dialog is open: clock count and Jikan time of its t1 (R191, R192) -/
  dialog  : Option (Nat × Nat) := none
  dialogs : Nat := 0
  fns     : Tab Fn := []
  lds     : Tab Ld := []
  reqs    : List Req := []
  nextTag : Nat := 0
  /-- consecutive TLPs of higher classes that classes 2, 3 and 4 have waited through (R327) -/
  waits   : Tab Nat := []
  /-- completions with data that wait for their block -/
  inbox   : List (Req × List Byte) := []
  errInfo : Word := 0
  errAddr : Nat := 0
  /-- vectors 12–23 inside their 10 µs interval, with the clock count of the message (R190) -/
  spaced  : Tab Nat := []
  poison  : List Nat := []
  poisonOver : Bool := false
  /-- CXL event records held (line addresses and causes), oldest first -/
  cxlLog  : List (Nat × Nat) := []
  deriving DecidableEq, Repr

/-- Traffic class, attributes and ECRC of a TLP that the device originates (R180, R187). -/
structure TlpAttr where
  tc      : Nat := 0
  relaxed : Bool := false
  noSnoop : Bool := false
  ecrc    : Bool := false
  deriving DecidableEq, Repr

/-- How an error is reported to AER (R210). -/
inductive Severity where
  | correctable | advisory | nonFatal | fatal
  deriving DecidableEq, Repr

/-- Bit times and sample points of the nominal and the data phase of a CAN frame, in ns (R713). -/
structure CanTiming where
  bit        : Nat
  sample     : Nat
  dataBit    : Nat
  dataSample : Nat
  deriving DecidableEq, Repr

/-- What the block sends out: memory TLPs, MSI-X messages, read replies, cells and frames. -/
inductive Tx where
  | memWrite (fn addr : Nat) (bytes : List Byte) (by_ : Issuer) (attr : TlpAttr)
  | memRead (tag fn addr len : Nat) (by_ : Issuer) (attr : TlpAttr)
  | msix (fn vec : Nat) (addr : Nat) (data : Word) (attr : TlpAttr)
  /-- the answer of a configuration read, and Configuration Request Retry Status (R214) -/
  | cfg (fn : Nat) (value : Nat)
  | crs (fn : Nat)
  | reply (offset : Nat) (value : Word)
  | ur (isRead : Bool)
  /-- an error of function `fn` reported to AER -/
  | aer (fn err : Nat) (sev : Severity)
  | cxlData (ld : Nat) (bytes : List Byte) (poison : Bool)
  | mailbox (ld : Nat) (code : Nat) (payload : List Nat)
  /-- a cell on a port, and the code-groups it is sent as; the guard at the end of a master's frame -/
  | cell (port : Nat) (c : Cell) (line : List CodeGroup)
  | guard (port : Nat) (line : List CodeGroup)
  /-- a wake tone of `swing` mV peak-to-peak (R562) -/
  | tone (port swing : Nat)
  /-- a frame at these bit times and sample points, in ns (R713) -/
  | can (bus : Nat) (f : CanFrame) (timing : CanTiming)
  /-- a transfer of the sensor port: its chip select, mode 3, SCK period in ns and the bytes on MOSI (R759, R760) -/
  | sensor (cs : Nat) (mode3 : Bool) (sck : Nat) (bytes : List Byte)
  /-- the clock of a serial encoder's frame: its period in ns, and how many periods where the frame fixes it (R755–R757) -/
  | encClock (n period : Nat) (count : Option Nat)
  deriving DecidableEq, Repr
/-! ### Rings (chapters 07 and 08) -/

/-- What a descriptor in execution waits for. -/
inductive Stage where
  /-- its effect or its completion is due at an event the opcode itself names -/
  | waiting
  /-- a table fetch (R261) -/
  | fetching
  /-- a START queued behind a fade (R487) -/
  | queued
  /-- frames to the field die: the batch number that carries the change (R281, R645) -/
  | batch (seq : Nat)
  /-- a self-test or a readmission under way, with the domains still to finish -/
  | domains (left : List Nat)
  /-- bytes copied so far (R280) -/
  | copied (n : Nat)
  /-- the effect has acted; only the completion is due (R293) -/
  | acted
  /-- SNAPSHOT's records are on their way; their TIME (R256, R430) -/
  | records (time : Nat)
  deriving DecidableEq, Repr

/-- A descriptor in execution: its 64 bytes, its command ring count and what it waits for. -/
structure Exec where
  d     : List Byte
  count : Nat
  stage : Stage := .waiting
  deriving DecidableEq, Repr

/-- A completion before it is written (R224); `irq` is its descriptor's IRQ flag. -/
structure Cpl where
  d      : List Byte
  count  : Nat
  status : Nat
  gen    : Nat
  result : Nat
  detail : Nat
  deriving DecidableEq, Repr

/-- One command ring with its completion ring. -/
structure Ring where
  running : Bool := false
  error   : Bool := false
  /-- ENABLE was written 0 and the ring is stopping, with the clock count of the disable (R247) -/
  stopping : Option Nat := none
  /-- a 1 written to ENABLE while stopping (R248) -/
  again   : Bool := false
  /-- the function 0 addresses and LOG2_E latched at enabling (R246) -/
  crBase  : Nat := 0
  cqBase  : Nat := 0
  log2E   : Nat := 8
  /-- descriptors completed -/
  crCount : Nat := 0
  /-- count of the next descriptor to fetch -/
  nextFetch : Nat := 0
  /-- count of the next descriptor to arrive, and a phase mismatch waits for the next poll (R231) -/
  nextArr : Nat := 0
  waitPoll : Bool := false
  prod    : Nat := 0
  cqCount : Nat := 0
  cqCons  : Nat := 0
  /-- fetched and not begun, oldest first, with their counts -/
  fetched : List (Nat × List Byte) := []
  exec    : Option Exec := none
  /-- a completion waiting to be written, with the clock count at which its wait began -/
  cpl     : Option Cpl := none
  cplAt   : Nat := 0
  /-- CQ_FULL was raised in this stall (R234) -/
  fullSaid : Bool := false
  /-- consecutive polls with a phase mismatch, and whether PHASE_STUCK was raised (R253) -/
  phaseBad : Nat := 0
  phaseSaid : Bool := false
  /-- unsignalled completions and the clock count of the oldest (R236) -/
  unsig   : Nat := 0
  unsigAt : Nat := 0
  /-- enablings of this ring so far, which its completion writes name (R226) -/
  era     : Nat := 0
  deriving DecidableEq, Repr

/-- The ring engine and the host-loss machinery. -/
structure Rings where
  ring     : Tab Ring := []
  /-- the ring that last started a descriptor (R233) -/
  last     : Nat := 3
  /-- the doorbell address latched at POLL_EN (R246) -/
  dblAddr  : Nat := 0
  /-- Jikan time of the last poll point taken -/
  pollAt   : Nat := 0
  /-- HEARTBEAT at the last completed poll (RG_HEARTBEAT_SEEN) -/
  beat     : Word := 0
  /-- RG_HOST_POLICY registers written last, with the clock count of the cycle and the value before it (R245) -/
  policyWas : Tab (Nat × Word) := []
  /-- clock count of the last change seen while the host-loss timer runs (R238) -/
  timer    : Option Nat := none
  hostLost : Bool := false
  /-- lost completions since reset (R251) -/
  lost     : Nat := 0
  deriving DecidableEq, Repr
/-! ### Archive (chapter 10) -/

/-- Extent states (R343). -/
inductive ExtState where
  | unzeroed | zeroing | free | filling | sealed
  deriving DecidableEq, Repr

/-- One extent and the hold kept beside its state. -/
structure Extent where
  st    : ExtState := .unzeroed
  /-- the LD whose session holds it, and whether the hold is for reading and writing -/
  held  : Option (Nat × Bool) := none
  /-- it has reached FREE since device reset (R372) -/
  freed : Bool := false
  deriving DecidableEq, Repr

/-- LD lease states (R351). -/
inductive LeaseState where
  | none | active | lost
  deriving DecidableEq, Repr

/-- One LD's session and its heartbeat line's host-written fields (R351, R357). -/
structure Lease where
  st       : LeaseState := .none
  session  : Nat := 0
  term     : Nat := 0
  /-- Jikan time of the latest renewal -/
  renewed  : Nat := 0
  /-- BEAT and SESSION as last stored by the LD -/
  beat     : Nat := 0
  claimed  : Nat := 0
  /-- BEAT at the previous sample -/
  sampled  : Nat := 0
  deriving DecidableEq, Repr

/-- The archive controller and the archive die. -/
structure Archive where
  trained  : Bool := false
  /-- a rail of the archive die stood below its operating range when training began (R853) -/
  railsLow : Bool := false
  /-- archive channel whose training failed (R371, R376) -/
  fail     : Option Nat := none
  ext      : Tab Extent := []
  lease    : Tab Lease := []
  nextSession : Nat := 1
  /-- archive bytes; an unlisted byte reads 0, as zeroing leaves it (R344) -/
  mem      : List Host.Cell := []
  /-- line addresses that hold a poison marker (R198), and lines with an uncorrectable error (R370) -/
  poisoned : Tab Unit := []
  ueLines  : Tab Unit := []
  /-- extents still to be zeroed, the first of them being zeroed -/
  zeroQ    : List Nat := []
  zeroDone : Bool := false
  /-- the FILLING extent, the next line and what its header needs (R348) -/
  filling  : Option Nat := none
  line     : Nat := 1
  lastTime : Nat := 0
  lap      : Nat := 0
  seq      : Nat := 0
  /-- the extent the fill takes next -/
  nextExt  : Option Nat := none
  /-- the extent that the fill opened last -/
  opened   : Option Nat := none
  /-- Jikan time of the last heartbeat sample taken (R359) -/
  sampleAt : Nat := 0
  blocked  : Bool := false
  blockedDrops : Nat := 0
  deriving DecidableEq, Repr
/-! ### Channels: power path and developer (chapters 11 and 13) -/

/-- Phase states of R424; DISABLED follows from PH_EN and the form of the channel. -/
inductive PhState where
  | inService | retryWait | outTrip | outOpen | outSense | outShort
  deriving DecidableEq, Repr

/-- One pulse of an output in the running period: where it rises and falls, in units of 156.25 ps from the channel's 0° instant
(R377, R382, R384). -/
structure Pulse where
  rise : Nat
  fall : Nat
  deriving DecidableEq, Repr

/-- One phase of a channel. -/
structure Phase where
  st      : PhState := .inService
  /-- the phase's CI has been ON since device reset; DV_PH_STATUS shows DISABLED before (R422, R424) -/
  known   : Bool := false
  /-- FLT# is low (R388) -/
  flt     : Bool := false
  /-- the normal trip acted in the running period, or acted in the clock cycle of the coming boundary and applies to the new one (R397, R407) -/
  tripped : Bool := false
  tripNext : Bool := false
  /-- consecutive periods in which the normal trip acted (R398) -/
  runTrip : Nat := 0
  /-- clock count of the out-of-service trip that started RETRY_WAIT -/
  waitAt  : Nat := 0
  /-- RETRY_MS has elapsed: the phase returns at the next period boundary (R399) -/
  due     : Bool := false
  /-- clock counts of earlier out-of-service trips, newest first (R399) -/
  history : List Nat := []
  /-- periods since the return or the start of switching, 64 when the ramp is over (R399, R423, R486) -/
  ramp    : Nat := 64
  /-- that ramp is the one of a return (R399, R413) -/
  back    : Bool := false
  /-- period average in µA, share in µA and high-side duty of the running period -/
  avg     : Rat := 0
  share   : Rat := 0
  duty    : Rat := 0
  /-- the high-side duty that acts at the next boundary, and whether one has been computed (R390) -/
  next    : Rat := 0
  ready   : Bool := false
  /-- the PWMH and PWML pulses of the running period, none where none is issued (R383) -/
  hi      : Option Pulse := none
  lo      : Option Pulse := none
  /-- the edges of the period before, counted from the running period's 0° instant (R404), and whether a pulse was issued in the running
  period (R414) -/
  edges   : List Int := []
  switched : Bool := false
  /-- inner-loop integrator -/
  integ   : Rat := 0
  /-- consecutive low periods (R413) -/
  runOpen : Nat := 0
  /-- the windows of periods in which the phase may be STUCK: first sample and length (R414) -/
  stuck   : List (Int × Nat) := []
  /-- consecutive rail periods (R414) -/
  runRail : Nat := 0
  /-- a failure found at the last boundary that acts at the next one: 1 open, 2 STUCK, 3 RAIL, 4 SUM (R416) -/
  found   : Nat := 0
  deriving DecidableEq, Repr

/-- Channel states (R462). -/
inductive ChState where
  | dark | running | held | fading
  deriving DecidableEq, Repr

/-- The last run's end reason (DV_RUN.END_REASON). -/
inductive EndReason where
  | none | halt | abort | hostFade | stop | limit | progFault | noPhase | fence
  deriving DecidableEq, Repr

/-- A fade or cut under way (R401, R402). -/
structure Fade where
  cut     : Bool
  /-- Ic at fade start, µA -/
  from_   : Rat
  /-- clock count of the start -/
  start   : Nat
  fadeNs  : Nat
  dischNs : Nat
  /-- clock count at which CHEN fell and the DISCH_US wait began -/
  lowAt   : Option Nat
  deriving DecidableEq, Repr

/-- One TERM of the executing step (R471, R473). -/
structure TermSt where
  word    : Nat
  /-- comparison value, read at the step's first boundary -/
  value   : Int
  /-- consecutive evaluations that met it -/
  met     : Nat := 0
  /-- LEDGER_REACHED was raised (R474) -/
  reached : Bool := false
  deriving DecidableEq, Repr

/-- The executing step (R468–R470). -/
structure StepSt where
  pc      : Nat
  op      : Nat
  a       : Int
  b       : Int
  va      : Int
  ledgerStop : Bool
  terms   : List TermSt
  /-- step elapsed time in quarter ns, in whole periods (R470) -/
  t       : Nat := 0
  /-- Jikan time of the boundary that `t` was taken at -/
  seen    : Nat := 0
  expo0   : Int
  energy0 : Int
  deriving DecidableEq, Repr

/-- A WAIT_SYNC in execution: its word index, period in ns, and the local Jikan time at which it began or was resumed. -/
structure WaitSt where
  pc     : Nat
  period : Nat
  since  : Nat
  deriving DecidableEq, Repr

/-- What a START brings: its ENTRY, PRIORITY and V0–V3 (R263, R479, R480). -/
structure StartArgs where
  entry : Nat
  prio  : Nat
  vars  : Tab Int
  deriving DecidableEq, Repr

/-- Channel commands taken by the CI and waiting for its next control-period boundary. -/
structure ChCmds where
  start   : Option StartArgs := none
  hold    : Bool := false
  resume  : Bool := false
  abort   : Bool := false
  hostFade : Bool := false
  deriving DecidableEq, Repr

/-- A preset on its way: value, and the clock count at which it reached the CI (R494). -/
structure Preset where
  value : Int
  at_   : Nat
  deriving DecidableEq, Repr

/-- How the channel stood at a window's end: what a negative of that instant carries of it (R299–R301). -/
structure SampleAt where
  gen     : Nat := 0
  expo    : Int := 0
  energy  : Int := 0
  step    : Nat := 0xFFFF
  phases  : Nat := 0
  expoSat : Bool := false
  limited : Bool := false
  deriving DecidableEq, Repr

/-- A sample in the form the CI, the negatives and the print engine take it (R428–R433, R440). -/
structure Sample where
  /-- Jikan time of its window's end -/
  time     : Nat := 0
  v        : Int := 0
  i        : Int := 0
  temp     : Int := -32768
  iFast    : Int := 0
  vFast    : Int := 0
  calGap   : Bool := false
  fastPath : Bool := true
  overRange : Bool := false
  /-- it is handed off too late for its epoch (R595) -/
  late     : Bool := false
  chan     : SampleAt := {}
  deriving DecidableEq, Repr

/-- One channel: its developer, loop and phases.  For a gang this is ch 2k, and ch 2k+1 stands still (R378, R492). -/
structure Chan where
  st       : ChState := .dark
  /-- ch 2k: a gang stands -/
  gang     : Bool := false
  gen      : Nat := 0
  phases   : Tab Phase := []
  short    : Bool := false
  limited  : Bool := false
  chen     : Bool := false
  fade     : Option Fade := none
  /-- recipe words that have been written, keyed by bank × 512 + index; an unlisted word is unexposed -/
  bank     : Tab (BitVec 64) := []
  active   : Nat := 0
  armed    : Bool := false
  queued   : Bool := false
  vars     : Tab Int := []
  c        : Bool := false
  pc       : Nat := 0
  stack    : List Nat := []
  lastTerm : Option Nat := none
  ended    : EndReason := .none
  step     : Option StepSt := none
  wait     : Option WaitSt := none
  cmds     : ChCmds := {}
  expo     : Int := 0
  energy   : Int := 0
  /-- residues below 1 nC and 1 µJ (R481) -/
  expoRes  : Rat := 0
  energyRes : Rat := 0
  expoSat  : Bool := false
  /-- I_FAST charge (nC) and energy (µJ) booked in the current 250 µs window and in the window of the last sample -/
  winQ     : Rat := 0
  winE     : Rat := 0
  lastQ    : Rat := 0
  lastE    : Rat := 0
  /-- a sample has arrived and its correction and evaluations are due at the next boundary -/
  freshSample : Bool := false
  /-- a print has arrived since the last boundary -/
  freshPrint : Bool := false
  sample   : Sample := {}
  preset   : Option Preset := none
  /-- a preset applied: the clock count it reached the CI, for the next precise correction (R494) -/
  presetAt : Option Nat := none
  /-- safety-limit counts, items 0–5 (R490) -/
  limRun   : Tab Nat := []
  /-- Ic in µA, its CV integrator, the trim and what it is formed from (R391, R394) -/
  ic       : Rat := 0
  vInteg   : Rat := 0
  trim     : Rat := 0
  /-- sum and number of (shunt current − fast sum) in the running millisecond, and when that began -/
  trimSum  : Rat := 0
  trimN    : Nat := 0
  trimAt   : Nat := 0
  /-- fast sum after trim of the last period (I_FAST), its running sum over the window, and the latest fast values -/
  iFast    : Rat := 0
  winI     : Rat := 0
  winN     : Nat := 0
  vFast    : Int := 0
  /-- the fast voltage of the feed-forward: during a CAL_GAP the last one before the gap (R395) -/
  vFeed    : Int := 0
  iShunt   : Option Int := none
  runSum   : Nat := 0
  /-- last V, I, T and T_CELL evaluated for terminations (SETV FN 6) -/
  evalV    : Int := 0
  evalI    : Int := 0
  evalT    : Int := 0
  /-- step time, exposure change and energy change at their latest evaluation in this run (SETV FN 6) -/
  lastEval : Option (Nat × Int × Int) := none
  /-- a sample has been evaluated since the last device reset -/
  evaled   : Bool := false
  /-- for the print engine, since the last epoch boundary: LEDGER_OVERRUN's excess in mC after any START or PRESET_EXPOSURE
  (R474, R612), whether one of those acted and the latest preset's value (R610, R628), and whether the pair changed form (R627) -/
  overrun  : Option Int := none
  cleared  : Bool := false
  anchor   : Option Int := none
  ganged   : Bool := false
  /-- sum and number of the periods' stage voltages in µV since the last epoch boundary (R613) -/
  stageSum : Rat := 0
  stageN   : Nat := 0
  /-- the channel's latest print in this run: FLAGS and T_CELL -/
  print    : Option (Nat × Int) := none
  prio     : Nat := 0
  cap      : Nat := 0
  /-- the grant held by the CI, and the rounds since the last grant word (R513, R514) -/
  grant    : Int := 0
  /-- clock count at which that grant's lease ends for the CI (R514) -/
  grantEnd : Nat := 0
  /-- the current command before the grant's clamp, for the request (R508) -/
  icReq    : Rat := 0
  /-- period boundaries taken -/
  periods  : Nat := 0
  /-- latched channel faults as bits of R806, bit 8 PHASE included, and the cause of the latest -/
  faults   : Nat := 0
  cause    : Nat := 0
  deriving DecidableEq, Repr
/-! ### Print engine and fixer (chapter 16) -/

/-- A fusion input on its way to the print engine (R594): its source bit, channel, stamp and values. -/
structure PeInput where
  src     : Nat
  ch      : Nat
  stamp   : Nat
  /-- voltage and current of a sample; speed or reading of a motion input -/
  v       : Int := 0
  i       : Int := 0
  /-- temperature -/
  t       : Int := -32768
  /-- it may enter fusion (R601) -/
  usable  : Bool := true
  /-- REF_SUSPECT of its MI (R601) -/
  suspect : Bool := false
  /-- LATE, judged by the MI (R595) -/
  late    : Bool := false
  /-- for a CAN frame, which no channel's settings have chosen yet: bus × 32 + filter and its data bytes (R601) -/
  box     : Nat := 0
  data    : List Byte := []
  deriving DecidableEq, Repr

/-- What one channel gives to the print of an epoch (R594, R598, R612, R613). -/
structure PeLedger where
  ch      : Nat
  gang    : Bool
  gen     : Nat
  stream  : Nat
  expo    : Int
  /-- LEDGER_OVERRUN's excess in mC after the last START or PRESET_EXPOSURE of the epoch -/
  overrun : Option Int := none
  /-- a START or PRESET_EXPOSURE acted, and the value of the latest preset -/
  cleared : Bool := false
  anchor  : Option Int := none
  /-- V_STAGE in µV -/
  stage   : Option Rat := none
  map     : Word := 0
  cap     : Nat := 0
  deriving DecidableEq, Repr

/-- An epoch that has ended and whose prints are still to be made, with the settings in force at its end (R593, R625). -/
structure PeEpoch where
  start   : Nat
  endT    : Nat
  no      : Nat
  config  : Word
  dispute : Word
  tol     : Word
  motion  : Word
  path    : Nat
  ocv     : List Int
  /-- domain 9 was ON for the whole epoch -/
  on      : Bool := true
  chans   : List PeLedger
  /-- the present channels that have no print for the epoch -/
  others  : List PeLedger := []
  /-- channels whose pair changed form in the epoch (R627) -/
  ganged  : List Nat
  deriving DecidableEq, Repr

/-- A value held for later prints (R604): value, confidence, and the epochs it has been held. -/
structure Held where
  v : Int
  c : Nat
  k : Nat := 0
  deriving DecidableEq, Repr

/-- What the print engine keeps of a channel. -/
structure PeCh where
  v       : Option Held := none
  i       : Option Held := none
  t       : Option Held := none
  soc     : Option Held := none
  contact : Option Held := none
  /-- time of settled-rest conditions in a row, ns (R609) -/
  rest    : Nat := 0
  /-- Σ |exposure change| since the latest anchor, and the exposure it was last taken at, nC (R610) -/
  q       : Nat := 0
  base    : Int := 0
  dispute : Bool := false
  /-- consecutive settled-rest epochs beyond DISPUTE_SOC (R612) -/
  runDis  : Nat := 0
  /-- per source bit: consecutive outlying epochs, consecutive near epochs, and suspect (R607) -/
  out     : Tab Nat := []
  near    : Tab Nat := []
  suspect : Tab Unit := []
  deriving DecidableEq, Repr

/-- The print engine. -/
structure PrintEngine where
  ch      : Tab PeCh := []
  /-- inputs on their way, and inputs kept for epochs not yet printed -/
  coming  : List PeInput := []
  kept    : List PeInput := []
  epochs  : List PeEpoch := []
  /-- end of the last epoch printed -/
  printed : Nat := 0
  lastNo  : Nat := 0
  ocvBad  : Bool := false
  /-- the latest CAN temperatures: stamp and value, keyed by (bus × 32 + filter) × 16 + word (R601) -/
  canT    : Tab (Nat × Int) := []
  /-- the latest epochs printed: start, end and EPOCH_NO, newest first (R302, R595) -/
  past    : List (Nat × Nat × Nat) := []
  /-- epoch numbers whose first late input has been reported, newest first -/
  lateSaid : List Nat := []
  deriving DecidableEq, Repr

/-- A precise voltage sample a metric uses, with the lowest confidence of the prints that contain it (R619). -/
structure FxSample where
  v    : Int
  t    : Nat
  conf : Nat := 255
  deriving DecidableEq, Repr

/-- A DCIR measurement (R618): value in µΩ, and the stamps of its samples. -/
structure FxDcir where
  val  : Int
  t1   : Nat
  t2   : Nat
  conf : Nat := 255
  deriving DecidableEq, Repr

/-- A DCIR measurement that waits for its second sample: instant of the change, its size in µA, and the first sample. -/
structure FxWait where
  at_    : Nat
  di     : Int
  v      : Int
  t      : Nat
  /-- lowest confidence of the prints that contain the first sample (R619) -/
  conf   : Nat := 255
  deriving DecidableEq, Repr

/-- What the fixer has gathered of one run (R617–R620). -/
structure FxRun where
  gen      : Nat := 0
  endAt    : Nat := 0
  why      : EndReason := .none
  /-- discharge steps: their number, charge in nC, energy in µJ, and their intervals -/
  nDis     : Nat := 0
  cap      : Int := 0
  energy   : Int := 0
  disAt    : List (Nat × Nat) := []
  capConf  : Nat := 255
  /-- the running step: its start, whether it is a REST, lowest I_CONF of prints that overlap it, and its samples -/
  stepAt   : Nat := 0
  rest     : Bool := false
  stepConf : Nat := 255
  restLast : Option FxSample := none
  restMin  : Option FxSample := none
  meas     : List FxDcir := []
  waits    : List FxWait := []
  ocv      : Option FxSample := none
  /-- SELF_DIS and the two samples it is formed from -/
  sd       : Option (Int × FxSample × FxSample) := none
  dispute  : Bool := false
  deriving DecidableEq, Repr

/-- A grade as stored (R306, R617, R619, R624). -/
structure Grade where
  gen      : Nat
  cap      : Option Int
  energy   : Option Int
  dcir     : Option Int
  ocv      : Option Int
  sd       : Option Int
  /-- confidences of CAPACITY and ENERGY, DCIR, OCV, SELF_DIS -/
  capConf  : Nat
  dcirConf : Nat
  ocvConf  : Nat
  sdConf   : Nat
  /-- DISPUTE, INCOMPLETE's part that the run's end gave, and the SRC_SEQ of the latest grade record -/
  dispute  : Bool
  early    : Bool
  seq      : Nat
  deriving DecidableEq, Repr

/-- The fixer. -/
structure Fixer where
  runs   : Tab FxRun := []
  /-- runs that have ended and await their grade -/
  ended  : List (Nat × FxRun) := []
  grade  : Tab Grade := []
  /-- the bracketing table in force and its CRC-32; `none` before the first (R621) -/
  table  : Option (List (List Byte)) := none
  crc    : Word := 0
  last   : Nat := 0xFFFF
  deriving DecidableEq, Repr
/-! ### Shutter (chapter 14) -/

/-- One channel at the shutter. -/
structure ShCh where
  /-- request word latched in the running round: ENV_A, PRIO, REQ_W (R507) -/
  word    : Option (Nat × Nat × Int) := none
  /-- a word has come from this CI in the running round, for the CI watchdog (R507, R804) -/
  seen    : Bool := false
  /-- the last request word's ENV_A, PRIO and REQ_W -/
  env     : Nat := 0
  prio    : Nat := 0
  req     : Int := 0
  grant   : Int := 0
  /-- rounds left in the lease, and the Jikan time of its end (R512, R514) -/
  lease   : Nat := 0
  leaseEnd : Nat := 0
  age     : Nat := 0
  /-- the request decided in the last round, the consecutive rounds in which it stood unmet at the same REQ_W, and STARVED
  raised (R531) -/
  prev    : Int := 0
  same    : Nat := 0
  starved : Bool := false
  /-- the grant word on its way to the CI -/
  sent    : Option Int := none
  /-- consecutive rounds without a request word from an ON CI (R804 cause 0x12) -/
  missed  : Nat := 0
  deriving DecidableEq, Repr

/-- Shutter modes (R515). -/
inductive ShMode where
  | standalone | rack | holding | floor
  deriving DecidableEq, Repr

/-- The shutter. -/
structure Shutter where
  ch      : Tab ShCh := []
  mode    : ShMode := .standalone
  /-- the node has joined a ring since device reset (R821), and has had a valid rack grant since it last sent JOIN (R518) -/
  joined  : Bool := false
  granted : Bool := false
  missed  : Nat := 0
  /-- floor cap: where the ramp started, its rounds in all, the clock count of its start and the rounds gone since (R516) -/
  capFrom : Int := 0
  capLen  : Nat := 0
  capAt   : Nat := 0
  capGone : Nat := 0
  rot     : Nat := 0
  rackRot : Nat := 0
  /-- Jikan time of the last round and beat boundary taken -/
  roundAt : Nat := 0
  beatAt  : Nat := 0
  /-- that round boundary was taken for a report (R580), and that beat boundary for a round (R528), before its own command came -/
  early   : Bool := false
  beatEarly : Bool := false
  /-- the last valid rack grant word (SH_GRANT_IN), the beat it arrived in (R547, R578), whether one came in the running beat, and the
  NET_GRANT that acts -/
  grantIn : Word := 0
  gotBeat : Option Nat := none
  gotOne  : Bool := false
  /-- that grant came after the boundary it should act from (R554) -/
  late    : Bool := false
  net     : Int := 0
  /-- REPORT fields of the latest round boundary (R519), and NET_REQ as last reported -/
  level   : Nat := 7
  netReq  : Int := 0
  reported : Int := 0
  /-- held grants lay outside the range at the last beat boundary (R524) -/
  ranged  : Bool := false
  deriving DecidableEq, Repr
/-! ### Encoders and the sensor port (chapter 20) -/

/-- One encoder (R743–R758, R768–R769).  Times are Jikan times. -/
structure Encoder where
  /-- 0 off, 1 LIMIT, 2 FREE, 3 SSI, 4 BiSS-C -/
  mode    : Nat := 0
  filterN : Nat := 1
  lo      : Int := 0
  hi      : Int := 0
  count   : Int := 0
  index   : Int := 0
  speed   : Int := 0
  /-- accepted levels of A and B -/
  a       : Bool := false
  b       : Bool := false
  /-- direction and time of the last counted edge -/
  dir     : Int := 0
  edgeAt  : Option Nat := none
  /-- reference edge, and the latest usable edge after it: count and time (R749) -/
  ref     : Option (Int × Nat) := none
  used    : Option (Int × Nat) := none
  /-- the next usable edge becomes the reference (R749) -/
  fresh   : Bool := true
  /-- the filter clocks, in units of 5 ns of Jikan time, of the latest accepted change of A or B and of Z (R765), and whether the latch of
  `latchAt` was taken for an edge before its own command came -/
  abAt    : Option Nat := none
  zAt     : Option Nat := none
  latchEarly : Bool := false
  latchAt : Nat := 0
  /-- capture: start instant and count, and the instant of the last stop event that had no start (R752, R753) -/
  started : Option (Nat × Int) := none
  stopAt  : Option Nat := none
  capture : Nat := 0
  coincident : Bool := false
  /-- last good serial frame: position and instant; the latest frame pair: change and time (R758) -/
  frameAt : Nat := 0
  pos     : Option (Nat × Nat) := none
  pair    : Option (Int × Nat) := none
  fails   : Nat := 0
  /-- lines in fault: bit 0 A, 1 B, 2 Z -/
  fault   : Nat := 0
  stale   : Bool := false
  deriving DecidableEq, Repr

/-- The sensor port (R759–R764). -/
structure SensorPort where
  /-- schedule entries of 32 bytes as stored, and those that run -/
  entries : List (List Byte) := []
  valid   : Nat := 0
  /-- Jikan time of the last due instant taken -/
  dueAt   : Nat := 0
  /-- occurrences that wait for the port, oldest first -/
  waiting : List Nat := []
  /-- the transfer under way: entry, its bytes and its poll instant -/
  busy    : Option (Nat × List Byte × Nat) := none
  /-- Jikan time from which CS# may fall again -/
  freeAt  : Nat := 0
  /-- latest result and poll instant of each entry -/
  value   : Tab (Int × Nat) := []
  deriving DecidableEq, Repr

/-- Encoders and sensor port. -/
structure Encoders where
  en : Tab Encoder := []
  sn : SensorPort := {}
  deriving DecidableEq, Repr
/-! ### Fixture buses (chapter 19) -/

/-- Controller states of CN_STATUS.STATE beside the sleep ones. -/
inductive CanState where
  | off | integrating | active | passive | busOff
  deriving DecidableEq, Repr

/-- How far a bus is asleep (R725). -/
inductive CanSleep where
  | awake | entry | asleep
  deriving DecidableEq, Repr

/-- A filter (R718); `id` has IDE in bit 29.  [DEDUCED, unsafe: log 196] -/
structure CanFilter where
  action : Nat := 0
  id     : Nat := 0
  mask   : Nat := 0
  data   : Nat := 0
  dmask  : Nat := 0
  deriving DecidableEq, Repr

/-- A receive filter's mailbox (R722). -/
structure Mailbox where
  frame : CanFrame
  at_   : Nat
  count : Nat
  deriving DecidableEq, Repr

/-- One bus. -/
structure CanBus where
  st      : CanState := .off
  /-- CN_CONFIG.SLEEP, and how far it has taken effect -/
  sleep   : Bool := false
  depth   : CanSleep := .awake
  /-- MODE, CN_NBT and CN_DBT in force (R715) -/
  mode    : Nat := 0
  nbt     : Word := 0x021F0808
  dbt     : Word := 0x010E0505
  tec     : Nat := 0
  rec_    : Nat := 0
  tdc     : Nat := 0
  /-- a frame is to be sent, and the clock count of its first attempt (R282, R716) -/
  sending : Bool := false
  tryAt   : Option Nat := none
  filters : Tab CanFilter := []
  boxes   : Tab Mailbox := []
  /-- RX_OVERRUN was raised since the places were last empty (R724) -/
  overSaid : Bool := false
  /-- a dominance was reported and has not ended (R738) -/
  dominant : Bool := false
  txdStop : Bool := false
  /-- the safelight's decoder: armed, frame error counter, and the last frame found valid (R728–R730) -/
  armed   : Bool := false
  fec     : Nat := 0
  heard   : Option CanFrame := none
  /-- the decoder is inside a frame: the filters in force when it sampled the first identifier bit (R719, R736) -/
  inFrame : Option (Tab CanFilter) := none
  /-- the wake record (R731) -/
  cause   : Nat := 0
  wfilter : Nat := 0
  wframe  : Option CanFrame := none
  wakes   : Nat := 0
  /-- WAKE is to be raised when domain 13 is next ON (R732) -/
  wakeDue : Bool := false
  deriving DecidableEq, Repr
/-! ### Easel and wand (chapters 17 and 18) -/

/-- What a wand word waits for (R686): a deadline or none, and a period mean or an input level. -/
inductive WandWait where
  | level (le : Bool) (i : Int) (until_ : Nat)
  | input (n : Nat) (level : Bool) (until_ : Option Nat)
  deriving DecidableEq, Repr

/-- One valve driver of the field die (R678–R708).  [DESIGN CHOICE, unsafe: log 175] -/
structure Valve where
  /-- program words; an unlisted one is 0x0000_0000 -/
  prog    : Tab Word := []
  ptr     : Nat := 0
  entry   : Nat := 0
  cfg     : Word := 0x00190403
  /-- the pair stands (on the even driver), and a PAIR value that waits for the currents to fall (R680) -/
  pair    : Bool := false
  pairDue : Option Bool := none
  /-- RUN bit in force -/
  run     : Bool := false
  running : Bool := false
  /-- a run has ended and its current has not fallen below 10 mA (R692) -/
  ending  : Bool := false
  latched : Bool := false
  /-- the driver keeps its safe state (R698) -/
  inSafe  : Bool := false
  cause   : Nat := 0
  code    : Nat := 0
  pc      : Nat := 0
  c       : Bool := false
  loop    : Nat := 0
  fast    : Bool := false
  /-- clock counts of the run's start and of the next word's start -/
  startAt : Nat := 0
  nextAt  : Nat := 0
  wait    : Option WandWait := none
  /-- target the program has set, and a ramp to it: start value, start and duration -/
  goal    : Int := 0
  ramp    : Option (Int × Nat × Nat) := none
  /-- dither: amplitude in mA, period in ns, and start -/
  dither  : Option (Nat × Nat × Nat) := none
  /-- target in force with dither, mean of the last regulation period, and its duty in per mille -/
  target  : Int := 0
  mean    : Int := 0
  duty    : Nat := 0
  /-- since when the target has been above, and at or below, 2,000 mA (R685) -/
  highAt  : Option Nat := none
  lowAt   : Option Nat := none
  capped  : Bool := false
  /-- the coil carries 10 mA or more with every leg off (R683), and since when a turn-on is held (R696) -/
  clamping : Bool := false
  heldAt  : Option Nat := none
  /-- HELD_CLAMP of the diagnostic word, and the FSEQ of the latest uplink that carried it (R689, R696) -/
  heldBit : Bool := false
  heldSeq : Option Nat := none
  openAt  : Option Nat := none
  onRes   : Nat := 0xF
  offRes  : Nat := 0xF
  tests   : Nat := 0
  /-- clock counts of the last run's end, of the driver's last becoming IDLE, of its last off-state test and of the end of its last regulation
  period (R681, R694, R701) -/
  endAt   : Option Nat := none
  idleAt  : Option Nat := none
  testAt  : Option Nat := none
  regAt   : Option Nat := none
  /-- clock count and leg of the latest trip (R704) -/
  tripAt  : Option (Nat × Nat) := none
  deriving DecidableEq, Repr

/-- One protected switch (R660–R671).  [DESIGN CHOICE, unsafe: log 175] -/
structure Switch where
  on       : Bool := false
  /-- clock count at which the clamp conducts after a turn-off; none where nothing clamps (R661). -/
  clampAt  : Option Nat := none
  /-- clock count since which a turn-on is held (R663) -/
  heldAt   : Option Nat := none
  latched  : Bool := false
  thermal  : Bool := false
  /-- the junction has not fallen below 145 °C since its last thermal turn-off -/
  hot      : Bool := false
  limiting : Bool := false
  openLoad : Bool := false
  shortSup : Bool := false
  /-- clock counts of restarts, newest first -/
  restarts : List Nat := []
  /-- measured current in 2 mA units -/
  current  : Nat := 0
  /-- HELD_CLAMP of the diagnostic word, and the FSEQ of the latest uplink that carried it (R639, R663) -/
  heldBit  : Bool := false
  heldSeq  : Option Nat := none
  deriving DecidableEq, Repr

/-- One input of the field die (R656, R657): what the samples saw last at its terminal, in mV and µA; the level they judge it to have;
and how many samples in a row have judged it so. -/
structure FieldInput where
  mv    : Int := 0
  ua    : Nat := 0
  level : Bool := false
  run   : Nat := 0
  deriving DecidableEq, Repr

/-- A downlink frame (R636). -/
structure DownFrame where
  seq     : Nat
  sw      : Nat
  vd      : Nat
  ack     : Nat
  addr    : Nat
  data    : Word
  commit  : Bool
  safeNow : Bool
  first   : Bool
  deriving DecidableEq, Repr

/-- An uplink frame (R637) and the Jikan time it started. -/
structure UpFrame where
  seq   : Nat
  inp   : Nat
  ack   : Nat
  addr  : Nat
  data  : Word
  flags : Nat
  swOn  : Nat
  at_   : Nat
  /-- cause of the safe state, which SAFE_ENTER reports -/
  cause : Nat
  deriving DecidableEq, Repr

/-- The field die.  [DESIGN CHOICE, unsafe: log 175] -/
structure FieldDie where
  powered : Bool := false
  /-- clock count of power-up (R646, R694) -/
  poweredAt : Nat := 0
  /-- a downlink has been judged good since power-up, and the clock count of the last HELLO uplink (R649) -/
  joined  : Bool := false
  helloAt : Option Nat := none
  /-- the configuration push has acted (R650) -/
  pushed  : Bool := false
  /-- slots staged of the batch under way, and the FSEQ of its last frame (R643) -/
  staged  : Option (List (Nat × Word)) := none
  lastSeq : Nat := 0
  /-- FSEQ of the last good downlink, and downlink periods in a row without a good frame (R652) -/
  goodSeq : Nat := 0
  missed  : Nat := 0
  upSeq   : Nat := 0
  rot     : Nat := 0
  safe    : Bool := false
  cause   : Nat := 0
  /-- the safe states taken at the latest safe entry (R651) -/
  heldSafe : Word := 0
  /-- values in force -/
  safeState : Word := 0
  inType  : Word := 0x00FFFFFF
  inWb    : Word := 0
  inFilter : Word := 3
  swConfig : Word := 0
  sw      : Nat := 0
  vd      : Nat := 0
  /-- accepted input levels and broken inputs -/
  level   : Nat := 0
  broken  : Nat := 0
  inputs  : Tab FieldInput := []
  /-- supply conditions: bit 0 REVERSE, 1 FGND_LOSS, 2 SURGE, 3 UNDERVOLT -/
  supply  : Nat := 0
  /-- VFIELD in 10 mV and die temperature in °C -/
  vfield  : Int := 0
  temp    : Int := 0
  swEvent : Bool := false
  switches : Tab Switch := []
  valves  : Tab Valve := []
  deriving DecidableEq, Repr

/-- Link states (R648); OFF follows from domain 18. -/
inductive EzLink where
  | powering | notReady | ready | lost
  deriving DecidableEq, Repr

/-- A batch whose last frame has been sent: its number, slots, the FSEQ of that frame, and the frames sent since (R644). -/
structure SentBatch where
  id    : Nat
  slots : List (Nat × Word)
  seq   : Nat
  age   : Nat := 0
  deriving DecidableEq, Repr

/-- A batch being sent: its number, all its slots, and how many have been sent. -/
structure Batch where
  id    : Nat
  slots : List (Nat × Word)
  done  : Nat := 0
  deriving DecidableEq, Repr

/-- A valve command that waits for the next frame boundary: its ring, its acceptance, its slots, and the run bit it sets or
clears. -/
structure ValveCmd where
  ring  : Nat
  at_   : Nat
  slots : List (Nat × Word)
  run   : Option (Nat × Bool)
  deriving DecidableEq, Repr

/-- The easel: bridge, link and field die. -/
structure Easel where
  link    : EzLink := .powering
  hellos  : Nat := 0
  acks    : Nat := 0
  pushId  : Option Nat := none
  pushAck : Bool := false
  /-- FSEQ of the next downlink, Jikan time of the last boundary taken, and the frames under way -/
  seq     : Nat := 0
  frameAt : Nat := 0
  down    : Option DownFrame := none
  up      : Option UpFrame := none
  cur     : Option Batch := none
  again   : List SentBatch := []
  sent    : List SentBatch := []
  nextId  : Nat := 0
  cmds    : List ValveCmd := []
  /-- run bits, and those whose setting has been acknowledged (R691) -/
  run     : Nat := 0
  runAck  : Nat := 0
  /-- last good uplink: FSEQ, IN, SW_ON; uplink periods in a row without one -/
  upSeq   : Nat := 0
  inp     : Option Nat := none
  stale   : Bool := true
  swOn    : Nat := 0
  missed  : Nat := 0
  /-- SAFE reported; a safe entry awaits its release (R653, R655); a loss of barrier power was not reported (R674) -/
  safeRep : Bool := false
  safeHeld : Bool := false
  lossDue : Bool := false
  /-- slot 0x06 is due in the next batch; the batch that carries it; whether that batch's last frame has left (R653, R655) -/
  release : Bool := false
  relId   : Option Nat := none
  relOut  : Bool := false
  /-- Jikan time, MASK and STATE of the latest SWITCH_SET accepted (R665) -/
  lastSet : Option (Nat × Nat × Nat) := none
  safeNow : Bool := false
  /-- latest uplink slot words by address -/
  slots   : Tab Word := []
  field   : FieldDie := {}
  deriving DecidableEq, Repr
/-! ### Measurement islands (chapter 12) -/

/-- Calibration states (R441); a window under way is `Meas.winAt`. -/
inductive CalState where
  | notDue | due | forced
  deriving DecidableEq, Repr

/-- The sums a lower-rate sample is formed from (R428): number and sums of V, I, I_FAST and temperature, and the OR of the
flags as bits of R301. -/
structure MeasAcc where
  n     : Nat := 0
  v     : Int := 0
  i     : Int := 0
  iFast : Int := 0
  tN    : Nat := 0
  t     : Int := 0
  flags : Nat := 0
  deriving DecidableEq, Repr

/-- One measurement island.  [DESIGN CHOICE, unsafe: log 118] -/
structure Meas where
  /-- clock count of the last completed calibration window; `none` when there is none (CAL_AGE_S reads 0xFFFF) -/
  calAt     : Option Nat := none
  cal       : CalState := .notDue
  /-- R460's request at power-up stands -/
  asking    : Bool := false
  /-- the window under way is a forced one (or R460's), which only CH_PARK or a fence ends -/
  forcedWin : Bool := false
  /-- clock count of the ladder grant of the window under way -/
  winAt     : Option Nat := none
  /-- clock counts from and to which the modulators' inputs were last switched to internal nodes (R443) -/
  nodes     : Option (Nat × Nat) := none
  /-- decimator values whose windows have not ended (R427) -/
  dec       : List DecVal := []
  /-- the latest guard converter voltage, and the sum and number of those of the running window (R432, R439, R455) -/
  guard     : Int := 0
  guardSum  : Int := 0
  guardN    : Nat := 0
  /-- clock count before which no request is made (R446) -/
  holdoff   : Nat := 0
  fails     : Nat := 0
  calBad    : Bool := false
  refLost   : Bool := false
  refSuspect : Bool := false
  calibrated : Bool := false
  /-- a window has completed or been judged since device reset (R454) -/
  judged    : Bool := false
  errPpm    : Int := 0
  /-- autocalibration corrections in use: gain in ppm and offset, per chain 0 voltage, 1 shunt, 2 thermistor -/
  gainPpm   : Tab Int := []
  offset    : Tab Int := []
  /-- a calibration window, completed or abandoned, overlapped the running 250 µs window (R440) -/
  gapSeen   : Bool := false
  /-- latest completed 250 µs sample since ON -/
  last      : Option Sample := none
  /-- 250 µs samples gathered for each rate, 0 being 1 Hz (R428) -/
  acc       : Tab MeasAcc := []
  /-- Jikan time of the last window end taken, and of ON: a window that began earlier is incomplete (R427, R460) -/
  endAt     : Nat := 0
  onAt      : Nat := 0
  /-- clock count of the latest fast voltage sent, or of the domain's coming ON (R804, R820) -/
  fastAt    : Nat := 0
  /-- the next negative is the first of its stream generation (R460) -/
  streamStart : Bool := true
  thOpen    : Bool := false
  thShort   : Bool := false
  /-- failed modulators: bit 0 voltage, 1 shunt, 2 thermistor (R457) -/
  modFail   : Nat := 0
  runPath   : Nat := 0
  pathSaid  : Bool := false
  runGang   : Nat := 0
  gangSaid  : Bool := false
  /-- last precise temperature, for a gap -/
  lastTemp  : Int := -32768
  /-- SNAPSHOT waits for the first sample (R430) -/
  snapWait  : Bool := false
  deriving DecidableEq, Repr

/-- The reference ladder (R447): MIs in places, and the MI last granted. -/
structure Ladder where
  places : List Nat := []
  last   : Nat := 63
  deriving DecidableEq, Repr
/-! ### Stop bath (chapter 22) -/

/-- Sources of a stop (R792), in SB_STATUS's bits; SB_LAST_STOP and the events carry the bit number + 1. -/
inductive StopSource where
  | pin | command | ring | internal
  deriving DecidableEq, Repr

/-- A stop as it enters (R791, R792): its class, its source with the cause or the sending node, and whether a rack STOP was asked and not
sent (R796). -/
structure StopEntry where
  cls    : Nat
  src    : StopSource
  x      : Nat
  unsent : Bool
  deriving DecidableEq, Repr

/-- The stop bath. -/
structure StopBath where
  /-- class of the stop in force, 0 for none (R791) -/
  cls       : Nat := 0
  /-- sources of the stop in force: bit 0 pin, 1 command, 2 ring, 3 internal -/
  sources   : Nat := 0
  /-- internal causes among the sources that have not ended (R799) -/
  causes    : List Nat := []
  pinLow    : Bool := false
  /-- the stops that entered at clock count `freshAt`, and class, sources and causes before them (R816, R817) -/
  fresh     : List StopEntry := []
  freshAt   : Nat := 0
  oldCls    : Nat := 0
  oldSources : Nat := 0
  oldCauses : List Nat := []
  /-- SB_LAST_STOP and SB_STOP_TIME -/
  lastStop  : Word := 0
  stopTime  : Nat := 0
  /-- VBUSS as last sampled, mV (R395) -/
  vbus      : Nat := 0
  deriving DecidableEq, Repr

/-! ### On-chip memories (chapter 21) -/

/-- The latest read of a macro that found its word unexposed or uncorrectable: word, clock count, whether the scrubber made it and whether
it became the latched entry (R780, R786). -/
structure MemHit where
  word    : Nat
  at_     : Nat
  scrub   : Bool := false
  latched : Bool := true
  deriving DecidableEq, Repr

/-- The memory periphery.  Word contents live with their owners; here stand the latches, the scrubber, the write-backs that wait
and the fuse records. -/
structure Memories where
  /-- latched word index of the first unexposed and the first uncorrectable read, per macro (R780) -/
  unexp   : Tab Nat := []
  ue      : Tab Nat := []
  /-- the latest such reads per macro (R786) -/
  unexpHit : Tab MemHit := []
  ueHit   : Tab MemHit := []
  /-- words with an uncorrectable error that no write of the whole word has replaced: macro and word, macros 0x00–0xBF (R776) -/
  bad     : List (Nat × Nat) := []
  /-- corrected words that wait to be written back: macro and word (R776) -/
  back    : List (Nat × Nat) := []
  scrubbing : Bool := false
  /-- the word the scrubber reads next -/
  smacro  : Nat := 0
  sword   : Nat := 0
  /-- clock count of the scrubber's latest access (R782) -/
  scrubAt : Nat := 0
  passes  : Nat := 0
  corrected : Nat := 0
  /-- Jikan time of the last pass start point taken, and a start that waits for the running pass (R781) -/
  passAt  : Nat := 0
  passDue : Bool := false
  /-- fuse records per macro; `none` has a parity error (R784).  An unlisted macro is unrepaired and good. -/
  fuses   : Tab (Option Word) := []
  deriving DecidableEq, Repr
/-! ### Safelight and power (chapters 04, 23, 25 and 26) -/

/-- What the safelight reports of the main power (R825): OFF, PARKED, or STANDBY and RUNNING. -/
inductive Power where
  | off | parked | on
  deriving DecidableEq, Repr

/-- How far the park sequence has come (R830): waiting for the beat boundary, draining the spools, or powering down the last domains
before the tick edge. -/
inductive ParkStage where
  | beat | drain | edge
  deriving DecidableEq, Repr

/-- A seal log entry (R125); KIND 1 POWER_ON, 2 BREAK, 3 RESTORE. -/
structure SealEntry where
  ticks : Nat
  kind  : Nat
  state : Nat
  seq   : Nat
  deriving DecidableEq, Repr

/-- Domain 0, beside the registers marked held. -/
structure Safelight where
  /-- the 48-bit tick count as of the latest tick-timed command (R109, R126) -/
  tick     : Nat := 0
  /-- every main rail has held its minimum for 1 ms, and has not been lost since (R876) -/
  vcore    : Bool := false
  /-- codes of the main rails below their operating minimum: a level of the board that nothing of the device changes (R876, R888) -/
  low      : List Nat := []
  /-- the 1 ms count of R876 runs, and the clock count of its start -/
  counting : Bool := false
  countAt  : Nat := 0
  xtalOk   : Bool := true
  /-- XTAL_FAIL was raised since the last park (R838); it awaits the next device reset (R845) -/
  xtalFailed : Bool := false
  xtalDue  : Bool := false
  /-- SL_XTAL_MEAS in 0.1 ppm; `none` while VALID is clear -/
  meas     : Option Int := none
  /-- SL_WAKE_CAUSE's source bits and FIRST, and the tick count at the last wake -/
  wake     : Nat := 1
  first    : Nat := 0
  wakeTick : Nat := 0
  /-- a wake is pending (R831, R834), and sources accepted during the park sequence (R840) -/
  pending  : Bool := false
  heldOver : List Nat := []
  /-- SL_PARK_INFO and the park record (R830, R838) -/
  parkValid : Bool := false
  parkCause : Nat := 0
  restored : Bool := false
  lost     : Nat := 0
  parkJt   : Nat := 0
  parkTick : Option Nat := none
  parkMeas : Int := 0
  /-- the alarm has matched since the last park or setting -/
  alarmed  : Bool := false
  /-- POWER_LOSS awaits the next device reset (R844), and the rail of the last loss (R889) -/
  lossDue  : Bool := false
  lossRail : Nat := 0
  /-- the park sequence, and the clock count of its start (R830) -/
  parking  : Option ParkStage := none
  parkAt   : Nat := 0
  /-- clock count of reset release, and RUNNING reached since (R826, R860) -/
  resetAt  : Nat := 0
  running  : Bool := false
  /-- parked time in ms that WOKE is to report; `none` without a park record (R849) -/
  woke     : Option Nat := none
  /-- Jikan time waits to be restored (R838) -/
  restoreDue : Bool := false
  /-- PRES# is held: it completed 656 low ticks and has not been high for 656 since; a device reset leaves it (R110, R134) -/
  button   : Bool := false
  /-- the safelight's own seal state and last sample (R116, R134) -/
  seal_    : Option Bool := none
  sample   : Option Bool := none
  /-- the seal log, the number of entries written, and the newest entry's index (R124–R126) -/
  log      : Tab SealEntry := []
  logged   : Nat := 0
  deriving DecidableEq, Repr

/-- Die temperature and life (R895, R906, R917, R918): TJ and TJ_PEAK in 0.01 °C, ms not yet counted as a second, the residue of
equivalent seconds × 10^18, and the clock count of the last conversion. -/
structure Thermal where
  tj   : Option Int := none
  peak : Option Int := none
  ms   : Nat := 0
  eq   : Nat := 0
  convAt : Nat := 0
  deriving DecidableEq, Repr
/-- The whole machine.  [DESIGN CHOICE, unsafe: log 176] -/
structure State where
  variant : Variant := .xf6408
  /-- the DBGEN fuse is blown (R944) -/
  dbgen   : Bool := false
  power   : Power := .on
  regs    : Regs := {}
  sheet   : Sheet := {}
  pres    : Presence := {}
  doms    : Tab Dom := []
  /-- crossings between domains, keyed by 256 × sender + receiver (R147) -/
  xings   : Tab Crossing := []
  tk      : Timekeeper := {}
  hl      : HostLink := {}
  rg      : Rings := {}
  sp      : Spools := {}
  ar      : Archive := {}
  chs     : Tab Chan := []
  mis     : Tab Meas := []
  /-- stream generations of the spool ports of CIs (key n) and MIs (key 64 + n) -/
  streams : Tab Nat := []
  ladder  : Ladder := {}
  sh      : Shutter := {}
  jl      : Jl := {}
  pe      : PrintEngine := {}
  fx      : Fixer := {}
  en      : Encoders := {}
  cn      : Tab CanBus := []
  ez      : Easel := {}
  sb      : StopBath := {}
  mm      : Memories := {}
  sl      : Safelight := {}
  th      : Thermal := {}
  /-- everything the block has sent, newest first -/
  tx      : List Tx := []
  /-- the number of open values used so far (the model's own field; no statement rests on its value) -/
  free    : Nat := 0
  /-- commands that wait, first in, first out -/
  pending : List Instr := []
  deriving DecidableEq, Repr

/-- A domain whose power-up has just begun (R140). -/
def Dom.rising : Dom := { st := .up, phase := .rail, target := true }

/-- The machine right after reset: the VSAFE rails have been applied and VCORE has been entered for the first time (R827, R847, R876), so the
safelight's clock stands at zero, its log holds POWER_ON (R126), the wake cause is POWER (R847), domains 1, 16 and 19 power up (R177), the
contact sheet's reset check runs (R64) and every other domain is off.  Every register holds its reset value: a table lists only what differs
from it.
[DESIGN CHOICE, unsafe: log 1; DEDUCED, unsafe: log 2; DESIGN CHOICE, unsafe: log 48; DESIGN CHOICE, unsafe: log 176] -/
def State.reset : State :=
  { sheet := { checking := true, checked := false }
    doms  := [(1, Dom.rising), (16, Dom.rising), (19, Dom.rising)]
    sl    := { wake := 1, vcore := true, log := [(0, { ticks := 0, kind := 1, state := 0, seq := 0 })], logged := 1 } }

/-- Why the machine stops.  No command of this block stops it: the spec gives every command an effect, and a command whose
conditions do not hold changes nothing. -/
inductive Fault where
  /-- Raised by nothing.  Safe. -/
  | none
  deriving DecidableEq, Repr

/-- Why a command has no meaning. -/
inductive Refusal where
  /-- Raised by `exec` for a command whose meaning is not written, named as the table names it.  Safe. -/
  | notModelled (mnemonic : String)
  deriving DecidableEq, Repr

/-- What a meaning answers. -/
abbrev Out := Host.Outcome State Fault Refusal

end Sys2Proof.Machine
end

