-- ==== Sys2Proof/Machine/Ops.lean ====
section
/-!
DEFINITION. Machine/Ops.lean: the named operations every block shares: time, sparse tables, registers and counters, raising an
event, MSI-X messages, DMA requests, and the making of records.
-/
namespace Sys2Proof.Machine

/-! ### Time and open values -/

/-- Jikan time goes on by `d` ns (R151).  Of these, at most one in 64 come from slewing toward the ring's time (R159); the model
clock goes on by the rest.  [DESIGN CHOICE, unsafe: log 5; DESIGN CHOICE, unsafe: log 38; DESIGN CHOICE, unsafe: log 187] -/
def advance (d : Nat) (s : State) : State :=
  let acc := s.tk.slewAcc + d
  let lim : Int := (acc / 64 : Nat)
  let a := max (-lim) (min lim s.tk.slew)
  { s with tk := { s.tk with
      now := s.tk.now + d, run := s.tk.run + d, clk := s.tk.clk + ((d : Int) - a).toNat, slew := s.tk.slew - a,
      slewAcc := if s.tk.slew = 0 then 0 else acc % 64 } }

/-- Go on to Jikan time `t`; nothing where it has passed.  [DESIGN CHOICE, unsafe: log 6] -/
def advanceTo (t : Nat) (s : State) : State := advance (t - s.tk.now) s

/-- Go on to clock count `t`; nothing where it has passed.  Jikan time goes on by the same, and by what it slews meanwhile (R159). -/
def advanceClk (t : Nat) (s : State) : State :=
  let d := t - s.tk.clk
  let x := s.tk.slewAcc + d
  let a : Int := if 0 ≤ s.tk.slew then min s.tk.slew (x / 63 : Nat) else -(min s.tk.slew.natAbs (x / 65) : Nat)
  if d = 0 then s else advance (d + a).toNat s

/-- The next whole multiple of `p` after `t`. -/
def nextMultiple (p t : Nat) : Nat := (t / p + 1) * p

/-- The next open number of the run.  [DESIGN CHOICE, safe: log 10] -/
def openNat (s : State) : Nat := Config.freeNat s.free

/-- The next open choice of the run.  [DESIGN CHOICE, safe: log 10] -/
def openBool (s : State) : Bool := Config.freeBool s.free

/-- One open value has been used.  [DESIGN CHOICE, safe: log 10] -/
def spend (s : State) : State := { s with free := s.free + 1 }

/-! ### Places in the tables of State -/

def State.ch (s : State) (n : Nat) : Chan := s.chs.get n {}
def State.setCh (s : State) (n : Nat) (c : Chan) : State := { s with chs := s.chs.put n c }
def State.mi (s : State) (n : Nat) : Meas := s.mis.get n {}
def State.setMi (s : State) (n : Nat) (m : Meas) : State := { s with mis := s.mis.put n m }
def State.dom (s : State) (d : Nat) : Dom := s.doms.get d {}
def State.setDom (s : State) (d : Nat) (x : Dom) : State := { s with doms := s.doms.put d x }
def State.ring (s : State) (r : Nat) : Ring := s.rg.ring.get r {}
def State.setRing (s : State) (r : Nat) (x : Ring) : State := { s with rg := { s.rg with ring := s.rg.ring.put r x } }
def State.fn (s : State) (f : Nat) : Fn := s.hl.fns.get f {}
def State.setFn (s : State) (f : Nat) (x : Fn) : State := { s with hl := { s.hl with fns := s.hl.fns.put f x } }
def State.ld (s : State) (l : Nat) : Ld := s.hl.lds.get l {}
def State.setLd (s : State) (l : Nat) (x : Ld) : State := { s with hl := { s.hl with lds := s.hl.lds.put l x } }
def State.spool (s : State) (n : Nat) : Spool := s.sp.sp.get n {}
def State.setSpool (s : State) (n : Nat) (x : Spool) : State := { s with sp := { s.sp with sp := s.sp.sp.put n x } }
def State.strip (s : State) (n : Nat) : Strip := s.sp.ns.get n {}
def State.setStrip (s : State) (n : Nat) (x : Strip) : State := { s with sp := { s.sp with ns := s.sp.ns.put n x } }
def State.ext (s : State) (x : Nat) : Extent := s.ar.ext.get x {}
def State.setExt (s : State) (x : Nat) (e : Extent) : State := { s with ar := { s.ar with ext := s.ar.ext.put x e } }
def State.lease (s : State) (l : Nat) : Lease := s.ar.lease.get l {}
def State.setLease (s : State) (l : Nat) (x : Lease) : State := { s with ar := { s.ar with lease := s.ar.lease.put l x } }
def Chan.phase (c : Chan) (j : Nat) : Phase := c.phases.get j {}
def Chan.setPhase (c : Chan) (j : Nat) (p : Phase) : Chan := { c with phases := c.phases.put j p }

/-- A domain is ON. -/
def State.isOn (s : State) (d : Nat) : Bool := (s.dom d).st == .on

/-- Domain of CIn and of MIn (R135). -/
def ciDom (n : Nat) : Nat := 20 + n
def miDom (n : Nat) : Nat := 84 + n

/-- Channel numbers of the variant. -/
def State.channelList (s : State) : List Nat := List.range s.variant.channels

/-- Ch `n` is the odd channel of a standing gang, which is absent (R10, R272). -/
def State.gangOdd (s : State) (n : Nat) : Bool := n % 2 == 1 && (s.ch (n - 1)).gang

/-- Ch `n` is present: the variant has it and no gang has taken it (R10, R15). -/
def State.present (s : State) (n : Nat) : Bool := decide (n < s.variant.channels) && !s.gangOdd n

/-- Every present channel is dark. -/
def State.allDark (s : State) : Bool :=
  s.channelList.all fun n => !s.present n || (s.ch n).st == .dark

/-! ### Island time (R144, R153, R154, R170) -/

/-- Number of the cycle of domain `d`'s clock that stands at the model clock `clk`, by its ratio to the hub's 1 GHz (R144).  The phase
between two island clocks is undefined and nothing depends on it (R146).  [DESIGN CHOICE, unsafe: log 202] -/
def islandCycle (d clk : Nat) : Nat :=
  if 20 ≤ d ∧ d < 84 then clk * 4 / 5
  else if 84 ≤ d ∧ d < 148 then clk * 16384 / 100000
  else if d = 14 then clk / 5
  else clk

/-- What an island's clock has gained over `u` ns since its last correction: its FLL keeps it within 2 ns, so that a stamp stays within the
4 ns of R155.  [DESIGN CHOICE, unsafe: log 202] -/
def Dom.drift (x : Dom) (u : Nat) : Int := max (-2) (min 2 ((u : Int) * x.rate / 1000000000))

/-- The island's local Jikan time at the timekeeper's count `run` (R153): it holds still for `wait`, then goes on with the island's clock and
slews in its correction at no more than 1 ns per 32 ns.  It never decreases (R154).  [DESIGN CHOICE, unsafe: log 202] -/
def Dom.localAt (x : Dom) (run : Nat) : Nat :=
  let u := (((run - x.anchor : Nat) : Int) + x.drift (run - x.anchor)).toNat - x.wait
  let lim : Int := (u / 32 : Nat)
  ((x.base + u : Nat) + max (-lim) (min lim x.slew)).toNat

/-- The hub's own time as its records carry it: Jikan time, which a load may set back, while they never go back (R154, R161).
[DESIGN CHOICE, unsafe: log 202] -/
def hubTime (s : State) : Nat := max s.tk.floor s.tk.now

/-- Local Jikan time of domain `d` now. -/
def localTime (s : State) (d : Nat) : Nat := (s.dom d).localAt s.tk.run

/-- The time a record of domain `d` is stamped with now: the island's local time, the one before the correction in the island clock cycle of
a beacon correction (R153, R170); the hub's own time where the hub speaks for a domain that is not ON. -/
def stampOf (s : State) (d : Nat) : Nat :=
  if !s.isOn d then hubTime s
  else match (s.dom d).before with
    | some (c, t) => if c = islandCycle d s.tk.clk then t else localTime s d
    | none => localTime s d

/-! ### Registers -/

/-- BAR0 offset of a register of place `i` of a block (R47). -/
def Blk.addr (b : Blk) (i off : Nat) : Nat := b.base + i * b.stride + off

/-- The value last written to a register whose reset value is `d` (R90). -/
def State.wr (s : State) (key : Nat) (d : Word) : Word := s.regs.val.get key d

/-- The value acting now of a register whose written value acts at a boundary (R90). -/
def State.acting (s : State) (key : Nat) (d : Word) : Word := (s.regs.act.find key).getD (s.wr key d)

/-- The value of an EPOCH-coded register for a window or an input of `t`: the one in force before, where the latest EPOCH boundary replaced it
then or later (R434, R450, R593, R625). -/
def State.actingAt (s : State) (key : Nat) (d : Word) (t : Nat) : Word :=
  match s.regs.was.find key with
  | some (b, w) => if t ≤ b then w else s.acting key d
  | none => s.acting key d

/-- Key of the `sel`-th stored value of a selected register. -/
def selKey (a sel : Nat) : Nat := a + 0x100000 * sel

/-- The register at BAR0 offset `a`: its block, its place and its definition (R46, R56). -/
def findReg (v : Variant) (a : Nat) : Option (Blk × Nat × RegDef) :=
  allBlks.findSome? fun b =>
    if b.base ≤ a ∧ a < b.base + b.stride * b.count v then
      let i := (a - b.base) / b.stride
      (b.regs.find? fun r => r.off == (a - b.base) % b.stride).map fun r => (b, i, r)
    else none

/-- Take-effect code of the register a key names (R90). -/
def teOf (v : Variant) (key : Nat) : Te :=
  match findReg v (key % 0x100000) with
  | some (_, _, r) => r.te
  | none => .imm

/-- A value is written that acts at once (R90 IMM). -/
def putNow (key : Nat) (w : Word) (s : State) : State :=
  { s with regs := { s.regs with val := s.regs.val.put key w } }

/-- A value is written that waits for its boundary (R90); `d` is the reset value. -/
def putLater (key : Nat) (d w : Word) (s : State) : State :=
  { s with regs := { s.regs with
      act := if s.regs.pend.has key then s.regs.act else s.regs.act.put key (s.wr key d),
      val := s.regs.val.put key w,
      pend := s.regs.pend.put key s.tk.now } }

/-- A SET_CAL writes a value that waits for its boundary; one that waited already is kept beside it (R259). -/
def putOver (key : Nat) (d w : Word) (s : State) : State :=
  let prior := match s.regs.pend.find key with
    | some t => s.regs.prior.put key (s.wr key d, t)
    | none => s.regs.prior.del key
  putLater key d w { s with regs := { s.regs with prior } }

/-- A value that still waits for its boundary is withdrawn, where it is the `w` that was written: the value that waited before it, or else the
one in force, stands again (R259). -/
def dropLater (key : Nat) (w : Word) (s : State) : State :=
  if s.regs.pend.has key && s.regs.val.find key == some w then
    match s.regs.prior.find key with
    | some (v, t) =>
      { s with regs := { s.regs with val := s.regs.val.put key v, pend := s.regs.pend.put key t, prior := s.regs.prior.del key } }
    | none =>
      { s with regs := { s.regs with
          val := (match s.regs.act.find key with | some v => s.regs.val.put key v | none => s.regs.val), act := s.regs.act.del key,
          pend := s.regs.pend.del key } }
  else s

/-- Whether values accepted within 40 ns of this boundary act at it, all or none, as the device chooses (R93).
[DESIGN CHOICE, safe: log 16] -/
def takeNear (p : Nat → Bool) (s : State) : Bool × State :=
  if s.regs.pend.any fun e => p e.1 && decide (s.tk.now < e.2 + 41) then (openBool s, spend s) else (true, s)

/-- Written values that wait for a boundary and are due at it act: those satisfying `p` accepted more than 40 ns before it, and those
accepted later where `take` holds (R90–R94). -/
def actTaken (p : Nat → Bool) (take : Bool) (s : State) : State :=
  let due := fun (e : Nat × Nat) => p e.1 && (decide (e.2 + 41 ≤ s.tk.now) || take)
  { s with regs := { s.regs with
      act := (s.regs.pend.filter due).foldl (fun t e => t.del e.1) s.regs.act,
      pend := s.regs.pend.filter fun e => !due e } }

/-- The values satisfying `p` that are due at this boundary act. -/
def actDue (p : Nat → Bool) (s : State) : State :=
  let r := takeNear p s
  actTaken p r.1 r.2

/-- The next boundary of a period after the last one taken: now, where a multiple is due now.  [DESIGN CHOICE, unsafe: log 6] -/
def boundary (p last now : Nat) : Nat :=
  let m := (now + p - 1) / p * p
  if m ≤ last then (last / p + 1) * p else m

/-- The next multiple of `p` after the last one taken; those that a step of time has passed are taken one by one, without
time going on (R157).  [DESIGN CHOICE, unsafe: log 6] -/
def nextOf (p last : Nat) : Nat := (last / p + 1) * p

/-- A counter goes on by `n` and saturates at `lim` (R80). -/
def bumpBy (key lim n : Nat) (s : State) : State :=
  { s with regs := { s.regs with cnt := s.regs.cnt.put key (min lim (s.regs.cnt.get key 0 + n)) } }

/-- A 32-bit CNT counter goes on by one (R80). -/
def bump (key : Nat) (s : State) : State := bumpBy key 0xFFFFFFFF 1 s

/-- An SQ register records an event on `bit` (R82, R83). -/
def sqRecord (key bit : Nat) (s : State) : State :=
  let n := (s.regs.sqN.get key 0 + 1) % 2 ^ 32
  { s with regs := { s.regs with sqN := s.regs.sqN.put key n, sqBit := s.regs.sqBit.put (key * 32 + bit) n } }

/-- RC bits are set (R78). -/
def rcSet (key : Nat) (bits : Word) (s : State) : State :=
  { s with regs := { s.regs with rc := s.regs.rc.put key (s.regs.rc.get key 0 ||| bits) } }

def cntUnpriv : Nat := 0x41030
def cntSqRejects : Nat := 0x41034
def cntBadValues : Nat := 0x41038
def cntUndef : Nat := 0x4103C
def cntBadSize : Nat := 0x41040
def cntXing : Nat := 0x41050

/-! ### Crossings (R147–R149) -/

/-- The steps of a cycle in their order (R148): the bundle is stable and REQ rises; the receiver latches the bundle and raises ACK; REQ falls;
ACK falls. -/
def Crossing.raise (tag : Nat) (w : Word) (x : Crossing) : Crossing := { x with word := w, tag := BitVec.ofNat 2 tag, req := true }
def Crossing.latch (x : Crossing) : Crossing := { x with ack := true }
def Crossing.lower (x : Crossing) : Crossing := { x with req := false }
def Crossing.finish (x : Crossing) : Crossing := { x with ack := false }

/-- One whole cycle carries one word; a crossing that is stuck in a cycle starts none (R148, R174). -/
def Crossing.cycle (tag : Nat) (w : Word) (x : Crossing) : Crossing :=
  if x.req || x.ack then x else (((x.raise tag w).latch).lower).finish

/-- The crossing from domain `i` to domain `j`. -/
def State.xing (s : State) (i j : Nat) : Crossing := s.xings.get (256 * i + j) {}
def State.setXing (s : State) (i j : Nat) (x : Crossing) : State := { s with xings := s.xings.put (256 * i + j) x }

/-- Domain `i` offers words, each with its tag, to its crossing to `j`: they cross in their order where `j` is ON (R147–R150), else they are
not sent but discarded and counted (R149).  [DESIGN CHOICE, unsafe: log 203] -/
def offer (i j : Nat) (ws : List (Nat × Word)) (s : State) : State :=
  if s.isOn j then s.setXing i j (ws.foldl (fun x w => x.cycle w.1 w.2) (s.xing i j)) else bumpBy cntXing 0xFFFFFFFF ws.length s

/-- Domain `i` offers domain `j` words whose tag the spec does not give: the tag is open (R147).
[DESIGN CHOICE, unsafe: log 203] -/
def offerWords (i j : Nat) (ws : List Word) (s : State) : State :=
  ws.foldl (fun s w => offer i j [(openNat s, w)] (spend s)) s

/-- Something is sent to a domain that is not ON: its words are discarded and counted (R149).  How many words it takes is open.
[DESIGN CHOICE, safe: log 34] -/
def discarded (s : State) : State := spend (bumpBy cntXing 0xFFFFFFFF (1 + openNat s) s)

/-- Domain `i` offers domain `j` words whose layout the spec does not give: open words cross, or an open number of them is discarded (R149).
[DESIGN CHOICE, unsafe: log 203] -/
def offerOpen (i j : Nat) (s : State) : State :=
  if s.isOn j then
    let w := openNat s
    let s := spend s
    spend (s.setXing i j ((s.xing i j).cycle (openNat s) (w32 w)))
  else discarded s

/-- Words of a transfer from domain `i` to domain `j`, which cross while both are ON; none is offered where they are not (R147, R149).
[DESIGN CHOICE, unsafe: log 203] -/
def crossOpen (i j : Nat) (s : State) : State := if s.isOn i && s.isOn j then offerOpen i j s else s

/-- `t` is what a command of the main die makes of `s`; with main power off nothing but the safelight and the pins acts (R825).
[DESIGN CHOICE, unsafe: log 4] -/
def mainOn (s t : State) : State := if s.power = .on then t else s

/-! ### MSI-X (R188–R190, R204) -/

/-- The vector control word's mask bit; after reset every vector is masked (R215). -/
def Fn.masked (f : Fn) (v : Nat) : Bool := bitOf (f.table.get (4 * v + 3) 1) 0

/-- A TLP is seen on the link. -/
def traffic (s : State) : State := { s with hl := { s.hl with busyAt := s.tk.clk } }

/-- Every TLP the device originates uses traffic class 0 with Relaxed Ordering and No Snoop clear; it carries ECRC where its function generates
it (R180, R187). -/
def State.attr (s : State) (f : Nat) : TlpAttr := { tc := 0, relaxed := false, noSnoop := false, ecrc := (s.fn f).ecrcGen }

/-- The function can send MSI-X messages now (R188). -/
def State.canSend (s : State) (f : Nat) : Bool :=
  let x := s.fn f
  x.bme && !x.d3hot && !x.flr && s.hl.link == .up && x.msixEn && !x.fmask

/-- Function `f` can do DMA now: the DMA engine, domain 3, is ON (R135, R188). -/
def State.canDma (s : State) (f : Nat) : Bool :=
  let x := s.fn f
  x.bme && !x.d3hot && !x.flr && s.hl.link == .up && s.isOn 3

/-- Something goes out.  [DESIGN CHOICE, unsafe: log 9] -/
def send (t : Tx) (s : State) : State := { s with tx := t :: s.tx }

/-- A vector is raised: one message where the function can send and the vector is unmasked, else its pending bit (R188,
R204). -/
def signal (f v : Nat) (s : State) : State :=
  let x := s.fn f
  if s.canSend f && !x.masked v then
    send (.msix f v ((x.table.get (4 * v) 0).toNat + 2 ^ 32 * (x.table.get (4 * v + 1) 0).toNat) (x.table.get (4 * v + 2) 0) (s.attr f))
      (traffic (s.setFn f { x with pba := x.pba.del v }))
  else s.setFn f { x with pba := x.pba.put v () }

/-- Vectors 12–23 of function 0: at most one message per 10 µs (R190). -/
def signalSpaced (v : Nat) (s : State) : State :=
  let x := s.fn 0
  if s.hl.spaced.has v then s.setFn 0 { x with pba := x.pba.put v () }
  else if s.canSend 0 && !x.masked v then
    let s := signal 0 v s
    { s with hl := { s.hl with spaced := s.hl.spaced.put v s.tk.clk } }
  else s.setFn 0 { x with pba := x.pba.put v () }

/-- The vector a block's events raise (R189, R190). -/
def Blk.vector : Blk → Option Nat
  | .cs => none | .sp => none | .rg => none
  | .sb => some 12
  | .ez => some 13 | .wn => some 13
  | .ar => some 14
  | .jl => some 15 | .sh => some 15
  | .hl => some 16
  | .tk => some 17 | .hub => some 17 | .mm => some 17 | .sl => some 17
  | .pr => some 18
  | .cn => some 19 | .en => some 19 | .sn => some 19
  | .dv => some 22 | .ms => some 22
  | .pe => some 23 | .fx => some 23

/-! ### Records and events (R298–R305) -/

/-- Producers of R319, in their order of commit: hub, print engine, fixer, then CI and MI by channel. -/
def prodHub : Nat := 0
def prodPe : Nat := 1
def prodFx : Nat := 2
def prodCi (n : Nat) : Nat := 3 + 2 * n
def prodMi (n : Nat) : Nat := 4 + 2 * n

/-- The producer of a block's event records. -/
def Blk.producer (b : Blk) (i : Nat) : Nat :=
  match b with
  | .dv => prodCi i | .ms => prodMi i | .pe => prodPe | .fx => prodFx | _ => prodHub

/-- SOURCE of a block's records (R299, R304, R946). -/
def Blk.source (b : Blk) (i : Nat) : Nat :=
  match b with
  | .dv => i | .ms => i | b => 0x8000 + i % 128 * 256 + b.code

/-- The SQ register in which event `num` of the block has its bit (R304). -/
def Blk.sqKey (b : Blk) (i num : Nat) : Nat :=
  match b with
  | .hl => 0x42010 | .rg => 0x43044 | .ar => 0x45048 | .sh => 0x46030 | .jl => 0x47050 | .pe => 0x4802C
  | .fx => 0x49020 | .ez => 0x4A038 | .wn => b.addr i 0x10 | .cn => b.addr i 0x2C | .en => b.addr i 0x1C
  | .sn => 0x4E014 | .mm => 0x4F02C | .sb => 0x50038 | .sl => 0x51024 | .tk => 0x5301C
  | .dv => b.addr i (if num < 10 then 0x34 else 0x18)
  | .ms => b.addr i 0x24
  | .cs => 0 | .hub => 0 | .sp => 0 | .pr => 0

/-- The island whose local time stamps a block's records; the hub's own blocks go by the timekeeper (R144, R153). -/
def Blk.island (b : Blk) (i : Nat) : Option Nat :=
  match b with
  | .dv => some (ciDom i) | .ms => some (miDom i) | .en => some 14 | .sn => some 14 | _ => none

/-- The time a record of the block made now is stamped with. -/
def Blk.stamp (s : State) (b : Blk) (i : Nat) : Nat := match b.island i with | some d => stampOf s d | none => hubTime s

/-- A signed or unsigned number as a record word. -/
def wInt (v : Int) : Word := BitVec.ofInt 32 v

/-- STREAM of a record: the stream generation of the producer's spool port for channel records (R299). -/
def streamOf (s : State) (prod : Nat) (src : Nat) : Nat :=
  if src ≥ 0x8000 then 0
  else if prod = prodMi src then s.streams.get (64 + src) 0
  else s.streams.get src 0

/-- The common header for a record of `kind` from `src` made now (R299). -/
def mkRec (s : State) (prod kind src time : Nat) (body : List Word) : Rec :=
  { kind, src, time, stream := streamOf s prod src, gen := if src ≥ 0x8000 then 0 else (s.ch src).gen, seq := 0, body }

/-- A record has been made and is on its way to its spool (R318).  [DESIGN CHOICE, unsafe: log 88] -/
def pushRec (prod : Nat) (r : Rec) (s : State) : State :=
  { s with sp := { s.sp with making := s.sp.making ++ [(prod, r)] } }

/-- The body of an event record (R303); absent arguments are zero. -/
def eventBody (b : Blk) (num cls : Nat) (args : List Int) (refSeq refKind : Nat) : List Word :=
  [w32 (b.code * 256 + num + cls * 65536), w32 (refSeq % 65536 + refKind * 65536)] ++
    ((args ++ [0, 0, 0, 0, 0, 0, 0, 0]).take 8).map wInt

/-- Raise event `num` of a block with a given SOURCE: its register bit where it has one, its vector, and its event record
(R190, R304, R305).  With main power off nothing is raised. -/
def raiseAs (b : Blk) (i num cls : Nat) (args : List Int) (src prod : Nat) (s : State) : State :=
  if s.power = .on then
    let s := if num < 0x20 then sqRecord (b.sqKey i num) num s else s
    let s := match b.vector with | some v => signalSpaced v s | none => s
    pushRec prod (mkRec s prod 3 src (b.stamp s i) (eventBody b num cls args 0 0)) s
  else s

/-- Raise event `num` of place `i` of a block. -/
def raise (b : Blk) (i num cls : Nat) (args : List Int) (s : State) : State :=
  raiseAs b i num cls args (b.source i) (b.producer i) s

/-- Raise an event whose record carries a time of its own. -/
def raiseTimed (b : Blk) (i num cls : Nat) (args : List Int) (time : Nat) (s : State) : State :=
  if s.power = .on then
    let s := if num < 0x20 then sqRecord (b.sqKey i num) num s else s
    let s := match b.vector with | some v => signalSpaced v s | none => s
    pushRec (b.producer i) (mkRec s (b.producer i) 3 (b.source i) time (eventBody b num cls args 0 0)) s
  else s

/-! ### Wake sources (R833, R834, R840) -/

/-- SL_WAKE_EN enables source `k`; the CAN buses follow WAKE_MODE alone (R833).  [DEDUCED, unsafe: log 195] -/
def wakeEnabled (s : State) (k : Nat) : Bool := decide (k ≥ 6) || bitOf (s.wr 0x51008 0xE) k

/-- A wake is recorded: the first since the last reset names FIRST and the tick count, later ones are added (R834); of those accepted in
one tick FIRST names the lowest (R841). -/
def recordWake (k : Nat) (s : State) : State :=
  let l := s.sl
  { s with sl := if l.pending then { l with wake := Nat.lor l.wake (2 ^ k), first := if l.tick = l.wakeTick then min l.first k else l.first }
                 else { l with wake := 2 ^ k, first := k, wakeTick := l.tick, pending := true } }

/-- A wake source is accepted: it wakes a PARKED device and is held during the park sequence (R833, R834, R836, R840).
[DEDUCED, unsafe: log 30; DEDUCED, unsafe: log 177] -/
def wakeSource (k : Nat) (s : State) : State :=
  if !wakeEnabled s k then s
  else
    match s.power with
    | .parked => recordWake k s
    | .on => if s.sl.parking.isSome then { s with sl := { s.sl with heldOver := s.sl.heldOver ++ [k] } } else s
    | .off => s

/-! ### DMA (R186, R187) -/

/-- Cut a transfer into pieces of at most `lim` bytes that do not cross a multiple of `page`; `fuel` bounds the pieces. -/
def pieces (lim page : Nat) : Nat → Nat → Nat → List (Nat × Nat)
  | 0, _, _ => []
  | fuel + 1, addr, len =>
    if len = 0 then []
    else
      let n := min len (min (max lim 1) (page - addr % page))
      (addr, n) :: pieces lim page fuel (addr + n) (len - n)

/-- Key of what a requester holds at BAR0 offset `a`: 0 function 0, 1 function 1, 2 the loupe (R70).
[DESIGN CHOICE, unsafe: log 14] -/
def reqKey (a q : Nat) : Nat := a * 4 + q

/-- Read requests of one size that a transfer takes.  [DESIGN CHOICE, unsafe: log 51] -/
def tlps (mrrs len : Nat) : Nat := (len + max mrrs 1 - 1) / max mrrs 1

/-- At most 128 non-posted requests are outstanding (R180): there is room for a read of `len` bytes by function `f`.
[DESIGN CHOICE, unsafe: log 51] -/
def State.roomFor (s : State) (f len : Nat) : Bool :=
  decide (s.hl.reqs.foldl (fun a q => a + tlps q.cut q.len) 0 + tlps (s.fn f).mrrs len ≤ 128)

/-- Room for a read of one request. -/
def State.readRoom (s : State) : Bool := s.roomFor 0 1

/-! ### The read side of spools and strips, as far as it says what the DMA engine has to do (R310, R316, R326) -/

/-- The strip a granule leaves by (R316): one written before leaves by the same strip again (R338); one that a release found unwritten by the
released strip, as though it were still bound, unless a lower one claims it (R335). -/
def stripOf (s : State) (g : Granule) : Option Nat :=
  let claims := fun n =>
    let x := s.strip n
    x.bound && !x.releasing && bitOf (w32 x.spools) g.origin && bitOf (w32 x.kinds) (g.r.kind - 1)
  let bound := (List.range 8).find? claims
  match g.oldStrip with
  | some n => if g.rewritten then some n else some (match bound with | some k => min k n | none => n)
  | none => bound

/-- The oldest record of a spool that has not been written, and what is before it. -/
def readHead : List Granule → List Granule × Option (Granule × List Granule)
  | [] => ([], none)
  | g :: t =>
    if g.wr.isNone then ([], some (g, t))
    else let (a, b) := readHead t; (g :: a, b)

/-- The record at a spool's read side, where it leaves the spool's chain here (R326, R330). -/
def atReadSide (s : State) (n : Nat) : Option Granule :=
  match (readHead (s.spool n).q).2 with
  | some (g, _) => if g.path.isEmpty then some g else none
  | none => none

/-- The function a strip is bound to can do DMA (R336). -/
def stripAvailable (s : State) (n : Nat) : Bool := s.canDma (s.strip n).fn

/-- A request is a tail read of strip `n`. -/
def Req.tailOf (n : Nat) (q : Req) : Bool := match q.issuer with | .tail k _ => k == n | .oldTail k => k == n | _ => false

/-- Tail reads of strip `n` that are outstanding, or whose data waits at the host link (R310). -/
def tailsOut (s : State) (n : Nat) : Nat :=
  (s.hl.reqs.filter (Req.tailOf n)).length + (s.hl.inbox.filter fun e => e.1.tailOf n).length

/-- The slot is known to be owned by the host. -/
def Look.isOwned : Look → Bool
  | .owned _ | .again => true
  | _ => false

/-- Strip `n` may read a further tail ahead of need: at most 32 slots checked and 4 reads outstanding; it reads past no slot that it found
owned (R310).  [DEDUCED, unsafe: log 84] -/
def lookDue (s : State) (n : Nat) : Bool :=
  let x := s.strip n
  x.bound && !x.error && stripAvailable s n && decide (tailsOut s n < 4) && decide (x.looks.length < min 32 x.slots) &&
    x.looks.all (fun l => !l.isOwned) && s.readRoom

/-- The completion ring has no room (R234). -/
def cqFull (x : Ring) : Bool := decide ((x.cqCount + 65536 - x.cqCons) % 65536 ≥ 2 ^ x.log2E)

end Sys2Proof.Machine
end

