-- ==== Sys2Proof/Machine/Operands.lean ====
section
/-!
DEFINITION. Machine/Operands.lean: reading a descriptor's header and body (R222, R257, R263, R275), the assigned opcodes
(R256), and the checks every ring command shares (R223, R257–R260, R287).
-/
namespace Sys2Proof.Machine

def dU8 (d : List Byte) (o : Nat) : Nat := leAt d o 1
def dU16 (d : List Byte) (o : Nat) : Nat := leAt d o 2
def dU32 (d : List Byte) (o : Nat) : Nat := leAt d o 4
def dU64 (d : List Byte) (o : Nat) : Nat := leAt d o 8
def dS16 (d : List Byte) (o : Nat) : Int := signed 16 (leAt d o 2)
def dS32 (d : List Byte) (o : Nat) : Int := signed 32 (leAt d o 4)
def dS64 (d : List Byte) (o : Nat) : Int := signed 64 (leAt d o 8)

def dOp (d : List Byte) : Nat := dU8 d 0
def dFlags (d : List Byte) : Nat := dU8 d 1
def dTag (d : List Byte) : Nat := dU16 d 2
def dTarget (d : List Byte) : Nat := dU16 d 4
def dGen (d : List Byte) : Nat := dU16 d 6
def dPhase (d : List Byte) : Bool := dFlags d % 2 == 1
def dIrq (d : List Byte) : Bool := dFlags d / 2 % 2 == 1
def dSilent (d : List Byte) : Bool := dFlags d / 4 % 2 == 1

/-- Status codes (R225). -/
inductive Status where
  | ok | stale | notRunning | superseded | deniedPriv | deniedPresence | busy | badDesc | noResource | fault
  deriving DecidableEq, Repr

def Status.code : Status → Nat
  | .ok => 0 | .stale => 1 | .notRunning => 2 | .superseded => 3 | .deniedPriv => 4
  | .deniedPresence => 5 | .busy => 6 | .badDesc => 7 | .noResource => 8 | .fault => 9

/-- What the TARGET column of R256 gives an opcode. -/
inductive TargetKind where
  | unused | channel | evenChannel | strip | ld | vd | bus | enc | node | clearFault | selftest
  deriving DecidableEq, Repr

/-- An opcode's row of R256 with the byte ranges (offset, size) that its body table assigns (R263, R275). -/
structure OpRow where
  op      : Nat
  name    : String
  target  : TargetKind
  usesGen : Bool
  body    : List (Nat × Nat)
  deriving DecidableEq, Repr

/-- The opcodes of R256. -/
def opTable : List OpRow := [
  ⟨0x00, "NOP", .unused, false, []⟩,
  ⟨0x10, "LOAD_RECIPE", .channel, false, [(0x10, 8), (0x18, 2), (0x1A, 2), (0x1C, 4)]⟩,
  ⟨0x11, "SWAP_BANK", .channel, true, [(0x10, 1)]⟩,
  ⟨0x12, "START", .channel, false, [(0x10, 2), (0x12, 1), (0x14, 16)]⟩,
  ⟨0x13, "HOLD", .channel, true, []⟩,
  ⟨0x14, "RESUME", .channel, true, []⟩,
  ⟨0x15, "ABORT", .channel, true, []⟩,
  ⟨0x16, "PRESET_EXPOSURE", .channel, true, [(0x10, 8)]⟩,
  ⟨0x17, "SNAPSHOT", .channel, false, [(0x10, 1)]⟩,
  ⟨0x20, "GANG", .evenChannel, false, [(0x10, 1)]⟩,
  ⟨0x21, "CH_PARK", .channel, false, []⟩,
  ⟨0x22, "CH_READMIT", .channel, false, []⟩,
  ⟨0x28, "SET_LIMITS", .channel, false, [(0x10, 4), (0x14, 4), (0x18, 4), (0x1C, 4), (0x20, 2), (0x22, 2)]⟩,
  ⟨0x29, "SET_CAL", .channel, false, [(0x10, 1), (0x14, 4), (0x18, 4), (0x1C, 4), (0x20, 4), (0x24, 4), (0x28, 4)]⟩,
  ⟨0x30, "BUDGET_SET", .unused, false, [(0x10, 1), (0x14, 4)]⟩,
  ⟨0x31, "PRIORITY_SET", .channel, true, [(0x10, 1)]⟩] ++ [
  ⟨0x38, "STRIP_BIND", .strip, false, [(0x10, 8), (0x18, 4), (0x1C, 1), (0x1D, 1), (0x1E, 2), (0x20, 1)]⟩,
  ⟨0x39, "FUSION_SET", .unused, false, [(0x10, 2), (0x12, 1), (0x13, 1), (0x14, 2)]⟩,
  ⟨0x3A, "GRADE_SET", .unused, false, [(0x10, 8), (0x18, 2), (0x1C, 4)]⟩,
  ⟨0x40, "LEASE_TAKE", .ld, false, [(0x10, 2), (0x12, 2), (0x14, 4), (0x18, 1)]⟩,
  ⟨0x41, "LEASE_RENEW", .ld, false, [(0x10, 2), (0x12, 2), (0x14, 4), (0x1C, 4)]⟩,
  ⟨0x42, "LEASE_DROP", .ld, false, [(0x10, 2), (0x12, 2), (0x14, 4), (0x1C, 4)]⟩,
  ⟨0x43, "ARCHIVE_COPY", .unused, false, [(0x10, 8), (0x18, 8), (0x20, 4)]⟩,
  ⟨0x50, "VALVE_LOAD", .vd, false, [(0x10, 8), (0x18, 1), (0x1C, 4)]⟩,
  ⟨0x51, "VALVE_RUN", .vd, false, [(0x10, 1), (0x11, 1)]⟩,
  ⟨0x52, "SWITCH_SET", .unused, false, [(0x10, 2), (0x12, 2)]⟩,
  ⟨0x53, "FIELD_SET", .unused, false, [(0x10, 4), (0x14, 4), (0x18, 1)]⟩,
  ⟨0x58, "CAN_SEND", .bus, false, [(0x10, 4), (0x14, 1), (0x18, 32)]⟩,
  ⟨0x59, "CAN_FILTER", .bus, false, [(0x10, 1), (0x11, 1), (0x14, 4), (0x18, 4), (0x1C, 8), (0x24, 8)]⟩,
  ⟨0x5A, "ENC_SET", .enc, false, [(0x10, 1), (0x11, 1), (0x14, 4), (0x18, 4), (0x1C, 4), (0x20, 1)]⟩,
  ⟨0x5B, "SENSOR_SCHEDULE", .unused, false, [(0x10, 8), (0x18, 1), (0x1C, 4)]⟩,
  ⟨0x60, "JL_USER", .node, false, [(0x10, 1), (0x18, 16)]⟩,
  ⟨0x70, "STOP", .unused, false, [(0x10, 1), (0x11, 1)]⟩,
  ⟨0x71, "CLEAR_FAULT", .clearFault, false, []⟩,
  ⟨0x72, "SELFTEST", .selftest, false, [(0x10, 1)]⟩]

/-- An opcode's row. -/
def opRow (op : Nat) : Option OpRow := opTable.find? fun r => r.op == op

/-- TARGET lies in the range R258 gives.  SELFTEST's ranges follow its KIND (R814): a channel for 0x00, a macro index (R790)
for 0x02, else 0; an unlisted KIND gives none.  [DEDUCED, unsafe: log 197] -/
def targetOk (k : TargetKind) (d : List Byte) : Bool :=
  let t := dTarget d
  match k with
  | .unused => t == 0
  | .channel => decide (t < 64)
  | .evenChannel => decide (t < 64) && t % 2 == 0
  | .strip => decide (t < 8)
  | .ld => decide (t < 4)
  | .vd => decide (t < 8)
  | .bus => decide (t < 2)
  | .enc => decide (t < 4)
  | .node => decide (t < 32) || t == 0xFF
  | .clearFault => decide (t < 64) || t == 0xFFFF
  | .selftest =>
    match dU8 d 0x10 with
    | 0 => decide (t < 64)
    | 2 => decide (t ≤ 0xDA)
    | k => t == 0 || (decide (4 ≤ k) && !(decide (8 ≤ k) && decide (k ≤ 15)))

/-- First reserved body byte that is not zero (R257). -/
def badReserved (row : OpRow) (d : List Byte) : Option Nat :=
  (List.range' 0x10 0x30).find? fun o =>
    !(row.body.any fun p => decide (p.1 ≤ o) && decide (o < p.1 + p.2)) && decide (dU8 d o ≠ 0)

/-- Header checks of R223 and R258 and the reserved bytes of R257, as the byte offset of the first offending field. -/
def badHeader (d : List Byte) : Option Nat :=
  match opRow (dOp d) with
  | none => some 0
  | some row =>
    if dFlags d / 8 ≠ 0 then some 1
    else if !targetOk row.target d then some 4
    else if !row.usesGen && decide (dGen d ≠ 0) then some 6
    else match (List.range' 8 8).find? fun o => decide (dU8 d o ≠ 0) with
      | some o => some o
      | none => badReserved row d

/-- The first failing check of a list of (offset, check passes) pairs, in written order.  [DEDUCED, unsafe: log 67] -/
def firstBad (l : List (Nat × Bool)) : Option Nat := (l.find? fun p => !p.2).map (·.1)

/-- Body field ranges of R263 and R275 by opcode: (offset, in range), in ascending order of offset.
[DEDUCED, unsafe: log 71; DEDUCED, unsafe: log 196] -/
def bodyChecks (s : State) (d : List Byte) : List (Nat × Bool) :=
  let u8 := dU8 d; let u16 := dU16 d; let u32 := dU32 d; let u64 := dU64 d
  match dOp d with
  | 0x10 => [(0x10, u64 0x10 % 64 == 0), (0x18, decide (1 ≤ u16 0x18) && decide (u16 0x18 ≤ 512)),
             (0x1A, decide (u16 0x1A ≤ 511) && decide (u16 0x1A + u16 0x18 ≤ 512))]
  | 0x11 => [(0x10, decide (u8 0x10 ≤ 1))]
  | 0x12 => [(0x10, decide (u16 0x10 ≤ 511)), (0x12, decide (u8 0x12 ≤ 7))]
  | 0x17 => [(0x10, decide (1 ≤ u8 0x10) && decide (u8 0x10 ≤ 3))]
  | 0x20 => [(0x10, decide (u8 0x10 ≤ 1))]
  | 0x28 =>
    let iMax := if (s.ch (dTarget d)).gang then 120000000 else 60000000
    [(0x10, decide (-500000 ≤ dS32 d 0x10) && decide (dS32 d 0x10 ≤ 5500000)),
     (0x14, decide (-500000 ≤ dS32 d 0x14) && decide (dS32 d 0x14 ≤ 5500000) && decide (dS32 d 0x14 < dS32 d 0x10)),
     (0x18, decide (u32 0x18 ≤ iMax)), (0x1C, decide (u32 0x1C ≤ iMax)),
     (0x22, decide (dS16 d 0x22 < dS16 d 0x20))]
  | 0x29 =>
    let it := u8 0x10
    let g := fun o => decide (0x3999999A ≤ u32 o) && decide (u32 o ≤ 0x46666666)
    let f := fun o b lim => decide (it / 2 ^ b % 2 = 0) || (decide (-(lim : Int) ≤ dS32 d o) && decide (dS32 d o ≤ lim))
    [(0x10, decide (1 ≤ it) && decide (it ≤ 7)), (0x14, g 0x14), (0x18, f 0x18 0 10000), (0x1C, g 0x1C),
     (0x20, f 0x20 1 1000000), (0x24, g 0x24), (0x28, f 0x28 2 500)]
  | 0x30 => [(0x10, decide (u8 0x10 ≤ 1)), (0x14, decide (u32 0x14 ≤ if u8 0x10 = 0 then 65535 else 4000000))]
  | 0x31 => [(0x10, decide (u8 0x10 ≤ 7))]
  | 0x38 =>
    [(0x10, u64 0x10 % 4096 == 0),
     (0x18, decide (64 ≤ u32 0x18) && decide (u32 0x18 ≤ 1048576) && 2 ^ (u32 0x18).log2 == u32 0x18),
     (0x1C, decide (u8 0x1C ≤ 1)), (0x1D, decide (u8 0x1D ≤ 31)), (0x20, decide (u8 0x20 ≤ 1))]
  | 0x39 => [(0x10, decide (u16 0x10 ≤ 500)), (0x12, decide (u8 0x12 ≤ 1)),
             (0x14, decide (1 ≤ u16 0x14) && decide (u16 0x14 ≤ 10000))]
  | 0x3A => [(0x10, u64 0x10 % 64 == 0), (0x18, decide (1 ≤ u16 0x18) && decide (u16 0x18 ≤ 64))]
  | 0x40 => [(0x10, decide (u16 0x10 ≤ 2047)), (0x12, decide (1 ≤ u16 0x12) && decide (u16 0x10 + u16 0x12 ≤ 2048)),
             (0x14, decide (1 ≤ u32 0x14) && decide (u32 0x14 ≤ 60000)), (0x18, decide (u8 0x18 ≤ 1))]
  | 0x41 => [(0x10, decide (u16 0x10 ≤ 2047)), (0x12, decide (1 ≤ u16 0x12) && decide (u16 0x10 + u16 0x12 ≤ 2048)),
             (0x14, decide (1 ≤ u32 0x14) && decide (u32 0x14 ≤ 60000))]
  | 0x42 => [(0x10, decide (u16 0x10 ≤ 2047)), (0x12, decide (1 ≤ u16 0x12) && decide (u16 0x10 + u16 0x12 ≤ 2048)),
             (0x14, u32 0x14 == 0)]
  | 0x43 => [(0x10, u64 0x10 % 64 == 0 && decide (u64 0x10 < 2 ^ 32)), (0x18, u64 0x18 % 64 == 0),
             (0x20, u32 0x20 % 64 == 0 && decide (64 ≤ u32 0x20) && decide (u32 0x20 ≤ 16777216) &&
               decide (u64 0x10 + u32 0x20 ≤ 2 ^ 32))]
  | 0x50 => [(0x10, u64 0x10 % 64 == 0), (0x18, decide (1 ≤ u8 0x18) && decide (u8 0x18 ≤ 64))]
  | 0x51 => [(0x10, decide (u8 0x10 ≤ 1)), (0x11, decide (u8 0x11 ≤ 63))]
  | 0x53 => [(0x10, decide (u32 0x10 < 2 ^ 24)), (0x14, decide (u32 0x14 < 2 ^ 24)), (0x18, decide (u8 0x18 ≤ 10))]
  | 0x58 =>
    let fdf := u32 0x10 / 2 ^ 30 % 2 == 1
    let dlc := u8 0x14
    let n := if dlc ≤ 8 then dlc else [12, 16, 20, 24, 32].getD (dlc - 9) 32
    [(0x10, fdf || u32 0x10 / 2 ^ 31 == 0),
     (0x14, decide (dlc ≤ if fdf then 13 else 8)),
     (0x18, (List.range' 0x18 32).all fun o => decide (o < 0x18 + n) || u8 o == 0)]
  | 0x59 => [(0x10, decide (u8 0x10 ≤ 31)), (0x11, decide (u8 0x11 ≤ 2)), (0x14, decide (u32 0x14 < 2 ^ 30))]
  | 0x5A => [(0x10, decide (u8 0x10 ≤ 4)), (0x11, decide (1 ≤ u8 0x11)), (0x18, decide (dS32 d 0x14 < dS32 d 0x18)),
             (0x1C, u8 0x10 != 1 || (decide (dS32 d 0x14 ≤ dS32 d 0x1C) && decide (dS32 d 0x1C ≤ dS32 d 0x18))),
             (0x20, decide (u8 0x20 ≤ 1))]
  | 0x5B => [(0x10, u64 0x10 % 64 == 0), (0x18, decide (1 ≤ u8 0x18) && decide (u8 0x18 ≤ 16))]
  | 0x60 => [(0x10, decide (1 ≤ u8 0x10) && decide (u8 0x10 ≤ 16)),
             (0x18, (List.range' 0x18 16).all fun o => decide (o < 0x18 + u8 0x10) || u8 o == 0)]
  | 0x70 => [(0x10, decide (1 ≤ u8 0x10) && decide (u8 0x10 ≤ 3)), (0x11, decide (u8 0x11 ≤ 1))]
  | 0x72 => [(0x10, decide (u8 0x10 ≤ 3) || (decide (8 ≤ u8 0x10) && decide (u8 0x10 ≤ 15)))]
  | _ => []

/-- BAD_DESC's DETAIL: the first offending field by byte offset (R223, R257, R258, R260).  [DEDUCED, unsafe: log 67] -/
def badDesc (s : State) (d : List Byte) : Option Nat :=
  match badHeader d, firstBad (bodyChecks s d) with
  | none, b => b
  | some h, none => some h
  | some h, some b => if h < 0x10 then some h else some (min h b)

end Sys2Proof.Machine
end

