-- ==== Sys2Proof/Machine/Complete.lean ====
section
/-!
DEFINITION. Machine/Complete.lean: how a ring command begins, finishes and completes (R223–R226, R232–R234, R247, R251,
R259, R260, R287–R289, R307).
-/
namespace Sys2Proof.Machine

/-- The channel a descriptor names, if its opcode targets one (R224, R256). -/
def dChannel (d : List Byte) : Option Nat :=
  match opRow (dOp d) with
  | none => none
  | some row =>
    match row.target with
    | .channel | .evenChannel => some (dTarget d)
    | .clearFault => if dTarget d = 0xFFFF then none else some (dTarget d)
    | .selftest => if dU8 d 0x10 = 0 then some (dTarget d) else none
    | _ => none

/-- GEN of the completion: the channel's generation after the command, or 0 (R224, R287). -/
def cplGen (s : State) (d : List Byte) : Nat :=
  match dChannel d with
  | some n => if n < s.variant.channels then (s.ch n).gen else 0
  | none => 0

/-- The 16 bytes of a completion (R224). -/
def cplBytes (c : Cpl) (phase : Bool) : List Byte :=
  bytesOf 2 (dTag c.d) ++ bytesOf 1 (dOp c.d) ++ bytesOf 1 c.status ++ bytesOf 2 c.count ++ bytesOf 2 c.gen ++
    bytesOf 4 c.result ++ bytesOf 2 c.detail ++ bytesOf 1 0 ++ bytesOf 1 (128 * b2n phase)

/-- Little-endian words of bytes. -/
def wordsOf (l : List Byte) : List Word := (List.range (l.length / 4)).map fun k => w32 (leAt l (4 * k) 4)

/-- The phase bit of count `c` in a ring of 2^`k` entries (R220). -/
def phaseOf (k c : Nat) : Bool := c / 2 ^ k % 2 == 0

/-- The completion-echo of a finished descriptor (R307).  [DEDUCED, unsafe: log 68] -/
def makeEcho (r : Nat) (c : Cpl) (phase : Bool) (s : State) : State :=
  pushRec prodHub
    (mkRec s prodHub 5 (Blk.rg.source 0) (hubTime s)
      (wordsOf (cplBytes c phase ++ bytesOf 8 r ++ c.d.take 8 ++ bytesOf 8 0))) s

/-- Enable a ring: latch its bases and size and zero its counts (R246, R248); items not yet signalled stay to be (R236).
[DEDUCED, unsafe: log 65] -/
def ringEnable (r : Nat) (s : State) : State :=
  let lo := fun k => (s.wr (selKey k r) 0).toNat
  let x := s.ring r
  s.setRing r { running := true, unsig := x.unsig, unsigAt := x.unsigAt, era := x.era + 1,
                crBase := lo 0x43028 + 2 ^ 32 * lo 0x4302C, cqBase := lo 0x43030 + 2 ^ 32 * lo 0x43034,
                log2E := fld (s.wr (selKey 0x43038 r) 0x80000001) 28 4 }

/-- A stopping ring with nothing left has stopped; a 1 written meanwhile enables it again (R247, R248).
[DEDUCED, unsafe: log 65] -/
def ringSettle (r : Nat) (s : State) : State :=
  let x := s.ring r
  if x.running && x.exec.isNone && x.cpl.isNone && (x.stopping.isSome || x.error) then
    let s := s.setRing r { x with running := false, stopping := none, fetched := [], again := false }
    if x.again then ringEnable r s else s
  else s

/-- The completion waiting on ring `r` is lost; its echo is still made (R251).  [DEDUCED, unsafe: log 53] -/
def loseCompletion (r : Nat) (s : State) : State :=
  let x := s.ring r
  match x.cpl with
  | none => s
  | some c =>
    let s := s.setRing r { x with cpl := none, crCount := (x.crCount + 1) % 65536 }
    let s := { s with rg := { s.rg with lost := (s.rg.lost + 1) % 256 } }
    ringSettle r (makeEcho r c (phaseOf x.log2E x.cqCount) (raise .rg 0 6 1 [] s))

/-- CQ_FULL, once per stall (R234). -/
def cqCheck (r : Nat) (s : State) : State :=
  let x := s.ring r
  if x.cpl.isSome && cqFull x && !x.fullSaid then raise .rg 0 5 1 [] (s.setRing r { x with fullSaid := true }) else s

/-- A descriptor has finished: its status is decided.  A SILENT descriptor that ended OK is done; any other completion waits
to be written, or is lost at once with the link down (R226, R232, R234, R252).
[DEDUCED, unsafe: log 53; DEDUCED, unsafe: log 68] -/
def complete (r : Nat) (st : Status) (result detail : Nat) (s : State) : State :=
  let x := s.ring r
  match x.exec with
  | none => s
  | some e =>
    let c : Cpl := { d := e.d, count := e.count, status := st.code, gen := cplGen s e.d, result := result % 2 ^ 32,
                     detail := if st = .ok then 0 else detail }
    if dSilent e.d && st == .ok then
      ringSettle r (makeEcho r c false (s.setRing r { x with exec := none, crCount := (x.crCount + 1) % 65536 }))
    else
      let s := s.setRing r { x with exec := none, cpl := some c, cplAt := s.tk.clk, fullSaid := false }
      if s.hl.link = .up then cqCheck r s else loseCompletion r s

/-- The unit a descriptor occupies, as a number (R288): channels 0–63 (a gang as ch 2k), strips 64+, LDs 80+, valve drivers
90+, buses 100+, encoders 110+, then shutter 120, print engine 121, fixer 122, sensor port 123, easel bridge 124.  One whose TARGET lies
outside its opcode's range (R258) names none.  [DEDUCED, unsafe: log 197] -/
def dUnit (s : State) (d : List Byte) : Option Nat :=
  let t := dTarget d
  if ((opRow (dOp d)).map fun row => targetOk row.target d) != some true then none
  else match dChannel d with
  | some n => some (if s.gangOdd n then n - 1 else n)
  | none =>
    match dOp d with
    | 0x30 => some 120
    | 0x38 => some (64 + t)
    | 0x39 => some 121
    | 0x3A => some 122
    | 0x40 | 0x41 | 0x42 => some (80 + t)
    | 0x50 | 0x51 => some (90 + t)
    | 0x52 | 0x53 => some 124
    | 0x58 | 0x59 => some (100 + t)
    | 0x5A => some (110 + t)
    | 0x5B => some 123
    | _ => none

/-- The descriptor a ring holds in execution or in its waiting completion. -/
def Ring.busyWith (x : Ring) : Option (List Byte) :=
  match x.exec, x.cpl with
  | some e, _ => some e.d
  | none, some c => some c.d
  | none, none => none

/-- A GANG, and a command for either channel of a pair, count the pair where it is to be joined: the pair's odd channel is
held by a GANG in execution (R288). -/
def unitsOf (s : State) (d : List Byte) : List Nat :=
  match dUnit s d with
  | none => []
  | some u => if dOp d = 0x20 then [u, u + 1] else [u]

/-- ABORT, STOP and CLEAR_FAULT do not wait for a channel held by a queued START (R289). -/
def passesQueued (d : List Byte) (x : Ring) : Bool :=
  (dOp d == 0x15 || dOp d == 0x70 || dOp d == 0x71) &&
    (match x.exec with | some e => e.stage == .queued | none => false)

/-- Another ring occupies the unit the descriptor names (R288, R289).  [DEDUCED, unsafe: log 66] -/
def unitHeld (s : State) (r : Nat) (d : List Byte) : Bool :=
  (List.range 4).any fun q =>
    decide (q ≠ r) &&
      match (s.ring q).busyWith with
      | none => false
      | some d' => (unitsOf s d).any (fun u => (unitsOf s d').contains u) && !passesQueued d (s.ring q)

/-- Ring `r` has a descriptor it may begin now (R232–R234, R247, R250, R288).  [DEDUCED, unsafe: log 66] -/
def ringReady (s : State) (r : Nat) : Bool :=
  let x := s.ring r
  x.running && !x.error && x.stopping.isNone && x.exec.isNone && x.cpl.isNone &&
    match x.fetched.head? with
    | none => false
    | some (_, d) => !unitHeld s r d

/-- The ring whose turn it is: the first ready one after the last that started (R233).  [DEDUCED, unsafe: log 66] -/
def nextRing (s : State) : Option Nat :=
  (List.range' 1 4).map (fun k => (s.rg.last + k) % 4) |>.find? (ringReady s)

/-- Ring `r` begins the descriptor at its head, whose opcode must be `op`, and `k` carries it out.  Nothing happens where it is
not this ring's turn or the head is another command.
[DESIGN CHOICE, unsafe: log 3; DESIGN CHOICE, unsafe: log 4; DEDUCED, unsafe: log 66] -/
def begin_ (r op : Nat) (k : List Byte → State → State) (s : State) : State :=
  if nextRing s = some r then
    match (s.ring r).fetched with
    | [] => s
    | (c, d) :: rest =>
      if dOp d = op then
        let x := s.ring r
        let s := s.setRing r { x with fetched := rest, exec := some { d, count := c } }
        k d { s with rg := { s.rg with last := r } }
      else s
  else s

/-- Put the descriptor in execution into a stage. -/
def setStage (r : Nat) (g : Stage) (s : State) : State :=
  let x := s.ring r
  match x.exec with
  | none => s
  | some e => s.setRing r { x with exec := some { e with stage := g } }

/-- The ring that executes a descriptor satisfying `p`, and the descriptor's execution. -/
def findExec (s : State) (p : Exec → Bool) : Option (Nat × Exec) :=
  (List.range 4).findSome? fun r =>
    match (s.ring r).exec with
    | some e => if p e then some (r, e) else none
    | none => none

/-- The ring that executes opcode `op` for channel `n`. -/
def execOf (s : State) (op n : Nat) : Option (Nat × Exec) :=
  findExec s fun e => dOp e.d == op && dTarget e.d == n

/-- Why a channel command's target names no resource, as DETAIL's offset (R15, R258). -/
def badChannel (s : State) (d : List Byte) : Bool := !s.present (dTarget d)

/-- The generation a GEN field names differs from the channel's (R287). -/
def staleGen (s : State) (d : List Byte) : Bool :=
  dGen d != 0 && dGen d != (s.ch (dTarget d)).gen

/-- A command that is carried out crosses from the hub core to its channel's islands (R135, R147).
[DESIGN CHOICE, unsafe: log 203] -/
def crossCommand (d : List Byte) (s : State) : State :=
  match dChannel d with
  | some n => crossOpen 1 (miDom n) (crossOpen 1 (ciDom n) s)
  | none => s

/-- Carry out a ring command after the checks every command shares: BAD_DESC, then a missing resource, then a stale
generation (R259).  [DEDUCED, unsafe: log 67] -/
def checked (r : Nat) (d : List Byte) (missing : State → Option Nat) (usesGen : Bool) (k : State → State) (s : State) : State :=
  match badDesc s d with
  | some o => complete r .badDesc 0 o s
  | none =>
    match missing s with
    | some o => complete r .noResource 0 o s
    | none => if usesGen && staleGen s d then complete r .stale 0 0 s else k (crossCommand d s)

/-- The resource check of a channel command (R15, R258). -/
def needChannel (d : List Byte) (s : State) : Option Nat := if badChannel s d then some 4 else none

/-- The resource check of a command that needs none. -/
def needNothing (_ : State) : Option Nat := none

/-! ### The DMA engine's classes (R327) -/

/-- Class of the slot writes for a record: 3 for negatives, else 2. -/
def Rec.dmaClass (r : Rec) : Nat := if r.kind = 1 then 3 else 2

/-- Class of a strip's tail reads: 3 where it takes negatives only, else 2.  [DESIGN CHOICE, unsafe: log 210] -/
def tailClass (s : State) (n : Nat) : Nat := if (s.strip n).kinds = 1 then 3 else 2

/-- The read side of spool `n` has a record of class `c` and a slot for it. -/
def slotReady (s : State) (c n : Nat) : Bool :=
  match atReadSide s n with
  | some g =>
    g.r.dmaClass == c && (match stripOf s g with
      | some k => !(g.dead && g.oldStrip == some k) && !(s.strip k).error && stripAvailable s k && (s.strip k).looks.head? == some .free
      | none => false)
  | none => false

/-- Settings of polling and of a ring (R229, R246, R249): POLL_US 0 means 64; each next poll falls on a multiple of it as it stands. -/
def rgControl (s : State) : Word := s.wr 0x43000 0x00000400
def pollEn (s : State) : Bool := bitOf (rgControl s) 4
def ringEn (s : State) (r : Nat) : Bool := bitOf (rgControl s) r
/-- POLL_US in µs.  [DEDUCED, unsafe: log 64] -/
def pollUsW (s : State) : Nat := if fld (rgControl s) 8 6 = 0 then 64 else fld (rgControl s) 8 6

/-- Polls are falling due (R229, R188, R65). -/
def polling (s : State) : Bool := pollEn s && s.canDma 0 && !s.sheet.hold

/-- A poll falls due at this instant and has not been taken (R229). -/
def pollDue (s : State) : Bool :=
  polling s && s.tk.now % (pollUsW s * 1000) == 0 && decide (s.rg.pollAt < s.tk.now) && s.readRoom &&
    !(s.hl.reqs.any fun q => q.issuer == .poll)

/-- Descriptors of ring `r` in outstanding fetches, or arrived at the host link and not yet taken. -/
def inFlight (s : State) (r : Nat) : Nat :=
  let n := fun (q : Req) => match q.issuer with | .descFetch k _ c => if k = r then c else 0 | _ => 0
  s.hl.reqs.foldl (fun a q => a + n q) 0 + s.hl.inbox.foldl (fun a e => a + n e.1) 0

/-- How many descriptors ring `r` may fetch with its next read (R231): at most 8, with 16 ahead, none past the ring's end. -/
def fetchCount (s : State) (r : Nat) : Nat :=
  let x := s.ring r
  let avail := (x.prod + 65536 - x.nextFetch) % 65536
  let e := 2 ^ x.log2E
  let room := 16 - (x.fetched.length + inFlight s r)
  let n := min (min 8 avail) (min room (e - x.nextFetch % e))
  if x.running && !x.error && x.stopping.isNone && !x.waitPoll && decide (avail ≤ e) && s.canDma 0 && s.roomFor 0 (64 * n) then n else 0

/-- The table that a command fetches: host address and length in bytes (R261). -/
def tableOf (d : List Byte) : Nat × Nat :=
  (dU64 d 0x10, match dOp d with
    | 0x10 => 8 * dU16 d 0x18
    | 0x3A => 32 * dU16 d 0x18
    | 0x50 => 4 * dU8 d 0x18
    | _ => 32 * dU8 d 0x18)

/-- The table fetch that ring `r`'s command waits for and that has not been issued (R261). -/
def tableDue (s : State) (r : Nat) : Option (Nat × Nat) :=
  let mine := fun (q : Req) => q.issuer == .table r
  match (s.ring r).exec with
  | some e =>
    let t := tableOf e.d
    if e.stage == .fetching && !(s.hl.reqs.any mine) && !(s.hl.inbox.any fun x => mine x.1) && s.canDma 0 && s.roomFor 0 t.2 then some t
    else none
  | none => none

/-- Class `c` has something to issue: 1 a due poll, a fetch, or a completion that waits and has room; 2 and 3 slot writes and tail reads; 4 an
ARCHIVE_COPY.  [DESIGN CHOICE, unsafe: log 210] -/
def dmaWork (s : State) (c : Nat) : Bool :=
  if c = 1 then
    pollDue s || (List.range 4).any fun r =>
      decide (0 < fetchCount s r) || (tableDue s r).isSome || (s.canDma 0 && (s.ring r).cpl.isSome && !cqFull (s.ring r))
  else if c ≤ 3 then
    ((List.range 16).any (slotReady s c)) || (List.range 8).any fun n => tailClass s n == c && lookDue s n
  else s.canDma 0 && (List.range 4).any fun r =>
    match (s.ring r).exec with
    | some e => (match e.stage with | .copied _ => true | _ => false)
    | none => false

/-- Class `c` may issue the next TLP: no class has waited through 15 TLPs but it, and no higher class has work where none has (R327).
[DESIGN CHOICE, unsafe: log 210] -/
def dmaTurn (s : State) (c : Nat) : Bool :=
  match [2, 3, 4].find? fun k => decide (15 ≤ s.hl.waits.get k 0) && dmaWork s k with
  | some k => k == c
  | none => (List.range' 1 (c - 1)).all fun k => !dmaWork s k

/-- `k` TLPs of class `c` go out: the lower classes that have work have waited through so many more (R327).
[DESIGN CHOICE, unsafe: log 210] -/
def dmaCount (c k : Nat) (s : State) : State :=
  { s with hl := { s.hl with waits := [2, 3, 4].foldl (fun t j =>
      if c < j && dmaWork s j then t.put j (min 15 (t.get j 0 + k)) else t.del j) s.hl.waits } }

/-- The domain whose block is behind a DMA request: spools for the strips' own, the archive for copies, else the hub core (R135). -/
def Issuer.dom : Issuer → Nat
  | .tail _ _ | .oldTail _ | .slot _ _ => 4
  | .copy _ => 5
  | .descFetch _ _ _ | .poll | .table _ | .cpl _ _ => 1

/-- A request crosses from its block to the DMA engine and from there to the host link (R135, R147).
[DESIGN CHOICE, unsafe: log 203] -/
def dmaOut (by_ : Issuer) (s : State) : State := crossOpen 3 2 (crossOpen by_.dom 3 s)

/-- Data or an error crosses back (R135, R147).  [DESIGN CHOICE, unsafe: log 203] -/
def dmaBack (by_ : Issuer) (s : State) : State := crossOpen 3 by_.dom (crossOpen 2 3 s)

/-- The tag of the next request: the first from `nextTag` on that no outstanding request holds (R180).
[DESIGN CHOICE, unsafe: log 51] -/
def freeTag (s : State) : Nat :=
  (((List.range 256).map fun k => (s.hl.nextTag + k) % 256).find? fun t => s.hl.reqs.all fun q => q.tag != t).getD s.hl.nextTag

/-- Issue a memory read of class `c`: one outstanding request, sent as TLPs of at most the function's read request size.
[DESIGN CHOICE, unsafe: log 51] -/
def issueRead (c f addr len : Nat) (by_ : Issuer) (s : State) : State :=
  let tag := freeTag s
  let ps := pieces (s.fn f).mrrs (2 ^ 64) (len + 1) addr len
  let s := dmaOut by_ (dmaCount c ps.length s)
  let s := { s with
    hl := { s.hl with reqs := s.hl.reqs ++ [{ tag, cut := (s.fn f).mrrs, fn := f, addr, len, issuer := by_, mark := s.sp.issued, at_ := s.tk.clk }],
                      nextTag := (tag + 1) % 256, busyAt := s.tk.clk } }
  ps.foldl (fun s p => send (.memRead tag f p.1 p.2 by_ (s.attr f)) s) s

/-- Issue memory writes of class `c`: TLPs of at most the function's payload size that do not cross 4 KiB. -/
def issueWrite (c f addr : Nat) (bytes : List Byte) (by_ : Issuer) (s : State) : State :=
  let ps := pieces (s.fn f).mps 4096 (bytes.length + 1) addr bytes.length
  ps.foldl (fun s p => send (.memWrite f p.1 ((bytes.drop (p.1 - addr)).take p.2) by_ (s.attr f)) s) (traffic (dmaOut by_ (dmaCount c ps.length s)))

end Sys2Proof.Machine
end

