-- ==== Sys2Proof/Machine/Channel.lean ====
section
/-!
DEFINITION. Machine/Channel.lean: what every command that acts on a channel shares: its phases and envelope, its way to dark
(R401, R402, R805), the end of a run (R463, R477, R501), latched faults (R806, R292), queued starts (R487), and reads of
on-chip memory words that were never written (R779, R780).
-/
namespace Sys2Proof.Machine

/-- BAR0 offset of a DV_ or MS_ register of channel `n`. -/
def dvKey (n off : Nat) : Nat := 0x60000 + 0x1000 * n + off
def msKey (n off : Nat) : Nat := 0xA0000 + 0x1000 * n + off

/-- What a SET_CAL writes: for each quantity of ITEMS, MS_CAL_GAIN and MS_CAL_OFFSET, each with its reset value and its new value (R263). -/
def calWrites (d : List Byte) : List (Nat × Word × Word) :=
  let n := dTarget d
  ((List.range 3).filter fun q => dU8 d 0x10 / 2 ^ q % 2 == 1).flatMap fun q =>
    [(selKey (msKey n 0x14) q, 0x40000000, w32 (dU32 d (0x14 + 8 * q))), (selKey (msKey n 0x18) q, 0, w32 (dU32 d (0x18 + 8 * q)))]

/-- Channel full scale in µA (R394, R490). -/
def fullScale (c : Chan) : Int := if c.gang then 120000000 else 60000000

/-- The channel's phase numbers (R377). -/
def Chan.phaseList (c : Chan) : List Nat := List.range (if c.gang then 4 else 2)

/-- DV_PWM as it acts now (R90 STEP). -/
def dvPwm (s : State) (n : Nat) : Word := s.acting (dvKey n 0x20) 0xF01003E8

/-- Phase `j`'s PH_EN bit. -/
def phEn (s : State) (n j : Nat) : Bool := bitOf (dvPwm s n) (28 + j)

/-- Phases in service (R380). -/
def inService (s : State) (n : Nat) : List Nat :=
  (s.ch n).phaseList.filter fun j => phEn s n j && ((s.ch n).phase j).st == .inService

/-- The current envelope in µA (R380). -/
def envelope (s : State) (n : Nat) : Int := min (30000000 * (inService s n).length) (fullScale (s.ch n))

/-- Phase `j`'s place on the channel's carrier, in quarters of a period: 0°, 180°, 90° and 270° (R377).
[DESIGN CHOICE, unsafe: log 218] -/
def carrierQuarter (j : Nat) : Nat := [0, 2, 1, 3].getD j 0

/-- The carrier period in quarter nanoseconds: PERIOD × 1.25 ns (R381). -/
def periodQ (s : State) (n : Nat) : Nat := 5 * fld (dvPwm s n) 0 13

/-- A phase is latched out of service (R420, R806 PHASE).  [DEDUCED, unsafe: log 105] -/
def PhState.out : PhState → Bool
  | .outTrip | .outOpen | .outSense | .outShort => true
  | _ => false

/-- Latched faults of a channel with bit 8, PHASE, formed from its phases (R806).  [DEDUCED, unsafe: log 105] -/
def faultMask (c : Chan) : Nat :=
  c.faults % 64 + (if c.phaseList.any fun j => (c.phase j).st.out then 256 else 0)

/-- An unexposed read becomes its macro's latched entry and is raised (R780, R788).  `src` names the channel of a CI or MI macro. -/
def latchUnexposed (macro_ word : Nat) (src : Option Nat) (s : State) : State :=
  raiseAs .mm 0 0 2 [macro_, word] (src.getD (Blk.mm.source 0)) prodHub
    { s with mm := { s.mm with unexp := s.mm.unexp.put macro_ word, unexpHit := s.mm.unexpHit.put macro_ { word, at_ := s.tk.clk } } }

/-- An unexposed read is counted, and the first since the latch was cleared is latched (R780). -/
def unexposedRead (macro_ word : Nat) (src : Option Nat) (s : State) : State :=
  let s := bump 0x4F020 s
  if s.mm.unexp.has macro_ then
    { s with mm := { s.mm with unexpHit := s.mm.unexpHit.put macro_ { word, at_ := s.tk.clk, latched := false } } }
  else latchUnexposed macro_ word src s

/-- An uncorrectable read becomes its macro's latched entry and is raised (R780, R783, R788). -/
def latchUncorrectable (macro_ word : Nat) (src : Option Nat) (scrub : Bool) (s : State) : State :=
  raiseAs .mm 0 1 2 [macro_, word, b2n scrub] (src.getD (Blk.mm.source 0)) prodHub
    { s with mm := { s.mm with ue := s.mm.ue.put macro_ word, ueHit := s.mm.ueHit.put macro_ { word, at_ := s.tk.clk, scrub } } }

/-- An uncorrectable read, by the scrubber or not, is counted, and the first since the latch was cleared is latched (R780, R783). -/
def uncorrectableRead (macro_ word : Nat) (src : Option Nat) (scrub : Bool) (s : State) : State :=
  let s := bump 0x4F01C s
  if s.mm.ue.has macro_ then
    { s with mm := { s.mm with ueHit := s.mm.ueHit.put macro_ { word, at_ := s.tk.clk, scrub, latched := false } } }
  else latchUncorrectable macro_ word src scrub s

/-- A phase with its outputs low, and no duty waiting for the next boundary (R390, R402). -/
def Phase.low (p : Phase) : Phase := { p with duty := 0, next := 0, ready := false, share := 0, hi := none, lo := none, switched := false }

/-- A phase without test periods in progress; a failure found stays, to act at the next boundary (R410, R413, R414, R416). -/
def Phase.restart (p : Phase) : Phase := { p with runOpen := 0, stuck := [], runRail := 0 }

/-- A phase without test periods in progress or a failure found (R413, R414). -/
def Phase.fresh (p : Phase) : Phase := { p.restart with found := 0 }

/-- The period counts of a channel restart at 0 at a change of PERIOD (R410): the normal trips in a row and the tests in progress. -/
def restartCounts (c : Chan) : Chan :=
  { c with runSum := 0, phases := c.phases.map fun (p : Nat × Phase) => (p.1, { p.2.restart with runTrip := 0 }) }

/-- Every phase output low (R401, R402). -/
def phasesLow (c : Chan) : Chan := { c with phases := c.phases.map fun p => (p.1, { p.2.low with integ := 0 }) }

/-- The DISCH_US and FADE_US of DV_FADE, in ns, read now (R401, R402). -/
def dischNs (s : State) (n : Nat) : Nat := fld (s.wr (dvKey n 0x2C) 0x00C80190) 16 16 * 1000
def fadeNs (s : State) (n : Nat) : Nat := fld (s.wr (dvKey n 0x2C) 0x00C80190) 0 16 * 1000

/-- Cut the channel: outputs and CHEN low at once, then DISCH_US (R402); a cut replaces a fade (R412). -/
def cutChannel (n : Nat) (s : State) : State :=
  let c := s.ch n
  if c.st = .dark then s
  else if (c.fade.map (·.cut)).getD false then s
  else
    s.setCh n { phasesLow c with st := .fading, chen := false, ic := 0, limited := false,
                                 fade := some { cut := true, from_ := c.ic, start := s.tk.clk, fadeNs := 0,
                                                dischNs := dischNs s n, lowAt := some s.tk.clk } }

/-- Start a fade; it has no effect during a cut or another fade (R401, R412). -/
def fadeChannel (n : Nat) (s : State) : State :=
  let c := s.ch n
  if c.st = .dark || c.fade.isSome then s
  else
    s.setCh n { c with st := .fading,
                       fade := some { cut := false, from_ := c.ic, start := s.tk.clk, fadeNs := fadeNs s n,
                                      dischNs := dischNs s n, lowAt := none } }

/-- nC to mC, toward zero (R472).  [DEDUCED, unsafe: log 104] -/
def toMilli (v : Int) : Int := v.tdiv 1000000

/-! ### What the fixer gathers of a run (R616–R618) -/

/-- Change what is gathered of channel `n`'s run, while the fixer is ON (R631). -/
def fxRun (n : Nat) (f : FxRun → FxRun) (s : State) : State :=
  if s.isOn 10 then
    match s.fx.runs.find n with
    | some r => crossOpen (ciDom n) 10 { s with fx := { s.fx with runs := s.fx.runs.put n (f r) } }
    | none => s
  else s

/-- A run begins. -/
def fxRunStart (n gen : Nat) (s : State) : State :=
  if s.isOn 10 then crossOpen (ciDom n) 10 { s with fx := { s.fx with runs := s.fx.runs.put n { gen } } } else s

/-- Grading is enabled for channel `n`. -/
def fxEnabled (s : State) (n : Nat) : Bool := bitOf (s.wr (0x49004 + 4 * (n / 32)) 0) (n % 32)

/-- A run ends: it awaits its grade where its channel is enabled (R616). -/
def fxRunEnd (n : Nat) (why : EndReason) (s : State) : State :=
  let r := s.fx.runs.get n { gen := (s.ch n).gen }
  let s := { s with fx := { s.fx with runs := s.fx.runs.del n } }
  if s.isOn 10 && fxEnabled s n then
    { s with fx := { s.fx with ended := s.fx.ended ++ [(n, { r with endAt := s.tk.now, why })] } }
  else s

/-- A step begins. -/
def fxStepStart (n : Nat) (rest : Bool) (s : State) : State :=
  fxRun n (fun r => { r with stepAt := s.tk.now, rest, stepConf := 255, restLast := none, restMin := none }) s

/-- A quotient rounded to nearest, ties away from zero. -/
def divRound (a b : Int) : Int :=
  let q := (2 * a.natAbs + b.natAbs) / (2 * max b.natAbs 1)
  if (a < 0) = (b < 0) then (q : Int) else -(q : Int)

/-- REST_MIN_S and SD_MIN_S in ns. -/
def restMinNs (s : State) : Nat := fld (s.wr 0x4900C 0x02580258) 0 16 * 1000000000
def sdMinNs (s : State) : Nat := fld (s.wr 0x4900C 0x02580258) 16 16 * 1000000000

/-- A step that has run for `t` quarter ns ends, with its exposure and energy changes (R617).  [DEDUCED, unsafe: log 154] -/
def fxStepEnd (n t : Nat) (dq de : Int) (s : State) : State :=
  let len := t / 4
  fxRun n (fun r =>
    let r := if dq.tdiv 1000000 < 0 then
        { r with nDis := r.nDis + 1, cap := r.cap - dq, energy := r.energy - de, disAt := (r.stepAt, s.tk.now) :: r.disAt,
                 capConf := min r.capConf r.stepConf } else r
    let r : FxRun := if r.rest && decide (len ≥ restMinNs s) then
        let r : FxRun := match r.restLast with
          | some x => { r with ocv := some x, sd := none }
          | none => { r with ocv := none, sd := none }
        (match r.restLast, r.restMin with
        | some e, some m =>
          if len ≥ restMinNs s + sdMinNs s ∧ len > restMinNs s then
            { r with sd := some (divRound (3600 * 1000000000 * (e.v - m.v)) ((len - restMinNs s : Nat) : Int), m, e) } else r
        | _, _ => r) else r
    { r with rest := false, restLast := none, restMin := none }) s

/-- A step ends (R477): its record, with the index of the ending TERM. -/
def stepEnd (n : Nat) (term : Option Nat) (short overrun : Bool) (s : State) : State :=
  let c := s.ch n
  match c.step with
  | none => s
  | some st =>
    let s := fxStepEnd n st.t (c.expo - st.expo0) (c.energy - st.energy0) (s.setCh n { c with step := none, lastTerm := term })
    raise .dv n 0x20 0
      [st.pc, (term.getD 0xFF : Nat), (b2n short + 2 * b2n overrun + 4 * b2n st.ledgerStop : Nat),
       min (st.t / 4000000) 0xFFFFFFFF, satInt 32 (toMilli (c.expo - st.expo0)), satInt 32 ((c.energy - st.energy0).tdiv 1000),
       c.evalV, c.evalI] s

/-- Code and event class of an end reason (DV_RUN, R501). -/
def EndReason.code : EndReason → Nat
  | .none => 0 | .halt => 1 | .abort => 2 | .hostFade => 3 | .stop => 4 | .limit => 5 | .progFault => 6
  | .noPhase => 7 | .fence => 8

def EndReason.cls : EndReason → Nat
  | .progFault | .limit | .noPhase | .fence => 2
  | _ => 0

/-- Complete the HOLD, RESUME or ABORT that waits on channel `n`'s CI.  [DEDUCED, unsafe: log 70] -/
def settleCmds (n : Nat) (st : Status) (detail : Nat) (s : State) : State :=
  [0x13, 0x14, 0x15].foldl
    (fun s op => match execOf s op n with | some (r, _) => complete r st 0 detail s | none => s) s

/-- The channel's CI and MI domains, and in a gang those of the odd channel, are ON. -/
def chanOn (s : State) (n : Nat) : Bool :=
  (if (s.ch n).gang then [n, n + 1] else [n]).all fun k => s.isOn (ciDom k) && s.isOn (miDom k)

/-- End the run of a running or held channel: STEP_END for a step in execution, then its single RUN_END (R463, R477, R501).
The channel is FADING from here; its way to dark is the caller's.  A
command that waits on it fails with FAULT only where a domain is fenced (R296).
[DEDUCED, unsafe: log 70; DEDUCED, unsafe: log 106] -/
def endRun (n : Nat) (why : EndReason) (arg : Int) (byHub : Bool) (s : State) : State :=
  let c := s.ch n
  if c.st = .running ∨ c.st = .held then
    let s := stepEnd n none false false s
    let s := raiseAs .dv n 11 why.cls [why.code, arg, c.pc, c.gen] n (if byHub then prodHub else prodCi n) s
    let s := fxRunEnd n why s
    let c := s.ch n
    let s := s.setCh n { c with st := .fading, ended := why, step := none, wait := none,
                                cmds := { c.cmds with hold := false, resume := false, abort := false, hostFade := false } }
    let fenced := why == .fence && !chanOn s n
    settleCmds n (if fenced then .fault else .notRunning) (if fenced then 5 else 0) s
  else s

/-- Cancel channel `n`'s queued START with a status (R240, R269, R290, R292, R294). -/
def cancelQueued (n : Nat) (st : Status) (detail : Nat) (s : State) : State :=
  let c := s.ch n
  if c.queued then
    let s := s.setCh n { c with queued := false }
    match findExec s fun e => dOp e.d == 0x12 && dTarget e.d == n && e.stage == .queued with
    | some (r, _) => complete r st 0 detail s
    | none => s
  else s

/-- Cancel a START that has executed and waits for its first boundary; nothing that it brings has acted (R259). -/
def cancelStart (n : Nat) (st : Status) (detail : Nat) (s : State) : State :=
  let c := s.ch n
  if c.cmds.start.isSome then
    let s := s.setCh n { c with cmds := { c.cmds with start := none } }
    match execOf s 0x12 n with
    | some (r, _) => complete r st 0 detail s
    | none => s
  else s

/-- Latch a fault of the catalogue on a channel and raise CH_FAULT (R804, R806, R824); a queued START is cancelled (R292). -/
def latchFault (bit cause n : Nat) (s : State) : State :=
  let c := s.ch n
  let s := s.setCh n { c with faults := Nat.lor c.faults (2 ^ bit), cause }
  cancelQueued n .fault 6 (raiseAs .sb 0 4 2 [bit, cause] n prodHub s)

/-- A program fault: PROG_FAULT, the PROGRAM fault, the run's end and a fade (R499, R804 cause 0x21, R805). -/
def progFault (n cause word : Nat) (s : State) : State :=
  let s := raise .dv n 18 2 [cause, word] s
  let s := latchFault 1 0x21 n s
  fadeChannel n (endRun n .progFault cause false s)

/-- A safety limit is violated: LIMIT_TRIP, the LIMIT fault, the run's end and a cut (R491, R495, R804 cause 0x20).
[DEDUCED, unsafe: log 106] -/
def limitTrip (n item : Nat) (value : Int) (s : State) : State :=
  let s := raise .dv n 17 2 [item, value] s
  let s := latchFault 0 0x20 n s
  cutChannel n (endRun n .limit item false s)

/-- Exposure and energy, the power path and the stop bath find no phase left in service: CH_NO_PHASE, cut, run end (R419).
[DEDUCED, unsafe: log 193] -/
def noPhase (n : Nat) (s : State) : State :=
  if (inService s n).isEmpty && (s.ch n).st != .dark then
    let s := raise .dv n 9 2 [-1] s
    cutChannel n (endRun n .noPhase 0 false s)
  else s

/-- The words of macro `base + k` that no write has mended, for each of the channels `ks`. -/
def badState (s : State) (base : Nat) (ks : List Nat) : List (Nat × Nat) := s.mm.bad.filter fun e => ks.any fun k => e.1 == base + k

/-- Channel `n`'s block reads its state words of the macros `base + k`: an uncorrectable one reads as zero, is counted and latched, and the
channel is cut with the MEMORY fault (R779, R780, R804 cause 0x24).  [DESIGN CHOICE, unsafe: log 222] -/
def stateReads (base n : Nat) (ks : List Nat) (s : State) : State :=
  match badState s base ks with
  | [] => s
  | l =>
    let s := l.foldl (fun s (e : Nat × Nat) => uncorrectableRead e.1 e.2 (some (e.1 % 0x40)) false s) s
    cutChannel n (endRun n .fence 0 false (latchFault 5 0x24 n s))

/-- A safety-limit item's acting value (R490, R504). -/
def limitReset : Nat → Int
  | 0 => 4300000 | 1 => 2000000 | 4 => 6000 | 5 => -1000 | _ => 0

def limitVal (s : State) (n item : Nat) : Int := (s.acting (selKey (dvKey n 0x14) item) (wInt (limitReset item))).toInt

/-- Count a safety-limit test and trip after `need` consecutive violations (R490).  Only with CHEN high. -/
def limitTest (n item need : Nat) (bad : Bool) (value : Int) (s : State) : State :=
  let c := s.ch n
  if c.chen then
    let k := if bad then c.limRun.get item 0 + 1 else 0
    let s := s.setCh n { c with limRun := c.limRun.put item (if k ≥ need then 0 else k) }
    if k ≥ need then limitTrip n item value s else s
  else s

/-- Make an armed bank swap (R465): the active bank changes, the call stack empties, BANK_SWAPPED carries `mark`. -/
def swapBank (n mark : Nat) (s : State) : State :=
  let c := s.ch n
  let s := s.setCh n { c with active := 1 - c.active, armed := false, stack := [] }
  raiseAs .dv n 12 0 [(1 - c.active : Nat), mark] n (if s.isOn (ciDom n) then prodCi n else prodHub) s

/-- The clock count at which the retry time of a phase in RETRY_WAIT ends, or ended (R399). -/
def retryDue (s : State) (n : Nat) (p : Phase) : Nat := p.waitAt + fld (s.acting (dvKey n 0x28) 0x0A0A0090) 24 8 * 1000000

/-- The phase's last out-of-service trip lies within 1 µs of the clock count `t` (R408, R409).  [DEDUCED, unsafe: log 192] -/
def Phase.tripNear (p : Phase) (t : Nat) : Bool :=
  !p.history.isEmpty && decide (t ≤ p.waitAt + 1000) && decide (p.waitAt ≤ t + 1000)

/-- A channel short of phases `k` and then `j`, which stood at an average and a share in µA (R408, R421): every phase in service, retry wait or out-of-service trip is OUT_SHORT, and the
channel is cut.  [DEDUCED, unsafe: log 192; DEDUCED, unsafe: log 193] -/
def channelShort (n j k : Nat) (avg share : Int) (s : State) : State :=
  let out := fun (i : Nat) (q : Phase) =>
    if (q.st = .inService ∧ phEn s n i = true) ∨ q.st = .retryWait ∨ q.st = .outTrip then { q.low.fresh with st := PhState.outShort, due := false }
    else q
  let c := s.ch n
  let c := c.phaseList.foldl (fun c i => c.setPhase i (out i (c.phase i))) c
  let s := s.setCh n { c with short := true }
  let s := raise .dv n 5 2 [(2 * n + j : Nat), avg, share, (2 * n + k : Nat)] s
  noPhase n (cutChannel n (endRun n .noPhase 0 false (cancelQueued n .fault 6 s)))

/-- An out-of-service trip of a phase (R398, R399): RETRY_WAIT, or OUT_TRIP where RETRY_MS is 0 or it is the fourth within 1 s;
with another phase's trip, or the retry time of one in RETRY_WAIT, within the microsecond before, a channel short (R408, R409).
`ev` is the event bit.  [DEDUCED, unsafe: log 192] -/
def tripOut (n j ev : Nat) (s : State) : State :=
  let c := s.ch n
  let p := c.phase j
  let now := s.tk.clk
  let retry := fld (s.acting (dvKey n 0x28) 0x0A0A0090) 24 8
  let args : List Int := [(2 * n + j : Nat), p.avg.floor, p.share.floor]
  let recent := p.history.filter fun t => decide (now ≤ t + 1000000000)
  let fourth := decide (recent.length ≥ 3)
  let due := fun (q : Phase) =>
    (q.st == .retryWait || q.back) && decide (retryDue s n q ≤ now) && decide (now ≤ retryDue s n q + 1000)
  let p' := { p.low.restart with
    st := if retry = 0 ∨ fourth then .outTrip else .retryWait, waitAt := now, runTrip := 0, back := false, due := false, history := now :: recent }
  let s := raise .dv n ev 2 args (s.setCh n (c.setPhase j p'))
  match c.phaseList.find? fun k => k != j && ((c.phase k).tripNear now || due (c.phase k)) with
  | some k => channelShort n j k p.avg.floor p.share.floor s
  | none =>
    let s := if fourth && retry != 0 then raise .dv n 4 2 args s else s
    let s := if p'.st.out then cancelQueued n .fault 6 s else s
    noPhase n s

end Sys2Proof.Machine
end

