-- ==== Sys2Proof/Machine/Developer.lean ====
section
/-!
DEFINITION. Machine/Developer.lean: the recipe sequencer: reading recipe words (R466–R468, R471, R478), terminations
(R470–R476), flow and control instructions (R478), and beginning a step (R469).
-/
namespace Sys2Proof.Machine

/-- A field of a recipe word. -/
def rf (w : BitVec 64) (lsb width : Nat) : Nat := (w.toNat >>> lsb) % 2 ^ width

/-- A mask of `width` ones at `lsb`. -/
def ones (lsb width : Nat) : Nat := (2 ^ width - 1) * 2 ^ lsb

/-- The bits that an opcode's layout assigns (R467, R468, R471, R478); `none` for an illegal opcode (R466). -/
def recipeMask (op : Nat) : Option Nat :=
  let o := ones 58 6
  if 1 ≤ op ∧ op ≤ 8 then some (o + ones 54 4 + ones 53 1 + ones 48 4 + ones 47 1 + ones 40 4 + ones 0 32)
  else
    match op with
    | 0x0F => some (o + ones 54 4 + ones 53 1 + ones 51 2 + ones 48 3 + ones 47 1 + ones 43 4 + ones 32 9 + ones 0 32)
    | 0x10 => some (o + ones 0 9)
    | 0x11 => some (o + ones 54 4 + ones 40 4 + ones 0 9)
    | 0x12 => some (o + ones 40 4 + ones 0 9)
    | 0x13 => some (o + ones 0 9)
    | 0x14 => some o
    | 0x15 => some (o + ones 0 16)
    | 0x18 => some (o + ones 16 9 + ones 0 16)
    | 0x19 => some (o + ones 0 32)
    | 0x1A => some (o + ones 35 1 + ones 32 3 + ones 16 1 + ones 0 16)
    | 0x1B => some (o + ones 54 4 + ones 48 4 + ones 40 4 + ones 0 32)
    | 0x1C => some (o + ones 16 1 + ones 0 16)
    | _ => none

/-- The word's opcode is assigned and no reserved bit is set. -/
def wordOk (w : BitVec 64) : Bool :=
  match recipeMask (rf w 58 6) with
  | none => false
  | some m => Nat.land w.toNat m == w.toNat

/-- Variable `k` of the run (R480). -/
def Chan.var (c : Chan) (k : Nat) : Int := c.vars.get k 0
/-- 32-bit saturating assignment (R478). -/
def Chan.setVar (c : Chan) (k : Nat) (v : Int) : Chan := { c with vars := c.vars.put k (satInt 32 v) }

/-- The word at `pc` of the active bank. -/
def Chan.word (c : Chan) (pc : Nat) : Option (BitVec 64) := c.bank.find (c.active * 512 + pc)

/-- Read the word at `pc`, or the fault that ends the run: past word 511, unexposed or uncorrectable (R499, R779). -/
def fetchWord (n pc : Nat) (s : State) : Except (Nat × State) (BitVec 64) :=
  let c := s.ch n
  if pc > 511 then .error (3, s)
  else
    match c.word pc with
    | some w =>
      if s.mm.bad.contains (n, c.active * 512 + pc) then .error (2, uncorrectableRead n (c.active * 512 + pc) (some n) false s) else .ok w
    | none => .error (2, unexposedRead n (c.active * 512 + pc) (some n) s)

/-- A TERM word's own checks (R471, R472, R467). -/
def termOk (w : BitVec 64) : Bool :=
  wordOk w && decide (rf w 54 4 ≤ 9) && decide (rf w 51 2 ≠ 3)

/-- The step's TERM words at its first boundary: their words with their values, or a fault cause. -/
def readTerms (n pc : Nat) : Nat → State → Except (Nat × State) (List TermSt)
  | 0, _ => .ok []
  | k + 1, s =>
    match fetchWord n pc s with
    | .error (3, s) => .error (7, s)
    | .error e => .error e
    | .ok w =>
      if rf w 58 6 ≠ 0x0F then .error (7, s)
      else if !termOk w then .error (1, s)
      else
        let c := s.ch n
        let raw : Int := if rf w 47 1 = 1 then c.var (rf w 43 4) else signed 32 (rf w 0 32)
        let value := if rf w 54 4 = 5 then signed 16 (unsigned 32 raw) else raw
        match readTerms n (pc + 1) k s with
        | .error e => .error e
        | .ok l => .ok ({ word := w.toNat, value } :: l)

/-- TERM fields by number (R471). -/
def TermSt.qty (t : TermSt) : Nat := (t.word >>> 54) % 16
def TermSt.le (t : TermSt) : Bool := (t.word >>> 53) % 2 == 1
def TermSt.action (t : TermSt) : Nat := (t.word >>> 51) % 4
def TermSt.confirm (t : TermSt) : Nat := (t.word >>> 48) % 8
def TermSt.target (t : TermSt) : Nat := (t.word >>> 32) % 512
def TermSt.ledger (t : TermSt) : Bool := t.qty == 6 || t.qty == 7 || t.qty == 8

/-- Operand checks of a step at its first boundary (R469, R499 cause 0x8; PULSE or RAMP with A_VAR is cause 0x1). -/
def stepFault (op aVar : Nat) (a b va : Int) : Option Nat :=
  match op with
  | 5 => if a < 1 then some 8 else none
  | 7 => if aVar = 1 then some 1
         else if unsigned 32 va / 65536 = 0 ∨ unsigned 32 va % 65536 = 0 then some 8 else none
  | 8 => if aVar = 1 then some 1 else if b < 1 then some 8 else none
  | _ => none

/-- STEP-coded DV_PWM acts at a step boundary; a change of PERIOD restarts the period counts in progress, and the duties
already computed act in the new carrier's first period (R90, R410).
[DESIGN CHOICE, safe: log 16; DESIGN CHOICE, unsafe: log 201] -/
def actStep (n : Nat) (s : State) : State :=
  let key := dvKey n 0x20
  let near := takeNear (fun k => k == key) s
  let s := near.2
  if s.regs.pend.has key && near.1 then
    let old := fld (dvPwm s n) 0 13
    let s := { s with regs := { s.regs with pend := s.regs.pend.del key, act := s.regs.act.del key } }
    if fld (dvPwm s n) 0 13 ≠ old then s.setCh n (restartCounts (s.ch n)) else s
  else s

/-- Begin the step word `w` at `pc`, or the fault it causes (R468–R470).  [DEDUCED, unsafe: log 99] -/
def beginStep (n pc : Nat) (w : BitVec 64) (s : State) : Except (Nat × State) State :=
  let s := actStep n s
  let c := s.ch n
  let op := rf w 58 6
  let nterm := rf w 54 4
  let va := c.var (rf w 40 4)
  let aVar := rf w 47 1
  let a : Int := if aVar = 1 then va else signed 32 (rf w 0 32)
  let b := c.var (rf w 48 4)
  if nterm > 8 then .error (7, s)
  else
    match stepFault op aVar a b va with
    | some k => .error (k, s)
    | none =>
      match readTerms n (pc + 1) nterm s with
      | .error e => .error e
      | .ok terms =>
        .ok (fxStepStart n (op == 6) <| s.setCh n { c with
          pc, wait := none, vInteg := if op = 2 ∨ op = 3 then c.vInteg else 0,
          step := some { pc, op, a, b, va, ledgerStop := rf w 53 1 == 1, terms, seen := s.tk.now, expo0 := c.expo,
                         energy0 := c.energy } })

/-- A quantity of R472 as SETV reads it, in its unit; `none` where it has never been evaluated.
[DESIGN CHOICE, safe: log 101] -/
def quantity (c : Chan) (q : Nat) : Option Int :=
  let last := match c.step with
    | some st => some (st.t, c.expo - st.expo0, c.energy - st.energy0)
    | none => c.lastEval
  match q with
  | 0 => last.map fun e => ((e.1 / 4000 : Nat) : Int)
  | 1 => last.map fun e => ((e.1 / 4000000 : Nat) : Int)
  | 2 => if c.evaled then some c.evalV else none
  | 3 => if c.evaled then some c.evalI else none
  | 4 => if c.evaled then some (Int.natAbs c.evalI) else none
  | 5 => if c.evaled then some c.evalT else none
  | 6 => last.map fun e => toMilli e.2.1
  | 7 => last.map fun e => e.2.2.tdiv 1000
  | 8 => some (toMilli c.expo)
  | 9 => c.print.map (·.2)
  | _ => none

/-- Where the sequencer goes after a flow or control instruction. -/
inductive Flow where
  | goto (pc : Nat)
  | halt (code : Nat)
  | waiting
  | fault (cause : Nat)
  deriving DecidableEq, Repr

/-- JIF's COND (R478); `none` for an illegal value. -/
def jifHolds (c : Chan) (cond va : Nat) : Option Bool :=
  match cond with
  | 0 => some c.c
  | 1 => some (!c.c)
  | 2 => some (c.var va == 0)
  | 3 => some (c.var va != 0)
  | 4 => some (decide (c.var va < 0))
  | 5 => some (decide (c.var va > 0))
  | _ => none

/-- SETV (R478).  FN 6 of a quantity never evaluated reads an open value.  [DESIGN CHOICE, safe: log 101] -/
def setv (n : Nat) (w : BitVec 64) (s : State) : Option State :=
  let c := s.ch n
  let d := rf w 48 4
  let vs := c.var (rf w 40 4)
  let imm := signed 32 (rf w 0 32)
  let put := fun v => some (s.setCh n (c.setVar d v))
  match rf w 54 4 with
  | 0 => put imm
  | 1 => put (c.var d + imm)
  | 2 => put vs
  | 3 => put (c.var d + vs)
  | 4 => put (c.var d - vs)
  | 5 => put (-(c.var d))
  | 6 =>
    if rf w 0 4 > 9 then none
    else
      match quantity c (rf w 0 4) with
      | some v => put v
      | none => some ((spend s).setCh n (c.setVar d (signed 32 (openNat s))))
  | _ => none

/-- One flow or control instruction at `pc` (R478). -/
def flowInstr (n pc : Nat) (w : BitVec 64) (s : State) : Flow × State :=
  let c := s.ch n
  let target := rf w 0 9
  match rf w 58 6 with
  | 0x10 => (.goto target, s)
  | 0x11 =>
    match jifHolds c (rf w 54 4) (rf w 40 4) with
    | none => (.fault 1, s)
    | some b => (.goto (if b then target else pc + 1), s)
  | 0x12 =>
    let c := c.setVar (rf w 40 4) (c.var (rf w 40 4) - 1)
    (.goto (if c.var (rf w 40 4) > 0 then target else pc + 1), s.setCh n c)
  | 0x13 =>
    if c.stack.length ≥ 4 then (.fault 5, s) else (.goto target, s.setCh n { c with stack := (pc + 1) :: c.stack })
  | 0x14 =>
    match c.stack with
    | [] => (.fault 6, s)
    | r :: rest => (.goto r, s.setCh n { c with stack := rest })
  | 0x15 => (.halt (rf w 0 16), s)
  | 0x18 => if c.armed then (.goto (rf w 16 9), swapBank n (rf w 0 16) s) else (.goto (pc + 1), s)
  | 0x19 =>
    if rf w 0 32 = 0 then (.fault 8, s)
    else (.waiting, s.setCh n { c with pc, step := none, wait := some { pc, period := rf w 0 32 * 1000, since := localTime s (ciDom n) } })
  | 0x1A =>
    (.goto (pc + 1),
     s.setCh n { c with prio := if rf w 35 1 = 1 then rf w 32 3 else c.prio, cap := if rf w 16 1 = 1 then rf w 0 16 else c.cap })
  | 0x1B => match setv n w s with | some s => (.goto (pc + 1), s) | none => (.fault 1, s)
  | 0x1C =>
    let m := rf w 0 16
    let hit := match c.print with
      | none => false
      | some (f, _) => if rf w 16 1 = 1 then Nat.land f m == m else Nat.land f m != 0
    (.goto (pc + 1), s.setCh n { c with c := hit })
  | _ => (.fault 1, s)

/-- Execute from `pc` until a step begins, a WAIT_SYNC waits or the run ends (R475 step 4, R478, R499 cause 0x4).  `fuel`
counts the flow and control instructions still allowed in a row, which a WAIT_SYNC ends. -/
def execFlow (n : Nat) : Nat → Nat → State → State
  | fuel, pc, s =>
    match fetchWord n pc s with
    | .error (k, s) => progFault n k pc (s.setCh n { s.ch n with pc := min pc 511 })
    | .ok w =>
      let bad := fun k (s : State) => progFault n k pc (s.setCh n { s.ch n with pc })
      if !wordOk w then bad 1 s
      else if rf w 58 6 ≤ 8 then
        match beginStep n pc w s with
        | .error (k, s) => bad k s
        | .ok s => s
      else if rf w 58 6 = 0x0F then bad 1 s
      else
        match fuel with
        | 0 =>
          if rf w 58 6 = 0x19 then
            match flowInstr n pc w s with
            | (.fault k, s) => bad k s
            | r => r.2
          else bad 4 s
        | fuel + 1 =>
          match flowInstr n pc w s with
          | (.goto pc', s) => execFlow n fuel pc' s
          | (.halt code, s) => fadeChannel n (endRun n .halt code false (s.setCh n { s.ch n with pc }))
          | (.waiting, s) => s
          | (.fault k, s) => bad k s

/-- Whether a TERM is evaluated at this boundary (R472, R473).  [DEDUCED, unsafe: log 103] -/
def termDue (c : Chan) (t : TermSt) : Bool :=
  match t.qty with
  | 2 | 3 | 4 => c.freshSample
  | 5 => c.freshSample && c.evalT != -32768
  | 9 => c.freshPrint && c.print.any fun p => p.2 != -32768
  | _ => true

/-- The comparison of a TERM (R471, R472); times are compared exactly, in quarter ns. -/
def termHolds (c : Chan) (st : StepSt) (t : TermSt) : Bool :=
  let cmp := fun (q v : Int) => if t.le then decide (q ≤ v) else decide (q ≥ v)
  match t.qty with
  | 0 => cmp st.t (t.value * 4000)
  | 1 => cmp st.t (t.value * 4000000)
  | q => match quantity c q with | some v => cmp v t.value | none => false

/-- Evaluate the TERMs of the step in written order (R473–R475): the TERMs after, the index that ends the step if any, and
the ledger TERMs newly reached. -/
def evalTerms (c : Chan) (st : StepSt) : Nat → List TermSt → List TermSt × Option Nat × List Nat
  | _, [] => ([], none, [])
  | k, t :: rest =>
    if !termDue c t then
      let (l, e, r) := evalTerms c st (k + 1) rest
      (t :: l, e, r)
    else
      let met := if termHolds c st t then t.met + 1 else 0
      let t := { t with met }
      if met ≥ t.confirm + 1 then
        if t.ledger && !st.ledgerStop then
          let (l, e, r) := evalTerms c st (k + 1) rest
          ({ t with reached := true } :: l, e, if t.reached then r else k :: r)
        else (t :: rest, some k, [])
      else
        let (l, e, r) := evalTerms c st (k + 1) rest
        (t :: l, e, r)

/-- The step ends on TERM `k`: STEP_SHORT, LEDGER_OVERRUN and STEP_END, then the TERM's action (R471, R474, R476, R477). -/
def endStep (n k : Nat) (st : StepSt) (s : State) : State :=
  let c := s.ch n
  match st.terms[k]? with
  | none => s
  | some t =>
    let short := decide (t.qty ≤ 1) && decide (t.value * (if t.qty = 0 then 4000 else 4000000) < periodQ s n)
    let s := if short then raise .dv n 13 1 [st.pc] s else s
    let overs := (List.range st.terms.length).filter fun i => i != k && ((st.terms[i]?).map (·.reached)).getD false
    let s := overs.foldl (fun s i =>
      match st.terms[i]? with
      | some t' =>
        let v := (quantity c t'.qty).getD 0
        raise .dv n 15 1 [st.pc, (i : Nat), v - t'.value] (s.setCh n { s.ch n with overrun := some (v - t'.value) })
      | none => s) s
    let s := stepEnd n (some k) short (!overs.isEmpty) s
    match t.action with
    | 0 => execFlow n 64 (st.pc + 1 + st.terms.length) s
    | 1 => execFlow n 64 t.target s
    | _ => fadeChannel n (endRun n .halt (0xFF00 + k : Nat) false s)

/-- The period that ended counts toward the step that a running channel executes, and not toward one that is held (R470). -/
def stepPeriod (n : Nat) (s : State) : State :=
  let c := s.ch n
  let q := if c.st = .running then periodQ s n else 0
  s.setCh n { c with step := c.step.map fun (st : StepSt) => ({ st with t := st.t + q, seen := s.tk.now } : StepSt) }

/-- R475 steps 3 and 4 for a channel executing a step or a WAIT_SYNC.  [DEDUCED, unsafe: log 100] -/
def developerTurn (n : Nat) (s : State) : State :=
  let c := s.ch n
  match c.step, c.wait with
  | some st, _ =>
    let c := { c with lastEval := some (st.t, c.expo - st.expo0, c.energy - st.energy0) }
    let (terms, ended, reached) := evalTerms c st 0 st.terms
    let st := { st with terms }
    let s := s.setCh n { c with step := some st }
    let s := reached.foldl (fun s k =>
      match terms[k]? with
      | some t => raise .dv n 14 1 [st.pc, (k : Nat), (quantity c t.qty).getD 0] s
      | none => s) s
    match ended with
    | none => s
    | some k => endStep n k st s
  | none, some w =>
    if localTime s (ciDom n) ≥ (w.since + w.period - 1) / w.period * w.period then
      execFlow n 64 (w.pc + 1) (s.setCh n { c with wait := none })
    else s
  | none, none => s

/-- The next generation (R286). -/
def nextGen (g : Nat) : Nat := if g ≥ 0xFFFF then 1 else g + 1

/-- A START's run begins at this boundary (R488, R423, R479, R480). -/
def beginRun (n : Nat) (a : StartArgs) (s : State) : State :=
  let c := s.ch n
  let s := s.setCh n { c with
    st := .running, gen := nextGen c.gen, chen := true, cmds := { c.cmds with start := none }, stack := [], lastTerm := none,
    print := none, c := false, vInteg := 0, pc := a.entry, prio := a.prio, cap := 0, vars := a.vars, lastEval := none, overrun := none, cleared := true,
    limRun := [],
    phases := c.phases.map fun p => (p.1, { p.2.low with ramp := 0, back := false, integ := 0 }) }
  let s := c.phaseList.foldl (fun s j => let c := s.ch n; s.setCh n (c.setPhase j { c.phase j with ramp := 0, integ := 0 })) s
  let s := match execOf s 0x12 n with
    | some (r, _) => complete r .ok (s.tk.now % 2 ^ 32) 0 s
    | none => s
  let s := fxRunStart n (s.ch n).gen (raise .dv n 10 0 [(s.ch n).gen, a.entry, c.active] s)
  execFlow n 64 a.entry s

end Sys2Proof.Machine
end

