-- ==== Sys2Proof/Machine/PowerPath.lean ====
section
/-!
DEFINITION. Machine/PowerPath.lean: what a CI does at a control-period boundary beside the recipe: phase averages and the trim
(R385, R386, R394), exposure and energy (R481–R483, R494), the loop and the duties (R390–R396, R411, R418, R423), the
open-phase and sense tests (R413–R417), and the progress of a fade (R401).
-/
namespace Sys2Proof.Machine

/-- One ADC code in µA (R386). -/
def codeUa : Rat := 39062.5

/-- Mean of a period's ADC codes in µA (R385, R386).  [DESIGN CHOICE, unsafe: log 110] -/
def codesMean (l : List Int) : Rat := if l.isEmpty then 0 else ((l.foldl (· + ·) 0 : Int) : Rat) / (l.length : Rat) * codeUa

/-- Enter a value's absolute value. -/
def rabs (x : Rat) : Rat := if x < 0 then -x else x

/-- Clamp to ±`m`. -/
def rclamp (m x : Rat) : Rat := if x > m then m else if x < -m then -m else x

/-- The lesser in magnitude; the second of two equal ones (the CV output, itself capped at the step current, R391).
[DEDUCED, unsafe: log 108] -/
def lesser (x y : Rat) : Rat := if rabs x < rabs y then x else y

/-- Take the phase averages of the period that ended (R385).  [DESIGN CHOICE, unsafe: log 110] -/
def takeAverages (codes : List (List Int)) (c : Chan) : Chan :=
  c.phaseList.foldl (fun c j => c.setPhase j { c.phase j with avg := codesMean (codes.getD j []) }) c

/-- The fast sum before trim (R394).  [DEDUCED, unsafe: log 98] -/
def fastSum (c : Chan) : Rat := c.phaseList.foldl (fun a j => a + (c.phase j).avg) 0

/-- The trim after each millisecond, from the mean difference of shunt current and trimmed fast sum (R394).
[DEDUCED, unsafe: log 98] -/
def trimStep (clk : Nat) (c : Chan) : Chan :=
  let c := match c.iShunt with
    | some i => { c with trimSum := c.trimSum + ((i : Rat) - c.iFast), trimN := c.trimN + 1 }
    | none => c
  if clk ≥ c.trimAt + 1000000 then
    let t := if c.trimN = 0 then c.trim else rclamp ((fullScale c : Rat) / 50) (c.trim + c.trimSum / (c.trimN : Rat))
    { c with trim := t, trimSum := 0, trimN := 0, trimAt := clk }
  else c

/-- Add to a saturating counter with a residue (R481, R483): the counter and the residue after. -/
def accumulate (v : Int) (res add : Rat) : Int × Rat :=
  let t := res + add
  (satInt 64 (v + t.floor), t - t.floor)

/-- Charge in nC and energy in µJ of a current in µA over quarter ns at a voltage in µV (R9, R481). -/
def chargeOf (i : Rat) (q : Nat) : Rat := i * (q : Rat) / 4000000
def energyOf (i : Rat) (v : Int) (q : Nat) : Rat := i * (v : Rat) * (q : Rat) / 4000000000000000

/-- R475 step 1: integrate the period that ended, apply a pending preset, then check saturation (R481, R483, R494).
[DEDUCED, unsafe: log 104; DESIGN CHOICE, unsafe: log 109] -/
def integrate (n : Nat) (s : State) : State :=
  let c := s.ch n
  let q := periodQ s n
  let dq := if c.chen then chargeOf c.iFast q else 0
  let de := if c.chen then energyOf c.iFast c.vFast q else 0
  let (expo, expoRes) := accumulate c.expo c.expoRes dq
  let (energy, energyRes) := accumulate c.energy c.energyRes de
  -- the difference between the precise and the fast charge of the sample that has arrived
  let corrOn := c.freshSample && c.chen && !c.sample.fastPath
  let corrQ : Rat := if corrOn then chargeOf c.sample.i 1000000 - c.lastQ else 0
  let corrE : Rat := if corrOn then energyOf c.sample.i c.sample.v 1000000 - c.lastE else 0
  let (energy, energyRes) := accumulate energy energyRes corrE
  -- the part of that difference which lies after a preset already applied
  let winStart := s.tk.clk - (s.tk.now - c.sample.time) - 250000
  let frac : Rat := match c.presetAt with
    | some t => if c.freshSample ∧ winStart < t then
        max 0 (min 1 (1 - ((t : Rat) - winStart) / 250000)) else 1
    | none => 1
  let (expo, expoRes, presetAt, applied) : Int × Rat × Option Nat × Bool := match c.preset with
    | none =>
      let (e, r) := accumulate expo expoRes (corrQ * frac)
      (e, r, if c.freshSample ∧ frac = 1 then none else c.presetAt, false)
    | some p =>
      let len : Rat := (q : Rat) / 4
      let f : Rat := if len = 0 then 0 else max 0 (min 1 (((s.tk.clk : Rat) - p.at_) / len))
      let g : Rat := if c.freshSample then max 0 (min 1 (1 - ((p.at_ : Rat) - winStart) / 250000)) else 0
      let (e, r) := accumulate p.value 0 (dq * f + corrQ * g)
      (e, r, some p.at_, true)
  let lim : Bool := expo == 2 ^ 63 - 1 || expo == -(2 ^ 63)
  let arrived := lim && decide (expo ≠ c.expo)
  let s := s.setCh n { c with
    expo, expoRes, energy, energyRes, preset := none, presetAt, expoSat := lim,
    anchor := match c.preset with | some p => some p.value | none => c.anchor,
    cleared := c.cleared || applied, overrun := if applied then none else c.overrun,
    winQ := c.winQ + dq, winE := c.winE + de, winI := c.winI + c.iFast, winN := c.winN + 1 }
  let s := if arrived then raise .dv n 16 1 [if expo < 0 then 1 else 0] s else s
  if applied then
    match execOf s 0x16 n with
    | some (r, _) => complete r .ok 0 0 s
    | none => s
  else s

/-- The step's current command before any clamp, in µA (R391, R469), with the CV integrator after it and whether an open
value stood in for a division by a zero cell voltage.  [DESIGN CHOICE, safe: log 102; DEDUCED, unsafe: log 108] -/
def stepCommand (s : State) (n : Nat) (st : StepSt) : Rat × Rat × Bool :=
  let c := s.ch n
  let loop := s.acting (dvKey n 0x24) 0x20084010
  let cv := fun (target cap : Int) =>
    let err : Rat := ((target - c.vFast : Int) : Rat) / 1000
    let integ := rclamp (rabs cap) (c.vInteg + (fld loop 16 8 : Rat) / 4096 * 1000000 * err)
    (rclamp (rabs cap) ((fld loop 24 8 : Rat) / 64 * 1000000 * err + integ), integ)
  let us : Rat := (st.t : Rat) / 4000
  match st.op with
  | 1 => (st.a, 0, false)
  | 2 => let (i, k) := cv st.a st.b; (i, k, false)
  | 3 => let (i, k) := cv st.b st.a; (lesser st.a i, k, false)
  | 4 => if c.vFast = 0 then (signed 32 (openNat s), 0, true) else ((st.a : Rat) * 1000000000 / c.vFast, 0, false)
  | 5 => (-((c.vFast : Rat) * 1000000 / st.a), 0, false)
  | 7 =>
    let t1 := unsigned 32 st.va / 65536 * 40000
    let t2 := unsigned 32 st.va % 65536 * 40000
    (if st.t % (t1 + t2) < t1 then st.a else st.b, 0, false)
  | 8 => (if us ≥ st.b then (st.a : Rat) else (st.va : Rat) + ((st.a - st.va : Int) : Rat) * us / st.b, 0, false)
  | _ => (0, 0, false)

/-- The limit in µA that the shutter grant sets on the magnitude of `ic`; a grant holds to the end of its lease in the CI's local time (R513, R514). -/
def grantLimit (s : State) (n : Nat) (ic : Rat) : Rat :=
  let c := s.ch n
  let c := if localTime s (ciDom n) < c.grantEnd then c else { c with grant := 0 }
  let v : Rat := max c.vFast 100000
  let eta : Rat := (fld (s.acting 0x46004 0x001003B6) 0 10 : Rat) / 1000
  let g : Rat := c.grant
  if ic > 0 then (if c.grant > 0 then g * eta / v * 1000000000000 else 0)
  else (if c.grant < 0 then -g / (eta * v) * 1000000000000 else 0)

/-- Clamp the command to envelope, safety limits, the bus rule and the grant (R392, R411): the command, the command before the
grant's clamp (R508), and whether the envelope acted (R418). -/
def clampIc (s : State) (n : Nat) (ic : Rat) : Rat × Rat × Bool :=
  let env : Rat := envelope s n
  let safe : Rat := if ic > 0 then limitVal s n 2 else limitVal s n 3
  let y := rclamp (max 0 safe) (rclamp env ic)
  let y := if y < 0 ∧ s.sb.vbus > 60000 then 0 else y
  (rclamp (grantLimit s n ic) y, y, decide (rabs ic > env))

/-- The clamped command becomes the channel's; LIMITED follows the envelope's clamp, and LIMITED_ON its rise (R418). -/
def setCommand (n : Nat) (raw integ : Rat) (s : State) : State :=
  let c := s.ch n
  let (ic, icReq, lim) := clampIc s n raw
  let s := s.setCh n { c with ic, icReq, vInteg := integ, limited := lim }
  if lim && !c.limited then raise .dv n 8 1 [-1] s else s

/-- The command of the loop at this boundary: the step's, a fade's, or 0 A (R391, R401, R469, R485).
[DESIGN CHOICE, unsafe: log 109] -/
def loopCommand (n : Nat) (s : State) : State :=
  let c := s.ch n
  let none_ := s.setCh n { c with ic := 0, icReq := 0, limited := false }
  match c.st, c.step, c.fade with
  | .running, some st, _ =>
    let (raw, integ, used) := stepCommand s n st
    setCommand n raw integ (if used then spend s else s)
  | .fading, _, some f =>
    if f.cut ∨ f.lowAt.isSome then none_
    else
      let left : Rat := if f.fadeNs = 0 then 0 else max 0 (1 - ((s.tk.clk - f.start : Nat) : Rat) / f.fadeNs)
      setCommand n (f.from_ * left) c.vInteg s
  | _, _, _ => none_

/-- Whether the channel's phases may switch in the coming period (R401, R402, R469, R485). -/
def switching (c : Chan) : Bool :=
  c.chen &&
    match c.st with
    | .running => (match c.step with | some st => st.op != 6 | none => false)
    | .fading => (match c.fade with | some f => !f.cut && f.lowAt.isNone | none => false)
    | _ => false

/-- The PWMH and PWML pulses of a period of `period` units at duty `d` with `dead` units of dead time, of a phase whose own period begins
at `start` (R382–R384); a unit is 156.25 ps.  A pulse shorter than 10 ns is not issued, nor the dead time adjacent to it; `whole` says
that the low-side pulse before was such a one.  [DESIGN CHOICE, unsafe: log 218] -/
def pulses (d : Rat) (period dead start : Nat) (whole : Bool) : Option Pulse × Option Pulse :=
  let edge := (d * (period : Rat)).floor.toNat
  let up := decide (d * (period : Rat) - (dead : Rat) ≥ 64)
  let down := decide ((period : Rat) - d * (period : Rat) - (dead : Rat) ≥ 64)
  (if up then some { rise := start + (if whole then 0 else dead), fall := start + edge } else none,
   if down then some { rise := start + edge + (if up then dead else 0), fall := start + period } else none)

/-- The coming period of a phase that switches: the high-side duty computed at the last boundary acts, and the one that acts at
the next is computed from this boundary's share and the average of the period that ended, with the phase's part of the trim, so that the loop regulates the fast sum
after trim (R383, R390, R392–R394, R396, R399).
The first boundary of a phase only computes; its outputs stay low and its share 0 A until the next (R390, R423).
[DEDUCED, unsafe: log 188; DEDUCED, unsafe: log 189] -/
def drivePhase (full trim ff ki kp : Rat) (period dead start : Nat) (p : Phase) : Phase :=
  let share := if p.ready then full * (p.ramp : Rat) / 64 else 0
  let err := (share - (p.avg + trim)) / 1000000
  let integ := p.integ + ki / 65536 * err
  let next := max 0 (min 1 (ff + kp / 4096 * err + integ))
  let duty := p.next
  if p.ready then
    let o := pulses duty period dead start (p.hi.isSome && p.lo.isNone)
    { p with
      share, integ, duty, next, ramp := min 64 (p.ramp + 1), back := p.back && decide (p.ramp + 1 < 64), hi := o.1, lo := o.2,
      switched := o.1.isSome || o.2.isSome }
  else { p.low with integ, next, ready := true }

/-- Shares and duties (R390, R392, R393, R423).
[DESIGN CHOICE, unsafe: log 109; DEDUCED, unsafe: log 188; DEDUCED, unsafe: log 189; DEDUCED, unsafe: log 190] -/
def setDuties (n : Nat) (s : State) : State :=
  let c := s.ch n
  let live := inService s n
  let k := live.length
  let loop := s.acting (dvKey n 0x24) 0x20084010
  let period := 8 * fld (dvPwm s n) 0 13
  let dead := 8 * fld (dvPwm s n) 16 8
  let full : Rat := if k = 0 then 0 else rclamp 30000000 (c.ic / k)
  let trim : Rat := if k = 0 then 0 else c.trim / k
  let ratio : Rat := if s.sb.vbus = 0 then 0 else (c.vFeed : Rat) / (s.sb.vbus * 1000 : Nat)
  let one := fun (c : Chan) (j : Nat) =>
    c.setPhase j (if switching c && live.contains j then
      drivePhase full trim ratio (fld loop 0 8 : Rat) (fld loop 8 8 : Rat) period dead (period * carrierQuarter j / 4) (c.phase j)
    else (c.phase j).low)
  s.setCh n (c.phaseList.foldl one c)

/-- The windows of periods in which a phase may be STUCK, each with its first sample and its length: those that the period's
samples continue, and one that begins with this period (R414). -/
def stuckWindows (codes : List Int) (w : List (Int × Nat)) : List (Int × Nat) :=
  match codes with
  | [] => []
  | x :: _ => (w ++ [(x, 0)]).filterMap fun (p : Int × Nat) =>
      if (codes.all fun y => decide ((y - p.1).natAbs ≤ 2)) = true then some (p.1, p.2 + 1) else none

/-- Judge one phase's samples for open, STUCK and RAIL (R413, R414, R417).  [DEDUCED, unsafe: log 107] -/
def testPhase (codes : List Int) (p : Phase) : Phase :=
  let low := decide (rabs p.avg < rabs p.share / 10) && decide (rabs p.share > 6000000) && !p.back
  let stuck := if p.switched then stuckWindows codes p.stuck else []
  let rail := !codes.isEmpty && codes.all fun x => x == 2047 || x == -2048
  let p := { p with runOpen := if low then p.runOpen + 1 else 0, stuck, runRail := if rail then p.runRail + 1 else 0 }
  let found := if p.runRail ≥ 8 then 3 else if stuck.any fun w => decide (w.2 ≥ 8) then 2 else if p.runOpen ≥ 8 then 1 else 0
  { p with found }

/-- Charge a SUM failure to the phase furthest from its share, or to two within 0.5 A of each other (R415). -/
def chargeSum (c : Chan) (live : List Nat) : Chan :=
  let off := fun j => rabs ((c.phase j).avg - (c.phase j).share)
  let worst := live.foldl (fun b j => match b with | none => some j | some k => if off j > off k then some j else some k) none
  match worst with
  | none => c
  | some w =>
    let others := live.filter fun j => j != w
    let second := others.foldl (fun b j => match b with | none => some j | some k => if off j > off k then some j else some k) none
    let mark := fun (c : Chan) j => c.setPhase j { c.phase j with found := if (c.phase j).found = 0 then 4 else (c.phase j).found }
    let c := mark c w
    match second with
    | some j => if off w - off j ≤ 500000 then mark c j else c
    | none => c

/-- Phases found open or with failed sense, with a code of `which`, leave service now (R416, R417); a channel without a phase is
cut (R419).  [DEDUCED, unsafe: log 107] -/
def actFound (which : Nat → Bool) (n : Nat) (s : State) : State :=
  let c := s.ch n
  let hit := c.phaseList.filter fun j => which (c.phase j).found && ((c.phase j).st == .inService || (c.phase j).st == .retryWait)
  let s := hit.foldl (fun s j =>
    let c := s.ch n
    let p := c.phase j
    let st : PhState := if p.found = 1 then .outOpen else .outSense
    let s := s.setCh n (c.setPhase j { p.low.fresh with st, due := false })
    let args : List Int := [(2 * n + j : Nat), p.avg.floor, p.share.floor]
    let s := if p.found = 1 then raise .dv n 6 2 args s else raise .dv n 7 2 (args ++ [(p.found : Int) - 1]) s
    cancelQueued n .fault 6 s) s
  if hit.isEmpty then s else noPhase n s

/-- The tests of the period that ended (R413–R415); the SUM test rests in a CAL_GAP. -/
def testPhases (n : Nat) (codes : List (List Int)) (s : State) : State :=
  let gap := (s.mi n).winAt.isSome || ((s.ch n).gang && (s.mi (n + 1)).winAt.isSome)
  let c := s.ch n
  let live := inService s n
  let c := c.phaseList.foldl (fun c j =>
    c.setPhase j (if live.contains j then testPhase (codes.getD j []) (c.phase j) else (c.phase j).fresh)) c
  let c := match if gap then none else c.iShunt with
    | none => c
    | some i =>
      let bad := decide (rabs (fastSum c - i) > (fullScale c : Rat) / 20)
      let k := if bad then c.runSum + 1 else 0
      if k ≥ 8 then { chargeSum c live with runSum := 0 } else { c with runSum := k }
  s.setCh n c

/-- A fade's ramp has ended: at this boundary the outputs and CHEN go low and the discharge wait begins (R401).
[DEDUCED, unsafe: log 191] -/
def fadeStep (n : Nat) (s : State) : State :=
  let c := s.ch n
  match c.st, c.fade with
  | .fading, some f =>
    if !f.cut && f.lowAt.isNone && decide (s.tk.clk ≥ f.start + f.fadeNs) then
      s.setCh n { phasesLow c with chen := false, ic := 0, fade := some { f with lowAt := some s.tk.clk } }
    else s
  | _, _ => s

/-- The PWM-coded registers of channel `n` (R90, R942): DV_LIMITS items, DV_LOOP and DV_TRIP. -/
def isPwmKey (n key : Nat) : Bool :=
  key % 0x100000 == dvKey n 0x14 || key == dvKey n 0x24 || key == dvKey n 0x28

/-- A pending HOLD, ABORT, host-loss FADE, RESUME or START acts at this boundary, or else the developer takes its turn
(R475 steps 2–4, R485, R486, R488, R493).  [DEDUCED, unsafe: log 99] -/
def commandsAndTurn (n : Nat) (s : State) : State :=
  let c := s.ch n
  let done := fun op (s : State) => match execOf s op n with | some (r, _) => complete r .ok 0 0 s | none => s
  if (c.st = .running ∨ c.st = .held) ∧ (c.cmds.abort ∨ c.cmds.hostFade) then
    let s := if c.cmds.abort then done 0x15 s else s
    fadeChannel n (endRun n (if c.cmds.abort then .abort else .hostFade) 0 false s)
  else if c.st = .running ∧ c.cmds.hold then
    done 0x13 (s.setCh n { c with st := .held, cmds := { c.cmds with hold := false } })
  else if c.st = .held ∧ c.cmds.resume then
    let c := { c with
      st := .running, cmds := { c.cmds with resume := false }, vInteg := 0,
      step := c.step.map fun (st : StepSt) => ({ st with terms := st.terms.map fun (t : TermSt) => ({ t with met := 0 } : TermSt) } : StepSt),
      wait := c.wait.map fun (w : WaitSt) => ({ w with since := localTime s (ciDom n) } : WaitSt) }
    let c := c.phaseList.foldl (fun c j => c.setPhase j { c.phase j with ramp := 0, back := false, integ := 0 }) c
    done 0x14 (s.setCh n c)
  else if c.st = .running then developerTurn n s
  else if c.st = .dark then (match c.cmds.start with | some a => beginRun n a s | none => s)
  else s

/-- The stage voltage of the coming period: mean high-side duty × VBUSS in µV (R613).  [DEDUCED, unsafe: log 189] -/
def stageVolts (n : Nat) (s : State) : State :=
  let c := s.ch n
  let live := inService s n
  if c.chen && !live.isEmpty then
    let d : Rat := live.foldl (fun (a : Rat) j => a + (c.phase j).duty) 0 / (live.length : Rat)
    s.setCh n { c with stageSum := c.stageSum + d * ((s.sb.vbus * 1000 : Nat) : Rat), stageN := c.stageN + 1 }
  else s

/-- PULSE is in its first phase at step time `t` (R469). -/
def pulseHigh (st : StepSt) (t : Nat) : Bool :=
  let t1 := unsigned 32 st.va / 65536 * 40000
  let t2 := unsigned 32 st.va % 65536 * 40000
  decide (t % (t1 + t2) < t1)

/-- A step has started, or PULSE has changed its phase, with a change of the commanded current from `was`: a DCIR measurement
begins (R618).  [DEDUCED, unsafe: log 153] -/
def fxCurrentStep (n : Nat) (was : Rat) (s : State) : State :=
  let c := s.ch n
  match c.st, c.step with
  | .running, some st =>
    let q := periodQ s n
    let edge := st.t == 0 || (st.op == 7 && decide (q ≤ st.t) && pulseHigh st st.t != pulseHigh st (st.t - q))
    let di := (c.icReq - was).floor
    if edge && decide (di.natAbs ≥ fld (s.wr 0x49010 0x03E81388) 0 16 * 1000) && !c.sample.fastPath && !c.sample.calGap &&
        decide (c.sample.time ≤ s.tk.now) then
      fxRun n (fun r => { r with waits := r.waits ++ [{ at_ := s.tk.now, di, v := c.sample.v, t := c.sample.time }] }) s
    else s
  | _, _ => s

/-- CIs whose state a boundary of channel `n` reads: its own, and in a gang its executor's.  Each writes the words back whole, so an
uncorrectable one stands no longer (R776, R779).  [DESIGN CHOICE, unsafe: log 222] -/
def ciStateReads (n : Nat) (s : State) : State :=
  let ks := if (s.ch n).gang then [n, n + 1] else [n]
  let gone := badState s 0x40 ks
  let s := stateReads 0x40 n ks s
  { s with mm := { s.mm with bad := s.mm.bad.filter fun e => !gone.contains e } }

/-- A phase whose retry time has elapsed returns at this boundary, and its share ramps (R399). -/
def retryReturns (n : Nat) (s : State) : State :=
  ((s.ch n).phaseList.filter fun j => ((s.ch n).phase j).st == .retryWait && ((s.ch n).phase j).due).foldl (fun s j =>
    let c := s.ch n
    let p := c.phase j
    raise .dv n 3 1 [(2 * n + j : Nat), p.avg.floor, p.share.floor]
      (s.setCh n (c.setPhase j { p.low with st := .inService, ramp := 0, back := true, runTrip := 0, due := false }))) s

/-- The edges of a phase's pulses, counted from the 0° instant of the next period of `len` units (R404). -/
def Phase.edgesBefore (len : Nat) (p : Phase) : List Int :=
  ([p.hi, p.lo].filterMap id).flatMap fun (q : Pulse) => [(q.rise : Int) - len, (q.fall : Int) - len]

/-- The phases of a period that begins: its edges before are known, and a normal trip of the boundary's own clock cycle applies to it
(R404, R407). -/
def newPeriod (len : Nat) (old c : Chan) : Chan :=
  c.phaseList.foldl (fun c j =>
    let p := { c.phase j with edges := (old.phase j).edgesBefore len }
    c.setPhase j (if p.tripNext then { p with tripped := true, tripNext := false, hi := none, lo := none, switched := false }
      else { p with tripped := false, runTrip := if p.tripped then p.runTrip else 0 })) c

/-- In a gang the duties of ph 4k+2 and ph 4k+3 cross to CI 2k+1 once per period, and their averages and trip states cross back (R378). -/
def gangCross (n : Nat) (s : State) : State :=
  if (s.ch n).gang then crossOpen (ciDom n) (ciDom (n + 1)) (crossOpen (ciDom (n + 1)) (ciDom n) s) else s

/-- One control-period boundary of channel `n` (R390, R475): `codes` are the ADC samples of each phase in the period that
ended.  [DEDUCED, unsafe: log 193] -/
def pwmBoundary (n : Nat) (codes : List (List Int)) (s : State) : State :=
  if s.present n && s.isOn (ciDom n) then
    let len := 8 * fld (dvPwm s n) 0 13
    let s := gangCross n (ciStateReads n (actDue (isPwmKey n) s))
    let old := s.ch n
    let c := takeAverages codes (s.ch n)
    let c := { c with iFast := fastSum c + c.trim }
    let s := s.setCh n (trimStep s.tk.clk c)
    let s := testPhases n codes (actFound (fun k => k != 0) n s)
    let s := actFound (fun k => k == 2 || k == 3) n s
    let s := stepPeriod n (integrate n (retryReturns n s))
    let i := (s.ch n).iFast
    let fifty : Int := fullScale (s.ch n) / 50
    let s := limitTest n 2 4 (decide (i > ((limitVal s n 2 + fifty : Int) : Rat))) i.floor s
    let s := limitTest n 3 4 (decide (i < ((-(limitVal s n 3 + fifty) : Int) : Rat))) i.floor s
    let s := fadeStep n (commandsAndTurn n s)
    let s := if (s.ch n).st = .running then s else actStep n s
    let s := if (s.ch n).chen then noPhase n s else s
    let was := (s.ch n).icReq
    let s := stageVolts n (fxCurrentStep n was (setDuties n (loopCommand n s)))
    let c := newPeriod len old (s.ch n)
    s.setCh n { c with freshSample := false, freshPrint := false, iShunt := none, periods := c.periods + 1 }
  else s

/-- The normal-trip threshold in µA (R397), and the blanking interval in units of 156.25 ps (R404). -/
def tripUa (s : State) (n : Nat) : Nat := fld (s.acting (dvKey n 0x28) 0x0A0A0090) 0 8 * 250000
def blankUnits (s : State) (n : Nat) : Nat := fld (s.acting (dvKey n 0x28) 0x0A0A0090) 16 8 * 64

/-- The edges of the phase's outputs, counted from the running period's 0° instant (R404). -/
def Phase.allEdges (p : Phase) : List Int := p.edges ++ p.edgesBefore 0

/-- The end of blanking for a condition that stands at `t`: `t` itself outside blanking, and else the end of the interval of the last edge,
which an edge within it restarts (R404); `fuel` bounds the edges. -/
def blankEnd (edges : List Int) (blank : Nat) : Nat → Int → Int
  | 0, t => t
  | k + 1, t =>
    match edges.filter fun e => decide (e ≤ t) && decide (t < e + blank) with
    | [] => t
    | e :: rest => blankEnd edges blank k (rest.foldl max e + blank)

/-- NORMAL_TRIP (R397, R398, R404, R407): from `at_` on, in units of 156.25 ps from the running period's 0° instant, the phase carries `ua` µA
for `lasts` more units.  Above the threshold the trip acts at that instant, or where blanking still lasts at its end if the condition still
holds: the outputs are low to the end of the period.  In the clock cycle of the coming boundary it applies to the new period.  In the
sixteenth period in a row the phase leaves service. -/
def normalTrip (n j : Nat) (ua : Int) (at_ lasts : Nat) (s : State) : State :=
  let c := s.ch n
  let p := c.phase j
  let len := 8 * fld (dvPwm s n) 0 13
  let e := blankEnd p.allEdges (blankUnits s n) (p.allEdges.length + 1) at_
  let next := decide ((len : Int) ≤ e)
  let trips := decide (tripUa s n < ua.natAbs) && decide (e ≤ at_ + lasts) && decide (e < len + 8)
  if s.present n && s.isOn (ciDom n) && trips && c.phaseList.contains j && phEn s n j && p.st == .inService &&
      !(if next then p.tripNext else p.tripped) then
    let run := if next && !p.tripped then 1 else p.runTrip + 1
    let p' := if next then { p with tripNext := true, runTrip := run } else { p with tripped := true, runTrip := run, hi := none, lo := none }
    let s := s.setCh n (c.setPhase j p')
    let s := bumpBy (dvKey n 0x30) 0xFF 1 s
    if run ≥ 16 then tripOut n j 0 s else s
  else s

def execNormalTrip (n j : Nat) (ua : Int) (at_ lasts : Nat) (s : State) : Out := .next (mainOn s (normalTrip n j ua at_ lasts s))

/-- HARD_TRIP (R405, R398): the phase carries `ua` µA, above twice the threshold; it is never blanked. -/
def hardTrip (n j : Nat) (ua : Int) (s : State) : State :=
  let c := s.ch n
  if s.present n && s.isOn (ciDom n) && decide (2 * tripUa s n < ua.natAbs) && c.phaseList.contains j && phEn s n j && (c.phase j).st == .inService then tripOut n j 1 s else s

def execHardTrip (n j : Nat) (ua : Int) (s : State) : Out := .next (mainOn s (hardTrip n j ua s))

/-- DRIVER_FAULT: FLT# of a phase has been low for 20 ns, or high again (R388, R398, R406). -/
def driverFault (n j : Nat) (low : Bool) (s : State) : State :=
  let c := s.ch n
  if s.present n && c.phaseList.contains j then
    let s := s.setCh n (c.setPhase j { c.phase j with flt := low })
    if low && s.isOn (ciDom n) && phEn s n j && (c.phase j).st == .inService then tripOut n j 2 s else s
  else s

def execDriverFault (n j : Nat) (low : Bool) (s : State) : Out := .next (mainOn s (driverFault n j low s))

/-- PH_RETRY: RETRY_MS has elapsed, and the phase returns at the next period boundary; with RETRY_MS at 0 it does not, and is OUT_TRIP
(R399).  With another phase's trip within 1 µs of that instant it counts as one of the two of a channel short (R409).
[DEDUCED, unsafe: log 192] -/
def phRetry (n j : Nat) (s : State) : State :=
  let c := s.ch n
  let p := c.phase j
  if s.present n && s.isOn (ciDom n) && c.phaseList.contains j && p.st == .retryWait && !p.due then
    if fld (s.acting (dvKey n 0x28) 0x0A0A0090) 24 8 = 0 then s.setCh n (c.setPhase j { p with st := .outTrip })
    else
      let due := retryDue s n p
      let s := advanceClk due s
      match c.phaseList.find? fun k => k != j && (c.phase k).tripNear due with
      | some k => channelShort n j k p.avg.floor p.share.floor s
      | none => s.setCh n (c.setPhase j { p with due := true })
  else s

def execPhRetry (n j : Nat) (s : State) : Out := .next (mainOn s (phRetry n j s))

end Sys2Proof.Machine
end

