-- ==== Sys2Proof/Machine/Shutter.lean ====
section
/-!
DEFINITION. Machine/Shutter.lean: the shutter: request words (R507, R508), the contest of each round (R505–R512, R525–R531),
grant words (R513, R514), the engine's modes and range (R515–R518, R821), and the commands that set them (R276, R522, R526).
-/
namespace Sys2Proof.Machine

def State.shc (s : State) (n : Nat) : ShCh := s.sh.ch.get n {}
def State.setShc (s : State) (n : Nat) (x : ShCh) : State := { s with sh := { s.sh with ch := s.sh.ch.put n x } }

/-- SH_ registers as they act now, at their reset values until written. -/
def shConfig (s : State) : Word := s.acting 0x46004 0x001003B6
def shFloorW (s : State) : Int := fld (s.acting 0x46008 0) 0 16
def shSink (s : State) : Int := fld (s.acting 0x4600C 0) 0 22
def shCeil (s : State) : Int := min 32767 (fld (s.acting 0x46010 0) 0 16)
def shRackBudget (s : State) : Int := fld (s.acting 0x46014 0) 0 22

/-- NET_MAX and NET_MIN (R515); in FLOOR mode the gross cap of R516 bounds draws in NET_MAX's place. -/
def netRange (s : State) : Int × Int :=
  match s.sh.mode with
  | .standalone => (shCeil s, -min (shSink s) 32767)
  | .rack | .holding => (min (shCeil s) (max s.sh.net 0), min s.sh.net 0)
  | .floor => (shCeil s, 0)

/-- The value a floor ramp goes to (R516). -/
def capTo (s : State) : Int := min (shFloorW s) (shCeil s)

/-- The floor cap at this round (R516); between whole watts it is taken down.  [DEDUCED, unsafe: log 127] -/
def floorCap (s : State) : Int :=
  if s.sh.capGone ≥ s.sh.capLen then capTo s
  else (s.sh.capFrom * s.sh.capLen - (s.sh.capFrom - capTo s) * s.sh.capGone) / s.sh.capLen

/-- Sum of grants, and of positive grants (R511, R516). -/
def grantSum (s : State) : Int := s.channelList.foldl (fun a n => a + (s.shc n).grant) 0
def grantGross (s : State) : Int := s.channelList.foldl (fun a n => a + max 0 (s.shc n).grant) 0

/-- SH_STATUS.OVER: held grants lie outside the range (R524). -/
def overRange (s : State) : Bool :=
  let (hi, lo) := netRange s
  if s.sh.mode = .floor then decide (grantGross s > floorCap s) || decide (grantSum s < lo)
  else decide (grantSum s > hi) || decide (grantSum s < lo)

/-- Where the held grants lie within the range again, the next beat that finds them outside it raises OVER_BUDGET anew (R524). -/
def rangeEnds (s : State) : State := { s with sh := { s.sh with ranged := s.sh.ranged && overRange s } }

/-- REQ_W of channel `n` now (R508, R479).  [DEDUCED, unsafe: log 194] -/
def reqW (s : State) (n : Nat) : Int :=
  let c := s.ch n
  let eta : Rat := (fld (shConfig s) 0 10 : Rat) / 1000
  let p : Rat := (c.vFast : Rat) * c.icReq / 1000000000000
  let raw : Int := if !c.chen then 0 else if c.icReq > 0 then (p / eta).ceil
    else if c.icReq < 0 then -(((c.vFast : Rat) * (-c.icReq) / 1000000000000 * eta).floor) else 0
  let lim : Int := if c.cap = 0 then 32767 else min c.cap 32767
  max (-lim) (min lim raw)

/-- A request word: envelope `e` in A, priority `p` and request `r` in W (R507). -/
def requestBits (e p : Nat) (r : Int) : Word := w32 (at_ 20 7 e + at_ 16 3 p + at_ 0 16 (unsigned 16 r))

/-- REQUEST_WORD (R400, R507, R508): an ON CI sends its request word across its crossing to the shutter; a gang's odd CI sends zeros, which
count only for the watchdog.  A word that the queue puts after the round boundary of its own hub cycle is one of the next cycle (R525).
[DEDUCED, unsafe: log 124; DESIGN CHOICE, unsafe: log 219] -/
def requestWord (n : Nat) (s : State) : State :=
  if n < s.variant.channels ∧ s.isOn (ciDom n) then
    let s := if s.tk.now = s.sh.roundAt then advance 1 s else s
    let x := s.shc n
    let e := (envelope s n / 1000000).toNat
    let r := reqW s n
    let p := (s.ch n).prio
    let t := offerWords (ciDom n) 8 [if s.gangOdd n then 0 else requestBits e p r] s
    if !s.isOn 8 then t
    else if s.gangOdd n then t.setShc n { x with seen := true }
    else t.setShc n { x with seen := true, word := some (e, p, r), env := e, prio := p, req := r }
  else s

def execRequestWord (n : Nat) (s : State) : Out := .next (mainOn s (requestWord n s))

/-- Effective level (R509). -/
def ShCh.level (x : ShCh) : Nat := x.prio - x.age / 64

/-- The request decided at this boundary (R506). -/
def ShCh.asked (x : ShCh) : Int := match x.word with | some (_, _, r) => r | none => 0

/-- `a` ranks before `b` (R510).  [DEDUCED, unsafe: log 125] -/
def ranksBefore (s : State) (a b : Nat) : Bool :=
  let x := s.shc a; let y := s.shc b
  let pos := fun n => (n + 64 - s.sh.rot) % 64
  if x.level ≠ y.level then decide (x.level < y.level)
  else if x.age ≠ y.age then decide (x.age > y.age)
  else decide (pos a < pos b)

/-- Insert a contender in rank order. -/
def rankIns (s : State) (a : Nat) : List Nat → List Nat
  | [] => [a]
  | b :: t => if ranksBefore s a b then a :: b :: t else b :: rankIns s a t

/-- Leases, sign changes and shrinking requests at a boundary, for one channel (R511, R512, R529, R530): a channel without a request
keeps its grant to the lease's end. -/
def leaseTurn (n : Nat) (s : State) : State :=
  let x := s.shc n
  let x := if s.isOn (ciDom n) then x else { x with grant := 0, lease := 0 }
  let ends := decide (x.lease = 1)
  let lost := x.grant
  let x := { x with lease := x.lease - 1 }
  let x := if ends then { x with grant := 0 } else x
  let x := match x.word with
    | some (_, _, r) =>
      let x := if x.grant ≠ 0 ∧ r.sign ≠ x.grant.sign then { x with grant := 0 } else x
      if r.natAbs < x.grant.natAbs then { x with grant := r } else x
    | none => x
  let x := if x.grant = 0 then { x with lease := 0 } else x
  let s := s.setShc n x
  if ends && x.word.isNone then raise .sh 0 2 1 [n, lost] (bump 0x4602C s) else s

/-- Pass 2: draws in rank order; `room` is what is left of the range (R511).  [DEDUCED, unsafe: log 125] -/
def passDraws (s : State) : List Nat → Int → List (Nat × Int)
  | [], _ => []
  | n :: t, room =>
    let x := s.shc n
    if x.asked > 0 then
      let g := max 0 (min (x.asked - x.grant) room)
      (n, g) :: passDraws s t (room - g)
    else passDraws s t room

/-- Pass 3: returns taken back from the lowest rank up, `need` watts in all (R511).  [DEDUCED, unsafe: log 125] -/
def passBack : List (Nat × Int) → Int → List (Nat × Int)
  | [], _ => []
  | (n, g) :: t, need =>
    let back := max 0 (min need (-g))
    (n, g + back) :: passBack t (need - back)

/-- The contest (R511): each contender's gift.  [DEDUCED, unsafe: log 125] -/
def contest (s : State) (rank : List Nat) : List (Nat × Int) :=
  let (hi, lo) := netRange s
  let rets := (rank.filter fun n => decide ((s.shc n).asked < 0)).map fun n => (n, (s.shc n).asked - (s.shc n).grant)
  let sumR := rets.foldl (fun a e => a + e.2) 0
  let room := if s.sh.mode = .floor then floorCap s - grantGross s else hi - grantSum s - sumR
  let draws := passDraws s rank room
  let total := grantSum s + sumR + draws.foldl (fun a e => a + e.2) 0
  draws ++ passBack rets.reverse (max 0 (lo - total))

/-- What the decision leaves of AGE and STARVED for one channel (R509, R531); a round without its request leaves AGE. -/
def ageTurn (n : Nat) (s : State) : State :=
  let x := s.shc n
  let r := x.asked
  let unmet := decide (r.natAbs > x.grant.natAbs)
  if x.word.isNone then s.setShc n { x with same := 0 }
  else
  let same := if x.prev = r then x.same else 0
  let x := if unmet then { x with age := x.age + 1, same := same + 1, prev := r }
    else { x with age := 0, same := 0, starved := false, prev := r }
  if x.same ≥ 65536 && !x.starved then raise .sh 0 4 1 [n, r] (s.setShc n { x with starved := true }) else s.setShc n x

/-- The rack grant in hand acts: RACK mode (R515, R517). -/
def rackGrant (s : State) : State :=
  let was := s.sh.mode
  let s := { s with sh := { s.sh with mode := .rack, granted := true, late := false, net := signed 16 (fld s.sh.grantIn 0 16) } }
  if was = .floor ∨ was = .holding then raise .sh 0 1 0 [] s else s

/-- A grant that arrived after its beat boundary acts at the first round boundary (R554).
[DEDUCED, unsafe: log 129; DEDUCED, unsafe: log 141] -/
def lateGrant (s : State) : State := if s.sh.late then rackGrant s else s

/-- The shutter decides the round that ends now (R505, R506, R509–R512, R516, R525–R531).
[DEDUCED, unsafe: log 126; DEDUCED, unsafe: log 127] -/
def decideRound (s : State) : State :=
  let gone := if s.sh.capAt = s.tk.clk then s.sh.capGone else s.sh.capGone + 1
  let s := lateGrant { s with sh := { s.sh with roundAt := s.tk.now, early := false, capGone := gone } }
  let before := s
  let s := s.channelList.foldl (fun s n => leaseTurn n s) s
  let cont := s.channelList.filter fun n => decide ((s.shc n).asked.natAbs > (s.shc n).grant.natAbs)
  let rank := cont.foldl (fun l n => rankIns s n l) []
  let gifts := contest s rank
  let give := fun n => (gifts.find? fun e => e.1 == n).elim 0 (·.2)
  let s := rank.foldl (fun s n =>
    let x := s.shc n
    if give n = 0 then s
    else s.setShc n { x with grant := x.grant + give n, lease := 4, leaseEnd := s.tk.now + 4000 }) s
  let part := rank.filter fun n => decide (give n ≠ 0) && decide ((s.shc n).grant ≠ (s.shc n).asked)
  let level := rank.foldl (fun a n => if (s.shc n).grant ≠ (s.shc n).asked then min a (s.shc n).level else a) 7
  let req := s.channelList.foldl (fun a n => a + (s.shc n).asked) 0
  let unmet := s.channelList.any fun n => decide ((s.shc n).asked.natAbs > (s.shc n).grant.natAbs)
  let s := s.channelList.foldl (fun s n => ageTurn n s) s
  let s := { s with sh := { s.sh with
    rot := match part.getLast? with | some n => (n + 1) % 64 | none => s.sh.rot,
    level, netReq := max (-32767) (min (shCeil s) req) } }
  let s := if unmet then bump 0x46034 s else s
  rangeEnds <| s.channelList.foldl (fun s n =>
    let x := s.shc n
    let old := before.shc n
    let changed := decide (x.grant ≠ old.grant) || decide (give n ≠ 0)
    let missed := if s.isOn (ciDom n) then (if x.seen then 0 else x.missed + 1) else 0
    s.setShc n { x with sent := if changed then some x.grant else x.sent, word := none, seen := false, missed }) s

/-- GRANT_WORD (R513, R514): the grant on its way reaches the CI, which keeps it to the end of its lease.
[DEDUCED, unsafe: log 126] -/
def grantWord (n : Nat) (s : State) : State :=
  let x := s.shc n
  match x.sent with
  | some g =>
    let s := offerWords 8 (ciDom n) [w32 (unsigned 16 g)] (s.setShc n { x with sent := none })
    if s.isOn (ciDom n) then s.setCh n { s.ch n with grant := g, grantEnd := x.leaseEnd } else s
  | none => s

def execGrantWord (n : Nat) (s : State) : Out := .next (mainOn s (grantWord n s))

/-- BEAT-coded values act (R90, R91, R526).  [DEDUCED, unsafe: log 128] -/
def actBeat (s : State) : State := actDue (fun k => teOf s.variant k == .beat) s

/-- The shutter at a beat boundary (R515–R518, R524, R526, R528, R821), after BEAT values have acted; `old` is the state before
they did.  [DEDUCED, unsafe: log 128] -/
def shutterBeat (old s : State) : State :=
  let s := if s.sh.mode = .floor ∧ s.sh.capGone < s.sh.capLen ∧ capTo old ≠ capTo s then
      { s with sh := { s.sh with capFrom := floorCap old, capLen := fld (shConfig s) 16 8, capAt := s.tk.clk, capGone := 0 } }
    else s
  let s :=
    if s.sh.gotOne then rackGrant { s with sh := { s.sh with missed := 0, gotOne := false } }
    else if s.sh.joined then
      let m := min 15 (s.sh.missed + 1)
      let s := { s with sh := { s.sh with missed := m } }
      if !s.sh.granted || s.sh.mode = .floor then s
      else if m ≤ 2 then
        let t := { s with sh := { s.sh with mode := .holding } }
        if m = 1 then raise .sb 0 7 1 [s.sh.net] t else t
      else
        let g := grantGross s
        let t := { s with sh := { s.sh with
          mode := .floor, capFrom := g, capLen := if g ≤ capTo s then 0 else fld (shConfig s) 16 8, capAt := s.tk.clk, capGone := 0 } }
        if m = 3 then raise .sh 0 0 1 [m, g] t else t
    else s
  let ranged := overRange s
  let s' := { s with sh := { s.sh with ranged } }
  if ranged && !s.sh.ranged then
    raise .sh 0 3 1 [grantSum s, if s.sh.mode = .floor then floorCap s else (netRange s).1] s'
  else s'

/-- The node sends JOIN: FLOOR mode with the cap at its value from the start (R518).  [DEDUCED, unsafe: log 128] -/
def shutterJoin (s : State) : State :=
  { s with sh := { s.sh with mode := .floor, granted := false, capLen := 0 } }

/-- A CI domain leaves ON: its grant is released at once (R530).  [DEDUCED, unsafe: log 124] -/
def releaseGrant (n : Nat) (s : State) : State := rangeEnds (s.setShc n { s.shc n with grant := 0, lease := 0, missed := 0 })

/-- Key of the value that a BUDGET_SET writes. -/
def budgetKey (d : List Byte) : Nat := if dU8 d 0x10 = 0 then 0x46010 else 0x46014

/-- BUDGET_SET (R256, R276, R526): the ceiling or the rack budget, acting from the next beat, at which the command completes. -/
def budgetSet (r : Nat) (d : List Byte) (s : State) : State :=
  checked r d needNothing false (putLater (budgetKey d) 0 (w32 (dU32 d 0x14))) s

/-- A BUDGET_SET whose value acts completes. -/
def budgetDone (s : State) : State :=
  match findExec s fun e => dOp e.d == 0x30 with
  | some (r, e) => if s.regs.pend.has (budgetKey e.d) then s else complete r .ok 0 0 s
  | none => s

def execBudgetSet (r : Nat) (s : State) : Out := .next (mainOn s (begin_ r 0x30 (budgetSet r) s))

/-- PRIORITY_SET (R276, R522, R523): recorded in the CI at once. -/
def prioritySet (r : Nat) (d : List Byte) (s : State) : State :=
  checked r d (needChannel d) true (fun s =>
    let n := dTarget d
    complete r .ok 0 0 (s.setCh n { s.ch n with prio := dU8 d 0x10 })) s

def execPrioritySet (r : Nat) (s : State) : Out := .next (mainOn s (begin_ r 0x31 (prioritySet r) s))

/-! ### SH_ registers -/

/-- SH_STATUS, apart from MASTER. -/
def shStatus (s : State) : Nat :=
  let mode := match s.sh.mode with | .standalone => 0 | .rack => 1 | .holding => 2 | .floor => 3
  at_ 28 4 s.sh.missed + at_ 4 1 (b2n (overRange s)) +
    at_ 3 1 (b2n (s.sh.mode == .floor && decide (s.sh.capGone < s.sh.capLen))) + at_ 0 2 mode

/-- SH_CH_STATUS and SH_CH_REQ of a channel. -/
def shChStatus (s : State) (n : Nat) : Nat :=
  let x := s.shc n
  at_ 16 16 (unsigned 16 x.grant) + at_ 13 3 x.prio + at_ 10 3 x.level + at_ 7 3 x.lease + at_ 0 7 (min 127 (x.age / 64))
def shChReq (s : State) (n : Nat) : Nat := at_ 16 7 (s.shc n).env + at_ 0 16 (unsigned 16 (s.shc n).req)

end Sys2Proof.Machine
end

