-- ==== Sys2Proof/Machine/Jikanlink.lean ====
section
/-!
DEFINITION. Machine/Jikanlink.lean: the rack ring: ports, forwarding and wrapping (R543–R547, R579–R584, R588), SYNC and
rack time (R158–R162, R546, R548, R571–R573), trains and the rack division (R521, R550–R554), messages (R556–R561), tones
(R562), membership and mastership (R564–R570).
-/
namespace Sys2Proof.Machine

/-! ### Ports and cells -/

def State.port (s : State) (p : Nat) : Port := s.jl.port.get p {}
def State.setPort (s : State) (p : Nat) (x : Port) : State := { s with jl := { s.jl with port := s.jl.port.put p x } }

/-- JL_ registers: port control, node ID, node control (R576, R587). -/
def jlPortCtl (s : State) (p : Nat) : Word := s.wr (0x47004 + 0x400 * p) 0x00001101
def jlNodeId (s : State) : Nat := fld (s.wr 0x47040 0x3F) 0 6
def jlControl (s : State) : Word := s.acting 0x47044 0x001F0300
/-- JOIN_EN and CLAIM_EN; a bad sheet and the park sequence act as zeros (R65, R830).  [DEDUCED, unsafe: log 184] -/
def joinEn (s : State) : Bool := bitOf (jlControl s) 0 && !s.sheet.hold && s.sl.parking.isNone
def claimEn (s : State) : Bool := bitOf (jlControl s) 1 && !s.sheet.hold && s.sl.parking.isNone
def claimRank (s : State) : Nat := fld (jlControl s) 8 2

/-- A port's state (R588). -/
def portState (s : State) (p : Nat) : PortState :=
  if bitOf (jlPortCtl s p) 0 && s.isOn (11 + p) then (s.port p).st else .off

def portUp (s : State) (p : Nat) : Bool := portState s p == .up

/-- Beat number of this instant (R520). -/
def beatNow (s : State) : Nat := s.tk.now / 4000

/-- The node is a member (R564). -/
def isMember (s : State) : Bool := s.jl.st == .member || s.jl.st == .master

/-- The node follows a master's SYNC. -/
def follows (s : State) : Bool :=
  match s.jl.st with | .follower | .joining | .member | .refused => true | _ => false

/-- A master's frames pass the node: it follows one whose SYNC has not been missing for three beats (R558, R569).
[DESIGN CHOICE, unsafe: log 138] -/
def framed (s : State) : Bool := follows s && decide (s.jl.miss < 3)

/-- Cell type, RING, and the message fields of a header (R540). -/
def cType (h : Nat) : Nat := h / 4096 % 16
def cRing (h : Nat) : Nat := h / 2048 % 2
def cAlt (h : Nat) : Nat := h / 1024 % 2
def cDst (h : Nat) : Nat := h / 32 % 32
def cSrc (h : Nat) : Nat := h % 32
def cCell (h : Nat) : Nat := h / 256 % 8

/-- `bytes` put into a payload at `o`. -/
def plPut (pl : List Byte) (o : Nat) (bytes : List Byte) : List Byte := pl.take o ++ bytes ++ pl.drop (o + bytes.length)

/-- Sixteen zero bytes. -/
def plZero : List Byte := List.replicate 16 0

/-- The CRC a cell is sent with (R539, R543): over its content; as received where it arrived bad and is unchanged; inverted where it
arrived bad and is changed. -/
def Cell.crc (c : Cell) : Nat :=
  match c.raw with
  | some r => r
  | none => let k := crc16 (cellBytes c.hdr c.pl); if c.bad then 0xFFFF - k else k

/-- Idle ordered sets stand before a cell of this type, which leave the running disparity negative: before a SYNC, which follows a guard,
before a CLAIM, and before every cell while no master is followed (R534, R544, R558, R569).  [DEDUCED, unsafe: log 213] -/
def idleBefore (s : State) (h : Nat) : Bool :=
  cType h == 1 || cType h == 8 || !(framed s || s.jl.st == .master)

/-- Send a cell's code-groups on port `q` (R534, R538).  [DEDUCED, unsafe: log 213] -/
def sendCell (q : Nat) (c : Cell) (s : State) : State :=
  let l := cellLine (!idleBefore s c.hdr && (s.port q).txRd) c.hdr c.pl c.crc
  send (.cell q c l.1) (s.setPort q { s.port q with txRd := l.2 })

/-- Cells bound for port `p` are turned onto the other one (R582). -/
def turned (s : State) (p : Nat) : Bool := (s.port p).wrap && portUp s (1 - p)

/-- Send a cell on port `q` itself: a port without PLL lock holds it (R579), an OFF port sends nothing (R588); the cell crosses to the
port's domain (R135, R147). -/
def txDirect (q : Nat) (c : Cell) (s : State) : State :=
  match portState s q with
  | .off => if s.isOn (11 + q) then s else offerOpen 1 (11 + q) s
  | .notReady => s.setPort q { s.port q with held := (s.port q).held ++ [(beatNow s, c)] }
  | _ => sendCell q c (crossOpen 1 (11 + q) s)

/-- Send a cell out of port `p`, or out of the other one where the node wraps (R582); an ECHO concerns the hop of its own port and is
never turned (R549). -/
def txCell (p : Nat) (c : Cell) (s : State) : State :=
  if turned s p && cType c.hdr != 9 then
    txDirect (1 - p) (if cType c.hdr = 1 then
      { c with pl := plPut c.pl 15 [(c.pl.getD 15 0) ||| 1], bad := c.bad || c.raw.isSome, raw := none } else c) s
  else txDirect p c s

/-- Forward a cell that arrived on port `p` (R536, R543). -/
def forward (p : Nat) (c : Cell) (s : State) : State := txCell (1 - p) c s

/-- A cell that passes its check ends the port's run of bad cells (R581).  [DEDUCED, unsafe: log 213] -/
def goodCell (p h : Nat) (pl : List Byte) (s : State) : State :=
  let rd := (cellLine (!idleBefore s h && (s.port p).rxRd) h pl (crc16 (cellBytes h pl))).2
  s.setPort p { s.port p with bad := 0, rxRd := rd }

/-- A cell of type `ty` comes to port `p` and passes its check: it acts as `act` says.  A cell of another type, such as a reserved one,
never acts: the master ends it, any other node forwards it unchanged (R541, R545). -/
def cellTaken (ty p h : Nat) (pl : List Byte) (act : State → State) (s : State) : State :=
  if portState s p = .off then s
  else
    let s := goodCell p h pl s
    if cType h = ty then act s
    else if s.jl.st = .master then s
    else forward p { hdr := h, pl } s

/-- A guard with `n` idle ordered sets leaves on a port that sends (R544).  [DEDUCED, unsafe: log 213] -/
def sendGuard (n q : Nat) (s : State) : State :=
  match portState s q with
  | .off | .notReady => s
  | _ =>
    let l := guardGroups n (s.port q).txRd
    send (.guard q l.1) (s.setPort q { s.port q with txRd := l.2 })

/-- The guard between two frames passes a node from port `p`: it adds or removes one idle ordered set or none (R545).
[DEDUCED, unsafe: log 213] -/
def passGuard (p : Nat) (s : State) : State :=
  sendGuard (7 + openNat s % 3) (if turned s (1 - p) then p else 1 - p) (spend s)

/-! ### Messages (R556–R561) -/

/-- Queue a new message with the opposite ALT of the last of its type (R556). -/
def queueNew (m : OutMsg) (s : State) : State :=
  let alt := 1 - s.jl.alt.get m.ty 1
  { s with jl := { s.jl with alt := s.jl.alt.put m.ty alt, out := s.jl.out ++ [{ m with hdr := m.hdr + alt * 1024 }] } }

/-- A message of this node of type `ty` to `dst`, with ALT 0: one cell on each ring (R556) in each of `times` beats (R561). -/
def newMsg (s : State) (ty dst times : Nat) (pl : List Byte) : OutMsg :=
  { ty, hdr := ty * 4096 + dst % 32 * 32 + s.jl.idInUse % 32, pl, e := times, w := times }

def queueMsg (ty dst times : Nat) (pl : List Byte) (s : State) : State := queueNew (newMsg s ty dst times pl) s

/-- The order in which pending messages fill EMPTY cells (R558). -/
def fillRank (ty : Nat) : Nat :=
  match ty with | 4 => 0 | 7 => 1 | 6 => 2 | 5 => 3 | 10 => 4 | 9 => 5 | _ => 6

/-- Cells a message still has to send on a ring. -/
def OutMsg.leftOn (m : OutMsg) (ring : Nat) : Nat := if ring = 0 then m.e else m.w

/-- The beat of a message's last cell on a ring. -/
def OutMsg.lastOn (m : OutMsg) (ring : Nat) : Option Nat := if ring = 0 then m.lastE else m.lastW

/-- Message `m` may leave on a ring now: one cell a beat, and a new one no sooner than 2 beats after the last of its type (R556, R561).
[DEDUCED, unsafe: log 140] -/
def mayLeave (s : State) (ring : Nat) (m : OutMsg) : Bool :=
  decide (m.leftOn ring > 0) && m.lastOn ring != some (beatNow s) &&
    (m.began || match s.jl.sentAt.find m.ty with | some b => decide (b + 2 ≤ beatNow s) | none => true)

/-- The index of the message that fills the next cell of a ring, among those that are no ECHO where `echo` is false. -/
def nextOut (s : State) (ring : Nat) (echo : Bool) : Option Nat :=
  let can := fun (m : OutMsg) => mayLeave s ring m && (echo || m.ty != 9)
  (List.range s.jl.out.length).foldl (fun b i =>
    match s.jl.out[i]? with
    | none => b
    | some m =>
      if !can m then b
      else match b with
        | none => some i
        | some j => match s.jl.out[j]? with
          | some m' => if fillRank m.ty < fillRank m'.ty then some i else b
          | none => some i) none

/-- The JL_USER of ring `r` counts as sent: the first cell of its message has left (R559). -/
def userSent (r : Nat) (s : State) : State :=
  match (s.ring r).exec with
  | some e => if dOp e.d = 0x60 ∧ e.stage = .acted then complete r .ok 0 0 s else s
  | none => s

/-- Take message `i` for a cell on `ring`: the cell as it leaves now. -/
def takeOut (i ring : Nat) (s : State) : Option (Cell × State) :=
  match s.jl.out[i]? with
  | none => none
  | some m =>
    let pl :=
      if m.ty = 9 then
        match m.at_ with
        | some t => plPut m.pl 8 (bytesOf 4 (s.tk.now - t))
        | none => plPut m.pl 0 (bytesOf 8 s.tk.now)
      else m.pl
    let c : Cell := m.whole.getD { hdr := m.hdr + ring * 2048, pl }
    let b := some (beatNow s)
    let x := { (if ring = 0 then { m with e := m.e - 1, lastE := b } else { m with w := m.w - 1, lastW := b }) with began := true }
    let out := (s.jl.out.set i x).filter fun m => decide (m.e + m.w > 0)
    let s := { s with jl := { s.jl with out, filled := s.jl.filled.put ring (beatNow s),
                                        sentAt := if m.began then s.jl.sentAt else s.jl.sentAt.put m.ty (beatNow s),
                                        left := s.jl.left || m.ty == 7 } }
    some (c, match m.user with | some r => if m.began then s else userSent r s | none => s)

/-- The node turns the cells of one ring onto the other (R582). -/
def wraps (s : State) : Bool := turned s 0 || turned s 1

/-- The cell that a message of `ring` puts in place of an EMPTY, at most one per ring and beat (R558). -/
def fillFrom (ring : Nat) (echo : Bool) (s : State) : Option (Cell × State) :=
  if s.jl.filled.find ring = some (beatNow s) then none
  else (nextOut s ring echo).bind fun i => takeOut i ring s

/-- The cell to send on `ring` in place of an EMPTY (R558); a node that wraps sends the cells of both rings there (R582).
[DESIGN CHOICE, unsafe: log 138] -/
def fillEmpty (ring : Nat) (c : Cell) (s : State) : Cell × State :=
  match fillFrom ring (!turned s ring) s with
  | some r => r
  | none => if wraps s then (fillFrom (1 - ring) false s).getD (c, s) else (c, s)

/-- With no master's frames passing, messages leave in the idle as soon as they may (R558).  [DESIGN CHOICE, unsafe: log 138] -/
def flushIdle (s : State) : State :=
  if framed s || s.jl.st == .master then s
  else
    let k := s.jl.out.foldl (fun a m => a + m.e + m.w) 0
    (List.range k).foldl (fun s _ =>
      let ring := match nextOut s 0 true with | some _ => 0 | none => 1
      match nextOut s ring true with
      | none => s
      | some i => match takeOut i ring s with | some (c, s) => txCell ring c s | none => s) s

/-- Send a message: queue it, and send it where nothing need be waited for. -/
def sendMsg (ty dst times : Nat) (pl : List Byte) (s : State) : State := flushIdle (queueMsg ty dst times pl s)

/-- Send a STOP cell where the node is a ring member; false where none is sent (R561, R796). -/
def sendStop (cls : Nat) (s : State) : Bool × State :=
  if isMember s then (true, sendMsg 4 s.jl.idInUse 4 (plPut plZero 0 (bytesOf 1 cls)) s) else (false, s)

/-- Whether a message is delivered here (R557): to all or to this node, and not the copy already delivered. -/
def delivers (s : State) (h : Nat) : Bool :=
  !s.sheet.hold && (cDst h == cSrc h || cDst h == s.jl.idInUse) &&
    s.jl.got.find (cType h * 32 + cSrc h) != some (cAlt h)

/-- A message has been delivered. -/
def noteDelivered (h : Nat) (s : State) : State :=
  { s with jl := { s.jl with got := s.jl.got.put (cType h * 32 + cSrc h) (cAlt h) } }

/-- Forward a message: HOPS 63 ends it, the master ends it, a node past which no frames go ends its own (R545, R557, R558).  A STOP that
waits for the cell replaces a USER message. -/
def forwardMsg (p : Nat) (c : Cell) (s : State) : State :=
  let hops := (c.pl.getD 15 0).toNat
  if hops ≥ 63 ∧ cType c.hdr ≠ 10 then bump 0x47058 s
  else if s.jl.st = .master then s
  else if !framed s && cSrc c.hdr == s.jl.idInUse && (1 - p) == cRing c.hdr then s
  else if cType c.hdr = 10 then
    let f := fillEmpty (1 - p) c s
    if framed s && cType f.1.hdr == 4 then forward p f.1 (bump 0x47058 f.2) else forward p c s
  else forward p { c with pl := plPut c.pl 15 (bytesOf 1 (hops + 1)) } s

/-- USER_RX (R560). -/
def userRx (src : Nat) (all : Bool) (pl : List Byte) (s : State) : State :=
  raise .jl 0 0x20 0 [leAt pl 0 4, leAt pl 4 4, leAt pl 8 4, leAt pl 12 4, src, b2n all] s

/-- USER_MESSAGE (R557, R560). -/
def userMessage (p h : Nat) (pl : List Byte) (s : State) : State :=
  cellTaken 10 p h pl (fun s =>
    let s := if delivers s h then userRx (cSrc h) (cDst h == cSrc h) pl (noteDelivered h s) else s
    forwardMsg p { hdr := h, pl } s) s

def execUserMessage (p h : Nat) (pl : List Byte) (s : State) : Out := .next (mainOn s (userMessage p h pl s))

/-- The port sends a wake tone now, which takes 48.0 µs (R562). -/
def toneSending (s : State) (p : Nat) : Bool := decide (s.tk.clk < (s.port p).toneEnd)

/-- Send a wake tone, at the port's SWING in mV, on a port whose domain is ON and that is not UP (R562). -/
def sendTone (p : Nat) (s : State) : State :=
  if s.isOn (11 + p) && !portUp s p then
    raise .jl 0 13 0 [p] (send (.tone p (600 + 200 * fld (jlPortCtl s p) 8 2)) (s.setPort p { s.port p with toneEnd := s.tk.clk + 48000 }))
  else s

/-- WAKE_CELL (R557, R562). -/
def wakeCell (p h : Nat) (pl : List Byte) (s : State) : State :=
  cellTaken 5 p h pl (fun s =>
    let s := if delivers s h then sendTone 1 (sendTone 0 (noteDelivered h s)) else s
    forwardMsg p { hdr := h, pl } s) s

def execWakeCell (p h : Nat) (pl : List Byte) (s : State) : Out := .next (mainOn s (wakeCell p h pl s))

/-- JOIN (R557, R566): the master notes it for its next beat. -/
def joinCell (p h : Nat) (pl : List Byte) (s : State) : State :=
  cellTaken 6 p h pl (fun s =>
    let s := if delivers s h then
        let s := noteDelivered h s
        if s.jl.st = .master then { s with jl := { s.jl with joins := s.jl.joins.put (cSrc h) () } } else s
      else s
    forwardMsg p { hdr := h, pl } s) s

def execJoin (p h : Nat) (pl : List Byte) (s : State) : Out := .next (mainOn s (joinCell p h pl s))

/-- LEAVE (R557, R567). -/
def leaveCell (p h : Nat) (pl : List Byte) (s : State) : State :=
  cellTaken 7 p h pl (fun s =>
    let s := if delivers s h then
        let s := noteDelivered h s
        if s.jl.st = .master then { s with jl := { s.jl with leaves := s.jl.leaves.put (cSrc h) () } } else s
      else s
    forwardMsg p { hdr := h, pl } s) s

def execLeave (p h : Nat) (pl : List Byte) (s : State) : Out := .next (mainOn s (leaveCell p h pl s))

/-- CLAIM (R557, R569): a claimant withdraws to a lower rank, or to an equal rank and a lower node ID.
[DESIGN CHOICE, safe: log 131; DEDUCED, unsafe: log 134] -/
def claimCell (p h : Nat) (pl : List Byte) (s : State) : State :=
  cellTaken 8 p h pl (fun s =>
    let rank := (pl.getD 0 0).toNat
    let s := if delivers s h then
        let s := noteDelivered h s
        let better := decide (rank < claimRank s) || (rank == claimRank s && decide (cSrc h < s.jl.idInUse))
        { s with jl := { s.jl with ranks := s.jl.ranks.put (cSrc h) rank, claim := if better then none else s.jl.claim } }
      else s
    forwardMsg p { hdr := h, pl } s) s

def execClaim (p h : Nat) (pl : List Byte) (s : State) : Out := .next (mainOn s (claimCell p h pl s))

/-- An EMPTY arrives, or the place of a cell that has ended becomes one (R545, R549, R558): the master ends it; any other node may put a
message into it where it stands in slots 17–22 (`room`). -/
def passEmpty (p h : Nat) (room : Bool) (s : State) : State :=
  if s.jl.st = .master then s
  else
    let e : Cell := { hdr := h, pl := plZero }
    let f := if framed s && room then fillEmpty (1 - p) e s else (e, s)
    forward p f.1 f.2

/-- EMPTY_CELL (R545, R558); `room` tells that the cell stands in slots 17–22, as all do but those that a new master sends in slots 9–16
of its first frame (R570). -/
def emptyCell (p h : Nat) (pl : List Byte) (room : Bool) (s : State) : State := cellTaken 0 p h pl (passEmpty p h room) s

def execEmptyCell (p h : Nat) (pl : List Byte) (room : Bool) (s : State) : Out := .next (mainOn s (emptyCell p h pl room s))

/-! ### Link delay and unwrapping (R549, R583) -/

/-- Mean of the last samples (JL_LINK_DELAY).  [DEDUCED, unsafe: log 140] -/
def linkDelay (s : State) (p : Nat) : Nat :=
  let l := (s.port p).delays
  if l.isEmpty then 0 else l.foldl (· + ·) 0 / l.length

/-- Send an ECHO on port `p`: it waits for an EMPTY, unless cells bound for the port are turned, so that its line is idle (R549, R558, R582).
[DEDUCED, unsafe: log 140] -/
def sendEcho (p : Nat) (pl : List Byte) (at_ : Option Nat) (s : State) : State :=
  let f := s.jl.filled
  let s := queueNew { ty := 9, hdr := 9 * 4096 + s.jl.idInUse % 32, pl, e := 1 - p, w := p, at_ } s
  if turned s p then
    match takeOut (s.jl.out.length - 1) p s with
    | some (c, s) => txDirect p c { s with jl := { s.jl with filled := f } }
    | none => s
  else flushIdle s

/-- ECHO_REQUEST_DUE (R549, R583): 64 beats after its last, an UP port sends a request; port A of a wrapped hop that has been UP for
64 beats proposes the beat of the unwrap. -/
def echoRequest (p : Nat) (s : State) : State :=
  if portUp s p && !s.sheet.hold then
    let s : State := match (s.port p).echoAt with | some t => advanceClk (t + 256000) s | none => s
    let x : Port := { s.port p with echoAt := some s.tk.clk }
    let s := s.setPort p x
    let propose := p == 0 && x.wrap && decide (x.upBeats ≥ 64) && (framed s || s.jl.st == .master) && x.agreed.isNone
    let b := beatNow s + 16
    let pl := plPut plZero 12 (bytesOf 2 (if propose then b else 0))
    let pl := plPut pl 14 (bytesOf 1 (if s.jl.idInUse = 0x3F then 0 else 2))
    sendEcho p pl none (if propose then s.setPort p { x with proposed := some b } else s)
  else s

def execEchoRequestDue (p : Nat) (s : State) : Out := .next (mainOn s (echoRequest p s))

/-- The beat that a low 16-bit number names, near now.  [DEDUCED, unsafe: log 139] -/
def nearBeat (s : State) (low : Nat) : Nat :=
  let b := beatNow s
  let base := b / 65536 * 65536 + low
  if base + 32768 < b then base + 65536 else base

/-- ECHO (R549, R583): a request is answered and its cell becomes EMPTY; a reply yields a sample and may agree an unwrap.  A proposed beat
is confirmed while 8 beats or more are left to it.  [DEDUCED, unsafe: log 139; DEDUCED, unsafe: log 140] -/
def echoCell (p h : Nat) (pl : List Byte) (s : State) : State :=
  cellTaken 9 p h pl (fun s =>
    let flags := (pl.getD 14 0).toNat
    let x := { s.port p with nb := cSrc h, nbValid := flags / 2 % 2 == 1 }
    let s :=
      if flags % 2 = 1 then
        let t := s.tk.now - leAt pl 0 8 - leAt pl 8 4
        let agreed := if flags / 4 % 2 = 1 then
            (match x.proposed with | some b => if beatNow s + 8 ≤ b then some b else none | none => none) else x.agreed
        s.setPort p { x with delays := (t / 2 :: x.delays).take 8, agreed, confirms := x.confirms && agreed == x.agreed, proposed := none }
      else
        let low := leAt pl 12 2
        let ack := decide (low ≠ 0) && x.wrap && portUp s p && decide (beatNow s + 8 ≤ nearBeat s low) && !s.sheet.hold
        let s := s.setPort p (if ack then { x with agreed := some (nearBeat s low), confirms := true } else x)
        let fl := 1 + (if s.jl.idInUse = 0x3F then 0 else 2) + (if ack then 4 else 0)
        if s.sheet.hold then s else sendEcho p (plPut pl 14 (bytesOf 1 fl)) (some s.tk.now) s
    passEmpty p (cRing h * 2048) true s) s

def execEcho (p h : Nat) (pl : List Byte) (s : State) : Out := .next (mainOn s (echoCell p h pl s))

/-- UNWRAP (R583): at the agreed beat, or after 16 local beats with no master followed.  Where this node confirmed the beat, `arrived` tells
that its confirmation reached the neighbour in time; where it did not, neither unwraps.  [DEDUCED, unsafe: log 139] -/
def unwrapPort (p : Nat) (arrived : Bool) (s : State) : State :=
  let x := s.port p
  let agreed := match x.agreed with | some b => decide (b ≤ beatNow s + 1) | none => false
  let due := if framed s || s.jl.st == .master then agreed && (arrived || !x.confirms) else decide (x.upBeats ≥ 16)
  if x.wrap && portUp s p && due then
    raise .jl 0 3 0 [p] (s.setPort p { x with wrap := false, agreed := none, proposed := none, confirms := false })
  else if agreed then s.setPort p { x with agreed := none, confirms := false }
  else s

def execUnwrap (p : Nat) (arrived : Bool) (s : State) : Out := .next (mainOn s (unwrapPort p arrived s))

/-- Port `p` is not UP while the other is: the node wraps it (R582). -/
def wrapIfAlone (p : Nat) (s : State) : State :=
  if !portUp s p && portUp s (1 - p) && !(s.port p).wrap then raise .jl 0 2 1 [p] (s.setPort p { s.port p with wrap := true })
  else s

/-- A cell that port `p` held until its PLL locked (R579): a train or SYNC cell of a beat that has passed is dropped and counted, another is
sent; a message waits for its place under R558; an EMPTY has nothing to send.  [DESIGN CHOICE, unsafe: log 138] -/
def sendHeld (p : Nat) (e : Nat × Cell) (s : State) : State :=
  let ty := cType e.2.hdr
  if 1 ≤ ty ∧ ty ≤ 3 then (if e.1 < beatNow s then bump (0x47010 + 0x400 * p) s else txDirect p e.2 s)
  else if 4 ≤ ty ∧ ty ≤ 10 then
    let m : OutMsg := { ty, hdr := e.2.hdr, pl := e.2.pl, e := 1 - p, w := p, began := true, whole := some e.2 }
    { s with jl := { s.jl with out := s.jl.out ++ [m] } }
  else if ty = 0 then s
  else txDirect p e.2 s

/-- PORT_PLL_LOCK (R579): the port leaves NOT_READY, and the cells it held are dropped or sent. -/
def portPllLock (p : Nat) (s : State) : State :=
  if portState s p = .notReady then
    let x := s.port p
    let s := s.setPort p { x with st := .seeking, pll := true, locked := 0, held := [] }
    flushIdle (x.held.foldl (fun s e => sendHeld p e s) s)
  else s

def execPortPllLock (p : Nat) (s : State) : Out := .next (mainOn s (portPllLock p s))

/-- 4.0 µs have passed without a code error (R581). -/
def Port.clean (x : Port) (clk : Nat) : Bool := match x.errAt with | some t => decide (t + 4000 ≤ clk) | none => true

/-- PORT_UP (R581): PLL locked, synchronisation held and 4.0 µs without a code error. -/
def portUpEvent (p : Nat) (s : State) : State :=
  match portState s p with
  | .seeking | .down =>
    let x := s.port p
    if x.pll && x.clean s.tk.clk then
      let s := s.setPort p { x with st := .up, rxSync := true, bad := 0, upBeats := 0, agreed := none, proposed := none }
      let s := { s with jl := { s.jl with quiet := 0 } }
      wrapIfAlone (1 - p) (raise .jl 0 0 0 [p] s)
    else s
  | _ => s

def execPortUp (p : Nat) (s : State) : Out := .next (mainOn s (portUpEvent p s))

/-- An UP port goes DOWN (R581): `cause` 1 signal, 2 synchronisation, 3 check failures.  [DEDUCED, unsafe: log 142] -/
def portDown (p cause : Nat) (s : State) : State :=
  if portUp s p then
    let x := s.port p
    let s := s.setPort p { x with st := .down, rxSync := x.rxSync && cause != 2 && cause != 1, bad := 0, upBeats := 0,
                                  agreed := none, proposed := none, confirms := false }
    wrapIfAlone p (raise .jl 0 1 1 [p, cause] s)
  else s

/-- PORT_DOWN. -/
def execPortDown (p cause : Nat) (s : State) : Out := .next (mainOn s (portDown p cause s))

/-- The port's domain has left ON or EN went to 0: the port is OFF and starts again from NOT_READY (R588, R803).
[DEDUCED, unsafe: log 142] -/
def portOff (p : Nat) (s : State) : State :=
  let x := s.port p
  let was := x.st == .up
  let s := s.setPort p { wrap := x.wrap, path := x.path, syncAt := x.syncAt }
  if was then wrapIfAlone p (raise .jl 0 1 1 [p, 1] s) else s

/-- The bytes read from a line; an undecodable code-group leaves its byte open.  [DEDUCED, unsafe: log 214] -/
def readBytes (l : List (Option Byte)) (s : State) : List Byte × State :=
  l.foldl (fun a b => match b with
    | some b => (a.1 ++ [b], a.2)
    | none => (a.1 ++ [BitVec.ofNat 8 (openNat a.2)], spend a.2)) ([], s)

/-- The node's report (R519). -/
def ownReport (s : State) : Word :=
  w32 (at_ 19 1 (b2n (s.sh.mode == .floor)) + at_ 16 3 s.sh.level + at_ 0 16 (unsigned 16 s.sh.netReq))

/-- The beat in which a cell arrives on a port (R547). -/
def arrivalBeat (s : State) (p : Nat) : Nat :=
  let x := s.port p
  match x.syncAt with
  | some b => if s.tk.now < (b + 1) * 4000 + x.path then b else (s.tk.now - x.path) / 4000
  | none => (s.tk.now - x.path) / 4000

/-- The number of the beat that a report cell serves whose header names its low four bits: the one next up to the beat after the cell's
arrival (R540, R550). -/
def servedBeat (s : State) (p h : Nat) : Nat :=
  let b := arrivalBeat s p + 1
  b - (b + 16 - h / 16 % 16) % 16

/-- The copy of a report cell is of the node's own train cell, and it has not written into that copy yet (R550). -/
def writesInto (s : State) (p h : Nat) : Bool :=
  s.jl.st == .member && s.jl.idInUse / 4 == cCell h && s.jl.wrote.find (cRing h) != some (servedBeat s p h)

/-- The node notes that it has written into the copy, and its report as the last one (R519, R550). -/
def noteWritten (p h : Nat) (s : State) : State :=
  { s with jl := { s.jl with wrote := s.jl.wrote.put (cRing h) (servedBeat s p h) }, sh := { s.sh with reported := s.sh.netReq } }

/-- A bad cell is sent on (R543, R545, R558, R584): the master ends it, and a node past which no frames go its own; a SYNC gets its CORR, a
copy of the node's train cell its report and a message its HOPS, as every such cell that passes; what is changed goes with an inverted CRC,
all else as received.  [DEDUCED, unsafe: log 214] -/
def forwardBad (p : Nat) (c : Cell) (s : State) : State :=
  let changed := fun (h : Nat) (pl : List Byte) => ({ hdr := h, pl, bad := c.raw.isSome } : Cell)
  let ty := cType c.hdr
  if s.jl.st = .master then s
  else if 4 ≤ ty ∧ ty ≤ 10 ∧ ty ≠ 9 ∧ !framed s ∧ cSrc c.hdr = s.jl.idInUse ∧ 1 - p = cRing c.hdr then s
  else if ty = 1 then
    let corr := leAt c.pl 8 4 + linkDelay s p + 32 + openNat s % 33
    forward p (changed c.hdr (plPut c.pl 8 (bytesOf 4 corr))) (spend s)
  else if ty = 2 ∧ c.raw.isSome then
    let g := s.jl.idInUse % 4
    if writesInto s p c.hdr ∧ c.hdr / 2 ^ g % 2 = 0 then
      forward p (changed (c.hdr + 2 ^ g) (plPut c.pl (4 * g) (bytesOf 4 (ownReport s).toNat))) (noteWritten p c.hdr s)
    else forward p c s
  else if 4 ≤ ty ∧ ty ≤ 8 then
    let hops := (c.pl.getD 15 0).toNat
    if hops ≥ 63 then bump 0x47058 s else forward p (changed c.hdr (plPut c.pl 15 (bytesOf 1 (hops + 1)))) s
  else forward p c s

/-- BAD_CELL (R539, R543, R581, R584): the code-groups that port `p` received in the place of a cell, with idle before them or not, and
whether a slot that its type belongs in began with them.  A code error or a CRC that does not match fails the check.
[DEDUCED, unsafe: log 142; DEDUCED, unsafe: log 214] -/
def badCell (p : Nat) (line : List CodeGroup) (afterIdle inSlot : Bool) (s : State) : State :=
  if portState s p = .off then s
  else
    let r := readLine (!afterIdle && (s.port p).rxRd) line
    let code := !r.1 || r.2.1.any (·.isNone)
    let b := readBytes r.2.1 s
    let h := (b.1.getD 0 0).toNat * 256 + (b.1.getD 1 0).toNat
    let pl := (b.1.drop 2).take 16
    let crc := (b.1.getD 18 0).toNat * 256 + (b.1.getD 19 0).toNat
    let fails := code || crc16 (cellBytes h pl) != crc
    if !fails && inSlot then s
    else
      let x := b.2.port p
      let s := b.2.setPort p { x with
        rxRd := r.2.2, bad := if fails then x.bad + 1 else 0, errAt := if code then some s.tk.clk else x.errAt }
      let s := forwardBad p { hdr := h, pl, raw := if fails then some crc else none } s
      let s := if inSlot then s else bump (0x47014 + 0x400 * p) s
      if fails then
        let s := bump ((if code then 0x47008 else 0x4700C) + 0x400 * p) s
        if (s.port p).bad ≥ 4 then portDown p 3 s else s
      else s

end Sys2Proof.Machine
end

