-- ==== Sys2Proof/Machine/JikanRing.lean ====
section
/-!
DEFINITION. Machine/JikanRing.lean: SYNC and rack time (R158–R162, R546–R548, R571–R573), the report and grant trains and the
rack division (R519–R521, R550–R554, R573), and membership and mastership (R565–R570, R574–R577, R585).
-/
namespace Sys2Proof.Machine

/-! ### Time from the ring -/

/-- Load Jikan time (R161, R838): boundaries behind the new time are not taken again when it lies back.
[DEDUCED, unsafe: log 39; DEDUCED, unsafe: log 40] -/
def loadTime (t : Nat) (s : State) : State :=
  { s with
    tk := { s.tk with now := t, slew := 0, slewAcc := 0, tsyncAligned := false,
                      floor := if s.tk.published then max s.tk.floor s.tk.now else s.tk.floor,
                      beaconAt := min s.tk.beaconAt t, epochAt := min s.tk.epochAt t }
    sh := { s.sh with roundAt := min s.sh.roundAt t, beatAt := min s.sh.beatAt t, gotBeat := if t < s.tk.now then none else s.sh.gotBeat }
    jl := { s.jl with checkAt := min s.jl.checkAt t, closeAt := min s.jl.closeAt t, beat := s.jl.beat.map fun b => min b (t / 4000),
                      trainAt := if t < s.tk.now then 0 else s.jl.trainAt, sentAt := s.jl.sentAt.map fun e => (e.1, min e.2 (t / 4000)) }
    rg := { s.rg with pollAt := min s.rg.pollAt t }
    pe := if t < s.tk.now then { s.pe with printed := min s.pe.printed t, past := [], lateSaid := [] } else s.pe
    mm := { s.mm with passAt := min s.mm.passAt t }
    ar := { s.ar with sampleAt := min s.ar.sampleAt t }
    mis := s.mis.map fun e => (e.1, { e.2 with endAt := min e.2.endAt t, onAt := min e.2.onAt t })
    en := { en := s.en.en.map fun e => (e.1, encMoved t e.2)
            sn := { s.en.sn with dueAt := min s.en.sn.dueAt t, freeAt := min s.en.sn.freeAt t,
                                 busy := s.en.sn.busy.map fun x => (x.1, x.2.1, moved x.2.2) } }
    ez := { s.ez with frameAt := min s.ez.frameAt t }
    regs := { s.regs with pend := s.regs.pend.map (fun e => (e.1, min e.2 t)), was := [] } }
where
  /-- An instant of the old time, as far from the new time as it was from the old. -/
  moved (x : Nat) : Nat := x + t - s.tk.now
  /-- An encoder measures on over the load. -/
  encMoved (t : Nat) (e : Encoder) : Encoder :=
    { e with latchAt := min e.latchAt t, frameAt := min e.frameAt t, edgeAt := e.edgeAt.map moved, ref := e.ref.map fun p => (p.1, moved p.2),
             used := e.used.map fun p => (p.1, moved p.2), started := e.started.map fun p => (moved p.1, p.2),
             pos := e.pos.map fun p => (p.1, moved p.2) }

/-- SOURCE follows the ring state while REFCLK is good; a follower that has missed a SYNC reads HOLDOVER until it follows one again
(R172, R176). -/
def sourceNow (s : State) : TimeSource :=
  if !s.tk.refclkOk then .holdover
  else if s.jl.st = .master then .master
  else if s.tk.holding then .holdover
  else if follows s then .follower
  else .free
def setSource (s : State) : State := { s with tk := { s.tk with source := sourceNow s } }

/-- What a following node does with the offset `e` of the SYNC it follows, `t` being the ring's time (R159, R161).
[DEDUCED, unsafe: log 39] -/
def followTime (t : Nat) (e : Int) (s : State) : State :=
  let s := { s with tk := { s.tk with syncOffset := satInt 32 e, published := true }, jl := { s.jl with offset := e } }
  if s.jl.st = .follower ∧ joinEn s then
    if allDarkB s then
      if s.jl.loaded then { s with tk := { s.tk with slew := e } }
      else raise .tk 0 2 1 [] (loadTime t { s with jl := { s.jl with loaded := true, offset := 0 } })
    else if -800 ≤ e ∧ e ≤ 800 then { s with tk := { s.tk with slew := e } }
    else if s.jl.splitSaid then s
    else raise .tk 0 3 1 [] { s with jl := { s.jl with splitSaid := true, loaded := false } }
  else { s with tk := { s.tk with slew := e } }
where
  /-- Every present channel is dark. -/
  allDarkB (s : State) : Bool := s.allDark

/-! ### Membership of this node -/

/-- The node sends JOIN (R565, R566, R576, R518): while JOINING it repeats the last one with its ALT, where that has left; a REFUSED node's
is a new one (R575). -/
def sendJoin (s : State) : State :=
  let again := s.jl.st == .joining
  let first := s.jl.st == .follower
  let s := { s with jl := { s.jl with idInUse := jlNodeId s, joinAge := 0, st := if s.jl.st = .refused then .refused else .joining } }
  let s := if first then shutterJoin s else s
  let pl := plPut (plPut plZero 0 (bytesOf 2 s.variant.deviceCode)) 2 (bytesOf 1 0xB0)
  let m := newMsg s 6 s.jl.master 1 pl
  if !again then queueNew m { s with jl := { s.jl with out := s.jl.out.filter fun m => m.ty != 6 } }
  else if s.jl.out.any fun m => m.ty == 6 then s
  else { s with jl := { s.jl with out := s.jl.out ++ [{ m with hdr := m.hdr + s.jl.alt.get 6 0 * 1024, began := true }] } }

/-- The node may send its first JOIN (R161, R565). -/
def mayJoin (s : State) : Bool :=
  s.jl.st == .follower && joinEn s && decide (jlNodeId s < 32) && decide (s.jl.run ≥ 16) &&
    decide (-25 ≤ s.jl.offset) && decide (s.jl.offset ≤ 25)

/-- The node stops being a member (LEFT, R567, R571, R572).  [DEDUCED, unsafe: log 133] -/
def leftRing (why : Nat) (dst : NodeState) (s : State) : State :=
  let was := isMember s
  let s := { s with jl := { s.jl with
    st := dst, leaving := false, left := false, members := [], joins := [], leaves := [], reports := [], missing := [],
    first := none, resign := false, resigned := false, split := false, loopE := 0, loopW := 0, claim := none, loaded := false,
    splitSaid := false, wrote := [] } }
  setSource (if was then raise .jl 0 6 0 [why] s else s)

/-- A master that has resigned sends no more frames; it is a member that goes over to the other master, as R571 decides (R572).
[DEDUCED, unsafe: log 133] -/
def resignRing (s : State) : State :=
  setSource { s with jl := { s.jl with
    st := .member, members := [], joins := [], leaves := [], reports := [], missing := [], first := none, resign := false, resigned := true,
    split := false, loopE := 0, loopW := 0, wrote := [] } }

/-- Send LEAVE with a reason (R567, R574). -/
def sendLeave (reason : Nat) (s : State) : State :=
  sendMsg 7 s.jl.master 1 (plPut plZero 0 (bytesOf 1 reason)) { s with jl := { s.jl with leaving := true, left := false } }

/-! ### SYNC -/

/-- A better master than this one: a lower rank, or an equal rank and a lower node ID; a rank no CLAIM has told is open (R572).
[DESIGN CHOICE, safe: log 131] -/
def betterMaster (s : State) (id : Nat) : Bool × State :=
  match s.jl.ranks.find id with
  | some r => (decide (r < claimRank s) || (r == claimRank s && decide (id < s.jl.idInUse)), s)
  | none => (openBool s, spend s)

/-- The node follows this beat's SYNC (R546, R565, R566, R571).  [DEDUCED, unsafe: log 132] -/
def followSync (b t master joined admission : Nat) (wrapped : Bool) (s : State) : State :=
  let e : Int := (t : Int) - s.tk.now
  let old : Jl := s.jl
  let changed := old.master != master
  let s := { s with jl := { s.jl with
    master, joined, wrapped, beat := some b, lastFollowed := some master, resigned := false, quiet := 0, miss := 0, claim := none,
    run := if old.beat = some (b - 1) then old.run + 1 else 1,
    st := if old.st = NodeState.masterless then .follower else old.st } }
  let s := setSource { s with tk := { s.tk with holding := false } }
  let s :=
    if s.jl.st = .member && changed then
      let near := (match old.beat with | some b' => decide (b ≤ b' + 8) | none => false) && decide (-800 ≤ e) && decide (e ≤ 800)
      if near then s else leftRing (if old.resigned then 3 else 2) .follower s
    else if (s.jl.st = .joining ∨ s.jl.st = .refused) ∧ changed then { s with jl := { s.jl with st := .follower } }
    else s
  let s := followTime t e s
  let s :=
    if admission % 32 = s.jl.idInUse ∧ (s.jl.st = .joining ∨ s.jl.st = .refused) then
      if admission / 64 = 2 then
        raise .jl 0 4 0 [s.jl.idInUse, master] { s with jl := { s.jl with st := .member, wrote := [] }, sh := { s.sh with joined := true } }
      else if admission / 64 = 3 then
        (if s.jl.st = .refused then s else raise .jl 0 5 1 [s.jl.idInUse] { s with jl := { s.jl with st := .refused, joinAge := 0 } })
      else s
    else s
  if mayJoin s then sendJoin s else s

/-- A second copy of a SYNC of this beat or, from the master followed, of the beat before it (R578). -/
def secondSync (s : State) (b master : Nat) : Bool := s.jl.beat == some b || (s.jl.beat == some (b + 1) && s.jl.master == master)

/-- SYNC (R543, R545, R546, R548, R571, R572, R578); between frames it follows their guard.  [DESIGN CHOICE, safe: log 130] -/
def syncCell (p h : Nat) (pl : List Byte) (s : State) : State :=
  cellTaken 1 p h pl (fun s =>
    let t := leAt pl 0 8
    let b := t / 4000
    let ld := linkDelay s p
    let path := leAt pl 8 4 + ld
    let guard := framed s && (s.port p).syncAt.isSome
    let s := s.setPort p { s.port p with syncAt := some b, path }
    let master := leAt pl 12 1 % 32
    let flags := leAt pl 15 1
    if s.jl.st = .master then
      if master = s.jl.idInUse then
        let s := { s with jl := if cRing h = 0 then { s.jl with loopE := path } else { s.jl with loopW := path } }
        if flags % 2 = 0 ∧ path > 1700 then raise .jl 0 12 1 [cRing h, path] s else s
      else
        let (better, s) := betterMaster s master
        if better && !s.jl.resign then
          raise .jl 0 9 1 [master] { s with jl := { s.jl with resign := true } }
        else s
    else
      let s := if guard then passGuard p s else s
      let res := 32 + openNat s % 33
      let s := spend s
      let s := forward p { hdr := h, pl := plPut pl 8 (bytesOf 4 (path + res)) } s
      if secondSync s b master then s
      else followSync b (t + path) master (leAt pl 14 1 % 64) (leAt pl 13 1) (flags % 2 == 1) s) s

/-! ### Trains -/

/-- Key of a collected report: low four bits of the beat served, and the node. -/
def repKey (beat node : Nat) : Nat := beat % 16 * 32 + node

/-- The master still collects the reports that serve the beat of low bits `beat` (R551). -/
def collects (s : State) (beat : Nat) : Bool :=
  let b := beatNow s
  beat == (b + 1) % 16 || (beat == b % 16 && decide (s.jl.closeAt < 4000 * b + 1000))

/-- REPORT (R550, R551, R574, R578): a member writes its report once into every copy; the master collects.
[DEDUCED, unsafe: log 133] -/
def reportCell (p h : Nat) (pl : List Byte) (s : State) : State :=
  cellTaken 2 p h pl (fun s =>
    let beat := h / 16 % 16
    if s.jl.st = .master then
      let put := fun (s : State) g =>
        let k := repKey beat (4 * cCell h + g)
        if h / 2 ^ g % 2 = 1 ∧ collects s beat ∧ !s.jl.reports.has k then
          { s with jl := { s.jl with reports := s.jl.reports.put k (w32 (leAt pl (4 * g) 4)) } }
        else s
      (List.range 4).foldl put s
    else if writesInto s p h then
      let g := s.jl.idInUse % 4
      if h / 2 ^ g % 2 = 1 then
        let s := forward p { hdr := h, pl } s
        leftRing 1 .follower (sendLeave 2 (raise .jl 0 14 2 [s.jl.idInUse] s))
      else
        forward p { hdr := h + 2 ^ g, pl := plPut pl (4 * g) (bytesOf 4 (ownReport s).toNat) } (noteWritten p h s)
    else forward p { hdr := h, pl } s) s

/-- A valid rack grant of this node (R520, R553, R554, R578).  [DEDUCED, unsafe: log 141] -/
def takeGrant (b : Nat) (g : Word) (s : State) : State :=
  if (match s.sh.gotBeat with | some k => decide (b ≤ k) | none => false) then s
  else
    let s := { s with sh := { s.sh with gotBeat := some b, gotOne := true, grantIn := g } }
    if s.tk.now > (b + 1) * 4000 then bump 0x4705C { s with sh := { s.sh with late := true } } else s

/-- GRANT (R553, R554, R578); copies of a beat older than the train being gathered are not used. -/
def grantCell (p h : Nat) (pl : List Byte) (s : State) : State :=
  cellTaken 3 p h pl (fun s =>
    if s.jl.st = .master then s
    else
      let b := arrivalBeat s p
      let s := if b ≤ s.jl.trainAt then s else { s with jl := { s.jl with trainAt := b, trainIn := [] } }
      let s :=
        if s.jl.st = .member then
          let s := if s.jl.trainIn.has (cCell h) || decide (b < s.jl.trainAt) then s else
            let tr := s.jl.trainIn.put (cCell h) ((List.range 4).map fun g => w32 (leAt pl (4 * g) 4))
            let s := { s with jl := { s.jl with trainIn := tr } }
            if tr.length = 8 then { s with jl := { s.jl with train := tr.foldl (fun l e => l ++ e.2) [] } } else s
          let g := w32 (leAt pl (4 * (s.jl.idInUse % 4)) 4)
          if s.jl.idInUse / 4 = cCell h ∧ fld g 16 8 = b % 256 then takeGrant b g s else s
        else s
      forward p { hdr := h, pl } s) s

def execGrant (p h : Nat) (pl : List Byte) (s : State) : Out := .next (mainOn s (grantCell p h pl s))

/-! ### The master -/

/-- Members in the order in which the division serves them: ascending LEVEL, then node ID from the rotation point (R521). -/
def servesBefore (rot : Nat) (a b : Nat × Nat × Int) : Bool :=
  if a.2.1 ≠ b.2.1 then decide (a.2.1 < b.2.1) else decide ((a.1 + 32 - rot) % 32 < (b.1 + 32 - rot) % 32)

/-- Insert in that order; an entry is node, LEVEL, NET_REQ. -/
def serveIns (rot : Nat) (a : Nat × Nat × Int) : List (Nat × Nat × Int) → List (Nat × Nat × Int)
  | [] => [a]
  | b :: t => if servesBefore rot a b then a :: b :: t else b :: serveIns rot a t

/-- Serve requests in order until `room` is used: node and grant (R521 steps 3 and 4). -/
def serve : List (Nat × Nat × Int) → Int → List (Nat × Int)
  | [], _ => []
  | (n, _, r) :: t, room => let g := max 0 (min (r.natAbs : Int) room); (n, if r < 0 then -g else g) :: serve t (room - g)

/-- The division of R521 over the reports of the beat served, with `bud` and `sink`: the grants and the last node that received
part of its request. -/
def divide (rot : Nat) (bud sink : Int) (reps : List (Nat × Nat × Int)) : List (Nat × Int) × Option Nat :=
  let order := reps.foldl (fun l a => serveIns rot a l) []
  let r := (reps.filter fun a => decide (a.2.2 < 0)).foldl (fun t a => t - a.2.2) 0
  let draws := serve (order.filter fun a => decide (a.2.2 > 0)) (max 0 (bud + r))
  let dg := draws.foldl (fun t g => t + g.2) 0
  let rets := serve (order.filter fun a => decide (a.2.2 < 0)) (dg + sink)
  let all := draws ++ rets
  let part := all.filter fun g => decide (g.2 ≠ 0) && reps.any fun a => a.1 == g.1 && a.2.2 != g.2
  (all, (part.getLast?).map (·.1))

/-- The eight cells of a grant train (R552). -/
def grantCells (b : Nat) (grants : Tab Int) (members : Tab Unit) : List (Nat × List Byte) :=
  (List.range 8).map fun k =>
    (3 * 4096 + k * 256, (List.range 4).foldl (fun l g =>
      let n := 4 * k + g
      l ++ bytesOf 4 (if members.has n then at_ 16 8 (b % 256) + at_ 0 16 (unsigned 16 (grants.get n 0)) else 0)) [])

/-- The rings on which the master sends frames: it sends none that it would turn (R582). -/
def masterRings (s : State) : List Nat :=
  (List.range 2).filter fun p => !((s.port p).wrap && portUp s (1 - p))

/-- A cell sent by the master on both rings; RING is set for ring W. -/
def bothRings (h : Nat) (pl : List Byte) (s : State) : State :=
  (masterRings s).foldl (fun s p => txCell p { hdr := h + 2048 * p, pl } s) s

/-- Slots 17–22 at the master, at most one message per ring, else EMPTY, and the guard (R544, R558).
[DESIGN CHOICE, unsafe: log 138] -/
def masterSlots (s : State) : State :=
  let rings := masterRings s
  let s := (List.range 6).foldl (fun s _ =>
    rings.foldl (fun s ring =>
      let r := fillEmpty ring { hdr := ring * 2048, pl := plZero } s
      txCell ring r.1 r.2) s) s
  rings.foldl (fun s ring => sendGuard 8 ring s) s

/-- COLLECTION_CLOSE (R521, R551, R552, R567, R570, R573): 1,000 ns after the beat boundary the master closes collection, divides
the rack budget and sends the grant train.  [DEDUCED, unsafe: log 143] -/
def collectionClose (s : State) : State :=
  if s.jl.st ≠ .master then s
  else
    let s := advanceTo (boundary 4000 (s.jl.closeAt - 1000) (s.tk.now - 1000) + 1000) s
    let b := beatNow s
    let s := { s with jl := { s.jl with closeAt := s.tk.now } }
    if s.jl.first = some b then
      masterSlots ((List.range 8).foldl (fun s _ => bothRings 0 plZero s) s)
    else
      let me := s.jl.idInUse
      let rep := fun n => if n = me then some (ownReport s) else s.jl.reports.find (repKey b n)
      -- a new master's members are itself and the nodes that report in its first collection (R570)
      let s := if s.jl.first = some (b - 1) then
          { s with jl := { s.jl with members := (List.range 32).foldl (fun t n => if (rep n).isSome then t.put n () else t) [] } }
        else s
      let mem := s.jl.members.map (·.1)
      let gone : List Nat := mem.filter fun n => (rep n).isNone
      let s := gone.foldl (fun (s : State) (n : Nat) => raise .sh 0 5 1 [(n : Int)] s) s
      let miss := mem.foldl (fun t n => if (rep n).isNone then t.put n (s.jl.missing.get n 0 + 1) else t.del n) s.jl.missing
      let prev : List (Nat × Int) := gone.map fun n => (n, max 0 (Tab.get s.jl.grants n 0))
      let j := mem.length
      let e := fld (jlControl s) 16 5 + 1
      let split := decide (j < e)
      let scale := fun (x : Int) => if split then x * j / e else x
      let bud := scale (shRackBudget s) - prev.foldl (fun t g => t + g.2) 0
      let reps := mem.filterMap fun n => (rep n).map fun w => (n, fld w 16 3, signed 16 (fld w 0 16))
      let (given, last) := divide s.sh.rackRot bud (scale (shSink s)) reps
      let grants : Tab Int := (given ++ prev).foldl (fun (t : Tab Int) g => t.put g.1 g.2) []
      let s := { s with jl := { s.jl with grants, missing := miss, split, reports := s.jl.reports.keep fun k => k / 32 != b % 16 },
                        sh := { s.sh with rackRot := match last with | some n => (n + 1) % 32 | none => s.sh.rackRot } }
      let s := { s with sh := { s.sh with reported := s.sh.netReq } }
      let s := takeGrant b (w32 (at_ 16 8 (b % 256) + at_ 0 16 (unsigned 16 (Tab.get grants me 0)))) s
      let s := (grantCells b grants s.jl.members).foldl (fun s c => bothRings c.1 c.2 s) s
      let out := (miss.filter fun m => decide (m.2 ≥ 16)).map (·.1)
      let s := out.foldl (fun s (n : Nat) =>
        raise .jl 0 11 1 [(n : Int), 2] { s with jl := { s.jl with members := s.jl.members.del n, missing := s.jl.missing.del n } }) s
      masterSlots s

def execCollectionClose (s : State) : Out := .next (mainOn s (collectionClose s))

/-- The master's decisions on LEAVE and JOIN at a beat boundary, and the ADMIT field of its SYNC (R566, R567, R577).
[DESIGN CHOICE, unsafe: log 135] -/
def decideJoins (s : State) : State :=
  let s := s.jl.leaves.foldl (fun s e =>
    if s.jl.members.has e.1 && e.1 != s.jl.idInUse then
      raise .jl 0 11 1 [e.1, 1] { s with jl := { s.jl with members := s.jl.members.del e.1, missing := s.jl.missing.del e.1 } }
    else s) s
  let bad := s.jl.joins.filter fun e => s.jl.members.has e.1
  let good := s.jl.joins.filter fun e => !s.jl.members.has e.1
  let s := { s with jl := { s.jl with leaves := [], joins := good.drop 1 } }
  match good, bad with
  | (n, _) :: rest, [] =>
    raise .jl 0 10 0 [n] { s with jl := { s.jl with members := s.jl.members.put n (), admission := 0x80 + n, joins := rest } }
  | (n, _) :: rest, (m, _) :: more =>
    -- one outcome fits the ADMIT field of a beat: refusals go first, the others wait
    { s with jl := { s.jl with admission := 0xC0 + m, joins := more.foldl (fun t e => t.put e.1 ()) ((n, ()) :: rest) } }
  | [], (m, _) :: more => { s with jl := { s.jl with admission := 0xC0 + m, joins := more } }
  | [], [] => { s with jl := { s.jl with admission := 0 } }

/-- The master's frame up to its report train (R544, R550). -/
def masterFrame (s : State) : State :=
  let b := beatNow s
  let first := s.jl.first == some b
  let pl := bytesOf 8 s.tk.now ++ bytesOf 4 0 ++ bytesOf 1 s.jl.idInUse ++ bytesOf 1 s.jl.admission ++
    bytesOf 1 s.jl.members.length ++ bytesOf 1 (if first then 2 else 0)
  let s := bothRings 0x1000 pl s
  let s := { s with tk := { s.tk with published := true }, jl := { s.jl with joined := s.jl.members.length, beat := some b } }
  (List.range 8).foldl (fun s k => bothRings (2 * 4096 + k * 256 + (b + 1) % 16 * 16) plZero s) s

/-- The node becomes master (R569, R570).  [DEDUCED, unsafe: log 134; DEDUCED, unsafe: log 143] -/
def becomeMaster (cold : Bool) (s : State) : State :=
  let b := beatNow s
  let grants : Tab Int := (List.range s.jl.train.length).foldl (fun (t : Tab Int) n => t.put n (signed 16 (fld (s.jl.train.getD n 0) 0 16))) []
  let s := { s with jl := { s.jl with
    st := .master, claim := none, first := some b, master := s.jl.idInUse, members := [(s.jl.idInUse, ())], joins := [],
    leaves := [], reports := [], missing := [], grants, resign := false, resigned := false, miss := 0, admission := 0, wrapped := false },
                     sh := { s.sh with joined := true } }
  setSource (raise .jl 0 7 1 [if cold then 1 else 2, (b % 2 ^ 32 : Nat)] { s with tk := { s.tk with holding := false } })

/-- The node is eligible to claim (R568). -/
def mayClaim (s : State) : Bool :=
  let lockedPort := (List.range 2).any fun p => (s.port p).pll && decide ((s.port p).locked ≥ 16)
  let recent := match s.jl.beat with | some b => decide (beatNow s ≤ b + 16) | none => false
  claimEn s && decide (jlNodeId s < 32) && lockedPort && (!recent || s.jl.st == .member)

/-- Send CLAIM on both rings, in the idle, and open the claim (R569, R576).  [DEDUCED, unsafe: log 134] -/
def claimNow (cold : Bool) (s : State) : State :=
  let s := { s with jl := { s.jl with idInUse := jlNodeId s, claim := some cold } }
  let pl := bytesOf 1 (claimRank s) ++ bytesOf 1 (s.jl.lastFollowed.getD 0xFF) ++ bytesOf 1 (b2n cold) ++
    List.replicate 13 0
  let alt := 1 - s.jl.alt.get 8 1
  let h := 8 * 4096 + alt * 1024 + s.jl.idInUse * 32 + s.jl.idInUse
  let s := { s with jl := { s.jl with alt := s.jl.alt.put 8 alt } }
  txCell 1 { hdr := h + 2048, pl } (txCell 0 { hdr := h, pl } s)

/-- SYNC_MISS_CHECK (R176, R569, R585): 2,000 ns after a beat boundary, no SYNC of that beat has passed.
[DEDUCED, unsafe: log 132] -/
def syncMissCheck (s : State) : State :=
  let s := advanceTo (boundary 4000 (s.jl.checkAt - 2000) (s.tk.now - 2000) + 2000) s
  let b := beatNow s
  let s := { s with jl := { s.jl with checkAt := s.tk.now } }
  if !follows s || s.jl.beat = some b then s
  else
    let s := bump 0x47054 { s with jl := { s.jl with miss := s.jl.miss + 1, run := 0 } }
    let s := setSource { s with tk := { s.tk with holding := true } }
    let s := if s.jl.miss = 3 then raise .jl 0 8 1 [s.jl.master] s else s
    if s.jl.miss = 3 ∧ s.jl.st = .member ∧ mayClaim s then claimNow false s
    else if s.jl.miss ≥ 3 ∧ s.jl.st ≠ .member then setSource { s with jl := { s.jl with st := .masterless, loaded := false } }
    else if s.jl.miss ≥ 8 ∧ s.jl.st = .member then leftRing 2 .masterless s
    else s

def execSyncMissCheck (s : State) : Out := .next (mainOn s (syncMissCheck s))

/-- Local beat counts of the ports and of the silence (R568, R569, R583). -/
def countBeats (s : State) : State :=
  let s := (List.range 2).foldl (fun s p =>
    let x := s.port p
    s.setPort p { x with locked := if x.pll then x.locked + 1 else 0, upBeats := if portUp s p then x.upBeats + 1 else 0 }) s
  if s.jl.st = .masterless ∧ (portUp s 0 ∨ portUp s 1) then { s with jl := { s.jl with quiet := s.jl.quiet + 1 } } else s

/-- What follows from the node's state at a beat boundary, `gone` telling that JOIN_EN has gone to 0 or the park sequence has begun
(R565–R567, R569, R572). -/
def stateBeat (gone : Bool) (s : State) : State :=
  match s.jl.st with
  | .master =>
    if gone && s.jl.first != some (beatNow s) then leftRing 1 .masterless s
    else if s.jl.resign then resignRing s
    else masterFrame (decideJoins s)
  | .member =>
    if s.jl.leaving && s.jl.left then leftRing 1 .follower s
    else if gone && !s.jl.leaving then sendLeave 1 s
    else s
  | .joining | .refused =>
    if !joinEn s then { s with jl := { s.jl with st := .follower, loaded := false } }
    else
      let s := { s with jl := { s.jl with joinAge := s.jl.joinAge + 1 } }
      if s.jl.joinAge ≥ (if s.jl.st = .refused then 256 else 4) then sendJoin s else s
  | .follower => s
  | .masterless => if s.jl.quiet ≥ 16 ∧ mayClaim s then claimNow true { s with jl := { s.jl with quiet := 0 } } else s

/-- The node's part of a beat boundary (R565–R570, R572, R562, R577).
[DEDUCED, unsafe: log 133; DEDUCED, unsafe: log 134; DEDUCED, unsafe: log 137; DEDUCED, unsafe: log 184] -/
def nodeBeat (s : State) : State :=
  let s := countBeats s
  -- WAKE_RING (R563) sends WAKE to every member
  let s := if s.jl.wakeAsked then sendMsg 5 s.jl.idInUse 1 plZero { s with jl := { s.jl with wakeAsked := false } } else s
  -- an open claim becomes mastership
  let s := match s.jl.claim with | some cold => becomeMaster cold s | none => s
  let gone := (s.jl.joinWas && !joinEn s) || s.sl.parking.isSome
  let new := s.jl.first == some (beatNow s)
  flushIdle (stateBeat gone { s with jl := { s.jl with joinWas := if new then s.jl.joinWas else joinEn s } })

/-- BEAT_BOUNDARY, but for what the park sequence adds (R515–R518, R526, R528, R544, R566, R569, R821).
[DEDUCED, unsafe: log 129] -/
def beatBoundary (s : State) : State :=
  let s := advanceTo (boundary 4000 s.sh.beatAt s.tk.now) s
  let s := { s with sh := { s.sh with beatAt := s.tk.now, beatEarly := false } }
  let old := s
  let s := budgetDone (actBeat s)
  let s := shutterBeat old s
  nodeBeat s

/-- JL_USER (R283, R556, R559).  [DEDUCED, unsafe: log 136] -/
def jlUser (r : Nat) (d : List Byte) (s : State) : State :=
  checked r d needNothing false (fun s =>
    let ready := fun p => match portState s p with | .off | .notReady => false | _ => true
    if !isMember s || !(ready 0 || ready 1) then complete r .busy 0 0x0F s
    else
      let t := dTarget d
      let pl := (d.drop 0x18).take 16
      if t = s.jl.idInUse then complete r .ok 0 0 (userRx t false pl s)
      else
        let s := { s with jl := { s.jl with out := s.jl.out.map fun m => if m.user = some r then { m with user := none } else m } }
        flushIdle (queueNew { newMsg s 10 (if t = 0xFF then s.jl.idInUse else t) 1 pl with user := some r } (setStage r .acted s))) s

def execJlUser (r : Nat) (s : State) : Out := .next (mainOn s (begin_ r 0x60 (jlUser r) s))

/-! ### JL_ registers -/

/-- JL_PORT_STATUS, but for TONE_HEARD. -/
def jlPortStatus (s : State) (p : Nat) : Nat :=
  let x := s.port p
  let st := match portState s p with | .off => 0 | .notReady => 1 | .seeking => 2 | .up => 3 | .down => 4
  at_ 21 1 (b2n x.nbValid) + at_ 16 5 x.nb + at_ 8 1 (b2n (toneSending s p)) + at_ 7 1 (b2n x.wrap) +
    at_ 6 1 (b2n x.pll) + at_ 5 1 (b2n x.rxSync) + st

/-- JL_RING_STATUS. -/
def jlRingStatus (s : State) : Nat :=
  let st := if !portUp s 0 && !portUp s 1 then 0 else match s.jl.st with
    | .masterless => 1 | .follower => 2 | .joining => 3 | .member => 4 | .master => 5 | .refused => 6
  at_ 26 6 s.jl.joined + at_ 20 5 s.jl.master + at_ 14 6 s.jl.idInUse + at_ 11 1 (b2n s.jl.split) +
    at_ 10 1 (b2n s.jl.wrapped) + at_ 9 1 (b2n s.jl.claim.isSome) + st

end Sys2Proof.Machine
end

