-- ==== Sys2Proof/Machine/Archive.lean ====
section
/-!
DEFINITION. Machine/Archive.lean: the archive: its bytes (R343, R344), zeroing (R372), the fill (R345–R350, R367), sessions and
leases (R351–R356, R364, R366, R369), heartbeat lines (R357–R359, R368), and accesses (R361, R363, R365, R370, R371).
-/
namespace Sys2Proof.Machine

/-! ### Archive bytes -/

/-- One archive byte; an unlisted byte reads 0, as zeroing leaves it (R344).  [DESIGN CHOICE, unsafe: log 90] -/
def memGet (m : List Host.Cell) (a : Nat) : Byte := Tab.get m a 0

/-- Write one archive byte, keeping the list canonical. -/
def memPut (m : List Host.Cell) (a : Nat) (b : Byte) : List Host.Cell := if b = 0 then Tab.del m a else Tab.put m a b

/-- Read `n` bytes from `a`. -/
def memRead (m : List Host.Cell) (a n : Nat) : List Byte := (List.range n).map fun k => memGet m (a + k)

/-- Write bytes from `a`. -/
def memWrite (m : List Host.Cell) : Nat → List Byte → List Host.Cell
  | _, [] => m
  | a, b :: t => memWrite (memPut m a b) (a + 1) t

/-- Addresses strictly rising and no entry that holds the value an unlisted address reads as. -/
def Memory.wf (m : List Host.Cell) : Bool := Tab.rising m && m.all fun e => e.2 != 0

/-- Bytes of an extent, and its first byte (R343). -/
def extBytes : Nat := 0x200000
def extOf (a : Nat) : Nat := a / extBytes

def arPut (a : Nat) (l : List Byte) (s : State) : State := { s with ar := { s.ar with mem := memWrite s.ar.mem a l } }

/-! ### Registers and the fill range -/

/-- [DEDUCED, unsafe: log 20] -/
def fillEn (s : State) : Bool := bitOf (s.wr 0x45004 0) 0
def fillRange (s : State) : Word := s.acting 0x45008 0x07FE0000
def fillFirst (s : State) : Nat := fld (fillRange s) 0 11
def fillLast (s : State) : Nat := fld (fillRange s) 16 11
def fillSpools (s : State) : Word := s.acting 0x4500C 0x000FFFFF
def inFill (s : State) (x : Nat) : Bool := decide (fillFirst s ≤ x) && decide (x ≤ fillLast s)

/-! ### Zeroing -/

/-- Start zeroing the head of the queue, where none is being zeroed. -/
def zeroNext (s : State) : State :=
  match s.ar.zeroQ with
  | [] => s
  | x :: _ => s.setExt x { s.ext x with st := .zeroing }

/-- Queue an extent for zeroing; `first` puts it next after the one under way (R349). -/
def zeroAsk (first : Bool) (x : Nat) (s : State) : State :=
  if s.ar.zeroQ.contains x && !first then s
  else
    let q := s.ar.zeroQ
    let q' := if first then (match q with
        | [] => [x]
        | y :: t => if y = x then q else y :: x :: t.filter fun z => z != x) else q ++ [x]
    zeroNext { s with ar := { s.ar with zeroQ := q' } }

/-- An extent goes to ZEROING (R356, R367). -/
def toZeroing (x : Nat) (s : State) : State := zeroAsk false x (s.setExt x { s.ext x with st := .zeroing, held := none })

/-! ### The fill -/

/-- The extent the fill would take next, from `x` on in ascending order, wrapping, held ones skipped (R349).
[DEDUCED, unsafe: log 94] -/
def nextFill (s : State) (x : Nat) : Option Nat :=
  let a := fillFirst s
  let n := fillLast s + 1 - a
  (List.range n).map (fun k => a + (x - a + k) % n) |>.find? fun y => (s.ext y).held.isNone && some y != s.ar.filling

/-- The extent the fill goes on with: the one chosen, or FIRST at the start.  [DEDUCED, unsafe: log 94] -/
def fillTarget (s : State) : Option Nat :=
  match s.ar.nextExt with
  | some x => if (s.ext x).held.isNone && inFill s x then some x else nextFill s x
  | none => nextFill s (fillFirst s)

/-- Line 0 of an extent (R348).  [DEDUCED, unsafe: log 93] -/
def fillHeader (first last firstSeq records ext lap state : Nat) : List Byte :=
  bytesOf 8 first ++ bytesOf 8 last ++ bytesOf 4 firstSeq ++ bytesOf 4 records ++ bytesOf 2 ext ++ bytesOf 2 lap ++
    bytesOf 1 state ++ List.replicate 35 0

/-- A whole line without poison is written: a marker and an error that the line held are gone (R198). -/
def arLine (line : Nat) (bytes : List Byte) (s : State) : State :=
  arPut line bytes { s with ar := { s.ar with poisoned := s.ar.poisoned.del line, ueLines := s.ar.ueLines.del line } }

/-- Nothing in the range can become FILLING now: FILL_BLOCKED, once until the fill resumes (R350).  [DEDUCED, unsafe: log 94] -/
def fillBlock (s : State) : State :=
  if s.ar.blocked then s
  else
    let k := ((List.range (fillLast s + 1)).filter fun x => inFill s x && (s.ext x).st == .sealed).length
    raise .ar 0 2 1 [k] { s with ar := { s.ar with blocked := true, blockedDrops := 0 } }

/-- Nothing stands in extent `x` but the zeros of its zeroing (R343): one that was held for writing need not be so.
[DEDUCED, unsafe: log 94] -/
def extClean (s : State) (x : Nat) : Bool :=
  !(s.ar.mem.any fun e => extOf e.1 == x) && !(s.ar.poisoned.any fun e => extOf e.1 == x)

/-- The extent that the fill takes next is zeroed before it becomes FILLING, next after the one under way (R349).
[DEDUCED, unsafe: log 94] -/
def fillZero (x : Nat) (s : State) : State :=
  match (s.ext x).st with
  | .free => if extClean s x then s else zeroAsk true x (s.setExt x { s.ext x with st := .zeroing })
  | .sealed => zeroAsk true x (s.setExt x { s.ext x with st := .zeroing })
  | _ => zeroAsk true x s

/-- Extent `x`, which is FREE, becomes FILLING; the one after it is chosen and zeroed at once (R348, R349). -/
def fillTake (x : Nat) (s : State) : State :=
  let wraps := match s.ar.opened with | some p => decide (x ≤ p) | none => false
  let lap := if wraps then (s.ar.lap + 1) % 65536 else s.ar.lap
  let s := s.setExt x { s.ext x with st := .filling }
  let s := { s with ar := { s.ar with filling := some x, opened := some x, line := 1, lap } }
  let s := arLine (x * extBytes) (fillHeader 0 0 s.ar.seq 0 x lap 1) s
  let after := if x + 1 > fillLast s then fillFirst s else x + 1
  match nextFill s after with
  | none => { s with ar := { s.ar with nextExt := some after } }
  | some y => fillZero y { s with ar := { s.ar with nextExt := some y } }

/-- The fill opens its next extent where it is FREE; one that has gone on before and finds none is blocked (R349, R350, R372).
[DEDUCED, unsafe: log 20; DEDUCED, unsafe: log 94] -/
def fillOpen (s : State) : State :=
  if s.ar.filling.isSome || !fillEn s || s.ar.fail.isSome || !s.ar.trained then s
  else
    match fillTarget s with
    | none => fillBlock s
    | some x =>
      if (s.ext x).st = .free ∧ extClean s x then fillTake x s
      else if (s.ext x).st = .free ∧ s.ar.opened.isNone then fillZero x s
      else if s.ar.opened.isSome then fillBlock (fillZero x s)
      else s

/-- Seal the FILLING extent with the records it holds (R348, R349, R367). -/
def fillSeal (s : State) : State :=
  match s.ar.filling with
  | none => s
  | some x =>
    let s := arPut (x * extBytes + 8) (bytesOf 8 s.ar.lastTime) s
    let s := arPut (x * extBytes + 0x14) (bytesOf 4 (s.ar.line - 1)) s
    let s := arPut (x * extBytes + 0x1C) (bytesOf 1 2) s
    let s := s.setExt x { s.ext x with st := .sealed }
    { s with ar := { s.ar with filling := none } }

/-- The 56 bytes of a record (R298, R299). -/
def recBytes (r : Rec) : List Byte :=
  bytesOf 8 r.time ++ bytesOf 2 r.src ++ bytesOf 1 r.kind ++ bytesOf 1 r.stream ++ bytesOf 2 r.gen ++ bytesOf 2 r.seq ++
    ((r.body ++ List.replicate 10 0).take 10).foldl (fun l (w : Word) => l ++ bytesOf 4 w.toNat) []

/-- A record that commits into spool `sp` is copied where the fill settings name it (R346–R350).  [DEDUCED, unsafe: log 93] -/
def fillCopy (sp : Nat) (r : Rec) (s : State) : State :=
  let f := fillSpools s
  if !fillEn s || s.ar.fail.isSome || !bitOf f sp || !bitOf f (15 + r.kind) then s
  else
    let wasBlocked := s.ar.blocked
    let s := fillOpen s
    match s.ar.filling with
    | none =>
      if s.ar.blocked then bump 0x45018 { s with ar := { s.ar with blockedDrops := s.ar.blockedDrops + 1 } } else s
    | some x =>
      let s := if wasBlocked then
          raise .ar 0 3 0 [s.ar.blockedDrops] { s with ar := { s.ar with blocked := false, blockedDrops := 0 } } else s
      let base := x * extBytes
      let tail := bytesOf 4 s.ar.seq ++ bytesOf 1 r.kind ++ bytesOf 1 sp ++ bytesOf 1 0 ++ bytesOf 1 1
      let s := if s.ar.line = 1 then arPut base (bytesOf 8 r.time) s else s
      let s := arLine (base + 64 * s.ar.line) (recBytes r ++ tail) s
      let s := { s with ar := { s.ar with line := s.ar.line + 1, lastTime := r.time, seq := (s.ar.seq + 1) % 2 ^ 32 } }
      if s.ar.line > 32767 then fillOpen (fillSeal s) else s

/-- A new AR_FILL_RANGE acts (R367); `old` is the state before.  Before training an extent that leaves waits for it (R372). -/
def fillRangeActs (old s : State) : State :=
  if fillRange old = fillRange s then s
  else
    let s := fillSeal s
    let s := { s with ar := { s.ar with nextExt := none } }
    let left := (List.range 2048).filter fun x => inFill old x && !inFill s x
    let s := left.foldl (fun s x =>
      if (s.ext x).held.isSome then s
      else if s.ar.trained then toZeroing x s
      else s.setExt x { s.ext x with st := .zeroing }) s
    fillOpen s

/-! ### Sessions -/

/-- Extents an LD holds. -/
def heldBy (s : State) (l : Nat) : List Nat :=
  (s.ar.ext.filter fun e => match e.2.held with | some (k, _) => k == l | none => false).map (·.1)

/-- Release one extent (R356); a fill that is blocked has the one it can take now zeroed (R350). -/
def releaseExt (x : Nat) (s : State) : State :=
  if inFill s x then
    let s := s.setExt x { s.ext x with held := none }
    if s.ar.blocked then (match fillTarget s with | some y => fillZero y s | none => s) else s
  else toZeroing x s

/-- Deadline of an ACTIVE session (R354).  [DEDUCED, unsafe: log 91] -/
def Lease.deadline (l : Lease) : Nat := l.renewed + l.term * 1000000

/-- LEFT_MS (R357, R374). -/
def leftMs (s : State) (l : Nat) : Nat :=
  let x := s.lease l
  if x.st = .active then (x.deadline - s.tk.now) / 1000000 else 0

/-- Extents of a lease command. -/
def dExtents (d : List Byte) : List Nat := List.range' (dU16 d 0x10) (dU16 d 0x12)

/-- LEASE_* need CXL mode (R279), LEASE_TAKE also an archive that has not failed (R371). -/
def needLease (s : State) : Option Nat := if !s.hl.cxl then some 4 else none
def needTake (s : State) : Option Nat := if !s.hl.cxl || s.ar.fail.isSome then some 4 else none

/-- LEASE_TAKE (R352, R353). -/
def leaseTake (r : Nat) (d : List Byte) (s : State) : State :=
  checked r d needTake false (fun s =>
    let l := dTarget d
    let xs := dExtents d
    let rw := dU8 d 0x18 == 1
    let x := s.lease l
    if rw && xs.any (fun e => inFill s e) then complete r .noResource 0 0x18 s
    else if xs.any (fun e => match (s.ext e).held with | some (k, _) => k != l | none => false) then complete r .busy 0 0x0A s
    else if xs.any (fun e => (s.ext e).st == .unzeroed || (s.ext e).st == .zeroing) then complete r .busy 0 0x09 s
    else
      let new := x.st != .active
      let n := if new then s.ar.nextSession else x.session
      let s := if new then { s with ar := { s.ar with nextSession := if n ≥ 0xFFFFFFFF then 1 else n + 1 } } else s
      let s := xs.foldl (fun s e => s.setExt e { s.ext e with held := some (l, rw) }) s
      let s := s.setLease l { s.lease l with st := .active, session := n, term := dU32 d 0x14, renewed := s.tk.now,
                                              sampled := if new then (s.lease l).beat else (s.lease l).sampled }
      complete r .ok n 0 s) s

def execLeaseTake (r : Nat) (s : State) : Out := .next (mainOn s (begin_ r 0x40 (leaseTake r) s))

/-- LEASE_RENEW (R279, R354). -/
def leaseRenew (r : Nat) (d : List Byte) (s : State) : State :=
  checked r d needLease false (fun s =>
    let l := dTarget d
    let x := s.lease l
    if x.st = .active ∧ x.session = dU32 d 0x1C then
      complete r .ok x.session 0 (s.setLease l { x with term := dU32 d 0x14, renewed := s.tk.now })
    else complete r .stale 0 0 s) s

def execLeaseRenew (r : Nat) (s : State) : Out := .next (mainOn s (begin_ r 0x41 (leaseRenew r) s))

/-- LEASE_DROP (R279, R355, R356). -/
def leaseDrop (r : Nat) (d : List Byte) (s : State) : State :=
  checked r d needLease false (fun s =>
    let l := dTarget d
    let x := s.lease l
    if x.st = .active ∧ x.session = dU32 d 0x1C then
      let mine := (dExtents d).filter fun e => match (s.ext e).held with | some (k, _) => k == l | none => false
      let s := mine.foldl (fun s e => releaseExt e s) s
      let s := if (heldBy s l).isEmpty then s.setLease l { s.lease l with st := .none, session := 0 } else s
      complete r .ok 0 0 s
    else complete r .stale 0 0 s) s

def execLeaseDrop (r : Nat) (s : State) : Out := .next (mainOn s (begin_ r 0x42 (leaseDrop r) s))

/-- HEARTBEAT_SAMPLE (R354, R359, R364, R369): each millisecond.  [DEDUCED, unsafe: log 91] -/
def heartbeatSample (s : State) : State :=
  let t := boundary 1000000 s.ar.sampleAt s.tk.now
  let s := advanceTo t { s with ar := { s.ar with sampleAt := t } }
  (List.range 4).foldl (fun s l =>
    let x := s.lease l
    if x.st = .active then
      let x := if x.beat ≠ x.sampled ∧ x.claimed = x.session then { x with renewed := s.tk.now } else x
      let x := { x with sampled := x.beat }
      let s := s.setLease l x
      if x.deadline ≤ s.tk.now then
        let mine := heldBy s l
        let s := mine.foldl (fun s e => releaseExt e s) s
        raise .ar 0 0 1 [l, x.session, mine.length] (s.setLease l { x with st := .lost, session := 0 })
      else s
    else s) s

def execHeartbeatSample (s : State) : Out := .next (mainOn s (heartbeatSample s))

/-! ### Zeroing events and training -/

/-- EXTENT_ZEROED (R344, R350, R372): the extent being zeroed is FREE. -/
def extentZeroed (s : State) : State :=
  match s.ar.zeroQ with
  | [] => s
  | x :: rest =>
    let s := s.setExt x { s.ext x with st := .free, freed := true }
    let lo := x * extBytes
    let out := fun (a : Nat) => decide (lo ≤ a) && decide (a < lo + extBytes)
    let s := { s with ar := { s.ar with
      zeroQ := rest, mem := Tab.keep s.ar.mem fun a => !out a,
      poisoned := s.ar.poisoned.keep fun a => !out a, ueLines := s.ar.ueLines.keep fun a => !out a } }
    let s := zeroNext s
    let all := (List.range 2048).all fun x => (s.ext x).freed
    let s := if all && !s.ar.zeroDone then raise .ar 0 1 0 [] { s with ar := { s.ar with zeroDone := true } } else s
    if s.ar.blocked then s else fillOpen s

def execExtentZeroed (s : State) : Out := .next (mainOn s (extentZeroed s))

/-- Archive training begins once domains 5, 6 and 7 are ON: with VDD1, VDD2 or VDDQ below its operating range it fails (R852, R853).
[DEDUCED, unsafe: log 92] -/
def trainingBegins (s : State) : State :=
  if s.isOn 5 && s.isOn 6 && s.isOn 7 then { s with ar := { s.ar with railsLow := [6, 7, 8].any s.sl.low.contains } } else s

/-- ARCHIVE_TRAINING_DONE (R371, R372, R852, R853): `failed` names the first archive channel whose training failed; a rail out of its range
fails both.  [DEDUCED, unsafe: log 92] -/
def archiveTrainingDone (failed : Option Nat) (s : State) : State :=
  if s.ar.trained || s.ar.fail.isSome || !(s.isOn 5 && s.isOn 6 && s.isOn 7) then s
  else
    match (if s.ar.railsLow then some 0 else failed) with
    | some c => raise .ar 0 4 2 [c % 2] { s with ar := { s.ar with fail := some (c % 2) } }
    | none =>
      let f := fillFirst s
      zeroNext { s with ar := { s.ar with trained := true, zeroQ := List.range' f (2048 - f) ++ List.range f } }

def execArchiveTrainingDone (failed : Option Nat) (s : State) : Out := .next (mainOn s (archiveTrainingDone failed s))

/-! ### CXL.mem accesses -/

/-- First byte of the heartbeat window (R345). -/
def hbBase : Nat := 0xFFFFFF00

/-- State code of R357. -/
def LeaseState.code : LeaseState → Nat | .none => 0 | .active => 1 | .lost => 2

/-- An LD's heartbeat line (R357).  [DEDUCED, unsafe: log 95] -/
def heartbeatLine (s : State) (l : Nat) : List Byte :=
  let x := s.lease l
  bytesOf 8 x.beat ++ bytesOf 4 x.claimed ++ List.replicate 20 0 ++
    bytesOf 4 (if x.st = .active then x.session else 0) ++ bytesOf 1 x.st.code ++ List.replicate 3 0 ++
    bytesOf 4 (leftMs s l) ++ bytesOf 4 (heldBy s l).length ++ bytesOf 8 x.renewed ++ List.replicate 8 0

/-- The extent at `a` is one LD `l` may access now (R361).  [DESIGN CHOICE, unsafe: log 90] -/
def mayAccess (s : State) (l a : Nat) (write : Bool) : Bool :=
  let x := s.lease l
  x.st == .active && x.claimed == x.session &&
    match (s.ext (extOf a)).held with
    | some (k, rw) => k == l && (!write || rw)
    | none => false

/-- The line at `a` reads as poison for its contents (R197, R198, R363, R371). -/
def linePoison (s : State) (a : Nat) : Bool :=
  let l := a / 64 * 64
  s.ar.fail.isSome || s.ar.poisoned.has l || s.ar.ueLines.has l ||
    (match (s.ext (extOf a)).st with | .unzeroed | .zeroing => true | _ => false)

/-- A line enters the poison list (R199); in CXL mode the CXL event log records it (R189).  [DEDUCED, unsafe: log 55] -/
def poisonAdd (line : Nat) (s : State) : State :=
  let s := if s.hl.poison.length < 64 then { s with hl := { s.hl with poison := s.hl.poison ++ [line] } }
    else { s with hl := { s.hl with poisonOver := true } }
  let s := raise .hl 0 10 1 [] s
  if s.hl.cxl then
    let s := signalSpaced 21 { s with hl := { s.hl with cxlLog := s.hl.cxlLog ++ [(line, 0)] } }
    [2, 3, 4].foldl (fun s f => signal f 1 s) s
  else s

/-- An uncorrectable line was met (R199, R370).  [DEDUCED, unsafe: log 55] -/
def lineError (line : Nat) (s : State) : State := poisonAdd line (bump 0x45044 s)

/-- Count a refused access in the LD's selected counter (R361). -/
def unleased (l : Nat) (write : Bool) (s : State) : State := bump (selKey (if write then 0x45038 else 0x45034) l) s

/-- The archive offset that host address `a` reaches through LD `l`: it hits the LD's committed decoder (R196, R207).
[PRESUMED, unsafe: log 209] -/
def hdmHit (s : State) (l a : Nat) : Option Nat :=
  let x := s.ld l
  if x.committed && decide (x.base ≤ a) && decide (a < x.base + 2 ^ 32) then some (a - x.base) else none

/-- The archive die reports `k` corrected words (R370). -/
def corrected (k : Nat) (s : State) : State := bumpBy 0x45040 0xFFFFFFFF k s

/-- CXL_MEM_READ (R196, R197, R207, R358, R361, R365, R370, R371): LD `l` reads the line that holds host address `a`; `words` is the number
of words of it that the archive die corrects, and `ue` says that it reports an uncorrectable error.  [DEDUCED, unsafe: log 95] -/
def cxlMemRead (l a words : Nat) (ue : Bool) (s : State) : State :=
  if !s.hl.cxl || s.hl.link != .up then s
  else
    let poison := fun (s : State) => send (.cxlData l [] true) (bump 0x4203C s)
    let s := traffic s
    match hdmHit s l a with
    | none => poison s
    | some o =>
      let line := o / 64 * 64
      if line ≥ hbBase then
        (if s.ar.fail.isSome then poison s else send (.cxlData l (heartbeatLine s ((line - hbBase) / 64)) false) s)
      else if !mayAccess s l line false then poison (unleased l false s)
      else
        let s := if ue ∧ s.ar.fail.isNone then { s with ar := { s.ar with ueLines := s.ar.ueLines.put line () } } else s
        let s := if s.ar.fail.isSome then s else corrected words s
        if s.ar.ueLines.has line && s.ar.fail.isNone then poison (lineError line s)
        else if linePoison s line then poison s
        else send (.cxlData l (memRead s.ar.mem line 64) false) s

def execCxlMemRead (l a words : Nat) (ue : Bool) (s : State) : Out := .next (mainOn s (cxlMemRead l a words ue s))

/-- CXL_MEM_WRITE (R196, R198, R199, R206, R207, R358, R361, R365, R368, R371): LD `l` writes bytes from host address `a` within one
line.  [DEDUCED, unsafe: log 95] -/
def cxlMemWrite (l a : Nat) (bytes : List Byte) (poison : Bool) (s : State) : State :=
  if !s.hl.cxl || s.hl.link != .up || bytes.isEmpty then s
  else
    let s := traffic s
    match hdmHit s l a with
    | none => unleased l true s
    | some o =>
      let line := o / 64 * 64
      if s.ar.fail.isSome then unleased l true s
      else if line ≥ hbBase then
        if line = hbBase + 64 * l ∧ o + bytes.length ≤ line + 12 ∧ !poison then
          let x := s.lease l
          let old := bytesOf 8 x.beat ++ bytesOf 4 x.claimed
          let new := plPut old (o - line) bytes
          s.setLease l { x with beat := leAt new 0 8, claimed := leAt new 8 4 }
        else unleased l true s
      else if !mayAccess s l o true then unleased l true s
      else if poison then
        poisonAdd line (arPut o (bytes.take (line + 64 - o)) { s with ar := { s.ar with poisoned := s.ar.poisoned.put line () } })
      else if o = line ∧ bytes.length ≥ 64 then arLine line (bytes.take 64) s
      else arPut o (bytes.take (line + 64 - o)) s

def execCxlMemWrite (l a : Nat) (bytes : List Byte) (poison : Bool) (s : State) : Out := .next (mainOn s (cxlMemWrite l a bytes poison s))

/-! ### ARCHIVE_COPY -/

/-- ARCHIVE_COPY begins (R280, R200, R371). -/
def archiveCopy (r : Nat) (d : List Byte) (s : State) : State :=
  checked r d needNothing false (fun s =>
    if s.ar.fail.isSome then complete r .fault 0 0x0C s else setStage r (.copied 0) s) s

def execArchiveCopy (r : Nat) (s : State) : Out := .next (mainOn s (begin_ r 0x43 (archiveCopy r) s))

/-- Lines that can be copied before the first that would read as poison.  [DEDUCED, unsafe: log 96] -/
def copyLines (s : State) : Nat → Nat → Nat
  | 0, _ => 0
  | n + 1, a => if linePoison s a then 0 else 1 + copyLines s n (a + 64)

/-- One archive byte as ARCHIVE_COPY reads it: the heartbeat window is read as it stands. -/
def copyByte (s : State) (a : Nat) : Byte :=
  if a ≥ hbBase then (heartbeatLine s ((a - hbBase) / 64)).getD (a % 64) 0 else memGet s.ar.mem a

/-- ARCHIVE_COPY_DONE (R280, R363, R370): the last byte is written, or the copy stops at the first line that would read as poison; `words`
is the number of words that the archive die corrects on the way, and `ue` the index of the first line in which it meets an uncorrectable error.
[DEDUCED, unsafe: log 96] -/
def archiveCopyDone (r words : Nat) (ue : Option Nat) (s : State) : State :=
  match (s.ring r).exec with
  | some e =>
    if dOp e.d = 0x43 ∧ e.stage = .copied 0 ∧ s.canDma 0 ∧ dmaTurn s 4 then
      let src := dU64 e.d 0x10
      let want := dU32 e.d 0x20 / 64
      let lineAt := fun k => (src + 64 * k) / 64 * 64
      let s := match ue with
        | some k => if k < want ∧ k ≤ copyLines s want src then { s with ar := { s.ar with ueLines := s.ar.ueLines.put (lineAt k) () } } else s
        | none => s
      let n := copyLines s want src
      let s := corrected words s
      let s := if n = 0 then s
        else issueWrite 4 0 (dU64 e.d 0x18) ((List.range (64 * n)).map fun k => copyByte s (src + k)) (.copy r) s
      if n = want then complete r .ok (64 * n) 0 s
      else
        let s := if s.ar.ueLines.has (lineAt n) then lineError (lineAt n) s else s
        complete r .fault (64 * n) 0x0C s
    else s
  | none => s

/-! ### AR_ registers -/

/-- Extent state codes (R343). -/
def ExtState.code : ExtState → Nat | .unzeroed => 0 | .zeroing => 1 | .free => 2 | .filling => 3 | .sealed => 4

def arStatus (s : State) : Nat := at_ 2 1 (b2n s.ar.fail.isSome) + at_ 1 1 (b2n s.ar.blocked) + b2n s.ar.zeroDone
def arFillPos (s : State) : Nat := match s.ar.filling with | some x => at_ 16 16 s.ar.line + at_ 0 11 x | none => 0
def arExtStatus (s : State) (x : Nat) : Nat :=
  let e := s.ext x
  let (l, rw, h) := match e.held with | some (k, b) => (k, b2n b, 1) | none => (0, 0, 0)
  at_ 8 2 l + at_ 5 1 rw + at_ 4 1 h + e.st.code
def arLdStatus (s : State) (l : Nat) : Nat :=
  let x := s.lease l
  at_ 16 16 (min 65535 (leftMs s l)) + at_ 4 12 (heldBy s l).length + at_ 2 1 (b2n (x.st == .active && x.claimed == x.session)) +
    x.st.code
def arZeroStatus (s : State) : Nat :=
  at_ 31 1 (b2n !s.ar.zeroQ.isEmpty) +
    ((s.ar.ext.filter fun e => match e.2.st with | .free | .filling | .sealed => true | _ => false).length)

end Sys2Proof.Machine
end

