-- ==== Sys2Proof/Machine/Spools.lean ====
section
/-!
DEFINITION. Machine/Spools.lean: routing and cascade chains (R314–R317, R329–R332), commit, levels, refusal and drops (R318–R325,
R333, R337), slots, tail reads, stalls and shedding (R308–R313, R324, R326, R334–R336), the rewind mark and rewinds (R328,
R338, R339), strip binding (R277), and interrupt moderation of strips (R236).
-/
namespace Sys2Proof.Machine

/-! ### Settings and chains -/

/-- Reset values of SP_CONFIG, SP_CHMAP_LO and SP_CHMAP_HI of spool `n`. -/
def spConfigReset (n : Nat) : Word := if n = 0 then 0x80000000 else 0
def spMapReset (n : Nat) (hi : Bool) : Word :=
  if hi then (if n ≥ 8 then w32 (15 * 2 ^ (4 * (n - 8))) else 0) else (if n < 8 then w32 (15 * 2 ^ (4 * n)) else 0)

def spKey (n off : Nat) : Nat := 0x44000 + 0x100 * n + off
def spConfig (s : State) (n : Nat) : Word := s.acting (spKey n 0) (spConfigReset n)
def spMapLo (s : State) (n : Nat) : Word := s.acting (spKey n 8) (spMapReset n false)
def spMapHi (s : State) (n : Nat) : Word := s.acting (spKey n 12) (spMapReset n true)
def spAf (s : State) (n : Nat) : Nat := fld (s.wr (spKey n 4) 0x01C00040) 16 12
def spAe (s : State) (n : Nat) : Nat := fld (s.wr (spKey n 4) 0x01C00040) 0 12

/-- The next member of a chain (R329). -/
def spNext (cfg : Nat → Word) (n : Nat) : Option Nat := if bitOf (cfg n) 30 then some (fld (cfg n) 24 4) else none

/-- Members from `n` on to the tail. -/
def membersFrom (cfg : Nat → Word) : Nat → Nat → List Nat
  | 0, _ => []
  | k + 1, n => n :: (match spNext cfg n with | some m => membersFrom cfg k m | none => [])

/-- All chains are valid (R329): at most four members, no spool NEXT of two, no loop. -/
def chainsValid (cfg : Nat → Word) : Bool :=
  let all := List.range 16
  all.all fun n =>
    decide ((membersFrom cfg 17 n).length ≤ 4) &&
      decide ((all.filter fun m => spNext cfg m == some n).length ≤ 1)

/-- Head of the chain of `n`. -/
def headFrom (cfg : Nat → Word) : Nat → Nat → Nat
  | 0, n => n
  | k + 1, n => match (List.range 16).find? fun m => spNext cfg m == some n with | some m => headFrom cfg k m | none => n

def headOf (s : State) (n : Nat) : Nat := headFrom (spConfig s) 16 n
def membersOf (s : State) (n : Nat) : List Nat := membersFrom (spConfig s) 16 (headOf s n)

/-- Level of the chain headed by `h` (R321, R330, R332), and its capacity. -/
def spLevel (s : State) (h : Nat) : Nat := (membersOf s h).foldl (fun a n => a + (s.spool n).q.length) 0
def spCapacity (s : State) (h : Nat) : Nat := 512 * (membersOf s h).length

/-- The spool a record's source routes to (R314, R315). -/
def routeOf (s : State) (src : Nat) : Nat :=
  let all := List.range 16
  if src ≥ 0x8000 then (all.find? fun n => bitOf (spConfig s n) 31).getD 0
  else (all.find? fun n => if src < 32 then bitOf (spMapLo s n) src else bitOf (spMapHi s n) (src - 32)).getD (src / 4)

/-! ### Levels and drops -/

/-- SP_STATUS.DROPPED and the counters, and SPOOL_DROP for the first of its reason in the episode or millisecond (R325). -/
def spDrop (n reason : Nat) (r : Rec) (s : State) : State :=
  let h := headOf s n
  let s := rcSet (spKey h 0x10) 0x200 s
  let s := bumpBy (if r.kind = 1 then spKey h 0x14 else selKey (spKey h 0x14) 1) 0xFFFF 1 s
  let x := s.spool h
  let ms := s.tk.now / 1000000
  let x := if x.episode || x.repMs = ms then x else { x with reported := [], repMs := ms }
  if x.reported.contains reason then s.setSpool h x
  else raise .sp h 0x21 1 [h, reason, r.kind, r.src] (s.setSpool h { x with reported := reason :: x.reported })

/-- The level has fallen: an episode ends at AE (R322). -/
def levelFell (n : Nat) (s : State) : State :=
  let h := headOf s n
  let x := s.spool h
  if x.episode && decide (spLevel s h ≤ spAe s h) then
    s.setSpool h { x with episode := false, shedding := false, reported := [], repMs := s.tk.now / 1000000 }
  else s

/-- The level has risen: an episode begins at AF (R322). -/
def levelRose (n : Nat) (s : State) : State :=
  let h := headOf s n
  let x := s.spool h
  if !x.episode && decide (spLevel s h ≥ spAf s h) then
    raise .sp h 0x20 1 [h, spLevel s h] (s.setSpool h { x with episode := true, episodeAt := s.tk.clk, shedding := false, reported := [] })
  else s

/-- Episodes begin and end where the level of a chain stands now (R322).  [DEDUCED, unsafe: log 17] -/
def levels (s : State) : State :=
  (List.range 16).foldl (fun s n => if headOf s n = n then levelFell n (levelRose n s) else s) s

/-! ### Strips -/

/-- Some strip is bound with the spool's bit; one that is being released no longer counts (R317, R335). -/
def anyStrip (s : State) (origin : Nat) : Bool :=
  (List.range 8).any fun n => (s.strip n).bound && !(s.strip n).releasing && bitOf (w32 (s.strip n).spools) origin

/-- Take the record at the read side out of the spool. -/
def takeHead (n : Nat) (s : State) : State :=
  let x := s.spool n
  match readHead x.q with
  | (a, some (_, t)) => s.setSpool n { x with q := a ++ t }
  | (_, none) => s

/-- Mark the record at the read side as written. -/
def markHead (n strip k : Nat) (s : State) : State :=
  let x := s.spool n
  match readHead x.q with
  | (a, some (g, t)) => s.setSpool n { x with q := a ++ { g with wr := some (some strip, k) } :: t }
  | (_, none) => s

/-- The strip cannot take its next record: its function is not available, or the host owns its next slot (R313, R336). -/
def stalledNow (s : State) (n : Nat) : Bool :=
  let x := s.strip n
  x.bound && !x.error && (!stripAvailable s n || (match x.looks.head? with | some l => l.isOwned | none => false))

/-- The stall of strip `n` ends: STRIP_FLOW where it had been reported (R313). -/
def stallEnds (n : Nat) (s : State) : State :=
  let x := s.strip n
  match x.stall with
  | none => s
  | some t =>
    let s := s.setStrip n { x with stall := none, stallSaid := false }
    if x.stallSaid then raise .sp 0 0x25 0 [n, x.next, min 0xFFFFFFFF ((s.tk.clk - t) / 1000)] s else s

/-- A stall begins or ends as strip `n` stands now (R313, R336). -/
def stallSync (n : Nat) (s : State) : State :=
  let x := s.strip n
  if stalledNow s n then (if x.stall.isSome then s else s.setStrip n { x with stall := some s.tk.clk }) else stallEnds n s

/-- Issue tail reads ahead of need (R310, R327). -/
def stripLook (n : Nat) (s : State) : State :=
  (List.range 4).foldl (fun s _ =>
    let x := s.strip n
    if lookDue s n && dmaTurn s (tailClass s n) then
      let slot := (x.next + x.looks.length) % x.slots
      issueRead (tailClass s n) x.fn (x.base + 64 * slot + 0x38) 8 (.tail n slot) (s.setStrip n { x with looks := x.looks ++ [.read] })
    else s) s

/-- Whether a record is left that a releasing strip has still to write (R277, R335).  [DEDUCED, unsafe: log 85] -/
def releaseLeft (s : State) (n : Nat) : Bool :=
  (List.range 16).any fun k => (s.spool k).q.any fun g => g.wr.isNone && g.oldStrip == some n && !g.dead

/-- The binding of strip `n` ends: records written under it keep their granules until the mark passes them, or with `drop` are freed;
tail reads under way serve nothing more; records not yet signalled stay to be (R236, R277); with `drop` those still to write are routed to a
strip in error for good (R339).  [DEDUCED, unsafe: log 85] -/
def endBinding (n : Nat) (drop : Bool) (s : State) : State :=
  let x := s.strip n
  let mine := fun (g : Granule) => match g.wr with | some (some k, _) => k == n | _ => false
  let let_go := fun (g : Granule) => match g.wr with
    | some (some k, m) => if k = n then ({ g with wr := some (none, m) } : Granule) else g
    | _ =>
      if g.oldStrip != some n then g else if drop then ({ g with dead := true } : Granule) else ({ g with oldStrip := none } : Granule)
  let q := fun (l : List Granule) => (l.filter fun g => !(drop && mine g)).map let_go
  let f := fun (r : Req) => match r.issuer with | .tail k _ => if k = n then ({ r with issuer := .oldTail n } : Req) else r | _ => r
  let s := { s with sp := { s.sp with sp := s.sp.sp.map fun (e : Nat × Spool) => (e.1, { e.2 with q := q e.2.q }) }
                    hl := { s.hl with reqs := s.hl.reqs.map f, inbox := s.hl.inbox.map fun (e : Req × List Byte) => (f e.1, e.2) } }
  s.setStrip n { fn := x.fn, unsig := x.unsig, unsigAt := x.unsigAt }

/-- A release with nothing left to write, or of a strip in error, completes (R277, R339): the strip is unbound.
[DEDUCED, unsafe: log 85] -/
def releaseDone (n : Nat) (s : State) : State :=
  let x := s.strip n
  if x.releasing && (x.error || !releaseLeft s n) then
    let s := levels (endBinding n x.error s)
    match findExec s fun e => dOp e.d == 0x38 && dTarget e.d == n with
    | some (r, _) => complete r .ok 0 0 s
    | none => s
  else s

/-- Discard, at the read sides, records that no strip takes (R317, R339), and, in an episode, negatives whose strip is stalled
(R324).  `fuel` bounds the records looked at. -/
def settleSpool (n : Nat) : Nat → State → State
  | 0, s => s
  | fuel + 1, s =>
    match atReadSide s n with
    | none => s
    | some g =>
      let gone := fun reason (s : State) => settleSpool n fuel (levelFell n (spDrop n reason g.r (takeHead n s)))
      match stripOf s g with
      | none => if g.seen || anyStrip s g.origin then gone 4 s else s
      | some k =>
        let x := s.strip k
        if x.error || (g.dead && g.oldStrip == some k) then gone 4 s
        else
          let h := headOf s n
          if (s.spool h).episode && g.r.kind == 1 && stalledNow s k then
            gone 3 (s.setSpool h { s.spool h with shedding := true })
          else s

/-- Levels, stalls and read sides stand as they are now (R313, R317, R322, R324), releases that have nothing left complete, and strips read
further tails. -/
def settleAll (s : State) : State :=
  let s := (List.range 8).foldl (fun s n => stallSync n s) (levels s)
  let s := (List.range 16).foldl (fun s n => settleSpool n (s.spool n).q.length s) s
  let s := (List.range 8).foldl (fun s n => releaseDone n s) s
  (List.range 8).foldl (fun s n => stripLook n s) s

/-! ### Commit -/

/-- Spool `n` forwards its oldest record to the next member of its path, which has a free granule (R330, R332). -/
def forwardOne (n : Nat) (s : State) : State :=
  match (readHead (s.spool n).q).2 with
  | some (g, _) =>
    match g.path with
    | m :: rest =>
      if (s.spool m).q.length < 512 then
        let s := takeHead n s
        let y := s.spool m
        s.setSpool m { y with q := y.q ++ [{ g with path := rest }] }
      else s
    | [] => s
  | none => s

/-- The members of a chain, the last first, that are full forward a record, so that the head has a free granule where the chain has one
(R318, R330). -/
def makeRoom (h : Nat) (s : State) : State :=
  (membersOf s h).foldr (fun n s => if 512 ≤ (s.spool n).q.length then forwardOne n s else s) s

/-- A record commits (R299, R316, R319, R322, R323, R330, R333, R346).  [DESIGN CHOICE, unsafe: log 211] -/
def commitRec (r : Rec) (s : State) : State :=
  let h := headOf s (routeOf s r.src)
  let key := r.src * 8 + r.kind
  let seq := s.sp.srcSeq.get key 0
  let s := { s with sp := { s.sp with srcSeq := s.sp.srcSeq.put key ((seq + 1) % 65536) } }
  let r := { r with seq }
  let x := s.spool h
  if x.episode && r.kind == 1 && decide (x.episodeAt < s.tk.clk) then spDrop h 1 r s
  else if spLevel s h ≥ spCapacity s h then spDrop h 2 r s
  else
    let s := makeRoom h s
    let x := s.spool h
    if x.q.length ≥ 512 then spDrop h 2 r s else
    let g : Granule := { r, origin := h, path := (membersOf s h).drop 1 }
    let s := s.setSpool h { x with q := x.q ++ [g] }
    settleAll (fillCopy h r s)

/-- A record of raw words (R298, R299, R318). -/
def recOfWords (ws : List Word) : Rec :=
  let b := ws.foldl (fun l (w : Word) => l ++ bytesOf 4 w.toNat) []
  { kind := leAt b 10 1, src := leAt b 8 2, time := leAt b 0 8, stream := leAt b 11 1, gen := leAt b 12 2, body := ws.drop 4 }

/-- The producer's own SOURCE, which names a staging granule that no word with a SOURCE has reached.
[DEDUCED, unsafe: log 87] -/
def prodSource (prod : Nat) : Nat :=
  if prod = 0 then Blk.rg.source 0 else if prod = 1 then Blk.pe.source 0 else if prod = 2 then Blk.fx.source 0 else (prod - 3) / 2

/-- The producer's domain. -/
def prodDom (prod : Nat) : Nat :=
  if prod = 0 then 1 else if prod = 1 then 9 else if prod = 2 then 10 else
    let n := (prod - 3) / 2
    if prod % 2 = 1 then ciDom n else miDom n

/-- The producer is present: no record comes from an absent channel or island (R15, R19). -/
def prodPresent (s : State) (prod : Nat) : Bool := decide (prod < 3) || s.present ((prod - 3) / 2)

/-- A SOURCE that the variant has: a present channel, or a block; no easel and no wand on an XF-6400 (R15, R19). -/
def srcPresent (s : State) (src : Nat) : Bool :=
  if src < 0x8000 then s.present src
  else s.variant.hasField || (src % 256 != Blk.ez.code && src % 256 != Blk.wn.code)

/-- SOURCE of the record in a staging granule: it stands in the third word (R299). -/
def granuleSource (prod : Nat) (ws : List Word) : Nat :=
  match ws with
  | _ :: _ :: w :: _ => fld w 0 16
  | _ => prodSource prod

/-- Words of producer `prod` in its staging granule in spool `h` (R318). -/
def State.staged (s : State) (prod h : Nat) : List Word := s.sp.staging.get (16 * prod + h) []
def State.setStaged (s : State) (prod h : Nat) (ws : List Word) : State :=
  { s with sp := { s.sp with
      staging := if ws.isEmpty then s.sp.staging.del (16 * prod + h) else s.sp.staging.put (16 * prod + h) ws } }

/-- A staging granule is discarded with SPOOL_MALFORMED or SPOOL_ROLLBACK, `ev`, whose ARG2 counts `n` words (R320, R337). -/
def granuleLost (ev prod h n : Nat) (ws : List Word) (s : State) : State :=
  raise .sp h ev 1 [h, granuleSource prod ws, n] (s.setStaged prod h [])

/-- The same-cycle order of commits (R319): a record that the order puts before the one committed last in this hub clock cycle arrives in
the next.  [DESIGN CHOICE, unsafe: log 211] -/
def commitCycle (prod : Nat) (s : State) : State :=
  let s := match s.sp.lastIn with
    | some (t, q) => if t = s.tk.clk ∧ prod < q then advance 1 s else s
    | none => s
  { s with sp := { s.sp with lastIn := some (s.tk.clk, prod) } }

/-- One word of a producer reaches its staging granule in spool `h` (R318–R320).  No record of an absent channel commits (R19). -/
def stageWord (prod h tag : Nat) (w : Word) (s : State) : State :=
  let st := s.staged prod h
  match tag with
  | 1 => (if st.isEmpty then s else granuleLost 0x23 prod h st.length st s).setStaged prod h [w]
  | 0 =>
    if st.isEmpty then granuleLost 0x23 prod h 1 [] s
    else if st.length ≥ 14 then granuleLost 0x23 prod h (st.length + 1) st s
    else s.setStaged prod h (st ++ [w])
  | 2 =>
    if st.isEmpty then granuleLost 0x23 prod h 1 [] s
    else if st.length ≠ 13 then granuleLost 0x23 prod h (st.length + 1) st s
    else
      let r := recOfWords (st ++ [w])
      let s := s.setStaged prod h []
      if srcPresent s r.src then commitRec r (commitCycle prod s) else s
  | _ => s.setStaged prod h []

/-- The words of a record with their tags (R318). -/
def recWords (r : Rec) : List (Nat × Word) :=
  let ws := wordsOf ((recBytes r).take 56)
  (List.range ws.length).map fun k => (if k = 0 then 1 else if k + 1 = ws.length then 2 else 0, ws.getD k 0)

/-- SNAPSHOT completes once its records have committed (R256). -/
def snapshotIn (r : Rec) (s : State) : State :=
  if r.snapshot then
    match execOf s 0x17 r.src with
    | some (q, e) =>
      if (s.sp.making.any fun m => m.2.snapshot && m.2.src == r.src) || (s.mi r.src).snapWait then s
      else
        match e.stage with
        | .records t => complete q .ok (t % 2 ^ 32) 0 s
        | _ => s
    | none => s
  else s

/-- RECORD_COMMIT (R147, R149, R319, R320): with no words, the oldest record that `prod` has made crosses to the spools' domain and commits;
else the words given cross into its staging granule in the chain of `spool`, each with its tag.
[DESIGN CHOICE, unsafe: log 88] -/
def recordCommit (prod spool : Nat) (words : List (Nat × Word)) (s : State) : State :=
  if words.isEmpty then
    match s.sp.making.find? fun e => e.1 == prod with
    | none => s
    | some (_, r) =>
      let s := { s with sp := { s.sp with making := s.sp.making.eraseP fun e => e.1 == prod } }
      let s := offer (prodDom prod) 4 (recWords r) s
      if s.isOn 4 then
        let h := headOf s (routeOf s r.src)
        let st := s.staged prod h
        let s := if st.isEmpty then s else granuleLost 0x23 prod h st.length st s
        snapshotIn r (commitRec r (commitCycle prod s))
      else s
  else if prodPresent s prod && s.isOn (prodDom prod) then
    words.foldl (fun s w =>
      let s := offer (prodDom prod) 4 [w] s
      if s.isOn 4 then stageWord prod (headOf s spool) w.1 w.2 s else s) s
  else s

def execRecordCommit (prod spool : Nat) (words : List (Nat × Word)) (s : State) : Out :=
  .next (mainOn s (recordCommit prod spool words s))

/-- A fence cuts a producer's domain (R337): its staging granules are discarded, and records it had not begun to send are lost.  With no word
staged, the spool of its own SOURCE reports 0 words.  [DEDUCED, unsafe: log 87] -/
def rollback (prod : Nat) (s : State) : State :=
  let s := { s with sp := { s.sp with making := s.sp.making.filter fun e => e.1 != prod } }
  match (List.range 16).filter fun h => !(s.staged prod h).isEmpty with
  | [] => let src := prodSource prod; let h := headOf s (routeOf s src); raise .sp h 0x22 1 [h, src, 0] s
  | l => l.foldl (fun s h => granuleLost 0x22 prod h (s.staged prod h).length (s.staged prod h) s) s

/-! ### Slots -/

/-- Moderation of a strip (R236): MOD_COUNT and MOD_TIME_US of RG_NS_MOD. -/
def nsMod (s : State) (n : Nat) : Word := s.wr (selKey 0x43040 n) 1
def stripItem (n : Nat) (s : State) : State :=
  let x := s.strip n
  let c := x.unsig + 1
  let m := nsMod s n
  if c ≥ fld m 0 8 ∨ fld m 8 10 = 0 then signal x.fn (4 + n) (s.setStrip n { x with unsig := 0 })
  else s.setStrip n { x with unsig := c, unsigAt := if x.unsig = 0 then s.tk.clk else x.unsigAt }

/-- A granule that reads with an uncorrectable error, or that a memory march has left unexposed, is discarded with reason ECC (R340, R779,
R815); `none` where it reads well.  [DESIGN CHOICE, safe: log 89] -/
def granuleBad (n : Nat) (ue : Bool) (g : Granule) (s : State) : Option State :=
  if g.blank || ue then
    let w := openNat s % 4096
    let s := spend (if g.blank then unexposedRead (0xC0 + n) w none s else uncorrectableRead (0xC0 + n) w none false s)
    some (settleAll (levelFell n (spDrop n 5 g.r (takeHead n s))))
  else none

/-- CASCADE_FORWARD (R330, R332, R340): `ue` says that the granule to forward reads with an uncorrectable error. -/
def cascadeForward (n : Nat) (ue : Bool) (s : State) : State :=
  match (readHead (s.spool n).q).2 with
  | some (g, _) =>
    match g.path with
    | m :: _ =>
      if (s.spool m).q.length < 512 then
        match granuleBad n ue g s with
        | some t => t
        | none => settleAll (forwardOne n s)
      else s
    | [] => s
  | none => s

def execCascadeForward (n : Nat) (ue : Bool) (s : State) : Out := .next (mainOn s (cascadeForward n ue s))

/-- SLOT_WRITE (R308, R309, R312, R316, R326, R327, R339, R340): the read side of spool `n` writes its record into the strip's next slot, body
first, then tail, where it is its class's turn; `ue` says that the granule reads with an uncorrectable error; one that a memory march has
left unexposed reads as zero too (R779, R815).  [DEDUCED, unsafe: log 85; DESIGN CHOICE, safe: log 89] -/
def slotWrite (n : Nat) (ue : Bool) (s : State) : State :=
  match atReadSide s n with
  | none => s
  | some g =>
    match granuleBad n ue g s with
    | some t => t
    | none =>
      match stripOf s g with
      | none => settleAll s
      | some k =>
        let x := s.strip k
        let c := g.r.dmaClass
        if x.error || (g.dead && g.oldStrip == some k) || !stripAvailable s k || x.looks.head? != some .free || !dmaTurn s c then settleAll s
        else
          let a := x.base + 64 * x.next
          let s := issueWrite c x.fn a (recBytes g.r) (.slot k x.next) s
          let tail := bytesOf 4 x.seq ++ bytesOf 1 g.r.kind ++ bytesOf 1 (g.origin + 16 * b2n g.rewritten) ++ bytesOf 1 0 ++ bytesOf 1 1
          let s := issueWrite c x.fn (a + 0x38) tail (.slot k x.next) s
          let num := s.sp.issued + 1
          let s := { s with sp := { s.sp with issued := num } }
          let s := s.setStrip k { x with next := (x.next + 1) % x.slots, seq := (x.seq + 1) % 2 ^ 32, looks := x.looks.drop 1,
                                         lastWrite := some (s.tk.clk, num) }
          settleAll (stripItem k (markHead n k num s))

/-- The completion of a memory read moves the rewind mark over every slot write issued before it (R328): their granules are freed, and a
strip whose last slot write it covers needs no further read. -/
def passMark (mark : Nat) (s : State) : State :=
  let freed := fun (g : Granule) => match g.wr with | some (_, k) => decide (k ≤ mark) | none => false
  let s := { s with sp := { s.sp with
    sp := s.sp.sp.map fun (e : Nat × Spool) => (e.1, { e.2 with q := e.2.q.filter fun g => !freed g })
    ns := s.sp.ns.map fun (e : Nat × Strip) => (e.1, { e.2 with
      lastWrite := match e.2.lastWrite with | some (t, k) => if k ≤ mark then none else some (t, k) | none => none }) } }
  levels s

/-- OWNER of a slot has been read (R310, R313, R324, R334).  [DEDUCED, unsafe: log 83; DEDUCED, unsafe: log 84] -/
def ownerRead (n slot : Nat) (owner : Nat) (s : State) : State :=
  let x := s.strip n
  let k := (slot + x.slots - x.next % max 1 x.slots) % max 1 x.slots
  if x.bound && !x.error && decide (k < x.looks.length) then
    settleAll (s.setStrip n { x with looks := x.looks.set k (if owner = 0 then .free else .owned s.tk.clk) })
  else settleAll s

/-- The block behind the request is a strip's tail read, of this binding or of one that has ended. -/
def Issuer.isTail : Issuer → Bool
  | .tail _ _ => true
  | .oldTail _ => true
  | _ => false

/-- TAIL_READ_COMPLETE (R310): the data of a tail read, which waits at the host link, reaches its strip.
[DEDUCED, unsafe: log 83] -/
def tailReadComplete (s : State) : State :=
  match s.hl.inbox.find? fun e => e.1.issuer.isTail with
  | some (q, data) =>
    let s := { s with hl := { s.hl with inbox := s.hl.inbox.erase (q, data) } }
    (match q.issuer with
    | .tail n slot => ownerRead n slot (leAt data 7 1) s
    | _ => settleAll s)
  | none => s

def execTailReadComplete (s : State) : Out := .next (mainOn s (tailReadComplete s))

/-- STALL_REREAD (R313): 2 µs after a tail read found the next slot owned by the host it is read again. -/
def stallReread (n : Nat) (s : State) : State :=
  let x := s.strip n
  match x.looks with
  | .owned t :: more =>
    if x.bound && !x.error && stripAvailable s n && s.readRoom && decide (tailsOut s n < 4) && dmaTurn s (tailClass s n) then
      let s := advanceClk (t + 2000) s
      issueRead (tailClass s n) x.fn (x.base + 64 * x.next + 0x38) 8 (.tail n x.next) (s.setStrip n { x with looks := .again :: more })
    else s
  | _ => s

def execStallReread (n : Nat) (s : State) : Out := .next (mainOn s (stallReread n s))

/-- STRIP_STALL (R313): a stall has lasted 1 ms. -/
def stripStall (n : Nat) (s : State) : State :=
  let x := s.strip n
  match x.stall with
  | some t =>
    if x.stallSaid then s
    else
      let s := advanceClk (t + 1000000) s
      raise .sp 0 0x24 1 [n, x.next] (s.setStrip n { x with stallSaid := true })
  | none => s

def execStripStall (n : Nat) (s : State) : Out := .next (mainOn s (stripStall n s))

/-- REWIND_TAIL_READ (R328): 8 µs since the strip's last slot write, and no memory read issued since has completed.
[DEDUCED, unsafe: log 84] -/
def rewindTailRead (n : Nat) (s : State) : State :=
  let x := s.strip n
  match x.lastWrite with
  | some (t, _) =>
    if x.bound && !x.error && stripAvailable s n && decide (tailsOut s n < 4) && s.readRoom && dmaTurn s (tailClass s n) then
      let ahead := lookDue s n
      let slot := if ahead then (x.next + x.looks.length) % x.slots else x.next
      let s := advanceClk (t + 8000) s
      issueRead (tailClass s n) x.fn (x.base + 64 * slot + 0x38) 8 (.tail n slot)
        (s.setStrip n { x with lastWrite := none, looks := if ahead then x.looks ++ [.read] else x.looks })
    else s
  | none => s

def execRewindTailRead (n : Nat) (s : State) : Out := .next (mainOn s (rewindTailRead n s))

/-- A granule written to a strip that is bound and not in error (R338, R339). -/
def isLive (s : State) (g : Granule) : Bool :=
  match g.wr with | some (some k, _) => (s.strip k).bound && !(s.strip k).error | _ => false

/-- The strip a granule was written to. -/
def Granule.strip (g : Granule) : Option Nat := match g.wr with | some (k, _) => k | none => none

/-- Functions that satisfy `p` are lost (R338): a chain that holds records behind its mark for a strip bound to one of them moves its read
side back to the mark, and every strip that such records were written to moves back by as many slots and takes them again.
[DEDUCED, unsafe: log 86] -/
def rewindStrips (p : Nat → Bool) (s : State) : State :=
  let all := List.range 16
  let held := fun h => (all.filter fun m => headOf s m == h).flatMap fun m => (s.spool m).q.filter (isLive s)
  let hit := fun (g : Granule) => match g.strip with | some k => p (s.strip k).fn | none => false
  let heads := all.filter fun h => headOf s h == h && (held h).any hit
  let back := fun m (g : Granule) => heads.contains (headOf s m) && isLive s g
  let again := fun k => all.foldl (fun a m => a + ((s.spool m).q.filter fun g => back m g && g.strip == some k).length) 0
  let t := (List.range 8).foldl (fun t k =>
    let x := t.strip k
    if x.bound && !x.error && (p x.fn || again k != 0) then
      t.setStrip k { x with next := if x.slots = 0 then 0 else (x.next + x.slots - again k % x.slots) % x.slots, looks := [],
                            lastWrite := none }
    else t) s
  let redo := fun m (g : Granule) => if back m g then ({ g with wr := none, rewritten := true, oldStrip := g.strip } : Granule) else g
  let t := { t with sp := { t.sp with sp := t.sp.sp.map fun (e : Nat × Spool) => (e.1, { e.2 with q := e.2.q.map (redo e.1) }) } }
  settleAll (heads.foldl (fun t h => raise .sp h 0x27 1 [h, (held h).length] t) t)

/-- A DMA error on a strip's read or write (R339): `kind` is HL_DMA_ERR_INFO.KIND. -/
def stripError (n kind : Nat) (s : State) : State :=
  let x := s.strip n
  if x.bound && !x.error then
    settleAll (raise .sp 0 0x26 2 [n, kind]
      (s.setStrip n { x with error := true, stall := none, stallSaid := false, looks := [], lastWrite := none }))
  else s

/-! ### STRIP_BIND (R277, R335, R339) -/

/-- STRIP_BIND: all eight strips are always present.  [DEDUCED, unsafe: log 72] -/
def stripBind (r : Nat) (d : List Byte) (s : State) : State :=
  checked r d needNothing false (fun s =>
    let n := dTarget d
    let x := s.strip n
    if dU8 d 0x20 = 1 then
      if x.bound then complete r .busy 0 0x12 s
      else
        let s := s.setStrip n { bound := true, fn := dU8 d 0x1C, base := dU64 d 0x10, slots := dU32 d 0x18, kinds := dU8 d 0x1D,
                                spools := dU16 d 0x1E, unsig := x.unsig, unsigAt := x.unsigAt }
        settleAll (complete r .ok 0 0 s)
    else if !x.bound then complete r .ok 0 0 s
    else
      let freeze := fun (g : Granule) =>
        if g.wr.isSome || g.oldStrip.isSome then g
        else match stripOf s g with
          | some k => if k = n then ({ g with oldStrip := some n } : Granule) else g
          | none => ({ g with seen := g.seen || anyStrip s g.origin } : Granule)
      let s := { s with sp := { s.sp with sp := s.sp.sp.map fun (e : Nat × Spool) => (e.1, { e.2 with q := e.2.q.map freeze }) } }
      settleAll (s.setStrip n { x with releasing := true })) s

def execStripBind (r : Nat) (s : State) : Out := .next (mainOn s (begin_ r 0x38 (stripBind r) s))

/-! ### Settings at an epoch boundary (R331) -/

/-- Keys of the spool settings that act at an epoch boundary. -/
def isSpKey (k : Nat) : Bool := decide (0x44000 ≤ k) && decide (k < 0x45000) && (k % 0x100 == 0 || k % 0x100 == 8 || k % 0x100 == 12)

/-- The spools' settings act together, or revert together where a chain would be invalid (R331); a spool that is no chain's head has no
episode (R330). -/
def spoolEpoch (s : State) : State :=
  let t := actDue isSpKey s
  if chainsValid (spConfig t) then
    settleAll ((List.range 16).foldl (fun t n =>
      if headOf t n = n ∨ !(t.spool n).episode then t else t.setSpool n { t.spool n with episode := false, shedding := false }) t)
  else
    let bad := (List.range 16).filter fun n =>
      [(spKey n 0, spConfigReset n), (spKey n 8, spMapReset n false), (spKey n 12, spMapReset n true)].any fun k =>
        s.regs.pend.has k.1 && s.wr k.1 k.2 != s.acting k.1 k.2
    let back := fun (r : Regs) => s.regs.pend.foldl (fun (r : Regs) (e : Nat × Nat) =>
      if isSpKey e.1 then
        let val := match s.regs.act.find e.1 with | some w => r.val.put e.1 w | none => r.val.del e.1
        { r with val := val, act := r.act.del e.1, pend := r.pend.del e.1 }
      else r) r
    raise .sp 0 0x28 1 [(bad.foldl (fun a n => a + 2 ^ n) 0 : Nat)] { t with regs := back s.regs }

/-! ### SP_ registers -/

/-- SP_STATUS, but for DROPPED. -/
def spStatus (s : State) (n : Nat) : Nat :=
  let h := headOf s n
  let mem := membersOf s n
  let isHead := h == n
  let lvl := if isHead then spLevel s n else (s.spool n).q.length
  let role := if mem.length = 1 then 0 else if isHead then 1 else if mem.getLast? = some n then 3 else 2
  let head := atReadSide s (mem.getLast?.getD n)
  let strip := match head with | some g => (match stripOf s g with | some k => k | none => 15) | none => 15
  let kind := match head with | some g => g.r.kind | none => 0
  let x := s.spool n
  let flags := if isHead then
      at_ 8 1 (b2n x.shedding) + at_ 7 1 (b2n x.episode) + at_ 6 1 (b2n (decide (strip < 8) && stalledNow s strip)) +
        at_ 5 1 (b2n (decide (lvl ≥ spCapacity s n))) + at_ 4 1 (b2n (decide (lvl ≥ spAf s n))) +
        at_ 3 1 (b2n (decide (lvl ≤ spAe s n))) + at_ 2 1 (b2n (lvl == 0))
    else 0
  at_ 20 12 lvl + at_ 16 4 strip + at_ 13 3 kind + at_ 11 2 role + flags

end Sys2Proof.Machine
end

