-- ==== Sys2Proof/Machine/Rings.lean ====
section
/-!
DEFINITION. Machine/Rings.lean: the ring engine: polling and the doorbell line (R227–R230, R249), fetching descriptors (R231,
R253), stopping and enabling rings (R246–R248, R250, R252, R294), writing completions (R224, R234, R236), and host loss
(R238–R245).
-/
namespace Sys2Proof.Machine

/-! ### Settings -/

def ringCfg (s : State) (r : Nat) : Word := s.wr (selKey 0x43038 r) 0x80000001

/-! ### Fetching (R231) -/

/-- Issue the fetches that ring `r` may issue; at most two are needed to be 16 ahead. -/
def fetchKick (r : Nat) : Nat → State → State
  | 0, s => s
  | k + 1, s =>
    let x := s.ring r
    let n := fetchCount s r
    if decide (0 < n) && dmaTurn s 1 then
      fetchKick r k (issueRead 1 0 (x.crBase + 64 * (x.nextFetch % 2 ^ x.log2E)) (64 * n) (.descFetch r x.nextFetch n)
        (s.setRing r { x with nextFetch := (x.nextFetch + n) % 65536 }))
    else s

/-- Fetches of ring `r` under way are of no more use: their descriptors will be discarded.  [DEDUCED, unsafe: log 63] -/
def voidFetches (r : Nat) (s : State) : State :=
  let f := fun (q : Req) => match q.issuer with
    | .descFetch k a _ => if k = r then ({ q with issuer := .descFetch k a 0 } : Req) else q
    | _ => q
  { s with hl := { s.hl with reqs := s.hl.reqs.map f, inbox := s.hl.inbox.map fun e => (f e.1, e.2) } }

/-- Issue the table fetch that ring `r`'s command waits for, where it is not yet issued. -/
def tableKick (r : Nat) (s : State) : State :=
  match tableDue s r with
  | some (a, n) => if dmaTurn s 1 then issueRead 1 0 a n (.table r) s else s
  | none => s

/-- Begin a command's table fetch. -/
def startFetch (r : Nat) (s : State) : State := tableKick r (setStage r .fetching s)

/-- What may be issued now is issued. -/
def kickDma (s : State) : State :=
  settleAll ((List.range 4).foldl (fun s r => tableKick r (fetchKick r 3 s)) s)

def execSlotWrite (n : Nat) (ue : Bool) (s : State) : Out := .next (mainOn s (kickDma (slotWrite n ue s)))

def execArchiveCopyDone (r words : Nat) (ue : Option Nat) (s : State) : Out := .next (mainOn s (kickDma (archiveCopyDone r words ue s)))

/-! ### Stopping (R247, R250, R252, R294) -/

/-- Ring `r` begins to stop.  [DEDUCED, unsafe: log 65] -/
def ringStop (r : Nat) (s : State) : State :=
  let x := s.ring r
  if x.running then
    let s := voidFetches r (s.setRing r { x with fetched := [], waitPoll := false, stopping := some (x.stopping.getD s.tk.clk) })
    let s := match x.exec with
      | some e => if e.stage == .queued then cancelQueued (dTarget e.d) .superseded 0 s else s
      | none => s
    let s := if s.hl.link = .up then s else loseCompletion r s
    ringSettle r s
  else s

/-- A DMA fault sets ERROR and stops ring `r` where it runs (R250).  [DEDUCED, unsafe: log 65] -/
def ringFault (r : Nat) (s : State) : State :=
  let x := s.ring r
  let s := s.setRing r { x with error := true, fetched := [], waitPoll := false,
                                stopping := if x.running then some (x.stopping.getD s.tk.clk) else x.stopping }
  ringSettle r (raise .rg 0 2 1 [] (voidFetches r s))

/-- ENABLE and POLL_EN read 0, and every ring stops (R252, R830). -/
def ringsDown (s : State) : State :=
  let s := putNow 0x43000 (rgControl s &&& 0xFFFFFFE0) s
  (List.range 4).foldl (fun s r => ringStop r (s.setRing r { s.ring r with again := false })) s

/-- ENABLE[r] goes from 0 to 1 (R246, R248).  [DEDUCED, unsafe: log 65] -/
def enableGoes1 (r : Nat) (s : State) : State :=
  let x := s.ring r
  if x.running then s.setRing r { x with again := true } else ringEnable r s

/-- ENABLE[r] goes from 1 to 0 (R247). -/
def enableGoes0 (r : Nat) (s : State) : State := ringStop r (s.setRing r { s.ring r with again := false })

/-- POLL_EN goes from 0 to 1: the doorbell address is latched (R246).  [DEDUCED, unsafe: log 23] -/
def pollGoes1 (s : State) : State :=
  { s with rg := { s.rg with dblAddr := (s.wr 0x43008 0).toNat + 2 ^ 32 * (s.wr 0x4300C 0).toNat } }

/-! ### Completions (R234, R236) -/

/-- A completion has been written (R236).  [DESIGN CHOICE, unsafe: log 226] -/
def ringItem (r : Nat) (now : Bool) (s : State) : State :=
  let x := s.ring r
  let cfg := ringCfg s r
  let c := x.unsig + 1
  if now || decide (c ≥ fld cfg 0 8) || fld cfg 8 10 == 0 then signal 0 r (s.setRing r { x with unsig := 0 })
  else s.setRing r { x with unsig := c, unsigAt := if x.unsig = 0 then s.tk.clk else x.unsigAt }

/-- COMPLETION_WRITE (R224, R226, R234, R307). -/
def completionWrite (r : Nat) (s : State) : State :=
  let s := cqCheck r s
  let x := s.ring r
  match x.cpl with
  | none => s
  | some c =>
    if cqFull x || !s.canDma 0 || !dmaTurn s 1 then s
    else
      let ph := phaseOf x.log2E x.cqCount
      let s := issueWrite 1 0 (x.cqBase + 16 * (x.cqCount % 2 ^ x.log2E)) (cplBytes c ph) (.cpl r x.era) s
      let s := s.setRing r { s.ring r with cpl := none, fullSaid := false, cqCount := (x.cqCount + 1) % 65536,
                                           crCount := (x.crCount + 1) % 65536 }
      let s := makeEcho r c ph s
      kickDma (ringSettle r (ringItem r (dIrq c.d || decide (c.status ≠ 0)) s))

def execCompletionWrite (r : Nat) (s : State) : Out := .next (mainOn s (completionWrite r s))

/-- COMPLETION_WAIT_EXPIRY (R247, R250): 1 ms after the later of the disable and the start of the wait. -/
def completionWaitExpiry (r : Nat) (s : State) : State :=
  let x := s.ring r
  match x.stopping, x.cpl with
  | some t, some _ => loseCompletion r (advanceClk (max t x.cplAt + 1000000) s)
  | _, _ => s

def execCompletionWaitExpiry (r : Nat) (s : State) : Out := .next (mainOn s (completionWaitExpiry r s))

/-- MODERATION_TIMEOUT (R236): vectors 0–3 are the rings', 4–11 the strips'.  [DESIGN CHOICE, unsafe: log 226] -/
def moderationTimeout (v : Nat) (s : State) : State :=
  if v < 4 then
    let x := s.ring v
    if x.unsig = 0 then s
    else
      let s := advanceClk (x.unsigAt + fld (ringCfg s v) 8 10 * 1000) s
      signal 0 v (s.setRing v { x with unsig := 0 })
  else
    let n := v - 4
    let x := s.strip n
    if n ≥ 8 || x.unsig = 0 then s
    else
      let s := advanceClk (x.unsigAt + fld (nsMod s n) 8 10 * 1000) s
      signal x.fn v (s.setStrip n { x with unsig := 0 })

def execModerationTimeout (v : Nat) (s : State) : Out := .next (mainOn s (moderationTimeout v s))

/-! ### Polling (R228–R230, R249) -/

/-- DOORBELL_POLL (R229, R249): the next poll point; its read is skipped where the last one is still outstanding.
[DEDUCED, unsafe: log 64] -/
def doorbellPoll (s : State) : State :=
  if polling s && dmaTurn s 1 then
    let s := advanceTo (boundary (pollUsW s * 1000) s.rg.pollAt s.tk.now) s
    let s := { s with rg := { s.rg with pollAt := s.tk.now } }
    if (s.hl.reqs.any fun q => q.issuer == .poll) || !s.readRoom then s
    else issueRead 1 0 s.rg.dblAddr 64 .poll s
  else s

def execDoorbellPoll (s : State) : Out := .next (mainOn s (doorbellPoll s))

/-- The doorbell line's counts for ring `r`: both for an enabled ring, that for completions also while it stops after a disable (R230, R247).
[DEDUCED, unsafe: log 62] -/
def takeCounts (line : List Byte) (r : Nat) (s : State) : State :=
  let x := s.ring r
  if !x.running && !ringEn s r then s
  else
    let x := { x with cqCons := leAt line (0x10 + 2 * r) 2 }
    if !ringEn s r || x.again then s.setRing r x
    else
      let prod := leAt line (0x08 + 2 * r) 2
      let x := { x with waitPoll := false }
      if (prod + 65536 - x.crCount) % 65536 > 2 ^ x.log2E then fetchKick r 3 (raise .rg 0 3 1 [] (s.setRing r x))
      else fetchKick r 3 (s.setRing r { x with prod })

/-- Take the descriptors of one fetch, from count `c` on (R231, R253).  [DEDUCED, unsafe: log 63] -/
def takeDescs (r : Nat) : Nat → List Byte → Nat → State → State
  | 0, _, _, s => s
  | n + 1, bytes, c, s =>
    let x := s.ring r
    let d := bytes.take 64
    if dPhase d = phaseOf x.log2E c then
      takeDescs r n (bytes.drop 64) ((c + 1) % 65536) (s.setRing r { x with
        fetched := x.fetched ++ [(c, d)], nextArr := (c + 1) % 65536, phaseBad := 0, phaseSaid := false })
    else
      let gone := n + 1 + inFlight s r
      let bad := x.phaseBad + 1
      let s := voidFetches r (s.setRing r { x with nextArr := c, nextFetch := c, waitPoll := true, phaseBad := bad,
                                                   phaseSaid := x.phaseSaid || decide (bad ≥ 1000) })
      let s := bumpBy 0x43048 0xFFFFFFFF gone s
      if bad ≥ 1000 && !x.phaseSaid then raise .rg 0 4 1 [] s else s

/-- An arrived fetch whose turn it is: the ring's descriptors are taken in count order, and one that serves nothing is put away (R231). -/
def fetchTurn (s : State) (q : Req) : Bool :=
  match q.issuer with
  | .descFetch r a n => let x := s.ring r; !x.running || x.error || x.stopping.isSome || n == 0 || a == x.nextArr
  | _ => false

/-- DESCRIPTOR_ARRIVAL (R231, R247): the descriptors of a completed fetch.  [DESIGN CHOICE, unsafe: log 8] -/
def descriptorArrival (s : State) : State :=
  match s.hl.inbox.find? fun e => fetchTurn s e.1 with
  | none => s
  | some e =>
    let s := { s with hl := { s.hl with inbox := s.hl.inbox.erase e } }
    match e.1.issuer with
    | .descFetch r a n =>
      let x := s.ring r
      if x.running && !x.error && x.stopping.isNone && decide (0 < n) then fetchKick r 3 (takeDescs r n e.2 a s)
      else fetchKick r 3 s
    | _ => s

def execDescriptorArrival (s : State) : Out := .next (mainOn s (descriptorArrival s))

/-- BAD_DESCRIPTOR (R223, R257–R260): a descriptor whose header or reserved bytes are bad begins and completes BAD_DESC. -/
def badDescriptor (r : Nat) (s : State) : State :=
  match (s.ring r).fetched.head? with
  | some (_, d) =>
    (match badHeader d with
    | some _ => begin_ r (dOp d) (fun d s => complete r .badDesc 0 ((badDesc s d).getD 0) s) s
    | none => s)
  | none => s

def execBadDescriptor (r : Nat) (s : State) : Out := .next (mainOn s (badDescriptor r s))

/-- NOP (R256). -/
def nop (r : Nat) (d : List Byte) (s : State) : State := checked r d needNothing false (complete r .ok 0 0) s

def execNop (r : Nat) (s : State) : Out := .next (mainOn s (begin_ r 0x00 (nop r) s))

/-! ### Host loss (R239, R240, R243–R245) -/

/-- TIMEOUT_MS as it stands, in ns. -/
def lossTime (s : State) : Nat := fld (s.wr 0x43010 0x1F4) 0 14 * 1000000

/-- A write to a policy register: the value before this hub cycle stays known (R245). -/
def notePolicy (off : Nat) (old : Word) (s : State) : State :=
  match s.rg.policyWas.find off with
  | some (t, _) => if t = s.tk.clk then s else { s with rg := { s.rg with policyWas := s.rg.policyWas.put off (s.tk.clk, old) } }
  | none => { s with rg := { s.rg with policyWas := s.rg.policyWas.put off (s.tk.clk, old) } }

/-- POLICY of channel `n` at host loss (R240): one written in the same hub cycle acts after it (R245). -/
def hostPolicy (s : State) (n : Nat) : Nat :=
  let off := 0x14 + 4 * (n / 16)
  let w := s.wr (0x43000 + off) 0xAAAAAAAA
  fld (match s.rg.policyWas.find off with | some (t, old) => if t = s.tk.clk then old else w | none => w) (2 * (n % 16)) 2

/-- One channel applies its policy (R240). -/
def applyPolicy (n : Nat) (s : State) : State :=
  let c := s.ch n
  if !s.present n then s
  else
    match hostPolicy s n with
    | 0 => s
    | 1 => if c.st = .running then s.setCh n { c with cmds := { c.cmds with hold := true } } else s
    | _ =>
      match c.st with
      | .running | .held => s.setCh n { c with cmds := { c.cmds with hostFade := true } }
      | .fading => cancelQueued n .superseded 0 s
      | .dark => s

/-- The host is declared lost now. -/
def declareLoss (s : State) : State :=
  let s := raise .rg 0 0 1 [] { s with rg := { s.rg with timer := none, hostLost := true } }
  s.channelList.foldl (fun s n => applyPolicy n s) s

/-- HOST_LOSS (R239, R240). -/
def hostLoss (s : State) : State :=
  match s.rg.timer with
  | some t => declareLoss (advanceClk (t + lossTime s) s)
  | none => s

def execHostLoss (s : State) : Out := .next (mainOn s (hostLoss s))

/-- The timeout has elapsed by now: the host is lost (R239, R243, R244). -/
def lossIfDue (s : State) : State :=
  match s.rg.timer with
  | some t => if t + lossTime s ≤ s.tk.clk then declareLoss s else s
  | none => s

/-- A heartbeat read from the doorbell line (R238, R241, R243): a poll that completes at the instant of host loss or later does not prevent
it.  [DEDUCED, unsafe: log 61] -/
def heartbeatSeen (h : Word) (s : State) : State :=
  let s := lossIfDue s
  if h = s.rg.beat then s
  else
    let s' := { s with rg := { s.rg with beat := h, timer := some s.tk.clk, hostLost := false } }
    if s.rg.hostLost then raise .rg 0 1 1 [] s' else s'

/-- DOORBELL_LINE_ARRIVAL (R230, R238): the line of a poll whose read has completed.  [DEDUCED, unsafe: log 61] -/
def doorbellLineArrival (s : State) : State :=
  match s.hl.inbox.find? fun e => e.1.issuer == .poll with
  | none => s
  | some e =>
    let s := { s with hl := { s.hl with inbox := s.hl.inbox.erase e } }
    let s := heartbeatSeen (w32 (leAt e.2 0 4)) s
    (List.range 4).foldl (fun s r => takeCounts e.2 r s) s

def execDoorbellLineArrival (s : State) : Out := .next (mainOn s (doorbellLineArrival s))

/-! ### RG_ registers -/

def rgStatus (s : State) : Nat :=
  let bits := fun (p : Ring → Bool) => (List.range 4).foldl (fun a r => a + b2n (p (s.ring r)) * 2 ^ r) 0
  at_ 16 8 s.rg.lost + at_ 9 1 (b2n (polling s)) + at_ 8 1 (b2n s.rg.hostLost) + at_ 4 4 (bits (·.error)) + bits (·.running)
def rgRingStatus (s : State) (r : Nat) : Nat := at_ 16 16 (s.ring r).cqCount + at_ 0 16 (s.ring r).crCount

end Sys2Proof.Machine
end

