-- ==== Sys2Proof/Machine/HostLink.lean ====
section
/-!
DEFINITION. Machine/HostLink.lean: the host link: completions and DMA errors (R203, R210, R211), link up and down (R212–R216),
function state and MSI-X (R185, R188–R190, R202–R204), PTM (R191, R192), link events (R201, R208), HDM decoders (R195) and
the CXL mailbox and FM API (R180, R194, R199).
-/
namespace Sys2Proof.Machine

/-! ### Errors (R210) -/

/-- AER errors of R210, as the model numbers what it sends. -/
def aerUr : Nat := 1
def aerEcrc : Nat := 2
def aerPoisoned : Nat := 3
def aerTimeout : Nat := 4
def aerUnexpected : Nat := 5
def aerInternal : Nat := 6
def aerCxlCrc : Nat := 7
/-- Malformed TLP, Receiver Overflow, Flow Control Protocol Error, Receiver Error, Bad TLP, Bad DLLP, Replay Timer Timeout and Replay Num
Rollover, from this number on.  [DEDUCED, unsafe: log 59] -/
def aerLink : Nat := 8

/-- An error whose severity AER does not hold: a correctable one. -/
def aerCorrectable (e : Nat) : Bool := e == aerCxlCrc || (decide (aerLink + 3 ≤ e) && decide (e < aerLink + 8))

/-- Default severity of an uncorrectable error: fatal, or else non-fatal. -/
def aerFatal (e : Nat) : Bool := e == aerInternal || (decide (aerLink ≤ e) && decide (e < aerLink + 3))

/-- The severity with which function `f` reports error `e` (R210): the default one, or as the host has programmed it; `advisory` is a case in
which PCIe permits Advisory Non-Fatal. -/
def aerSeverity (s : State) (f e : Nat) (advisory : Bool) : Severity :=
  if aerCorrectable e then .correctable
  else if (s.fn f).severity.get e (aerFatal e) then .fatal
  else if advisory then .advisory else .nonFatal

/-- Function `f` reports an error to AER (R210). -/
def aerReport (f e : Nat) (advisory : Bool) (s : State) : State := send (.aer f e (aerSeverity s f e advisory)) s

/-! ### DMA errors (R211) -/

/-- ISSUER and UNIT of HL_DMA_ERR_INFO. -/
def Issuer.code : Issuer → Nat × Nat
  | .descFetch r _ _ => (1, r)
  | .poll => (2, 0)
  | .tail n _ => (3, n)
  | .oldTail n => (3, n)
  | .slot n _ => (3, n)
  | .copy r => (4, r)
  | .table r => (5, r)
  | .cpl r _ => (6, r)

/-- A completion that was on its way is lost (R250–R252): its effect stands and its echo has been made, and it was not written: the count of
its own enabling goes back (R226). -/
def cplLost (r era kind : Nat) (s : State) : State :=
  let s := if (s.ring r).era = era then s.setRing r { s.ring r with cqCount := ((s.ring r).cqCount + 65535) % 65536 } else s
  let s := raise .rg 0 6 1 [] { s with rg := { s.rg with lost := (s.rg.lost + 1) % 256 } }
  if kind = 6 then s else ringFault r s

/-- The issuing block's reaction (R250, R252, R297, R338, R339).  [DEDUCED, unsafe: log 86] -/
def issuerError (i : Issuer) (kind : Nat) (s : State) : State :=
  match i with
  | .descFetch r _ _ => if kind = 6 then s else ringFault r s
  | .poll => if kind = 6 then s else raise .rg 0 7 1 [] s
  | .tail n _ => stripError n kind s
  | .oldTail _ => s
  | .slot n _ => stripError n kind s
  | .table r =>
    match (s.ring r).exec with
    | some e => if e.stage = .fetching then complete r .fault 0 2 s else s
    | none => s
  | .cpl r era => cplLost r era kind s
  | .copy _ => s

/-- What the host link says of a completion that it discards as poisoned (4) or for its ECRC (5), whichever request it answers (R210). -/
def badTlp (kind fn : Nat) (s : State) : State :=
  match kind with
  | 4 => aerReport fn aerPoisoned false (bump 0x42028 s)
  | 5 => aerReport fn aerEcrc false (bump 0x42024 s)
  | _ => s

/-- A failed DMA request (R210, R211): counters, details, DMA_ERR, and the report to its issuer. -/
def dmaError (kind fn addr : Nat) (i : Issuer) (s : State) : State :=
  let s := match kind with
    | 1 => aerReport fn aerTimeout false (bump 0x42044 s)
    | k => badTlp k fn s
  let (code, unit) := i.code
  let s := bump 0x42014 { s with hl := { s.hl with
    errInfo := w32 (at_ 28 4 kind + at_ 24 4 code + at_ 16 4 unit + at_ 0 1 fn), errAddr := addr } }
  issuerError i kind (raise .hl 0 4 1 [] s)

/-- Every request that a read was sent as fails (R203, R212).  [DESIGN CHOICE, unsafe: log 51] -/
def failReq (kind : Nat) (q : Req) (s : State) : State :=
  (pieces q.cut (2 ^ 64) (q.len + 1) q.addr q.len).foldl (fun s p => dmaError kind q.fn p.1 q.issuer s) s

/-- Take an outstanding request out of the table. -/
def takeReq (tag : Nat) (s : State) : Option (Req × State) :=
  (s.hl.reqs.find? fun q => q.tag == tag).map fun q => (q, traffic { s with hl := { s.hl with reqs := s.hl.reqs.erase q } })

/-- DMA_COMPLETION (R203, R210, R211, R328): all of a read's data has come (`kind` 0), or its completion carried UR (2) or CA (3)
status or poison (4).  A completion that matches no outstanding request is another command's.  [DESIGN CHOICE, unsafe: log 8] -/
def dmaCompletion (tag kind : Nat) (data : List Byte) (s : State) : State :=
  match takeReq tag s with
  | none => s
  | some (q, s) =>
    let s := dmaBack q.issuer (passMark q.mark s)
    if q.dead then kickDma (failReq 7 q (badTlp kind q.fn s))
    else if kind = 0 then
      let bytes := (data ++ List.replicate (q.len - data.length) 0).take q.len
      kickDma { s with hl := { s.hl with inbox := s.hl.inbox ++ [(q, bytes)] } }
    else kickDma (dmaError kind q.fn q.addr q.issuer s)

def execDmaCompletion (tag kind : Nat) (data : List Byte) (s : State) : Out := .next (mainOn s (dmaCompletion tag kind data s))

/-- The shortest completion timeout of a range code, in ns: ranges A and B end at 10 ms (R180).  [PRESUMED, unsafe: log 207] -/
def timeoutFrom (code : Nat) : Nat := if code = 2 then 1000000 else if 5 ≤ code then 10000000 else 50000

/-- Range codes of the ranges that are supported, and the default (R180).  [PRESUMED, unsafe: log 207] -/
def timeoutCodes : List Nat := [0, 1, 2, 5, 6]

/-- COMPLETION_TIMEOUT (R180, R210): a request has waited through its function's timeout, which is not disabled.
[DEDUCED, unsafe: log 52] -/
def completionTimeout (tag : Nat) (s : State) : State :=
  match takeReq tag s with
  | none => s
  | some (q, t) =>
    if (s.fn q.fn).timeoutOff then s
    else kickDma (dmaError 1 q.fn q.addr q.issuer (advanceClk (q.at_ + timeoutFrom (s.fn q.fn).timeoutRange) t))

def execCompletionTimeout (tag : Nat) (s : State) : Out := .next (mainOn s (completionTimeout tag s))

/-- ECRC_ERROR (R210): a TLP for function `f`, whose ECRC check is enabled, is discarded; where it was the completion of an outstanding
request, that request fails.  [DEDUCED, unsafe: log 58] -/
def ecrcError (f : Nat) (tag : Option Nat) (s : State) : State :=
  if !(s.fn f).ecrcCheck then s
  else
    match tag with
    | none => badTlp 5 f (traffic s)
    | some t =>
      match takeReq t s with
      | none => badTlp 5 f (traffic s)
      | some (q, s) => kickDma (if q.dead then failReq 7 q (badTlp 5 q.fn s) else dmaError 5 q.fn q.addr q.issuer s)

def execEcrcError (f : Nat) (tag : Option Nat) (s : State) : Out := .next (mainOn s (ecrcError f tag s))

/-- POISONED_TLP_RECEIVED (R210): a poisoned memory write request.  [DEDUCED, unsafe: log 59] -/
def poisonedTlp (s : State) : State := raise .hl 0 5 1 [] (badTlp 4 0 (traffic s))
def execPoisonedTlpReceived (s : State) : Out := .next (mainOn s (poisonedTlp s))

/-- UNEXPECTED_COMPLETION (R210). -/
def execUnexpectedCompletion (s : State) : Out := .next (mainOn s (aerReport 0 aerUnexpected true (traffic s)))

/-- MALFORMED_TLP (R210, R217): an error that the receiver or the data link layer finds, numbered from `aerLink` on; a link-down that PCIe
makes of it is a LINK_DOWN.  The TLPs replayed, an open number, are counted: at least one at a replay timeout, and those that a Nak asks for
beside a receiver error; a replay number that rolls over retrains the
link through Recovery.  [PRESUMED, unsafe: log 50; DEDUCED, unsafe: log 59] -/
def linkError (kind : Nat) (s : State) : State :=
  let s := aerReport 0 (aerLink + kind % 8) false (traffic s)
  let replayed := fun (k : Nat) (s : State) => spend (bumpBy 0x42034 0xFFFFFFFF (k + openNat s) s)
  match kind % 8 with
  | 0 | 1 | 2 => s
  | 6 => replayed 1 s
  | 7 => bump 0x42030 (replayed 1 s)
  | _ => replayed 0 s

def execMalformedTlp (kind : Nat) (s : State) : Out := .next (mainOn s (linkError kind s))

/-- CXL_LINK_CRC_ERROR (R210): the flit is retried. -/
def execCxlLinkCrcError (s : State) : Out := .next (mainOn s (if s.hl.cxl then aerReport 0 aerCxlCrc false (traffic s) else s))

/-! ### Function state and MSI-X (R185, R188–R190, R202–R204) -/

/-- Signal what is pending on one vector. -/
def flushVector (f v : Nat) (s : State) : State :=
  let x := s.fn f
  if x.pba.has v && s.canSend f && !x.masked v then (if f = 0 ∧ 12 ≤ v then signalSpaced v s else signal f v s) else s

/-- Signal what is pending on a function. -/
def flushPending (f : Nat) (s : State) : State := ((s.fn f).pba.map (·.1)).foldl (fun s v => flushVector f v s) s

/-- A function can do DMA and send messages again, or can do more than before. -/
def fnResume (f : Nat) (s : State) : State := kickDma (flushPending f s)

/-- Function `f` exists in the device's mode: the functions of LD1–LD3 in CXL mode alone (R181). -/
def fnExists (s : State) (f : Nat) : Bool := decide (f < 2) || (s.hl.cxl && decide (f < 5))

/-- MSI-X table entries of a function (R182). -/
def msixEntries (f : Nat) : Nat := if f < 2 then 64 else 4

/-- Bytes of the BAR pair `p` of function `f`; `none` where it has none (R183, R200). -/
def barSize (s : State) (f p : Nat) : Option Nat :=
  match p with
  | 0 => if f < 2 then some 0x100000 else none
  | 1 => some 0x4000
  | 2 => if s.hl.cxl && f != 1 then some 0x20000 else none
  | _ => none

/-- A 32-bit BAR register: the address bits that decode, and in a low register the type of a 64-bit non-prefetchable BAR (R183).
[PRESUMED, unsafe: log 207] -/
def barRead (s : State) (f k : Nat) : Nat :=
  match barSize s f (k / 2) with
  | none => 0
  | some n =>
    let w := ((s.fn f).bars.get k 0).toNat
    if k % 2 = 0 then w / n * n + 4 else w

/-- The capability is there (R180, R200): CXL's in CXL mode on each function but the observer's. -/
def hasCap (s : State) (f : Nat) (c : Cap) : Bool :=
  match c with
  | .msix | .aer | .serialNumber | .powerManagement | .l1Substates | .ptm => true
  | .cxl => s.hl.cxl && f != 1
  | .msi | .intx | .sriov | .ats | .pasid | .pri | .acs | .ari | .ltr | .tph | .resizableBar => false

/-- Class code of a function (R182). -/
def classCode (s : State) (f : Nat) : Nat := if s.hl.cxl && f != 1 then 0x050210 else 0x118000

/-- The PCIe code of a payload or read request size. -/
def sizeCode (n : Nat) : Nat := Nat.log2 (n / 128)

/-- What a configuration read of a field answers (R180–R183, R200–R202, R210).  [PRESUMED, unsafe: log 207] -/
def cfgRead (s : State) (f : Nat) (field : CfgField) : Nat :=
  let x := s.fn f
  match field with
  | .vendorId | .subsystemVendorId => 0x1F3C
  | .deviceId => s.variant.deviceCode + min f 2
  | .subsystemId => s.variant.deviceCode
  | .revisionId => 0xB0
  | .classCode => classCode s f
  | .bar k => barRead s f k
  | .capability c => b2n (hasCap s f c)
  | .serial => Config.serialNumber % 2 ^ 64
  | .msixTableSize => msixEntries f
  | .noSoftReset => 1
  | .maxPayloadSupported => sizeCode 512
  | .l1ExitLatency => 3
  | .busMaster => b2n x.bme
  | .memorySpace => b2n x.memEn
  | .powerState => if x.d3hot then 3 else 0
  | .msixEnable => b2n x.msixEn
  | .functionMask => b2n x.fmask
  | .ptmEnable => b2n (f == 0 && s.hl.ptmEn)
  | .maxPayload => sizeCode x.mps
  | .maxReadRequest => sizeCode x.mrrs
  | .ecrcGeneration => b2n x.ecrcGen
  | .ecrcCheck => b2n x.ecrcCheck
  | .timeoutRange => x.timeoutRange
  | .timeoutDisable => b2n x.timeoutOff
  | .l11Enable => b2n x.l11En
  | .severity e => b2n (x.severity.get e (aerFatal e))
  | .ldBinding => b2n (s.ld f).bound

/-- What a configuration write of a field changes; the others are read-only (R180, R183, R188, R201, R210).
[DESIGN CHOICE, unsafe: log 57; PRESUMED, unsafe: log 207] -/
def cfgWrite (f : Nat) (field : CfgField) (value : Nat) (s : State) : State :=
  let x := s.fn f
  let on := value % 2 == 1
  let size := 128 * 2 ^ min value 5
  match field with
  | .busMaster => s.setFn f { x with bme := on }
  | .memorySpace => s.setFn f { x with memEn := on }
  | .powerState => if value % 4 = 1 ∨ value % 4 = 2 then s else s.setFn f { x with d3hot := value % 4 == 3 }
  | .msixEnable => s.setFn f { x with msixEn := on }
  | .functionMask => s.setFn f { x with fmask := on }
  | .ptmEnable => if f = 0 then { s with hl := { s.hl with ptmEn := on } } else s
  | .maxPayload => s.setFn f { x with mps := min 512 size }
  | .maxReadRequest => s.setFn f { x with mrrs := size }
  | .bar k => if (barSize s f (k / 2)).isSome then s.setFn f { x with bars := x.bars.put k (w32 value) } else s
  | .ecrcGeneration => s.setFn f { x with ecrcGen := on }
  | .ecrcCheck => s.setFn f { x with ecrcCheck := on }
  | .timeoutRange => if timeoutCodes.contains (value % 16) then s.setFn f { x with timeoutRange := value % 16 } else s
  | .timeoutDisable => s.setFn f { x with timeoutOff := on }
  | .l11Enable => s.setFn f { x with l11En := on }
  | .severity e => if aerCorrectable e then s else s.setFn f { x with severity := x.severity.put e on }
  | .ldBinding => if s.hl.cxl ∧ f < 4 then s.setLd f { s.ld f with bound := on } else s
  | .vendorId | .deviceId | .revisionId | .classCode | .subsystemVendorId | .subsystemId | .capability _ | .serial | .msixTableSize
  | .noSoftReset | .maxPayloadSupported | .l1ExitLatency => s

/-- The instant by which every function is ready (R214). -/
def readyBy (s : State) : Nat := s.hl.perstHigh + 100000000

/-- Whether function `f` is ready now: at the latest 100 ms after PERST# is deasserted, before that as the device chooses, and never in a
function-level reset (R214).  [DESIGN CHOICE, safe: log 208] -/
def fnReady (f : Nat) (s : State) : Bool × State :=
  let x := s.fn f
  if x.flr then (false, s)
  else if x.ready then (true, s)
  else if readyBy s ≤ s.tk.clk then (true, s.setFn f { x with ready := true })
  else (openBool s, if openBool s then spend (s.setFn f { x with ready := true }) else spend s)

/-- CONFIGURATION_REQUEST (R180–R183, R188, R214): a configuration write of a value to a field of function `f`, or a configuration read of it.
[DESIGN CHOICE, unsafe: log 57] -/
def configurationRequest (f : Nat) (field : CfgField) (write : Option Nat) (s : State) : State :=
  if s.hl.link != .up then s
  else if !fnExists s f then aerReport 0 aerUr true (send (.ur write.isNone) (traffic s))
  else
    let ready := fnReady f (traffic s)
    if !ready.1 then send (.crs f) ready.2
    else
      match write with
      | some v => fnResume f (cfgWrite f field v ready.2)
      | none => send (.cfg f (cfgRead ready.2 f field)) ready.2

def execConfigurationRequest (f : Nat) (field : CfgField) (write : Option Nat) (s : State) : Out :=
  .next (mainOn s (configurationRequest f field write s))

/-- D3HOT_ENTRY (R202, R188): the strips bound to the function stall, and stalled negatives are shed (R324, R336). -/
def d3hotEntry (f : Nat) (s : State) : State :=
  if s.hl.link = .up ∧ fnExists s f then settleAll (s.setFn f { s.fn f with d3hot := true }) else s
def execD3hotEntry (f : Nat) (s : State) : Out := .next (mainOn s (d3hotEntry f s))

/-- MSIX_UNMASK (R204): the mask of vector `v` clears. -/
def msixUnmask (f v : Nat) (s : State) : State :=
  let x := s.fn f
  if !fnExists s f then s else
  flushVector f v (s.setFn f { x with table := x.table.put (4 * v + 3) ((x.table.get (4 * v + 3) 1) &&& 0xFFFFFFFE) })

def execMsixUnmask (f v : Nat) (s : State) : Out := .next (mainOn s (msixUnmask f v s))

/-- VECTOR_INTERVAL_END (R190). -/
def vectorIntervalEnd (v : Nat) (s : State) : State :=
  match s.hl.spaced.find v with
  | none => s
  | some t =>
    let s := advanceClk (t + 10000) s
    flushVector 0 v { s with hl := { s.hl with spaced := s.hl.spaced.del v } }

def execVectorIntervalEnd (v : Nat) (s : State) : Out := .next (mainOn s (vectorIntervalEnd v s))

/-- One aligned 32-bit word of the table. -/
def bar2Write (f i : Nat) (w : Word) (s : State) : State :=
  let x := s.fn f
  let s := s.setFn f { x with table := x.table.put i w }
  if i % 4 = 3 then flushVector f (i / 4) s else s

/-- A 32-bit word of the table or of the pending bits. -/
def bar2Read (f off : Nat) (s : State) : Word :=
  let x := s.fn f
  if off < 0x2000 then x.table.get (off / 4) (if off / 4 % 4 = 3 then 1 else 0)
  else w32 ((List.range 32).foldl (fun a k => a + b2n (x.pba.has ((off - 0x2000) / 4 * 32 + k)) * 2 ^ k) 0)

/-- A host request reaches a BAR of function `f` and `k` serves it.  With Memory Space Enable 0, or in D3hot, the function claims no
BAR, and the request is one to no BAR (R210).  [PRESUMED, unsafe: log 24; DEDUCED, unsafe: log 25] -/
def barUse (f : Nat) (isRead : Bool) (k : State → State) (s : State) : State :=
  let x := s.fn f
  if s.power ≠ .on ∨ s.hl.link ≠ .up ∨ x.flr ∨ !fnExists s f then s
  else if x.memEn && !x.d3hot then k (traffic s)
  else aerReport f aerUr isRead (send (.ur isRead) (traffic s))

/-- BAR2_ACCESS (R183, R185, R204): an access of `size` bytes. -/
def bar2Access (f off size : Nat) (write : Bool) (value : Nat) (s : State) : State :=
  let inTable := decide (off + size ≤ 16 * msixEntries f)
  let inPba := decide (0x2000 ≤ off) && decide (off + size ≤ 0x2008)
  if (size == 4 || size == 8) && off % size == 0 && (inTable || inPba) then
    let words := (List.range (size / 4)).map fun k => off + 4 * k
    if write then
      (if inTable then words.foldl (fun s a => bar2Write f (a / 4) (w32 (value / 2 ^ (8 * (a - off)))) s) s else s)
    else words.foldl (fun s a => send (.reply a (bar2Read f a s)) s) s
  else aerReport f aerUr (!write) (send (.ur (!write)) s)

def execBar2Access (f off size : Nat) (write : Bool) (value : Nat) (s : State) : Out :=
  .next (mainOn s (barUse f (!write) (bar2Access f off size write value) s))

/-! ### Link up, link down and resets of the link (R203, R208, R212–R216) -/

/-- Take the newest `n` memory writes that satisfy `p` out of what was sent: they had not left the device.  Oldest first.
[DESIGN CHOICE, unsafe: log 9] -/
def unsent (p : Nat → Bool) : Nat → List Tx → List (Nat × Nat × Issuer) × List Tx
  | _, [] => ([], [])
  | 0, l => ([], l)
  | n + 1, t :: l =>
    match t with
    | .memWrite f a _ by_ _ =>
      if p f then
        let (d, r) := unsent p n l
        (d ++ [(f, a, by_)], r)
      else
        let (d, r) := unsent p (n + 1) l
        (d, t :: r)
    | _ =>
      let (d, r) := unsent p (n + 1) l
      (d, t :: r)

/-- A completion or a tail word that was never written is no item: it leaves the count of those not yet signalled (R236). -/
def itemBack (a : Nat) (i : Issuer) (s : State) : State :=
  match i with
  | .cpl r _ => s.setRing r { s.ring r with unsig := (s.ring r).unsig - 1 }
  | .slot n _ => if a % 64 = 0x38 then s.setStrip n { s.strip n with unsig := (s.strip n).unsig - 1 } else s
  | _ => s

/-- Discard the newest `n` memory writes of the functions that satisfy `p` (R203, R212).
[DESIGN CHOICE, unsafe: log 9; DESIGN CHOICE, unsafe: log 54] -/
def discardWrites (p : Nat → Bool) (n kind : Nat) (s : State) : State :=
  let (dropped, tx) := unsent p n s.tx
  dropped.foldl (fun s d => dmaError kind d.1 d.2.1 d.2.2 (itemBack d.2.1 d.2.2 s)) { s with tx }

/-- A copy under way stops at a write that the host link discarded, after `k` lines had left (R211, R280).
[DESIGN CHOICE, unsafe: log 54] -/
def copyStops (k kind : Nat) (s : State) : State :=
  match findExec s fun e => dOp e.d == 0x43 && e.stage == .copied 0 with
  | none => s
  | some (r, e) =>
    let n := min k (dU32 e.d 0x20 / 64)
    let src := dU64 e.d 0x10
    let s := if n = 0 then s
      else issueWrite 4 0 (dU64 e.d 0x18) ((List.range (64 * n)).map fun j => copyByte s (src + j)) (.copy r) s
    complete r .fault (64 * n) 2 (dmaError kind 0 (dU64 e.d 0x18 + 64 * n) (.copy r) s)

/-- The link goes down (R212, R252, R338): `writes` of the newest memory writes, and a copy's after `copied` lines, had not left the
device.  [DEDUCED, unsafe: log 47; PRESUMED, unsafe: log 49] -/
def linkDown (writes : Nat) (copied : Option Nat) (s : State) : State :=
  if s.hl.link != .up then s
  else
    let reqs := s.hl.reqs
    let s := { s with hl := { s.hl with link := if s.hl.perst then .down else .training, speed := 0, width := 0, inL1 := false,
                                        inL11 := false, reqs := [], fns := s.hl.fns.map fun e => (e.1, { e.2 with bme := false }) } }
    let s := bump 0x4202C (raise .hl 0 1 1 [] s)
    let s := reqs.foldl (fun s q => failReq 6 q s) s
    let s := discardWrites (fun _ => true) writes 6 s
    let s := match copied with | some k => copyStops k 6 s | none => s
    rewindStrips (fun _ => true) (ringsDown s)

/-- LINK_DOWN. -/
def execLinkDown (writes : Nat) (copied : Option Nat) (s : State) : Out := .next (mainOn s (linkDown writes copied s))

/-- FATAL_INTERNAL (R210): raised, and the link goes down.  [DEDUCED, unsafe: log 59] -/
def fatalInternal (writes : Nat) (copied : Option Nat) (s : State) : State :=
  linkDown writes copied (raise .hl 0 11 1 [] (aerReport 0 aerInternal false s))
def execFatalInternal (writes : Nat) (copied : Option Nat) (s : State) : Out := .next (mainOn s (fatalInternal writes copied s))

/-- HL_LINK_CAP as it acts since the last device reset (R209). -/
def linkCap (s : State) : Word := s.acting 0x42004 0x44

/-- LINK_UP (R214, R216): the link reaches L0 at a rate and width within HL_LINK_CAP, domain 2 being ON.
[DEDUCED, unsafe: log 47] -/
def linkUp (speed width : Nat) (s : State) : State :=
  if s.hl.link = .training ∧ s.isOn 2 ∧ 1 ≤ speed ∧ speed ≤ fld (linkCap s) 4 4 ∧ (width = 1 ∨ width = 2 ∨ width = 4) ∧
      width ≤ fld (linkCap s) 0 4 then
    raise .hl 0 0 1 [] { s with hl := { s.hl with link := .up, speed, width } }
  else s
def execLinkUp (speed width : Nat) (s : State) : Out := .next (mainOn s (linkUp speed width s))

/-- SPEED_CHANGE and WIDTH_CHANGE (R208).  [PRESUMED, unsafe: log 50] -/
def speedChange (v : Nat) (s : State) : State :=
  if s.hl.link = .up ∧ 1 ≤ v ∧ v ≤ fld (linkCap s) 4 4 ∧ v ≠ s.hl.speed then
    raise .hl 0 2 1 [] (bump 0x42030 { s with hl := { s.hl with speed := v } })
  else s
def execSpeedChange (v : Nat) (s : State) : Out := .next (mainOn s (speedChange v s))

/-- [PRESUMED, unsafe: log 50] -/
def widthChange (v : Nat) (s : State) : State :=
  if s.hl.link = .up ∧ (v = 1 ∨ v = 2 ∨ v = 4) ∧ v ≤ fld (linkCap s) 0 4 ∧ v ≠ s.hl.width then
    raise .hl 0 3 1 [] (bump 0x42030 { s with hl := { s.hl with width := v } })
  else s
def execWidthChange (v : Nat) (s : State) : Out := .next (mainOn s (widthChange v s))

/-- L1_ENTRY (R201): the link has been idle for 8 µs; it goes to L1.1 where `sub` asks for it and function 0 enables it.
[DEDUCED, unsafe: log 60] -/
def l1Entry (sub : Bool) (s : State) : State :=
  if s.hl.link = .up ∧ !(polling s && decide (pollUsW s ≤ 8)) then
    let s := advanceClk (s.hl.busyAt + 8000) s
    { s with hl := { s.hl with inL1 := true, inL11 := sub && (s.fn 0).l11En } }
  else s
def execL1Entry (sub : Bool) (s : State) : Out := .next (mainOn s (l1Entry sub s))
/-- L1_EXIT: the link leaves L1 through Recovery (R201, R217).  [PRESUMED, unsafe: log 50] -/
def l1Exit (s : State) : State :=
  if s.hl.inL1 then bump 0x42030 (traffic { s with hl := { s.hl with inL1 := false, inL11 := false } }) else s
def execL1Exit (s : State) : Out := .next (mainOn s (l1Exit s))

/-- Configuration space and pending bits of a function at their reset values (R188, R215).  [PRESUMED, unsafe: log 49] -/
def cfgReset (f : Nat) (flr : Bool) (s : State) : State :=
  let x := s.fn f
  s.setFn f { flr, mps := x.mps, ecrcGen := x.ecrcGen, ecrcCheck := x.ecrcCheck, l11En := x.l11En, severity := x.severity }

/-- The two shadows that stand for no *_HI register: TK_PTM_HOST_LO (R193) and SN_TIME (R772). -/
def tkPtmHostLo : Nat := 0x53028
def snTime : Nat := 0x4E010

/-- A reset of a function discards what its requester holds (R108). -/
def requesterReset (f : Nat) (s : State) : State :=
  let keep := fun k => decide (k % 4 ≠ f)
  { s with regs := { s.regs with
      held := s.regs.held.keep keep
      shadow := s.regs.shadow.keep fun k => keep k || k / 4 == tkPtmHostLo || k / 4 == snTime
      snap := if f = 0 then [] else s.regs.snap } }

/-- PERST_ASSERT (R213, R215); the rings are left as by a link-down also where the link was not up (R254).
[PRESUMED, unsafe: log 49] -/
def perstAssert (writes : Nat) (copied : Option Nat) (s : State) : State :=
  if s.hl.perst then s
  else
    let s := linkDown writes copied { s with hl := { s.hl with perst := true } }
    let s := { s with hl := { s.hl with link := .down, fns := [], ptmEn := false, dialog := none, inbox := [], cxlLog := [],
                                        lds := s.hl.lds.map fun e => (e.1, { bound := e.2.bound }) } }
    requesterReset 1 (requesterReset 0 (if s.power = .on then ringsDown s else s))
def execPerstAssert (writes : Nat) (copied : Option Nat) (s : State) : Out := .next (perstAssert writes copied s)

/-- Link training may begin (R69, R214).  [DEDUCED, unsafe: log 47] -/
def trainLink (s : State) : State :=
  if s.power = .on ∧ s.hl.link = .down ∧ !s.hl.perst ∧ s.sheet.checked then { s with hl := { s.hl with link := .training } } else s

/-- PERST_DEASSERT (R214). -/
def perstDeassert (s : State) : State :=
  trainLink (if s.hl.perst then { s with hl := { s.hl with perst := false, perstHigh := s.tk.clk } } else s)
def execPerstDeassert (s : State) : Out := .next (perstDeassert s)

/-- FUNCTION_LEVEL_RESET (R108, R203, R338).  [PRESUMED, unsafe: log 49] -/
def functionLevelReset (f writes : Nat) (copied : Option Nat) (s : State) : State :=
  if (s.fn f).flr || s.hl.link != .up || !fnExists s f then s
  else
    let s := cfgReset f true s
    let s := { s with hl := { s.hl with reqs := s.hl.reqs.map fun q => if q.fn = f then { q with dead := true } else q } }
    let s := discardWrites (fun g => g == f) writes 7 s
    let s := match copied with | some k => if f = 0 then copyStops k 7 s else s | none => s
    let s := if f < 2 then requesterReset f s else s
    rewindStrips (fun g => g == f) s
def execFunctionLevelReset (f writes : Nat) (copied : Option Nat) (s : State) : Out :=
  .next (mainOn s (functionLevelReset f writes copied s))

/-- FLR_COMPLETE (R203). -/
def flrComplete (f : Nat) (s : State) : State :=
  if (s.fn f).flr then
    let s := s.setFn f { s.fn f with flr := false, ready := true }
    let s := if f = 0 then raise .hl 0 7 1 [] s else if f = 1 then raise .hl 0 8 1 [] s else s
    fnResume f s
  else s
def execFlrComplete (f : Nat) (s : State) : Out := .next (mainOn s (flrComplete f s))

/-! ### PTM (R191, R192) -/

/-- HL_PTM_PERIOD in ns. -/
def ptmPeriod (s : State) : Nat := fld (s.wr 0x42008 100) 0 10 * 1000000

/-- PTM_DIALOG_START (R191): a period after the last dialog began.  [DESIGN CHOICE, unsafe: log 206] -/
def ptmDialogStart (s : State) : State :=
  if s.hl.ptmEn ∧ s.hl.link = .up ∧ s.hl.dialog.isNone then
    let s := match s.hl.ptmAt with | some t => advanceClk (t + ptmPeriod s) s | none => s
    { s with hl := { s.hl with dialog := some (s.tk.clk, s.tk.now), ptmAt := some s.tk.clk, busyAt := s.tk.clk } }
  else s
def execPtmDialogStart (s : State) : Out := .next (mainOn s (ptmDialogStart s))

/-- PTM_CAPTURE (R165, R192): t4 − t1 as measured, the Master Time t2 and the Propagation Delay t3 − t2, in ns. -/
def ptmCapture (t41 t2 prop : Nat) (s : State) : State :=
  match s.hl.dialog with
  | none => s
  | some (_, t1) =>
    let host := ((2 * t2 : Int) - ((t41 : Int) - prop)).fdiv 2
    let s := traffic s
    { s with
      hl := { s.hl with dialog := none, dialogs := (s.hl.dialogs + 1) % 2 ^ 32 }
      tk := { s.tk with ptmJt := t1, ptmHost := unsigned 64 host } }
def execPtmCapture (t41 t2 prop : Nat) (s : State) : Out := .next (mainOn s (ptmCapture t41 t2 prop s))

/-- PTM_MISS: no ResponseD within 1 ms. -/
def ptmMiss (s : State) : State :=
  match s.hl.dialog with
  | none => s
  | some (t, _) =>
    let s := advanceClk (t + 1000000) s
    raise .hl 0 6 1 [] { s with hl := { s.hl with dialog := none } }
def execPtmMiss (s : State) : Out := .next (mainOn s (ptmMiss s))

/-! ### CXL: decoders, mailbox and FM API (R180, R194, R195, R199) -/

/-- The function that carries LD `l` (R181). -/
def ldFn (l : Nat) : Nat := if l = 0 then 0 else l + 1

/-- An access reaches the BAR4 of LD `l`'s function: CXL mode, the link up, Memory Space Enable set, neither D3hot nor a function-level
reset (R183, R200, R203).  [PRESUMED, unsafe: log 24] -/
def mailboxOpen (s : State) (l : Nat) : Bool :=
  let x := s.fn (ldFn l)
  s.hl.cxl && s.hl.link == .up && decide (l < 4) && x.memEn && !x.d3hot && !x.flr

/-- HDM_COMMIT (R183, R195). -/
def hdmCommit (l base size ways : Nat) (lock : Bool) (s : State) : State :=
  let x := s.ld l
  let s' := s
  let s := traffic s
  if !mailboxOpen s l || x.locked then s'
  else if base % 0x10000000 = 0 ∧ size = 2 ^ 32 ∧ ways = 1 then
    s.setLd l { x with committed := true, locked := lock, errNotCommitted := false, base }
  else raise .hl 0 9 1 [] (s.setLd l { x with committed := false, errNotCommitted := true })
def execHdmCommit (l base size ways : Nat) (lock : Bool) (s : State) : Out := .next (mainOn s (hdmCommit l base size ways lock s))

/-- CXL return codes.  [PRESUMED, unsafe: log 56] -/
def cxlOk : Nat := 0
/-- [PRESUMED, unsafe: log 56] -/
def cxlInvalid : Nat := 2
/-- [PRESUMED, unsafe: log 56] -/
def cxlUnsupported : Nat := 3

/-- A mailbox command of LD `l` completes, and signals its mailbox vector (R189).  [PRESUMED, unsafe: log 56] -/
def mailbox (l code : Nat) (payload : List Nat) (s : State) : State :=
  let s := send (.mailbox l code payload) (traffic s)
  if l = 0 then signalSpaced 20 s else signal (ldFn l) 0 s

/-- The FM-owned LD, as the model numbers the answers of its FM API. -/
def fmLd : Nat := 0xFFFF

/-- IDENTIFY_MEMORY_DEVICE: the 4 GiB capacity, the poison list's size and the device code; its other fields are open.
[PRESUMED, unsafe: log 56] -/
def identifyMemoryDevice (l : Nat) (s : State) : State :=
  if mailboxOpen s l then mailbox l cxlOk [2 ^ 32, 64, s.variant.deviceCode, openNat s] (spend s) else s
def execIdentifyMemoryDevice (l : Nat) (s : State) : Out := .next (mainOn s (identifyMemoryDevice l s))

/-- GET_HEALTH_INFO: the spec states no content.  [PRESUMED, unsafe: log 56] -/
def getHealthInfo (l : Nat) (s : State) : State := if mailboxOpen s l then mailbox l cxlOk [openNat s] (spend s) else s
def execGetHealthInfo (l : Nat) (s : State) : Out := .next (mainOn s (getHealthInfo l s))

/-- GET_EVENT_RECORDS: the event log.  [PRESUMED, unsafe: log 56] -/
def getEventRecords (l : Nat) (s : State) : State :=
  if mailboxOpen s l then mailbox l cxlOk (s.hl.cxlLog.foldl (fun a e => a ++ [e.1, e.2]) []) s else s
def execGetEventRecords (l : Nat) (s : State) : Out := .next (mainOn s (getEventRecords l s))

/-- CLEAR_EVENT_RECORDS: the oldest `n` records leave the log. -/
def clearEventRecords (l n : Nat) (s : State) : State :=
  if mailboxOpen s l then mailbox l cxlOk [] { s with hl := { s.hl with cxlLog := s.hl.cxlLog.drop n } } else s
def execClearEventRecords (l n : Nat) (s : State) : Out := .next (mainOn s (clearEventRecords l n s))

/-- GET_POISON_LIST: the whole list, through any LD (R199). -/
def getPoisonList (l : Nat) (s : State) : State :=
  if mailboxOpen s l then mailbox l cxlOk (b2n s.hl.poisonOver :: s.hl.poison) s else s
def execGetPoisonList (l : Nat) (s : State) : Out := .next (mainOn s (getPoisonList l s))

/-- INJECT_POISON: on LD0 only; the line holds a poison marker as after a stored-poison write (R180, R198, R199).
[DEDUCED, unsafe: log 55] -/
def injectPoison (l addr : Nat) (s : State) : State :=
  if !mailboxOpen s l then s
  else if l ≠ 0 then mailbox l cxlUnsupported [] s
  else if addr ≥ 2 ^ 32 ∨ addr % 64 ≠ 0 then mailbox l cxlInvalid [] s
  else mailbox l cxlOk [] (poisonAdd addr { s with ar := { s.ar with poisoned := s.ar.poisoned.put addr () } })
def execInjectPoison (l addr : Nat) (s : State) : Out := .next (mainOn s (injectPoison l addr s))

/-- CLEAR_POISON: on LD0 only; removes the entry and writes the line with the data given (R199).  [DEDUCED, unsafe: log 55] -/
def clearPoison (l addr : Nat) (data : List Byte) (s : State) : State :=
  if !mailboxOpen s l then s
  else if l ≠ 0 then mailbox l cxlUnsupported [] s
  else if addr ≥ 2 ^ 32 ∨ addr % 64 ≠ 0 then mailbox l cxlInvalid [] s
  else
    let s := { s with hl := { s.hl with poison := s.hl.poison.filter fun a => a != addr } }
    let s := { s with ar := { s.ar with poisoned := s.ar.poisoned.del addr, ueLines := s.ar.ueLines.del addr } }
    mailbox l cxlOk [] (arPut addr ((data ++ List.replicate 64 0).take 64) s)
def execClearPoison (l addr : Nat) (data : List Byte) (s : State) : Out := .next (mainOn s (clearPoison l addr data s))

/-- UNSUPPORTED_MAILBOX_COMMAND: any other mailbox command of LD `l`, or of the FM API (R180). -/
def unsupportedMailbox (l : Nat) (s : State) : State :=
  if l = fmLd then (if s.hl.cxl ∧ s.hl.link = .up then send (.mailbox fmLd cxlUnsupported []) (traffic s) else s)
  else if mailboxOpen s l then mailbox l cxlUnsupported [] s
  else s
def execUnsupportedMailboxCommand (l : Nat) (s : State) : Out := .next (mainOn s (unsupportedMailbox l s))

/-- GET_LD_INFO: 4 GiB and four LDs. -/
def execGetLdInfo (s : State) : Out := .next (mainOn s (if s.hl.cxl ∧ s.hl.link = .up then send (.mailbox fmLd cxlOk [2 ^ 32, 4]) (traffic s) else s))

/-- GET_LD_ALLOCATIONS: 4 GiB for each LD (R194). -/
def execGetLdAllocations (s : State) : Out :=
  .next (mainOn s (if s.hl.cxl ∧ s.hl.link = .up then send (.mailbox fmLd cxlOk (List.replicate 4 (2 ^ 32))) (traffic s) else s))

/-- SET_LD_ALLOCATIONS: any other arrangement is Invalid Input and changes nothing (R194). -/
def execSetLdAllocations (sizes : List Nat) (s : State) : Out :=
  .next (mainOn s (if s.hl.cxl ∧ s.hl.link = .up then
      send (.mailbox fmLd (if sizes = List.replicate 4 (2 ^ 32) then cxlOk else cxlInvalid) []) (traffic s) else s))

/-! ### HL_ registers -/

def hlStatus (s : State) : Nat :=
  let d := fun f => if (s.fn f).d3hot then 3 else 0
  at_ 16 1 (b2n s.hl.cxl) + at_ 15 1 (b2n (s.hl.link == .up)) + at_ 12 3 s.hl.speed + at_ 8 4 s.hl.width + at_ 6 2 (d 1) +
    at_ 4 2 (d 0) + at_ 3 1 (b2n s.hl.ptmEn) + at_ 2 1 (b2n s.hl.inL1) + at_ 1 1 (b2n s.hl.perst)
def hlLdStatus (s : State) : Nat :=
  if s.hl.cxl then (List.range 4).foldl (fun a l =>
    let x := s.ld l
    a + (b2n x.committed + 2 * b2n x.locked + 4 * b2n x.bound) * 2 ^ (4 * l)) 0
  else 0
def hlPoisonList (s : State) : Nat := at_ 31 1 (b2n s.hl.poisonOver) + at_ 0 7 s.hl.poison.length

end Sys2Proof.Machine
end

