-- ==== Sys2Proof/Machine/Measurement.lean ====
section
/-!
DEFINITION. Machine/Measurement.lean: the measurement islands (chapter 12): samples and their scaling, fast values, negatives at
the rate selected, autocalibration on the shared reference ladder, the reference check, and the checks of one voltage against
another.
-/
namespace Sys2Proof.Machine

/-! ### Numbers -/

/-- Round to nearest, ties away from zero. -/
def ratRound (x : Rat) : Int := if x < 0 then -((-x + 1 / 2).floor) else (x + 1 / 2).floor

/-- Scale of the fixed-point logarithm. -/
def lnScale : Int := 1000000000000000000

/-- The odd terms of the inverse hyperbolic tangent from `k` on: `p` is the running power, `y2` the square of the argument. -/
def atanhSum (y2 : Int) : Nat → Int → Int → Int
  | 0, _, _ => 0
  | f + 1, p, k => p / k + atanhSum y2 f (p * y2 / lnScale) (k + 2)

/-- The natural logarithm of `a / b`, both positive, times `lnScale`; `f` bounds the halvings.
[DESIGN CHOICE, unsafe: log 123] -/
def lnFix : Nat → Nat → Nat → Int
  | 0, a, b =>
    let y := ((a : Int) - b) * lnScale / ((a : Int) + b)
    2 * atanhSum (y * y / lnScale) 22 y 1
  | f + 1, a, b =>
    if a ≥ 2 * b then lnFix f a (2 * b) + 693147180559945309
    else if 2 * a ≤ b then lnFix f (2 * a) b - 693147180559945309
    else lnFix f a b

/-! ### Registers -/

/-- EPOCH-coded settings of MI `n` for a window that ends at `t`, or for a value taken at `t` (R433, R434). -/
def msConfig (s : State) (n t : Nat) : Word := s.actingAt (msKey n 0) 0x00030100 t
def thEn (s : State) (n t : Nat) : Bool := bitOf (msConfig s n t) 8
def msRate (s : State) (n t : Nat) : Nat := fld (msConfig s n t) 16 3
def shuntNohm (s : State) (n t : Nat) : Nat := (s.actingAt (msKey n 8) 0x000CB735 t).toNat
def calGain (s : State) (n q t : Nat) : Nat := (s.actingAt (selKey (msKey n 0x14) q) 0x40000000 t).toNat
def calOffset (s : State) (n q t : Nat) : Int := (s.actingAt (selKey (msKey n 0x18) q) 0 t).toInt
/-- [DESIGN CHOICE, unsafe: log 118] -/
def autocal (s : State) (n : Nat) : Word := s.wr (msKey n 0x1C) 0x0000312C
def intervalS (s : State) (n : Nat) : Nat := fld (autocal s n) 0 12

/-- The MI in whose MS_EVENTS an event of MI `n` is recorded: MI 2k in a gang (R459). -/
def msOf (s : State) (n : Nat) : Nat := if s.gangOdd n then n - 1 else n

/-- The MIs that measure for channel `n` (R437). -/
def misOf (s : State) (n : Nat) : List Nat := if (s.ch n).gang then [n, n + 1] else [n]

/-! ### Scaling (R425, R433) -/

/-- Clip to the converter limit.  [DEDUCED, unsafe: log 112] -/
def clipAt (lim v : Int) : Int := max (-lim) (min lim v)

/-- The autocorrected value of chain `q` (R433): gain correction in ppm, then offset correction.  [DEDUCED, unsafe: log 112] -/
def autocorrect (m : Meas) (q : Nat) (x : Rat) : Rat := x * (1000000 + m.gainPpm.get q 0 : Int) / 1000000 + (m.offset.get q 0 : Int)

/-- The SET_CAL correction of quantity `q` (R433).  [DEDUCED, unsafe: log 112] -/
def setCalled (s : State) (n q t : Nat) (x : Rat) : Int := ratRound (x * (calGain s n q t : Nat) / 0x40000000 + (calOffset s n q t : Int))

/-- Reported voltage, and reported or fast shunt current, of MI `n` at `t`, from what the converter gave within its limit (R425).
[DEDUCED, unsafe: log 112] -/
def scaleV (s : State) (n t : Nat) (v : Rat) : Int := setCalled s n 0 t (autocorrect (s.mi n) 0 v)
/-- [DEDUCED, unsafe: log 112] -/
def scaleI (s : State) (n t : Nat) (sh : Rat) : Int :=
  setCalled s n 1 t (autocorrect (s.mi n) 1 sh * 1000000 / (shuntNohm s n t : Nat))

/-- Reported temperature of MI `n` in 0.01 °C from the resistance ratio times 10^6; `none` where the formula gives no value of the field.
[DESIGN CHOICE, safe: log 113; DESIGN CHOICE, unsafe: log 123] -/
def scaleT (s : State) (n t : Nat) (ratio : Rat) : Option Int :=
  let th := s.actingAt (msKey n 0xC) 0x0D6B2710 t
  let r := autocorrect (s.mi n) 2 ratio
  if r ≤ 0 then none
  else
    let x : Rat := 100 / 29815 + (lnFix 9 r.num.toNat (r.den * 1000000) : Rat) / ((lnScale * (fld th 16 16 : Nat) : Int) : Rat)
    if x ≤ 0 then none
    else
      let c := setCalled s n 2 t ((1 / x - 27315 / 100) * 100)
      if -32767 ≤ c ∧ c ≤ 32767 then some c else none

/-! ### Autocalibration requests (R441, R446, R460) -/

/-- CAL_AGE of MI `n` in ns, where it has had a window. -/
def calAge (s : State) (n : Nat) : Option Nat := (s.mi n).calAt.map fun t => s.tk.clk - t

/-- MS_STATUS.CAL_AGE_S. -/
def calAgeS (s : State) (n : Nat) : Nat := match calAge s n with | some a => min (a / 1000000000) 0xFFFF | none => 0xFFFF

/-- A REST step has run for 100 ms or more. -/
def longRest (c : Chan) : Bool :=
  match c.step with
  | some st => st.op == 6 && decide (st.t ≥ 400000000)
  | none => false

/-- The opportunity for a scheduled window to begin (R441). -/
def calOpportunity (s : State) (n : Nat) : Bool :=
  let c := s.ch n
  (c.st == .dark && bitOf (autocal s n) 13) || (c.st == .running && longRest c && bitOf (autocal s n) 12)

/-- MI `n` itself asks for the ladder.  [DEDUCED, unsafe: log 117] -/
def wantsOne (s : State) (n : Nat) : Bool :=
  let m := s.mi n
  m.winAt.isNone && decide (s.tk.clk ≥ m.holdoff) &&
    (m.asking || m.cal == .forced || (m.cal == .due && calOpportunity s (msOf s n)))

/-- Channel `n`'s MI, or pair of MIs, asks for the ladder.  [DEDUCED, unsafe: log 119; DEDUCED, unsafe: log 122] -/
def wants (s : State) (n : Nat) : Bool :=
  s.present n && (misOf s n).all (fun k => s.isOn (miDom k) && (s.mi k).winAt.isNone) && (misOf s n).any (wantsOne s)

/-- Release MI `n`'s place on the ladder and its window, after which the next request waits until `hold` (R445, R446).
[DEDUCED, unsafe: log 114] -/
def leaveLadder (hold : Nat) (n : Nat) (s : State) : State :=
  let m := s.mi n
  let nodes := if m.winAt.isSome then m.nodes.map fun e => (e.1, min e.2 s.tk.clk) else m.nodes
  { s.setMi n { m with winAt := none, nodes, forcedWin := false, holdoff := hold,
                       gapSeen := m.gapSeen && decide (s.tk.now > m.endAt) } with
    ladder := { s.ladder with places := s.ladder.places.filter fun k => k != n } }

/-- The window of MI `k` is the one that it shares with MI `k` - 1 in a gang (R443, R447).  [DEDUCED, unsafe: log 77] -/
def sharesWindow (s : State) (k : Nat) : Bool := s.gangOdd k && (s.mi k).winAt.isSome && (s.mi k).winAt == (s.mi (k - 1)).winAt

/-- Abandon the window or windows of channel `n`, the forced ones too where `all`: its MI, or its pair of MIs, gives up the ladder and what
was measured, and each window raises its event (R445).  [DEDUCED, unsafe: log 43] -/
def calAbandon (n : Nat) (all : Bool) (s : State) : State :=
  let ends := (misOf s n).filter fun k => (s.mi k).winAt.isSome && (all || !(s.mi k).forcedWin)
  let events := ends.filter fun k => !sharesWindow s k
  let left := ends.foldl (fun s k => leaveLadder (s.tk.clk + 10000000000) k s) s
  events.foldl (fun t k =>
    match (s.mi k).winAt with
    | some t0 => raise .ms n 1 0 [((s.tk.clk - t0) / 1000 : Nat)] t
    | none => t) left

/-- Abandon a scheduled window whose opportunity has ended (R445); a held REST step has not ended. -/
def calCheck (n : Nat) (s : State) : State :=
  let c := s.ch n
  if c.st == .dark || longRest c then s else calAbandon n false s

/-- MI `n` becomes ON (R460).  [DEDUCED, unsafe: log 117] -/
def miUp (n : Nat) (s : State) : State :=
  s.setMi n { s.mi n with
    asking := true, calibrated := false, onAt := s.tk.now, endAt := s.tk.now, fastAt := s.tk.clk, streamStart := true, acc := [], last := none,
    modFail := 0, runPath := 0, pathSaid := false, runGang := 0, gangSaid := false, gapSeen := false, winAt := none,
    nodes := none, dec := [], guardSum := 0, guardN := 0, thOpen := false, thShort := false }

/-- MI `n` leaves ON: its window and its request end, its coefficients stay (R136, R460). -/
def miDown (n : Nat) (s : State) : State :=
  let s := leaveLadder (s.mi n).holdoff n s
  s.setMi n { s.mi n with asking := false, last := none, acc := [] }

/-- A write to MS_AUTOCAL, or time, has put MI `n` into another state (R441, R442, R453).  [DEDUCED, unsafe: log 117] -/
def calState (n : Nat) (s : State) : State :=
  let m := s.mi n
  match calAge s n with
  | some a =>
    let i := intervalS s n * 1000000000
    if a ≥ i + 600000000000 then
      if m.cal = .forced then s
      else raise .ms (msOf s n) 2 1 [(calAgeS s n : Nat)] (s.setMi n { m with cal := .forced })
    else s.setMi n { m with cal := if a ≥ i then .due else .notDue }
  | none => s

/-- CAL_DUE (R441): CAL_AGE reaches INTERVAL_S. -/
def calDue (n : Nat) (s : State) : State :=
  let m := s.mi n
  match m.calAt with
  | some t =>
    if m.cal = .notDue ∧ s.isOn (miDom n) then
      let s := advanceClk (t + intervalS s n * 1000000000) s
      s.setMi n { m with cal := .due }
    else s
  | none => s

def execCalDue (n : Nat) (s : State) : Out := .next (mainOn s (calDue n s))

/-- CAL_FORCED (R442): CAL_AGE reaches INTERVAL_S + 600 s. -/
def calForced (n : Nat) (s : State) : State :=
  let m := s.mi n
  match m.calAt with
  | some t =>
    if m.cal ≠ .forced ∧ s.isOn (miDom n) then
      let s := advanceClk (t + (intervalS s n + 600) * 1000000000) s
      raise .ms (msOf s n) 2 1 [(calAgeS s n : Nat)] (s.setMi n { m with cal := .forced })
    else s
  | none => s

def execCalForced (n : Nat) (s : State) : Out := .next (mainOn s (calForced n s))

/-- CAL_REQUEST_HOLDOFF_END (R446): 10 s after an abandoned or failed window. -/
def calHoldoffEnd (n : Nat) (s : State) : State :=
  let m := s.mi n
  if m.holdoff = 0 then s
  else
    let s := advanceClk (m.holdoff) s
    s.setMi n { m with holdoff := 0 }

def execCalRequestHoldoffEnd (n : Nat) (s : State) : Out := .next (mainOn s (calHoldoffEnd n s))

/-- LADDER_GRANT (R447, R448): the first requester after the MI last granted takes its place, or its two, where they are free;
its window begins and its fast shunt current stops (R443).  [DEDUCED, unsafe: log 122] -/
def ladderGrant (s : State) : State :=
  match ((List.range' 1 64).map fun k => (s.ladder.last + k) % 64).find? (wants s) with
  | none => s
  | some n =>
    let l := misOf s n
    if s.ladder.places.length + l.length ≤ 4 then
      let scheduled := (l.all fun k => !(s.mi k).asking && (s.mi k).cal != .forced)
      let s := l.foldl (fun s k =>
        s.setMi k { s.mi k with winAt := some s.tk.clk, nodes := some (s.tk.clk, s.tk.clk + 1800000), forcedWin := !scheduled,
                                gapSeen := true, holdoff := 0 }) s
      { s with ladder := { places := s.ladder.places ++ l, last := n } }
    else s

def execLadderGrant (s : State) : Out := .next (mainOn s (ladderGrant s))

/-- The first departure of a window's results beyond R454's limits, as chain and amount in ppm or µV.
[DEDUCED, unsafe: log 116] -/
def calDeparture (m : Meas) (x : CalIn) : Option (Nat × Int) :=
  let g : Int := if m.judged then 200 else 2000
  let ov : Int := if m.judged then 100 else 1000
  let os : Int := if m.judged then 5000 else 50000
  let dg := fun (q : Nat) (v : Int) => v - m.gainPpm.get q 0
  let dof := fun (q : Nat) (v : Int) => v - m.offset.get q 0
  if (dg 0 x.gv).natAbs > g.natAbs then some (0, dg 0 x.gv)
  else if (dof 0 x.ov).natAbs > ov.natAbs then some (0, dof 0 x.ov)
  else if (dg 1 x.gs).natAbs > g.natAbs then some (1, dg 1 x.gs)
  else if (dof 1 x.os).natAbs > os.natAbs then some (1, (dof 1 x.os).tdiv 1000)
  else if (dg 2 x.gt).natAbs > g.natAbs then some (2, dg 2 x.gt)
  else none

/-- Judge the results of MI `k` at 1.8 ms (R449, R454): whether they pass.  [DEDUCED, unsafe: log 116] -/
def judgeCal (k : Nat) (x : CalIn) (s : State) : Bool × State :=
  let b := msOf s k
  let m := { s.mi k with errPpm := satInt 16 x.err }
  if x.err.natAbs > 5000 then (false, raise .ms b 6 2 [m.errPpm] (s.setMi k { m with refLost := true }))
  else if x.err.natAbs > 500 then (false, raise .ms b 5 1 [m.errPpm] (s.setMi k { m with refSuspect := true }))
  else
    let m := { m with refLost := false, refSuspect := false }
    match calDeparture m x with
    | none => (true, s.setMi k { m with judged := true, fails := 0, calBad := false })
    | some (chain, d) =>
      let f := min 3 (m.fails + 1)
      let s := raise .ms b 3 1 [(chain : Nat), d] (s.setMi k { m with judged := true, fails := f, calBad := m.calBad || f == 3 })
      (false, if f = 3 ∧ !m.calBad then raise .ms b 4 2 [] s else s)

/-- End MI `k`'s window at 2.0 ms: its results are applied if they passed (R443, R444, R446, R460).
[DEDUCED, unsafe: log 116] -/
def endCal (k : Nat) (pass : Bool) (x : CalIn) (s : State) : State :=
  let s := leaveLadder (if pass then 0 else s.tk.clk + 10000000000) k s
  let m := { s.mi k with calibrated := true }
  s.setMi k (if pass then
    { m with calAt := some s.tk.clk, cal := .notDue, asking := false,
             gainPpm := ((m.gainPpm.put 0 x.gv).put 1 x.gs).put 2 x.gt,
             offset := ((m.offset.put 0 x.ov).put 1 x.os).put 2 x.ot }
  else { m with asking := m.asking && m.calAt.isNone })

/-- CAL_WINDOW_END (R443, R444, R446, R449, R454); the pair of a gang that shares a window ends it together.
[DEDUCED, unsafe: log 77] -/
def calWindowEnd (n : Nat) (x y : CalIn) (s : State) : State :=
  match (s.mi n).winAt with
  | some t =>
    if (s.present n || s.gangOdd n) && !sharesWindow s n && s.isOn (miDom n) then
      let forced := (s.mi n).forcedWin
      let old := (s.mi n).gainPpm.get 0 0
      let pair := (s.ch n).gang && sharesWindow s (n + 1)
      let s := advanceClk (t + 1800000) s
      let (p, s) := judgeCal n x s
      let (q, s) := if pair then judgeCal (n + 1) y s else (true, s)
      let s := advanceClk (t + 2000000) s
      let s := endCal n p x s
      let s := if pair then endCal (n + 1) q y s else s
      raise .ms (msOf s n) 0 0 [(b2n forced : Nat), (s.mi n).errPpm, if p then x.gv - old else 0] s
    else s
  | none => s

def execCalWindowEnd (n : Nat) (x y : CalIn) (s : State) : Out := .next (mainOn s (calWindowEnd n x y s))

/-- MOD_FAULT (R457). -/
def modFault (n chain : Nat) (s : State) : State :=
  let m := s.mi n
  if s.isOn (miDom n) ∧ chain ≤ 2 ∧ m.modFail / 2 ^ chain % 2 = 0 then
    raise .ms (msOf s n) 12 2 [(chain : Nat)] (s.setMi n { m with modFail := m.modFail + 2 ^ chain })
  else s

def execModFault (n chain : Nat) (s : State) : Out := .next (mainOn s (modFault n chain s))

/-! ### Samples (R427–R430, R437–R440, R452) -/

/-- MI `k`'s values come from the fast path (R440, R454, R457, R460), beside a calibration gap.  [DEDUCED, unsafe: log 119] -/
def fastOnly (m : Meas) : Bool := m.refLost || m.calBad || !m.calibrated || m.modFail % 4 != 0

/-- SELFTEST of KIND 0x00 runs on channel `n` (R815). -/
def selftesting (s : State) (n : Nat) : Bool :=
  match execOf s 0x72 n with | some (_, e) => dU8 e.d 0x10 == 0 | none => false

/-- The decimator values of the window that ends at `t`: those whose centre instant it contains, its end left out (R427).
[DEDUCED, unsafe: log 114] -/
def windowValues (t : Nat) (l : List DecVal) : List DecVal := l.filter fun x => decide (t ≤ x.time + 250000) && decide (x.time < t)

/-- The mean of a quantity of decimator values, each within its converter's limit (R425, R428). -/
def decMean (f : DecVal → Int) (l : List DecVal) : Rat := (l.map f).sum / (l.length : Nat)

/-- The decimator values that MI `k` did not take from internal nodes, which alone are judged for over-range (R443, R452).
[DEDUCED, unsafe: log 114] -/
def judgedValues (s : State) (k : Nat) (l : List DecVal) : List DecVal :=
  match (s.mi k).nodes with
  | some (a, b) => l.filter fun x => let c := s.tk.clk - (s.tk.now - x.time); decide (c < a) || decide (b ≤ c)
  | none => l

/-- What lay outside the measure range: bit 0 voltage, 1 shunt, 2 a ratio above 200, 3 a ratio below 0.005 (R425, R452). -/
def rangeBits (l : List DecVal) : Nat :=
  b2n (l.any fun x => decide (x.v < -500000) || decide (5500000 < x.v)) +
    2 * b2n (l.any fun x => decide (x.sh < -50000000) || decide (50000000 < x.sh)) +
    4 * b2n (l.any fun x => decide (200000000 < x.ratio)) + 8 * b2n (l.any fun x => decide (x.ratio < 5000))

/-- MI `k`'s own sample of the window that ends at `t`, of the decimator values `l` of that window: precise voltage, current and
temperature with its conditions (R428, R433, R440, R452). -/
def ownSample (s : State) (k t : Nat) (l : List DecVal) : Sample × State :=
  let m := s.mi k
  let jl := judgedValues s k l
  let gap := m.gapSeen || m.winAt.isSome || selftesting s (msOf s k)
  let th := thEn s k t
  let range := rangeBits jl
  let thBad := th && decide (range / 4 % 4 ≠ 0)
  let formed := th && !gap && !thBad && m.modFail / 4 % 2 == 0
  let ti := scaleT s k t (decMean (fun x => x.ratio) l)
  let s := if formed && ti.isNone then spend s else s
  let temp : Int :=
    if !th || m.modFail / 4 % 2 == 1 then -32768
    else if gap then m.lastTemp
    else if thBad then -32768
    else match ti with | some x => x | none => signed 16 (openNat s)
  let ov := decide (range % 4 ≠ 0) || thBad
  let smp : Sample := { time := t, v := scaleV s k t (decMean (fun x => clipAt 6200000 x.v) l),
                        i := scaleI s k t (decMean (fun x => clipAt 55000000 x.sh) l), temp, calGap := gap,
                        fastPath := gap || fastOnly m, overRange := ov }
  let o := th && if jl.isEmpty then m.thOpen else decide (range / 4 % 2 = 1)
  let h := th && if jl.isEmpty then m.thShort else decide (range / 8 % 2 = 1)
  let s := s.setMi k { m with gapSeen := m.winAt.isSome, lastTemp := if gap then m.lastTemp else temp, thOpen := o, thShort := h,
                              endAt := t }
  let s := if o && !m.thOpen then raise .ms (msOf s k) 8 1 [] s else s
  (smp, if h && !m.thShort then raise .ms (msOf s k) 9 1 [] s else s)

/-- First chain over range (R452).  [DEDUCED, unsafe: log 114] -/
def overChain (ov : Nat) : Nat := if ov % 2 = 1 then 0 else if ov / 2 % 2 = 1 then 1 else 2

/-- The fast path's means over the window: the guard converter's voltage and I_FAST (R432, R439).  [DEDUCED, unsafe: log 120] -/
def fastMeans (m : Meas) (c : Chan) : Int × Int :=
  (if m.guardN = 0 then m.guard else divRound m.guardSum (m.guardN : Nat),
   if c.winN = 0 then ratRound c.iFast else ratRound (c.winI / (c.winN : Nat)))

/-- Flags of a sample as bits of R301.  [DEDUCED, unsafe: log 121] -/
def sampleFlags (p : Sample) : Nat :=
  b2n p.late + 2 * b2n p.calGap + 16 * b2n p.fastPath + 32 * b2n p.overRange

/-- How channel `n` stands now, at a window's end (R299–R301, R484).  [DEDUCED, unsafe: log 121] -/
def sampleAt (s : State) (n : Nat) : SampleAt :=
  let c := s.ch n
  { gen := c.gen, expo := c.expo, energy := c.energy, step := (match c.step with | some st => st.pc | none => 0xFFFF),
    phases := (inService s n).foldl (fun a j => a + 2 ^ j) 0, expoSat := c.expoSat, limited := c.limited }

/-- A negative of channel `n` from the values of a sample and flags, all of the instant of its TIME (R299–R301, R430, R484).
[DEDUCED, unsafe: log 121] -/
def negative (s : State) (n : Nat) (p : Sample) (flags rate : Nat) (snap : Bool) : Rec :=
  let c := p.chan
  let f := flags + 4 * b2n c.expoSat + 8 * b2n c.limited + 64 * b2n snap + 128 * b2n (s.mi n).streamStart
  let w := fun (v : Int) => [wInt v, wInt (v / 2 ^ 32)]
  { mkRec s (prodMi n) 1 n p.time
      (w c.expo ++ w c.energy ++
        [wInt p.v, wInt p.i, wInt p.iFast, w32 (unsigned 16 p.temp + f * 65536), w32 (c.step + rate * 65536 + c.phases * 2 ^ 24), 0]) with
    gen := c.gen, snapshot := snap }

/-- Commit a negative; it takes STREAM_START where it is the first of its stream generation. -/
def pushNegative (n : Nat) (p : Sample) (flags rate : Nat) (snap : Bool) (s : State) : State :=
  let s := pushRec (prodMi n) (negative s n p flags rate snap) s
  s.setMi n { s.mi n with streamStart := false }

/-- A sample more in a mean (R428). -/
def MeasAcc.add (p : Sample) (a : MeasAcc) : MeasAcc :=
  { n := a.n + 1, v := a.v + p.v, i := a.i + p.i, iFast := a.iFast + p.iFast,
    tN := a.tN + (if p.temp = -32768 then 0 else 1), t := a.t + (if p.temp = -32768 then 0 else p.temp),
    flags := Nat.lor a.flags (sampleFlags p) }

/-- The period in ns of a RATE code. -/
def ratePeriod (rate : Nat) : Nat := [1000000000, 100000000, 10000000, 1000000, 250000].getD rate 250000

/-- Gather a sample for every rate, each over its own preceding period, and commit the negative of the selected rate where the window
end is a multiple of that rate's period (R428, R429). -/
def rateStep (n : Nat) (p : Sample) (s : State) : State :=
  let m := s.mi n
  let accs : Tab MeasAcc := (List.range 5).map fun r => (r, (m.acc.get r {}).add p)
  let rate := msRate s n p.time
  let s := s.setMi n { m with acc := accs.filter fun e => p.time % ratePeriod e.1 != 0 }
  if p.time % ratePeriod rate = 0 then
    let a := Tab.get accs rate {}
    let mean : Sample :=
      { time := p.time, v := divRound a.v a.n, i := divRound a.i a.n, iFast := divRound a.iFast a.n,
        temp := if a.tN = 0 then -32768 else divRound a.t a.tN, chan := p.chan }
    pushNegative n mean a.flags rate false s
  else s

/-- The precise voltage against the fast one (R455), in a window that neither carries CAL_GAP nor lacks a fast value: after 16 samples in a
row more than 10 mV apart the channel is cut.  [DEDUCED, unsafe: log 120] -/
def pathCheck (n : Nat) (gap : Bool) (v fast : Int) (s : State) : State :=
  let m := s.mi n
  if gap then s
  else if (v - fast).natAbs ≤ 10000 then s.setMi n { m with runPath := 0, pathSaid := false }
  else
    let k := min 16 (m.runPath + 1)
    let s := s.setMi n { m with runPath := k, pathSaid := m.pathSaid || k == 16 }
    if k = 16 ∧ !m.pathSaid then
      cutChannel n (endRun n .limit 0 false (latchFault 3 0x22 n (raise .ms n 10 2 [v, fast] s)))
    else s

/-- The voltages of a gang's two MIs (R456): after 16 samples in a row more than 1 mV apart the channel fades.
[DEDUCED, unsafe: log 119; DEDUCED, unsafe: log 120] -/
def gangCheck (n : Nat) (gap : Bool) (v v2 : Int) (s : State) : State :=
  let m := s.mi n
  if gap then s
  else if (v - v2).natAbs ≤ 1000 then s.setMi n { m with runGang := 0, gangSaid := false }
  else
    let k := min 16 (m.runGang + 1)
    let s := s.setMi n { m with runGang := k, gangSaid := m.gangSaid || k == 16 }
    if k = 16 ∧ !m.gangSaid then
      fadeChannel n (endRun n .progFault 0 false (latchFault 4 0x23 n (raise .ms n 11 2 [v, v2] s)))
    else s

/-- The CI takes the sample: its correction and its evaluations are due at the next period boundary, and the temperature limits
are tested now (R439, R481, R490).  [DEDUCED, unsafe: log 103; DEDUCED, unsafe: log 111] -/
def toCi (n : Nat) (p : Sample) (s : State) : State :=
  let s := offerOpen (miDom n) (ciDom n) s
  if s.isOn (ciDom n) then
    let c := s.ch n
    let s := s.setCh n { c with
      sample := p, freshSample := true, evalV := p.v, evalI := p.i, evalT := p.temp, evaled := true, lastQ := c.winQ, lastE := c.winE,
      winQ := 0, winE := 0, winI := 0, winN := 0 }
    if p.temp = -32768 then s
    else
      let s := limitTest n 4 2 (decide (p.temp > limitVal s n 4)) p.temp s
      limitTest n 5 2 (decide (p.temp < limitVal s n 5)) p.temp s
  else s

/-- How long the step of channel `n` has run at Jikan time `t`, in ns, the time held left out (R470).
[DEDUCED, unsafe: log 154] -/
def stepElapsed (s : State) (n t : Nat) : Nat :=
  let c := s.ch n
  match c.step with
  | some st => st.t / 4 + (if c.st = .running then t - st.seen else 0)
  | none => 0

/-- The fixer takes a precise sample of a run (R617, R618).  [DEDUCED, unsafe: log 153] -/
def toFixer (n : Nat) (p : Sample) (s : State) : State :=
  let good := !p.fastPath && !p.calGap
  let delay := fld (s.wr 0x49010 0x03E81388) 16 16 * 1000
  fxRun n (fun r =>
    let x : FxSample := { v := p.v, t := p.time }
    let r : FxRun := if r.rest && good then
        { r with restLast := some x,
                 restMin := if r.restMin.isNone && decide (stepElapsed s n p.time ≥ restMinNs s) then some x else r.restMin } else r
    let due := fun (w : FxWait) => decide (p.time ≥ w.at_ + delay)
    let new := if good then (r.waits.filter due).map fun (w : FxWait) =>
        ({ val := divRound (((p.v - w.v).natAbs : Int) * 1000000) w.di.natAbs, t1 := w.t, t2 := p.time, conf := w.conf } : FxDcir) else []
    let l := r.meas ++ new
    { r with waits := r.waits.filter (fun w => !due w), meas := l.drop (l.length - 16) }) s

/-- Domain `d` sends something on its way to the print engine. -/
def toPe (d : Nat) (i : PeInput) (s : State) : State :=
  let s := offerOpen d 9 s
  if s.isOn 9 then { s with pe := { s.pe with coming := s.pe.coming ++ [i] } } else s

/-- The end of the epoch that an input of `t` belongs to (R156, R594): of one that has ended, or the next multiple of the acting length. -/
def epochEndOf (s : State) (t : Nat) : Nat :=
  match s.pe.epochs.find? fun e => decide (e.start < t) && decide (t ≤ e.endT) with
  | some e => e.endT
  | none =>
    match s.pe.past.find? fun e => decide (e.1 < t) && decide (t ≤ e.2.1) with
    | some e => e.2.1
    | none => let len := max 1 s.tk.epochQ * 250000; (t + len - 1) / len * len

/-- Whether a hand-off that begins at `t` is late for a sample of the window that ends at `e`, by the length and the HOLDOFF_US of its own
epoch (R595, R625). -/
def handLate (s : State) (e t : Nat) : Bool :=
  decide (t + 50 ≥ epochEndOf s e + fld (s.actingAt 0x48004 0x00C800FF e) 16 10 * 1000)

/-- MI `k`'s decimators have given the values `l` (R427). -/
def takeValues (k : Nat) (l : List DecVal) (s : State) : State := s.setMi k { s.mi k with dec := (s.mi k).dec ++ l }

/-- The window that ends at `t` is over for MI `k`: what belongs to later windows stays, and the guard converter's sums begin anew. -/
def windowOver (k t : Nat) (s : State) : State :=
  s.setMi k { s.mi k with dec := (s.mi k).dec.filter (fun x => decide (t ≤ x.time)), guardSum := 0, guardN := 0 }

/-- A window of MI `n` ends (R427–R430, R437, R440, R452); none does while its local time is held back behind the window's end (R153), and
without decimator values there is no sample.  `w` and `w2` are the decimator values that MI `n` and, in a gang, MI `n` + 1 gave since the
last window's end, and `delay` is the time in ns from the window's end to the hand-off (at most 10 µs).
[DEDUCED, unsafe: log 111; DESIGN CHOICE, safe: log 113; DEDUCED, unsafe: log 115] -/
def sampleWindowEnd (n : Nat) (w w2 : List DecVal) (delay : Nat) (s : State) : State :=
  let m := s.mi n
  if s.present n && s.isOn (miDom n) then
    let t := boundary 250000 m.endAt s.tk.now
    let s := stateReads 0x80 n (misOf s n) (advanceTo t s)
    let pair := (s.ch n).gang
    let s := takeValues n w s
    let s := if pair then takeValues (n + 1) w2 s else s
    let l := windowValues t (s.mi n).dec
    let l2 := if pair then windowValues t (s.mi (n + 1)).dec else l
    let done := fun (s : State) => let s := windowOver n t s; if pair then windowOver (n + 1) t s else s
    if t < m.onAt + 250000 ∨ localTime s (miDom n) + 64 < t ∨ l = [] ∨ l2 = [] then
      let s := done s
      s.setMi n { s.mi n with endAt := t }
    else
      let (p, s) := ownSample s n t l
      let (p2, s) := if pair then ownSample s (n + 1) t l2 else (p, s)
      let g := s.mi n
      let (vf, jf) := fastMeans g (s.ch n)
      let names := Nat.lor (rangeBits (judgedValues s n l)) (if pair then rangeBits (judgedValues s (n + 1) l2) else 0)
      let s := done s
      let gap := p.calGap || (pair && p2.calGap)
      let fast := p.fastPath || (pair && p2.fastPath)
      let ov := p.overRange || (pair && p2.overRange)
      let late := handLate s t (t + delay)
      let q : Sample := { time := t, late, chan := sampleAt s n, v := if fast then vf else p.v,
                          i := if fast then jf else if pair then p.i + p2.i else p.i, temp := p.temp, iFast := jf, vFast := vf,
                          calGap := gap, fastPath := fast, overRange := ov }
      let was := match m.last with | some l => l.overRange | none => false
      let s := s.setMi n { s.mi n with last := some q }
      let s := if ov && !was then raise .ms n 7 1 [(overChain names : Nat)] s else s
      let s := pathCheck n (p.calGap || g.guardN == 0) p.v vf s
      let s := if pair then gangCheck n gap p.v p2.v s else s
      let s := toCi n q s
      let s := toFixer n q s
      let s := toPe (miDom n) { src := 0, ch := n, stamp := t, v := q.v, i := q.i, t := q.temp, usable := !fast && !gap && !ov,
                                suspect := m.refSuspect, late } s
      let s := if g.guardN = 0 then s else toPe (miDom n) { src := 1, ch := n, stamp := t, v := vf, i := jf } s
      let s := if pair then
          toPe (miDom n) { src := 2, ch := n, stamp := t, v := p2.v, t := p2.temp,
                           usable := !p2.fastPath && !p2.calGap && !p2.overRange, suspect := (s.mi (n + 1)).refSuspect, late } s
        else s
      let s := rateStep n q s
      if (s.mi n).snapWait then
        let s := match execOf s 0x17 n with | some (r, _) => setStage r (.records q.time) s | none => s
        pushNegative n q (sampleFlags q) 4 true (s.setMi n { s.mi n with snapWait := false })
      else s
  else s

def execSampleWindowEnd (n : Nat) (w w2 : List DecVal) (delay : Nat) (s : State) : Out := .next (mainOn s (sampleWindowEnd n w w2 delay s))

/-- The CI takes a fast value, where it is ON (R431, R432, R437, R443, R457, R490); in a calibration gap the feed-forward keeps the last
voltage before it (R395). -/
def fastTaken (n : Nat) (v sh sh2 : Int) (s : State) : State :=
  if s.isOn (ciDom n) then
    let c := s.ch n
    let gap := (misOf s n).any fun k => (s.mi k).winAt.isSome
    let stopped := (misOf s n).any fun k => (s.mi k).winAt.isSome || (s.mi k).modFail / 2 % 2 == 1
    let now := s.tk.now + 1
    let lim := fun (x : Int) => ((clipAt 55000000 x : Int) : Rat)
    let i := scaleI s n now (lim sh) + (if c.gang then scaleI s (n + 1) now (lim sh2) else 0)
    let s := s.setCh n { c with vFast := v, vFeed := if gap then c.vFeed else v, iShunt := if stopped then c.iShunt else some i }
    let s := limitTest n 0 4 (decide (v > limitVal s n 0)) v s
    limitTest n 1 4 (decide (v < limitVal s n 1)) v s
  else s

/-- FAST_VALUE (R431, R432, R437, R443, R457, R490): the guard converter's voltage `v` in µV, and the shunt voltages of the MI and
in a gang of its partner, in nV. -/
def fastValue (n : Nat) (v sh sh2 : Int) (s : State) : State :=
  if s.present n && s.isOn (miDom n) then
    let v := clipAt 6200000 v
    let s := (misOf s n).foldl (fun s k => s.setMi k { s.mi k with fastAt := s.tk.clk }) s
    let m := s.mi n
    let s := s.setMi n { m with guard := v, guardSum := m.guardSum + v, guardN := m.guardN + 1 }
    fastTaken n v sh sh2 (offerOpen (miDom n) (ciDom n) s)
  else s

def execFastValue (n : Nat) (v sh sh2 : Int) (s : State) : Out := .next (mainOn s (fastValue n v sh sh2 s))

/-- PWM_PERIOD_BOUNDARY (R475), after which a scheduled calibration whose opportunity has ended is abandoned (R445). -/
def execPwmPeriodBoundary (n : Nat) (codes : List (List Int)) (s : State) : Out := .next (mainOn s (calCheck n (pwmBoundary n codes s)))

end Sys2Proof.Machine
end

