-- ==== Sys2Proof/Machine/Prints.lean ====
section
/-!
DEFINITION. Machine/Prints.lean: the print engine and the fixer (chapter 16): which inputs enter an epoch's prints, how values,
confidences and levels are formed, when DISPUTE stands, and how a run is graded.
-/
namespace Sys2Proof.Machine

def State.peCh (s : State) (n : Nat) : PeCh := s.pe.ch.get n {}
def State.setPeCh (s : State) (n : Nat) (x : PeCh) : State := { s with pe := { s.pe with ch := s.pe.ch.put n x } }

/-- The acting epoch length in ns (R156). -/
def epochLen (s : State) : Nat := max 1 s.tk.epochQ * 250000

/-! ### The end of an epoch (R592–R594, R598, R625, R627) -/

/-- PE_MAP of channel `n` for an input of `t` (R593, R625). -/
def peMap (s : State) (n t : Nat) : Word := s.actingAt (selKey 0x4801C n) 0 t

/-- Channel `n` has a print for the epoch that ends (R592). -/
def peEligible (s : State) (n : Nat) : Bool :=
  let pair := if (s.ch n).gang then [n, n + 1] else [n]
  s.present n && (s.dom 9).whole && pair.all (fun k => (s.dom (ciDom k)).whole && (s.dom (miDom k)).whole) && !(s.ch n).ganged

/-- What channel `n` gives to the print of the epoch that ends.  [DEDUCED, unsafe: log 150] -/
def peLedger (s : State) (n : Nat) : PeLedger :=
  let c := s.ch n
  { ch := n, gang := c.gang, gen := c.gen, stream := s.streams.get n 0, expo := c.expo, overrun := c.overrun, cleared := c.cleared,
    anchor := c.anchor, stage := if c.stageN = 0 then none else some (c.stageSum / (c.stageN : Rat)),
    map := s.acting (selKey 0x4801C n) 0,
    cap := (s.acting (selKey 0x48020 n) 0).toNat }

/-- Note what the epoch from `a` to `b` gives to its prints, with the settings in force at its end, and start afresh. -/
def peEpochEnd (a b : Nat) (s : State) : State :=
  let chans := s.channelList
  let e : PeEpoch :=
    { start := a, endT := b, no := b / epochLen s % 2 ^ 32, config := s.acting 0x48004 0x00C800FF, dispute := s.acting 0x48008 0x258141F4,
      tol := s.acting 0x4800C 0x01F40096, motion := s.acting 0x48010 0, path := (s.acting 0x48014 0).toNat,
      ocv := (List.range 41).map fun k => (s.acting (selKey 0x48024 k) 0).toInt,
      on := (s.dom 9).whole, chans := (chans.filter (peEligible s)).map (peLedger s),
      others := (chans.filter fun n => s.present n && !peEligible s n).map (peLedger s), ganged := chans.filter fun n => (s.ch n).ganged }
  let s := { s with pe := { s.pe with epochs := s.pe.epochs ++ [e] } }
  { s with chs := s.chs.map fun x =>
      (x.1, { x.2 with overrun := none, cleared := false, anchor := none, ganged := false, stageSum := 0, stageN := 0 }) }

/-- Domain 9 leaves ON: no print is made of what it had gathered (R631); the fusion state stays in its macro (R136).
[DEDUCED, unsafe: log 46] -/
def peDown (s : State) : State :=
  { s with pe := { s.pe with coming := [], kept := [], epochs := s.pe.epochs.map fun e => { e with on := false, chans := [], others := e.others ++ e.chans } } }

/-- Domain 10 leaves ON: what it had gathered of runs is lost (R631); table and grades stay in their macros (R136).
[DEDUCED, unsafe: log 46] -/
def fxDown (s : State) : State := { s with fx := { s.fx with runs := [], ended := [] } }

/-! ### Inputs (R595) -/

/-- An input is late now: its MI flagged it, or E of its epoch has come, or its print has gone.  [DEDUCED, unsafe: log 144] -/
def peLate (s : State) (i : PeInput) : Bool :=
  i.late || decide (i.stamp ≤ s.pe.printed) ||
    match s.pe.epochs.find? fun e => decide (e.start < i.stamp) && decide (i.stamp ≤ e.endT) with
    | some e => decide (s.tk.now ≥ e.endT + fld e.config 16 10 * 1000)
    | none => false

/-- The word of a CAN frame's data that a PE_MAP names, where the data holds it (R601).  [DEDUCED, unsafe: log 155] -/
def canWord (m : Word) (data : List Byte) : Option Int :=
  let w := fld m 20 5
  if 2 * w + 2 ≤ data.length then some (signed 16 (leAt data (2 * w) 2)) else none

/-- The channels that an input is for: the one it names, or those whose PE_MAP chooses the frame (R601).
[DEDUCED, unsafe: log 155] -/
def inputChans (s : State) (i : PeInput) : List Nat :=
  if i.src = 3 then
    s.channelList.filter fun n =>
      let m := peMap s n i.stamp
      bitOf m 31 && fld m 30 1 * 32 + fld m 25 5 == i.box && (canWord m i.data).isSome
  else [i.ch]

/-- EPOCH_NO of the epoch that an input of `t` belongs to (R302, R594). -/
def epochNoOf (s : State) (t : Nat) : Nat :=
  match s.pe.epochs.find? fun e => decide (e.start < t) && decide (t ≤ e.endT) with
  | some e => e.no
  | none =>
    match s.pe.past.find? fun e => decide (e.1 < t) && decide (t ≤ e.2.1) with
    | some e => e.2.2
    | none => (t + epochLen s - 1) / epochLen s % 2 ^ 32

/-- PRINT_INPUT_ARRIVAL: the oldest input on its way reaches the print engine (R595).  [DEDUCED, unsafe: log 144] -/
def printInputArrival (s : State) : State :=
  match s.pe.coming with
  | [] => s
  | i :: rest =>
    let late := peLate s i
    let s := { s with pe := { s.pe with coming := rest } }
    if late then
      (inputChans s i).foldl (fun s n =>
        let s := bump 0x48028 s
        let no := epochNoOf s i.stamp
        if s.pe.lateSaid.contains no then s
        else raise .pe 0 4 1 [(i.src : Nat), (n : Nat), (no : Nat)]
               { s with pe := { s.pe with lateSaid := no :: s.pe.lateSaid.take 15 } }) s
    else { s with pe := { s.pe with kept := s.pe.kept ++ [i] } }

def execPrintInputArrival (s : State) : Out := .next (mainOn s (printInputArrival s))

/-! ### Fusion (R599–R615) -/

/-- A candidate of a quantity: its source bit, its value and its base confidence (R601). -/
structure Cand where
  src : Nat
  v   : Rat
  c   : Nat
  deriving DecidableEq, Repr

/-- A quantity as a print forms it: level, value and confidence, and whether R603 sets SENSOR_SUSPECT. -/
structure Fused where
  level   : Nat
  v       : Int
  c       : Nat
  suspect : Bool := false
  deriving DecidableEq, Repr

/-- The mean of a list (R602), which is not empty. -/
def meanOf (l : List Int) : Rat := (l.foldl (· + ·) 0 : Int) / (l.length : Nat)

/-- Σ cᵢxᵢ / Σ cᵢ, rounded to nearest (R603). -/
def weighted (l : List Cand) : Int :=
  let d : Nat := l.foldl (fun (a : Nat) (x : Cand) => a + x.c) 0
  let sum : Rat := if d = 0 then l.foldl (fun (a : Rat) (x : Cand) => a + x.v) 0 else l.foldl (fun (a : Rat) (x : Cand) => a + x.c * x.v) 0
  ratRound (sum / (if d = 0 then l.length else d : Nat))

/-- The magnitude of a difference. -/
def apart (a b : Rat) : Rat := if a ≤ b then b - a else a - b

/-- Confidence at level 0: the highest and a quarter of the others (R603). -/
def agreeConf (l : List Cand) : Nat :=
  let m := l.foldl (fun a x => max a x.c) 0
  min 255 (m + (l.foldl (fun (a : Nat) (x : Cand) => a + x.c) 0 - m) / 4)

/-- The lowest base confidence.  [DEDUCED, unsafe: log 146] -/
def minConf (l : List Cand) : Nat := l.foldl (fun a x => min a x.c) 255

/-- V and I (R602, R603): `main` enters the mean with every partner within `tol`, `fast` checks within `ftol` and stands in.
[DEDUCED, unsafe: log 145; DEDUCED, unsafe: log 146] -/
def fuse (main partner fast : Option Cand) (tol ftol : Nat) : Option Fused :=
  match main with
  | some m =>
    let near := fun (x : Cand) (t : Nat) => decide (apart x.v m.v ≤ t)
    let pAgree := (partner.toList).filter fun x => near x tol
    let fAgree := (fast.toList).filter fun x => near x ftol
    let off := ((partner.toList).filter fun x => !near x tol) ++ ((fast.toList).filter fun x => !near x ftol)
    let v := weighted (m :: pAgree)
    if !pAgree.isEmpty || !fAgree.isEmpty then some { level := 0, v, c := agreeConf (m :: (pAgree ++ fAgree)) }
    else if off.isEmpty then some { level := 1, v, c := 3 * m.c / 4 }
    else some { level := 1, v, c := minConf (m :: off) / 2, suspect := true }
  | none => fast.map fun f => { level := 2, v := ratRound f.v, c := f.c }

/-- What is held of a quantity after a print, and the print's quantity (R604).  [DEDUCED, unsafe: log 148] -/
def holdRule (h : Option Held) (now : Option Fused) (none_ : Int) : Option Held × Fused :=
  match now with
  | some f => (some { v := f.v, c := f.c }, f)
  | none =>
    match h with
    | none => (none, { level := 4, v := none_, c := 0 })
    | some h =>
      let k := h.k + 1
      (some { h with k := min k 9 }, if k ≤ 8 then { level := 3, v := h.v, c := h.c / 2 ^ k } else { level := 4, v := none_, c := 0 })

/-- A quantity as the print reports it (R605, R606). -/
def report (masking : Bool) (sentinel : Int) (f : Fused) : Fused :=
  if masking && decide (f.level ≥ 2) then { f with v := sentinel, c := 0 } else f

/-- The usable inputs of a source. -/
def ofSrc (l : List PeInput) (k : Nat) : List PeInput := l.filter fun i => i.src == k && i.usable

/-- A candidate from an MI's samples (R601). -/
def miCand (k : Nat) (l : List PeInput) (get : PeInput → Int) : Option Cand :=
  if l.isEmpty then none
  else some { src := k, v := meanOf (l.map get), c := if l.any (·.suspect) then 128 else 255 }

/-- Insert a value into a rising list. -/
def insertRat (v : Rat) : List Rat → List Rat
  | [] => [v]
  | x :: t => if v ≤ x then v :: x :: t else x :: insertRat v t

/-- The middle value of the candidates, of which there are three at most. -/
def medianOf (l : List Cand) : Rat := (l.foldr (fun x a => insertRat x.v a) []).getD (l.length / 2) 0

/-- The counts of R607 for one candidate, with its residual: outlying epochs, near epochs, and suspect. -/
def judgeTemp (tol : Nat) (res : Rat) (src : Nat) (p : PeCh) : PeCh :=
  let out := decide (apart res 0 > tol)
  let k := if out then p.out.get src 0 + 1 else 0
  let near := decide (2 * apart res 0 ≤ tol)
  let m := if p.suspect.has src && near then p.near.get src 0 + 1 else 0
  let sus := p.suspect.has src
  { p with out := p.out.put src (min k 16), near := p.near.put src (if m ≥ 64 then 0 else m),
           suspect := if sus && decide (m ≥ 64) then p.suspect.del src
                      else if !sus && decide (k ≥ 16) then p.suspect.put src () else p.suspect }

/-- T_CELL (R602, R603, R607): the channel after, its fused temperature, and whether an outlier sets SENSOR_SUSPECT.
[DEDUCED, unsafe: log 146] -/
def fuseTemp (n tol : Nat) (l : List Cand) (s : State) : State × Option Fused × Bool :=
  let p := s.peCh n
  let many := decide (l.length ≥ 3)
  let med := medianOf l
  let s := if many then
      l.foldl (fun s x =>
        let a := s.peCh n
        let b := judgeTemp tol (x.v - med) x.src a
        let s := s.setPeCh n b
        if b.suspect.has x.src && !a.suspect.has x.src then raise .pe 0 0 1 [(n : Nat), (x.src : Nat), ratRound (x.v - med)] s
        else if a.suspect.has x.src && !b.suspect.has x.src then raise .pe 0 1 0 [(n : Nat), (x.src : Nat)] s
        else s) s
    else s
  let q := if many then s.peCh n else p
  let outl := fun (x : Cand) => many && decide (apart x.v med > tol)
  let rest := l.filter fun x => !outl x && !q.suspect.has x.src
  let sus := l.any outl
  let agree := rest.filter fun x => rest.any fun y => y.src != x.src && decide (apart x.v y.v ≤ tol)
  let f : Option Fused :=
    if !agree.isEmpty then some { level := 0, v := weighted rest, c := agreeConf agree }
    else match rest with
      | [] => none
      | [x] => some { level := 1, v := ratRound x.v, c := 3 * x.c / 4 }
      | _ => some { level := 1, v := weighted rest, c := minConf rest / 2, suspect := true }
  (s, f, sus)

/-- First OCV point not above its predecessor (R611). -/
def ocvBadAt (l : List Int) : Option Nat :=
  (List.range' 1 40).find? fun k => decide (l.getD k 0 ≤ l.getD (k - 1) 0)

/-- OCV_SOC of a voltage (R611).  [DEDUCED, unsafe: log 147] -/
def ocvSoc (l : List Int) (v : Int) : Int :=
  if v < l.getD 0 0 then 0
  else if v ≥ l.getD 40 0 then 10000
  else
    match (List.range 40).find? fun k => decide (l.getD k 0 ≤ v) && decide (v < l.getD (k + 1) 0) with
    | some k => 250 * k + 250 * (v - l.getD k 0) / (l.getD (k + 1) 0 - l.getD k 0)
    | none => 0

/-- MOTION_CONF and motion gating (R614, R615); encoder speeds are in counts per second. -/
def motionOf (e : PeEpoch) (enc acc : List PeInput) : Nat × Bool :=
  let sp := fld e.motion 0 16
  let am := fld e.motion 16 16
  let em := sp != 0 && enc.any fun i => decide (i.v.natAbs > sp * 1000)
  let aa := am != 0 && acc.any fun i => decide (i.v.natAbs > am)
  (match enc.isEmpty, acc.isEmpty with
   | true, true => 0
   | false, false => if em == aa then 255 else 64
   | _, _ => 128, em || aa)

/-- The CAN frames of an epoch leave the latest temperatures that each word of a filter's frames gives (R601).
[DEDUCED, unsafe: log 155] -/
def canLatest (l : List PeInput) (t : Tab (Nat × Int)) : Tab (Nat × Int) :=
  (l.filter fun i => i.src == 3).foldl (fun t i =>
    (List.range (min 16 (i.data.length / 2))).foldl (fun t w =>
      t.put (i.box * 16 + w) (i.stamp, signed 16 (leAt i.data (2 * w) 2))) t) t

/-- Everything a print of channel `g.ch` reports. -/
structure PrintVals where
  v       : Fused
  i       : Fused
  t       : Fused
  soc     : Fused
  contact : Fused
  ocvSoc  : Int
  flags   : Nat
  motion  : Nat
  missing : Nat
  level   : Nat
  deriving DecidableEq, Repr

/-- Form channel `g.ch`'s print of epoch `e` from its inputs (R599–R615), updating what the print engine keeps of the channel.
[DEDUCED, unsafe: log 145; DEDUCED, unsafe: log 147; DEDUCED, unsafe: log 149; DEDUCED, unsafe: log 150] -/
def formPrint (e : PeEpoch) (g : PeLedger) (l : List PeInput) (s : State) : PrintVals × State :=
  let n := g.ch
  let on := fun k => bitOf e.config k
  -- sources
  let mi := if on 0 then ofSrc l 0 else []
  let pa := if on 2 && g.gang then ofSrc l 2 else []
  let fa := if on 1 then ofSrc l 1 else []
  let enc := if on 6 && bitOf g.map 17 then ofSrc l 6 else []
  let acc := if on 7 && bitOf g.map 14 then ofSrc l 7 else []
  let canOn := on 3 && bitOf g.map 31
  let can : Option Cand := match s.pe.canT.find ((fld g.map 30 1 * 32 + fld g.map 25 5) * 16 + fld g.map 20 5) with
    | some (t, v) => if canOn && decide (t ≤ e.endT) && decide (t + fld e.tol 16 16 * 1000000 ≥ e.endT) then some { src := 3, v := (v : Int), c := 200 } else none
    | none => none
  let full : Nat := if g.gang then 120000000 else 60000000
  let (motion, gated) := motionOf e enc acc
  -- current, voltage and temperature
  let iNow := fuse (miCand 0 mi (·.i)) none (if fa.isEmpty then none else some { src := 1, v := meanOf (fa.map (·.i)), c := 96 })
    0 (full * 3 / 100)
  let vNow := fuse (miCand 0 mi (·.v)) (miCand 2 pa (·.v))
    (if fa.isEmpty then none else some { src := 1, v := meanOf (fa.map (·.v)), c := 96 }) 1000 10000
  let hasT := fun (x : PeInput) => x.t != -32768
  let temps := (miCand 0 (mi.filter hasT) (·.t)).toList ++ (miCand 2 (pa.filter hasT) (·.t)).toList ++ can.toList
  let (s, tNow, outl) := fuseTemp n (fld e.tol 0 16) temps s
  let p := s.peCh n
  -- settled rest (R609)
  let quiet := !gated && match iNow with
    | some f => decide (f.v.natAbs ≤ fld e.dispute 14 6 * 10000)
    | none => false
  let rest := if quiet then p.rest + (e.endT - e.start) else 0
  let settled := decide (rest ≥ fld e.dispute 20 12 * 1000000000)
  -- state of charge (R602, R608, R610–R612)
  let ocvOn := on 4 && settled
  let ocv : Option Int := if ocvOn && (ocvBadAt e.ocv).isNone then vNow.map fun f => ocvSoc e.ocv f.v else none
  let q0 := match g.anchor with | some v => (g.expo - v).natAbs | none => p.q + (g.expo - p.base).natAbs
  let led := on 5 && decide (g.cap ≠ 0)
  let soc : Int := if g.cap = 0 then 0 else max 0 (min 10000 (10000 * g.expo / (g.cap * 1000000 : Nat)))
  let near := match ocv with | some o => decide ((soc - o).natAbs ≤ fld e.dispute 0 14) | none => false
  let q := if led && near then 0 else q0
  let runDis := if led && ocv.isSome && !near then min 17 (p.runDis + 1) else 0
  let was := p.dispute && !g.cleared
  let dispute := was || runDis == 16 || g.overrun.isSome
  let base := min (if dispute then 64 else 255) (255 - min 255 ((16 * q + g.cap * 1000000 - 1) / max 1 (g.cap * 1000000)))
  let socNow : Option Fused := if led then
      match ocv with
      | none => some { level := 1, v := soc, c := 3 * base / 4 }
      | some _ => if near then some { level := 0, v := soc, c := base } else some { level := 1, v := soc, c := base / 2, suspect := true }
    else none
  -- contact resistance (R613)
  let cNow : Option Fused := match vNow, iNow, g.stage with
    | some v, some i, some st =>
      if !gated && decide (i.v.natAbs ≥ 2000000) then
        some { level := max v.level i.level,
               v := max 0 (min 0xFFFFFFFE (ratRound (1000000 * (st - v.v) / (i.v : Rat)) - (e.path : Int))),
               c := if v.level = 0 ∧ i.level = 0 then 160 else 80 }
      else none
    | _, _, _ => none
  -- holds and sentinels (R604–R606)
  let (hv, v) := holdRule p.v vNow (-2147483648)
  let (hi, i) := holdRule p.i iNow (-2147483648)
  let (ht, t) := holdRule p.t tNow (-32768)
  let (hs, sc) := holdRule p.soc socNow 0xFFFF
  let (hc, ct) := holdRule p.contact cNow 0xFFFFFFFF
  let mask := bitOf e.config 8
  let level := max (max v.level i.level) (max t.level sc.level)
  let v' := report mask (-2147483648) v
  let i' := report mask (-2147483648) i
  let t' := report mask (-32768) t
  let sc' := report mask 0xFFFF sc
  let ct' := report mask 0xFFFFFFFF ct
  let gone := fun (f : Fused) => decide (f.level = 4) || (mask && decide (f.level ≥ 2))
  let masked := gone v || gone i || gone t || gone sc
  let sus := outl || v.suspect || i.suspect || t.suspect || sc.suspect
  let flags := b2n dispute + 2 * b2n masked + 4 * b2n (decide (level ≥ 2)) + 8 * b2n gated + 16 * b2n sus
  let miss := fun (k : Nat) (applies used : Bool) => if on k && applies && !used then 2 ^ k else 0
  let susT := fun k => p.suspect.has k
  let missing := miss 0 true (!mi.isEmpty && !susT 0) + miss 1 true (!fa.isEmpty) + miss 2 g.gang (!pa.isEmpty && !susT 2) +
    miss 3 (bitOf g.map 31) (can.isSome && !susT 3) + miss 4 settled ocv.isSome + miss 5 true led +
    miss 6 (bitOf g.map 17) (!enc.isEmpty) + miss 7 (bitOf g.map 14) (!acc.isEmpty)
  let s := s.setPeCh n { p with v := hv, i := hi, t := ht, soc := hs, contact := hc, rest, q, base := g.expo, dispute, runDis }
  let s := if dispute && !was then
      raise .pe 0 2 1 (match g.overrun with
        | some o => [(n : Nat), 2, o]
        | none => [(n : Nat), 1, soc - ocv.getD 0]) s
    else s
  ({ v := v', i := i', t := t', soc := { sc' with c := if dispute then min 64 sc'.c else sc'.c }, contact := ct',
     ocvSoc := ocv.getD 0xFFFF, flags, motion, missing, level }, s)

/-- The record of a print (R302). -/
def printRec (e : PeEpoch) (g : PeLedger) (x : PrintVals) : Rec :=
  let w16 := fun (a b : Int) => w32 (unsigned 16 a + 65536 * unsigned 16 b)
  let w8 := fun (a b c d : Nat) => w32 (a % 256 + 256 * (b % 256) + 65536 * (c % 256) + 16777216 * (d % 256))
  { kind := 2, src := g.ch, time := e.endT, stream := g.stream, gen := g.gen, seq := 0,
    body := [wInt g.expo, wInt (g.expo / 2 ^ 32), wInt x.v.v, wInt x.i.v, w32 e.no, w32 (unsigned 32 x.contact.v),
             w16 x.t.v x.soc.v, w16 x.ocvSoc (x.flags : Nat), w8 x.v.c x.i.c x.t.c x.soc.c, w8 x.contact.c x.motion x.missing x.level] }

/-! ### Grading (R616–R624) -/

/-- What a print adds to the confidences of a run's metrics (R619, R620). -/
def fxPrint (e : PeEpoch) (g : PeLedger) (x : PrintVals) (r : FxRun) : FxRun :=
  let inside := fun t => decide (e.start < t) && decide (t ≤ e.endT)
  let touch := fun (f : FxSample) => if inside f.t then { f with conf := min f.conf x.v.c } else f
  { r with
    dispute := r.dispute || (x.flags % 2 == 1 && r.gen == g.gen),
    stepConf := if r.stepAt < e.endT then min r.stepConf x.i.c else r.stepConf,
    capConf := if r.disAt.any (fun a => decide (a.1 < e.endT) && decide (e.start < a.2)) then min r.capConf x.i.c else r.capConf,
    disAt := r.disAt.filter fun a => decide (a.2 > e.endT),
    waits := r.waits.map fun w => if inside w.t then { w with conf := min w.conf (min x.v.c x.i.c) } else w,
    meas := r.meas.map fun m => if inside m.t1 || inside m.t2 then { m with conf := min m.conf (min x.v.c x.i.c) } else m,
    ocv := r.ocv.map touch, restLast := r.restLast.map touch, restMin := r.restMin.map touch,
    sd := r.sd.map fun d => (d.1, touch d.2.1, touch d.2.2) }

/-- The metrics of a run that ended (R617, R619).  [DEDUCED, unsafe: log 153; DEDUCED, unsafe: log 154] -/
def gradeOf (r : FxRun) : Grade :=
  { gen := r.gen, cap := if r.nDis = 0 then none else some r.cap, energy := if r.nDis = 0 then none else some r.energy,
    dcir := if r.meas.isEmpty then none else some (ratRound (meanOf (r.meas.map (·.val)))),
    ocv := r.ocv.map (·.v), sd := r.sd.map (·.1),
    capConf := r.capConf, dcirConf := r.meas.foldl (fun a m => min a m.conf) 255,
    ocvConf := match r.ocv with | some x => x.conf | none => 255,
    sdConf := match r.sd with | some (_, a, b) => min a.conf b.conf | none => 255,
    dispute := r.dispute, early := r.why != .halt, seq := 0xFFFF }

/-- An entry of the bracketing table is valid (R621, R622). -/
def entryOk (d : List Byte) : Bool :=
  decide (leAt d 0 1 ≤ 6) && decide (leAt d 1 1 ≤ 15) && decide (leAt d 2 1 ≤ 1) && leAt d 6 2 == 0 && leAt d 0x18 8 == 0 &&
    decide (signed 64 (leAt d 8 8) ≤ signed 64 (leAt d 0x10 8))

/-- The metric an entry names, with its confidence; `none` for ALWAYS and FLAGS. -/
def Grade.metric (g : Grade) (k : Nat) : Option (Option Int × Nat) :=
  match k with
  | 1 => some (g.cap, g.capConf)
  | 2 => some (g.energy, g.capConf)
  | 3 => some (g.dcir, g.dcirConf)
  | 4 => some (g.ocv, g.ocvConf)
  | 5 => some (g.sd, g.sdConf)
  | _ => none

/-- An entry holds for a grade with these FLAGS (R622). -/
def entryHolds (g : Grade) (flags : Nat) (d : List Byte) : Bool :=
  let neg := leAt d 2 1 % 2 == 1
  entryOk d &&
    match leAt d 0 1 with
    | 0 => !neg
    | 6 => (Nat.land flags (leAt d 4 2) != 0) != neg
    | k =>
      match g.metric k with
      | some (some v, c) =>
        (decide (signed 64 (leAt d 8 8) ≤ v) && decide (v ≤ signed 64 (leAt d 0x10 8)) && decide (c ≥ leAt d 3 1)) != neg
      | _ => false

/-- A valid FLAGS entry names grade flag `bit`. -/
def namesFlag (table : List (List Byte)) (bit : Nat) : Bool :=
  table.any fun d => entryOk d && leAt d 0 1 == 6 && decide (leAt d 4 2 / 2 ^ bit % 2 = 1)

/-- INCOMPLETE of a run's grade (R620). -/
def incomplete (g : Grade) (table : List (List Byte)) : Bool :=
  g.early || table.any fun d => entryOk d && match g.metric (leAt d 0 1) with | some (none, _) => true | _ => false

/-- The lowest confidence of the metrics that entries name (R619).  [DEDUCED, unsafe: log 153] -/
def confOf (g : Grade) (l : List (List Byte)) : Nat :=
  l.foldl (fun a d => match g.metric (leAt d 0 1) with | some (_, c) => min a c | none => a) 255

/-- BIN, RULE and CONF (R619, R623). -/
def decideBin (g : Grade) (flags : Nat) (table : List (List Byte)) : Nat × Nat × Nat :=
  if (flags / 2 % 2 = 1 ∧ !namesFlag table 1) ∨ (flags / 4 % 2 = 1 ∧ !namesFlag table 2) then (15, 0xFF, 255)
  else
    match (List.range table.length).find? fun k => entryHolds g flags (table.getD k []) with
    | some k => (leAt (table.getD k []) 1 1, k, confOf g (table.take (k + 1)))
    | none => (15, 0xFF, confOf g table)

/-- SRC_SEQ that a grade of channel `n` made now takes at its commit (R299).  [DEDUCED, unsafe: log 151] -/
def gradeSeq (s : State) (n : Nat) : Nat :=
  (s.sp.srcSeq.get (n * 8 + 4) 0 + (s.sp.making.filter fun m => m.2.kind == 4 && m.2.src == n).length) % 65536

/-- Commit a grade of channel `n` (R306, R616, R623): `ref` is the SRC_SEQ of the grade it corrects.
[DEDUCED, unsafe: log 151] -/
def commitGrade (n : Nat) (g : Grade) (ref : Option Nat) (s : State) : State :=
  let table := s.fx.table.getD []
  let flags := b2n ref.isSome + 2 * b2n g.dispute + 4 * b2n g.early
  let (bin, rule, conf) := decideBin g flags table
  let seq := gradeSeq s n
  let w := fun (v : Option Int) (absent : Int) => let x := v.getD absent; [wInt x, wInt (x / 2 ^ 32)]
  let body := w g.cap (-(2 ^ 63)) ++ w g.energy (-(2 ^ 63)) ++
    [wInt (g.dcir.getD 0xFFFFFFFF), wInt (g.ocv.getD (-2147483648)), wInt (g.sd.getD (-2147483648)), w32 (flags * 65536),
     w32 (bin + rule * 256 + conf * 65536), w32 (ref.getD 0 + 65536 * (if ref.isSome then 4 else 0))]
  let s := pushRec prodFx { mkRec s prodFx 4 n (hubTime s) body with gen := g.gen } s
  let s := bump 0x4901C { s with fx := { s.fx with grade := s.fx.grade.put n { g with seq }, last := seq } }
  if bin = 15 ∧ rule = 0xFF then raise .fx 0 2 1 [(n : Nat), (flags : Nat)] s else s

/-- Grade the runs that ended in an epoch up to `endT` (R616). -/
def gradeRuns (endT : Nat) (s : State) : State :=
  let due := s.fx.ended.filter fun x => decide (x.2.endAt ≤ endT)
  let s := { s with fx := { s.fx with ended := s.fx.ended.filter fun x => !decide (x.2.endAt ≤ endT) } }
  due.foldl (fun s x =>
    let g := gradeOf x.2
    commitGrade x.1 { g with early := incomplete g (s.fx.table.getD []) } none s) s

/-- A write of 1 to FX_REGRADE.GO (R624); one for an absent channel has no effect (R19).  [DEDUCED, unsafe: log 151] -/
def regrade (n : Nat) (s : State) : State :=
  if !s.present n then s else
  match s.fx.grade.find n with
  | some g => commitGrade n g (some g.seq) s
  | none => raise .fx 0 3 1 [(n : Nat)] s

/-- A bracketing table comes into force (R621, R622). -/
def loadTable (entries : List (List Byte)) (crc : Word) (s : State) : State :=
  let bad := fun (a : Nat) => (List.range 32).foldl (fun (m : Nat) k =>
    if a + k < entries.length ∧ !entryOk (entries.getD (a + k) []) then m + 2 ^ k else m) 0
  let s := { s with fx := { s.fx with table := some entries, crc } }
  let s := raise .fx 0 0 0 [(entries.length : Nat), (crc.toNat : Nat)] s
  if bad 0 ≠ 0 ∨ bad 32 ≠ 0 then raise .fx 0 1 1 [(bad 0 : Nat), (bad 32 : Nat)] s else s

/-! ### Emission (R593, R597) -/

/-- One channel's print is formed and committed; its FLAGS and T_CELL reach the CI, and the print the fixer. -/
def emitOne (e : PeEpoch) (l : List PeInput) (g : PeLedger) (s : State) : State :=
  let (x, s) := formPrint e g (l.filter fun i => i.ch == g.ch) s
  let s := pushRec prodPe (printRec e g x) s
  let c := s.ch g.ch
  let s := offerOpen 9 (ciDom g.ch) s
  let s := if s.isOn (ciDom g.ch) then s.setCh g.ch { c with print := some (x.flags, x.t.v), freshPrint := true } else s
  let s := offerOpen 9 10 s
  if s.isOn 10 then
    { s with fx := { s.fx with runs := s.fx.runs.map fun r => if r.1 = g.ch then (r.1, fxPrint e g x r.2) else r
                               ended := s.fx.ended.map fun r => if r.1 = g.ch then (r.1, fxPrint e g x r.2) else r } }
  else s

/-- What an epoch without a print leaves of channel `g.ch`: it is no settled rest, a START or PRESET_EXPOSURE ends DISPUTE,
and its exposure counts since the latest anchor (R609, R610, R612, R628).  [DEDUCED, unsafe: log 147] -/
def quietEpoch (g : PeLedger) (s : State) : State :=
  let p := s.peCh g.ch
  s.setPeCh g.ch { p with
    rest := 0, runDis := 0, dispute := p.dispute && !g.cleared, base := g.expo,
    q := match g.anchor with | some v => (g.expo - v).natAbs | none => p.q + (g.expo - p.base).natAbs }

/-- The OCV table is judged in each epoch for which domain 9 was ON (R611).  [DEDUCED, unsafe: log 147] -/
def judgeOcv (e : PeEpoch) (s : State) : State :=
  if !e.on then s
  else match ocvBadAt e.ocv with
    | some k => if s.pe.ocvBad then s else raise .pe 0 3 1 [(k : Nat)] { s with pe := { s.pe with ocvBad := true } }
    | none => { s with pe := { s.pe with ocvBad := false } }

/-- PRINT_EMIT: the prints and then the grades of the oldest epoch not yet printed, at its E (R593, R616, R626, R627).
[DEDUCED, unsafe: log 144] -/
def printEmit (s : State) : State :=
  match s.pe.epochs with
  | [] => s
  | e :: rest =>
    let s := advanceTo (e.endT + fld e.config 16 10 * 1000) s
    let inside := fun (i : PeInput) => decide (e.start < i.stamp) && decide (i.stamp ≤ e.endT)
    let l := s.pe.kept.filter inside
    let s := judgeOcv e { s with pe := { s.pe with canT := canLatest l s.pe.canT } }
    let s := e.others.foldl (fun s g => quietEpoch g s) s
    let s := e.ganged.foldl (fun s n =>
      s.setPeCh n { s.peCh n with v := none, i := none, t := none, soc := none, contact := none, rest := 0, out := [], near := [],
                                  suspect := [] }) s
    let s := e.chans.foldl (fun s g => emitOne e l g s) s
    let s := { s with pe := { s.pe with epochs := rest, past := (e.start, e.endT, e.no) :: s.pe.past.take 15, printed := max s.pe.printed e.endT,
                                        kept := s.pe.kept.filter fun i => decide (i.stamp > e.endT),
                                        lastNo := if e.chans.isEmpty then s.pe.lastNo else e.no } }
    gradeRuns e.endT s

def execPrintEmit (s : State) : Out := .next (mainOn s (printEmit s))

/-! ### Status registers -/

/-- PE_STATUS (R634).  [DEDUCED, unsafe: log 152] -/
def peStatus (s : State) : Nat :=
  at_ 16 16 s.pe.lastNo + at_ 2 1 (b2n s.pe.ocvBad) + at_ 1 1 (b2n (s.pe.ch.any fun p => !p.2.suspect.isEmpty)) +
    at_ 0 1 (b2n (!s.pe.epochs.isEmpty))

/-- FX_STATUS (R634). -/
def fxStatus (s : State) : Nat := at_ 8 8 ((s.fx.table.getD []).length) + at_ 0 1 (b2n s.fx.table.isSome)

end Sys2Proof.Machine
end

