-- ==== Sys2Proof/Machine/Encoders.lean ====
section
/-!
DEFINITION. Machine/Encoders.lean: the encoder interfaces and the sensor port (chapter 20).  Commands that fall in one filter clock
act in the order of R765.
-/
namespace Sys2Proof.Machine

def State.enc (s : State) (n : Nat) : Encoder := s.en.en.get n {}
def State.setEnc (s : State) (n : Nat) (e : Encoder) : State := { s with en := { s.en with en := s.en.en.put n e } }
def State.setSn (s : State) (x : SensorPort) : State := { s with en := { s.en with sn := x } }

def enKey (n off : Nat) : Nat := 0x4D000 + 0x400 * n + off
def enConfig (s : State) (n : Nat) : Word := s.wr (enKey n 0) 0x00140100
def enSerial (s : State) (n : Nat) : Word := s.wr (enKey n 4) 0x04193219

/-- The encoder exists and its domain is ON. -/
def enOn (s : State) (n : Nat) : Bool := decide (n < 4) && s.isOn 14

/-! ### Capture (R752–R754) -/

/-- A capture ends: EN_CAPTURE and ENC_CAPTURE. -/
def capEnd (n t0 : Nat) (c0 : Int) (s : State) : State :=
  let e := s.enc n
  let d := (s.tk.now - t0) / 5
  let co := t0 / 5 == s.tk.now / 5
  let d := if co then 0 else d
  raiseTimed .en n 0x20 0 [(min d 0xFFFFFFFF : Nat), c0, e.count, (b2n co : Nat)] t0
    (s.setEnc n { e with started := none, stopAt := none, capture := min d 0xFFFFFFFF, coincident := co })

/-- Capture event `k` of R752 occurs at encoder `n`. -/
def capEvent (n k : Nat) (s : State) : State :=
  let cfg := enConfig s n
  if bitOf cfg 3 then
    let start := decide (fld cfg 26 2 = k)
    let stop := decide (fld cfg 24 2 = k)
    let e := s.enc n
    let clock := s.tk.now / 5
    let (e, began) := if start && e.started.isNone then ({ e with started := some (s.tk.now, e.count) }, true) else (e, false)
    let s := s.setEnc n e
    match e.started with
    | some (t0, c0) =>
      if stop then capEnd n t0 c0 s
      else if began && e.stopAt.map (· / 5) == some clock then capEnd n t0 c0 s
      else s
    | none => if stop then s.setEnc n { e with stopAt := some s.tk.now } else s
  else s

/-- The counter takes a new value: captures on LIMIT_LO and LIMIT_HI see it (R752). -/
def setCount (n : Nat) (v : Int) (s : State) : State :=
  let e := s.enc n
  let s := s.setEnc n { e with count := v }
  if v = e.count then s
  else
    let s := if v = e.lo then capEvent n 2 s else s
    if v = e.hi then capEvent n 3 s else s

/-! ### Incremental counting (R743–R751) -/

/-- The direction of a change of the accepted levels: +1 where A leads B, −1 where B leads A, 0 where none or both changed. -/
def quadDir (a b a' b' : Bool) : Int :=
  if a != a' && b != b' then 0
  else if a != a' then (if a' != b then 1 else -1)
  else if b != b' then (if b' == a then 1 else -1)
  else 0

/-- One count in direction `d` (R746). -/
def countOne (n : Nat) (d : Int) (s : State) : State :=
  let e := s.enc n
  let v := e.count + d
  if e.mode = 1 then
    let v := max e.lo (min e.hi v)
    let s' := setCount n v s
    if v ≠ e.count ∧ (v = e.lo ∨ v = e.hi) then raise .en n 1 1 [if v = e.lo then 0 else 1] s' else s'
  else
    let w := signed 32 (unsigned 32 v)
    let s' := setCount n w s
    if w ≠ v then raise .en n 0 0 [if d > 0 then 0 else 1] s' else s'

/-- An accepted level of A or B changes: `a` and `b` are the levels after it (R743, R744, R749).  [DEDUCED, unsafe: log 156] -/
def quadratureEdge (n : Nat) (a b : Bool) (s : State) : State :=
  let e := s.enc n
  if enOn s n ∧ (e.mode = 1 ∨ e.mode = 2) then
    let d := quadDir e.a e.b a b
    let both := e.a != a && e.b != b
    let s := s.setEnc n { e with a, b }
    if e.fault % 4 ≠ 0 then s
    else if both then
      let s := bump (enKey n 0x18) s
      raise .en n 3 1 [e.count] (s.setEnc n { s.enc n with fresh := true, used := none })
    else if d = 0 then s
    else
      let s := countOne n d s
      let e' := s.enc n
      let turned := e.dir != 0 && e.dir != d
      let e' := { e' with dir := d, edgeAt := some s.tk.now }
      let p := some (e'.count, s.tk.now)
      s.setEnc n (if turned then { e' with fresh := true, used := none }
        else if e'.fresh then { e' with fresh := false, ref := p, used := none }
        else { e' with used := p })
  else if enOn s n then s.setEnc n { e with a, b }
  else s

/-- The filter clock of this instant, and the first instant of the next one (R743, R765). -/
def filterClock (s : State) : Nat := s.tk.now / 5
def nextClock (s : State) : State := advance (5 - s.tk.now % 5) s

/-- A level that has been stable for `held` filter clocks is accepted (R743). -/
def accepted (s : State) (n held : Nat) : Bool := decide ((s.enc n).filterN ≤ held)

/-- INDEX: a rising edge of Z, whose level has been stable for `held` filter clocks (R743, R747, R752).
[DEDUCED, unsafe: log 156] -/
def indexEdge (n held : Nat) (s : State) : State :=
  let e := s.enc n
  if enOn s n ∧ (e.mode = 1 ∨ e.mode = 2) ∧ e.fault / 4 % 2 = 0 ∧ accepted s n held then
    capEvent n 0 (raise .en n 2 0 [e.count] (s.setEnc n { e with index := e.count, zAt := some (filterClock s) }))
  else s

def execIndex (n held : Nat) (s : State) : Out := .next (mainOn s (indexEdge n held s))

/-- Z_FALLING_EDGE: the level has been stable for `held` filter clocks (R743, R752). -/
def zFalling (n held : Nat) (s : State) : State :=
  let e := s.enc n
  if enOn s n ∧ (e.mode = 1 ∨ e.mode = 2) ∧ e.fault / 4 % 2 = 0 ∧ accepted s n held then
    capEvent n 1 (s.setEnc n { e with zAt := some (filterClock s) })
  else s

def execZFallingEdge (n held : Nat) (s : State) : Out := .next (mainOn s (zFalling n held s))

/-- Counts per second of a change of count over a time in ns, in the field's range. -/
def perSecond (d : Int) (ns : Nat) : Int := if ns = 0 then 0 else satInt 32 (divRound (d * 1000000000) (ns : Nat))

/-- The speed an encoder latches at Jikan time `t` (R750, R751, R758, R768).  [DEDUCED, unsafe: log 157] -/
def speedNow (s : State) (n t : Nat) : Int :=
  let e := s.enc n
  if e.mode = 3 ∨ e.mode = 4 then
    if e.fault % 2 ≠ 0 then 0
    else match e.pair with | some (d, ns) => perSecond d ns | none => e.speed
  else if e.mode = 0 ∨ e.fault % 4 ≠ 0 then 0
  else
    let still := fld (enConfig s n) 16 8 * 1000000
    match e.edgeAt with
    | none => 0
    | some te =>
      if t ≥ te + still then 0
      else
        match e.ref, e.used with
        | some (c0, t0), some (c1, t1) => perSecond (signed 32 (unsigned 32 (c1 - c0))) (t1 - t0)
        | _, _ =>
          let x := perSecond e.dir (t - te)
          max (-(e.speed.natAbs : Int)) (min (e.speed.natAbs : Int) x)

/-- The encoder latches its speed at the next latch instant, and it goes to the print engine for the channels that name it (R749–R751). -/
def takeLatch (n : Nat) (s : State) : State :=
  if enOn s n then
    let t := boundary 250000 (s.enc n).latchAt s.tk.now
    let s := advanceTo t s
    let e := s.enc n
    let v := speedNow s n t
    let s := s.setEnc n { e with speed := v, latchAt := t, latchEarly := false, ref := if e.used.isSome then e.used else e.ref, used := none }
    if e.mode = 0 then s
    else
      (s.channelList.filter fun c => bitOf (peMap s c t) 17 && fld (peMap s c t) 15 2 == n).foldl
        (fun s c => toPe 14 { src := 6, ch := c, stamp := t, v, usable := !e.stale } s) s
  else s

/-- SPEED_LATCH, unless an edge of this instant has brought it about (R765).
[DEDUCED, unsafe: log 156; DESIGN CHOICE, unsafe: log 221] -/
def speedLatch (n : Nat) (s : State) : State :=
  let e := s.enc n
  if e.latchEarly && e.latchAt == s.tk.now then s.setEnc n { e with latchEarly := false } else takeLatch n s

def execSpeedLatch (n : Nat) (s : State) : Out := .next (mainOn s (speedLatch n s))

/-- A latch that falls in the filter clock of an edge comes first: the edge belongs to the latch that follows (R765).
[DESIGN CHOICE, unsafe: log 221] -/
def latchFirst (n : Nat) (s : State) : State :=
  if enOn s n && s.tk.now % 250000 == 0 && decide ((s.enc n).latchAt < s.tk.now) then
    let s := takeLatch n s
    s.setEnc n { s.enc n with latchEarly := true }
  else s

/-- QUADRATURE_EDGE: the levels `a` and `b` have been stable for `held` filter clocks (R743, R765).
[DESIGN CHOICE, unsafe: log 221] -/
def abEdge (n : Nat) (a b : Bool) (held : Nat) (s : State) : State :=
  if enOn s n ∧ accepted s n held then
    let s := latchFirst n s
    let s := if (s.enc n).zAt = some (filterClock s) then nextClock s else s
    quadratureEdge n a b (s.setEnc n { s.enc n with abAt := some (filterClock s) })
  else s

def execQuadratureEdge (n : Nat) (a b : Bool) (held : Nat) (s : State) : Out := .next (mainOn s (abEdge n a b held s))

/-! ### Serial encoders (R755–R758) -/

/-- Gray code to binary, for the low `k` bits; `above` is the binary bit just above them. -/
def grayToBin : Nat → Nat → Nat → Nat
  | 0, _, _ => 0
  | k + 1, above, g =>
    let b := (g / 2 ^ k + above) % 2
    b * 2 ^ k + grayToBin k b g

/-- The six check bits of the BiSS-C frame over `k` remaining bits of `v`, most significant first (R757). -/
def bissCrc : Nat → Nat → Nat → Nat
  | 0, _, c => c
  | k + 1, v, c =>
    let b := v / 2 ^ k % 2
    let fb := (c / 32 + b) % 2
    bissCrc k v (Nat.xor (c * 2 % 64) (fb * 3))

/-- Why a serial frame fails, as FRAME_ERR's ARG0, under the settings `cfg` of EN_SERIAL: the line is not high again within MONO µs (R756),
or the start bit takes more than 64 clock periods of CLK_DIV × 10 ns (R755, R757). -/
def frameFault (mode : Nat) (cfg : Word) (f : FrameIn) : Option Nat :=
  let bits := fld cfg 0 6
  if mode = 3 then
    if !f.ready then some 1 else if !f.low || decide (fld cfg 24 4 * 1000 < f.highNs) then some 2 else none
  else
    if 64 * fld cfg 8 8 * 10 < f.startNs then some 3
    else
      let word := f.data % 2 ^ bits * 4 + 2 * b2n f.nE + b2n f.nW
      if Nat.xor (bissCrc (bits + 2) word 0) 63 = f.crc % 64 then none else some 4

/-- The change between two positions modulo 2^`bits`, in the range ±2^(bits−1) (R758). -/
def serialChange (bits p q : Nat) : Int := signed bits (p + 2 ^ bits - q % 2 ^ bits)

/-- SERIAL_FRAME (R755–R758, R769).  [DEDUCED, unsafe: log 157] -/
def serialFrame (n : Nat) (f : FrameIn) (s : State) : State :=
  let e := s.enc n
  if enOn s n ∧ (e.mode = 3 ∨ e.mode = 4) then
    let cfg := enSerial s n
    let bits := fld cfg 0 6
    let t := boundary (max 1 (fld cfg 16 8) * 10000) e.frameAt s.tk.now
    let s := advanceTo t s
    let e := { e with frameAt := t }
    let s := if e.mode = 4 then send (.encClock n (10 * fld cfg 8 8) none) s
      else if f.ready then send (.encClock n (10 * fld cfg 8 8) (some (bits + 1))) s else s
    match frameFault e.mode cfg f with
    | some k =>
      let fails := min 8 (e.fails + 1)
      let now := decide (fails = 8) && !e.stale
      let s := bump (enKey n 0x18) (s.setEnc n { e with fails, stale := e.stale || fails == 8 })
      let s := raise .en n 4 1 [(k : Nat)] s
      if now then raise .en n 8 1 [] s else s
    | none =>
      let raw := f.data % 2 ^ bits
      let p := if e.mode = 3 ∧ bitOf cfg 6 then grayToBin bits 0 raw else raw
      let pair : Option (Int × Nat) := match e.pos with
        | some (q, tq) => some (serialChange bits p q, t - tq)
        | none => none
      let turn := (pair.map (·.1.sign)).getD 0
      let e := { e with pos := some (p, t), pair := if turn * e.dir < 0 then none else pair, dir := if turn = 0 then e.dir else turn, fails := 0, stale := e.fault % 2 != 0 }
      let s := setCount n (signed 32 p) (s.setEnc n e)
      let s := if e.mode = 4 && !f.nE then raise .en n 5 2 [(p : Nat)] s else s
      if e.mode = 4 && !f.nW then raise .en n 6 1 [(p : Nat)] s else s
  else s

def execSerialFrame (n : Nat) (f : FrameIn) (s : State) : Out := .next (mainOn s (serialFrame n f s))

/-! ### Line faults (R768, R769) -/

/-- The lines an encoder uses, as bits 0 A, 1 B, 2 Z. -/
def usedLines (mode : Nat) : Nat := match mode with | 0 => 0 | 1 => 7 | 2 => 7 | _ => 1

/-- LINE_FAULT: line `l` (0 A, 1 B, 2 Z) has been below 200 mV for 1 µs. -/
def lineFault (n l : Nat) (s : State) : State :=
  let e := s.enc n
  if enOn s n ∧ l < 3 ∧ e.fault / 2 ^ l % 2 = 0 then
    let fault := e.fault + 2 ^ l
    let now := decide (Nat.land fault (usedLines e.mode) ≠ 0)
    let quad := decide (e.mode = 1 ∨ e.mode = 2) && decide (l < 2)
    let s := s.setEnc n { e with fault, stale := e.stale || now, fresh := e.fresh || quad, used := if quad then none else e.used,
                                 speed := if l < 2 then 0 else e.speed }
    let s := raise .en n 7 2 [(l : Nat)] s
    if now && !e.stale then raise .en n 8 1 [] s else s
  else s

def execLineFault (n l : Nat) (s : State) : Out := .next (mainOn s (lineFault n l s))

/-- LINE_FAULT_END: line `l` has been above 200 mV for 1 µs. -/
def lineFaultEnd (n l : Nat) (s : State) : State :=
  let e := s.enc n
  if enOn s n ∧ l < 3 ∧ e.fault / 2 ^ l % 2 = 1 then
    let fault := e.fault - 2 ^ l
    s.setEnc n { e with fault, stale := decide (Nat.land fault (usedLines e.mode) ≠ 0) || e.fails == 8 }
  else s

def execLineFaultEnd (n l : Nat) (s : State) : Out := .next (mainOn s (lineFaultEnd n l s))

/-! ### ENC_SET (R748, R767) -/

/-- The settings of ENC_SET act. -/
def encSetActs (n : Nat) (d : List Byte) (s : State) : State :=
  let e := s.enc n
  let mode := dU8 d 0x10
  let e := { e with mode, filterN := dU8 d 0x11, lo := dS32 d 0x14, hi := dS32 d 0x18 }
  let e := if mode = (s.enc n).mode then e
    else { e with started := none, stopAt := none, pos := none, pair := none, fails := 0, fresh := true, used := none, dir := 0,
                  edgeAt := none, stale := Nat.land e.fault (usedLines mode) != 0 }
  let s := if e.stale && !(s.enc n).stale then raise .en n 8 1 [] (s.setEnc n e) else s.setEnc n e
  let v := if dU8 d 0x20 % 2 = 1 then dS32 d 0x1C else e.count
  setCount n (if mode = 1 then max e.lo (min e.hi v) else v) s

/-- ENC_SET; after an edge of its own filter clock it acts in the next one (R765).
[DEDUCED, unsafe: log 75; DESIGN CHOICE, unsafe: log 221] -/
def encSet (r : Nat) (d : List Byte) (s : State) : State :=
  checked r d needNothing false (fun s =>
    let n := dTarget d
    let s := if (s.enc n).abAt = some (filterClock s) then nextClock s else s
    if s.isOn 14 then complete r .ok 0 0 (encSetActs n d s) else complete r .busy 0 4 s) s

def execEncSet (r : Nat) (s : State) : Out := .next (mainOn s (begin_ r 0x5A (encSet r) s))

/-! ### Sensor port (R759–R764) -/

/-- An entry's fields lie in their ranges and its reserved bits are zero (R760, R761). -/
def snEntryOk (d : List Byte) : Bool :=
  let u8 := dU8 d
  decide (u8 0 ≤ 3) && decide (u8 1 ≤ 1) && decide (4 ≤ u8 2) && decide (1 ≤ u8 3) && decide (u8 3 ≤ 8) &&
  decide (1 ≤ dU16 d 0xC) && decide (dU16 d 0xC ≤ 4000) && decide (u8 0xE ≤ 249) && decide (u8 0xF ≤ 7) && decide (u8 0x10 ≤ 63) &&
  decide (1 ≤ u8 0x11) && decide (u8 0x11 ≤ 32) && decide (u8 0x10 + u8 0x11 ≤ 8 * u8 3) && decide (u8 0x12 ≤ 31) && u8 0x13 == 0 &&
  (List.range' 0x16 10).all fun o => u8 o == 0

/-- The schedule is running (R764). -/
def snRuns (s : State) : Bool := s.isOn 14 && bitOf (s.wr 0x4E000 0) 0

/-- The first instant after `t` at which an entry falls due (R762). -/
def snNext (d : List Byte) (t : Nat) : Nat :=
  let p := max 1 (dU16 d 0xC) * 250000
  let o := dU8 d 0xE * 1000
  if t < o then o else ((t - o) / p + 1) * p + o

/-- Indices of the entries that run. -/
def snLive (s : State) : List Nat := (List.range s.en.sn.entries.length).filter fun k => decide (s.en.sn.valid / 2 ^ k % 2 = 1)

/-- The oldest waiting occurrence begins, where the port is free: CS# falls, and SCK and MOSI carry the entry's bytes (R759, R760, R762). -/
def snStart (s : State) : State :=
  let x := s.en.sn
  match x.busy, x.waiting, snRuns s with
  | none, k :: rest, true =>
    let d := x.entries.getD k []
    send (.sensor (dU8 d 0) (dU8 d 1 % 2 == 1) (10 * dU8 d 2) ((d.drop 4).take (dU8 d 3)))
      (s.setSn { x with waiting := rest, busy := some (k, d, max s.tk.now x.freeAt) })
  | _, _, _ => s

/-- SENSOR_POLL_DUE: the next instant at which entries fall due (R762). -/
def sensorPollDue (s : State) : State :=
  if snRuns s then
    let x := s.en.sn
    let next := (snLive s).foldl (fun (m : Option Nat) k =>
      let t := snNext (x.entries.getD k []) x.dueAt
      match m with | some u => some (min t u) | none => some t) none
    match next with
    | none => s
    | some t =>
      let s := advanceTo t s
      let due := (snLive s).filter fun k => snNext (x.entries.getD k []) x.dueAt == t
      let s := s.setSn { s.en.sn with dueAt := t }
      snStart (due.foldl (fun s k =>
        if s.en.sn.waiting.contains k then raise .sn 0 0 1 [(k : Nat)] s
        else s.setSn { s.en.sn with waiting := s.en.sn.waiting ++ [k] }) s)
  else s

def execSensorPollDue (s : State) : Out := .next (mainOn s (sensorPollDue s))

/-- The result of a transfer that received `rx` (R763). -/
def snResult (d rx : List Byte) : Int :=
  let f := dU8 d 0xF
  let r := if f / 2 % 2 = 1 then ofBytes rx else ofBytes rx.reverse
  let w := dU8 d 0x11
  let raw := r / 2 ^ dU8 d 0x10 % 2 ^ w
  let v : Int := if f % 2 = 1 then signed w raw else (raw : Int)
  satInt 32 (v * dS16 d 0x14 / 2 ^ dU8 d 0x12)

/-- SENSOR_TRANSFER_DONE: CS# rises with the bytes received (R759, R763). -/
def sensorTransferDone (rx : List Byte) (s : State) : State :=
  match s.en.sn.busy with
  | none => s
  | some (k, d, at0) =>
    if s.isOn 14 then
      let len := dU8 d 3
      let rx := (rx ++ List.replicate len 0).take len
      let s := advanceTo (at0 + (2 * 8 * len + 1) * dU8 d 2 * 5) s
      let v := snResult d rx
      let x := s.en.sn
      let s := s.setSn { x with busy := none, freeAt := s.tk.now + 100, value := x.value.put k (v, at0) }
      let s := (s.channelList.filter fun c => bitOf (peMap s c at0) 14 && fld (peMap s c at0) 10 4 == k).foldl
        (fun s c => toPe 14 { src := 7, ch := c, stamp := at0, v } s) s
      let s := if dU8 d 0xF / 4 % 2 = 1 then
          raiseTimed .sn 0 0x20 0 [(k : Nat), v, (leAt rx 0 4 : Nat), (leAt rx 4 4 : Nat)] at0 s else s
      snStart s
    else s

def execSensorTransferDone (rx : List Byte) (s : State) : Out := .next (mainOn s (sensorTransferDone rx s))

/-- A fetched schedule is stored and acts (R760, R761, R764). -/
def loadSchedule (entries : List (List Byte)) (crc : Word) (s : State) : State :=
  let bad := (List.range entries.length).foldl (fun (m : Nat) k => if snEntryOk (entries.getD k []) then m else m + 2 ^ k) 0
  let s := s.setSn { s.en.sn with entries, valid := 2 ^ entries.length - 1 - bad, waiting := [], dueAt := s.tk.now }
  let s := raise .sn 0 2 0 [(entries.length : Nat), (crc.toNat : Nat)] s
  if bad ≠ 0 then raise .sn 0 1 1 [(bad : Nat)] s else s

/-- Domain 14 powers up: encoders as after device reset; the schedule stays (R771). -/
def encodersUp (s : State) : State :=
  let x := s.en.sn
  { s with en := { en := [], sn := { x with waiting := [], busy := none, freeAt := 0, value := [], dueAt := s.tk.now } } }

/-- EN_CONFIG and EN_CAPTURE as read (R772); with domain 14 not ON the RO fields MODE and FILTER_N read their reset values (R137). -/
def enConfigRead (s : State) (n : Nat) : Nat :=
  let w := (enConfig s n).toNat
  let e := if s.isOn 14 then s.enc n else {}
  w / 2 ^ 16 * 2 ^ 16 + at_ 8 8 e.filterN + w % 256 / 8 * 8 + at_ 0 3 e.mode
def enCaptureRead (s : State) (n : Nat) : Nat := (s.enc n).capture % 2 ^ 31 + 2 ^ 31 * b2n (s.enc n).coincident

/-- SN_STATUS (R772). -/
def snStatus (s : State) : Nat := at_ 16 1 (b2n s.en.sn.busy.isSome) + at_ 0 16 s.en.sn.valid

end Sys2Proof.Machine
end

