-- ==== Sys2Proof/Machine/CanBus.lean ====
section
/-!
DEFINITION. Machine/CanBus.lean: the two fixture buses (chapter 19): sending, filters and mailboxes, sleep, selective wake and error
states.  What happens bit by bit on the bus comes in with the commands: frames, error counters, integration and idle.
-/
namespace Sys2Proof.Machine

def State.can (s : State) (b : Nat) : CanBus := s.cn.get b {}
def State.setCan (s : State) (b : Nat) (x : CanBus) : State := { s with cn := s.cn.put b x }

def cnKey (b off : Nat) : Nat := 0x4C000 + 0x800 * b + off
def cnConfig (s : State) (b : Nat) : Word := s.wr (cnKey b 0) 0
def wakeConfig (s : State) (b : Nat) : Word := s.wr (cnKey b 0x14) 0x201F000A
/-- CN_WAKE_CONFIG.WAKE_MODE: 0 OFF, 1 PATTERN, 2 SELECTIVE. -/
def wakeMode (s : State) (b : Nat) : Nat := fld (wakeConfig s b) 30 2

/-- Data bytes that a DLC stands for. -/
def dlcBytes (dlc : Nat) : Nat := if dlc ≤ 8 then dlc else [12, 16, 20, 24, 32, 48, 64].getD (dlc - 9) 64

/-- The data bytes a frame carries. -/
def canBytes (f : CanFrame) : List Byte := if f.remote then [] else (f.data ++ List.replicate 64 0).take (dlcBytes f.dlc)

/-- A filter matches a frame (R718). -/
def canMatch (x : CanFilter) (f : CanFrame) : Bool :=
  !f.remote && x.id / 2 ^ 29 % 2 == f.id / 2 ^ 29 % 2 && (x.action != 2 || f.id / 2 ^ 30 % 2 == 0) &&
  Nat.land (Nat.xor (f.id % 2 ^ 29) (x.id % 2 ^ 29)) (x.mask % 2 ^ 29) == 0 &&
  (List.range 8).all fun k =>
    let m := x.dmask / 256 ^ k % 256
    m == 0 || (decide (k < (canBytes f).length) &&
      Nat.land (Nat.xor (leAt (canBytes f) k 1) (x.data / 256 ^ k % 256)) m == 0)

/-- The first filter with `action` that matches. -/
def canTaker (filters : Tab CanFilter) (action : Nat) (f : CanFrame) : Option Nat :=
  (List.range 32).find? fun k => let x := filters.get k {}; x.action == action && canMatch x f

/-! ### Sending (R716, R717, R282) -/

/-- The frame that ring command CAN_SEND describes. -/
def sendFrame (c : CanBus) (d : List Byte) : CanFrame :=
  { id := dU32 d 0x10, dlc := dU8 d 0x14, esi := c.st == .passive && dU32 d 0x10 / 2 ^ 30 % 2 == 1,
    data := (d.drop 0x18).take (dlcBytes (dU8 d 0x14)) }

/-- A bit time and the place of its sample point in ns, of CN_NBT or CN_DBT (R713). -/
def bitTime (w : Word) : Nat := 25 * fld w 24 8 * (1 + fld w 16 8 + fld w 8 8)
def samplePoint (w : Word) : Nat := 25 * fld w 24 8 * (1 + fld w 16 8)

/-- The timing in force on a bus (R713, R715). -/
def CanBus.timing (c : CanBus) : CanTiming :=
  { bit := bitTime c.nbt, sample := samplePoint c.nbt, dataBit := bitTime c.dbt, dataSample := samplePoint c.dbt }

/-- The controller takes part in traffic.  [DEDUCED, unsafe: log 159] -/
def canLive (c : CanBus) : Bool := c.st == .active || c.st == .passive

/-- One attempt to send the frame in the transmit mailbox.  [DEDUCED, unsafe: log 159] -/
def canAttempt (b : Nat) (s : State) : State :=
  let c := s.can b
  match execOf s 0x58 b with
  | some (_, e) =>
    if c.sending && canLive c && c.mode == 1 && !c.txdStop then
      send (.can b (sendFrame c e.d) c.timing) (s.setCan b { c with tryAt := some (c.tryAt.getD s.tk.clk) })
    else s
  | none => s

/-- The frame in the transmit mailbox is abandoned (R282, R716).  [DEDUCED, unsafe: log 161] -/
def canAbandon (b detail : Nat) (s : State) : State :=
  let c := s.can b
  if c.sending then
    let s := s.setCan b { c with sending := false, tryAt := none }
    match execOf s 0x58 b with
    | some (r, e) => complete r .fault 0 detail (raise .cn b 6 1 [(dU32 e.d 0x10 : Nat), (detail : Nat)] s)
    | none => s
  else s

/-- CAN_SEND.  [DEDUCED, unsafe: log 159] -/
def canSend (r : Nat) (d : List Byte) (s : State) : State :=
  checked r d needNothing false (fun s =>
    let b := dTarget d
    let c := s.can b
    if !s.isOn 13 || fld (cnConfig s b) 0 2 != 1 || c.sleep then complete r .busy 0 4 s
    else
      let s := s.setCan b { c with sending := true, tryAt := none }
      if c.st = .busOff then canAbandon b 0xE s else canAttempt b s) s

def execCanSend (r : Nat) (s : State) : Out := .next (mainOn s (begin_ r 0x58 (canSend r) s))

/-- CAN_FRAME_ACKNOWLEDGED: the frame sent is acknowledged; the error counters and the delay measured come with it.
[DESIGN CHOICE, unsafe: log 158] -/
def canAcked (b tec rec_ tdc : Nat) (s : State) : State :=
  let c := s.can b
  if s.isOn 13 && c.sending && c.tryAt.isSome then
    let s := s.setCan b { c with sending := false, tryAt := none, tec, rec_, tdc, dominant := false, txdStop := false }
    match execOf s 0x58 b with
    | some (r, _) => complete r .ok 0 0 s
    | none => s
  else s

def execCanFrameAcknowledged (b tec rec_ tdc : Nat) (s : State) : Out := .next (mainOn s (canAcked b tec rec_ tdc s))

/-- CAN_TX_RETRY: a frame that lost arbitration or met an error is sent again.  [DESIGN CHOICE, unsafe: log 158] -/
def canRetry (b tec rec_ : Nat) (s : State) : State :=
  let c := s.can b
  if s.isOn 13 && c.sending && c.tryAt.isSome then canAttempt b (s.setCan b { c with tec, rec_ }) else s

def execCanTxRetry (b tec rec_ : Nat) (s : State) : Out := .next (mainOn s (canRetry b tec rec_ s))

/-- CAN_TX_TIMEOUT: 10 ms after the first attempt (R282). -/
def canTimeout (b : Nat) (s : State) : State :=
  match (s.can b).tryAt with
  | some t => if s.isOn 13 && (s.can b).sending then canAbandon b 0xD (advanceClk (t + 10000000) s) else s
  | none => s

def execCanTxTimeout (b : Nat) (s : State) : Out := .next (mainOn s (canTimeout b s))

/-! ### Receiving (R719–R724) -/

/-- CAN_RX records of a bus on their way to the spool: the places of R724 in use. -/
def canPlaces (s : State) (b : Nat) : Nat :=
  (s.sp.making.filter fun m =>
    m.2.src == Blk.cn.source b && m.2.kind == 3 && (m.2.body.headD 0).toNat % 65536 == 0x0F20).length

/-- The CAN_RX record of a frame taken by filter `k`, and its tail (R723). -/
def canRecord (b k : Nat) (f : CanFrame) (s : State) : State :=
  let l := (canBytes f)
  let word := fun (o : Nat) => ((leAt l o 4 : Nat) : Int)
  let src := Blk.cn.source b
  let seq := (s.sp.srcSeq.get (src * 8 + 3) 0 + (s.sp.making.filter fun m => m.2.src == src && m.2.kind == 3).length) % 65536
  let arg1 := at_ 0 4 f.dlc + at_ 4 1 (b2n f.esi) + at_ 5 1 (b2n (decide (l.length > 32))) + at_ 8 5 k
  let s := raise .cn b 0x20 0 ([(f.id : Int), (arg1 : Nat)] ++ [0, 4, 8, 12, 16, 20].map word) s
  if l.length > 24 then
    let s := signalSpaced 19 s
    pushRec prodHub (mkRec s prodHub 3 src (hubTime s) (eventBody .cn 0x21 0 [word 24, word 28] seq 3)) s
  else s

/-- The print engine takes the frame that filter `k` of bus `b` took; the settings in force at an epoch's end choose from it (R593, R601,
R722).  [DEDUCED, unsafe: log 155] -/
def canToPe (b k : Nat) (f : CanFrame) (s : State) : State :=
  toPe 13 { src := 3, ch := 0, stamp := s.tk.now, box := b * 32 + k, data := canBytes f } s

/-- CAN_FRAME_RX: a frame has become valid (R721–R724).  [DESIGN CHOICE, unsafe: log 158; DEDUCED, unsafe: log 198] -/
def canRx (b : Nat) (f : CanFrame) (tec rec_ : Nat) (s : State) : State :=
  let c := s.can b
  if b < 2 ∧ s.isOn 13 ∧ c.depth ≠ .asleep ∧ canLive c then
    let used := canPlaces s b
    let c := { c with tec, rec_, dominant := false, txdStop := false, overSaid := c.overSaid && used != 0 }
    let s := s.setCan b c
    match canTaker c.filters 1 f with
    | none => s
    | some k =>
      let n := match c.boxes.find k with | some m => (m.count + 1) % 256 | none => 1
      let s := s.setCan b { c with boxes := c.boxes.put k { frame := { f with data := (canBytes f).take 32 }, at_ := s.tk.now, count := n } }
      let s := canToPe b k f s
      if used < 16 then canRecord b k f s
      else
        let s := bump (cnKey b 0x28) s
        if c.overSaid then s else raise .cn b 7 1 [] (s.setCan b { s.can b with overSaid := true })
  else s

def execCanFrameRx (b : Nat) (f : CanFrame) (tec rec_ : Nat) (s : State) : Out := .next (mainOn s (canRx b f tec rec_ s))

/-- CAN_FILTER (R718–R720).  [DEDUCED, unsafe: log 76] -/
def canFilter (r : Nat) (d : List Byte) (s : State) : State :=
  checked r d
    (fun s =>
      let c := s.can (dTarget d)
      let wakes := (List.range 32).filter fun k => k != dU8 d 0x10 && (c.filters.get k {}).action == 2
      if dU8 d 0x11 = 2 ∧ wakes.length ≥ 4 then some 0x11 else none) false
    (fun s =>
      let b := dTarget d
      let c := s.can b
      let x : CanFilter := { action := dU8 d 0x11, id := dU32 d 0x14, mask := dU32 d 0x18, data := dU64 d 0x1C, dmask := dU64 d 0x24 }
      complete r .ok 0 0 (s.setCan b { c with filters := c.filters.put (dU8 d 0x10) x })) s

def execCanFilter (r : Nat) (s : State) : Out := .next (mainOn s (begin_ r 0x59 (canFilter r) s))

/-! ### Modes and error states (R711, R715, R738, R739) -/

/-- The controller starts to integrate, or stays off. -/
def canStart (c : CanBus) : CanBus := { c with st := if c.mode = 0 then .off else .integrating }

/-- BUS_IDLE_SETTINGS: at bus idle the written MODE, CN_NBT and CN_DBT act (R715). -/
def busIdle (b : Nat) (s : State) : State :=
  if b < 2 ∧ s.isOn 13 then
    let c := s.can b
    let mode := fld (cnConfig s b) 0 2
    let c' := { c with mode, nbt := s.wr (cnKey b 4) 0x021F0808, dbt := s.wr (cnKey b 8) 0x010E0505, dominant := false, txdStop := false }
    s.setCan b (if mode = c.mode ∨ c.depth = .asleep ∨ (c.st = .busOff ∧ mode ≠ 0) then c' else canStart c')
  else s

def execBusIdleSettings (b : Nat) (s : State) : Out := .next (mainOn s (busIdle b s))

/-- CAN_INTEGRATED (R715, R732). -/
def canIntegrated (b : Nat) (s : State) : State :=
  let c := s.can b
  if s.isOn 13 ∧ c.st = .integrating ∧ c.depth ≠ .asleep then
    canAttempt b (s.setCan b { c with st := if c.tec ≥ 128 ∨ c.rec_ ≥ 128 then .passive else .active })
  else s

def execCanIntegrated (b : Nat) (s : State) : Out := .next (mainOn s (canIntegrated b s))

/-- CAN_ERROR_STATE_CHANGE: the error counters of ISO 11898-1 reach a new state (R739).  [DESIGN CHOICE, unsafe: log 158] -/
def canErrors (b tec rec_ : Nat) (s : State) : State :=
  let c := s.can b
  if s.isOn 13 ∧ canLive c then
    let st : CanState := if tec ≥ 256 then .busOff else if tec ≥ 128 ∨ rec_ ≥ 128 then .passive else .active
    let s := s.setCan b { c with st, tec, rec_ }
    if st = c.st then s
    else
      match st with
      | .busOff => canAbandon b 0xE (raise .cn b 4 2 [(tec : Nat)] s)
      | .passive => raise .cn b 2 1 [(tec : Nat), (rec_ : Nat)] s
      | _ => raise .cn b 3 0 [(tec : Nat), (rec_ : Nat)] s
  else s

def execCanErrorStateChange (b tec rec_ : Nat) (s : State) : Out := .next (mainOn s (canErrors b tec rec_ s))

/-- BUS_ON: recovery after 128 occurrences of 11 recessive bits (R711, R739). -/
def busOn (b : Nat) (s : State) : State :=
  let c := s.can b
  if s.isOn 13 ∧ c.st = .busOff ∧ c.depth ≠ .asleep then
    raise .cn b 5 0 [] (s.setCan b { c with st := .active, tec := 0, rec_ := 0 })
  else s

def execBusOn (b : Nat) (s : State) : Out := .next (mainOn s (busOn b s))

/-- TXD_DOMINANT (R738). -/
def txdDominant (b : Nat) (s : State) : State :=
  let c := s.can b
  if b < 2 ∧ s.isOn 13 ∧ !c.txdStop then raise .cn b 8 2 [] (s.setCan b { c with txdStop := true }) else s

def execTxdDominant (b : Nat) (s : State) : Out := .next (mainOn s (txdDominant b s))

/-- BUS_DOMINANT (R738). -/
def busDominant (b : Nat) (s : State) : State :=
  let c := s.can b
  if b < 2 ∧ s.isOn 13 ∧ !c.dominant then raise .cn b 9 1 [] (s.setCan b { c with dominant := true }) else s

def execBusDominant (b : Nat) (s : State) : Out := .next (mainOn s (busDominant b s))

/-! ### Sleep and wake (R725–R735) -/

/-- The bus is handed to the wake receiver (R725). -/
def canAsleep (b : Nat) (s : State) : State :=
  raise .cn b 1 0 [] (s.setCan b { s.can b with depth := .asleep, st := .off, armed := false, inFrame := none, fec := 0, heard := none })

/-- SLEEP goes to 1 (R725, R735). -/
def canSleep (b : Nat) (s : State) : State :=
  let c := s.can b
  if c.sleep then s
  else
    let s := s.setCan b { c with sleep := true, depth := if s.isOn 13 then .entry else c.depth }
    if s.isOn 13 ∧ c.st = .busOff then canAsleep b s else s

/-- SLEEP_ENTRY: bus idle with no frame to send (R725). -/
def sleepEntry (b : Nat) (s : State) : State :=
  let c := s.can b
  if s.isOn 13 ∧ c.depth = .entry ∧ !c.sending then canAsleep b s else s

def execSleepEntry (b : Nat) (s : State) : Out := .next (mainOn s (sleepEntry b s))

/-- CN_WAKE_ID, CN_WAKE_DATA and CN_WAKE_INFO (R731, R742). -/
def wakeId (c : CanBus) : Nat := match c.wframe with | some f => f.id % 2 ^ 30 | none => 0
def wakeData (c : CanBus) (o : Nat) : Nat := match c.wframe with | some f => leAt (canBytes f) o 4 | none => 0
/-- [DEDUCED, unsafe: log 160] -/
def wakeInfo (c : CanBus) : Nat :=
  at_ 29 3 c.cause + at_ 24 5 c.wfilter + at_ 16 4 (match c.wframe with | some f => f.dlc | none => 0) + at_ 0 16 c.wakes

/-- WAKE is raised with the wake record, and the bus starts again (R732); of two buses that wake at one instant, or a bus wake and a write of
0 to SLEEP, the queue holds can0's, or the bus wake, first (R734).  [DESIGN CHOICE, unsafe: log 211] -/
def wakeRaise (b : Nat) (s : State) : State :=
  let c := { s.can b with sleep := false, depth := .awake, wakeDue := false }
  let c := if c.st = .off then canStart c else c
  raise .cn b 0 0 [(c.cause : Nat), (wakeId c : Nat), (wakeData c 0 : Nat), (wakeData c 4 : Nat), (wakeInfo c : Nat)] (s.setCan b c)

/-- A wake with its cause, filter and frame is recorded and acted on (R731, R732); it wakes a parked device (R833).
[DEDUCED, unsafe: log 160] -/
def canWake (b cause filter : Nat) (f : Option CanFrame) (s : State) : State :=
  let s := if cause = 4 then s else wakeSource (6 + b) s
  let c := s.can b
  let s := s.setCan b { c with cause, wfilter := filter, wframe := f, wakes := (c.wakes + 1) % 65536, armed := false,
                               inFrame := none, fec := 0 }
  if s.isOn 13 then wakeRaise b s else s.setCan b { s.can b with wakeDue := true }

/-- SLEEP goes to 0 (R731, R735). -/
def canUnsleep (b : Nat) (s : State) : State :=
  let c := s.can b
  if !c.sleep then s
  else if c.depth = .asleep then canWake b 4 0 none (s.setCan b { c with sleep := false })
  else s.setCan b { c with sleep := false, depth := .awake }

/-- The safelight watches bus `b` (R726). -/
def canWatched (s : State) (b : Nat) : Bool :=
  decide (b < 2) && wakeMode s b != 0 && ((s.can b).depth == .asleep || !s.isOn 13)

/-- t_fog of bus `b` in ns (R727). -/
def tFog (s : State) (b : Nat) : Nat := fld (wakeConfig s b) 0 6 * 100

/-- Whether a phase of `ns` counts (R727): never up to 0.9 t_fog, always from 1.1 t_fog on, and between them it is open.
[DESIGN CHOICE, safe: log 217] -/
def phaseCounts (fog ns : Nat) (s : State) : Bool × State :=
  if 10 * ns ≤ 9 * fog then (false, s)
  else if 10 * ns ≥ 11 * fog then (true, s)
  else (openBool s, spend s)

/-- The search for a pattern: the time so far, the start of the last dominant phase that counted, that of the last such phase with a
recessive phase that counted after it, and whether a pattern has been accepted. -/
structure PatternScan where
  at_ : Nat := 0
  dom : Option Nat := none
  rec_ : Option Nat := none
  hit : Bool := false

/-- One phase of the bus, dominant or recessive, `ns` long: a phase that does not count neither completes nor restarts a pattern, and a
pattern completes once its third phase has lasted t_fog, within 1.0 ms of the start of its first (R727).
[DESIGN CHOICE, safe: log 217] -/
def scanPhase (fog : Nat) (a : PatternScan × State) (ph : Bool × Nat) : PatternScan × State :=
  let (x, s) := a
  let r := phaseCounts fog ph.2 s
  let y := { x with at_ := x.at_ + ph.2 }
  if !r.1 then (y, r.2)
  else if ph.1 then
    let done := match x.rec_ with | some t => decide (x.at_ + min fog ph.2 ≤ t + 1000000) | none => false
    ({ y with dom := some x.at_, hit := x.hit || done }, r.2)
  else ({ y with rec_ := x.dom }, r.2)

/-- WAKE_PATTERN: phases of the bus, dominant (true) or recessive, each with its length in ns; a pattern among them wakes the bus or
arms its decoder (R727, R728).  [DESIGN CHOICE, safe: log 217] -/
def wakePattern (b : Nat) (phases : List (Bool × Nat)) (s : State) : State :=
  if canWatched s b then
    let (x, s) := phases.foldl (scanPhase (tFog s b)) ({}, s)
    let c := s.can b
    if !x.hit then s
    else if wakeMode s b = 1 then canWake b 1 0 c.heard s
    else s.setCan b { c with armed := true, fec := if c.armed then c.fec else 0 }
  else s

def execWakePattern (b : Nat) (phases : List (Bool × Nat)) (s : State) : Out := .next (wakePattern b phases s)

/-- WAKE_FRAME, `kind` 3: an armed decoder that is ready samples the first identifier bit of a frame, which it judges by the wake filters
then in force (R719, R728, R736); then that frame ends: 0 valid classical, 1 with a stuff, form or CRC error, 2 an FD frame (R729).
[DEDUCED, unsafe: log 198] -/
def wakeFrame (b : Nat) (f : CanFrame) (kind : Nat) (s : State) : State :=
  let c := s.can b
  if canWatched s b && c.armed && wakeMode s b == 2 then
    match kind, c.inFrame with
    | 3, _ => s.setCan b { c with inFrame := some c.filters }
    | 0, some filters =>
      let s := s.setCan b { c with inFrame := none, heard := some f, fec := c.fec - 1 }
      match canTaker filters 2 f with
      | some k => canWake b 2 k (some f) s
      | none => s
    | 1, some _ =>
      let s := s.setCan b { c with inFrame := none, fec := c.fec + 1 }
      if c.fec + 1 > fld (wakeConfig s b) 16 5 then canWake b 3 0 c.heard s else s
    | 2, some _ => s.setCan b { c with inFrame := none }
    | _, _ => s
  else s

def execWakeFrame (b : Nat) (f : CanFrame) (kind : Nat) (s : State) : Out := .next (wakeFrame b f kind s)

/-- DECODER_DISARM: 1.0 s of recessive bus (R730). -/
def decoderDisarm (b : Nat) (s : State) : State :=
  let c := s.can b
  if c.armed then s.setCan b { c with armed := false, inFrame := none, fec := 0 } else s

def execDecoderDisarm (b : Nat) (s : State) : Out := .next (decoderDisarm b s)

/-- Domain 13 becomes ON: the held settings are in force and a wake that waits is raised, can0's first (R137, R732, R734). -/
def canUp (s : State) : State :=
  [0, 1].foldl (fun s b =>
    let c := s.can b
    let c := { c with mode := fld (cnConfig s b) 0 2, nbt := s.wr (cnKey b 4) 0x021F0808, dbt := s.wr (cnKey b 8) 0x010E0505, tec := 0,
                      rec_ := 0, tdc := 0, sending := false, tryAt := none, dominant := false, txdStop := false, st := .off,
                      armed := c.armed && c.depth == .asleep, inFrame := if c.depth = .asleep then c.inFrame else none }
    let c := if c.depth = .asleep ∧ !c.wakeDue then c
      else if c.sleep ∧ !c.wakeDue then { canStart c with depth := .entry } else canStart c
    let s := s.setCan b c
    if c.wakeDue then wakeRaise b s else s) s

/-- Domain 13 leaves ON: a frame to be sent is abandoned.  [DEDUCED, unsafe: log 161] -/
def canDown (detail : Nat) (s : State) : State :=
  [0, 1].foldl (fun s b =>
    let s := canAbandon b detail s
    let c := s.can b
    s.setCan b { c with st := .off, depth := if c.depth = .entry then .awake else c.depth, tec := 0, rec_ := 0 }) s

/-- CN_STATUS and CN_ERR (R742). -/
def cnStatus (s : State) (b : Nat) : Nat :=
  let c := s.can b
  let st := match c.depth with
    | .entry => 5
    | .asleep => 6
    | .awake => match c.st with | .off => 0 | .integrating => 1 | .active => 2 | .passive => 3 | .busOff => 4
  at_ 16 8 c.tdc + at_ 8 3 st + at_ 4 1 (b2n c.sending) + at_ 3 1 (b2n c.armed)
def cnErr (s : State) (b : Nat) : Nat :=
  let c := s.can b
  at_ 24 8 c.fec + at_ 16 8 c.rec_ + at_ 0 9 c.tec

end Sys2Proof.Machine
end

