-- ==== Sys2Proof/Machine/Wand.lean ====
section
/-!
DEFINITION. Machine/Wand.lean: the valve drivers of the field die and the wand programs they run (chapter 18).  Currents, duties and trips
come in with the commands.
-/
namespace Sys2Proof.Machine

def State.field (s : State) : FieldDie := s.ez.field
def State.setField (s : State) (f : FieldDie) : State := { s with ez := { s.ez with field := f } }
def State.valve (s : State) (n : Nat) : Valve := s.ez.field.valves.get n {}
def State.setValve (s : State) (n : Nat) (v : Valve) : State :=
  s.setField { s.ez.field with valves := s.ez.field.valves.put n v }

def wnKey (n off : Nat) : Nat := 0x4B000 + 0x100 * n + off

/-- Driver `n` is the odd member of a standing bridge (R679). -/
def pairedOdd (s : State) (n : Nat) : Bool := n % 2 == 1 && (s.valve (n - 1)).pair

/-- The field domain of driver `n` is ON (R135). -/
def valveDomOn (s : State) (n : Nat) : Bool := decide (n < 8) && s.field.powered && s.isOn (155 + n / 2)

/-- Driver `n` works on its own account. -/
def valveOn (s : State) (n : Nat) : Bool := valveDomOn s n && !pairedOdd s n

/-! ### Legs (R678, R679, R682, R692, R693, R706) -/

/-- What one half-bridge does: at rest, or switched with a duty in per mille between the on-time and the off-time of its regulation. -/
inductive Leg where
  | off | low | high
  deriving DecidableEq, Repr
inductive Legs where
  | rest (l : Leg)
  | switched (duty : Nat) (on off : Leg)
  deriving DecidableEq, Repr

/-- The half-bridge of driver `n` while `v`, the driver that governs it, regulates: a single driver's high leg has the duty; a bridge's
positive current leaves the even driver's high leg and enters the odd driver's low leg.  [DEDUCED, unsafe: log 229] -/
def drivenLegs (v : Valve) (n : Nat) : Legs :=
  let rest : Leg := if v.fast then .off else .low
  if v.heldAt.isSome then .rest .off
  else if v.pair && decide (v.target < 0) == (n % 2 == 0) then .switched v.duty .low rest
  else .switched v.duty .high rest

/-- The legs of driver `n` by R667: both off under a supply condition and before the configuration push (R650); then its safe state, which
it keeps after the release until a run starts (R698); then off while latched (R706); then as the wand drives it.
[DEDUCED, unsafe: log 229] -/
def valveLegs (s : State) (n : Nat) : Legs :=
  let f := s.field
  let v := s.valve (if pairedOdd s n then n - 1 else n)
  if !valveDomOn s n || !f.pushed || f.supply != 0 then .rest .off
  else if (s.valve n).inSafe then .rest (if bitOf f.heldSafe (16 + n) then .low else .off)
  else if v.latched then .rest .off
  else if v.running then drivenLegs v n
  else if v.ending && !v.fast then .rest .low
  else .rest .off

/-- A driver that does not run clamps while its coil carries 10 mA or more with every leg off (R683). -/
def legSettle (n : Nat) (s : State) : State :=
  let v := s.valve n
  if v.running then s
  else s.setValve n { v with clamping := decide (10 ≤ v.mean.natAbs) && valveLegs s n == .rest .off }

def legSettleAll (s : State) : State := (List.range 8).foldl (fun s n => legSettle n s) s

/-! ### Ending a run (R692) -/

/-- A PAIR value that waits acts once both drivers of the pair stand still (R680). -/
def pairSettle (n : Nat) (s : State) : State :=
  let b := n / 2 * 2
  let still := fun k => let v := s.valve k; !v.running && !v.ending
  match (s.valve b).pairDue with
  | some p => if still b && still (b + 1) then s.setValve b { s.valve b with pair := p, pairDue := none } else s
  | none => s

/-- The cap on the target holds at clock count `t`: the target has not stayed at or below 2,000 mA for 800 ms (R685). -/
def capHolds (v : Valve) (t : Nat) : Bool := v.capped && !v.lowAt.any fun u => decide (u + 800000000 ≤ t)

/-- The current has fallen below 10 mA after a run: every leg is off and WAND_END is raised. -/
def finishRun (n : Nat) (s : State) : State :=
  let v := s.valve n
  if v.ending then
    pairSettle n (raise .wn n 1 0 [(v.cause : Nat), (v.code : Nat)]
      (s.setValve n { v with ending := false, clamping := false, target := 0, mean := 0, duty := 0, idleAt := some s.tk.clk }))
  else s

/-- The run of driver `n` ends with a cause and code, decaying in FAST mode or in its own (R692); a stop in the cycle of an END gives the
cause (R701).  [DEDUCED, unsafe: log 169] -/
def stopRun (n cause code : Nat) (fast : Bool) (s : State) : State :=
  let v := s.valve n
  if v.running then
    let f := fast || v.fast
    let s := s.setValve n { v with
      running := false, ending := true, cause, code, fast := f, goal := 0, ramp := none, dither := none, wait := none, target := 0,
      heldAt := none, openAt := none, highAt := none, lowAt := some (v.lowAt.getD s.tk.clk), endAt := some s.tk.clk }
    let s := legSettle n s
    if v.mean.natAbs < 10 then finishRun n s else s
  else if cause = 2 ∧ v.cause = 1 ∧ v.endAt = some s.tk.clk then
    s.setValve n { v with cause, code, fast := fast || v.fast } |> legSettle n
  else s

/-- DECAY_COMPLETE (R692).  [DEDUCED, unsafe: log 163] -/
def decayComplete (n : Nat) (s : State) : State := if valveOn s n then finishRun n s else s

def execDecayComplete (n : Nat) (s : State) : Out := .next (mainOn s (decayComplete n s))

/-- Every program stops with `cause` (R698, R700). -/
def stopAllRuns (cause : Nat) (s : State) : State := (List.range 8).foldl (fun s n => stopRun n cause 0 true s) s

/-- A driver that decays goes on in FAST mode. -/
def decayFast (n : Nat) (s : State) : State :=
  if (s.valve n).ending then legSettle n (s.setValve n { s.valve n with fast := true }) else s

/-- A WN_CONFIG value reaches the driver; a change of PAIR stops both drivers where one is at work (R680). -/
def valveConfig (n : Nat) (w : Word) (s : State) : State :=
  let s := s.setValve n { s.valve n with cfg := w }
  let v := s.valve n
  if n % 2 = 0 ∧ bitOf w 31 ≠ v.pairDue.getD v.pair then
    let s := decayFast n (decayFast (n + 1) (stopRun n 9 0 true (stopRun (n + 1) 9 0 true s)))
    pairSettle n (s.setValve n { s.valve n with pairDue := some (bitOf w 31) })
  else s

/-- A turn-on is held from clock count `clk`, which HELD_CLAMP of the diagnostic word tells (R696, R709). -/
def Valve.hold (clk : Nat) (v : Valve) : Valve := { v with heldAt := some clk, heldBit := true, heldSeq := none }

/-- The COMMIT that turns run bit `n` from 0 to 1 (R688, R691, R696, R698); a start while the driver clamps is held. -/
def wandStart (n : Nat) (s : State) : State :=
  let v := s.valve n
  if pairedOdd s n || v.running || v.latched || s.field.safe then s
  else
    let s := s.setValve n { v with
      running := true, ending := false, inSafe := false, pc := v.entry, c := false, loop := 0, fast := false, goal := 0, ramp := none,
      dither := none, target := 0, wait := none, cause := 0, code := 0, startAt := s.tk.clk, nextAt := s.tk.clk, heldAt := none,
      openAt := none, highAt := none, capped := capHolds v s.tk.clk }
    let s := if v.clamping then s.setValve n ((s.valve n).hold s.tk.clk) else s
    let s := if v.pair then s.setValve (n + 1) { s.valve (n + 1) with inSafe := false } else s
    raise .wn n 0 0 [(v.entry : Nat)] s

/-- The VD field of a batch acts on driver `n` (R691). -/
def wandRunBit (n : Nat) (b : Bool) (s : State) : State :=
  let v := s.valve n
  if b = v.run then s
  else
    let s := s.setValve n { v with run := b }
    if b then wandStart n s else if pairedOdd s n then s else stopRun n 2 0 true s

/-! ### Words (R686–R688, R705) -/

/-- Fields of a wand word. -/
def wf (w : Word) (lsb width : Nat) : Nat := fld w lsb width

/-- A word is legal: an assigned opcode, no reserved bit set, operands in their ranges.  [DEDUCED, unsafe: log 171] -/
def wandLegal (w : Word) : Bool :=
  match wf w 28 4 with
  | 1 => wf w 13 15 == 0
  | 2 => wf w 13 15 != 0
  | 3 => wf w 0 28 != 0
  | 4 => wf w 13 14 != 0
  | 5 => decide (wf w 22 5 ≤ 23)
  | 6 => wf w 0 8 == 0 && (wf w 20 8 == 0 || decide (10 ≤ wf w 8 12))
  | 7 => wf w 20 8 != 0 && wf w 6 14 == 0
  | 8 => decide (wf w 25 3 ≤ 3) && wf w 6 14 == 0 && (decide (wf w 25 3 ≤ 1) || decide (wf w 20 5 ≤ 23))
  | 9 => wf w 0 27 == 0
  | 10 => wf w 8 20 == 0
  | _ => false

/-- The first tick of the driver after `t`. -/
def nextTick (v : Valve) (t : Nat) : Nat := v.startAt + ((t - v.startAt) / 1000 + 1) * 1000

/-- The driver after a wait that has run out without its condition: C is 1 and the next word starts at the deadline.  `none` where
the wait has no deadline.  [DESIGN CHOICE, unsafe: log 172] -/
def afterTimeout (v : Valve) : Option Valve :=
  match v.wait with
  | none => some v
  | some (.level _ _ t) => some { v with wait := none, c := true, pc := v.pc + 1, nextAt := t }
  | some (.input _ _ (some t)) => some { v with wait := none, c := true, pc := v.pc + 1, nextAt := t }
  | some (.input _ _ none) => none

/-- The word that starts next at driver `n` satisfies `p`: go on to its start and carry it out.  A wait still running has then
run out.  [DESIGN CHOICE, unsafe: log 172] -/
def wandStep (n : Nat) (p : Nat → Word → Bool) (k : Valve → Word → State → State) (s : State) : State :=
  if valveOn s n && (s.valve n).running then
    match afterTimeout (s.valve n) with
    | none => s
    | some v =>
      let w := v.prog.get v.pc 0
      if p v.pc w then k v w (advanceClk (v.nextAt) s) else s
  else s

/-- A legal word of opcode `op` is carried out; the word lasts `dur` ns and continues at `pc`. -/
def wandWord (n op : Nat) (k : Valve → Word → State → State) (s : State) : State :=
  wandStep n (fun pc w => decide (pc ≤ 63) && wandLegal w && wf w 28 4 == op) k s

/-- The word ends after `dur` ns and the program continues at `pc`. -/
def wandNext (n pc dur : Nat) (v : Valve) (s : State) : State := s.setValve n { v with pc, nextAt := v.nextAt + dur }

/-- The target as the program has it at clock count `t`, before dither. -/
def goalAt (v : Valve) (t : Nat) : Int :=
  match v.ramp with
  | none => v.goal
  | some (from_, start, dur) =>
    if t ≥ start + dur then v.goal else from_ + (v.goal - from_) * ((t - start : Nat) : Int) / ((max dur 1 : Nat) : Int)

/-- A word gives the target a new goal; a turn-on while the driver clamps is held (R696). -/
def newGoal (v : Valve) (goal : Int) (ramp : Option (Int × Nat × Nat)) (clk : Nat) : Valve :=
  let v := if decide (goalAt v clk = 0) && goal != 0 && v.clamping && v.heldAt.isNone then v.hold clk else v
  { v with goal, ramp }

/-- SETI. -/
def seti (n : Nat) (s : State) : State :=
  wandWord n 1 (fun v w s =>
    let v := newGoal v (signed 13 (wf w 0 13)) none s.tk.clk
    wandNext n (v.pc + 1) 1000 v s) s
def execSeti (n : Nat) (s : State) : Out := .next (mainOn s (seti n s))

/-- RAMP. -/
def wandRamp (n : Nat) (s : State) : State :=
  wandWord n 2 (fun v w s =>
    let dur := wf w 13 15 * 1000
    let v := newGoal v (signed 13 (wf w 0 13)) (some (goalAt v s.tk.clk, s.tk.clk, dur)) s.tk.clk
    wandNext n (v.pc + 1) dur v s) s
def execWandRamp (n : Nat) (s : State) : Out := .next (mainOn s (wandRamp n s))

/-- WAITT. -/
def waitt (n : Nat) (s : State) : State := wandWord n 3 (fun v w s => wandNext n (v.pc + 1) (wf w 0 28 * 1000) v s) s
def execWaitt (n : Nat) (s : State) : Out := .next (mainOn s (waitt n s))

/-- WAITI: the wait begins; a period mean or the next word's start ends it. -/
def waiti (n : Nat) (s : State) : State :=
  wandWord n 4 (fun v w s =>
    s.setValve n { v with wait := some (.level (bitOf w 27) (signed 13 (wf w 0 13)) (v.nextAt + wf w 13 14 * 10000)) }) s
def execWaiti (n : Nat) (s : State) : Out := .next (mainOn s (waiti n s))

/-- Accepted level of input `i` (R657). -/
def inLevel (s : State) (i : Nat) : Bool := s.field.level / 2 ^ i % 2 == 1

/-- WAITIN: the wait begins, unless the level already holds. -/
def waitin (n : Nat) (s : State) : State :=
  wandWord n 5 (fun v w s =>
    let i := wf w 22 5
    if inLevel s i == bitOf w 27 then wandNext n (v.pc + 1) 1000 { v with c := false } s
    else
      let t := wf w 0 22
      s.setValve n { v with wait := some (.input i (bitOf w 27) (if t = 0 then none else some (v.nextAt + t * 1000))) }) s
def execWaitin (n : Nat) (s : State) : Out := .next (mainOn s (waitin n s))

/-- DITHER. -/
def ditherW (n : Nat) (s : State) : State :=
  wandWord n 6 (fun v w s =>
    let a := wf w 20 8 * 10
    wandNext n (v.pc + 1) 1000 { v with dither := if a = 0 then none else some (a, wf w 8 12 * 10000, v.nextAt) } s) s
def execDither (n : Nat) (s : State) : Out := .next (mainOn s (ditherW n s))

/-- LOOP (R688). -/
def wandLoop (n : Nat) (s : State) : State :=
  wandWord n 7 (fun v w s =>
    let l := (if v.loop = 0 then wf w 20 8 else v.loop) - 1
    wandNext n (if l > 0 then wf w 0 6 else v.pc + 1) 1000 { v with loop := l } s) s
def execWandLoop (n : Nat) (s : State) : Out := .next (mainOn s (wandLoop n s))

/-- JIF. -/
def wandJif (n : Nat) (s : State) : State :=
  wandWord n 8 (fun v w s =>
    let i := wf w 20 5
    let hold := match wf w 25 3 with | 0 => v.c | 1 => !v.c | 2 => inLevel s i | _ => !inLevel s i
    wandNext n (if hold then wf w 0 6 else v.pc + 1) 1000 v s) s
def execWandJif (n : Nat) (s : State) : Out := .next (mainOn s (wandJif n s))

/-- DECAY. -/
def decayW (n : Nat) (s : State) : State :=
  wandWord n 9 (fun v w s => wandNext n (v.pc + 1) 1000 { v with fast := bitOf w 27 } s) s
def execDecay (n : Nat) (s : State) : Out := .next (mainOn s (decayW n s))

/-- END (R692). -/
def endW (n : Nat) (s : State) : State := wandWord n 10 (fun v w s => stopRun n 1 (wf w 0 8) false (s.setValve n v)) s
def execEnd (n : Nat) (s : State) : Out := .next (mainOn s (endW n s))

/-- ILLEGAL_WORD (R705).  [DEDUCED, unsafe: log 171] -/
def illegalWord (n : Nat) (s : State) : State :=
  wandStep n (fun pc w => decide (pc > 63) || !wandLegal w)
    (fun v w s => stopRun n 5 0 true (raise .wn n 2 1 [0, (v.pc : Nat), (w.toNat : Nat)] (s.setValve n v))) s
def execIllegalWord (n : Nat) (s : State) : Out := .next (mainOn s (illegalWord n s))

/-- Driver `n`'s wait on a level ends where `mean` meets it, or at its deadline (R686, R687).
[DESIGN CHOICE, unsafe: log 172] -/
def meanSeen (n : Nat) (mean : Int) (s : State) : State :=
  let v := s.valve n
  match v.wait with
  | some (.level le i t) =>
    if s.tk.clk ≥ t then (match afterTimeout v with | some v => s.setValve n v | none => s)
    else if (le && decide (mean ≤ i)) || (!le && decide (mean ≥ i)) then
      s.setValve n { v with wait := none, c := false, pc := v.pc + 1, nextAt := nextTick v s.tk.clk }
    else s
  | _ => s

/-- The waits of every driver on input `i` see its accepted level. -/
def inputSeen (i : Nat) (level : Bool) (s : State) : State :=
  (List.range 8).foldl (fun s n =>
    let v := s.valve n
    match v.wait with
    | some (.input j l t) =>
      if j = i ∧ v.running then
        if (match t with | some t => decide (s.tk.clk ≥ t) | none => false) then (match afterTimeout v with | some v => s.setValve n v | none => s)
        else if l = level then s.setValve n { v with wait := none, c := false, pc := v.pc + 1, nextAt := nextTick v s.tk.clk }
        else s
      else s
    | _ => s) s

/-! ### Regulation (R681–R685, R687, R693, R695–R697) -/

/-- The dither of driver `v` at clock count `t`. -/
def ditherAt (v : Valve) (t : Nat) : Int :=
  match v.dither with
  | none => 0
  | some (a, p, t0) => if (t - t0) % max p 1 < p / 2 then (a : Int) else -(a : Int)

/-- The clamped sum of target and dither (R687). -/
def targetWith (v : Valve) (base : Int) (t : Nat) : Int :=
  let x := max (-4000) (min 4000 (base + ditherAt v t))
  if v.pair then x else max 0 x

/-- A result of the on-state test that latches (R695). -/
def diagOn (n : Nat) (s : State) : State :=
  let v := s.valve n
  let s := raise .wn n 5 2 [(v.onRes : Nat)] s
  let s := stopRun n 8 0 true s
  s.setValve n { s.valve n with latched := true }

/-- A regulation period of a configuration in whole ns (R681). -/
def regPeriod (cfg : Word) : Nat := 1000000 / fld cfg 16 8

/-- REGULATION_PERIOD: a period of driver `n`, a period after the last one, ends with this mean in mA and duty in per mille.
[DESIGN CHOICE, unsafe: log 173] -/
def regulationPeriod (n : Nat) (mean : Int) (duty : Nat) (s : State) : State :=
  if valveOn s n then
    let s : State := match (s.valve n).regAt with | some t => advanceClk (t + regPeriod (s.valve n).cfg) s | none => s
    let v : Valve := { s.valve n with mean, duty, regAt := some s.tk.clk }
    if !v.running then s.setValve n v
    else
      let t := s.tk.clk
      let low := decide (mean.natAbs < 10)
      -- a held turn-on acts once the current is below 10 mA
      let was := v.heldAt
      let v := { v with clamping := v.clamping && !low, heldAt := if low then none else v.heldAt }
      let goal := goalAt v t
      let turn := v.pair && decide (goal * mean < 0) && !low
      let hold := turn && v.fast && v.heldAt.isNone
      let v := if hold then v.hold t else v
      let v := { v with clamping := v.clamping || (turn && v.fast) }
      let base := if v.heldAt.isSome || turn then 0 else goal
      let raw := if v.heldAt.isSome then 0 else targetWith v base t
      let big := decide (raw.natAbs > 2000)
      let v := { v with highAt := if big then some (v.highAt.getD t) else none, lowAt := if big then none else some (v.lowAt.getD t) }
      let v := { v with capped := capHolds v t }
      let target := if v.capped then max (-2000) (min 2000 raw) else raw
      let v := { v with target, clamping := v.clamping || (target == 0 && v.fast && !low) }
      -- the on-state open test
      let open_ := decide (mean.natAbs < 20) && decide (target.natAbs ≥ 100) && decide (duty ≥ 500)
      let openAt := if open_ then some (v.openAt.getD t) else none
      let found := match openAt with | some u => decide (t ≥ u + 2000000) | none => false
      let v := { v with openAt, onRes := if found then 1 else 0 }
      let s := s.setValve n v
      let s := match was with
        | some u => if low then raise .wn n 8 1 [((t - u) / 1000 : Nat)] s else s
        | none => s
      let s := if found && bitOf v.cfg 0 then diagOn n s else s
      if (s.valve n).running then meanSeen n mean s else s
  else s

def execRegulationPeriod (n : Nat) (mean : Int) (duty : Nat) (s : State) : Out := .next (mainOn s (regulationPeriod n mean duty s))

/-- PEAK_CAPPED: a target above 2,000 mA has been in force for 200 ms (R685). -/
def peakCapped (n : Nat) (s : State) : State :=
  let v := s.valve n
  match v.highAt with
  | some t =>
    if valveOn s n && v.running && !v.capped then
      let s := advanceClk (t + 200000000) s
      raise .wn n 7 1 [] (s.setValve n { v with capped := true, target := max (-2000) (min 2000 v.target) })
    else s
  | none => s

def execPeakCapped (n : Nat) (s : State) : Out := .next (mainOn s (peakCapped n s))

/-! ### Trips and tests (R693, R694, R702–R706) -/

/-- What a leg current of `ma` mA, which begins `since` ns after the leg's last edge and stands for `lasts` ns more, trips, and after how
many ns: 2 the hard trip, 1 the normal trip, at once outside blanking and at its end where the condition still holds there (R702). -/
def tripKind (cfg : Word) (ma since lasts : Nat) : Option (Nat × Nat) :=
  let blank := fld cfg 8 4 * 500
  if 12000 ≤ ma then some (2, 0) else if 6000 < ma ∧ blank ≤ since + lasts then some (1, blank - since) else none

/-- A trip of leg `leg`, `k` in the mask of legs, of driver `b` (R703); it decides the cause of a run that has ended in the same cycle
(R701). -/
def legTrip (b leg k kind : Nat) (s : State) : State :=
  let v := s.valve b
  let cause := if v.endAt = some s.tk.clk then 6 else v.cause
  stopRun b 6 0 true (raise .wn b 3 2 [(leg : Nat), (kind : Nat)]
    (s.setValve b { v with tripAt := some (s.tk.clk, k), onRes := 2 + leg, latched := true, cause }))

/-- DRV_TRIP: leg `leg` (0 high, 1 low) of driver `n` carries `ma` mA from `since` ns after its last edge on, for `lasts` ns; the trips
of two legs within 1 µs are a bridge short (R702–R704). -/
def drvTrip (n leg ma since lasts : Nat) (s : State) : State :=
  let b := if pairedOdd s n then n - 1 else n
  let v := s.valve b
  let k := 2 * (n % 2) + leg
  if valveDomOn s n ∧ leg ≤ 1 then
    match tripKind v.cfg ma since lasts, v.tripAt with
    | some (kind, d), some (t, k') =>
      let s := advanceClk (s.tk.clk + d) s
      if k' ≠ k ∧ s.tk.clk ≤ t + 1000 then
        raise .wn b 4 2 [((2 ^ k + 2 ^ k' : Nat) : Int)]
          (s.setValve b { v with cause := 7, tripAt := none, latched := true, onRes := if v.pair then 4 else v.onRes })
      else legTrip b leg k kind s
    | some (kind, d), none => legTrip b leg k kind (advanceClk (s.tk.clk + d) s)
    | none, _ => s
  else s

def execDrvTrip (n leg ma since lasts : Nat) (s : State) : Out := .next (mainOn s (drvTrip n leg ma since lasts s))

/-- The off-state result of output voltages in mV and a pulse current in µA (R693). -/
def offResult (pair : Bool) (v1 v2 : Int) (pulse : Nat) : Nat :=
  if pair then
    if v1 < 1000 ∧ v2 < 1000 then 2 else if v1 > 6000 ∨ v2 > 6000 then 3
    else if pulse < 1000 then 1 else if pulse ≥ 120000 then 4 else 0
  else if v1 > 4000 then 3 else if pulse < 1000 then 1 else if pulse ≥ 120000 then 2 else 0

/-- The clock count at which driver `n` has been IDLE for 1 ms and 10 ms have passed since its last test (R694). -/
def offTestDue (s : State) (n : Nat) : Nat :=
  let v := s.valve n
  max (v.idleAt.getD s.field.poweredAt + 1000000) (match v.testAt with | some t => t + 10000000 | none => 0)

/-- OFF_STATE_TEST (R694). -/
def offStateTest (n : Nat) (v1 v2 : Int) (pulse : Nat) (s : State) : State :=
  let v := s.valve n
  if valveOn s n && s.field.pushed && bitOf v.cfg 1 && !v.running && !v.ending && !v.inSafe && !v.latched && s.field.supply == 0 then
    let s := advanceClk (offTestDue s n) s
    let r := offResult v.pair v1 v2 pulse
    let s := s.setValve n { v with offRes := r, tests := (v.tests + 1) % 256, testAt := some s.tk.clk }
    if r ≠ v.offRes then raise .wn n 6 1 [(r : Nat)] s else s
  else s

def execOffStateTest (n : Nat) (v1 v2 : Int) (pulse : Nat) (s : State) : Out := .next (mainOn s (offStateTest n v1 v2 pulse s))

/-- The latch of driver `n` may be cleared: every leg is off and the current is below 10 mA (R706). -/
def valveLatchEnded (s : State) (n : Nat) : Bool := let v := s.valve n; !v.running && !v.ending

/-! ### Uplink words (R689, R709, R710) -/

def valveState (s : State) (n : Nat) : Nat :=
  let v := s.valve n
  if pairedOdd s n then 5
  else if v.inSafe then 3
  else if v.running then 1
  else if v.ending then 2
  else if v.latched then 4
  else 0

def valveStatus (s : State) (n : Nat) : Word :=
  let v := s.valve n
  w32 (at_ 31 1 (b2n v.run) + at_ 28 3 (valveState s n) + at_ 24 4 v.cause + at_ 16 8 v.code + at_ 8 6 v.pc + at_ 7 1 (b2n v.c) +
    at_ 6 1 (b2n (capHolds v s.tk.clk)) + at_ 5 1 (b2n v.latched))
def valveCurrent (s : State) (n : Nat) : Word := let v := s.valve n; w32 (unsigned 16 v.target * 65536 + unsigned 16 v.mean)
def valveDiag (s : State) (n : Nat) : Word := let v := s.valve n; w32 (at_ 28 4 v.onRes + at_ 24 4 v.offRes + at_ 8 1 (b2n v.heldBit) + at_ 0 8 v.tests)

end Sys2Proof.Machine
end

