-- ==== Sys2Proof/Machine/Easel.lean ====
section
/-!
DEFINITION. Machine/Easel.lean: the easel bridge, its link and the field die (chapter 17): frames and batches, the safe state, inputs,
switches and field supply conditions, and the ring commands that reach the field die.
-/
namespace Sys2Proof.Machine

def State.setEz (s : State) (e : Easel) : State := { s with ez := e }
def State.sw (s : State) (n : Nat) : Switch := s.ez.field.switches.get n {}
def State.setSw (s : State) (n : Nat) (x : Switch) : State :=
  s.setField { s.ez.field with switches := s.ez.field.switches.put n x }

def ezKey (off : Nat) : Nat := 0x4A000 + off
def ezSafeState (s : State) : Word := s.acting (ezKey 4) 0
def ezSwCmd (s : State) : Word := s.acting (ezKey 8) 0

/-- The registers with code FRAME (R642, R676, R709), with their reset values and downlink slots; EZ_SW_CMD travels as SW. -/
def frameRegs : List (Nat × Word × Option Nat) :=
  [(0x4A004, 0, some 1), (0x4A008, 0, none), (0x4A00C, 0, some 5), (0x4A01C, 0x00FFFFFF, some 2), (0x4A020, 0, some 3), (0x4A024, 3, some 4)] ++
  (List.range 8).map fun n => (0x4B000 + 0x100 * n, 0x00190403, some (0x58 + n))

def isFrameKey (k : Nat) : Bool := frameRegs.any fun r => r.1 == k

/-- The link is READY. -/
def ezReady (s : State) : Bool := s.isOn 18 && s.ez.link == .ready

/-! ### Safe state and switches of the field die (R651–R655, R660–R671) -/

/-- Field domain `d` is ON (R135, R647). -/
def fieldOn (s : State) (d : Nat) : Bool := s.field.powered && s.isOn d

/-- The field domains of an input and of a switch are ON (R135). -/
def inOn (s : State) (n : Nat) : Bool := fieldOn s (if n < 12 then 150 else 151)
def swDomOn (s : State) (n : Nat) : Bool := fieldOn s (if n < 8 then 152 else if n < 12 then 153 else 154)

/-- Whether switch `n` is to conduct, by R667, clamping apart. -/
def swWanted (s : State) (n : Nat) : Bool :=
  let f := s.field
  let x := s.sw n
  if !swDomOn s n || !f.pushed then false
  else if f.supply / 2 % 2 = 1 then false
  else if f.supply % 2 = 1 then true
  else if f.supply ≠ 0 then false
  else if x.latched || x.thermal then false
  else if f.safe then bitOf f.heldSafe n
  else decide (f.sw / 2 ^ n % 2 = 1)

/-- A turn-on that only a clamp can hold (R663, R667): neither REVERSE nor the safe state commands it. -/
def swHoldable (s : State) : Bool := !s.field.safe && s.field.supply == 0

/-- Switch `n` is clamping: its clamp has conducted and its current has not fallen below 10 mA (R661).
[DEDUCED, unsafe: log 163] -/
def swClamping (s : State) (n : Nat) : Bool := (s.sw n).clampAt.any fun t => decide (t ≤ s.tk.clk)

/-- Longest time from a turn-off to the start of clamping, in ns (R660). -/
def clampLimit (n : Nat) : Nat := if n < 12 then 60000 else 120000

/-- Switch `n` turns off; with an inductive load, which only the board knows, its clamp conducts within the limit of R660.
[DEDUCED, unsafe: log 163] -/
def swOff (n : Nat) (s : State) : State :=
  let x := s.sw n
  let x := { x with on := false, heldAt := none, limiting := false }
  if (s.sw n).on then
    let s' := spend s
    spend (s'.setSw n { x with clampAt := if openBool s then some (s.tk.clk + openNat s' % (clampLimit n + 1)) else none })
  else s.setSw n x

/-- Switch `n` takes the state that R667 gives it; a turn-on while it clamps is held (R663).
[DEDUCED, unsafe: log 163; DEDUCED, unsafe: log 167] -/
def swSettle (n : Nat) (s : State) : State :=
  let x := s.sw n
  if swWanted s n then
    if x.on then s
    else if swClamping s n && swHoldable s then
      if x.heldAt.isSome then s else s.setSw n { x with heldAt := some s.tk.clk, heldBit := true, heldSeq := none }
    else s.setSw n { x with on := true, clampAt := none, heldAt := none }
  else swOff n s

def swSettleAll (s : State) : State := (List.range 16).foldl (fun s n => swSettle n s) s

/-- The field die enters its safe state, with the values of the last batch that has acted (R651, R652, R698). -/
def fieldSafe (cause : Nat) (s : State) : State :=
  let f := s.field
  if f.powered && !f.safe then
    let s := stopAllRuns 3 (s.setField { f with safe := true, cause, heldSafe := f.safeState })
    let s := (List.range 8).foldl (fun s n => s.setValve n { s.valve n with inSafe := true }) s
    swSettleAll (legSettleAll s)
  else s

/-- EZ_SW_DIAG.STATE (R677). -/
def swState (s : State) (n : Nat) : Nat :=
  let f := s.field
  let x := s.sw n
  if f.supply / 2 % 2 = 1 then 7
  else if f.supply % 2 = 1 then 8
  else if f.supply ≠ 0 then 7
  else if x.latched then 6
  else if x.thermal then 5
  else if f.safe then 9
  else if x.heldAt.isSome then 4
  else if swClamping s n then 3
  else if x.on then (if x.limiting then 2 else 1)
  else 0

/-- Restarts of a switch in the last second (R670). -/
def swRestarts (s : State) (n : Nat) : Nat := ((s.sw n).restarts.filter fun t => decide (s.tk.clk ≤ t + 1000000000)).length

/-- A switch's diagnostic word (R639, R676). -/
def swDiag (s : State) (n : Nat) : Word :=
  let x := s.sw n
  w32 (at_ 20 12 x.current + at_ 16 4 (swState s n) + at_ 8 8 (swRestarts s n) + at_ 7 1 (b2n x.openLoad) + at_ 6 1 (b2n x.shortSup) +
    at_ 5 1 (b2n x.heldBit))

/-- Something happened at a switch, which the next uplink's SW_EVENT shows.  [DEDUCED, unsafe: log 162] -/
def swEvent (s : State) : State := s.setField { s.field with swEvent := true }

/-! ### Uplink frames (R637, R639, R640) -/

def rotation : List Nat := [2, 3] ++ List.range' 0x10 16 ++ List.range' 0x40 24

/-- The field die's word for an uplink slot (R639, R689).  [DEDUCED, unsafe: log 162] -/
def uplinkWord (s : State) (addr : Nat) : Word :=
  let f := s.field
  if addr = 1 then w32 (unsigned 16 f.vfield * 65536 + unsigned 8 f.temp * 256 + b2n f.safe + 2 * (f.supply % 16))
  else if addr = 2 then w32 f.broken
  else if addr = 3 then w32 ((List.range 12).foldl (fun a k => a + 2 ^ k * b2n (fieldOn s (148 + k))) 0)
  else if 0x10 ≤ addr ∧ addr < 0x20 then swDiag s (addr - 0x10)
  else if 0x40 ≤ addr ∧ addr < 0x48 then valveStatus s (addr - 0x40)
  else if 0x48 ≤ addr ∧ addr < 0x50 then valveCurrent s (addr - 0x48)
  else if 0x50 ≤ addr ∧ addr < 0x58 then valveDiag s (addr - 0x50)
  else 0

/-- FLAGS of an uplink. -/
def uplinkFlags (s : State) : Nat :=
  let f := s.field
  b2n f.safe + 2 * (f.supply % 16) + 32 * b2n f.swEvent + 64 * b2n ((List.range 16).any fun n => swClamping s n) + 128 * b2n (!f.joined)

/-- The uplink with FSEQ `q` and slot `addr` carries HELD_CLAMP of a switch or a driver.  [DESIGN CHOICE, unsafe: log 227] -/
def heldCarried (q addr : Nat) (s : State) : State :=
  if 0x10 ≤ addr ∧ addr < 0x20 then
    let x := s.sw (addr - 0x10)
    if x.heldBit then s.setSw (addr - 0x10) { x with heldSeq := some q } else s
  else if 0x50 ≤ addr ∧ addr < 0x58 then
    let v := s.valve (addr - 0x50)
    if v.heldBit then s.setValve (addr - 0x50) { v with heldSeq := some q } else s
  else s

/-- A downlink's ACK names the uplink that carried HELD_CLAMP: the bridge keeps the bit from then on, until it is read (R663).
[DESIGN CHOICE, unsafe: log 227] -/
def heldTold (ack : Nat) (s : State) : State :=
  let f := s.field
  s.setField { f with
    switches := f.switches.map fun e => (e.1, if e.2.heldSeq = some ack then { e.2 with heldBit := false, heldSeq := none } else e.2),
    valves := f.valves.map fun e => (e.1, if e.2.heldSeq = some ack then { e.2 with heldBit := false, heldSeq := none } else e.2) }

/-- HELD_CLAMP as an uplink's diagnostic word brings it: an RC bit of EZ_SW_DIAG or of WN_DIAG (R639, R663, R689, R696).
[DESIGN CHOICE, unsafe: log 227] -/
def heldHeard (addr : Nat) (w : Word) (s : State) : State :=
  if 0x10 ≤ addr ∧ addr < 0x20 ∧ bitOf w 5 then rcSet (selKey (ezKey 0x18) (addr - 0x10)) 0x20 s
  else if 0x50 ≤ addr ∧ addr < 0x58 ∧ bitOf w 8 then rcSet (wnKey (addr - 0x50) 0xC) 0x100 s
  else s

/-- A slot word as the bridge keeps it: HELD_CLAMP stands with the RC bits. -/
def slotKept (addr : Nat) (w : Word) : Word :=
  if 0x10 ≤ addr ∧ addr < 0x20 then setFld w 5 1 0 else if 0x50 ≤ addr ∧ addr < 0x58 then setFld w 8 1 0 else w

/-- The field die starts an uplink at Jikan time `t`. -/
def sendUplink (t : Nat) (x : FieldIn) (s : State) : State :=
  let f := s.field
  if fieldOn s 149 then
    let sup := decide (f.upSeq % 4 = 0)
    let addr := if sup then 1 else rotation.getD (f.rot % rotation.length) 2
    let s := if 0x10 ≤ addr ∧ addr < 0x20 then s.setSw (addr - 0x10) { s.sw (addr - 0x10) with current := x.current } else s
    let s := s.setField { s.field with vfield := x.vfield, temp := x.temp }
    let f := s.field
    let on := (List.range 16).foldl (fun a n => a + 2 ^ n * b2n (s.sw n).on) 0
    let u : UpFrame := { seq := f.upSeq, inp := f.level, ack := f.goodSeq, addr, data := uplinkWord s addr, flags := uplinkFlags s,
                         swOn := on, at_ := t, cause := f.cause }
    let s := heldCarried f.upSeq addr s
    let s := s.setField { s.field with upSeq := (f.upSeq + 1) % 256, rot := if sup then f.rot else (f.rot + 1) % 42, swEvent := false }
    { s with ez := { s.ez with up := some u } }
  else { s with ez := { s.ez with up := none } }

/-! ### Frames on the line (R635–R638) -/

/-- The 14 bytes [127:16] of a frame, whose upper 112 bits are `head`, in sending order. -/
def headBytes (head : Nat) : List Byte := (List.range 14).map fun i => BitVec.ofNat 8 (head / 256 ^ (13 - i))

/-- A frame of 128 bits: its upper 112 bits and the CRC over them. -/
def sealFrame (head : Nat) : Nat := head * 65536 + crc16 (headBytes head)

/-- A frame without a Manchester violation is good when its SYNC is right and its CRC matches (R638). -/
def frameGood (sync w : Nat) : Bool := w / 2 ^ 120 == sync && crc16 (headBytes (w / 65536)) == w % 65536

/-- The bits of a downlink frame (R636) and of an uplink frame (R637). -/
def downBits (d : DownFrame) : Nat :=
  sealFrame (0xA7 * 2 ^ 104 + at_ 96 8 d.seq + at_ 80 16 d.sw + at_ 72 8 d.vd + at_ 64 8 d.ack + at_ 56 8 d.addr + at_ 24 32 d.data.toNat +
    at_ 16 1 (b2n d.commit) + at_ 17 1 (b2n d.safeNow) + at_ 18 1 (b2n d.first))
def upBits (u : UpFrame) : Nat :=
  sealFrame (0x5C * 2 ^ 104 + at_ 96 8 u.seq + at_ 72 24 u.inp + at_ 64 8 u.ack + at_ 56 8 u.addr + at_ 24 32 u.data.toNat +
    at_ 16 8 u.flags + at_ 0 16 u.swOn)

/-- What the other end receives of a frame whose half-bits `flip` the line has inverted: none where the frame is bad (R638).
[DESIGN CHOICE, safe: log 215] -/
def DownFrame.received (flip : Nat) (d : DownFrame) : Option DownFrame :=
  if flip = 0 then some d
  else
    match manchesterRead (Nat.xor (manchester (downBits d)) flip) with
    | none => none
    | some w =>
    let f := fun (lo width : Nat) => w / 2 ^ lo % 2 ^ width
    if frameGood 0xA7 w then
      some { seq := f 112 8, sw := f 96 16, vd := f 88 8, ack := f 80 8, addr := f 72 8, data := w32 (f 40 32), commit := f 32 1 == 1,
             safeNow := f 33 1 == 1, first := f 34 1 == 1 }
    else none
/-- [DESIGN CHOICE, safe: log 215] -/
def UpFrame.received (flip : Nat) (u : UpFrame) : Option UpFrame :=
  if flip = 0 then some u
  else
    match manchesterRead (Nat.xor (manchester (upBits u)) flip) with
    | none => none
    | some w =>
    let f := fun (lo width : Nat) => w / 2 ^ lo % 2 ^ width
    if frameGood 0x5C w then
      some { u with seq := f 112 8, inp := f 88 24, ack := f 80 8, addr := f 72 8, data := w32 (f 40 32), flags := f 32 8, swOn := f 16 16 }
    else none

/-! ### Inputs (R656–R659, R666, R669) -/

def State.inputOf (s : State) (n : Nat) : FieldInput := s.field.inputs.get n {}
def State.setInput (s : State) (n : Nat) (x : FieldInput) : State :=
  s.setField { s.field with inputs := s.field.inputs.put n x }

/-- The level of an input at `mv` mV and `ua` µA, `was` being the one before: between the thresholds it stays (R656).
[DEDUCED, unsafe: log 216] -/
def judgeInput (type3 was : Bool) (mv : Int) (ua : Nat) : Bool :=
  if (if type3 then 11000 else 15000) ≤ mv ∧ 2000 ≤ ua then true
  else if mv ≤ 5000 then false
  else was

/-- Samples in a row that make a level accepted (R657). -/
def filterLength (s : State) : Nat := if fld s.field.inFilter 0 4 = 0 then 2 else fld s.field.inFilter 0 4 * 1000

/-- A new filter length starts every stability count anew; new types judge every terminal as it stands anew (R666).
[DEDUCED, unsafe: log 216] -/
def refilter (s : State) : State :=
  s.setField { s.field with inputs := s.field.inputs.map fun e => (e.1, { e.2 with run := 0 }) }
/-- [DEDUCED, unsafe: log 216] -/
def rejudge (s : State) : State :=
  s.setField { s.field with inputs := s.field.inputs.map fun e =>
    let b := judgeInput (bitOf s.field.inType e.1) e.2.level e.2.mv e.2.ua
    (e.1, { e.2 with level := b, run := if b == e.2.level then e.2.run else 0 }) }

/-! ### Batches at the field die (R643, R689, R691) -/

/-- One slot of a batch acts; the first component is the driver that the latest PTR slot named. -/
def applySlot (p : Option Nat × State) (slot : Nat × Word) : Option Nat × State :=
  let (ptr, s) := p
  let (a, w) := slot
  let f := s.field
  if a = 1 then (ptr, s.setField { f with safeState := w })
  else if a = 2 then (ptr, rejudge (s.setField { f with inType := w }))
  else if a = 3 then (ptr, s.setField { f with inWb := w })
  else if a = 4 then
    let s := s.setField { f with inFilter := w }
    (ptr, if fld w 0 4 = fld f.inFilter 0 4 then s else refilter s)
  else if a = 5 then (ptr, s.setField { f with swConfig := w, pushed := true })
  else if a = 6 then
    (ptr, if f.safe then raise .ez 0 3 0 [] (s.setField { f with safe := false, cause := 0 }) else s)
  else if 0x40 ≤ a ∧ a < 0x48 then (some (a - 0x40), s.setValve (a - 0x40) { s.valve (a - 0x40) with ptr := fld w 0 6 })
  else if a = 0x48 then
    match ptr with
    | some n =>
      let v := s.valve n
      (ptr, if v.ptr ≤ 63 then s.setValve n { v with prog := v.prog.put v.ptr w, ptr := v.ptr + 1 } else s)
    | none => (ptr, s)
  else if 0x50 ≤ a ∧ a < 0x58 then (ptr, s.setValve (a - 0x50) { s.valve (a - 0x50) with entry := fld w 0 6 })
  else if 0x58 ≤ a ∧ a < 0x60 then (ptr, valveConfig (a - 0x58) w s)
  else (ptr, s)

/-- A batch acts with SW and VD of its COMMIT frame; those two, and a RELEASE, are left out where a safe entry falls in the same cycle
(R643, R664).  No run bit acts before the configuration push has (R650).
[DEDUCED, unsafe: log 166; DEDUCED, unsafe: log 170; DEDUCED, unsafe: log 228] -/
def applyBatch (slots : List (Nat × Word)) (sw vd : Nat) (outputs : Bool) (s : State) : State :=
  if outputs then
    let s := (slots.foldl applySlot (none, s)).2
    let s := s.setField { s.field with sw, vd }
    swSettleAll (if s.field.pushed then (List.range 8).foldl (fun s n => wandRunBit n (decide (vd / 2 ^ n % 2 = 1)) s) s else s)
  else swSettleAll ((slots.filter fun x => x.1 != 6).foldl applySlot (none, s)).2

/-! ### Bridge (R642–R645, R648–R655, R659, R672) -/

/-- SAFE_NOW is to be set in a downlink frame (R653); a safe entry asks for it up to the last frame of the release.
[DEDUCED, unsafe: log 228] -/
def safeNowDue (s : State) : Bool := s.ez.link == .lost || s.sheet.hold || s.sb.cls == 3 || (s.ez.safeHeld && !s.ez.relOut)

/-- The batch numbered `id` whose last frame leaves is the release of a safe state (R655).  [DEDUCED, unsafe: log 228] -/
def releaseOut (id : Nat) (s : State) : State := if s.ez.relId = some id then { s with ez := { s.ez with relOut := true } } else s

/-- A release on its way is gone: the safe state goes on waiting for one (R655).  [DEDUCED, unsafe: log 228] -/
def releaseGone (s : State) : State := { s with ez := { s.ez with release := false, relId := none, relOut := false } }

/-- An acknowledgement names the release: it has acted, and a SAFE that the field die reports from now on is a new entry (R654, R655).
[DEDUCED, unsafe: log 228] -/
def releaseActed (ack : Nat) (s : State) : State :=
  if s.ez.sent.any fun b => b.seq == ack && s.ez.relId == some b.id then
    { s with ez := { s.ez with safeHeld := false, safeRep := false, relId := none, relOut := false } }
  else s

/-- Complete the ring commands that `p` selects among those on their way to the field die.  [DEDUCED, unsafe: log 168] -/
def ezComplete (p : Exec → Bool) (st : Status) (detail : Nat) (s : State) : State :=
  (List.range 4).foldl (fun s r =>
    match (s.ring r).exec with
    | some e =>
      if 0x50 ≤ dOp e.d ∧ dOp e.d ≤ 0x53 ∧ e.stage ≠ .fetching ∧ p e then
        let s := if dOp e.d = 0x51 ∧ dU8 e.d 0x10 = 1 ∧ st = .ok then
            { s with ez := { s.ez with runAck := Nat.lor s.ez.runAck (2 ^ dTarget e.d) } } else s
        complete r st (if dOp e.d = 0x50 ∧ st = .ok then dU32 e.d 0x1C else 0) detail s
      else s
    | none => s) s

/-- The link leaves READY or the bridge loses its field die: commands on their way fail (R645).  [DEDUCED, unsafe: log 168] -/
def ezFail (s : State) : State := ezComplete (fun _ => true) .fault 3 { s with ez := { s.ez with cmds := [] } }

/-- EZ_SW_CMD after a write of `new` to the bits of `mask` (R645). -/
def overMask (old mask new : Nat) : Word := w32 (Nat.lor (Nat.land old (65535 - mask)) (Nat.land new mask))

/-- The bridge learns of a safe entry (R654, R674); the bits of a SWITCH_SET accepted in the same cycle go over the load (R665). -/
def bridgeSafe (cause : Nat) (s : State) : State :=
  let s := bump (ezKey 0x44) (raise .ez 0 2 2 [(cause : Nat)] s)
  let s := putNow (ezKey 8) (w32 ((ezSafeState s).toNat % 65536))
    { s with regs := { s.regs with pend := s.regs.pend.del (ezKey 8), act := s.regs.act.del (ezKey 8) } }
  let s := match s.ez.lastSet with
    | some (t, mask, new) =>
      if t = s.tk.now then putLater (ezKey 8) 0 (overMask ((s.wr (ezKey 8) 0).toNat % 65536) mask new) s else s
    | none => s
  { s with ez := { s.ez with safeHeld := true, lossDue := false } }

/-- The values of R650's configuration push.  [DEDUCED, unsafe: log 170] -/
def pushSlots (s : State) : List (Nat × Word) :=
  [(1, ezSafeState s), (2, s.acting (ezKey 0x1C) 0x00FFFFFF), (3, s.acting (ezKey 0x20) 0), (4, s.acting (ezKey 0x24) 3),
   (5, s.acting (ezKey 0xC) 0)]

/-- The link enters NOT_READY; its first batch is the configuration push (R650).  [DEDUCED, unsafe: log 164] -/
def enterNotReady (s : State) : State :=
  let e := (releaseGone s).ez
  { s with ez := { e with link := .notReady, acks := 0, hellos := 0, pushAck := false, pushId := some e.nextId, again := [], sent := [],
                          cur := some { id := e.nextId, slots := pushSlots s }, nextId := e.nextId + 1 } }

/-- Form the batch of a frame boundary from what is pending (R642); written values wait for the first frame after the link becomes READY (R90).
[DESIGN CHOICE, safe: log 16; DEDUCED, unsafe: log 170] -/
def formBatch (s : State) : State :=
  let now := s.tk.now
  let ready := s.ez.link == .ready
  let near := ready && ((s.regs.pend.any fun e => isFrameKey e.1 && decide (now < e.2 + 41)) || s.ez.cmds.any fun c => decide (now < c.at_ + 41))
  let take := !near || openBool s
  let s := if near then spend s else s
  let goes := fun (t : Nat) => ready && (decide (t + 41 ≤ now) || take)
  let due := frameRegs.filter fun r => match s.regs.pend.find r.1 with | some t => goes t | none => false
  let s := actTaken (fun k => ready && isFrameKey k) take s
  let cmds := s.ez.cmds.filter fun c => goes c.at_
  let id := s.ez.nextId
  let slots := due.filterMap (fun r => r.2.2.map fun a => (a, s.acting r.1 r.2.1)) ++ (cmds.map (·.slots)).flatten ++
    (if s.ez.release then [(6, 0)] else [])
  let run := cmds.foldl (fun run c => match c.run with
    | some (n, true) => Nat.lor run (2 ^ n)
    | some (n, false) => if run / 2 ^ n % 2 = 1 then run - 2 ^ n else run
    | none => run) s.ez.run
  let off := cmds.foldl (fun a c => match c.run with | some (n, _) => if a / 2 ^ n % 2 = 1 then a - 2 ^ n else a | none => a) s.ez.runAck
  let s := { s with ez := { s.ez with cmds := s.ez.cmds.filter (fun c => !goes c.at_), release := false, run,
                                      relId := if s.ez.release then some id else s.ez.relId, runAck := off, nextId := id + 1,
                                      cur := some { id, slots } } }
  let s := cmds.foldl (fun s c => setStage c.ring (.batch id) s) s
  (List.range 4).foldl (fun s r =>
    match (s.ring r).exec with
    | some e =>
      let acted := if dOp e.d = 0x52 then !s.regs.pend.has (ezKey 8)
        else dOp e.d == 0x53 && !([0x1C, 0x20, 0x24] : List Nat).any fun o => s.regs.pend.has (ezKey o)
      if e.stage = .waiting ∧ acted then setStage r (.batch id) s else s
    | none => s) s

/-- Send one downlink frame of the batch under way (R636, R642).  [DEDUCED, unsafe: log 166] -/
def sendDown (s : State) : State :=
  let s := match s.ez.cur with
    | some _ => s
    | none =>
      match s.ez.again with
      | b :: rest => { s with ez := { s.ez with again := rest, cur := some { id := b.id, slots := b.slots } } }
      | [] => formBatch s
  match s.ez.cur with
  | none => s
  | some b =>
    let (a, w) := b.slots.getD b.done (0, 0)
    let last := decide (b.done + 1 ≥ b.slots.length)
    let s := if last then releaseOut b.id s else s
    let e := s.ez
    let safe := safeNowDue s
    let d : DownFrame := { seq := e.seq, sw := (ezSwCmd s).toNat % 65536, vd := e.run, ack := e.upSeq, addr := a, data := w, commit := last,
                           safeNow := safe, first := b.done == 0 }
    let sent := e.sent.map fun (x : SentBatch) => ({ x with age := x.age + 1 } : SentBatch)
    { s with ez := { e with down := some d, safeNow := safe, seq := (e.seq + 1) % 256,
                            cur := if last then none else some { b with done := b.done + 1 },
                            sent := if last then sent ++ [{ id := b.id, slots := b.slots, seq := e.seq }] else sent } }

/-- FRAME_BOUNDARY (R641, R642, R649). -/
def frameBoundary (s : State) : State :=
  if s.isOn 18 then
    let t := boundary 4000 s.ez.frameAt s.tk.now
    let s := advanceTo t s
    let s := { s with ez := { s.ez with frameAt := t } }
    if s.ez.link = .powering then
      if s.ez.hellos ≥ 2 then sendDown (enterNotReady s) else s
    else sendDown s
  else s

def execFrameBoundary (s : State) : Out := .next (mainOn s (frameBoundary s))

/-- BATCH_RESEND (R644): the oldest batch not acknowledged by the end of the fourth frame after its last is sent again. -/
def batchResend (s : State) : State :=
  match s.ez.sent.find? fun b => decide (b.age ≥ 4) with
  | some b =>
    if s.isOn 18 then
      { s with ez := { s.ez with sent := s.ez.sent.filter (fun x => x.id != b.id), again := s.ez.again ++ [b] } }
    else s
  | none => s

def execBatchResend (s : State) : Out := .next (mainOn s (batchResend s))

/-- DOWNLINK_FRAME (R638, R641, R643, R649, R652, R664): the field die, once it has judged a downlink good, starts its uplink of the period;
it then judges the period's downlink: `line` holds the half-bits of the frame that the line inverted, none where it brought no SYNC in time.
[DESIGN CHOICE, safe: log 215] -/
def downlinkFrame (line : Option Nat) (x : FieldIn) (s : State) : State :=
  if s.field.powered then
    let s := if s.field.joined then sendUplink (s.ez.frameAt + 1240) x s else s
    let d := s.ez.down
    let s := advanceTo (if d.isSome then s.ez.frameAt + 2800 else s.tk.now) { s with ez := { s.ez with down := none } }
    let f := s.field
    match line.bind fun flip => d.bind (DownFrame.received flip) with
    | some d =>
      let staged : Option (List (Nat × Word)) :=
        if d.first then some [(d.addr, d.data)]
        else match f.staged with
          | some l => if d.seq = (f.lastSeq + 1) % 256 then some (l ++ [(d.addr, d.data)]) else none
          | none => none
      let s := s.setField { f with joined := true, goodSeq := d.seq, lastSeq := d.seq, missed := 0,
                                   staged := if d.commit then none else staged }
      let s := heldTold d.ack s
      let enter := d.safeNow && !f.safe
      let s := if d.safeNow then fieldSafe 2 s else s
      match d.commit, staged with
      | true, some l => applyBatch l d.sw d.vd (!enter) s
      | _, _ => s
    | none => if f.joined then s.setField { f with missed := f.missed + 1, staged := none } else s
  else s

def execDownlinkFrame (line : Option Nat) (x : FieldIn) (s : State) : Out := .next (mainOn s (downlinkFrame line x s))

/-- DOWNLINK_WATCHDOG: the fifth downlink period in a row without a good frame (R652). -/
def downlinkWatchdog (s : State) : State := if s.field.missed ≥ 5 then fieldSafe 1 s else s

def execDownlinkWatchdog (s : State) : Out := .next (mainOn s (downlinkWatchdog s))

/-- HELLO_UPLINK: every 4 µs on the field die's own timing, once domain 149 is ON and until it first judges a downlink good (R649). -/
def helloUplink (x : FieldIn) (s : State) : State :=
  if fieldOn s 149 && !s.field.joined then
    let s := match s.field.helloAt with | some t => advanceClk (t + 4000) s | none => s
    sendUplink s.tk.now x (s.setField { s.field with helloAt := some s.tk.clk })
  else s

def execHelloUplink (x : FieldIn) (s : State) : Out := .next (mainOn s (helloUplink x s))

/-- Levels that differ from those of the previous good uplink (R659). -/
def inChange (u : UpFrame) (s : State) : State :=
  match s.ez.inp with
  | none => s
  | some old =>
    let diff := (List.range 24).filter fun n => old / 2 ^ n % 2 != u.inp / 2 ^ n % 2
    if diff.isEmpty then s
    else
      let s := diff.foldl (fun s n => sqRecord (ezKey 0x2C) n s) s
      raiseTimed .ez 0 0x20 0 [((diff.foldl (fun a n => a + 2 ^ n) 0 : Nat) : Int), (u.inp : Nat)] u.at_ s

/-- The run bit of a driver that reports no run is cleared, once the batch that set it has been acknowledged (R691). -/
def runReport (u : UpFrame) (s : State) : State :=
  if 0x40 ≤ u.addr ∧ u.addr < 0x48 then
    let n := u.addr - 0x40
    if s.ez.runAck / 2 ^ n % 2 = 1 ∧ s.ez.run / 2 ^ n % 2 = 1 ∧ fld u.data 28 3 ≠ 1 then
      { s with ez := { s.ez with run := s.ez.run - 2 ^ n, runAck := s.ez.runAck - 2 ^ n } }
    else s
  else s

/-- The batches that an uplink's ACK names are acknowledged (R644, R645).
[DESIGN CHOICE, unsafe: log 4; DEDUCED, unsafe: log 165] -/
def takeAck (ack : Nat) (s : State) : State :=
  match s.ez.sent.find? fun b => b.seq == ack with
  | some b =>
    let s := { s with ez := { s.ez with sent := s.ez.sent.filter (fun x => x.id != b.id), pushAck := s.ez.pushAck || s.ez.pushId == some b.id } }
    ezComplete (fun e => e.stage == .batch b.id) .ok 0 s
  | none => s

/-- A good uplink at the bridge.  [DEDUCED, unsafe: log 165; DEDUCED, unsafe: log 228] -/
def goodUplink (u : UpFrame) (s : State) : State :=
  let hello := decide (u.flags / 128 % 2 = 1)
  let s := inChange u s
  let lag := !hello && decide (u.ack ≠ (s.ez.seq + 254) % 256) && s.ez.link != .powering
  let s := heldHeard u.addr u.data (releaseActed u.ack (if lag then bump (ezKey 0x40) s else s))
  let safe := decide (u.flags % 2 = 1)
  let enter := safe && !s.ez.safeRep && !s.ez.safeHeld
  let s := { s with ez := { s.ez with
    upSeq := u.seq, inp := some u.inp, stale := false, swOn := u.swOn, missed := 0, safeRep := safe,
    slots := s.ez.slots.put u.addr (slotKept u.addr u.data), hellos := if hello then s.ez.hellos + 1 else 0, acks := if hello then 0 else s.ez.acks + 1 } }
  let s := if enter then bridgeSafe u.cause s else s
  let s := takeAck u.ack (runReport u s)
  match s.ez.link with
  | .notReady =>
    if s.ez.acks ≥ 4 ∧ s.ez.pushAck then
      let s := raise .ez 0 0 0 [] { s with ez := { s.ez with link := .ready } }
      if s.ez.lossDue then bridgeSafe 1 s else s
    else s
  | .lost => if !hello ∨ s.ez.hellos ≥ 2 then enterNotReady s else s
  | _ => s

/-- UPLINK_FRAME: the bridge's uplink period ends with a good frame or without one (R638, R641, R648, R659, R672); `line` is as that of
DOWNLINK_FRAME.  [DEDUCED, unsafe: log 164; DESIGN CHOICE, safe: log 215] -/
def uplinkFrame (line : Option Nat) (s : State) : State :=
  if s.isOn 18 then
    let u := s.ez.up
    let s := advanceTo (match u with | some u => u.at_ + 2600 | none => s.tk.now) { s with ez := { s.ez with up := none } }
    match line.bind fun flip => u.bind (UpFrame.received flip) with
    | some u => goodUplink u s
    | none =>
      if s.ez.link = .powering then { s with ez := { s.ez with hellos := 0 } }
      else bump (ezKey 0x3C) { s with ez := { s.ez with missed := s.ez.missed + 1, acks := 0, hellos := 0 } }
  else s

def execUplinkFrame (line : Option Nat) (s : State) : Out := .next (mainOn s (uplinkFrame line s))

/-- LINK_LOST: the fifth uplink period in a row without a good frame (R672). -/
def linkLost (s : State) : State :=
  if s.isOn 18 ∧ s.ez.missed ≥ 5 ∧ (s.ez.link = .notReady ∨ s.ez.link = .ready) then
    let e := (releaseGone s).ez
    ezFail (raise .ez 0 1 2 [] { s with ez := { e with link := .lost, stale := true, acks := 0, cur := none, again := [], sent := [] } })
  else s

def execLinkLost (s : State) : Out := .next (mainOn s (linkLost s))

/-! ### Field die power (R646, R647, R673, R675, R708) -/

/-- Field domain `d` becomes ON; the supervisor then powers 150 to 159 where it is 149 (R647). -/
def fieldDomUp (d : Nat) (s : State) : State :=
  if s.field.powered ∧ d < 160 ∧ (s.dom d).st = .up then
    let s := s.setDom d { st := .on, target := true }
    let s := if d = 149 then (List.range' 150 10).foldl (fun s k => s.setDom k { st := .up, target := true }) s else s
    swSettleAll s
  else s

/-- FIELD_DIE_POWER_UP: barrier power is good: domain 148 is ON and the supervisor powers 149 (R647).
[DESIGN CHOICE, unsafe: log 175] -/
def fieldDiePowerUp (s : State) : State :=
  if s.isOn 18 ∧ s.variant.hasField ∧ !s.field.powered then
    (s.setDom 148 { st := .on, target := true }).setDom 149 { st := .up, target := true } |>.setField { powered := true, poweredAt := s.tk.clk }
  else s

def execFieldDiePowerUp (s : State) : Out := .next (mainOn s (fieldDiePowerUp s))

/-- Barrier power is lost (R673, R674): the safe state at once, and every output off after the hold-up time; `reported` holds where an
uplink reported the loss before the logic failed.  [DESIGN CHOICE, unsafe: log 174] -/
def barrierLoss (reported : Bool) (s : State) : State :=
  if s.field.powered then
    let was := s.field.safe
    let s := fieldSafe 3 s
    let s := if reported && s.isOn 18 && !s.ez.safeRep then bridgeSafe 3 { s with ez := { s.ez with safeRep := true } } else s
    let due := !reported && !was
    let s := s.setField {}
    { s with ez := { s.ez with up := none, lossDue := s.ez.lossDue || due }, doms := s.doms.keep fun d => decide (d < 148) }
  else s

def execBarrierPowerLoss (reported : Bool) (s : State) : Out := .next (mainOn s (barrierLoss reported s))

/-- Domain 18 becomes ON: the bridge starts from its reset values (R137, R675). -/
def easelUp (s : State) : State :=
  let e := s.ez
  { s with ez := { field := e.field, frameAt := s.tk.now, nextId := e.nextId, safeHeld := e.safeHeld, lossDue := e.lossDue } }

/-- Domain 18 leaves ON: barrier power and the link are gone (R143, R673). -/
def easelDown (s : State) : State :=
  let s := ezFail (barrierLoss false s)
  let e := s.ez
  { s with ez := { field := e.field, nextId := e.nextId, safeHeld := e.safeHeld, lossDue := e.lossDue } }

/-! ### Accepted levels and wire breaks (R657, R658, R669) -/

/-- The accepted level of input `n` becomes `b`. -/
def setLevel (n : Nat) (b : Bool) (s : State) : State :=
  let f := s.field
  if (f.level / 2 ^ n % 2 == 1) = b then s
  else inputSeen n b (s.setField { f with level := if b then f.level + 2 ^ n else f.level - 2 ^ n })

/-- The judged level of input `n` is accepted where it has held for the filter length, the input is whole and FGND_LOSS does not stand
(R657, R658, R669). -/
def acceptLevel (n : Nat) (s : State) : State :=
  let f := s.field
  let x := s.inputOf n
  if filterLength s ≤ x.run ∧ f.broken / 2 ^ n % 2 = 0 ∧ f.supply / 2 % 2 = 0 then setLevel n x.level s else s

/-- INPUT_ACCEPTED: `samples` samples in a row have found the terminal of input `n` at `mv` mV and `ua` µA.  The level they judge is
accepted once it has held for the filter length (R656, R657); a broken input reads 0 (R658), and during FGND_LOSS no change is
accepted (R669).  [DEDUCED, unsafe: log 216] -/
def inputAccepted (n : Nat) (mv : Int) (ua samples : Nat) (s : State) : State :=
  let f := s.field
  if n < 24 ∧ inOn s n then
    let x := s.inputOf n
    let b := judgeInput (bitOf f.inType n) x.level mv ua
    let run := if b == x.level then x.run + samples else samples
    acceptLevel n (s.setInput n { mv, ua, level := b, run })
  else s

def execInputAccepted (n : Nat) (mv : Int) (ua samples : Nat) (s : State) : Out := .next (mainOn s (inputAccepted n mv ua samples s))

/-- WIRE_BREAK: the input's current has stayed below 0.15 mA for 20 ms (R658); during FGND_LOSS its level waits (R669).
[DEDUCED, unsafe: log 216] -/
def wireBreak (n : Nat) (s : State) : State :=
  let f := s.field
  if n < 24 ∧ inOn s n ∧ bitOf f.inWb n ∧ f.broken / 2 ^ n % 2 = 0 then
    let s := s.setField { f with broken := f.broken + 2 ^ n }
    raise .ez 0 14 1 [(n : Nat)] (if f.supply / 2 % 2 = 0 then setLevel n false s else s)
  else s

def execWireBreak (n : Nat) (s : State) : Out := .next (mainOn s (wireBreak n s))

/-- WIRE_OK: the current has stayed above 0.25 mA for 20 ms (R658); the input reads its judged level again. -/
def wireOk (n : Nat) (s : State) : State :=
  let f := s.field
  if n < 24 ∧ inOn s n ∧ f.broken / 2 ^ n % 2 = 1 then
    raise .ez 0 15 0 [(n : Nat)] (acceptLevel n (s.setField { f with broken := f.broken - 2 ^ n }))
  else s

def execWireOk (n : Nat) (s : State) : Out := .next (mainOn s (wireOk n s))

/-! ### Latches (R670, R706) -/

/-- A switch or a valve driver is latched. -/
def fieldLatched (s : State) : Bool := (s.field.switches.any fun x => x.2.latched) || (List.range 8).any fun n => (s.valve n).latched

/-- The causes of all latches of the field die have ended (R670, R706); the bridge reaches it while the link is READY.
[DESIGN CHOICE, unsafe: log 220] -/
def fieldLatchEnded (s : State) : Bool :=
  ezReady s && (s.field.switches.all fun x => !x.2.latched || !x.2.hot) &&
    (List.range 8).all fun n => !(s.valve n).latched || valveLatchEnded s n

/-- The latches of the field die are cleared (R284, R670, R706).  [DESIGN CHOICE, unsafe: log 220] -/
def clearField (s : State) : State :=
  let s := (List.range 8).foldl (fun s n =>
    let v := s.valve n
    if v.latched then s.setValve n { v with latched := false, tripAt := none, idleAt := some s.tk.clk } else s) s
  swSettleAll (s.setField { s.field with switches := s.field.switches.map fun x => (x.1, { x.2 with latched := false }) })

/-! ### Field supply (R668, R700) -/

/-- Supply condition `k` begins, with its event's class and VFIELD where the event carries it.  [DEDUCED, unsafe: log 162] -/
def supplyOnset (k cls : Nat) (v : Option Int) (s : State) : State :=
  let f := s.field
  if f.powered ∧ f.supply / 2 ^ k % 2 = 0 then
    let s := s.setField { f with supply := f.supply + 2 ^ k, vfield := v.getD f.vfield }
    let s := raise .ez 0 (4 + k) cls (v.toList) s
    swSettleAll (legSettleAll (stopAllRuns 4 s))
  else s

/-- REVERSE, FGND_LOSS, SURGE and UNDERVOLT; VFIELD in 10 mV. -/
def execReverse (v : Int) (s : State) : Out := .next (mainOn s (supplyOnset 0 2 (some v) s))
def execFgndLoss (s : State) : Out := .next (mainOn s (supplyOnset 1 2 none s))
def execSurge (v : Int) (s : State) : Out := .next (mainOn s (supplyOnset 2 2 (some v) s))
def execUndervolt (v : Int) (s : State) : Out := .next (mainOn s (supplyOnset 3 1 (some v) s))

/-- SUPPLY_CONDITION_END: condition `k` (0 REVERSE, 1 FGND_LOSS, 2 SURGE, 3 UNDERVOLT) ends after 10 ms of good supply.
[DEDUCED, unsafe: log 216] -/
def supplyEnd (k : Nat) (s : State) : State :=
  let f := s.field
  if f.powered ∧ k < 4 ∧ f.supply / 2 ^ k % 2 = 1 then
    let s := swSettleAll (legSettleAll (s.setField { f with supply := f.supply - 2 ^ k }))
    let s := if k = 1 then (List.range 24).foldl (fun s n => if f.broken / 2 ^ n % 2 = 1 then setLevel n false s else acceptLevel n s) s else s
    if s.field.supply = 0 then raise .ez 0 8 0 [] s else s
  else s

def execSupplyConditionEnd (k : Nat) (s : State) : Out := .next (mainOn s (supplyEnd k s))

/-! ### Switch events (R660, R661, R663, R670, R671) -/

/-- Switch `n` latches off (R670). -/
def swLatch (n : Nat) (s : State) : State :=
  let k := swRestarts s n
  swEvent (raise .ez 0 10 2 [(n : Nat), (k : Nat)] (swSettle n (s.setSw n { s.sw n with latched := true, thermal := false })))

/-- SW_THERMAL_OFF: the junction reaches 165 °C. -/
def swThermalOff (n : Nat) (s : State) : State :=
  let x := s.sw n
  if n < 16 ∧ swDomOn s n ∧ x.on then
    if bitOf s.field.swConfig n then swEvent (swSettle n (s.setSw n { x with thermal := true, hot := true }))
    else swLatch n (s.setSw n { x with hot := true })
  else s

def execSwThermalOff (n : Nat) (s : State) : Out := .next (mainOn s (swThermalOff n s))

/-- SW_THERMAL_RESTART: the junction has cooled below 145 °C.  A switch that is to conduct turns on again, which is a restart, and the 17th
within 1 s latches it; one that is not only loses its thermal turn-off. -/
def swThermalRestart (n : Nat) (s : State) : State :=
  let x := s.sw n
  if n < 16 ∧ swDomOn s n ∧ x.hot then
    let cool := s.setSw n { x with hot := false, thermal := false }
    if x.thermal && swWanted cool n then
      if swRestarts s n ≥ 16 then swLatch n cool
      else
        let l := x.restarts.filter fun t => decide (s.tk.clk ≤ t + 1000000000)
        swSettle n (cool.setSw n { cool.sw n with restarts := s.tk.clk :: l })
    else cool
  else s

def execSwThermalRestart (n : Nat) (s : State) : Out := .next (mainOn s (swThermalRestart n s))

/-- SW_OVERLOAD: a limiting episode begins.  [DEDUCED, unsafe: log 167] -/
def swOverload (n : Nat) (s : State) : State :=
  let x := s.sw n
  if n < 16 ∧ swDomOn s n ∧ x.on then swEvent (raise .ez 0 9 1 [(n : Nat)] (s.setSw n { x with limiting := true })) else s

def execSwOverload (n : Nat) (s : State) : Out := .next (mainOn s (swOverload n s))

/-- SW_OPEN_LOAD. -/
def swOpenLoad (n : Nat) (s : State) : State :=
  let x := s.sw n
  if n < 16 ∧ swDomOn s n ∧ x.on ∧ !x.openLoad then swEvent (raise .ez 0 11 1 [(n : Nat)] (s.setSw n { x with openLoad := true })) else s

def execSwOpenLoad (n : Nat) (s : State) : Out := .next (mainOn s (swOpenLoad n s))

/-- SW_OPEN_LOAD_CLEAR. -/
def swOpenLoadClear (n : Nat) (s : State) : State :=
  if n < 16 ∧ swDomOn s n then s.setSw n { s.sw n with openLoad := false } else s

def execSwOpenLoadClear (n : Nat) (s : State) : Out := .next (mainOn s (swOpenLoadClear n s))

/-- SW_SHORT_SUPPLY. -/
def swShortSupply (n : Nat) (s : State) : State :=
  let x := s.sw n
  if n < 16 ∧ swDomOn s n ∧ !x.on ∧ !swClamping s n ∧ !x.shortSup then
    swEvent (raise .ez 0 12 1 [(n : Nat)] (s.setSw n { x with shortSup := true })) else s

def execSwShortSupply (n : Nat) (s : State) : Out := .next (mainOn s (swShortSupply n s))

/-- SW_SHORT_SUPPLY_CLEAR. -/
def swShortSupplyClear (n : Nat) (s : State) : State :=
  if n < 16 ∧ swDomOn s n then s.setSw n { s.sw n with shortSup := false } else s

def execSwShortSupplyClear (n : Nat) (s : State) : Out := .next (mainOn s (swShortSupplyClear n s))

/-- CLAMP_END: the clamp current has fallen below 10 mA; a held turn-on acts (R661, R663).  [DEDUCED, unsafe: log 163] -/
def clampEnd (n : Nat) (s : State) : State :=
  let x := s.sw n
  match x.clampAt with
  | some c =>
    if n < 16 ∧ swDomOn s n then
      let s := advanceClk c s
      let s := swSettle n (s.setSw n { x with clampAt := none, heldAt := none })
      match x.heldAt with
      | some t => if (s.sw n).on then swEvent (raise .ez 0 13 1 [(n : Nat), ((s.tk.clk - t) / 1000 : Nat)] s) else s
      | none => s
    else s
  | none => s

def execClampEnd (n : Nat) (s : State) : Out := .next (mainOn s (clampEnd n s))

/-! ### Ring commands (R281, R645, R679, R690, R691, R699) -/

/-- The variant has no field die (R13, R15). -/
def needField (s : State) : Option Nat := if s.variant.hasField then none else some 4

/-- The resource check of a valve command (R15, R679). -/
def needValve (d : List Byte) (s : State) : Option Nat :=
  let n := dTarget d
  if !s.variant.hasField then some 4
  else if n % 2 = 1 ∧ bitOf (s.acting (wnKey (n - 1) 0) 0x00190403) 31 then some 4
  else none

/-- STATE of driver `n` as the bridge last heard it. -/
def heardState (s : State) (n : Nat) : Nat := fld (s.ez.slots.get (0x40 + n) 0) 28 3

/-- The driver is RUNNING or DECAYING as far as the bridge knows. -/
def valveBusy (s : State) (n : Nat) : Bool := s.ez.run / 2 ^ n % 2 == 1 || heardState s n == 1 || heardState s n == 2

/-- Queue a valve command for the next frame boundary. -/
def valveQueue (r : Nat) (slots : List (Nat × Word)) (run : Option (Nat × Bool)) (s : State) : State :=
  let s := setStage r .waiting s
  { s with ez := { s.ez with cmds := s.ez.cmds ++ [{ ring := r, at_ := s.tk.now, slots, run }] } }

/-- VALVE_RUN. -/
def valveRun (r : Nat) (d : List Byte) (s : State) : State :=
  checked r d (needValve d) false (fun s =>
    let n := dTarget d
    if !ezReady s then complete r .busy 0 3 s
    else if dU8 d 0x10 = 1 then
      if valveBusy s n then complete r .busy 0 0x11 s
      else if fld (s.ez.slots.get (0x40 + n) 0) 5 1 = 1 ∨ s.ez.safeRep ∨ s.ez.safeHeld then complete r .fault 0 6 s
      else valveQueue r [(0x50 + n, w32 (dU8 d 0x11))] (some (n, true)) s
    else if s.ez.run / 2 ^ n % 2 = 1 then valveQueue r [] (some (n, false)) s
    else complete r .ok 0 0 s) s

def execValveRun (r : Nat) (s : State) : Out := .next (mainOn s (begin_ r 0x51 (valveRun r) s))

/-- VALVE_LOAD begins: its image is fetched (R261, R281). -/
def valveLoad (r : Nat) (d : List Byte) (s : State) : State :=
  checked r d (needValve d) false (fun s =>
    if !ezReady s then complete r .busy 0 3 s
    else if valveBusy s (dTarget d) then complete r .busy 0 0x11 s
    else startFetch r s) s

def execValveLoad (r : Nat) (s : State) : Out := .next (mainOn s (begin_ r 0x50 (valveLoad r) s))

/-- The fetched image of VALVE_LOAD goes out (R690). -/
def valveImage (r n : Nat) (words : List Word) (s : State) : State :=
  if ezReady s then valveQueue r ((0x40 + n, 0) :: words.map fun w => (0x48, w)) none s else complete r .fault 0 3 s

/-- SWITCH_SET. -/
def switchSet (r : Nat) (d : List Byte) (s : State) : State :=
  checked r d needField false (fun s =>
    if !ezReady s then complete r .busy 0 3 s
    else
      let m := dU16 d 0x10
      let s := setStage r .waiting { s with ez := { s.ez with lastSet := some (s.tk.now, m, dU16 d 0x12) } }
      putLater (ezKey 8) 0 (overMask ((s.wr (ezKey 8) 0).toNat % 65536) m (dU16 d 0x12)) s) s

def execSwitchSet (r : Nat) (s : State) : Out := .next (mainOn s (begin_ r 0x52 (switchSet r) s))

/-- FIELD_SET. -/
def fieldSet (r : Nat) (d : List Byte) (s : State) : State :=
  checked r d needField false (fun s =>
    if !ezReady s then complete r .busy 0 3 s
    else
      putLater (ezKey 0x24) 3 (w32 (dU8 d 0x18)) <| putLater (ezKey 0x20) 0 (w32 (dU32 d 0x14)) <|
        putLater (ezKey 0x1C) 0x00FFFFFF (w32 (dU32 d 0x10)) (setStage r .waiting s)) s

def execFieldSet (r : Nat) (s : State) : Out := .next (mainOn s (begin_ r 0x53 (fieldSet r) s))

/-! ### Status registers (R676) -/

def ezStatus (s : State) : Nat :=
  let l := if !s.isOn 18 then 0 else match s.ez.link with | .powering => 1 | .notReady => 2 | .ready => 3 | .lost => 4
  at_ 4 1 (b2n s.ez.safeNow) + at_ 3 1 (b2n s.ez.safeRep) + at_ 0 3 l

/-- EZ_SW_STATUS: latched switches as their diagnostic words report them, and SW_ON. -/
def ezSwStatus (s : State) : Nat :=
  (List.range 16).foldl (fun a n => a + 2 ^ (16 + n) * b2n (fld (s.ez.slots.get (0x10 + n) 0) 16 4 == 6)) 0 + s.ez.swOn % 65536

def ezInLevel (s : State) : Nat := at_ 31 1 (b2n s.ez.stale) + at_ 0 24 (s.ez.inp.getD 0)

/-- An uplink word as its register shows it: its reset value while the link is not READY (R709).  [DEDUCED, unsafe: log 162] -/
def wnSlot (s : State) (addr : Nat) (reset : Word) : Word := if ezReady s then s.ez.slots.get addr reset else reset

/-- State of field domain `d` in HUB_DOM_STATUS: ON by the latest slot 0x03 while READY, else OFF (R647). -/
def fieldDomOn (s : State) (d : Nat) : Bool := ezReady s && bitOf (s.ez.slots.get 3 0) (d - 148)

end Sys2Proof.Machine
end

