-- ==== Sys2Proof/Machine/Domains.lean ====
section
/-!
DEFINITION. Machine/Domains.lean: stops (R791–R799, R816, R824), fences (R800–R803, R805, R806), power domains and their
transitions (R139–R143, R166–R169, R175, R177), readmission (R810–R813, R273, R274) and what a domain's coming and going means to
its block.
-/
namespace Sys2Proof.Machine

/-! ### Stops -/

def StopSource.bit : StopSource → Nat | .pin => 0 | .command => 1 | .ring => 2 | .internal => 3

/-- The order in which sources of one class take SB_LAST_STOP: pin, ring, command, internal (R816). -/
def StopSource.rank : StopSource → Nat | .pin => 0 | .ring => 1 | .command => 2 | .internal => 3

/-- The source that SB_LAST_STOP records now, by its rank (R816). -/
def lastRank (w : Word) : Nat := match fld w 28 4 with | 1 => 0 | 3 => 1 | 2 => 2 | _ => 3

/-- What a stop of class `cls` does to one channel (R791, R794, R290, R412). -/
def stopChannel (cls n : Nat) (s : State) : State :=
  if s.present n then
    let s := cancelStart n .fault 7 (cancelQueued n .superseded 0 s)
    let s := endRun n .stop 0 false s
    if cls = 1 then fadeChannel n s else cutChannel n s
  else s

/-- SB_LAST_STOP of a stop (R823). -/
def StopEntry.word (e : StopEntry) : Word :=
  w32 (at_ 28 4 (e.src.bit + 1) + at_ 24 3 e.cls + (if e.src = .ring then at_ 16 5 e.x else if e.src = .internal then at_ 0 8 e.x else 0))

/-- The stop bath with `e` among the stops that entered in this hub cycle (R816, R817). -/
def StopBath.noting (b : StopBath) (clk : Nat) (e : StopEntry) : StopBath :=
  if b.freshAt = clk ∧ b.fresh ≠ [] then { b with fresh := b.fresh ++ [e] }
  else { b with fresh := [e], freshAt := clk, oldCls := b.cls, oldSources := b.sources, oldCauses := b.causes }

/-- A stop enters: `x` is its cause or its sending node, `unsent` whether a rack STOP was asked and not sent (R791–R798).  Of stops that
enter in one hub cycle SB_LAST_STOP shows the first source of the highest class in R816's order.
[DEDUCED, unsafe: log 79; DEDUCED, unsafe: log 80; DESIGN CHOICE, unsafe: log 211] -/
def enterStop (cls : Nat) (src : StopSource) (x : Nat) (unsent : Bool) (s : State) : State :=
  let e : StopEntry := { cls, src, x, unsent }
  let b := s.sb.noting s.tk.clk e
  let code := src.bit + 1
  let causes := if src = .internal ∧ !b.causes.contains x then b.causes ++ [x] else b.causes
  let b' := { b with sources := Nat.lor b.sources (2 ^ src.bit), causes }
  let s :=
    if b.cls = 0 then
      raise .sb 0 0 2 [cls, code, x, b2n unsent]
        { s with sb := { b' with cls, lastStop := e.word, stopTime := s.tk.now % 2 ^ 32 } }
    else if b.cls < cls then
      raise .sb 0 1 2 [cls, code] { s with sb := { b' with cls, lastStop := e.word, stopTime := s.tk.now % 2 ^ 32 } }
    else if b.oldCls < cls ∧ b.cls = cls ∧ src.rank < lastRank b.lastStop then { s with sb := { b' with lastStop := e.word } }
    else { s with sb := b' }
  s.channelList.foldl (fun s n => stopChannel cls n s) s

/-! ### Domains leaving ON -/

/-- SB_CONFIG (R823). -/
def sbConfig (s : State) : Word := s.wr 0x50004 0x00010008

/-- HUB_DOM_ENABLE's bit for a hub domain (R135, R143). -/
def domEnabled (s : State) (d : Nat) : Bool := bitOf (s.wr 0x41044 (if s.variant.hasField then 0x67E00 else 0x27E00)) d

/-- A domain that HUB_DOM_ENABLE switches (R135). -/
def isSwitched (s : State) (d : Nat) : Bool :=
  (decide (9 ≤ d) && decide (d ≤ 14)) || d == 17 || (d == 18 && s.variant.hasField)

/-- A domain that can be fenced and that the variant has (R3, R801, R12). -/
def isFenceable (s : State) (d : Nat) : Bool :=
  isSwitched s d || d == 18 || (decide (20 ≤ d) && decide (d < 20 + s.variant.channels)) ||
    (decide (84 ≤ d) && decide (d < 84 + s.variant.channels))

/-- The channel that a CI or MI domain serves: a gang's domains serve ch 2k (R802). -/
def domChannel (s : State) (d : Nat) : Nat :=
  let n := if d ≥ 84 then d - 84 else d - 20
  if s.gangOdd n then n - 1 else n

/-- The scrubber's domain leaves ON: a pass under way ends (R781).  [DEDUCED, unsafe: log 19] -/
def scrubDown (s : State) : State := { s with mm := { s.mm with scrubbing := false, passDue := false } }

/-- What a domain's leaving ON means to its block (R803, R530, R581, R631, R734, R673, R460).  [DEDUCED, unsafe: log 45] -/
def domLeaves (d : Nat) (fenced : Bool) (s : State) : State :=
  if d = 9 then peDown s
  else if d = 10 then fxDown s
  else if d = 11 ∨ d = 12 then portOff (d - 11) s
  else if d = 13 then canDown (if fenced then 5 else 4) s
  else if d = 17 then scrubDown s
  else if d = 18 then easelDown s
  else if 20 ≤ d ∧ d < 84 then releaseGrant (d - 20) s
  else if 84 ≤ d ∧ d < 148 then miDown (d - 84) s
  else s

/-- The spool port of a CI or MI domain, and the producers that a domain holds (R319, R337). -/
def domProducer (d : Nat) : Option Nat :=
  if d = 9 then some prodPe
  else if d = 10 then some prodFx
  else if 20 ≤ d ∧ d < 84 then some (prodCi (d - 20))
  else if 84 ≤ d ∧ d < 148 then some (prodMi (d - 84))
  else none

/-! ### Transitions -/

/-- A power-up begins (R140). -/
def startUp (d : Nat) (s : State) : State :=
  s.setDom d { s.dom d with st := .up, phase := .rail, since := s.tk.clk, fence := false, testing := false }

/-- A power-down begins (R141). -/
def startDown (d : Nat) (s : State) : State :=
  let s := domLeaves d false s
  s.setDom d { s.dom d with st := .down, phase := .quiesce, since := s.tk.clk, fence := false, whole := false, readmit := false,
                            testing := false }

/-- A transition has ended: it is counted and timed (HUB_DOM_STATUS).  [DEDUCED, unsafe: log 35] -/
def endTransition (d : Nat) (st : DomState) (s : State) : State :=
  let x := s.dom d
  s.setDom d { x with st, phase := .idle, trans := (x.trans + 1) % 256, lastUs := min 255 ((s.tk.clk - x.since) / 1000) }

/-- A domain with no transition under way goes toward its target (R168); a FENCED one only by readmission (R139). -/
def followTarget (d : Nat) (s : State) : State :=
  let x := s.dom d
  match x.st with
  | .off | .failed => if x.target then startUp d s else s
  | .fenced => if x.target && x.readmit then startUp d s else s
  | .on => if x.target then s else startDown d s
  | .up | .down => s

/-- Words that stand at a crossing of domain `d` with REQ raised and not yet latched (R148). -/
def wordsAt (d : Nat) (s : State) : Nat :=
  (s.xings.filter fun e => (e.1 / 256 == d || e.1 % 256 == d) && e.2.req && !e.2.ack).length

/-- Every crossing of domain `d` is isolated; `words` words in flight there, besides those that stand at a crossing that is stuck, are
discarded and counted (R141, R142). -/
def isolate (d words : Nat) (s : State) : State :=
  bumpBy cntXing 0xFFFFFFFF (words + wordsAt d s) { s with xings := s.xings.keep fun k => k / 256 != d && k % 256 != d }

/-- A target is requested (R166–R168). -/
def setTarget (d : Nat) (on : Bool) (s : State) : State := followTarget d (s.setDom d { s.dom d with target := on })

/-! ### Fences -/

/-- The table fetch of ring `r`'s command serves nothing any more. -/
def voidTable (r : Nat) (s : State) : State :=
  let f := fun (q : Req) => if q.issuer = .table r then ({ q with issuer := .table (r + 4) } : Req) else q
  { s with hl := { s.hl with reqs := s.hl.reqs.map f, inbox := s.hl.inbox.map fun e => (f e.1, e.2) } }

/-- The channel commands that a fence finds in execution (R293, R259): one whose effect has not acted completes FAULT, and
what a SET_CAL has stored for its boundary is withdrawn.  [DEDUCED, unsafe: log 43] -/
def fenceCommands (n : Nat) (s : State) : State :=
  (List.range 4).foldl (fun s r =>
    match (s.ring r).exec with
    | some e =>
      let mine := match dChannel e.d with
        | some k => decide ((if s.gangOdd k then k - 1 else k) = n)
        | none => false
      if mine && e.stage != .queued then
        let cal := dOp e.d == 0x29
        let acted := e.stage == .acted || (cal && (calWrites e.d).all fun w => !s.regs.pend.has w.1)
        let s := if cal then (calWrites e.d).foldl (fun s w => dropLater w.1 w.2.2 s) s else s
        let s := { s with sp := { s.sp with making := s.sp.making.filter fun m => !(m.2.snapshot && m.2.src == n) } }
        let s := s.setMi n { s.mi n with snapWait := false }
        complete r (if acted then .ok else .fault) 0 5 (if e.stage = .fetching then voidTable r s else s)
      else s
    | none => s) s

/-- What a fence of a CI or MI domain does to its channel (R802, R500, R818): the run ends and the channel is cut.  A fence of the CI that
runs the channel loses its step's record; the hub then ends the run and times DISCH_US from the fence.
[DEDUCED, unsafe: log 43] -/
def fenceChannel (d cause : Nat) (s : State) : State :=
  let n := domChannel s d
  let hub := d == ciDom n
  let s := if hub then s.setCh n { s.ch n with step := none } else s
  let s := cancelStart n .fault 5 s
  let s := endRun n .fence cause hub s
  let s := if hub && (s.ch n).st != .dark then s.setCh n { s.ch n with fade := none } else s
  let s := cutChannel n s
  fenceCommands n (calAbandon n true (s.setCh n { s.ch n with preset := none }))

/-- The stop bath fences domain `d` (R800–R803, R337); `words` were in flight at its crossings.  A domain that cannot be fenced enters a
stop of class CUT_FIELD (R801, R804), and one that is not ON is not fenced again (R820).
[DESIGN CHOICE, safe: log 34; DESIGN CHOICE, unsafe: log 41] -/
def fence (d cause stopCause words : Nat) (s : State) : State :=
  if isFenceable s d then
    if s.isOn d then
      let s := isolate d words s
      let s := s.setDom d { s.dom d with st := .down, phase := .isolate, fence := true, since := s.tk.clk, target := false,
                                         whole := false, readmit := false, testing := false }
      let s := if d ≥ 20 then fenceChannel d cause s else s
      let s := bump 0x5003C (raise .sb 0 3 2 [d, cause] s)
      let s := if d ≥ 20 then latchFault 2 cause (domChannel s d) s else s
      let s := domLeaves d true s
      match domProducer d with
      | some p => rollback p s
      | none => s
    else s
  else enterStop 3 .internal stopCause false s

/-! ### Readmission and channel commands that wait for domains -/

/-- The ring that executes opcode `op` for the channel of domain `d`. -/
def waitsOn (op d : Nat) (s : State) : Option (Nat × Exec) :=
  if d < 20 then none else
    findExec s fun e => dOp e.d == op && (match e.stage with | .domains l => l.contains d | _ => false)

/-- A phase as it stands after CH_READMIT: in service unless latched out of service, with no retry history and its integrator at 0 (R422). -/
def Phase.readmitted (p : Phase) : Phase :=
  { p.low.fresh with
    st := if p.st.out then p.st else PhState.inService, history := [], ramp := 64, back := false, integ := 0, runTrip := 0, tripped := false,
    tripNext := false, due := false, edges := [] }

/-- The phases `js` of channel `n` after CH_READMIT (R422). -/
def readmitPhases (js : List Nat) (c : Chan) : Chan := js.foldl (fun c j => c.setPhase j (c.phase j).readmitted) c

/-- A CI starts (R137, R138, R422): its logic starts from reset values, while loop state, counters, variables and limits stay in the CI state
macro (R136, R773) and the fields of R138 are kept. -/
def ciUp (n : Nat) (s : State) : State :=
  let m := if s.gangOdd n then n - 1 else n
  let js := if s.gangOdd n then [2, 3] else [0, 1]
  let c := readmitPhases js (s.ch m)
  let c := js.foldl (fun c j => c.setPhase j { c.phase j with known := true }) c
  if s.gangOdd n then s.setCh m c else
  let s := { s with regs := { s.regs with cnt := s.regs.cnt.del (dvKey n 0x30) } }
  s.setCh n { c with
    limited := false, chen := false, ic := 0, icReq := 0, cmds := {}, winQ := 0, winE := 0, winI := 0, winN := 0,
    freshSample := false, freshPrint := false, iShunt := none, runSum := 0, limRun := [], preset := none,
    presetAt := none, grant := 0, grantEnd := 0, vInteg := 0, trim := 0, trimSum := 0, trimN := 0,
    trimAt := s.tk.clk }

/-- After CH_READMIT of channel `n`: phases, NTRIPS, integrators and trim stand as R422 says, whichever domains it brought up. -/
def channelReadmitted (n : Nat) (s : State) : State :=
  let c := readmitPhases (s.ch n).phaseList (s.ch n)
  { s with regs := { s.regs with cnt := s.regs.cnt.del (dvKey n 0x30) } }.setCh n { c with vInteg := 0, trim := 0, trimSum := 0, trimN := 0, trimAt := s.tk.clk }

/-- Domain `d` of a CH_READMIT or CH_PARK is done: with the last one the command completes with `result`.
[DEDUCED, unsafe: log 44] -/
def domainDone (op d result : Nat) (s : State) : State :=
  match waitsOn op d s with
  | some (r, e) =>
    match e.stage with
    | .domains l =>
      let l := l.filter fun k => k != d
      let s := setStage r (.domains l) s
      if l.isEmpty then complete r .ok result 0 (if op = 0x22 then channelReadmitted (dTarget e.d) s else s) else s
    | _ => s
  | none => s

/-- A CH_READMIT that waits for domain `d` fails (R274, R812).  [DEDUCED, unsafe: log 44] -/
def readmitFails (d detail : Nat) (s : State) : State :=
  match waitsOn 0x22 d s with
  | some (r, _) => complete r .fault 0 detail s
  | none => s

/-- Domains of a channel, a gang's other pair included (R273, R274). -/
def channelDomains (s : State) (n : Nat) : List Nat := (misOf s n).map ciDom ++ (misOf s n).map miDom

/-- RESULT of CH_PARK (R256). -/
def parkResult (s : State) (n : Nat) (moved : Bool) : Nat :=
  if (channelDomains s n).any fun d => (s.dom d).st == .fenced then 2 else if moved then 0 else 1

/-- CH_PARK (R273, R285). -/
def chPark (r : Nat) (d : List Byte) (s : State) : State :=
  checked r d (needChannel d) false (fun s =>
    let n := dTarget d
    if (s.ch n).st ≠ .dark then complete r .busy 0 0x11 s
    else
      let moving := (channelDomains s n).filter fun k => (s.dom k).st == .on || (s.dom k).st == .up || (s.dom k).st == .down
      if moving.isEmpty then complete r .ok (parkResult s n false) 0 s
      else
        let s := setStage r (.domains moving) (calAbandon n true s)
        moving.foldl (fun s k => setTarget k false s) s) s

def execChPark (r : Nat) (s : State) : Out := .next (mainOn s (begin_ r 0x21 (chPark r) s))

/-- CH_READMIT (R274, R810). -/
def chReadmit (r : Nat) (d : List Byte) (s : State) : State :=
  checked r d (needChannel d) false (fun s =>
    let n := dTarget d
    let off := (channelDomains s n).filter fun k => (s.dom k).st != .on
    if off.isEmpty then complete r .ok 1 0 s
    else
      let s := setStage r (.domains off) s
      off.foldl (fun s k => setTarget k true (s.setDom k { s.dom k with readmit := true })) s) s

def execChReadmit (r : Nat) (s : State) : Out := .next (mainOn s (begin_ r 0x22 (chReadmit r) s))

/-- ISLAND_SELFTEST_DONE (R810, R812): `mask` holds the subtests passed, as SELFTEST KIND 0x00 numbers them.  A failure fences the domain
again; the spec gives that fence no cause number, so its cause is open.
[DESIGN CHOICE, safe: log 42; DESIGN CHOICE, unsafe: log 82] -/
def islandSelftestDone (d mask words : Nat) (s : State) : State :=
  let x := s.dom d
  if x.st = .on ∧ x.testing then
    let pass := if d < 84 then decide (mask % 16 = 15) else decide (mask / 16 % 4 = 3)
    if pass then s.setDom d { x with testing := false }
    else
      let s := raise .sb 0 6 2 [0, domChannel s d, mask] s
      let s := readmitFails d 0xB s
      spend (fence d (openNat s % 256) 0 words s)
  else s

def execIslandSelftestDone (d mask words : Nat) (s : State) : Out := .next (mainOn s (islandSelftestDone d mask words s))

/-- At a beacon the port of an island whose self-test has passed reopens with the next stream generation (R810). -/
def reopenPort (d : Nat) (s : State) : State :=
  let x := s.dom d
  if d ≥ 20 ∧ x.st = .on ∧ x.readmit ∧ !x.testing then
    let key := if d < 84 then d - 20 else 64 + (d - 84)
    let g := (s.streams.get key 0 + 1) % 256
    let s := { s.setDom d { x with readmit := false } with streams := s.streams.put key g }
    domainDone 0x22 d 0 (raise .sb 0 5 0 [d, g] s)
  else s

/-- SB_HUB_READMIT: a FENCED hub domain is powered up (R813). -/
def hubReadmit (bits : Word) (s : State) : State :=
  (List.range 20).foldl (fun s d =>
    if bitOf bits d && isSwitched s d && (s.dom d).st == .fenced then setTarget d true (s.setDom d { s.dom d with readmit := true })
    else s) s

/-! ### Phases of a transition -/

/-- DOMAIN_UP_PHASE_END (R140, R647): power-good, FLL lock, or reset release with the register copy; a field domain that the supervisor powers
is ON.  [DESIGN CHOICE, unsafe: log 4] -/
def upPhaseEnd (d : Nat) (s : State) : State :=
  let x := s.dom d
  if 148 ≤ d then fieldDomUp d s
  else if x.st = .up then
    match x.phase with
    | .rail => s.setDom d { x with phase := .fll }
    | .fll => s.setDom d { x with phase := .release }
    | .release => s.setDom d { x with phase := .beacon }
    | _ => s
  else s

def execDomainUpPhaseEnd (d : Nat) (s : State) : Out := .next (mainOn s (upPhaseEnd d s))

/-- DOM_FAIL (R175): power-good within 8 µs or FLL lock within 25 µs is missed; a CH_PARK that waits for the domain is done with it.
[DEDUCED, unsafe: log 44] -/
def domFail (d : Nat) (s : State) : State :=
  let x := s.dom d
  if x.st = .up ∧ (x.phase = .rail ∨ x.phase = .fll) then
    let why := if x.phase = .rail then 1 else 2
    let s := endTransition d .failed (s.setDom d { x with readmit := false, target := false })
    let s := domainDone 0x21 d (parkResult s (domChannel s d) true) s
    readmitFails d 8 (raise .hub 0 0x22 2 [d, why] s)
  else s

def execDomFail (d : Nat) (s : State) : Out := .next (mainOn s (domFail d s))

/-- QUIESCE_END (R141, R142): `words` are still in flight and are discarded.
[DESIGN CHOICE, safe: log 34; DESIGN CHOICE, unsafe: log 41] -/
def quiesceEnd (d words : Nat) (s : State) : State :=
  let x := s.dom d
  if x.st = .down ∧ x.phase = .quiesce then isolate d words (s.setDom d { x with phase := .isolate }) else s

def execQuiesceEnd (d words : Nat) (s : State) : Out := .next (mainOn s (quiesceEnd d words s))

/-- DOMAIN_DOWN_COMPLETE (R141, R168, R800). -/
def downComplete (d : Nat) (s : State) : State :=
  let x := s.dom d
  if x.st = .down ∧ x.phase ≠ .quiesce then
    let s := endTransition d (if x.fence then .fenced else .off) s
    let s := if d ≥ 20 then domainDone 0x21 d (parkResult s (domChannel s d) true) s else s
    followTarget d s
  else s

def execDomainDownComplete (d : Nat) (s : State) : Out := .next (mainOn s (downComplete d s))

/-- The scrubber starts with its domain. -/
def scrubUp (s : State) : State := { s with mm := { s.mm with passAt := s.tk.now } }

/-- What a domain's becoming ON means to its block (R137, R460, R675, R734, R771).  [DEDUCED, unsafe: log 45] -/
def domComes (d : Nat) (s : State) : State :=
  if d = 13 then canUp s
  else if d = 14 then encodersUp s
  else if d = 17 then scrubUp s
  else if d = 18 then easelUp s
  else if 20 ≤ d ∧ d < 84 then ciUp (d - 20) s
  else if 84 ≤ d ∧ d < 148 then miUp (d - 84) s
  else s

/-- The first beacon after reset release makes a domain ON and loads its local time (R140, R169).  A readmitted island goes on to its self-test; a readmitted hub
domain raises READMIT and follows its enable bit (R813). -/
def becomesOn (d : Nat) (s : State) : State :=
  let x := s.dom d
  if x.st = .up ∧ x.phase = .beacon then
    let s := endTransition d .on (s.setDom d { x with
      base := s.tk.beaconAt, anchor := s.tk.run, wait := 0, slew := 0, rate := 0, strobe := none, before := none, owes := false, beacons := 1 })
    let s := if d = 16 then { s with tk := { s.tk with startedAt := s.tk.clk } } else s
    let s := domComes d s
    if d < 20 then
      let s := if x.readmit then
          raise .sb 0 5 0 [d, 0] (s.setDom d { s.dom d with readmit := false, target := domEnabled s d })
        else s
      followTarget d s
    else followTarget d (s.setDom d { s.dom d with testing := x.readmit && x.target })
  else s

end Sys2Proof.Machine
end

