-- ==== Sys2Proof/Machine/Memories.lean ====
section
/-!
DEFINITION. Machine/Memories.lean: the macros of the main die (R773, R774), write-back of corrected words (R776, R787), the scrubber
(R781–R783, R785), the latches of unexposed and uncorrectable reads (R780, R786) and the memory march of SELFTEST (R815).
-/
namespace Sys2Proof.Machine

/-- Owner domain and words of a macro (R773); `none` where the variant has no such macro (R774). -/
def macroInfo (v : Variant) (i : Nat) : Option (Nat × Nat) :=
  if i < 0x40 then (if i < v.channels then some (20 + i, 1024) else none)
  else if i < 0x80 then (if i - 0x40 < v.channels then some (20 + (i - 0x40), 128) else none)
  else if i < 0xC0 then (if i - 0x80 < v.channels then some (84 + (i - 0x80), 64) else none)
  else if i < 0xD0 then some (4, 4096)
  else
    match i with
    | 0xD0 => some (1, 512)
    | 0xD1 => some (2, 8192)
    | 0xD2 => some (5, 2048)
    | 0xD3 => some (9, 8192)
    | 0xD4 => some (9, 128)
    | 0xD5 => some (10, 256)
    | 0xD6 => some (10, 1024)
    | 0xD7 => some (13, 512)
    | 0xD8 => some (14, 64)
    | 0xD9 => some (8, 128)
    | 0xDA => some (11, 256)
    | _ => none

/-- The channel that carries an event of a CI or MI macro (R788). -/
def macroChannel (i : Nat) : Option Nat := if i < 0xC0 then some (i % 0x40) else none

/-! ### The scrubber -/

def mmScrub (s : State) : Word := s.wr 0x4F024 0x8000003C
def scrubEn (s : State) : Bool := s.isOn 17 && bitOf (mmScrub s) 31
def scrubPeriod (s : State) : Nat := max 1 (fld (mmScrub s) 0 12) * 1000000000

/-- The first present macro at or above `i`. -/
def nextMacro (v : Variant) (i : Nat) : Option Nat := (List.range' i (0xDB - i)).find? fun k => (macroInfo v k).isSome

/-- A pass begins (R781). -/
def passBegin (s : State) : State :=
  { s with mm := { s.mm with scrubbing := true, smacro := 0, sword := 0, corrected := 0, passDue := false } }

/-- SCRUB_PASS_START (R781): at a multiple of PERIOD_S; with a pass still running the next one starts as soon as it ends. -/
def scrubPassStart (s : State) : State :=
  if scrubEn s then
    let s := advanceTo (boundary (scrubPeriod s) s.mm.passAt s.tk.now) s
    let s := { s with mm := { s.mm with passAt := s.tk.now } }
    if s.mm.scrubbing then { s with mm := { s.mm with passDue := true } } else passBegin s
  else s

def execScrubPassStart (s : State) : Out := .next (mainOn s (scrubPassStart s))

/-- The pass goes on to the next word, and ends after the last word of the last macro (R781, R782).  [DEDUCED, unsafe: log 97] -/
def scrubStep (s : State) : State :=
  let m := s.mm
  match macroInfo s.variant m.smacro with
  | some (_, words) =>
    if m.sword + 1 < words then { s with mm := { m with sword := m.sword + 1 } }
    else
      match nextMacro s.variant (m.smacro + 1) with
      | some k => { s with mm := { m with smacro := k, sword := 0 } }
      | none =>
        let s := raise .mm 0 2 0 [(m.passes + 1 : Nat), (m.corrected : Nat)]
          { s with mm := { m with scrubbing := false, passes := m.passes + 1 } }
        if s.mm.passDue then passBegin s else s
  | none => s

/-- What the scrubber finds at word `w` of macro `a` (R781): a recipe word that was never written is skipped, a word whose uncorrectable
error no write has replaced (R776) is uncorrectable again, and else `kind` says it.  [DESIGN CHOICE, unsafe: log 222] -/
def scrubKind (s : State) (a w kind : Nat) : Nat :=
  if a < 0x40 ∧ !(s.ch a).bank.has w then 0 else if s.mm.bad.contains (a, w) then 2 else kind

/-- 100 cycles of the clock that runs macro `a`'s port, in ns: its owner's, or the hub's while the owner is not ON (R782, R144). -/
def scrubGap (s : State) (a : Nat) : Nat :=
  match macroInfo s.variant a with
  | some (d, _) => if !s.isOn d then 100 else if 84 ≤ d then 611 else if 20 ≤ d then 125 else if d = 14 then 500 else 100
  | none => 100

/-- The instant of the scrubber's next access: 100 cycles after the last one of the same macro at the earliest (R782). -/
def scrubTime (s : State) : State :=
  let s := if s.mm.sword = 0 then s else advanceClk (s.mm.scrubAt + scrubGap s s.mm.smacro) s
  { s with mm := { s.mm with scrubAt := s.tk.clk } }

/-- SCRUB_ACCESS (R775, R781–R783): the scrubber reads its next word: 0 unexposed or without an error, 1 with an error it corrects, 2
uncorrectable.  A word's exposure and its check bits are the array's: they come with the command.  [DEDUCED, unsafe: log 97] -/
def scrubAccess (kind : Nat) (s : State) : State :=
  if scrubEn s ∧ s.mm.scrubbing then
    let a := s.mm.smacro
    let w := s.mm.sword
    let s := scrubTime s
    let s := match scrubKind s a w kind with
      | 1 =>
        let s := bump 0x4F018 s
        { s with mm := { s.mm with corrected := s.mm.corrected + 1, back := s.mm.back ++ [(a, w)] } }
      | 2 =>
        let bad := if a < 0xC0 ∧ !s.mm.bad.contains (a, w) then s.mm.bad ++ [(a, w)] else s.mm.bad
        uncorrectableRead a w (macroChannel a) true { s with mm := { s.mm with bad } }
      | _ => s
    scrubStep s
  else s

def execScrubAccess (kind : Nat) (s : State) : Out := .next (mainOn s (scrubAccess kind s))

/-- ECC_WRITE_BACK (R776, R785, R787): the oldest corrected word that waits is written back, or its write-back is cancelled by a write
that reached the word first; either way the word waits no more.  [DEDUCED, unsafe: log 97] -/
def eccWriteBack (s : State) : State := { s with mm := { s.mm with back := s.mm.back.drop 1 } }

def execEccWriteBack (s : State) : Out := .next (mainOn s (eccWriteBack s))

/-- The latch of unexposed reads of macro `a` is cleared; a read of this very hub cycle becomes the new entry (R780, R786). -/
def clearUnexposed (a : Nat) (s : State) : State :=
  match s.mm.unexpHit.find a with
  | some h =>
    if h.at_ = s.tk.clk then (if h.latched then s else latchUnexposed a h.word (macroChannel a) s)
    else { s with mm := { s.mm with unexp := s.mm.unexp.del a } }
  | none => { s with mm := { s.mm with unexp := s.mm.unexp.del a } }

/-- The same of the latch of uncorrectable reads. -/
def clearUncorrectable (a : Nat) (s : State) : State :=
  match s.mm.ueHit.find a with
  | some h =>
    if h.at_ = s.tk.clk then (if h.latched then s else latchUncorrectable a h.word (macroChannel a) h.scrub s)
    else { s with mm := { s.mm with ue := s.mm.ue.del a } }
  | none => { s with mm := { s.mm with ue := s.mm.ue.del a } }

/-- A write of MM_LATCH_CLEAR (R780). -/
def latchClear (w : Word) (s : State) : State :=
  let a := fld (s.wr 0x4F004 0) 0 8
  let s := if bitOf w 0 then clearUnexposed a s else s
  if bitOf w 1 then clearUncorrectable a s else s

/-! ### The march (R815) -/

/-- A channel after the march: counters, variables and loop state at their reset values, both banks unexposed; what flip-flops hold
stays (R774). -/
def marchChannel (c : Chan) : Chan :=
  { c with bank := [], vars := [], expo := 0, energy := 0, expoRes := 0, energyRes := 0, expoSat := false, winQ := 0, winE := 0,
           lastQ := 0, lastE := 0, winI := 0, winN := 0, vInteg := 0, trim := 0, trimSum := 0, trimN := 0, limRun := [], stack := [],
           evaled := false, evalV := 0, evalI := 0, evalT := 0, sample := {}, presetAt := none, c := false, lastTerm := none }

/-- Registers whose values lie in macros that the march overwrites: limits, MI coefficients, OCV table and channel maps. -/
def marchKey (k : Nat) : Bool :=
  let a := k % 0x100000
  (decide (0x60000 ≤ a) && decide (a < 0xA0000) && a % 0x1000 == 0x14) ||
    (decide (0xA0000 ≤ a) && decide (a < 0xE0000) && (a % 0x1000 == 0x14 || a % 0x1000 == 0x18)) ||
    a == 0x4801C || a == 0x48020 || a == 0x48024

/-- MEMORY_MARCH has overwritten every macro but 0xD0 and 0xD1, and each owner has written its reset values again (R815).
[DESIGN CHOICE, unsafe: log 82] -/
def march (s : State) : State :=
  let s := { s with
    regs := { s.regs with val := s.regs.val.keep (fun k => !marchKey k), act := s.regs.act.keep (fun k => !marchKey k),
                          pend := s.regs.pend.keep (fun k => !marchKey k) }
    chs := s.chs.map fun (e : Nat × Chan) => (e.1, marchChannel e.2)
    sp := { s.sp with sp := s.sp.sp.map fun (e : Nat × Spool) => (e.1, { e.2 with q := e.2.q.map fun (g : Granule) => { g with blank := true } }) }
    sh := { s.sh with ch := s.sh.ch.map fun (e : Nat × ShCh) => (e.1, { e.2 with grant := 0, lease := 0, leaseEnd := 0, age := 0, same := 0 }) }
    ar := { s.ar with lease := [], ext := [], filling := none, zeroQ := [] }
    pe := { s.pe with ch := [] }
    fx := { s.fx with table := none, grade := [] }
    cn := s.cn.map fun (e : Nat × CanBus) => (e.1, { e.2 with boxes := [] })
    en := { s.en with sn := { s.en.sn with entries := [], valid := 0, waiting := [] } }
    mm := { s.mm with back := [], bad := [] } }
  let s := { s with mis := s.mis.map fun (e : Nat × Meas) => (e.1, { e.2 with gainPpm := [], offset := [], calAt := none, cal := .forced }) }
  if s.ar.trained then zeroNext { s with ar := { s.ar with zeroQ := List.range' (fillFirst s) (2048 - fillFirst s) ++ List.range (fillFirst s) } } else s

end Sys2Proof.Machine
end

