-- ==== Sys2Proof/Machine/StopBath.lean ====
section
/-!
DEFINITION. Machine/StopBath.lean: what enters a stop or a fence (R172–R174, R792–R797, R801, R804, R820), the STOP command (R796) and
self-tests (R814, R815).
-/
namespace Sys2Proof.Machine

/-- The stop bath runs once domain 19 is ON (R822). -/
def bathOn (s : State) : Bool := s.isOn 19

/-! ### Clocks and crossings -/

/-- FLL_UNLOCK (R173, R804 causes 0x02 and 0x10): `d` is the domain whose FLL is unlocked; domain 14, CIs and MIs have one of their own, every
other domain's is the hub's (R144).  `words` are in flight at the domain's crossings.  [DEDUCED, unsafe: log 37] -/
def fllUnlock (d words : Nat) (s : State) : State :=
  if s.isOn d then
    let s := raise .hub 0 0x20 2 [d] s
    if d = 14 ∨ (20 ≤ d ∧ isFenceable s d) then fence d 0x10 2 words s else enterStop 3 .internal 2 false s
  else s

def execFllUnlock (d words : Nat) (s : State) : Out := .next (mainOn s (fllUnlock d words s))

/-- XING_TIMEOUT (R174, R804 causes 0x03 and 0x11): the crossing is stuck with REQ high; `rose` tells that ACK rose and REQ did not fall, which
names the sender; else the receiver is named. -/
def xingTimeout (sender receiver : Nat) (rose : Bool) (words : Nat) (s : State) : State :=
  if s.isOn sender ∧ s.isOn receiver then
    let s := s.setXing sender receiver { s.xing sender receiver with req := true, ack := rose }
    let s := raise .hub 0 0x21 2 [receiver, sender, if rose then 2 else 1] s
    fence (if rose then sender else receiver) 0x11 3 words s
  else s

def execXingTimeout (sender receiver : Nat) (rose : Bool) (words : Nat) (s : State) : Out :=
  .next (mainOn s (xingTimeout sender receiver rose words s))

/-- REFCLK_LOSS (R172, R804 cause 0x01). -/
def refclkLoss (s : State) : State :=
  if s.power = .on ∧ s.tk.refclkOk then
    let s := setSource { s with tk := { s.tk with refclkOk := false } }
    enterStop 1 .internal 1 false (raise .tk 0 5 1 [] s)
  else s

def execRefclkLoss (s : State) : Out := .next (mainOn s (refclkLoss s))

/-- REFCLK_RESTORED (R172). -/
def refclkRestored (s : State) : State :=
  if s.power = .on ∧ !s.tk.refclkOk then setSource { s with tk := { s.tk with refclkOk := true } } else s

def execRefclkRestored (s : State) : Out := .next (mainOn s (refclkRestored s))

/-! ### Watchdogs and the VBUSS range -/

/-- CI_WATCHDOG (R804 cause 0x12, R820). -/
def ciWatchdog (n words : Nat) (s : State) : State :=
  if n < s.variant.channels ∧ s.isOn (ciDom n) ∧ fld (sbConfig s) 0 8 ≤ (s.sh.ch.get n {}).missed then
    fence (ciDom n) 0x12 0 words s
  else s

def execCiWatchdog (n words : Nat) (s : State) : Out := .next (mainOn s (ciWatchdog n words s))

/-- MI_WATCHDOG (R804 cause 0x13, R820): no fast voltage has come for 4 µs. -/
def miWatchdog (n words : Nat) (s : State) : State :=
  if n < s.variant.channels ∧ s.isOn (miDom n) then
    fence (miDom n) 0x13 0 words (advanceClk ((s.mi n).fastAt + 4000) s)
  else s

def execMiWatchdog (n words : Nat) (s : State) : Out := .next (mainOn s (miWatchdog n words s))

/-- VBUS_OVER (R804 cause 0x04): VBUSS has been above 63.0 V for `held` ns, which are 2 µs or more; `v` mV now. -/
def vbusOver (v held : Nat) (s : State) : State :=
  if bathOn s ∧ 63000 < v ∧ 2000 ≤ held then
    enterStop 2 .internal 4 false (raise .sb 0 8 2 [v, 1] { s with sb := { s.sb with vbus := v } })
  else s

def execVbusOver (v held : Nat) (s : State) : Out := .next (mainOn s (vbusOver v held s))

/-- VBUS_UNDER (R804 cause 0x05): VBUSS has been below 18.0 V for `held` ns, which are 50 µs or more, while a present channel is not dark. -/
def vbusUnder (v held : Nat) (s : State) : State :=
  if bathOn s ∧ v < 18000 ∧ 50000 ≤ held ∧ !s.allDark then
    enterStop 1 .internal 5 false (raise .sb 0 8 2 [v, 2] { s with sb := { s.sb with vbus := v } })
  else s

def execVbusUnder (v held : Nat) (s : State) : Out := .next (mainOn s (vbusUnder v held s))

/-! ### The pin, the ring and the command -/

/-- The stop that an accepted low STOP# enters (R793). -/
def pinStop (s : State) : State :=
  let cls := fld (sbConfig s) 16 3
  let rack := bitOf (sbConfig s) 15
  let (sent, s) := if rack then sendStop cls s else (true, s)
  enterStop cls .pin 0 (!sent) s

/-- STOP_PIN_LOW (R793). -/
def stopPinLow (s : State) : State :=
  if s.sb.pinLow then s
  else
    let s := { s with sb := { s.sb with pinLow := true } }
    if bathOn s then pinStop s else s

def execStopPinLow (s : State) : Out := .next (stopPinLow s)

/-- STOP_PIN_HIGH (R793, R799). -/
def stopPinHigh (s : State) : State := { s with sb := { s.sb with pinLow := false } }

def execStopPinHigh (s : State) : Out := .next (stopPinHigh s)

/-- STOP (R796). -/
def stopCmd (r : Nat) (d : List Byte) (s : State) : State :=
  checked r d needNothing false (fun s =>
    let cls := dU8 d 0x10
    let (sent, s) := if dU8 d 0x11 = 1 then sendStop cls s else (true, s)
    complete r .ok 0 0 (enterStop cls .command 0 (!sent) s)) s

def execStop (r : Nat) (s : State) : Out := .next (mainOn s (begin_ r 0x70 (stopCmd r) s))

/-- STOP_CELL (R560, R797): a STOP cell arrives at port `p`.  [DEDUCED, unsafe: log 79] -/
def stopCell (p h : Nat) (pl : List Byte) (s : State) : State :=
  cellTaken 4 p h pl (fun s =>
    let s :=
      if delivers s h then
        let s := noteDelivered h s
        if cSrc h = s.jl.idInUse then s
        else
          let c := leAt pl 0 1
          let cls := if 1 ≤ c ∧ c ≤ 3 then c else 3
          enterStop cls .ring (cSrc h) false (raise .jl 0 0x21 1 [c, cSrc h] s)
      else s
    forwardMsg p { hdr := h, pl } s) s

def execStopCell (p h : Nat) (pl : List Byte) (s : State) : Out := .next (mainOn s (stopCell p h pl s))

/-! ### Self-tests -/

/-- The resource check of SELFTEST (R814).  [DEDUCED, unsafe: log 81] -/
def selftestMissing (d : List Byte) (s : State) : Option Nat :=
  match dU8 d 0x10 with
  | 0 => needChannel d s
  | 2 => if (macroInfo s.variant (dTarget d)).isSome then none else some 4
  | 3 => if s.variant.hasField then none else some 0x10
  | _ => none

/-- MEMORY_MARCH may begin: every present channel dark, no strip bound, every LD NONE and FILL_EN 0 (R814). -/
def marchReady (s : State) : Bool :=
  s.allDark && (List.range 8).all (fun k => !(s.strip k).bound) && (List.range 4).all (fun l => (s.lease l).st == .none) &&
    !bitOf (s.wr 0x45004 0) 0

/-- Pass mask of a KIND with every subtest passed (R814). -/
def fullMask : Nat → Nat
  | 0 => 0x3F
  | 1 => 7
  | _ => 3

/-- SELFTEST (R814, R262): what it answers at once; `none` where the test runs. -/
def selftestAnswer (d : List Byte) (s : State) : Option (Status × Nat) :=
  let kind := dU8 d 0x10
  let n := dTarget d
  if 8 ≤ kind ∧ !s.dbgen then some (.deniedPriv, 0)
  else
    match kind with
    | 0 =>
      if (s.ch n).st ≠ .dark then some (.busy, 0x11)
      else if (channelDomains s n).all s.isOn then none else some (.fault, 4)
    | 1 => if s.sb.cls ≠ 0 then some (.busy, 7) else none
    | 2 => none
    | 3 => if s.ez.link = .ready ∧ s.isOn 18 then none else some (.busy, 3)
    | 8 => if marchReady s then none else some (.busy, 0x11)
    | _ => some (.ok, 0)

/-- The windows that overlap a CHANNEL test carry CAL_GAP (R815). -/
def testGap (n : Nat) (s : State) : State := (misOf s n).foldl (fun s k => s.setMi k { s.mi k with gapSeen := true }) s

def selftest (r : Nat) (d : List Byte) (s : State) : State :=
  checked r d (selftestMissing d) false (fun s =>
    match selftestAnswer d s with
    | some (st, detail) => complete r st 0 detail s
    | none => if dU8 d 0x10 = 0 then testGap (dTarget d) s else s) s

def execSelftest (r : Nat) (s : State) : Out := .next (mainOn s (begin_ r 0x72 (selftest r) s))

/-- SELFTEST_FINISHED (R814, R815): ring `r`'s test ends with pass mask `mask`; a march found the macros of `failing` bad.
[DESIGN CHOICE, unsafe: log 82] -/
def selftestFinished (r mask : Nat) (failing : List Nat) (s : State) : State :=
  match (s.ring r).exec with
  | none => s
  | some e =>
    if dOp e.d = 0x72 then
      let kind := dU8 e.d 0x10
      if kind = 8 then
        let bad := failing.filter fun m => (macroInfo s.variant m).isSome && m != 0xD0 && m != 0xD1
        let s := bad.foldl (fun s (m : Nat) => raise .sb 0 6 2 [8, 0, m] s) (march s)
        complete r .ok bad.length 0 s
      else
        let m := mask % (fullMask kind + 1)
        let n := dTarget e.d
        let s := if kind = 0 then testGap n s else s
        let s := if m = fullMask kind then s else raise .sb 0 6 2 [kind, n, m] s
        complete r .ok m 0 s
    else s

def execSelftestFinished (r mask : Nat) (failing : List Nat) (s : State) : Out := .next (mainOn s (selftestFinished r mask failing s))

end Sys2Proof.Machine
end

