-- ==== Sys2Proof/Machine/Timekeeper.lean ====
section
/-!
DEFINITION. Machine/Timekeeper.lean: local Jikan time of an island (R152–R154, R157), TSYNC (R163, R164) and the time restored at a wake (R838).
-/
namespace Sys2Proof.Machine

/-- The EPOCH-coded MS_ registers of channel `n`, which act in its measurement island (R90, R943). -/
def isMsEpochKey (s : State) (n key : Nat) : Bool :=
  decide (msKey n 0 ≤ key % 0x100000) && decide (key % 0x100000 < msKey n 0x28) && teOf s.variant key == .epoch

/-- A register whose replaced value an input of the ended epoch still goes by: MS_ values (R434), PE_CONFIG and PE_MAP (R593, R625). -/
def keepsWas (k : Nat) : Bool := (decide (0xA0000 ≤ k) && decide (k < 0xE0000)) || k == 0x48004 || k == 0x4801C

/-- The values of such registers that acted between `old` and `s`, at a boundary `b`, leave the ones they replaced for windows and inputs up to `b`. -/
def noteWas (b : Nat) (old s : State) : State :=
  let gone := old.regs.act.filter fun e => keepsWas (e.1 % 0x100000) && !s.regs.act.has e.1
  { s with regs := { s.regs with was := gone.foldl (fun (t : Tab (Nat × Word)) e => t.put e.1 (b, e.2)) s.regs.was } }

/-- The local copy after a correction by `e` ns, at local time `t` and the timekeeper's count `run`: slewed, stepped forward, or held still until it is
within 64 ns of beacon time and then slewed (R153).  [DESIGN CHOICE, unsafe: log 202] -/
def Dom.corrected (x : Dom) (t run : Nat) (e rate : Int) : Dom :=
  let x := { x with base := t, anchor := run, wait := 0, rate, strobe := none }
  if e > 64 then { x with base := (t + e).toNat, slew := 0 }
  else if e < -64 then { x with wait := (-e - 64).toNat, slew := -64 }
  else { x with slew := e }

/-- An epoch boundary that domain `d`'s local time has now reached is taken there: EPOCH-coded values of its MI act (R157).
[DESIGN CHOICE, unsafe: log 202] -/
def islandEpoch (d : Nat) (s : State) : State :=
  if (s.dom d).owes ∧ s.tk.epochAt ≤ localTime s d then
    noteWas s.tk.epochAt s (actDue (isMsEpochKey s (d - 84)) (s.setDom d { s.dom d with owes := false }))
  else s

/-- The rate that an FLL can have now, in 10^-9 (R144, R172). -/
def heldRate (s : State) (rate : Int) : Int :=
  let m : Int := if s.tk.refclkOk then 20000 else 20000000
  max (-m) (min m rate)

/-- ISLAND_TIME_CORRECTION (R152–R154, R157): the value of the latest beacon arrives by crossing at domain `d`, which compares with it the local
time it recorded at the strobe and corrects its copy; from then on its clock gains `rate` × 10^-9,
which is at most 20 ppm, and at most 2 % while REFCLK is lost and every FLL holds its last control word (R144, R172).
[DESIGN CHOICE, unsafe: log 202] -/
def islandTime (d : Nat) (rate : Int) (s : State) : State :=
  let x := s.dom d
  match x.st, x.strobe with
  | .on, some (own, value) =>
    let s := offerWords 16 d [w32 value, w32 (value / 2 ^ 32)] s
    let e : Int := (value : Int) - own
    let t := localTime s d
    let s := s.setDom d { x.corrected t s.tk.run e (heldRate s rate) with before := some (islandCycle d s.tk.clk, t) }
    let s := if e > 64 then raise .tk 0 0 1 [] s else if e < -64 then raise .tk 0 1 1 [] s else s
    islandEpoch d s
  | _, _ => s

def execIslandTimeCorrection (d : Nat) (rate : Int) (s : State) : Out := .next (mainOn s (islandTime d rate s))

/-- `t` minus the nearest multiple of `p`, signed.  [DESIGN CHOICE, unsafe: log 205] -/
def signedRest (p t : Nat) : Int := if 2 * (t % p) ≤ p then (t % p : Nat) else ((t % p : Nat) : Int) - p

/-- The timekeeper has waited 2.000 s since its start for a TSYNC edge (R163). -/
def tsyncLate (s : State) : Bool := decide (s.tk.startedAt + 2000000000 ≤ s.tk.clk)

/-- No edge has come within 2.000 s of the timekeeper's start: Jikan time starts from 0 (R163). -/
def tsyncGivesUp (s : State) : State :=
  let s := loadTime (s.tk.clk - (s.tk.startedAt + 2000000000)) s
  raise .tk 0 4 1 [] { s with tk := { s.tk with waitTsync := false, tsyncMissing := true } }

/-- TSYNC_EDGE (R163, R164): the first edge within 2.000 s of the timekeeper's start; after publication its time is noted. -/
def tsyncEdge (s : State) : State :=
  if s.power = .on ∧ s.isOn 16 then
    if s.tk.waitTsync ∧ tsyncLate s then tsyncGivesUp s
    else if s.tk.waitTsync then { loadTime 0 s with tk := { (loadTime 0 s).tk with waitTsync := false, tsyncAligned := true } }
    else if s.tk.published then { s with tk := { s.tk with tsyncDiff := signedRest 1000000000 s.tk.now } }
    else s
  else s

def execTsyncEdge (s : State) : Out := .next (mainOn s (tsyncEdge s))

/-- TSYNC_MISSING (R163): 2.000 s after the timekeeper's start. -/
def tsyncMissed (s : State) : State :=
  if s.power = .on ∧ s.isOn 16 ∧ s.tk.waitTsync then
    tsyncGivesUp (advanceClk (s.tk.startedAt + 2000000000) s)
  else s

def execTsyncMissing (s : State) : Out := .next (mainOn s (tsyncMissed s))

/-- The Jikan time that `dn` ticks after a park at `j` make, the crystal deviating by `m` × 0.1 ppm (R838). -/
def restoredTime (j dn : Nat) (m : Int) : Nat := j + dn * 10000000000000000 / (32768 * (10000000 + m).toNat)

/-- TIME_RESTORED (R838): the first tick edge after domain 16 is ON, at tick count `t`.
[DEDUCED, unsafe: log 40; DEDUCED, unsafe: log 186] -/
def timeRestored (t : Nat) (s : State) : State :=
  match s.sl.parkTick with
  | none => s
  | some p =>
    if s.power = .on ∧ s.sl.restoreDue ∧ s.isOn 16 ∧ p ≤ t then
      let j := restoredTime s.sl.parkJt (t - p) s.sl.parkMeas
      let s := loadTime j s
      let s := { s with
        sh := { s.sh with roundAt := j, beatAt := j }
        rg := { s.rg with pollAt := j }
        sl := { s.sl with tick := t, restoreDue := false, parkValid := false, restored := true } }
      raise .sl 0 1 0 [((j % 2 ^ 32 : Nat) : Int), ((j / 2 ^ 32 : Nat) : Int)] s
    else s

end Sys2Proof.Machine
end

