-- ==== Sys2Proof/Machine/Presence.lean ====
section
/-!
DEFINITION. Machine/Presence.lean: the presence window (R109–R114, R127, R130, R132, R133), CALEN and the seal (R115, R116, R134), the seal
log (R124–R126, R131), guards and refusals (R117–R122), and the presence events (R123).
-/
namespace Sys2Proof.Machine

/-! ### Ticks and the state code -/

/-- The tick count goes on to `t`; it never goes back and has 48 bits (R109, R126).  [DESIGN CHOICE, unsafe: log 31] -/
def tickTo (t : Nat) (s : State) : State := { s with sl := { s.sl with tick := max s.sl.tick (t % 2 ^ 48) } }

/-- The device is RUNNING (R825, R826). -/
def isRunning (s : State) : Bool := s.power == .on && s.sl.running && s.sl.parking.isNone && !s.sheet.hold

/-- STATE of R825. -/
def stateCode (s : State) : Nat := if s.power ≠ .on then 0 else if isRunning s then 2 else 1

/-! ### The seal log -/

/-- The 64 bits of a seal log entry (R125). -/
def sealBits (e : SealEntry) : Nat := at_ 16 48 e.ticks + at_ 12 4 e.kind + at_ 10 2 e.state + at_ 0 8 e.seq

/-- The entry shown at index `i`; an unlisted one is EMPTY (R126). -/
def sealShown (s : State) (i : Nat) : Nat := match s.sl.log.find i with | some e => sealBits e | none => 0

/-- Write an entry over the oldest (R124). -/
def sealLog (kind : Nat) (s : State) : State :=
  let l := s.sl
  let e : SealEntry := { ticks := l.tick, kind, state := stateCode s, seq := l.logged % 256 }
  { s with sl := { l with log := l.log.put (l.logged % 16) e, logged := l.logged + 1 } }

/-- Index of the newest entry. -/
def sealNewest (s : State) : Nat := (s.sl.logged + 15) % 16

/-! ### Status -/

/-- A PP guard's missing conditions, as DETAIL [2:0] of R260: [2] window, [1] CALEN, [0] seal (R117). -/
def missingPp (s : State) : Nat := if s.pres.window.isSome then 0 else 4

/-- A PS guard's missing conditions (R117). -/
def missingPs (s : State) : Nat :=
  missingPp s + (if s.pres.calen = some true then 0 else 2) + (if s.pres.sealOpen = some true then 0 else 1)

/-- PR_STATUS.  [DESIGN CHOICE, unsafe: log 31] -/
def prStatus (s : State) : Word :=
  let p := s.pres
  let left := match p.window with | some w => (w + 983040 - s.sl.tick) * 1000 / 32768 | none => 0
  w32 (at_ 16 15 left + at_ 13 1 (b2n (decide (16 < s.sl.logged))) + at_ 8 4 (sealNewest s) + at_ 5 1 (b2n (missingPs s == 0)) +
    at_ 4 1 (b2n p.pressed) + at_ 3 1 (b2n p.stuck) + at_ 2 1 (b2n (p.sealOpen == some true)) +
    at_ 1 1 (b2n (p.calen == some true)) + at_ 0 1 (b2n p.window.isSome))

/-- Raise a presence event that carries PR_STATUS (R123). -/
def prEvent (num cls : Nat) (s : State) : State := raise .pr 0 num cls [(prStatus s).toNat] s

/-- The window closes with PRESENCE_CLOSE (R111, R112, R123, R133). -/
def closeWindow (s : State) : State :=
  if s.pres.window.isSome then prEvent 0x21 0 { s with pres := { s.pres with window := none } } else s

/-! ### The button -/

/-- PRESS_ACCEPTED (R110): at tick `t` PRES# completes 656 low ticks after 656 high ones.  While PARKED it wakes the device and opens no
window (R833).  A button held since before a device reset shows in PRES_LEVEL and opens none (R134).
[DEDUCED, unsafe: log 30] -/
def pressAccepted (t : Nat) (s : State) : State :=
  if s.power = .off ∨ !s.sl.xtalOk then s
  else
    let held := s.sl.button
    let s := tickTo t s
    let s := { s with sl := { s.sl with button := true } }
    if s.power = .parked then (if held then s else wakeSource 1 s)
    else if s.isOn 19 then
      let go := !held && !s.pres.stuck && !s.sheet.hold
      let s := { s with pres := { s.pres with pressed := true } }
      if go then wakeSource 1 (prEvent 0x20 0 { s with pres := { s.pres with window := some s.sl.tick } }) else s
    else s

def execPressAccepted (t : Nat) (s : State) : Out := .next (pressAccepted t s)

/-- WINDOW_CLOSE (R111): the 983,040 ticks are over. -/
def windowClose (s : State) : State :=
  match s.pres.window with
  | some w => closeWindow (tickTo (w + 983040) s)
  | none => s

def execWindowClose (s : State) : Out := .next (mainOn s (windowClose s))

/-- BUTTON_STUCK (R130): PRES# has been low for 1,966,080 ticks. -/
def buttonStuck (t : Nat) (s : State) : State :=
  if s.isOn 19 then
    let s := tickTo t s
    { s with pres := { s.pres with stuck := true, pressed := true }, sl := { s.sl with button := true } }
  else s

def execButtonStuck (t : Nat) (s : State) : Out := .next (mainOn s (buttonStuck t s))

/-- PRES_RELEASED (R130, PR_STATUS): PRES# has been high for 656 ticks. -/
def presReleased (t : Nat) (s : State) : State :=
  if s.power = .off then s
  else
    let s := tickTo t s
    { s with pres := { s.pres with stuck := false, pressed := false }, sl := { s.sl with button := false } }

def execPresReleased (t : Nat) (s : State) : Out := .next (presReleased t s)

/-! ### CALEN and the seal -/

/-- CALEN_CHANGE (R115, R134): a level is accepted; `fitted` is CALEN low. -/
def calenChange (t : Nat) (fitted : Bool) (s : State) : State :=
  if s.power = .on then
    let s := tickTo t s
    let old := s.pres.calen
    let s := { s with pres := { s.pres with calen := some fitted } }
    if old = some (!fitted) then prEvent 0x22 1 s else s
  else s

def execCalenChange (t : Nat) (fitted : Bool) (s : State) : Out := .next (mainOn s (calenChange t fitted s))

/-- The safelight accepts a seal change: log entry, event, and on a break a wake (R116, R123, R124, R833).
[DEDUCED, unsafe: log 29] -/
def sealChange (isOpen : Bool) (s : State) : State :=
  let s := sealLog (if isOpen then 2 else 3) s
  let e := sealShown s (sealNewest s)
  let s := raise .pr 0 (if isOpen then 0x23 else 0x24) (if isOpen then 1 else 0) [((e % 2 ^ 32 : Nat) : Int), ((e / 2 ^ 32 : Nat) : Int)] s
  if isOpen then wakeSource 4 s else s

/-- SEAL_SAMPLE (R116, R134): the loop is sampled at tick `t`.  The state after a reset and the safelight's own state each follow two
samples that agree.  [DEDUCED, unsafe: log 29] -/
def sealSample (t : Nat) (isOpen : Bool) (s : State) : State :=
  if s.power = .off then s
  else
    let s := tickTo t s
    let p := s.pres
    let s :=
      if s.power = .on then
        { s with pres := { p with sample := some isOpen,
                                  sealOpen := if p.sample = some isOpen then some isOpen else p.sealOpen } }
      else s
    let l := s.sl
    let s := { s with sl := { l with sample := some isOpen,
                                     seal_ := if l.sample = some isOpen then some isOpen else l.seal_ } }
    if l.sample = some isOpen ∧ l.seal_ = some (!isOpen) then sealChange isOpen s else s

def execSealSample (t : Nat) (isOpen : Bool) (s : State) : Out := .next (sealSample t isOpen s)

/-! ### Refusals (R122) -/

/-- PR_REFUSALS goes on and PR_LAST_REFUSAL is overwritten. -/
def refusal (src missing requester ring what : Nat) (s : State) : State :=
  let w := w32 (at_ 31 1 src + at_ 28 3 missing + at_ 26 2 requester + at_ 24 2 ring + at_ 0 20 what)
  bump 0x52008 { s with pres := { s.pres with lastRefusal := w } }

/-- A guarded command whose guard fails (R119, R120, R122, R260). -/
def denied (r : Nat) (d : List Byte) (missing : Nat) (s : State) : State :=
  complete r .deniedPresence 0 missing (refusal 1 missing (b2n s.hl.cxl) r (dOp d) s)

end Sys2Proof.Machine
end

