-- ==== Sys2Proof/Machine/SheetFields.lean ====
section
/-!
DEFINITION. Machine/SheetFields.lean: what the contact sheet says of every register's fields (R50–R53): position, width, access, name and the
values its table names, from the register tables of the chapters.
-/
namespace Sys2Proof.Machine

/-- A field as the sheet describes it (R50): name, lsb, width, access, and the values it names (R53).
[DESIGN CHOICE, unsafe: log 199] -/
structure SheetField where
  name  : String
  lsb   : Nat
  width : Nat
  acc   : Acc
  vals  : List (Nat × String)
  deriving DecidableEq, Repr

/-! ### Enumerations -/

def valsHubDomStatusState : List (Nat × String) := [
  (0, "OFF"), (1, "UP"), (2, "ON"), (3, "DOWN"), (4, "FENCED"), (5, "FAILED")]
def valsHubSupplyLossRail : List (Nat × String) := [
  (0, "none"), (1, "VCORE"), (2, "VAFE"), (3, "VIO"), (4, "VPHY08"), (5, "VPHY18"), (6, "VDD1"), (7, "VDD2"), (8, "VDDQ")]
def valsHlStatusFn0Dstate : List (Nat × String) := [
  (0, "D0"), (3, "D3hot")]
def valsHlStatusSpeed : List (Nat × String) := [
  (1, "2.5"), (2, "5.0"), (3, "8.0"), (4, "16.0")]
def valsHlStatusMode : List (Nat × String) := [
  (0, "PCIe mode"), (1, "CXL mode")]
def valsHlDmaErrInfoIssuer : List (Nat × String) := [
  (1, "descriptor fetch"), (2, "doorbell poll"), (3, "strip"), (4, "ARCHIVE_COPY"), (5, "table fetch"), (6, "completion write")]
def valsHlDmaErrInfoKind : List (Nat × String) := [
  (1, "timeout"), (2, "UR completion"), (3, "CA completion"), (4, "poisoned"), (5, "ECRC discard"), (6, "LINK_DOWN"), (7, "FLR")]
def valsRgHostPolicy0Policy0 : List (Nat × String) := [
  (0, "CONTINUE"), (1, "HOLD"), (2, "FADE")]
def valsSpStatusRole : List (Nat × String) := [
  (0, "alone"), (1, "head"), (2, "middle"), (3, "tail")]
def valsSpStatusHeadKind : List (Nat × String) := [
  (1, "negative"), (2, "print"), (3, "event"), (4, "grade"), (5, "completion-echo")]
def valsArExtStatusState : List (Nat × String) := [
  (0, "UNZEROED"), (1, "ZEROING"), (2, "FREE"), (3, "FILLING"), (4, "SEALED")]
def valsArLdStatusState : List (Nat × String) := [
  (0, "NONE"), (1, "ACTIVE"), (2, "LOST")]
def valsShStatusMode : List (Nat × String) := [
  (0, "STANDALONE"), (1, "RACK"), (2, "HOLDING"), (3, "FLOOR")]
def valsJlPortStatusState : List (Nat × String) := [
  (0, "OFF"), (1, "NOT_READY"), (2, "SEEKING"), (3, "UP"), (4, "DOWN")]
def valsJlPortControlSwing : List (Nat × String) := [
  (0, "600 mV"), (1, "800 mV"), (2, "1000 mV"), (3, "1200 mV")]
def valsJlPortControlDeemph : List (Nat × String) := [
  (0, "0 dB"), (1, "2.0 dB"), (2, "3.5 dB"), (3, "6.0 dB")]
def valsJlRingStatusState : List (Nat × String) := [
  (0, "OFF"), (1, "MASTERLESS"), (2, "FOLLOWER"), (3, "JOINING"), (4, "MEMBER"), (5, "MASTER"), (6, "REFUSED")]
def valsPeConfigMode : List (Nat × String) := [
  (0, "stepwise"), (1, "masking")]
def valsEzStatusLink : List (Nat × String) := [
  (0, "OFF"), (1, "POWERING"), (2, "NOT_READY"), (3, "READY"), (4, "LOST")]
def valsEzSwDiagState : List (Nat × String) := [
  (0, "OFF"), (1, "ON"), (2, "LIMITING"), (3, "CLAMPING"), (4, "HOLDING"), (5, "THERMAL_WAIT"), (6, "LATCHED"), (7, "SUPPLY_OFF"),
  (8, "REVERSE_ON"), (9, "SAFE")]
def valsWnStatusEndCause : List (Nat × String) := [
  (0, "none"), (1, "END"), (2, "STOP"), (3, "SAFE"), (4, "SUPPLY"), (5, "PROG_FAULT"), (6, "TRIP"), (7, "BRIDGE_SHORT"), (8, "DIAG_ON"),
  (9, "PAIR")]
def valsWnStatusState : List (Nat × String) := [
  (0, "IDLE"), (1, "RUNNING"), (2, "DECAYING"), (3, "SAFE"), (4, "LATCHED"), (5, "PAIRED")]
def valsWnDiagOffResult : List (Nat × String) := [
  (0, "OK"), (1, "OPEN"), (2, "SHORT_GND"), (3, "SHORT_SUPPLY"), (4, "SHORT_LOAD"), (15, "NOT_TESTED")]
def valsCnConfigMode : List (Nat × String) := [
  (0, "OFF"), (1, "NORMAL"), (2, "LISTEN_ONLY")]
def valsCnStatusState : List (Nat × String) := [
  (0, "OFF"), (1, "INTEGRATING"), (2, "ACTIVE"), (3, "PASSIVE"), (4, "BUS_OFF"), (5, "SLEEP_ENTRY"), (6, "ASLEEP")]
def valsCnWakeConfigRate : List (Nat × String) := [
  (0, "125 kbit/s"), (1, "250 kbit/s"), (2, "500 kbit/s"), (3, "1000 kbit/s")]
def valsCnWakeConfigWakeMode : List (Nat × String) := [
  (0, "OFF"), (1, "PATTERN"), (2, "SELECTIVE")]
def valsCnWakeInfoCause : List (Nat × String) := [
  (0, "none"), (1, "pattern"), (2, "frame"), (3, "error count"), (4, "host")]
def valsEnConfigMode : List (Nat × String) := [
  (0, "off"), (1, "incremental LIMIT"), (2, "incremental FREE"), (3, "SSI"), (4, "BiSS-C")]
def valsEnConfigCapStop : List (Nat × String) := [
  (0, "Z rising"), (1, "Z falling"), (2, "LIMIT_LO"), (3, "LIMIT_HI")]
def valsSbStatusClass : List (Nat × String) := [
  (1, "FADE"), (2, "CUT"), (3, "CUT_FIELD")]
def valsSbLastStopSource : List (Nat × String) := [
  (1, "pin"), (2, "command"), (3, "ring"), (4, "internal")]
def valsSlStatusState : List (Nat × String) := [
  (0, "PARKED"), (1, "STANDBY"), (2, "RUNNING")]
def valsSlParkInfoLastParkCause : List (Nat × String) := [
  (0, "none"), (1, "requested"), (2, "power loss")]
def valsPrLastRefusalRequester : List (Nat × String) := [
  (0, "PF0"), (1, "LD0 operations"), (2, "loupe")]
def valsPrLastRefusalSource : List (Nat × String) := [
  (0, "register write"), (1, "command")]
def valsTkStatusSource : List (Nat × String) := [
  (0, "FREE"), (1, "RING_MASTER"), (2, "RING_FOLLOWER"), (3, "HOLDOVER")]
def valsDvStateState : List (Nat × String) := [
  (0, "DARK"), (1, "RUNNING"), (2, "HELD"), (3, "FADING")]
def valsDvRunEndReason : List (Nat × String) := [
  (0, "none"), (1, "HALT"), (2, "ABORT"), (3, "HOST_FADE"), (4, "STOP"), (5, "LIMIT"), (6, "PROG_FAULT"), (7, "NO_PHASE"), (8, "FENCE")]
def valsDvSelItem : List (Nat × String) := [
  (0, "V_MAX"), (1, "V_MIN"), (2, "I_CHG_MAX"), (3, "I_DIS_MAX"), (4, "T_MAX"), (5, "T_MIN")]
def valsDvPhStatusPh0State : List (Nat × String) := [
  (0, "IN_SERVICE"), (1, "RETRY_WAIT"), (2, "OUT_TRIP"), (3, "OUT_OPEN"), (4, "OUT_SENSE"), (5, "OUT_SHORT"), (6, "DISABLED")]
def valsMsConfigRate : List (Nat × String) := [
  (0, "1 Hz"), (1, "10 Hz"), (2, "100 Hz"), (3, "1000 Hz"), (4, "4000 Hz")]
def valsMsStatusCalState : List (Nat × String) := [
  (0, "not due"), (1, "due"), (2, "forced"), (3, "in window")]
def valsMsCalSelQty : List (Nat × String) := [
  (0, "voltage"), (1, "current"), (2, "temperature")]

/-- Fields of the CS_ registers, register by register in the order of `regsCS`. -/
def sheetFieldsCS : List (List SheetField) := [
  -- CS_STATUS
  [⟨"CHECKING", 0, 1, .ro, []⟩, ⟨"CHECKED", 1, 1, .ro, []⟩, ⟨"SHEET_BAD", 2, 1, .ro, []⟩, ⟨"MAGIC_BAD", 3, 1, .ro, []⟩,
  ⟨"LENGTH_BAD", 4, 1, .ro, []⟩, ⟨"CRC_BAD", 5, 1, .ro, []⟩, ⟨"STRUCT_BAD", 6, 1, .ro, []⟩],
  -- CS_CRC_SEEN
  [⟨"CRC", 0, 32, .ro, []⟩],
  -- CS_WRITES
  [⟨"COUNT", 0, 32, .cnt, []⟩],
  -- CS_RECHECK
  [⟨"GO", 0, 1, .w1p, []⟩]]

/-- Fields of the HUB_ registers, register by register in the order of `regsHUB`. -/
def sheetFieldsHUB : List (List SheetField) := [
  -- HUB_READY
  [⟨"RUNNING", 0, 1, .ro, []⟩, ⟨"LINK_UP", 1, 1, .ro, []⟩, ⟨"ARCHIVE_TRAINED", 2, 1, .ro, []⟩, ⟨"ARCHIVE_FAIL", 3, 1, .ro, []⟩,
  ⟨"ZERO_DONE", 4, 1, .ro, []⟩, ⟨"EASEL_READY", 5, 1, .ro, []⟩, ⟨"TIME_PUBLISHED", 6, 1, .ro, []⟩, ⟨"PORT_A_UP", 7, 1, .ro, []⟩,
  ⟨"PORT_B_UP", 8, 1, .ro, []⟩, ⟨"UP_MS", 16, 16, .ro, []⟩],
  -- HUB_TEMP
  [⟨"TJ", 0, 16, .ro, []⟩, ⟨"TJ_PEAK", 16, 16, .ro, []⟩],
  -- HUB_LIFE_S
  [⟨"COUNT", 0, 32, .cnt, []⟩],
  -- HUB_LIFE_EQ_S
  [⟨"COUNT", 0, 32, .cnt, []⟩],
  -- HUB_UNPRIV_WRITES
  [⟨"COUNT", 0, 32, .cnt, []⟩],
  -- HUB_SQ_REJECTS
  [⟨"COUNT", 0, 32, .cnt, []⟩],
  -- HUB_BAD_VALUES
  [⟨"COUNT", 0, 32, .cnt, []⟩],
  -- HUB_UNDEF_ACCESSES
  [⟨"COUNT", 0, 32, .cnt, []⟩],
  -- HUB_BAD_SIZE
  [⟨"COUNT", 0, 32, .cnt, []⟩],
  -- HUB_DOM_ENABLE
  [⟨"EN_14_9", 9, 6, .rw, []⟩, ⟨"EN_18_17", 17, 2, .rw, []⟩],
  -- HUB_DOM_SELECT
  [⟨"DOMAIN", 0, 8, .rw, []⟩],
  -- HUB_DOM_STATUS
  [⟨"STATE", 0, 3, .ro, valsHubDomStatusState⟩, ⟨"TRANSITIONS", 4, 8, .ro, []⟩, ⟨"LAST_US", 12, 8, .ro, []⟩, ⟨"REFUSED", 31, 1, .rc, []⟩],
  -- HUB_XING_DISCARDS
  [⟨"COUNT", 0, 32, .cnt, []⟩],
  -- HUB_SUPPLY
  [⟨"LOSS_RAIL", 0, 4, .ro, valsHubSupplyLossRail⟩, ⟨"VBUSS_MV", 16, 16, .ro, []⟩]]

/-- Fields of the HL_ registers, register by register in the order of `regsHL`. -/
def sheetFieldsHL : List (List SheetField) := [
  -- HL_STATUS
  [⟨"PERST", 1, 1, .ro, []⟩, ⟨"IN_L1", 2, 1, .ro, []⟩, ⟨"PTM_ON", 3, 1, .ro, []⟩, ⟨"FN0_DSTATE", 4, 2, .ro, valsHlStatusFn0Dstate⟩,
  ⟨"FN1_DSTATE", 6, 2, .ro, valsHlStatusFn0Dstate⟩, ⟨"WIDTH", 8, 4, .ro, []⟩, ⟨"SPEED", 12, 3, .ro, valsHlStatusSpeed⟩,
  ⟨"LINK_UP", 15, 1, .ro, []⟩, ⟨"MODE", 16, 1, .ro, valsHlStatusMode⟩],
  -- HL_LINK_CAP
  [⟨"MAX_WIDTH", 0, 4, .rw, []⟩, ⟨"MAX_SPEED", 4, 4, .rw, valsHlStatusSpeed⟩],
  -- HL_PTM_PERIOD
  [⟨"PERIOD_MS", 0, 10, .rw, []⟩],
  -- HL_PTM_DIALOGS
  [⟨"COUNT", 0, 32, .ro, []⟩],
  -- HL_EVENTS
  [⟨"LINK_UP", 0, 1, .sq, []⟩, ⟨"LINK_DOWN", 1, 1, .sq, []⟩, ⟨"SPEED_CHANGE", 2, 1, .sq, []⟩, ⟨"WIDTH_CHANGE", 3, 1, .sq, []⟩,
  ⟨"DMA_ERR", 4, 1, .sq, []⟩, ⟨"POISON_RX", 5, 1, .sq, []⟩, ⟨"PTM_MISS", 6, 1, .sq, []⟩, ⟨"FLR_FN0", 7, 1, .sq, []⟩, ⟨"FLR_FN1", 8, 1, .sq, []⟩,
  ⟨"HDM_COMMIT_ERR", 9, 1, .sq, []⟩, ⟨"POISON_LIST_ADD", 10, 1, .sq, []⟩, ⟨"FATAL_INTERNAL", 11, 1, .sq, []⟩, ⟨"SEQ", 24, 8, .sq, []⟩],
  -- HL_DMA_ERRORS
  [⟨"COUNT", 0, 32, .cnt, []⟩],
  -- HL_DMA_ERR_INFO
  [⟨"FUNCTION", 0, 1, .ro, []⟩, ⟨"UNIT", 16, 4, .ro, []⟩, ⟨"ISSUER", 24, 4, .ro, valsHlDmaErrInfoIssuer⟩,
  ⟨"KIND", 28, 4, .ro, valsHlDmaErrInfoKind⟩],
  -- HL_DMA_ERR_ADDR_LO
  [⟨"ADDR", 0, 32, .ro, []⟩],
  -- HL_DMA_ERR_ADDR_HI
  [⟨"ADDR", 0, 32, .ro, []⟩],
  -- HL_ECRC_ERRORS
  [⟨"COUNT", 0, 32, .cnt, []⟩],
  -- HL_POISON_RX
  [⟨"COUNT", 0, 32, .cnt, []⟩],
  -- HL_LINK_DOWNS
  [⟨"COUNT", 0, 32, .cnt, []⟩],
  -- HL_RECOVERIES
  [⟨"COUNT", 0, 32, .cnt, []⟩],
  -- HL_REPLAYS
  [⟨"COUNT", 0, 32, .cnt, []⟩],
  -- HL_LD_STATUS
  [⟨"COMMITTED0", 0, 1, .ro, []⟩, ⟨"LOCKED0", 1, 1, .ro, []⟩, ⟨"BOUND0", 2, 1, .ro, []⟩, ⟨"COMMITTED1", 4, 1, .ro, []⟩,
  ⟨"LOCKED1", 5, 1, .ro, []⟩, ⟨"BOUND1", 6, 1, .ro, []⟩, ⟨"COMMITTED2", 8, 1, .ro, []⟩, ⟨"LOCKED2", 9, 1, .ro, []⟩, ⟨"BOUND2", 10, 1, .ro, []⟩,
  ⟨"COMMITTED3", 12, 1, .ro, []⟩, ⟨"LOCKED3", 13, 1, .ro, []⟩, ⟨"BOUND3", 14, 1, .ro, []⟩],
  -- HL_POISON_SENT
  [⟨"COUNT", 0, 32, .cnt, []⟩],
  -- HL_POISON_LIST
  [⟨"ENTRIES", 0, 7, .ro, []⟩, ⟨"OVERFLOW", 31, 1, .ro, []⟩],
  -- HL_CPL_TIMEOUTS
  [⟨"COUNT", 0, 32, .cnt, []⟩]]

/-- Fields of the RG_ registers, register by register in the order of `regsRG`. -/
def sheetFieldsRG : List (List SheetField) := [
  -- RG_CONTROL
  [⟨"ENABLE", 0, 4, .rw, []⟩, ⟨"POLL_EN", 4, 1, .rw, []⟩, ⟨"POLL_US", 8, 6, .rw, []⟩],
  -- RG_STATUS
  [⟨"RUNNING", 0, 4, .ro, []⟩, ⟨"ERROR", 4, 4, .ro, []⟩, ⟨"HOST_LOST", 8, 1, .ro, []⟩, ⟨"POLLING", 9, 1, .ro, []⟩, ⟨"LOST", 16, 8, .ro, []⟩],
  -- RG_DBL_LO
  [⟨"ADDR", 6, 26, .rw, []⟩],
  -- RG_DBL_HI
  [⟨"ADDR", 0, 32, .rw, []⟩],
  -- RG_HOST_LOSS
  [⟨"TIMEOUT_MS", 0, 14, .rw, []⟩],
  -- RG_HOST_POLICY0
  [⟨"POLICY_0", 0, 2, .rw, valsRgHostPolicy0Policy0⟩, ⟨"POLICY_1", 2, 2, .rw, valsRgHostPolicy0Policy0⟩,
  ⟨"POLICY_2", 4, 2, .rw, valsRgHostPolicy0Policy0⟩, ⟨"POLICY_3", 6, 2, .rw, valsRgHostPolicy0Policy0⟩,
  ⟨"POLICY_4", 8, 2, .rw, valsRgHostPolicy0Policy0⟩, ⟨"POLICY_5", 10, 2, .rw, valsRgHostPolicy0Policy0⟩,
  ⟨"POLICY_6", 12, 2, .rw, valsRgHostPolicy0Policy0⟩, ⟨"POLICY_7", 14, 2, .rw, valsRgHostPolicy0Policy0⟩,
  ⟨"POLICY_8", 16, 2, .rw, valsRgHostPolicy0Policy0⟩, ⟨"POLICY_9", 18, 2, .rw, valsRgHostPolicy0Policy0⟩,
  ⟨"POLICY_10", 20, 2, .rw, valsRgHostPolicy0Policy0⟩, ⟨"POLICY_11", 22, 2, .rw, valsRgHostPolicy0Policy0⟩,
  ⟨"POLICY_12", 24, 2, .rw, valsRgHostPolicy0Policy0⟩, ⟨"POLICY_13", 26, 2, .rw, valsRgHostPolicy0Policy0⟩,
  ⟨"POLICY_14", 28, 2, .rw, valsRgHostPolicy0Policy0⟩, ⟨"POLICY_15", 30, 2, .rw, valsRgHostPolicy0Policy0⟩],
  -- RG_HOST_POLICY1
  [⟨"POLICY_0", 0, 2, .rw, valsRgHostPolicy0Policy0⟩, ⟨"POLICY_1", 2, 2, .rw, valsRgHostPolicy0Policy0⟩,
  ⟨"POLICY_2", 4, 2, .rw, valsRgHostPolicy0Policy0⟩, ⟨"POLICY_3", 6, 2, .rw, valsRgHostPolicy0Policy0⟩,
  ⟨"POLICY_4", 8, 2, .rw, valsRgHostPolicy0Policy0⟩, ⟨"POLICY_5", 10, 2, .rw, valsRgHostPolicy0Policy0⟩,
  ⟨"POLICY_6", 12, 2, .rw, valsRgHostPolicy0Policy0⟩, ⟨"POLICY_7", 14, 2, .rw, valsRgHostPolicy0Policy0⟩,
  ⟨"POLICY_8", 16, 2, .rw, valsRgHostPolicy0Policy0⟩, ⟨"POLICY_9", 18, 2, .rw, valsRgHostPolicy0Policy0⟩,
  ⟨"POLICY_10", 20, 2, .rw, valsRgHostPolicy0Policy0⟩, ⟨"POLICY_11", 22, 2, .rw, valsRgHostPolicy0Policy0⟩,
  ⟨"POLICY_12", 24, 2, .rw, valsRgHostPolicy0Policy0⟩, ⟨"POLICY_13", 26, 2, .rw, valsRgHostPolicy0Policy0⟩,
  ⟨"POLICY_14", 28, 2, .rw, valsRgHostPolicy0Policy0⟩, ⟨"POLICY_15", 30, 2, .rw, valsRgHostPolicy0Policy0⟩],
  -- RG_HOST_POLICY2
  [⟨"POLICY_0", 0, 2, .rw, valsRgHostPolicy0Policy0⟩, ⟨"POLICY_1", 2, 2, .rw, valsRgHostPolicy0Policy0⟩,
  ⟨"POLICY_2", 4, 2, .rw, valsRgHostPolicy0Policy0⟩, ⟨"POLICY_3", 6, 2, .rw, valsRgHostPolicy0Policy0⟩,
  ⟨"POLICY_4", 8, 2, .rw, valsRgHostPolicy0Policy0⟩, ⟨"POLICY_5", 10, 2, .rw, valsRgHostPolicy0Policy0⟩,
  ⟨"POLICY_6", 12, 2, .rw, valsRgHostPolicy0Policy0⟩, ⟨"POLICY_7", 14, 2, .rw, valsRgHostPolicy0Policy0⟩,
  ⟨"POLICY_8", 16, 2, .rw, valsRgHostPolicy0Policy0⟩, ⟨"POLICY_9", 18, 2, .rw, valsRgHostPolicy0Policy0⟩,
  ⟨"POLICY_10", 20, 2, .rw, valsRgHostPolicy0Policy0⟩, ⟨"POLICY_11", 22, 2, .rw, valsRgHostPolicy0Policy0⟩,
  ⟨"POLICY_12", 24, 2, .rw, valsRgHostPolicy0Policy0⟩, ⟨"POLICY_13", 26, 2, .rw, valsRgHostPolicy0Policy0⟩,
  ⟨"POLICY_14", 28, 2, .rw, valsRgHostPolicy0Policy0⟩, ⟨"POLICY_15", 30, 2, .rw, valsRgHostPolicy0Policy0⟩],
  -- RG_HOST_POLICY3
  [⟨"POLICY_0", 0, 2, .rw, valsRgHostPolicy0Policy0⟩, ⟨"POLICY_1", 2, 2, .rw, valsRgHostPolicy0Policy0⟩,
  ⟨"POLICY_2", 4, 2, .rw, valsRgHostPolicy0Policy0⟩, ⟨"POLICY_3", 6, 2, .rw, valsRgHostPolicy0Policy0⟩,
  ⟨"POLICY_4", 8, 2, .rw, valsRgHostPolicy0Policy0⟩, ⟨"POLICY_5", 10, 2, .rw, valsRgHostPolicy0Policy0⟩,
  ⟨"POLICY_6", 12, 2, .rw, valsRgHostPolicy0Policy0⟩, ⟨"POLICY_7", 14, 2, .rw, valsRgHostPolicy0Policy0⟩,
  ⟨"POLICY_8", 16, 2, .rw, valsRgHostPolicy0Policy0⟩, ⟨"POLICY_9", 18, 2, .rw, valsRgHostPolicy0Policy0⟩,
  ⟨"POLICY_10", 20, 2, .rw, valsRgHostPolicy0Policy0⟩, ⟨"POLICY_11", 22, 2, .rw, valsRgHostPolicy0Policy0⟩,
  ⟨"POLICY_12", 24, 2, .rw, valsRgHostPolicy0Policy0⟩, ⟨"POLICY_13", 26, 2, .rw, valsRgHostPolicy0Policy0⟩,
  ⟨"POLICY_14", 28, 2, .rw, valsRgHostPolicy0Policy0⟩, ⟨"POLICY_15", 30, 2, .rw, valsRgHostPolicy0Policy0⟩],
  -- RG_SEL
  [⟨"RING", 0, 2, .rw, []⟩, ⟨"STRIP", 4, 3, .rw, []⟩],
  -- RG_CR_BASE_LO
  [⟨"ADDR", 12, 20, .rw, []⟩],
  -- RG_CR_BASE_HI
  [⟨"ADDR", 0, 32, .rw, []⟩],
  -- RG_CQ_BASE_LO
  [⟨"ADDR", 12, 20, .rw, []⟩],
  -- RG_CQ_BASE_HI
  [⟨"ADDR", 0, 32, .rw, []⟩],
  -- RG_RING_CFG
  [⟨"MOD_COUNT", 0, 8, .rw, []⟩, ⟨"MOD_TIME_US", 8, 10, .rw, []⟩, ⟨"LOG2_E", 28, 4, .rw, []⟩],
  -- RG_RING_STATUS
  [⟨"CR_COUNT", 0, 16, .ro, []⟩, ⟨"CQ_COUNT", 16, 16, .ro, []⟩],
  -- RG_NS_MOD
  [⟨"MOD_COUNT", 0, 8, .rw, []⟩, ⟨"MOD_TIME_US", 8, 10, .rw, []⟩],
  -- RG_EVENTS
  [⟨"HOST_LOSS", 0, 1, .sq, []⟩, ⟨"HOST_BACK", 1, 1, .sq, []⟩, ⟨"RING_ERROR", 2, 1, .sq, []⟩, ⟨"PROD_BAD", 3, 1, .sq, []⟩,
  ⟨"PHASE_STUCK", 4, 1, .sq, []⟩, ⟨"CQ_FULL", 5, 1, .sq, []⟩, ⟨"COMPLETION_LOST", 6, 1, .sq, []⟩, ⟨"POLL_ERR", 7, 1, .sq, []⟩,
  ⟨"SEQ", 24, 8, .sq, []⟩],
  -- RG_PHASE_RETRIES
  [⟨"COUNT", 0, 32, .cnt, []⟩],
  -- RG_HEARTBEAT_SEEN
  [⟨"VALUE", 0, 32, .ro, []⟩]]

/-- Fields of the SP_ registers, register by register in the order of `regsSP`. -/
def sheetFieldsSP : List (List SheetField) := [
  -- SP_CONFIG
  [⟨"NEXT", 24, 4, .rw, []⟩, ⟨"CASC", 30, 1, .rw, []⟩, ⟨"HUB", 31, 1, .rw, []⟩],
  -- SP_LEVELS
  [⟨"AE", 0, 12, .rw, []⟩, ⟨"AF", 16, 12, .rw, []⟩],
  -- SP_CHMAP_LO
  [⟨"CHANNELS", 0, 32, .rw, []⟩],
  -- SP_CHMAP_HI
  [⟨"CHANNELS", 0, 32, .rw, []⟩],
  -- SP_STATUS
  [⟨"EMPTY", 2, 1, .ro, []⟩, ⟨"ALMOST_EMPTY", 3, 1, .ro, []⟩, ⟨"ALMOST_FULL", 4, 1, .ro, []⟩, ⟨"FULL", 5, 1, .ro, []⟩, ⟨"STALLED", 6, 1, .ro, []⟩,
  ⟨"AF_EPISODE", 7, 1, .ro, []⟩, ⟨"SHEDDING", 8, 1, .ro, []⟩, ⟨"DROPPED", 9, 1, .rc, []⟩, ⟨"ROLE", 11, 2, .ro, valsSpStatusRole⟩,
  ⟨"HEAD_KIND", 13, 3, .ro, valsSpStatusHeadKind⟩, ⟨"HEAD_STRIP", 16, 4, .ro, []⟩, ⟨"LEVEL", 20, 12, .ro, []⟩],
  -- SP_DROPS
  [⟨"NEGATIVES", 0, 16, .cnt, []⟩, ⟨"OTHERS", 16, 16, .cnt, []⟩]]

/-- Fields of the AR_ registers, register by register in the order of `regsAR`. -/
def sheetFieldsAR : List (List SheetField) := [
  -- AR_STATUS
  [⟨"ZERO_DONE", 0, 1, .ro, []⟩, ⟨"FILL_BLOCKED", 1, 1, .ro, []⟩, ⟨"ARCHIVE_FAIL", 2, 1, .ro, []⟩],
  -- AR_CONTROL
  [⟨"FILL_EN", 0, 1, .rw, []⟩],
  -- AR_FILL_RANGE
  [⟨"FIRST", 0, 11, .rw, []⟩, ⟨"LAST", 16, 11, .rw, []⟩],
  -- AR_FILL_SPOOLS
  [⟨"SPOOLS", 0, 16, .rw, []⟩, ⟨"KINDS", 16, 5, .rw, []⟩],
  -- AR_FILL_POS
  [⟨"EXTENT", 0, 11, .ro, []⟩, ⟨"LINE", 16, 16, .ro, []⟩],
  -- AR_FILL_SEQ
  [⟨"SEQ", 0, 32, .ro, []⟩],
  -- AR_FILL_DROPS
  [⟨"COUNT", 0, 32, .cnt, []⟩],
  -- AR_EXT_SEL
  [⟨"EXTENT", 0, 11, .rw, []⟩],
  -- AR_EXT_STATUS
  [⟨"STATE", 0, 3, .ro, valsArExtStatusState⟩, ⟨"HELD", 4, 1, .ro, []⟩, ⟨"RW", 5, 1, .ro, []⟩, ⟨"LD", 8, 2, .ro, []⟩],
  -- AR_LD_SEL
  [⟨"LD", 0, 2, .rw, []⟩],
  -- AR_LD_STATUS
  [⟨"STATE", 0, 2, .ro, valsArLdStatusState⟩, ⟨"ACKED", 2, 1, .ro, []⟩, ⟨"EXTENTS", 4, 12, .ro, []⟩, ⟨"LEFT_MS", 16, 16, .ro, []⟩],
  -- AR_LD_SESSION
  [⟨"SESSION", 0, 32, .ro, []⟩],
  -- AR_LD_TERM
  [⟨"TERM", 0, 16, .ro, []⟩],
  -- AR_UNLEASED_READS
  [⟨"COUNT", 0, 32, .cnt, []⟩],
  -- AR_UNLEASED_WRITES
  [⟨"COUNT", 0, 32, .cnt, []⟩],
  -- AR_ZERO_STATUS
  [⟨"EXTENTS", 0, 12, .ro, []⟩, ⟨"ACTIVE", 31, 1, .ro, []⟩],
  -- AR_ECC_CORRECTED
  [⟨"COUNT", 0, 32, .cnt, []⟩],
  -- AR_ECC_UNCORRECTED
  [⟨"COUNT", 0, 32, .cnt, []⟩],
  -- AR_EVENTS
  [⟨"LEASE_EXPIRED", 0, 1, .sq, []⟩, ⟨"ZERO_DONE", 1, 1, .sq, []⟩, ⟨"FILL_BLOCKED", 2, 1, .sq, []⟩, ⟨"FILL_RESUMED", 3, 1, .sq, []⟩,
  ⟨"ARCHIVE_FAIL", 4, 1, .sq, []⟩, ⟨"SEQ", 24, 8, .sq, []⟩],
  -- AR_SESSION_NEXT
  [⟨"SESSION", 0, 32, .ro, []⟩]]

/-- Fields of the SH_ registers, register by register in the order of `regsSH`. -/
def sheetFieldsSH : List (List SheetField) := [
  -- SH_STATUS
  [⟨"MODE", 0, 2, .ro, valsShStatusMode⟩, ⟨"MASTER", 2, 1, .ro, []⟩, ⟨"RAMPING", 3, 1, .ro, []⟩, ⟨"OVER", 4, 1, .ro, []⟩,
  ⟨"MISSED", 28, 4, .ro, []⟩],
  -- SH_CONFIG
  [⟨"EFF_PERMIL", 0, 10, .rw, []⟩, ⟨"RAMP_ROUNDS", 16, 8, .rw, []⟩],
  -- SH_FLOOR
  [⟨"FLOOR_W", 0, 16, .rw, []⟩],
  -- SH_SINK
  [⟨"WATTS", 0, 22, .rw, []⟩],
  -- SH_CEILING
  [⟨"CEIL_W", 0, 16, .rw, []⟩],
  -- SH_RACK_BUDGET
  [⟨"WATTS", 0, 22, .rw, []⟩],
  -- SH_NET
  [⟨"NET_GRANTED", 0, 16, .ro, []⟩, ⟨"NET_REQ", 16, 16, .ro, []⟩],
  -- SH_GRANT_IN
  [⟨"GRANT", 0, 32, .ro, []⟩],
  -- SH_CH_SEL
  [⟨"CHANNEL", 0, 6, .rw, []⟩],
  -- SH_CH_STATUS
  [⟨"AGE_64", 0, 7, .ro, []⟩, ⟨"LEASE_LEFT", 7, 3, .ro, []⟩, ⟨"LEVEL", 10, 3, .ro, []⟩, ⟨"PRIO", 13, 3, .ro, []⟩, ⟨"GRANT_W", 16, 16, .ro, []⟩],
  -- SH_CH_REQ
  [⟨"REQ_W", 0, 16, .ro, []⟩, ⟨"ENV_A", 16, 7, .ro, []⟩],
  -- SH_LAPSES
  [⟨"COUNT", 0, 32, .cnt, []⟩],
  -- SH_EVENTS
  [⟨"FLOOR_ENTER", 0, 1, .sq, []⟩, ⟨"FLOOR_EXIT", 1, 1, .sq, []⟩, ⟨"LEASE_LAPSE", 2, 1, .sq, []⟩, ⟨"OVER_BUDGET", 3, 1, .sq, []⟩,
  ⟨"STARVED", 4, 1, .sq, []⟩, ⟨"REPORT_MISSING", 5, 1, .sq, []⟩, ⟨"SEQ", 24, 8, .sq, []⟩],
  -- SH_PARTIAL_ROUNDS
  [⟨"COUNT", 0, 32, .cnt, []⟩]]

/-- Fields of the JL_ registers, register by register in the order of `regsJL`. -/
def sheetFieldsJL : List (List SheetField) := [
  -- JL_PORT_STATUS
  [⟨"STATE", 0, 4, .ro, valsJlPortStatusState⟩, ⟨"RX_SYNC", 5, 1, .ro, []⟩, ⟨"LOCKED", 6, 1, .ro, []⟩, ⟨"WRAP", 7, 1, .ro, []⟩,
  ⟨"TONE_TX", 8, 1, .ro, []⟩, ⟨"TONE_HEARD", 9, 1, .rc, []⟩, ⟨"NEIGHBOUR", 16, 5, .ro, []⟩, ⟨"NB_VALID", 21, 1, .ro, []⟩],
  -- JL_PORT_CONTROL
  [⟨"EN", 0, 1, .rw, []⟩, ⟨"TONE", 1, 1, .w1p, []⟩, ⟨"SWING", 8, 2, .rw, valsJlPortControlSwing⟩,
  ⟨"DEEMPH", 12, 2, .rw, valsJlPortControlDeemph⟩],
  -- JL_CODE_ERRORS
  [⟨"COUNT", 0, 32, .cnt, []⟩],
  -- JL_CRC_ERRORS
  [⟨"COUNT", 0, 32, .cnt, []⟩],
  -- JL_STALE_DROPS
  [⟨"COUNT", 0, 32, .cnt, []⟩],
  -- JL_SLOT_ERRORS
  [⟨"COUNT", 0, 32, .cnt, []⟩],
  -- JL_LINK_DELAY
  [⟨"DELAY", 0, 16, .ro, []⟩],
  -- JL_NODE_ID
  [⟨"ID", 0, 6, .rw, []⟩],
  -- JL_CONTROL
  [⟨"JOIN_EN", 0, 1, .rw, []⟩, ⟨"CLAIM_EN", 1, 1, .rw, []⟩, ⟨"CLAIM_RANK", 8, 2, .rw, []⟩, ⟨"EXPECTED", 16, 5, .rw, []⟩,
  ⟨"WAKE_RING", 31, 1, .w1p, []⟩],
  -- JL_RING_STATUS
  [⟨"STATE", 0, 3, .ro, valsJlRingStatusState⟩, ⟨"CLAIMING", 9, 1, .ro, []⟩, ⟨"RING_WRAPPED", 10, 1, .ro, []⟩, ⟨"SPLIT", 11, 1, .ro, []⟩,
  ⟨"ID_IN_USE", 14, 6, .ro, []⟩, ⟨"MASTER_ID", 20, 5, .ro, []⟩, ⟨"JOINED", 26, 6, .ro, []⟩],
  -- JL_LOOP
  [⟨"LOOP_E", 0, 16, .ro, []⟩, ⟨"LOOP_W", 16, 16, .ro, []⟩],
  -- JL_EVENTS
  [⟨"PORT_UP", 0, 1, .sq, []⟩, ⟨"PORT_DOWN", 1, 1, .sq, []⟩, ⟨"WRAP_ON", 2, 1, .sq, []⟩, ⟨"WRAP_OFF", 3, 1, .sq, []⟩, ⟨"JOINED", 4, 1, .sq, []⟩,
  ⟨"JOIN_REFUSED", 5, 1, .sq, []⟩, ⟨"LEFT", 6, 1, .sq, []⟩, ⟨"MASTER_ON", 7, 1, .sq, []⟩, ⟨"SYNC_LOST", 8, 1, .sq, []⟩,
  ⟨"MASTER_RESIGNED", 9, 1, .sq, []⟩, ⟨"NODE_ADMITTED", 10, 1, .sq, []⟩, ⟨"NODE_REMOVED", 11, 1, .sq, []⟩, ⟨"RING_SLOW", 12, 1, .sq, []⟩,
  ⟨"TONE_SENT", 13, 1, .sq, []⟩, ⟨"ID_CLASH", 14, 1, .sq, []⟩, ⟨"SEQ", 24, 8, .sq, []⟩],
  -- JL_SYNC_MISSES
  [⟨"COUNT", 0, 32, .cnt, []⟩],
  -- JL_DROPS
  [⟨"COUNT", 0, 32, .cnt, []⟩],
  -- JL_GRANT_LATE
  [⟨"COUNT", 0, 32, .cnt, []⟩],
  -- JL_MEMBERS
  [⟨"MEMBERS", 0, 32, .ro, []⟩]]

/-- Fields of the PE_ registers, register by register in the order of `regsPE`. -/
def sheetFieldsPE : List (List SheetField) := [
  -- PE_STATUS
  [⟨"PRINTING", 0, 1, .ro, []⟩, ⟨"SUSPECT_ANY", 1, 1, .ro, []⟩, ⟨"OCV_BAD", 2, 1, .ro, []⟩, ⟨"EPOCH_NO", 16, 16, .ro, []⟩],
  -- PE_CONFIG
  [⟨"SOURCES", 0, 8, .rw, []⟩, ⟨"MODE", 8, 1, .rw, valsPeConfigMode⟩, ⟨"HOLDOFF_US", 16, 10, .rw, []⟩],
  -- PE_DISPUTE
  [⟨"DISPUTE_SOC", 0, 14, .rw, []⟩, ⟨"REST_10MA", 14, 6, .rw, []⟩, ⟨"SETTLE_S", 20, 12, .rw, []⟩],
  -- PE_TOL
  [⟨"T_TOL", 0, 16, .rw, []⟩, ⟨"T_AGE_MS", 16, 16, .rw, []⟩],
  -- PE_MOTION
  [⟨"SPEED_MAX", 0, 16, .rw, []⟩, ⟨"ACCEL_MAX", 16, 16, .rw, []⟩],
  -- PE_PATH
  [⟨"PATH_UOHM", 0, 20, .rw, []⟩],
  -- PE_SEL
  [⟨"CHANNEL", 0, 6, .rw, []⟩, ⟨"OCV_POINT", 16, 6, .rw, []⟩],
  -- PE_MAP
  [⟨"A_ENTRY", 10, 4, .rw, []⟩, ⟨"A_EN", 14, 1, .rw, []⟩, ⟨"ENC", 15, 2, .rw, []⟩, ⟨"E_EN", 17, 1, .rw, []⟩, ⟨"T_WORD", 20, 5, .rw, []⟩,
  ⟨"T_FILT", 25, 5, .rw, []⟩, ⟨"T_BUS", 30, 1, .rw, []⟩, ⟨"T_EN", 31, 1, .rw, []⟩],
  -- PE_CAP
  [⟨"CAP_MC", 0, 32, .rw, []⟩],
  -- PE_OCV
  [⟨"VOLTAGE", 0, 32, .rw, []⟩],
  -- PE_LATE
  [⟨"COUNT", 0, 32, .cnt, []⟩],
  -- PE_EVENTS
  [⟨"SUSPECT_ON", 0, 1, .sq, []⟩, ⟨"SUSPECT_OFF", 1, 1, .sq, []⟩, ⟨"DISPUTE_ON", 2, 1, .sq, []⟩, ⟨"OCV_TABLE_BAD", 3, 1, .sq, []⟩,
  ⟨"LATE_INPUT", 4, 1, .sq, []⟩, ⟨"SEQ", 24, 8, .sq, []⟩]]

/-- Fields of the FX_ registers, register by register in the order of `regsFX`. -/
def sheetFieldsFX : List (List SheetField) := [
  -- FX_STATUS
  [⟨"TABLE_LOADED", 0, 1, .ro, []⟩, ⟨"ENTRIES", 8, 8, .ro, []⟩],
  -- FX_ENABLE_LO
  [⟨"CHANNELS", 0, 32, .rw, []⟩],
  -- FX_ENABLE_HI
  [⟨"CHANNELS", 0, 32, .rw, []⟩],
  -- FX_REST
  [⟨"REST_MIN_S", 0, 16, .rw, []⟩, ⟨"SD_MIN_S", 16, 16, .rw, []⟩],
  -- FX_DCIR
  [⟨"DI_MIN_MA", 0, 16, .rw, []⟩, ⟨"DELAY_US", 16, 16, .rw, []⟩],
  -- FX_TABLE_CRC
  [⟨"CRC", 0, 32, .ro, []⟩],
  -- FX_REGRADE
  [⟨"CHANNEL", 0, 6, .rw, []⟩, ⟨"GO", 8, 1, .w1p, []⟩],
  -- FX_GRADES
  [⟨"COUNT", 0, 32, .cnt, []⟩],
  -- FX_EVENTS
  [⟨"TABLE_LOADED", 0, 1, .sq, []⟩, ⟨"TABLE_ENTRY_BAD", 1, 1, .sq, []⟩, ⟨"GRADE_HOLD", 2, 1, .sq, []⟩, ⟨"REGRADE_NONE", 3, 1, .sq, []⟩,
  ⟨"SEQ", 24, 8, .sq, []⟩],
  -- FX_LAST
  [⟨"SRC_SEQ", 0, 16, .ro, []⟩]]

/-- Fields of the EZ_ registers, register by register in the order of `regsEZ`. -/
def sheetFieldsEZ : List (List SheetField) := [
  -- EZ_STATUS
  [⟨"LINK", 0, 3, .ro, valsEzStatusLink⟩, ⟨"SAFE", 3, 1, .ro, []⟩, ⟨"SAFE_NOW", 4, 1, .ro, []⟩],
  -- EZ_SAFE_STATE
  [⟨"SW", 0, 16, .rw, []⟩, ⟨"VD", 16, 8, .rw, []⟩],
  -- EZ_SW_CMD
  [⟨"SW", 0, 16, .rw, []⟩],
  -- EZ_SW_CONFIG
  [⟨"RESTART", 0, 16, .rw, []⟩],
  -- EZ_SW_STATUS
  [⟨"SW_ON", 0, 16, .ro, []⟩, ⟨"LATCHED", 16, 16, .ro, []⟩],
  -- EZ_SEL
  [⟨"SWITCH", 0, 4, .rw, []⟩],
  -- EZ_SW_DIAG
  [⟨"HELD_CLAMP", 5, 1, .rc, []⟩, ⟨"SHORT_SUPPLY", 6, 1, .ro, []⟩, ⟨"OPEN_LOAD", 7, 1, .ro, []⟩, ⟨"RESTARTS", 8, 8, .ro, []⟩,
  ⟨"STATE", 16, 4, .ro, valsEzSwDiagState⟩, ⟨"CURRENT", 20, 12, .ro, []⟩],
  -- EZ_IN_TYPE
  [⟨"TYPE3", 0, 24, .rw, []⟩],
  -- EZ_IN_WB
  [⟨"WIREBREAK", 0, 24, .rw, []⟩],
  -- EZ_IN_FILTER
  [⟨"FILTER_MS", 0, 4, .rw, []⟩],
  -- EZ_IN_LEVEL
  [⟨"IN", 0, 24, .ro, []⟩, ⟨"STALE", 31, 1, .ro, []⟩],
  -- EZ_IN_CHANGE
  [⟨"IN0", 0, 1, .sq, []⟩, ⟨"IN1", 1, 1, .sq, []⟩, ⟨"IN2", 2, 1, .sq, []⟩, ⟨"IN3", 3, 1, .sq, []⟩, ⟨"IN4", 4, 1, .sq, []⟩, ⟨"IN5", 5, 1, .sq, []⟩,
  ⟨"IN6", 6, 1, .sq, []⟩, ⟨"IN7", 7, 1, .sq, []⟩, ⟨"IN8", 8, 1, .sq, []⟩, ⟨"IN9", 9, 1, .sq, []⟩, ⟨"IN10", 10, 1, .sq, []⟩,
  ⟨"IN11", 11, 1, .sq, []⟩, ⟨"IN12", 12, 1, .sq, []⟩, ⟨"IN13", 13, 1, .sq, []⟩, ⟨"IN14", 14, 1, .sq, []⟩, ⟨"IN15", 15, 1, .sq, []⟩,
  ⟨"IN16", 16, 1, .sq, []⟩, ⟨"IN17", 17, 1, .sq, []⟩, ⟨"IN18", 18, 1, .sq, []⟩, ⟨"IN19", 19, 1, .sq, []⟩, ⟨"IN20", 20, 1, .sq, []⟩,
  ⟨"IN21", 21, 1, .sq, []⟩, ⟨"IN22", 22, 1, .sq, []⟩, ⟨"IN23", 23, 1, .sq, []⟩, ⟨"SEQ", 24, 8, .sq, []⟩],
  -- EZ_IN_BREAK
  [⟨"IN", 0, 24, .ro, []⟩],
  -- EZ_SUPPLY
  [⟨"FLAGS", 0, 5, .ro, []⟩, ⟨"TEMP", 8, 8, .ro, []⟩, ⟨"VFIELD", 16, 16, .ro, []⟩],
  -- EZ_EVENTS
  [⟨"LINK_READY", 0, 1, .sq, []⟩, ⟨"LINK_LOST", 1, 1, .sq, []⟩, ⟨"SAFE_ENTER", 2, 1, .sq, []⟩, ⟨"SAFE_RELEASE", 3, 1, .sq, []⟩,
  ⟨"REVERSE", 4, 1, .sq, []⟩, ⟨"FGND_LOSS", 5, 1, .sq, []⟩, ⟨"SURGE", 6, 1, .sq, []⟩, ⟨"UNDERVOLT", 7, 1, .sq, []⟩, ⟨"SUPPLY_OK", 8, 1, .sq, []⟩,
  ⟨"SW_OVERLOAD", 9, 1, .sq, []⟩, ⟨"SW_LATCHED", 10, 1, .sq, []⟩, ⟨"SW_OPEN_LOAD", 11, 1, .sq, []⟩, ⟨"SW_SHORT_SUPPLY", 12, 1, .sq, []⟩,
  ⟨"HELD_CLAMP", 13, 1, .sq, []⟩, ⟨"WIRE_BREAK", 14, 1, .sq, []⟩, ⟨"WIRE_OK", 15, 1, .sq, []⟩, ⟨"SEQ", 24, 8, .sq, []⟩],
  -- EZ_UP_BAD
  [⟨"COUNT", 0, 32, .cnt, []⟩],
  -- EZ_DOWN_BAD
  [⟨"COUNT", 0, 32, .cnt, []⟩],
  -- EZ_SAFE_ENTRIES
  [⟨"COUNT", 0, 32, .cnt, []⟩]]

/-- Fields of the WN_ registers, register by register in the order of `regsWN`. -/
def sheetFieldsWN : List (List SheetField) := [
  -- WN_CONFIG
  [⟨"DIAG_ON", 0, 1, .rw, []⟩, ⟨"DIAG_OFF", 1, 1, .rw, []⟩, ⟨"BLANK", 8, 4, .rw, []⟩, ⟨"F_KHZ", 16, 8, .rw, []⟩, ⟨"PAIR", 31, 1, .rw, []⟩],
  -- WN_STATUS
  [⟨"LATCHED", 5, 1, .ro, []⟩, ⟨"PEAK_CAPPED", 6, 1, .ro, []⟩, ⟨"C", 7, 1, .ro, []⟩, ⟨"PC", 8, 6, .ro, []⟩, ⟨"END_CODE", 16, 8, .ro, []⟩,
  ⟨"END_CAUSE", 24, 4, .ro, valsWnStatusEndCause⟩, ⟨"STATE", 28, 3, .ro, valsWnStatusState⟩, ⟨"RUN", 31, 1, .ro, []⟩],
  -- WN_CURRENT
  [⟨"MEAN", 0, 16, .ro, []⟩, ⟨"TARGET", 16, 16, .ro, []⟩],
  -- WN_DIAG
  [⟨"OFF_TESTS", 0, 8, .ro, []⟩, ⟨"HELD_CLAMP", 8, 1, .rc, []⟩, ⟨"OFF_RESULT", 24, 4, .ro, valsWnDiagOffResult⟩,
  ⟨"ON_RESULT", 28, 4, .ro, valsWnDiagOffResult⟩],
  -- WN_EVENTS
  [⟨"WAND_START", 0, 1, .sq, []⟩, ⟨"WAND_END", 1, 1, .sq, []⟩, ⟨"PROG_FAULT", 2, 1, .sq, []⟩, ⟨"DRV_TRIP", 3, 1, .sq, []⟩,
  ⟨"BRIDGE_SHORT", 4, 1, .sq, []⟩, ⟨"DIAG_ON", 5, 1, .sq, []⟩, ⟨"DIAG_OFF_CHANGE", 6, 1, .sq, []⟩, ⟨"PEAK_CAPPED", 7, 1, .sq, []⟩,
  ⟨"HELD_CLAMP", 8, 1, .sq, []⟩, ⟨"SEQ", 24, 8, .sq, []⟩]]

/-- Fields of the CN_ registers, register by register in the order of `regsCN`. -/
def sheetFieldsCN : List (List SheetField) := [
  -- CN_CONFIG
  [⟨"MODE", 0, 2, .rw, valsCnConfigMode⟩, ⟨"SLEEP", 9, 1, .rw, []⟩],
  -- CN_NBT
  [⟨"SJW", 0, 8, .rw, []⟩, ⟨"TSEG2", 8, 8, .rw, []⟩, ⟨"TSEG1", 16, 8, .rw, []⟩, ⟨"BRP", 24, 8, .rw, []⟩],
  -- CN_DBT
  [⟨"SJW", 0, 8, .rw, []⟩, ⟨"TSEG2", 8, 8, .rw, []⟩, ⟨"TSEG1", 16, 8, .rw, []⟩, ⟨"BRP", 24, 8, .rw, []⟩],
  -- CN_STATUS
  [⟨"ARMED", 3, 1, .ro, []⟩, ⟨"TX_BUSY", 4, 1, .ro, []⟩, ⟨"STATE", 8, 3, .ro, valsCnStatusState⟩, ⟨"TDC_DELAY", 16, 8, .ro, []⟩],
  -- CN_ERR
  [⟨"TEC", 0, 9, .ro, []⟩, ⟨"REC", 16, 8, .ro, []⟩, ⟨"FEC", 24, 8, .ro, []⟩],
  -- CN_WAKE_CONFIG
  [⟨"FOG", 0, 6, .rw, []⟩, ⟨"FEC_MAX", 16, 5, .rw, []⟩, ⟨"RATE", 28, 2, .rw, valsCnWakeConfigRate⟩,
  ⟨"WAKE_MODE", 30, 2, .rw, valsCnWakeConfigWakeMode⟩],
  -- CN_WAKE_ID
  [⟨"ID", 0, 29, .ro, []⟩, ⟨"IDE", 29, 1, .ro, []⟩],
  -- CN_WAKE_DATA_LO
  [⟨"DATA", 0, 32, .ro, []⟩],
  -- CN_WAKE_DATA_HI
  [⟨"DATA", 0, 32, .ro, []⟩],
  -- CN_WAKE_INFO
  [⟨"COUNT", 0, 16, .ro, []⟩, ⟨"DLC", 16, 4, .ro, []⟩, ⟨"FILTER", 24, 5, .ro, []⟩, ⟨"CAUSE", 29, 3, .ro, valsCnWakeInfoCause⟩],
  -- CN_RX_DROPS
  [⟨"COUNT", 0, 32, .cnt, []⟩],
  -- CN_EVENTS
  [⟨"WAKE", 0, 1, .sq, []⟩, ⟨"SLEEP_ENTERED", 1, 1, .sq, []⟩, ⟨"ERR_PASSIVE", 2, 1, .sq, []⟩, ⟨"ERR_ACTIVE", 3, 1, .sq, []⟩,
  ⟨"BUS_OFF", 4, 1, .sq, []⟩, ⟨"BUS_ON", 5, 1, .sq, []⟩, ⟨"TX_ABANDONED", 6, 1, .sq, []⟩, ⟨"RX_OVERRUN", 7, 1, .sq, []⟩,
  ⟨"TXD_DOMINANT", 8, 1, .sq, []⟩, ⟨"BUS_DOMINANT", 9, 1, .sq, []⟩, ⟨"SEQ", 24, 8, .sq, []⟩]]

/-- Fields of the EN_ registers, register by register in the order of `regsEN`. -/
def sheetFieldsEN : List (List SheetField) := [
  -- EN_CONFIG
  [⟨"MODE", 0, 3, .ro, valsEnConfigMode⟩, ⟨"CAP_EN", 3, 1, .rw, []⟩, ⟨"FILTER_N", 8, 8, .ro, []⟩, ⟨"STILL_MS", 16, 8, .rw, []⟩,
  ⟨"CAP_STOP", 24, 2, .rw, valsEnConfigCapStop⟩, ⟨"CAP_START", 26, 2, .rw, valsEnConfigCapStop⟩],
  -- EN_SERIAL
  [⟨"BITS", 0, 6, .rw, []⟩, ⟨"GRAY", 6, 1, .rw, []⟩, ⟨"CLK_DIV", 8, 8, .rw, []⟩, ⟨"POLL", 16, 8, .rw, []⟩, ⟨"MONO", 24, 4, .rw, []⟩],
  -- EN_COUNT
  [⟨"COUNT", 0, 32, .ro, []⟩],
  -- EN_INDEX
  [⟨"COUNT", 0, 32, .ro, []⟩],
  -- EN_SPEED
  [⟨"SPEED", 0, 32, .ro, []⟩],
  -- EN_CAPTURE
  [⟨"DURATION", 0, 31, .ro, []⟩, ⟨"COINCIDENT", 31, 1, .ro, []⟩],
  -- EN_ERRORS
  [⟨"COUNT", 0, 32, .cnt, []⟩],
  -- EN_EVENTS
  [⟨"WRAP", 0, 1, .sq, []⟩, ⟨"LIMIT_HIT", 1, 1, .sq, []⟩, ⟨"INDEX", 2, 1, .sq, []⟩, ⟨"QUAD_ERR", 3, 1, .sq, []⟩, ⟨"FRAME_ERR", 4, 1, .sq, []⟩,
  ⟨"ENC_ERR", 5, 1, .sq, []⟩, ⟨"ENC_WARN", 6, 1, .sq, []⟩, ⟨"LINE_FAULT", 7, 1, .sq, []⟩, ⟨"STALE", 8, 1, .sq, []⟩, ⟨"SEQ", 24, 8, .sq, []⟩]]

/-- Fields of the SN_ registers, register by register in the order of `regsSN`. -/
def sheetFieldsSN : List (List SheetField) := [
  -- SN_CONFIG
  [⟨"EN", 0, 1, .rw, []⟩],
  -- SN_STATUS
  [⟨"VALID", 0, 16, .ro, []⟩, ⟨"BUSY", 16, 1, .ro, []⟩],
  -- SN_SEL
  [⟨"ENTRY", 0, 4, .rw, []⟩],
  -- SN_VALUE
  [⟨"VALUE", 0, 32, .ro, []⟩],
  -- SN_TIME
  [⟨"TIME", 0, 32, .ro, []⟩],
  -- SN_EVENTS
  [⟨"OVERRUN", 0, 1, .sq, []⟩, ⟨"ENTRY_BAD", 1, 1, .sq, []⟩, ⟨"SCHEDULE_LOADED", 2, 1, .sq, []⟩, ⟨"SEQ", 24, 8, .sq, []⟩]]

/-- Fields of the MM_ registers, register by register in the order of `regsMM`. -/
def sheetFieldsMM : List (List SheetField) := [
  -- MM_STATUS
  [⟨"UE_MACROS", 0, 8, .ro, []⟩, ⟨"UNEXP_MACROS", 8, 8, .ro, []⟩, ⟨"MACRO", 16, 8, .ro, []⟩, ⟨"SCRUB_ACTIVE", 31, 1, .ro, []⟩],
  -- MM_SEL
  [⟨"MACRO", 0, 8, .rw, []⟩],
  -- MM_MACRO_INFO
  [⟨"WORDS", 0, 14, .ro, []⟩, ⟨"OWNER", 22, 8, .ro, []⟩, ⟨"PRESENT", 31, 1, .ro, []⟩],
  -- MM_UNEXP_ADDR
  [⟨"WORD", 0, 14, .ro, []⟩, ⟨"VALID", 31, 1, .ro, []⟩],
  -- MM_UE_ADDR
  [⟨"WORD", 0, 14, .ro, []⟩, ⟨"VALID", 31, 1, .ro, []⟩],
  -- MM_LATCH_CLEAR
  [⟨"UNEXP", 0, 1, .w1p, []⟩, ⟨"UE", 1, 1, .w1p, []⟩],
  -- MM_CE_COUNT
  [⟨"COUNT", 0, 32, .cnt, []⟩],
  -- MM_UE_COUNT
  [⟨"COUNT", 0, 32, .cnt, []⟩],
  -- MM_UNEXP_COUNT
  [⟨"COUNT", 0, 32, .cnt, []⟩],
  -- MM_SCRUB
  [⟨"PERIOD_S", 0, 12, .rw, []⟩, ⟨"EN", 31, 1, .rw, []⟩],
  -- MM_FUSE
  [⟨"COL0", 0, 7, .ro, []⟩, ⟨"COL1", 7, 7, .ro, []⟩, ⟨"COL2", 14, 7, .ro, []⟩, ⟨"COL3", 21, 7, .ro, []⟩, ⟨"USED", 28, 3, .ro, []⟩,
  ⟨"FUSE_OK", 31, 1, .ro, []⟩],
  -- MM_EVENTS
  [⟨"UNEXPOSED", 0, 1, .sq, []⟩, ⟨"ECC_UE", 1, 1, .sq, []⟩, ⟨"SCRUB_PASS", 2, 1, .sq, []⟩, ⟨"FUSE_BAD", 3, 1, .sq, []⟩, ⟨"SEQ", 24, 8, .sq, []⟩]]

/-- Fields of the SB_ registers, register by register in the order of `regsSB`. -/
def sheetFieldsSB : List (List SheetField) := [
  -- SB_STATUS
  [⟨"PIN_LOW", 16, 1, .ro, []⟩, ⟨"SOURCES", 24, 4, .ro, []⟩, ⟨"CLASS", 28, 3, .ro, valsSbStatusClass⟩, ⟨"STOP_IN_FORCE", 31, 1, .ro, []⟩],
  -- SB_CONFIG
  [⟨"CI_WDOG", 0, 8, .rw, []⟩, ⟨"PIN_RACK", 15, 1, .rw, []⟩, ⟨"PIN_CLASS", 16, 3, .rw, valsSbStatusClass⟩],
  -- SB_LAST_STOP
  [⟨"CAUSE", 0, 8, .ro, []⟩, ⟨"NODE", 16, 5, .ro, []⟩, ⟨"CLASS", 24, 3, .ro, valsSbStatusClass⟩, ⟨"SOURCE", 28, 4, .ro, valsSbLastStopSource⟩],
  -- SB_STOP_TIME
  [⟨"TIME", 0, 32, .ro, []⟩],
  -- SB_FENCED_CI_LO
  [⟨"FENCED", 0, 32, .ro, []⟩],
  -- SB_FENCED_CI_HI
  [⟨"FENCED", 0, 32, .ro, []⟩],
  -- SB_FENCED_MI_LO
  [⟨"FENCED", 0, 32, .ro, []⟩],
  -- SB_FENCED_MI_HI
  [⟨"FENCED", 0, 32, .ro, []⟩],
  -- SB_FENCED_HUB
  [⟨"DOM_14_9", 9, 6, .ro, []⟩, ⟨"DOM_18_17", 17, 2, .ro, []⟩],
  -- SB_HUB_READMIT
  [⟨"DOM_14_9", 9, 6, .w1p, []⟩, ⟨"DOM_18_17", 17, 2, .w1p, []⟩],
  -- SB_LATCHED_LO
  [⟨"LATCHED", 0, 32, .ro, []⟩],
  -- SB_LATCHED_HI
  [⟨"LATCHED", 0, 32, .ro, []⟩],
  -- SB_FAULT_SEL
  [⟨"CHANNEL", 0, 6, .rw, []⟩],
  -- SB_FAULT_CH
  [⟨"LIMIT", 0, 1, .ro, []⟩, ⟨"PROGRAM", 1, 1, .ro, []⟩, ⟨"FENCE", 2, 1, .ro, []⟩, ⟨"VPATH", 3, 1, .ro, []⟩, ⟨"GANG_V", 4, 1, .ro, []⟩,
  ⟨"MEMORY", 5, 1, .ro, []⟩, ⟨"PHASE", 8, 1, .ro, []⟩, ⟨"CAUSE", 16, 8, .ro, []⟩],
  -- SB_EVENTS
  [⟨"STOP_ENTER", 0, 1, .sq, []⟩, ⟨"STOP_ESCALATE", 1, 1, .sq, []⟩, ⟨"STOP_CLEARED", 2, 1, .sq, []⟩, ⟨"FENCE", 3, 1, .sq, []⟩,
  ⟨"CH_FAULT", 4, 1, .sq, []⟩, ⟨"READMIT", 5, 1, .sq, []⟩, ⟨"SELFTEST_FAIL", 6, 1, .sq, []⟩, ⟨"GRANT_HOLD", 7, 1, .sq, []⟩,
  ⟨"VBUS_RANGE", 8, 1, .sq, []⟩, ⟨"SEQ", 24, 8, .sq, []⟩],
  -- SB_FENCES
  [⟨"COUNT", 0, 32, .cnt, []⟩]]

/-- Fields of the SL_ registers, register by register in the order of `regsSL`. -/
def sheetFieldsSL : List (List SheetField) := [
  -- SL_STATUS
  [⟨"STATE", 0, 2, .ro, valsSlStatusState⟩, ⟨"PARKING", 2, 1, .ro, []⟩, ⟨"PARK_REFUSED", 3, 1, .rc, []⟩, ⟨"XTAL_OK", 5, 1, .ro, []⟩,
  ⟨"XTAL_MEAS_VALID", 6, 1, .ro, []⟩, ⟨"PWREQ", 8, 1, .ro, []⟩],
  -- SL_CONTROL
  [⟨"DRAIN_MS", 0, 10, .rw, []⟩, ⟨"PARK", 16, 1, .w1p, []⟩, ⟨"RESET", 31, 1, .w1p, []⟩],
  -- SL_WAKE_EN
  [⟨"SOURCES", 1, 7, .rw, []⟩],
  -- SL_WAKE_CAUSE
  [⟨"POWER", 0, 1, .ro, []⟩, ⟨"SOURCES", 1, 7, .ro, []⟩, ⟨"HOST_RESET", 8, 1, .ro, []⟩, ⟨"FIRST", 12, 4, .ro, []⟩],
  -- SL_WAKE_TICKS_LO
  [⟨"TICKS", 0, 32, .ro, []⟩],
  -- SL_WAKE_TICKS_HI
  [⟨"TICKS", 0, 16, .ro, []⟩],
  -- SL_ALARM
  [⟨"ALARM_S", 0, 24, .rw, []⟩],
  -- SL_XTAL_MEAS
  [⟨"DEVIATION", 0, 16, .ro, []⟩, ⟨"VALID", 31, 1, .ro, []⟩],
  -- SL_PARK_INFO
  [⟨"LOST", 0, 16, .ro, []⟩, ⟨"RESTORED", 27, 1, .ro, []⟩, ⟨"LAST_PARK_CAUSE", 28, 3, .ro, valsSlParkInfoLastParkCause⟩,
  ⟨"PARK_VALID", 31, 1, .ro, []⟩],
  -- SL_EVENTS
  [⟨"WOKE", 0, 1, .sq, []⟩, ⟨"TIME_RESTORED", 1, 1, .sq, []⟩, ⟨"XTAL_FAIL", 2, 1, .sq, []⟩, ⟨"XTAL_OK", 3, 1, .sq, []⟩, ⟨"ALARM", 4, 1, .sq, []⟩,
  ⟨"POWER_LOSS", 5, 1, .sq, []⟩, ⟨"SEQ", 24, 8, .sq, []⟩]]

/-- Fields of the PR_ registers, register by register in the order of `regsPR`. -/
def sheetFieldsPR : List (List SheetField) := [
  -- PR_STATUS
  [⟨"WINDOW_OPEN", 0, 1, .ro, []⟩, ⟨"CALEN_FITTED", 1, 1, .ro, []⟩, ⟨"SEAL_OPEN", 2, 1, .ro, []⟩, ⟨"BUTTON_STUCK", 3, 1, .ro, []⟩,
  ⟨"PRES_LEVEL", 4, 1, .ro, []⟩, ⟨"PS_READY", 5, 1, .ro, []⟩, ⟨"LOG_NEWEST", 8, 4, .ro, []⟩, ⟨"LOG_WRAPPED", 13, 1, .ro, []⟩,
  ⟨"WINDOW_LEFT_MS", 16, 15, .ro, []⟩],
  -- PR_CONTROL
  [⟨"LOG_INDEX", 0, 4, .rw, []⟩, ⟨"CLOSE", 8, 1, .w1p, []⟩],
  -- PR_REFUSALS
  [⟨"COUNT", 0, 32, .cnt, []⟩],
  -- PR_LAST_REFUSAL
  [⟨"WHAT", 0, 20, .ro, []⟩, ⟨"RING", 24, 2, .ro, []⟩, ⟨"REQUESTER", 26, 2, .ro, valsPrLastRefusalRequester⟩, ⟨"NO_SEAL", 28, 1, .ro, []⟩,
  ⟨"NO_CALEN", 29, 1, .ro, []⟩, ⟨"NO_WINDOW", 30, 1, .ro, []⟩, ⟨"SOURCE", 31, 1, .ro, valsPrLastRefusalSource⟩],
  -- PR_SEAL_LOG_LO
  [⟨"ENTRY_LO", 0, 32, .ro, []⟩],
  -- PR_SEAL_LOG_HI
  [⟨"ENTRY_HI", 0, 32, .ro, []⟩]]

/-- Fields of the TK_ registers, register by register in the order of `regsTK`. -/
def sheetFieldsTK : List (List SheetField) := [
  -- TK_STATUS
  [⟨"SOURCE", 0, 2, .ro, valsTkStatusSource⟩, ⟨"TSYNC_ALIGNED", 2, 1, .ro, []⟩, ⟨"TSYNC_MISSING", 3, 1, .ro, []⟩, ⟨"REFCLK_OK", 4, 1, .ro, []⟩,
  ⟨"PUBLISHED", 5, 1, .ro, []⟩],
  -- TK_CONFIG
  [⟨"TSYNC_ALIGN", 0, 1, .rw, []⟩],
  -- TK_EPOCH
  [⟨"EPOCH_Q", 0, 6, .rw, []⟩],
  -- TK_NOW_LO
  [⟨"NOW", 0, 32, .ro, []⟩],
  -- TK_NOW_HI
  [⟨"NOW", 0, 32, .ro, []⟩],
  -- TK_SYNC_OFFSET
  [⟨"OFFSET", 0, 32, .ro, []⟩],
  -- TK_TSYNC_DIFF
  [⟨"DIFF", 0, 32, .ro, []⟩],
  -- TK_EVENTS
  [⟨"ISLAND_TIME_STEP", 0, 1, .sq, []⟩, ⟨"ISLAND_TIME_HOLD", 1, 1, .sq, []⟩, ⟨"TIME_LOAD", 2, 1, .sq, []⟩, ⟨"TIME_SPLIT", 3, 1, .sq, []⟩,
  ⟨"TSYNC_MISSING", 4, 1, .sq, []⟩, ⟨"REFCLK_LOSS", 5, 1, .sq, []⟩, ⟨"SEQ", 24, 8, .sq, []⟩],
  -- TK_PTM_JT_LO
  [⟨"VALUE", 0, 32, .ro, []⟩],
  -- TK_PTM_JT_HI
  [⟨"VALUE", 0, 32, .ro, []⟩],
  -- TK_PTM_HOST_LO
  [⟨"VALUE", 0, 32, .ro, []⟩],
  -- TK_PTM_HOST_HI
  [⟨"VALUE", 0, 32, .ro, []⟩]]

/-- Fields of the DV_ registers, register by register in the order of `regsDV`. -/
def sheetFieldsDV : List (List SheetField) := [
  -- DV_STATE
  [⟨"STATE", 0, 3, .ro, valsDvStateState⟩, ⟨"WAITING", 3, 1, .ro, []⟩, ⟨"C", 9, 1, .ro, []⟩, ⟨"ACTIVE_BANK", 10, 1, .ro, []⟩,
  ⟨"SWAP_ARMED", 11, 1, .ro, []⟩, ⟨"QUEUED", 12, 1, .ro, []⟩, ⟨"LATCHED", 13, 1, .ro, []⟩, ⟨"GEN", 16, 16, .ro, []⟩],
  -- DV_RUN
  [⟨"END_REASON", 8, 8, .ro, valsDvRunEndReason⟩, ⟨"LAST_TERM", 16, 4, .ro, []⟩, ⟨"DEPTH", 20, 3, .ro, []⟩, ⟨"PC", 23, 9, .ro, []⟩],
  -- DV_EXPO_LO
  [⟨"EXPOSURE", 0, 32, .ro, []⟩],
  -- DV_EXPO_HI
  [⟨"EXPOSURE", 0, 32, .ro, []⟩],
  -- DV_SEL
  [⟨"ITEM", 0, 3, .rw, valsDvSelItem⟩],
  -- DV_LIMITS
  [⟨"VALUE", 0, 32, .rw, []⟩],
  -- DV_EVENTS
  [⟨"RUN_START", 10, 1, .sq, []⟩, ⟨"RUN_END", 11, 1, .sq, []⟩, ⟨"BANK_SWAPPED", 12, 1, .sq, []⟩, ⟨"STEP_SHORT", 13, 1, .sq, []⟩,
  ⟨"LEDGER_REACHED", 14, 1, .sq, []⟩, ⟨"LEDGER_OVERRUN", 15, 1, .sq, []⟩, ⟨"EXPO_SAT", 16, 1, .sq, []⟩, ⟨"LIMIT_TRIP", 17, 1, .sq, []⟩,
  ⟨"PROG_FAULT", 18, 1, .sq, []⟩, ⟨"START_QUEUED", 19, 1, .sq, []⟩, ⟨"SEQ", 24, 8, .sq, []⟩],
  -- DV_PWM
  [⟨"PERIOD", 0, 13, .rw, []⟩, ⟨"DEADTIME", 16, 8, .rw, []⟩, ⟨"PH_EN", 28, 4, .rw, []⟩],
  -- DV_LOOP
  [⟨"I_KI", 0, 8, .rw, []⟩, ⟨"I_KP", 8, 8, .rw, []⟩, ⟨"V_KI", 16, 8, .rw, []⟩, ⟨"V_KP", 24, 8, .rw, []⟩],
  -- DV_TRIP
  [⟨"NTRIP", 0, 8, .rw, []⟩, ⟨"BLANK", 16, 8, .rw, []⟩, ⟨"RETRY_MS", 24, 8, .rw, []⟩],
  -- DV_FADE
  [⟨"FADE_US", 0, 16, .rw, []⟩, ⟨"DISCH_US", 16, 16, .rw, []⟩],
  -- DV_PH_STATUS
  [⟨"PH0_STATE", 0, 4, .ro, valsDvPhStatusPh0State⟩, ⟨"PH1_STATE", 4, 4, .ro, valsDvPhStatusPh0State⟩,
  ⟨"PH2_STATE", 8, 4, .ro, valsDvPhStatusPh0State⟩, ⟨"PH3_STATE", 12, 4, .ro, valsDvPhStatusPh0State⟩, ⟨"NTRIPS", 16, 8, .cnt, []⟩,
  ⟨"CHEN", 29, 1, .ro, []⟩, ⟨"LIMITED", 30, 1, .ro, []⟩, ⟨"SHORT", 31, 1, .ro, []⟩],
  -- DV_PH_EVENTS
  [⟨"PH_TRIP_LATCH", 0, 1, .sq, []⟩, ⟨"HARD_TRIP", 1, 1, .sq, []⟩, ⟨"DRIVER_FAULT", 2, 1, .sq, []⟩, ⟨"PH_RETRY", 3, 1, .sq, []⟩,
  ⟨"PH_LATCHED", 4, 1, .sq, []⟩, ⟨"CH_SHORT", 5, 1, .sq, []⟩, ⟨"PH_OPEN", 6, 1, .sq, []⟩, ⟨"PH_SENSE_FAIL", 7, 1, .sq, []⟩,
  ⟨"LIMITED_ON", 8, 1, .sq, []⟩, ⟨"CH_NO_PHASE", 9, 1, .sq, []⟩, ⟨"SEQ", 24, 8, .sq, []⟩]]

/-- Fields of the MS_ registers, register by register in the order of `regsMS`. -/
def sheetFieldsMS : List (List SheetField) := [
  -- MS_CONFIG
  [⟨"TH_EN", 8, 1, .rw, []⟩, ⟨"RATE", 16, 3, .rw, valsMsConfigRate⟩],
  -- MS_STATUS
  [⟨"CAL_FAILS", 0, 2, .ro, []⟩, ⟨"CALIBRATED", 2, 1, .ro, []⟩, ⟨"TH_FAULT", 3, 1, .ro, []⟩, ⟨"OVER_RANGE", 4, 1, .ro, []⟩,
  ⟨"FAST_PATH", 5, 1, .ro, []⟩, ⟨"REF_SUSPECT", 6, 1, .ro, []⟩, ⟨"REF_LOST", 7, 1, .ro, []⟩, ⟨"CAL_BAD", 8, 1, .ro, []⟩,
  ⟨"CAL_STATE", 14, 2, .ro, valsMsStatusCalState⟩, ⟨"CAL_AGE_S", 16, 16, .ro, []⟩],
  -- MS_SHUNT
  [⟨"SHUNT_NOHM", 0, 32, .rw, []⟩],
  -- MS_THERM
  [⟨"RES_NOM", 0, 16, .rw, []⟩, ⟨"BETA", 16, 16, .rw, []⟩],
  -- MS_CAL_SEL
  [⟨"QTY", 0, 2, .rw, valsMsCalSelQty⟩],
  -- MS_CAL_GAIN
  [⟨"GAIN", 0, 32, .rw, []⟩],
  -- MS_CAL_OFFSET
  [⟨"OFFSET", 0, 32, .rw, []⟩],
  -- MS_AUTOCAL
  [⟨"INTERVAL_S", 0, 12, .rw, []⟩, ⟨"REST_OK", 12, 1, .rw, []⟩, ⟨"DARK_OK", 13, 1, .rw, []⟩],
  -- MS_REF_CHECK
  [⟨"ERR_PPM", 0, 16, .ro, []⟩],
  -- MS_EVENTS
  [⟨"CAL_DONE", 0, 1, .sq, []⟩, ⟨"CAL_ABANDONED", 1, 1, .sq, []⟩, ⟨"CAL_FORCED", 2, 1, .sq, []⟩, ⟨"CAL_FAIL", 3, 1, .sq, []⟩,
  ⟨"CAL_BAD", 4, 1, .sq, []⟩, ⟨"REF_MISMATCH", 5, 1, .sq, []⟩, ⟨"REF_LOST", 6, 1, .sq, []⟩, ⟨"OVER_RANGE_ON", 7, 1, .sq, []⟩,
  ⟨"TH_OPEN", 8, 1, .sq, []⟩, ⟨"TH_SHORT", 9, 1, .sq, []⟩, ⟨"V_PATH_MISMATCH", 10, 1, .sq, []⟩, ⟨"GANG_V_MISMATCH", 11, 1, .sq, []⟩,
  ⟨"MOD_FAULT", 12, 1, .sq, []⟩, ⟨"SEQ", 24, 8, .sq, []⟩]]

/-- The field lists of a block. -/
def Blk.sheetFields : Blk → List (List SheetField)
  | .cs => sheetFieldsCS
  | .hub => sheetFieldsHUB
  | .hl => sheetFieldsHL
  | .rg => sheetFieldsRG
  | .sp => sheetFieldsSP
  | .ar => sheetFieldsAR
  | .sh => sheetFieldsSH
  | .jl => sheetFieldsJL
  | .pe => sheetFieldsPE
  | .fx => sheetFieldsFX
  | .ez => sheetFieldsEZ
  | .wn => sheetFieldsWN
  | .cn => sheetFieldsCN
  | .en => sheetFieldsEN
  | .sn => sheetFieldsSN
  | .mm => sheetFieldsMM
  | .sb => sheetFieldsSB
  | .sl => sheetFieldsSL
  | .pr => sheetFieldsPR
  | .tk => sheetFieldsTK
  | .dv => sheetFieldsDV
  | .ms => sheetFieldsMS

end Sys2Proof.Machine
end

