-- ==== Sys2Proof/Machine/SheetRom.lean ====
section
/-!
DEFINITION. Machine/SheetRom.lean: the contact sheet image of each variant, byte by byte, as the mask ROM holds it (R2, R12, R13, R40–R57,
R919–R923): built from the block table, the register tables and the field tables of the model itself.
-/
namespace Sys2Proof.Machine

/-! ### Code encodings (R55) -/

/-- Access code in the sheet. -/
def Acc.code : Acc → Nat
  | .rw => 0 | .ro => 1 | .rc => 2 | .sq => 3 | .w1p => 4 | .cnt => 5

/-- Take-effect code in the sheet. -/
def Te.code : Te → Nat
  | .imm => 0 | .pwm => 1 | .step => 2 | .epoch => 3 | .beat => 4 | .frame => 5 | .reset => 6

/-- Privilege code in the sheet. -/
def Priv.code : Priv → Nat
  | .any => 0 | .p => 1 | .pp => 2 | .ps => 3

/-- The codes half-word of a register descriptor (R48). -/
def RegDef.codes (r : RegDef) : Nat := r.acc.code + 16 * r.te.code + 256 * r.priv.code

/-! ### What the sheet lists -/

/-- The block's prefix (R56). -/
def Blk.prefix_ : Blk → String
  | .cs => "CS_" | .hub => "HUB_" | .hl => "HL_" | .rg => "RG_" | .sp => "SP_" | .ar => "AR_" | .sh => "SH_" | .jl => "JL_"
  | .pe => "PE_" | .fx => "FX_" | .ez => "EZ_" | .wn => "WN_" | .cn => "CN_" | .en => "EN_" | .sn => "SN_" | .mm => "MM_"
  | .sb => "SB_" | .sl => "SL_" | .pr => "PR_" | .tk => "TK_" | .dv => "DV_" | .ms => "MS_"

/-- DV_ and MS_ carry PER_CHANNEL (R45, R56). -/
def Blk.perChannel : Blk → Bool
  | .dv => true | .ms => true | _ => false

/-- The blocks of the variant's sheet, in ascending order of base (R12, R13, R46). -/
def sheetBlocks (v : Variant) : List Blk := allBlks.filter fun b => b.count v != 0

/-- On an XF-3208 the registers of channels 32–63 are reserved in every bit (R922). -/
def reservedHi (v : Variant) (name : String) : Bool :=
  v == .xf3208 && ["SP_CHMAP_HI", "FX_ENABLE_HI", "SB_FENCED_CI_HI", "SB_FENCED_MI_HI", "SB_LATCHED_HI"].contains name

/-- Fields the variant's sheet lists for a register (R922, R923). -/
def sheetFieldList (v : Variant) (r : RegDef) (fs : List SheetField) : List SheetField :=
  if reservedHi v r.name then []
  else if v = .xf6400 then
    fs.map fun f => if f.name = "EN_18_17" then { f with name := "EN_17", width := 1 }
                    else if f.name = "DOM_18_17" then { f with name := "DOM_17", width := 1 } else f
  else fs

/-- Reset value of instance 0 that the descriptor carries, but for CS_CRC_SEEN, which reads the image's own CRC (R49, R923).
[DESIGN CHOICE, unsafe: log 225] -/
def sheetReset (v : Variant) (r : RegDef) : Nat :=
  if v = .xf6400 ∧ r.name = "HUB_DOM_ENABLE" then 0x00027E00 else r.reset.toNat

/-- A register with its fields. -/
abbrev SheetReg := RegDef × List SheetField

/-- The registers of a block as the variant's sheet lists them, in ascending order of offset (R48). -/
def sheetRegs (v : Variant) (b : Blk) : List SheetReg :=
  (b.regs.zip b.sheetFields).map fun e => (e.1, sheetFieldList v e.1 e.2)

/-! ### Strings and enumerations (R53, R54) -/

/-- Without repeats, the first of each kept. -/
def distinct {α : Type} [BEq α] (l : List α) : List α := l.foldl (fun a x => if a.contains x then a else a ++ [x]) []

/-- The strings of the image in their order: the empty string, the prefixes, the names of the CS block in the order that its worked case
gives their indices, then registers, fields and values as the tables list them.  [DESIGN CHOICE, unsafe: log 199] -/
def sheetStrings (v : Variant) : List String :=
  let rs := (sheetBlocks v).flatMap (sheetRegs v)
  let fs := rs.flatMap fun e => e.2
  distinct ("" :: ((sheetBlocks v).map Blk.prefix_ ++
    ["CS_CRC_SEEN", "CS_WRITES", "CS_RECHECK", "LENGTH_BAD", "STRUCT_BAD", "CS_STATUS", "CHECKING", "CRC_BAD"] ++
    rs.map (fun e => e.1.name) ++ fs.map (fun f => f.name) ++ fs.flatMap fun f => f.vals.map fun x => x.2))

/-- Index of a string: the byte offset of its first character (R54). -/
def strIndex (n : String) : List String → Nat
  | [] => 0
  | x :: t => if x == n then 0 else x.length + 1 + strIndex n t

/-- The enumerations of the image, each once.  [DESIGN CHOICE, unsafe: log 199] -/
def sheetEnums (v : Variant) : List (List (Nat × String)) :=
  distinct ((((sheetBlocks v).flatMap (sheetRegs v)).flatMap fun e => e.2.map fun f => f.vals).filter fun l => !l.isEmpty)

/-- Index of an enumeration's first entry; 0xFFFF for a field without one (R50, R53). -/
def enumIndex (l : List (Nat × String)) : List (List (Nat × String)) → Nat
  | [] => 0xFFFF
  | x :: t => if l.isEmpty then 0xFFFF else if x == l then 0 else x.length + enumIndex l t

/-- ASCII bytes of a string with its 0x00 (R54). -/
def strBytes (x : String) : List Byte := x.toList.map (fun c => BitVec.ofNat 8 c.toNat) ++ [0]

/-- The entries of one enumeration; the last carries LAST (R53). -/
def enumBytes (strs : List String) : List (Nat × String) → List Byte
  | [] => []
  | e :: t => bytesOf 4 e.1 ++ bytesOf 2 (strIndex e.2 strs) ++ bytesOf 2 (b2n t.isEmpty) ++ enumBytes strs t

/-! ### Tables (R45, R48, R50) -/

/-- One field descriptor. -/
def fieldBytes (strs : List String) (ens : List (List (Nat × String))) (f : SheetField) : List Byte :=
  bytesOf 1 f.lsb ++ bytesOf 1 f.width ++ bytesOf 1 f.acc.code ++ [0] ++ bytesOf 2 (strIndex f.name strs) ++
    bytesOf 2 (enumIndex f.vals ens)

/-- Bytes of a register's run in the field table: its descriptors and the terminator. -/
def fieldSpan (fs : List SheetField) : Nat := if fs.isEmpty then 0 else 8 * (fs.length + 1)

/-- A register's run in the field table, in ascending order of lsb; a register without fields has none. -/
def fieldRun (strs : List String) (ens : List (List (Nat × String))) (fs : List SheetField) : List Byte :=
  if fs.isEmpty then [] else fs.flatMap (fieldBytes strs ens) ++ List.replicate 8 0

/-- Register descriptors, `at_` being where the next run of the field table starts; `crc` is what CS_CRC_SEEN reads. -/
def regBytes (v : Variant) (strs : List String) (crc : Nat) : Nat → List SheetReg → List Byte
  | _, [] => []
  | at_, (r, fs) :: t =>
    bytesOf 4 r.off ++ bytesOf 4 (if r.name = "CS_CRC_SEEN" then crc else sheetReset v r) ++
      bytesOf 4 (if fs.isEmpty then 0 else at_) ++ bytesOf 2 (strIndex r.name strs) ++ bytesOf 2 r.codes ++
      regBytes v strs crc (at_ + fieldSpan fs) t

/-- Block entries, `at_` being where the next block's descriptors start. -/
def blockBytes (v : Variant) (strs : List String) : Nat → List Blk → List Byte
  | _, [] => []
  | at_, b :: t =>
    bytesOf 2 b.code ++ bytesOf 2 (b.count v) ++ bytesOf 4 b.base ++ bytesOf 4 (if b.count v = 1 then 0 else b.stride) ++
      bytesOf 2 b.regs.length ++ bytesOf 2 0x0100 ++ bytesOf 4 at_ ++ bytesOf 2 (strIndex b.prefix_ strs) ++
      bytesOf 2 (b2n b.perChannel) ++ List.replicate 8 0 ++ blockBytes v strs (at_ + 16 * b.regs.length) t

/-- Zero bytes up to the next multiple of `n` (R40). -/
def padTo (n : Nat) (l : List Byte) : List Byte := l ++ List.replicate ((n - l.length % n) % n) 0

/-- The image with the header's CRC field at `crc` and CS_CRC_SEEN's reset value at `seen` (R40, R42).
[DESIGN CHOICE, unsafe: log 199] -/
def romWith (v : Variant) (crc seen : Nat) : List Byte :=
  let bs := sheetBlocks v
  let rs := bs.flatMap (sheetRegs v)
  let strs := sheetStrings v
  let ens := sheetEnums v
  let regTable := 0x40 + 32 * bs.length
  let fieldTable := regTable + 16 * rs.length
  let fields := rs.flatMap fun e => fieldRun strs ens e.2
  let enumTable := fieldTable + fields.length
  let enums := ens.flatMap (enumBytes strs)
  let strTable := enumTable + enums.length
  let text := padTo 4 (strs.flatMap strBytes)
  [0x58, 0x5A, 0x43, 0x53] ++ bytesOf 2 0x0102 ++ bytesOf 2 v.deviceCode ++ [0xB0, 0] ++ bytesOf 2 bs.length ++ bytesOf 4 regTable ++
    bytesOf 4 fieldTable ++ bytesOf 4 enumTable ++ bytesOf 4 strTable ++ bytesOf 4 (strTable + text.length) ++ bytesOf 4 crc ++
    List.replicate 28 0 ++ blockBytes v strs regTable bs ++ regBytes v strs seen fieldTable rs ++ fields ++ enums ++ text

/-! ### The CRC (R43), which the image itself carries twice -/

/-- Reduce `x` by a list of pairs of a vector and the word that makes it, each vector's top bit its pivot. -/
def gfReduce (basis : List (Nat × Nat)) (x : Nat × Nat) : Nat × Nat :=
  basis.foldl (fun x b => if x.1.testBit b.1.log2 then (Nat.xor x.1 b.1, Nat.xor x.2 b.2) else x) x

/-- The basis of the columns of a linear map of 32-bit words. -/
def gfBasis (cols : List (Nat × Nat)) : List (Nat × Nat) :=
  cols.foldl (fun basis c => let x := gfReduce basis c; if x.1 = 0 then basis else basis ++ [x]) []

/-- The word that CS_CRC_SEEN's descriptor carries: the CRC of the image that holds it there (R43, R49).  The CRC is an affine map of
that word, so the word is found by elimination. -/
def romCrc (v : Variant) : Nat :=
  let base := crc32 (romWith v 0 0)
  let col := fun j => (Nat.xor (Nat.xor (crc32 (romWith v 0 (2 ^ j))) base) (2 ^ j), 2 ^ j)
  (gfReduce (gfBasis ((List.range 32).map col)) (base, 0)).2

/-- The mask ROM image that the fuses of the variant select (R35, R42). -/
def sheetRom (v : Variant) : List Byte := romWith v (romCrc v) (romCrc v)

/-- `l` with some of its bytes read wrongly.  [DEDUCED, unsafe: log 32] -/
def damagedBy (damage : List (Nat × Byte)) (l : List Byte) : List Byte := damage.foldl (fun l d => l.set d.1 d.2) l

end Sys2Proof.Machine
end

