-- ==== Sys2Proof/Machine/Sheet.lean ====
section
/-!
DEFINITION. Machine/Sheet.lean: the contact sheet's checks (R42–R53, R64–R69), its reads (R35, R58) and what the end of the reset check
starts (R69, R826).
-/
namespace Sys2Proof.Machine

/-! ### The check (R64) -/

/-- A half-open range of byte offsets. -/
def inRange (lo hi a n : Nat) : Bool := decide (lo ≤ a) && decide (a + n ≤ hi)

/-- The regions of an image (R40, R42): header fields, and the end against which pointers are judged. -/
structure Regions where
  entries : Nat
  regs    : Nat
  fields  : Nat
  enums   : Nat
  strings : Nat
  stop    : Nat
  deriving DecidableEq, Repr

def regionsOf (l : List Byte) (stop : Nat) : Regions :=
  { entries := leAt l 0x0A 2, regs := leAt l 0x0C 4, fields := leAt l 0x10 4, enums := leAt l 0x14 4, strings := leAt l 0x18 4, stop }

/-- A string index lies in the string table (R54). -/
def strOk (g : Regions) (i : Nat) : Bool := decide (g.strings + i < g.stop)

/-- The enumeration that starts at entry `i` ends inside its table, with names inside theirs (R53). -/
def enumOk (l : List Byte) (g : Regions) : Nat → Nat → Bool
  | 0, _ => false
  | fuel + 1, i =>
    let a := g.enums + 8 * i
    inRange g.enums g.strings a 8 && strOk g (leAt l (a + 4) 2) &&
      (leAt l (a + 6) 2 % 2 == 1 || enumOk l g fuel (i + 1))

/-- The field run at `a` ends inside the field table (R50). -/
def fieldsOk (l : List Byte) (g : Regions) : Nat → Nat → Bool
  | 0, _ => false
  | fuel + 1, a =>
    inRange g.fields g.enums a 8 &&
      (leAt l (a + 1) 1 == 0 ||
        (strOk g (leAt l (a + 4) 2) &&
          (leAt l (a + 6) 2 == 0xFFFF || enumOk l g ((g.strings - g.enums) / 8 + 1) (leAt l (a + 6) 2)) &&
          fieldsOk l g fuel (a + 8)))

/-- One register descriptor (R48). -/
def regOk (l : List Byte) (g : Regions) (a : Nat) : Bool :=
  strOk g (leAt l (a + 0x0C) 2) &&
    (leAt l (a + 8) 4 == 0 || fieldsOk l g ((g.enums - g.fields) / 8 + 1) (leAt l (a + 8) 4))

/-- First and last byte + 1 of the BAR0 region that a block entry's instances take (R46). -/
def blockSpan (l : List Byte) (a : Nat) : Nat × Nat :=
  let base := leAt l (a + 4) 4
  let n := leAt l (a + 2) 2
  (base, if n = 1 then base + 0x1000 else base + n * leAt l (a + 8) 4)

/-- One block entry (R45). -/
def blockOk (l : List Byte) (g : Regions) (a : Nat) : Bool :=
  let n := leAt l (a + 0x0C) 2
  let p := leAt l (a + 0x10) 4
  strOk g (leAt l (a + 0x14) 2) && (n == 0 || inRange g.regs g.fields p (16 * n)) && decide ((blockSpan l a).2 ≤ 0x100000) &&
    (List.range n).all fun k => regOk l g (p + 16 * k)

/-- No two of the ranges overlap. -/
def disjoint : List (Nat × Nat) → Bool
  | [] => true
  | x :: t => (t.all fun y => decide (x.2 ≤ y.1) || decide (y.2 ≤ x.1)) && disjoint t

/-- STRUCT_BAD does not hold (R64).  [DEDUCED, unsafe: log 33] -/
def structOk (l : List Byte) (g : Regions) : Bool :=
  let at_ := (List.range g.entries).map fun k => 0x40 + 32 * k
  decide (0x40 + 32 * g.entries ≤ g.regs) && decide (g.regs ≤ g.fields) && decide (g.fields ≤ g.enums) &&
    decide (g.enums ≤ g.strings) && decide (g.strings < g.stop) &&
    at_.all (blockOk l g) && disjoint (at_.map (blockSpan l))

/-- What a check of image `l` finds: MAGIC, LENGTH, CRC and STRUCT failures and the CRC seen (R43, R64). -/
structure SheetFind where
  magic  : Bool
  length : Bool
  crc    : Bool
  struct : Bool
  seen   : Word
  deriving DecidableEq, Repr

/-- [DEDUCED, unsafe: log 32] -/
def checkSheet (l : List Byte) : SheetFind :=
  let len := leAt l 0x1C 4
  let badLen := decide (len < 64) || decide (0x40000 < len)
  let body := l.take len ++ List.replicate (len - l.length) 0
  let seen := if badLen then 0 else crc32 (body.take 0x20 ++ [0, 0, 0, 0] ++ body.drop 0x24)
  { magic := leAt l 0 4 != 0x53435A58, length := badLen, crc := !badLen && seen != leAt l 0x20 4,
    struct := !structOk l (regionsOf l (if badLen then 0x40000 else len)), seen := w32 seen }

/-- A check ends: failing conditions set their bits (R64, R67). -/
def takeCheck (f : SheetFind) (s : State) : State :=
  let x := s.sheet
  { s with sheet := { x with checking := false, checked := true, crcSeen := f.seen, magicBad := x.magicBad || f.magic,
                             lengthBad := x.lengthBad || f.length, crcBad := x.crcBad || f.crc, structBad := x.structBad || f.struct } }

def SheetFind.bad (f : SheetFind) : Bool := f.magic || f.length || f.crc || f.struct

/-- CS_STATUS. -/
def csStatus (s : State) : Word :=
  let x := s.sheet
  w32 (at_ 6 1 (b2n x.structBad) + at_ 5 1 (b2n x.crcBad) + at_ 4 1 (b2n x.lengthBad) + at_ 3 1 (b2n x.magicBad) +
    at_ 2 1 (b2n (x.structBad || x.crcBad || x.lengthBad || x.magicBad)) + at_ 1 1 (b2n x.checked) + at_ 0 1 (b2n x.checking))

/-! ### Coming up -/

/-- Every domain that R177 names is ON.  [DEDUCED, unsafe: log 36] -/
def bootDomains (s : State) : Bool :=
  ([1, 16, 19, 2, 3, 4, 5, 6, 7, 8, 15].all s.isOn) &&
    (List.range 20).all fun d => !(isSwitched s d && domEnabled s d) || s.isOn d

/-- RUNNING is reached at the later of the end of a passing reset check and the last domain's becoming ON (R826).
[DEDUCED, unsafe: log 36] -/
def bootCheck (s : State) : State :=
  if s.power = .on ∧ !s.sl.running ∧ s.sheet.checked ∧ !s.sheet.hold ∧ bootDomains s then
    { s with sl := { s.sl with running := true } }
  else s

/-- The image that sheet reads return: the selected mask ROM, with the bytes that the reset check found wrong (R35, R38).
[DEDUCED, unsafe: log 32] -/
def sheetImage (s : State) : List Byte := damagedBy s.sheet.damage (sheetRom s.variant)

/-- RESET_CHECK_DONE (R65, R68, R69): the check has read the image that the fuses select, some bytes of which `damage` makes wrong.
[DEDUCED, unsafe: log 32] -/
def resetCheckDone (damage : List (Nat × Byte)) (s : State) : State :=
  if s.power = .on ∧ s.sheet.checking ∧ !s.sheet.checked then
    let f := checkSheet (damagedBy damage (sheetRom s.variant))
    let s := takeCheck f s
    bootCheck (trainLink { s with sheet := { s.sheet with damage, hold := f.bad } })
  else s

def execResetCheckDone (damage : List (Nat × Byte)) (s : State) : Out := .next (mainOn s (resetCheckDone damage s))

/-- RECHECK_DONE (R63, R66): the recheck has read the same image, some bytes of which `damage` makes wrong in this reading; what sheet reads
return does not change (R38).  [DEDUCED, unsafe: log 32] -/
def recheckDone (damage : List (Nat × Byte)) (s : State) : State :=
  if s.sheet.checking ∧ s.sheet.checked then
    let f := checkSheet (damagedBy damage (sheetImage s))
    let s := takeCheck f s
    if f.bad then raise .cs 0 0x20 2 [(csStatus s).toNat] s else s
  else s

def execRecheckDone (damage : List (Nat × Byte)) (s : State) : Out := .next (mainOn s (recheckDone damage s))

/-- A word of the sheet region (R35); zero while the reset check runs (R68).  [DEDUCED, unsafe: log 26] -/
def sheetWord (s : State) (o : Nat) : Nat := if s.sheet.checked then leAt (sheetImage s) o 4 else 0

/-- The loupe instruction SHEET_READ (R58). -/
def loupeSheetRead : BitVec 8 := 0x2C

/-- SHEET_READ (R58, R68): the instruction register holds the instruction; `v` is shifted in at Update-DR; the following Capture-DR loads
the word selected and its offset.  [DEDUCED, unsafe: log 26] -/
def sheetRead (v : Nat) (s : State) : State :=
  if s.power = .on then
    let o := v / 4 % 2 ^ 16 * 4
    { s with sheet := { s.sheet with loupeIr := loupeSheetRead, loupeDr := BitVec.ofNat 64 (sheetWord s o * 2 ^ 32 + o) } }
  else s

def execSheetRead (v : Nat) (s : State) : Out := .next (mainOn s (sheetRead v s))

end Sys2Proof.Machine
end

