-- ==== Sys2Proof/Machine/Commands.lean ====
section
/-!
DEFINITION. Machine/Commands.lean: the channel, measurement, print and fixture commands that ring descriptors bring (R256–R297), a table
fetch's end (R261, R297), and the end of a channel's discharge with what waits for it (R465, R487).
-/
namespace Sys2Proof.Machine

/-! ### What DV_STATE and DV_RUN read (R138, R462) -/

def ChState.code : ChState → Nat
  | .dark => 0 | .running => 1 | .held => 2 | .fading => 3

/-- A latched fault of any chapter holds. -/
def latched (c : Chan) : Bool := faultMask c != 0

/-- DV_STATE. -/
def dvState (c : Chan) : Nat :=
  at_ 16 16 c.gen + at_ 13 1 (b2n (latched c)) + at_ 12 1 (b2n c.queued) + at_ 11 1 (b2n c.armed) + at_ 10 1 c.active +
    at_ 9 1 (b2n c.c) + at_ 3 1 (b2n c.wait.isSome) + at_ 0 3 c.st.code

/-- DV_RUN. -/
def dvRun (c : Chan) : Nat :=
  at_ 23 9 c.pc + at_ 20 3 c.stack.length + at_ 16 4 (c.lastTerm.getD 15) + at_ 8 8 c.ended.code

/-! ### Recipes and bank swaps -/

/-- LOAD_RECIPE (R261, R264).  [DEDUCED, unsafe: log 74] -/
def loadRecipe (r : Nat) (d : List Byte) (s : State) : State :=
  checked r d (needChannel d) false (fun s =>
    if (s.ch (dTarget d)).armed then complete r .busy 0 0x11 s else startFetch r s) s

def execLoadRecipe (r : Nat) (s : State) : Out := .next (mainOn s (begin_ r 0x10 (loadRecipe r) s))

/-- A whole word of macro `m` has been written: a waiting write-back is cancelled (R776, R785, R787), and an uncorrectable error is gone (R776).
[DESIGN CHOICE, unsafe: log 222] -/
def wordWritten (m w : Nat) (s : State) : State :=
  { s with mm := { s.mm with back := s.mm.back.filter fun e => e != (m, w), bad := s.mm.bad.filter fun e => e != (m, w) } }

/-- The idle bank takes an image from word `first` on.  [DEDUCED, unsafe: log 74] -/
def storeRecipe (n first : Nat) (words : List (BitVec 64)) (s : State) : State :=
  let c := s.ch n
  let word := fun k => (1 - c.active) * 512 + (first + k) % 512
  let bank := (List.range words.length).foldl (fun (t : Tab (BitVec 64)) k => t.put (word k) (words.getD k 0)) c.bank
  (List.range words.length).foldl (fun s k => wordWritten n (word k) s) (s.setCh n { c with bank })

/-- SWAP_BANK (R265, R285, R465). -/
def swapBankCmd (r : Nat) (d : List Byte) (s : State) : State :=
  checked r d (needChannel d) true (fun s =>
    let n := dTarget d
    let c := s.ch n
    if c.armed then complete r .busy 0 0x11 s
    else if c.st = .dark then complete r .ok 2 0 (swapBank n 0xFFFF s)
    else if dU8 d 0x10 = 1 then complete r .busy 0 0x11 s
    else complete r .ok 1 0 (s.setCh n { c with armed := true })) s

def execSwapBank (r : Nat) (s : State) : Out := .next (mainOn s (begin_ r 0x11 (swapBankCmd r) s))

/-! ### START and the end of a discharge -/

/-- Why a START on a dark channel completes FAULT, as DETAIL (R267).  [DEDUCED, unsafe: log 69] -/
def startFault (s : State) (n : Nat) : Option Nat :=
  let doms := channelDomains s n
  if latched (s.ch n) then some 6
  else if s.sb.cls ≠ 0 then some 7
  else if doms.any fun d => (s.dom d).st == .fenced then some 5
  else if doms.all s.isOn then none
  else some 4

/-- A START executes: it acts at the channel's next control-period boundary (R266, R479, R480, R488). -/
def startActs (r n : Nat) (d : List Byte) (s : State) : State :=
  match startFault s n with
  | some detail => complete r .fault 0 detail s
  | none =>
    let c := s.ch n
    let v := fun k => dS32 d (0x14 + 4 * k)
    let a : StartArgs := { entry := dU16 d 0x10, prio := dU8 d 0x12, vars := [(0, v 0), (1, v 1), (2, v 2), (3, v 3)] }
    setStage r .waiting (s.setCh n { c with cmds := { c.cmds with start := some a } })

/-- START (R266, R285, R487).  [DEDUCED, unsafe: log 69] -/
def start (r : Nat) (d : List Byte) (s : State) : State :=
  checked r d (needChannel d) false (fun s =>
    let n := dTarget d
    let c := s.ch n
    match c.st with
    | .running | .held => complete r .busy 0 0x11 s
    | .fading => raise .dv n 19 0 [] (setStage r .queued (s.setCh n { c with queued := true }))
    | .dark => startActs r n d s) s

def execStart (r : Nat) (s : State) : Out := .next (mainOn s (begin_ r 0x12 (start r) s))

/-- A channel has reached DARK: an armed swap is made, then a queued START is checked and executes (R465, R487).
[DEDUCED, unsafe: log 69] -/
def reachesDark (n : Nat) (s : State) : State :=
  let c := s.ch n
  let s := s.setCh n { phasesLow c with st := .dark, fade := none, chen := false, ic := 0, limited := false }
  let s := if c.armed then swapBank n 0xFFFF s else s
  if c.queued then
    let s := s.setCh n { s.ch n with queued := false }
    match findExec s fun e => dOp e.d == 0x12 && dTarget e.d == n && e.stage == .queued with
    | some (r, e) => startActs r n e.d s
    | none => s
  else s

/-- DISCHARGE_END (R401, R402, R802): the DISCH_US wait ends. -/
def dischargeEnd (n : Nat) (s : State) : State :=
  let c := s.ch n
  match c.st, c.fade with
  | .fading, some f =>
    match f.lowAt with
    | some t => reachesDark n (advanceClk (t + f.dischNs) s)
    | none => s
  | _, _ => s

def execDischargeEnd (n : Nat) (s : State) : Out := .next (mainOn s (dischargeEnd n s))

/-! ### HOLD, RESUME and ABORT -/

/-- HOLD and RESUME: `want` is the state the command leaves, in which it has nothing to do (R268). -/
def holdResume (r : Nat) (d : List Byte) (want : ChState) (ask : ChCmds → ChCmds) (s : State) : State :=
  checked r d (needChannel d) true (fun s =>
    let n := dTarget d
    let c := s.ch n
    if c.st = want then complete r .ok 1 0 s
    else if c.st = .running ∨ c.st = .held then s.setCh n { c with cmds := ask c.cmds }
    else complete r .notRunning 0 0 s) s

def execHold (r : Nat) (s : State) : Out :=
  .next (mainOn s (begin_ r 0x13 (fun d => holdResume r d .held fun k => { k with hold := true }) s))

def execResume (r : Nat) (s : State) : Out :=
  .next (mainOn s (begin_ r 0x14 (fun d => holdResume r d .running fun k => { k with resume := true }) s))

/-- ABORT (R269). -/
def abort (r : Nat) (d : List Byte) (s : State) : State :=
  checked r d (needChannel d) true (fun s =>
    let n := dTarget d
    let c := s.ch n
    match c.st with
    | .running | .held => s.setCh n { c with cmds := { c.cmds with abort := true } }
    | .fading => if c.queued then complete r .ok 2 0 (cancelQueued n .superseded 0 s) else complete r .notRunning 0 0 s
    | .dark => complete r .notRunning 0 0 s) s

def execAbort (r : Nat) (s : State) : Out := .next (mainOn s (begin_ r 0x15 (abort r) s))

/-! ### PRESET_EXPOSURE and SNAPSHOT -/

/-- PRESET_EXPOSURE (R270, R494). -/
def presetExposure (r : Nat) (d : List Byte) (s : State) : State :=
  checked r d (needChannel d) true (fun s =>
    let n := dTarget d
    if s.isOn (ciDom n) then s.setCh n { s.ch n with preset := some { value := dS64 d 0x10, at_ := s.tk.clk } }
    else complete r .busy 0 4 s) s

def execPresetExposure (r : Nat) (s : State) : Out := .next (mainOn s (begin_ r 0x16 (presetExposure r) s))

/-- The three channel-state events of R502. -/
def stateEvents (n : Nat) (s : State) : State :=
  let c := s.ch n
  let ms : Nat := match c.step with | some st => st.t / 4000000 | none => 0
  let ev := fun num (args : List Int) (s : State) =>
    let s := match Blk.dv.vector with | some v => signalSpaced v s | none => s
    pushRec (prodCi n) { mkRec s (prodCi n) 3 n (stampOf s (ciDom n)) (eventBody .dv num 0 args 0 0) with snapshot := true } s
  ev 0x23 ((List.range' 8 8).map c.var) <| ev 0x22 ((List.range 8).map c.var) <|
    ev 0x21 [dvState c, dvRun c, c.expo, c.expo / 2 ^ 32, c.energy, c.energy / 2 ^ 32, min ms 0xFFFFFFFF, c.prio] s

/-- SNAPSHOT (R270, R430, R502).  [DEDUCED, unsafe: log 73] -/
def snapshotCmd (r : Nat) (d : List Byte) (s : State) : State :=
  checked r d (needChannel d) false (fun s =>
    let n := dTarget d
    let kind := dU8 d 0x10
    if !s.isOn (miDom n) || (kind / 2 % 2 == 1 && !s.isOn (ciDom n)) then complete r .busy 0 4 s
    else
      let s := setStage r (.records (stampOf s (ciDom n))) s
      let s := if kind / 2 % 2 = 1 then stateEvents n s else s
      if kind % 2 = 1 then
        match (s.mi n).last with
        | some p => pushNegative n p (sampleFlags p) 4 true (setStage r (.records p.time) s)
        | none => s.setMi n { s.mi n with snapWait := true }
      else s) s

def execSnapshot (r : Nat) (s : State) : Out := .next (mainOn s (begin_ r 0x17 (snapshotCmd r) s))

/-! ### GANG -/

/-- Phases `a` and `a + 1` of one channel become phases `b` and `b + 1` of another.  [DEDUCED, unsafe: log 77] -/
def movePhases (from_ dst : Chan) (a b : Nat) : Chan := (dst.setPhase b (from_.phase a)).setPhase (b + 1) (from_.phase (a + 1))

/-- The pair takes or leaves the ganged form; its phases go with their channel (R272, R377, R378, R627).
[DEDUCED, unsafe: log 77] -/
def setGang (n : Nat) (on : Bool) (s : State) : State :=
  let s := calAbandon n false (if on then calAbandon (n + 1) false s else s)
  let c := s.ch n
  let k := s.ch (n + 1)
  if on then (s.setCh n { movePhases k c 0 2 with gang := true, ganged := true }).setCh (n + 1) { k with ganged := true }
  else (s.setCh n { c with gang := false, ganged := true }).setCh (n + 1) { movePhases c k 2 0 with ganged := true }

/-- GANG (R272, R285, R379).  [DEDUCED, unsafe: log 77] -/
def gangCmd (r : Nat) (d : List Byte) (s : State) : State :=
  checked r d (needChannel d) false (fun s =>
    let n := dTarget d
    let on := dU8 d 0x10 == 1
    let c := s.ch n
    let doms := [ciDom n, ciDom (n + 1), miDom n, miDom (n + 1)]
    if c.st ≠ .dark ∨ (!c.gang ∧ (s.ch (n + 1)).st ≠ .dark) then complete r .busy 0 0x11 s
    else if doms.any fun k => (s.dom k).st == .fenced then complete r .fault 0 5 s
    else if !doms.all s.isOn then complete r .fault 0 4 s
    else if c.gang = on then complete r .ok 1 0 s
    else complete r .ok 0 0 (setGang n on s)) s

def execGang (r : Nat) (s : State) : Out := .next (mainOn s (begin_ r 0x20 (gangCmd r) s))

/-! ### Limits, coefficients and fusion settings -/

/-- SET_LIMITS (R117, R119–R121, R271): the values are stored and act at the next PWM boundary. -/
def setLimits (r : Nat) (d : List Byte) (s : State) : State :=
  checked r d (needChannel d) false (fun s =>
    if missingPp s ≠ 0 then denied r d (missingPp s) s
    else
      let n := dTarget d
      let put := fun item (v : Int) (s : State) => putLater (selKey (dvKey n 0x14) item) (wInt (limitReset item)) (wInt v) s
      complete r .ok 0 0 <| put 5 (dS16 d 0x22) <| put 4 (dS16 d 0x20) <| put 3 (dU32 d 0x1C) <| put 2 (dU32 d 0x18) <|
        put 1 (dS32 d 0x14) <| put 0 (dS32 d 0x10) s) s

def execSetLimits (r : Nat) (s : State) : Out := .next (mainOn s (begin_ r 0x28 (setLimits r) s))

/-- SET_CAL (R117, R119–R121, R271): the coefficients act at the next EPOCH boundary. -/
def setCal (r : Nat) (d : List Byte) (s : State) : State :=
  checked r d (needChannel d) false (fun s =>
    if missingPs s ≠ 0 then denied r d (missingPs s) s
    else (calWrites d).foldl (fun s w => putOver w.1 w.2.1 w.2.2 s) s) s

def execSetCal (r : Nat) (s : State) : Out := .next (mainOn s (begin_ r 0x29 (setCal r) s))

/-- FUSION_SET (R278): it writes PE_CONFIG and the DISPUTE_SOC field of PE_DISPUTE. -/
def fusionSet (r : Nat) (d : List Byte) (s : State) : State :=
  checked r d needNothing false (fun s =>
    let cfg := w32 (at_ 16 10 (dU16 d 0x10) + at_ 8 1 (dU8 d 0x12) + at_ 0 8 (dU8 d 0x13))
    let dis := setFld (s.wr 0x48008 0x258141F4) 0 14 (dU16 d 0x14)
    putLater 0x48008 0x258141F4 dis (putLater 0x48004 0x00C800FF cfg s)) s

def execFusionSet (r : Nat) (s : State) : Out := .next (mainOn s (begin_ r 0x39 (fusionSet r) s))

/-- The SET_CAL or FUSION_SET of ring `r` completes once every value it wrote acts (R256, R271, R278). -/
def epochDone (r : Nat) (s : State) : State :=
  match (s.ring r).exec with
  | some e =>
    let keys := if dOp e.d = 0x29 then (calWrites e.d).map (·.1) else if dOp e.d = 0x39 then [0x48004, 0x48008] else []
    if !keys.isEmpty && keys.all fun k => !s.regs.pend.has k then complete r .ok 0 0 s else s
  | none => s

/-! ### Fetched tables -/

/-- GRADE_SET (R278).  [DEDUCED, unsafe: log 75] -/
def gradeSet (r : Nat) (d : List Byte) (s : State) : State :=
  checked r d needNothing false (fun s => if s.isOn 10 then startFetch r s else complete r .busy 0 4 s) s

def execGradeSet (r : Nat) (s : State) : Out := .next (mainOn s (begin_ r 0x3A (gradeSet r) s))

/-- SENSOR_SCHEDULE.  [DEDUCED, unsafe: log 75] -/
def sensorSchedule (r : Nat) (d : List Byte) (s : State) : State :=
  checked r d needNothing false (fun s => if s.isOn 14 then startFetch r s else complete r .busy 0 4 s) s

def execSensorSchedule (r : Nat) (s : State) : Out := .next (mainOn s (begin_ r 0x5B (sensorSchedule r) s))

/-- Consecutive pieces of `k` bytes. -/
def pieces_ (k n : Nat) (l : List Byte) : List (List Byte) := (List.range n).map fun i => (l.drop (i * k)).take k

/-- A fetched and checked table changes its destination (R261). -/
def storeTable (r : Nat) (d bytes : List Byte) (crc : Nat) (s : State) : State :=
  let n := dTarget d
  match dOp d with
  | 0x10 => complete r .ok crc 0 (storeRecipe n (dU16 d 0x1A) ((pieces_ 8 (dU16 d 0x18) bytes).map fun w => BitVec.ofNat 64 (ofBytes w)) s)
  | 0x3A => complete r .ok crc 0 (loadTable (pieces_ 32 (dU16 d 0x18) bytes) (w32 crc) s)
  | 0x50 => valveImage r n ((pieces_ 4 (dU8 d 0x18) bytes).map fun w => w32 (ofBytes w)) s
  | 0x5B => complete r .ok crc 0 (loadSchedule (pieces_ 32 (dU8 d 0x18) bytes) (w32 crc) s)
  | _ => s

/-- TABLE_FETCH_DONE (R261): a whole image has arrived and is checked against its CRC. -/
def tableFetchDone (s : State) : State :=
  let mine := fun (x : Req × List Byte) => match x.1.issuer with | .table _ => true | _ => false
  match s.hl.inbox.find? mine with
  | none => s
  | some (q, bytes) =>
    let s := { s with hl := { s.hl with inbox := s.hl.inbox.eraseP mine } }
    match q.issuer with
    | .table r =>
      match (s.ring r).exec with
      | some e =>
        if e.stage = .fetching then
          let crc := crc32 bytes
          if crc = dU32 e.d 0x1C then storeTable r e.d bytes crc s else complete r .fault 0 1 s
        else s
      | none => s
    | _ => s

def execTableFetchDone (s : State) : Out := .next (mainOn s (tableFetchDone s))

/-! ### CLEAR_FAULT -/

/-- The cause of a latched channel fault has ended (R420, R806). -/
def chFaultEnded (s : State) (n bit : Nat) : Bool :=
  let c := s.ch n
  if bit = 2 then (channelDomains s n).all fun d => s.isOn d && !(s.dom d).testing && !(s.dom d).readmit
  else if bit = 8 then c.st == .dark && c.phaseList.all fun j => !((c.phase j).st.out && (c.phase j).flt)
  else c.st == .dark

/-- The channel's latched faults are cleared; phases, SHORT and the retry history follow with a PHASE fault, or in the dark (R284, R420).
[DEDUCED, unsafe: log 105] -/
def clearChannel (n : Nat) (s : State) : State :=
  let c := s.ch n
  let back := fun (p : Phase) => { p with st := if p.st.out then PhState.inService else p.st, history := [] }
  if faultMask c / 256 = 1 ∨ c.st = .dark then
    s.setCh n { c with faults := 0, short := false, phases := c.phases.map fun (p : Nat × Phase) => (p.1, back p.2) }
  else s.setCh n { c with faults := 0 }

/-- An internal cause of a stop has ended (R804). -/
def stopCauseEnded (s : State) (x : Nat) : Bool :=
  match x with
  | 1 => s.tk.refclkOk
  | 4 => decide (s.sb.vbus ≤ 63000)
  | _ => true

/-- The cause of the stop in force has ended (R799). -/
def stopEnded (s : State) : Bool := !s.sb.pinLow && s.sb.causes.all (stopCauseEnded s) && s.allDark

/-- The stop that a CLEAR_FAULT of this instant meets: the one in force before this hub cycle, since a stop entering in the same cycle acts
after the clear (R817). -/
def stopToClear (s : State) : StopBath :=
  let b := s.sb
  if b.freshAt = s.tk.clk ∧ b.fresh ≠ [] then { b with cls := b.oldCls, sources := b.oldSources, causes := b.oldCauses } else b

/-- The stop has been cleared: STOP_CLEARED, and the stops of this very hub cycle enter after it (R799, R817). -/
def clearStop (s : State) : State :=
  let again := if s.sb.freshAt = s.tk.clk then s.sb.fresh else []
  let s := raise .sb 0 2 0 [] { s with sb := { s.sb with cls := 0, sources := 0, causes := [], fresh := [] } }
  again.foldl (fun s (e : StopEntry) => enterStop e.cls e.src e.x e.unsent s) s

/-- The cause of the field safe state has ended, the stop apart (R655). -/
def safeEnded (s : State) : Bool := ezReady s && !s.sheet.hold

/-- CLEAR_FAULT of the device: the stop in force, the field safe state and the latches of the field die (R284, R655, R670, R706, R799).
[DESIGN CHOICE, safe: log 78] -/
def clearDevice (r : Nat) (s : State) : State :=
  let stop := (stopToClear s).cls != 0
  let safe := s.ez.safeHeld
  let field := fieldLatched s
  if !stop && !safe && !field then complete r .ok 0 0 s
  else if (stop && !stopEnded { s with sb := stopToClear s }) || (safe && !safeEnded s) || (field && !fieldLatchEnded s) then complete r .fault 0 0x10 s
  else
    let s := if stop then clearStop s else s
    let s := if safe then { s with ez := { s.ez with release := s.ez.relId.isNone } } else s
    let s := if field then clearField s else s
    spend (complete r .ok (openNat s) 0 s)

/-- CLEAR_FAULT (R284). -/
def clearFault (r : Nat) (d : List Byte) (s : State) : State :=
  checked r d (fun s => if dTarget d = 0xFFFF then none else needChannel d s) false (fun s =>
    let n := dTarget d
    if n = 0xFFFF then clearDevice r s
    else
      let m := faultMask (s.ch n)
      if (List.range 9).all fun b => m / 2 ^ b % 2 == 0 || chFaultEnded s n b then complete r .ok m 0 (clearChannel n s)
      else complete r .fault 0 0x10 s) s

def execClearFault (r : Nat) (s : State) : Out := .next (mainOn s (begin_ r 0x71 (clearFault r) s))

end Sys2Proof.Machine
end

