-- ==== Sys2Proof/Machine/Package.lean ====
section
/-!
DEFINITION. Machine/Package.lean: the main rails and their thresholds (R875, R876, R889), and the ball map of the package, which every variant
shares (R3, R861–R872, R884).
-/
namespace Sys2Proof.Machine

/-! ### Rails -/

/-- A main rail by its code in HUB_SUPPLY.LOSS_RAIL (R889): operating minimum, operating maximum and loss threshold in mV (R875). -/
def railLimits : Nat → Option (Nat × Nat × Nat)
  | 1 => some (720, 800, 700)
  | 2 => some (1746, 1854, 1700)
  | 3 => some (3135, 3465, 3000)
  | 4 => some (776, 824, 750)
  | 5 => some (1746, 1854, 1700)
  | 6 => some (1700, 1950, 1650)
  | 7 => some (1060, 1170, 1020)
  | 8 => some (570, 650, 540)
  | _ => none

/-- `mv` lies below the operating minimum of main rail `r` (R876, R888). -/
def railLow (r mv : Nat) : Bool := match railLimits r with | some (lo, _, _) => decide (mv < lo) | none => false

/-- `mv` lies below the loss threshold of main rail `r` (R876). -/
def railLost (r mv : Nat) : Bool := match railLimits r with | some (_, _, l) => decide (mv < l) | none => false

/-- Names of the main rails by code. -/
def railName : Nat → String
  | 1 => "VCORE" | 2 => "VAFE" | 3 => "VIO" | 4 => "VPHY08" | 5 => "VPHY18" | 6 => "VDD1" | 7 => "VDD2" | 8 => "VDDQ" | _ => ""

/-! ### Balls -/

/-- What stands at a position of the grid: nothing, a ball not connected inside, the ball of signal `index` of channel `n` (R864), a ball of
the field region (R871), or another ball of the name given. -/
inductive Ball where
  | unpopulated
  | unconnected
  | channel (n index : Nat)
  | field (name : String)
  | named (name : String)
  deriving DecidableEq, Repr

/-- The rows, from A to BA (R862). -/
def rowNames : List String :=
  ["A", "B", "C", "D", "E", "F", "G", "H", "J", "K", "L", "M", "N", "P", "T", "U", "V", "W", "Y", "AA", "AB", "AC", "AD", "AE", "AF", "AG",
   "AH", "AJ", "AK", "AL", "AM", "AN", "AP", "AT", "AU", "AV", "AW", "AY", "BA"]

/-- A ball's name: its row, counted from 1, and its column (R862). -/
def ballName (row col : Nat) : String := rowNames.getD (row - 1) "" ++ toString col

/-- The signals of a channel by index from 1 (R864). -/
def channelSignals : List String :=
  ["PWMH0", "PWML0", "FLT0#", "PWMH1", "PWML1", "FLT1#", "CHEN", "IS0", "ISREF", "IS1", "AGND", "SHP", "SHN", "VSP", "VSN", "THX", "TH"]

/-- The edge column, row B to row V (R867). -/
def edgeColumn : List String :=
  ["TCK", "TMS", "TDI", "TDO", "TRST#", "VIO", "HLMODE", "STOP#", "PRES#", "CALEN", "SEALA", "SEALB", "PWREQ", "XTAL32I", "XTAL32O", "VSAFE"]

/-- The link corner, rows A to V of columns 37 to 39 (R868). -/
def linkCorner : List (String × String × String) :=
  [("VSS", "PCIE_TX0P", "PCIE_TX0N"), ("VSS", "PCIE_RX0P", "PCIE_RX0N"), ("VSS", "PCIE_TX1P", "PCIE_TX1N"), ("VSS", "PCIE_RX1P", "PCIE_RX1N"),
   ("VSS", "PCIE_TX2P", "PCIE_TX2N"), ("VSS", "PCIE_RX2P", "PCIE_RX2N"), ("VSS", "PCIE_TX3P", "PCIE_TX3N"), ("VSS", "PCIE_RX3P", "PCIE_RX3N"),
   ("VSS", "PCIE_CLKP", "PCIE_CLKN"), ("PERST#", "CLKREQ#", "VSS"), ("VPHY08", "VPHY08", "VPHY18"), ("VPHY08", "VPHY08", "VPHY18"),
   ("VSS", "JLA_TXP", "JLA_TXN"), ("VSS", "JLA_RXP", "JLA_RXN"), ("VSS", "JLB_TXP", "JLB_TXN"), ("VSS", "JLB_RXP", "JLB_RXN"),
   ("VPHY08", "VPHY08", "VPHY18")]

/-- The centre band from column 9 on, rows W, Y, AA, AB and AC (R869). -/
def centreColumn (col : Nat) : List String :=
  if col ≤ 8 then
    let e := "ENC" ++ toString ((col - 1) / 2) ++ "_"
    if col % 2 = 1 then [e ++ "AP", e ++ "BP", e ++ "ZP", e ++ "CKP", "VIO"] else [e ++ "AN", e ++ "BN", e ++ "ZN", e ++ "CKN", "VSS"]
  else
    match col with
    | 9 => ["SN_SCK", "SN_MOSI", "SN_MISO", "SN_CS0#", "SN_CS1#"]
    | 10 => ["SN_CS2#", "SN_CS3#", "VIO", "VSS", "VIO"]
    | 11 => ["CAN0H", "CAN0L", "VSS", "CAN1H", "CAN1L"]
    | 12 => ["VSS", "TSYNC", "REFCLK", "VSS", "VSAFE"]
    | 13 | 15 | 17 | 19 | 21 | 23 | 25 => ["VCORE", "VCORE", "VCORE", "VCORE", "VCORE"]
    | 14 | 16 | 18 | 20 | 22 => ["VSS", "VSS", "VCORE", "VSS", "VSS"]
    | 24 | 26 => ["VSS", "VSS", "VSS", "VSS", "VSS"]
    | 27 | 29 => ["VAFE", "AGND", "VAFE", "AGND", "VAFE"]
    | 28 => ["AGND", "REFP", "REFN", "AGND", "VSS"]
    | 30 => ["AGND", "VAFE", "AGND", "VAFE", "AGND"]
    | 31 => ["VAFE", "VAFE", "VAFE", "VAFE", "AGND"]
    | 32 => ["VBUSS", "VBUSSN", "VSS", "VIO", "VPHY18"]
    | 33 | 35 => ["VDD1", "VSS", "VDD2", "VSS", "VDDQ"]
    | 34 | 36 => ["VSS", "VDD2", "VSS", "VDDQ", "VSS"]
    | 37 => ["VDD1", "VSS", "VDD2", "VSS", "VSS"]
    | 38 => ["VSS", "VDD2", "VSS", "VSS", "VSS"]
    | 39 => ["VSS", "VSS", "VSS", "VSS", "VSS"]
    | _ => []

/-- The number of an input ball of the first column in field row `k`, counted from 0 at AE; rows AH, AM, AU and BA hold FGND there (R871). -/
def fieldInput (k : Nat) : Option Nat := if k % 4 = 3 then none else some (k / 4 * 3 + k % 4)

/-- The field region: row `k` counted from 0 at AE, columns 33 to 39 (R871). -/
def fieldBall (k col : Nat) : String :=
  let sw := "SW" ++ toString k
  match col with
  | 33 => match fieldInput k with | some n => "IN" ++ toString n | none => "FGND"
  | 34 => match fieldInput k with | some n => "IN" ++ toString (n + 12) | none => "FGND"
  | 35 => "VFIELD"
  | 36 => "FGND"
  | 37 => sw
  | 38 => if k < 12 then "VD" ++ toString (k / 3) else sw
  | _ => if k < 12 then "VD" ++ toString (4 + k / 3) else sw

/-- The ball at row `row` and column `col`, both counted from 1 (R863–R871). -/
def ballAt (row col : Nat) : Ball :=
  if row = 0 ∨ 39 < row ∨ col = 0 ∨ 39 < col ∨ (row = 1 ∧ col = 1) then .unpopulated
  else if row ≤ 17 then
    if col = 1 then .named (edgeColumn.getD (row - 2) "")
    else if col ≤ 36 then .channel (col - 2) row
    else
      let (a, b, c) := linkCorner.getD (row - 1) ("", "", "")
      .named (if col = 37 then a else if col = 38 then b else c)
  else if row ≤ 22 then .named ((centreColumn col).getD (row - 18) "")
  else if col ≤ 29 then .channel (col + 34) (40 - row)
  else if row = 23 then .unconnected
  else if col ≤ 32 then .unpopulated
  else .field (fieldBall (row - 24) col)

/-- The position of the ball of signal `index` of channel `n` (R864, R865). -/
def channelBall (n index : Nat) : Nat × Nat := if n ≤ 34 then (index, n + 2) else (40 - index, n - 34)

/-- The name of the ball's signal (R864). -/
def Ball.signal : Ball → String
  | .unpopulated => ""
  | .unconnected => "NC"
  | .channel n k => "CH" ++ toString n ++ "_" ++ channelSignals.getD (k - 1) ""
  | .field x | .named x => x

/-- The ball is connected inside the package of this variant: on an XF-3208 no ball of ch32 to ch63 is (R21, R884), and on an XF-6400 none of
the field region (R20). -/
def Ball.connected (v : Variant) : Ball → Bool
  | .unpopulated | .unconnected => false
  | .channel n _ => decide (n < v.channels)
  | .field _ => v.hasField
  | .named _ => true

/-- The device phase of local phase `j` of channel `n`, and the channel and the phase number whose balls it uses (R866, R377). -/
def devicePhase (n j : Nat) : Nat := 2 * n + j
def phaseBalls (n j : Nat) : Nat × Nat := (n + j / 2, j % 2)

end Sys2Proof.Machine
end

