-- ==== Sys2Proof/Machine/Safelight.lean ====
section
/-!
DEFINITION. Machine/Safelight.lean: power states, device reset and what it leaves standing (R825–R828, R834, R843–R847, R876, R887–R889), the
end of the park sequence (R830), wakes (R833–R836, R840–R842), the crystal (R837, R845), wake tones (R563) and die temperature and life
(R895, R906, R917, R918).
-/
namespace Sys2Proof.Machine

/-! ### Device reset -/

/-- Registers that lie in domain 0 (R741, R848). -/
def heldKeys : List Nat := [0x51008, 0x51018, 0x4C014, 0x4C814]

/-- RESET-coded registers (R90, R920). -/
def resetKeys : List Nat := [0x42004, 0x53004]

/-- What a device reset leaves of a fixture bus: the wake filters, the decoder and the wake record (R741). -/
def canHeld (c : CanBus) : CanBus :=
  { filters := c.filters.filter fun (e : Nat × CanFilter) => e.2.action == 2, armed := c.armed, inFrame := c.inFrame, fec := c.fec, heard := c.heard,
    cause := c.cause, wfilter := c.wfilter, wframe := c.wframe, wakes := c.wakes, wakeDue := c.wakeDue }

/-- Every domain but 0 is off: its logic, registers, rings, spools, leases, archive and channels are lost (R136, R828).  Domain 0, the
registers held in it, the RESET-coded values that `keep` names, fuses and the levels of pins stay.  [DEDUCED, unsafe: log 178] -/
def mainOff (keep : List Nat) (s : State) : State :=
  { variant := s.variant, dbgen := s.dbgen, power := s.power,
    regs := { val := s.regs.val.keep fun k => heldKeys.contains k || keep.contains k },
    tk := { clk := s.tk.clk }, hl := { cxl := s.hl.cxl, strap := s.hl.strap, perst := s.hl.perst, perstHigh := s.hl.perstHigh },
    cn := s.cn.map fun (e : Nat × CanBus) => (e.1, canHeld e.2), sb := { pinLow := s.sb.pinLow }, mm := { fuses := s.mm.fuses },
    sl := s.sl, tx := s.tx, free := s.free, pending := s.pending }

/-- The macros whose fuse record has a parity error raise FUSE_BAD (R784). -/
def fuseCheck (s : State) : State :=
  s.mm.fuses.foldl (fun s (e : Nat × Option Word) =>
    if e.2.isNone ∧ (macroInfo s.variant e.1).isSome then
      raiseAs .mm 0 3 1 [e.1] ((macroChannel e.1).getD (Blk.mm.source 0)) prodHub s
    else s) s

/-- Parked time in ms from the park edge to the wake, or to now where none is pending (R849).  [DEDUCED, unsafe: log 181] -/
def parkedMs (s : State) : Option Nat :=
  match s.sl.parkTick with
  | some p => if s.sl.parkValid then some (((if s.sl.pending then s.sl.wakeTick else s.sl.tick) - p) * 1000 / 32768) else none
  | none => none

/-- A device reset (R177, R827, R828, R838): everything but domain 0 starts afresh, domains 1, 16 and 19 power up first, and the reset
check starts.  RESET-coded values act.  [DEDUCED, unsafe: log 2; DESIGN CHOICE, unsafe: log 48; DEDUCED, unsafe: log 186] -/
def deviceReset (s : State) : State :=
  let woke := parkedMs s
  let s := mainOff resetKeys s
  let align := bitOf (s.wr 0x53004 0) 0
  let restore := s.sl.parkValid && !align && !s.sl.xtalFailed
  let s := { s with
    power := .on
    hl := { s.hl with cxl := s.hl.strap }
    sheet := { checking := true, checked := false }
    tk := { s.tk with waitTsync := align }
    sl := { s.sl with vcore := true, counting := false, pending := false, heldOver := [], parking := none, running := false,
                      resetAt := s.tk.clk, woke, restoreDue := restore, parkValid := restore, restored := false } }
  fuseCheck ([1, 16, 19].foldl (fun s d => setTarget d true s) s)

/-- What domain 19's becoming ON starts: WOKE and the reports that waited (R835, R844, R845), and the stop of a low STOP# (R822).
[DEDUCED, unsafe: log 181] -/
def bathComes (s : State) : State :=
  let l := s.sl
  let cause := at_ 12 4 l.first + at_ 0 9 l.wake
  let s := raise .sl 0 0 0 [cause, (match l.woke with | some t => min t 0xFFFFFFFF | none => 0xFFFFFFFF : Nat), l.lost] s
  let s := if l.lossDue then raise .sl 0 5 1 [] s else s
  let s := if l.xtalDue then raise .sl 0 2 2 [] s else s
  let s := { s with sl := { s.sl with woke := none, lossDue := false, xtalDue := false } }
  if s.sb.pinLow then enterStop 1 .pin 0 false s else s

/-! ### Supplies -/

/-- The seal log and the tick count as VSAFE application leaves them (R126). -/
def safeFresh : Safelight :=
  { wake := 1, pending := true, counting := true, log := [(0, { ticks := 0, kind := 1, state := 0, seq := 0 })], logged := 1 }

/-- VSAFE_APPLY (R126, R741, R847). -/
def vsafeApply (s : State) : State :=
  if s.power = .off then
    let low := s.sl.low
    let s := mainOff [] s
    { s with power := .parked, regs := {}, cn := [], sl := { safeFresh with low, counting := low.isEmpty, countAt := s.tk.clk } }
  else s

def execVsafeApply (s : State) : Out := .next (vsafeApply s)

/-- VSAFE_LOSS (R846, R887): everything is off, and what domain 0 held is lost. -/
def vsafeLoss (s : State) : State :=
  let low := s.sl.low
  let s := mainOff [] s
  { s with power := .off, regs := {}, cn := [], sl := { log := [], wake := 0, low } }

def execVsafeLoss (s : State) : Out := .next (vsafeLoss s)

/-- MAIN_RAIL_BELOW_MINIMUM (R876, R888): main rail `r` passes its operating minimum and stands at `mv` mV.  A fall ends the 1 ms count, and
the return of the last low rail starts it.  While PARKED a rail's fall takes VCORE out of its range, and RESET-coded values are lost (R90).
[DEDUCED, unsafe: log 178] -/
def mainRail (r mv : Nat) (s : State) : State :=
  if (railLimits r).isNone then s
  else if railLow r mv then
    let keep := if s.power = .parked then s.regs.val.keep (fun k => !resetKeys.contains k) else s.regs.val
    { s with regs := { s.regs with val := keep }
             sl := { s.sl with low := if s.sl.low.contains r then s.sl.low else s.sl.low ++ [r], counting := false,
                               vcore := s.sl.vcore && s.power != .parked } }
  else
    let low := s.sl.low.filter fun k => k != r
    let starts := s.sl.low.contains r && low.isEmpty && !s.sl.vcore && s.power != .off
    { s with sl := { s.sl with low, counting := s.sl.counting || starts, countAt := if starts then s.tk.clk else s.sl.countAt } }

def execMainRailBelowMinimum (r mv : Nat) (s : State) : Out := .next (mainRail r mv s)

/-- VCORE_ENTER (R827, R876): the count has run for 1 ms. -/
def vcoreEnter (s : State) : State :=
  if s.power = .parked ∧ s.sl.counting ∧ !s.sl.vcore then deviceReset (advanceClk (s.sl.countAt + 1000000) s) else s

def execVcoreEnter (s : State) : Out := .next (vcoreEnter s)

/-- The rail that R889 records out of those that fell in one supervisor cycle. -/
def lossRail (rails : List Nat) : Nat := if rails.contains 1 then 1 else rails.foldl min 15

/-- POWER_LOSS (R844, R876, R889): the main rails of `rails` have stood at these mV or less for 2 µs; those below their loss thresholds are the
loss, the first of one supervisor cycle.  [DEDUCED, unsafe: log 177] -/
def powerLoss (rails : List (Nat × Nat)) (s : State) : State :=
  let lost := (rails.filter fun e => railLost e.1 e.2).map (·.1)
  if s.power = .on ∧ !lost.isEmpty then
    let s := mainOff [] s
    { s with power := .parked,
             sl := { s.sl with vcore := false, low := s.sl.low ++ lost.filter (fun k => !s.sl.low.contains k), counting := false, parkValid := false,
                               parkCause := 2, restored := false, lossDue := true,
                               lossRail := lossRail lost, wake := 1, first := 0, wakeTick := s.sl.tick, pending := true,
                               parking := none, heldOver := [], running := false, restoreDue := false } }
  else s

def execPowerLoss (rails : List (Nat × Nat)) (s : State) : Out := .next (powerLoss rails s)

/-! ### The end of the park sequence (R830) -/

/-- Domain `d` holds no power. -/
def domDown (s : State) (d : Nat) : Bool := (s.dom d).st == .off || (s.dom d).st == .fenced || (s.dom d).st == .failed

/-- Step 3: every CI and MI domain powers down. -/
def parkBeat (s : State) : State :=
  if s.sl.parking = some .beat then
    let s := { s with sl := { s.sl with parking := some .drain } }
    (List.range' 20 128).foldl (fun s d => if domDown s d then s else setTarget d false s) s
  else s

/-- Records still held in the spools or on their way to them.  [DEDUCED, unsafe: log 185] -/
def recordsHeld (s : State) : Nat := (List.range 16).foldl (fun a n => a + (s.spool n).q.length) s.sp.making.length

/-- PARK_DRAIN_END: steps 4 and 5.  The spools are empty, or DRAIN_MS have passed since step 1.  [DEDUCED, unsafe: log 185] -/
def parkDrainEnd (s : State) : State :=
  let ms := fld (s.wr 0x51004 0x64) 0 10
  if s.sl.parking = some .drain ∧ (List.range' 20 128).all (domDown s) ∧
      (recordsHeld s = 0 ∨ s.sl.parkAt + ms * 1000000 ≤ s.tk.clk) then
    let s := { s with sl := { s.sl with parking := some .edge, lost := min 0xFFFF (recordsHeld s) }
                      sp := { s.sp with sp := s.sp.sp.map fun (e : Nat × Spool) => (e.1, { e.2 with q := [] }), making := [] } }
    let s := levels s
    [9, 10, 11, 12, 13, 14, 17, 18].foldl (fun s d => if domDown s d then s else setTarget d false s) s
  else s

def execParkDrainEnd (s : State) : Out := .next (mainOn s (parkDrainEnd s))

/-- PARK_EDGE: steps 6 to 8, at the tick edge of count `t`; wakes held over act (R840–R842).  [DEDUCED, unsafe: log 185] -/
def parkEdge (t : Nat) (s : State) : State :=
  if s.sl.parking = some .edge ∧ [9, 10, 11, 12, 13, 14, 17, 18].all (domDown s) then
    let s := tickTo t s
    let held := s.sl.heldOver
    let jt := s.tk.now
    let s := mainOff resetKeys s
    let s := { s with power := .parked,
                      sl := { s.sl with parkJt := jt, parkTick := some s.sl.tick, parkMeas := s.sl.meas.getD 0, parkValid := true,
                                        parkCause := 1, restored := false, alarmed := false, xtalFailed := false, pending := false,
                                        parking := none, heldOver := [], running := false, restoreDue := false } }
    ((List.range 8).filter held.contains).foldl (fun s k => recordWake k s) s
  else s

def execParkEdge (t : Nat) (s : State) : Out := .next (mainOn s (parkEdge t s))

/-! ### Wakes -/

/-- DEVICE_WAKE (R827, R834): a wake is pending with VCORE in range. -/
def deviceWake (s : State) : State := if s.power = .parked ∧ s.sl.pending ∧ s.sl.vcore then deviceReset s else s

def execDeviceWake (s : State) : Out := .next (deviceWake s)

/-- Tick count of the alarm (R833), once a park has been recorded and ALARM_S set.  [DEDUCED, unsafe: log 179] -/
def alarmTick (s : State) : Option Nat :=
  let a := fld (s.wr 0x51018 0) 0 24
  if a = 0 then none else s.sl.parkTick.map fun p => p + a * 32768

/-- ALARM_MATCH (R833, R836, R842).  [DEDUCED, unsafe: log 179] -/
def alarmMatch (s : State) : State :=
  match alarmTick s with
  | none => s
  | some t =>
    if s.power = .off ∨ s.sl.alarmed then s
    else
      let s := tickTo t s
      let s := { s with sl := { s.sl with alarmed := true } }
      wakeSource 5 (raise .sl 0 4 0 [] s)

def execAlarmMatch (s : State) : Out := .next (alarmMatch s)

/-- 32 consecutive periods of 800 ns ±10% stand among these, in ns (R563). -/
def isTone : List Nat → Nat → Bool
  | _, 32 => true
  | [], _ => false
  | x :: t, k => isTone t (if 720 ≤ x ∧ x ≤ 880 then k + 1 else 0)

/-- TONE_ACCEPTED (R563, R833): the safelight hears a square wave of these periods on port `p`, up to tick `t`, and accepts a wake tone. -/
def toneAccepted (p t : Nat) (periods : List Nat) (s : State) : State :=
  if s.power = .off ∨ 2 ≤ p ∨ !isTone periods 0 then s
  else
    let s := tickTo t s
    let s := if s.power = .on then rcSet (0x47000 + 0x400 * p) 0x200 s else s
    wakeSource (2 + p) s

def execToneAccepted (p t : Nat) (periods : List Nat) (s : State) : Out := .next (toneAccepted p t periods s)

/-- The device was woken by a tone on one port and sends one on the other, whose domain is now ON (R562).
[DEDUCED, unsafe: log 182] -/
def tonePassOn (d : Nat) (s : State) : State :=
  let p := d - 11
  if (d = 11 ∨ d = 12) ∧ !s.sl.running ∧ s.sl.wake / 2 ^ (3 - p) % 2 = 1 then sendTone p s else s

/-! ### The crystal -/

/-- XTAL_FAIL (R133, R838, R845).  [DEDUCED, unsafe: log 180] -/
def xtalFail (t : Nat) (s : State) : State :=
  if s.power = .off ∨ !s.sl.xtalOk then s
  else
    let s := tickTo t s
    let s := { s with sl := { s.sl with xtalOk := false, xtalFailed := true, xtalDue := s.sl.xtalDue || s.power == .parked } }
    closeWindow (raise .sl 0 2 2 [] s)

def execXtalFail (t : Nat) (s : State) : Out := .next (xtalFail t s)

/-- The deviation from 32,768 Hz, in 0.1 ppm, of a crystal whose 32,768 ticks took `dj` ns of Jikan time (R837).
[DEDUCED, unsafe: log 180] -/
def xtalDeviation (dj : Nat) : Int := satInt 16 (ratRound ((10000000000000000 : Rat) / (dj : Nat) - 10000000))

/-- XTAL_MEASUREMENT (R837, R845): the 32,768 ticks that end at tick `t` took `dj` ns of Jikan time.  A deviation of more than 500 ppm is a
failed crystal.  [DEDUCED, unsafe: log 180] -/
def xtalMeasurement (t dj : Nat) (s : State) : State :=
  if isRunning s ∧ s.tk.refclkOk ∧ s.sl.xtalOk ∧ 0 < dj then
    let s := tickTo t s
    let m := xtalDeviation dj
    let s := { s with sl := { s.sl with meas := some m } }
    if 5000 < m.natAbs then xtalFail t s else s
  else s

def execXtalMeasurement (t dj : Nat) (s : State) : Out := .next (mainOn s (xtalMeasurement t dj s))

/-- XTAL_OK (R845): 32,768 consecutive good edges. -/
def xtalRestored (t : Nat) (s : State) : State :=
  if s.power = .off ∨ s.sl.xtalOk then s
  else
    let s := tickTo t s
    raise .sl 0 3 0 [] { s with sl := { s.sl with xtalOk := true } }

def execXtalOk (t : Nat) (s : State) : Out := .next (xtalRestored t s)

/-! ### Temperature and life -/

/-- The scale of AF and of the residue of HUB_LIFE_EQ_S. -/
def lifeScale : Nat := 1000000000000000000

/-- Σ xᵏ / k! for k from `k` on, for x = `x` / lifeScale and `term` the k-th summand.  [DESIGN CHOICE, unsafe: log 183] -/
def expSum (x : Nat) : Nat → Nat → Nat → Nat
  | 0, _, _ => 0
  | fuel + 1, k, term => term + expSum x fuel (k + 1) (term * x / (lifeScale * (k + 1)))

/-- AF × lifeScale at TJ of `tj` × 0.01 °C (R906).  [DESIGN CHOICE, unsafe: log 183] -/
def lifeFactor (tj : Int) : Nat :=
  let t : Int := tj + 27315
  let x : Int := 812300 * (t - 35815) * lifeScale / (35815 * t)
  let e := expSum x.natAbs 80 0 lifeScale
  if x < 0 then lifeScale * lifeScale / e else e

/-- TEMP_CONVERSION (R895, R906, R917, R918): the five readings in 0.01 °C, 1 ms after the last ones or after reset release, and 1 ms of life.
[DESIGN CHOICE, unsafe: log 183] -/
def tempConversion (t0 t1 t2 t3 t4 : Int) (s : State) : State :=
  if s.power = .on then
    let s := advanceClk (max s.th.convAt s.sl.resetAt + 1000000) s
    let good := [t0, t1, t2, t3, t4].filter fun t => decide (-5500 ≤ t) && decide (t ≤ 15000)
    let tj := good.foldl (fun (a : Option Int) t => some (match a with | some m => max m t | none => t)) none
    let peak := match tj, s.th.peak with | some a, some b => some (max a b) | some a, none => some a | none, b => b
    let eq := s.th.eq + lifeFactor (tj.getD 10500) / 1000
    let ms := s.th.ms + 1
    let s := { s with th := { tj, peak, ms := ms % 1000, eq := eq % lifeScale, convAt := s.tk.clk } }
    bumpBy 0x4100C 0xFFFFFFFF (eq / lifeScale) (bumpBy 0x41008 0xFFFFFFFF (ms / 1000) s)
  else s

def execTempConversion (t0 t1 t2 t3 t4 : Int) (s : State) : Out := .next (mainOn s (tempConversion t0 t1 t2 t3 t4 s))

/-- HUB_TEMP. -/
def hubTemp (s : State) : Nat :=
  let code := fun (t : Option Int) => match t with | some v => unsigned 16 v | none => 0x8000
  at_ 16 16 (code s.th.peak) + code s.th.tj

end Sys2Proof.Machine
end

