-- ==== Sys2Proof/Machine/Boundaries.lean ====
section
/-!
DEFINITION. Machine/Boundaries.lean: beacons (R152, R162, R169, R177), epoch boundaries (R90, R156), the boundaries that a step of time passes
(R157, R171) and the beat boundary with what the park sequence adds (R528, R830).
-/
namespace Sys2Proof.Machine

/-! ### Beacons -/

/-- Publication waits: beacons go to domains 1 and 16 alone (R163, R838). -/
def holdingBack (s : State) : Bool := s.tk.waitTsync || s.sl.restoreDue

/-- Domains that a beacon reaches. -/
def beaconDomains (s : State) : List Nat := if holdingBack s then [1, 16] else List.range' 1 147

/-- The strobe of the beacon of value `t` reaches an ON island, which records its local time; the value follows by crossing (R152, R153). -/
def Dom.strobed (t run : Nat) (x : Dom) : Dom :=
  if x.st = .on then { x with beacons := x.beacons + 1, strobe := some (x.localAt run, t) } else x

/-- What a beacon does in one domain (R140, R169, R810).  [DESIGN CHOICE, unsafe: log 6] -/
def beaconAt (s : State) (d : Nat) : State :=
  let came := (s.dom d).st == .up && (s.dom d).phase == .beacon
  let s := becomesOn d s
  let s := if came && s.isOn d then tonePassOn d (if d = 19 then bathComes s else if 5 ≤ d ∧ d ≤ 7 then trainingBegins s else s) else s
  reopenPort d s

/-- Once domains 1, 16 and 19 are ON, the others of R177 power up.  [DEDUCED, unsafe: log 36] -/
def startOthers (s : State) : State :=
  [2, 3, 4, 5, 6, 7, 8, 15, 9, 10, 11, 12, 13, 14, 17, 18].foldl (fun s d =>
    if isSwitched s d && !domEnabled s d then s else if d = 18 ∧ !s.variant.hasField then s else setTarget d true s) s

/-- [DEDUCED, unsafe: log 36] -/
def bootThree (s : State) : Bool := s.isOn 1 && s.isOn 16 && s.isOn 19

/-- The timekeeper issues beacons: domain 16 is ON or waits for its first (R152, R177). -/
def beaconing (s : State) : Bool :=
  s.power == .on && (s.isOn 16 || ((s.dom 16).st == .up && (s.dom 16).phase == .beacon))

/-- The beacon of the value `t` is issued now. -/
def issueBeacon (t : Nat) (s : State) : State :=
  let ds := beaconDomains s
  let s := { s with
    tk := { s.tk with beaconAt := t }
    doms := s.doms.map fun (e : Nat × Dom) => (e.1, if ds.contains e.1 then e.2.strobed t s.tk.run else e.2) }
  let before := bootThree s
  let s := ds.foldl beaconAt s
  let s := if (List.range 148).any fun d => d != 1 && d != 16 && s.isOn d then { s with tk := { s.tk with published := true } } else s
  let s := if bootThree s && !before then startOthers s else s
  bootCheck s

/-- BEACON (R152): the next multiple of 1,024 ns. -/
def beacon (s : State) : State :=
  if beaconing s then
    let t := nextOf 1024 s.tk.beaconAt
    issueBeacon t (advanceTo t s)
  else s

def execBeacon (s : State) : Out := .next (mainOn s (beacon s))

/-! ### Epochs -/

/-- A measurement island whose local time has not reached the boundary `b`, by more than beacons slew in (R153, R157). -/
def behind (s : State) (b d : Nat) : Bool := decide (84 ≤ d) && decide (d < 148) && s.isOn d && decide (localTime s d + 64 < b)

/-- EPOCH-coded values act (R90), those of the spools under R331 and a new fill range under R367; those of an island that is behind act when
it steps (R157). -/
def epochActs (late : List Nat) (s : State) : State :=
  fillRangeActs s <| actDue (fun k => teOf s.variant k == .epoch && !isSpKey k && !late.any fun d => isMsEpochKey s (d - 84) k) (spoolEpoch s)

/-- The epoch boundary `b` is taken now (R156, R625): the epoch that ends keeps the values it had; then the written ones act.
[DESIGN CHOICE, unsafe: log 202] -/
def takeEpoch (b : Nat) (s : State) : State :=
  let late := (List.range' 84 64).filter (behind s b)
  let s := peEpochEnd s.tk.epochAt b { s with tk := { s.tk with epochAt := b } }
  let s := noteWas b s (epochActs late s)
  let s := (List.range 4).foldl (fun s r => epochDone r s) s
  { s with tk := { s.tk with epochQ := fld (s.acting 0x53008 4) 0 6 }
           doms := s.doms.map fun (e : Nat × Dom) => (e.1, { e.2 with whole := e.2.st == .on, owes := e.2.owes || late.contains e.1 }) }

/-- EPOCH_BOUNDARY (R156): the next whole multiple of the epoch length. -/
def epochBoundary (s : State) : State :=
  if s.power = .on ∧ s.isOn 16 then
    let b := nextOf (epochLen s) s.tk.epochAt
    takeEpoch b (advanceTo b s)
  else s

def execEpochBoundary (s : State) : Out := .next (mainOn s (epochBoundary s))

/-! ### Steps of Jikan time (R157, R171) -/

/-- Beacon and epoch boundaries that the new time has passed are taken once each, at the instant of the step, in ascending order (R157).
[DEDUCED, unsafe: log 40] -/
def takePassed : Nat → State → State
  | 0, s => s
  | n + 1, s =>
    let b := nextOf 1024 s.tk.beaconAt
    let e := nextOf (epochLen s) s.tk.epochAt
    if !s.isOn 16 || decide (s.tk.now < min b e) then s
    else takePassed n (if b ≤ e then issueBeacon b s else takeEpoch e s)

/-- What `act` does to the machine where it may set Jikan time: a beacon of the same hub cycle carries the value before the correction
(R171), and the boundaries that a forward step passes are taken (R157).  [DEDUCED, unsafe: log 40] -/
def stepping (act : State → State) (s : State) : State :=
  if (act s).tk.now = s.tk.now then act s
  else
    let b := nextOf 1024 s.tk.beaconAt
    let t := act (if beaconing s ∧ b = s.tk.now then issueBeacon b s else s)
    takePassed (t.tk.now / 1024 + t.tk.now / 250000 + 2) t

/-- SYNC, with the load that R161 may make of it. -/
def execSync (p h : Nat) (pl : List Byte) (s : State) : Out := .next (mainOn s (stepping (syncCell p h pl) s))

/-- TIME_RESTORED, with the boundaries its load passes. -/
def execTimeRestored (t : Nat) (s : State) : Out := .next (mainOn s (stepping (timeRestored t) s))

/-! ### Beats -/

/-- The next beat boundary, then step 3 of a park sequence that waited for it (R830). -/
def takeBeat (s : State) : State := parkBeat (beatBoundary s)

/-- BEAT_BOUNDARY, unless a round boundary of this instant has taken it (R528).  [DESIGN CHOICE, unsafe: log 219] -/
def beatCommand (s : State) : State :=
  if s.sh.beatEarly && s.sh.beatAt == s.tk.now then { s with sh := { s.sh with beatEarly := false } } else takeBeat s

def execBeatBoundary (s : State) : Out := .next (mainOn s (beatCommand s))

/-! ### Rounds -/

/-- The next round boundary; a beat boundary of that instant acts before its contest (R505, R528).
[DESIGN CHOICE, unsafe: log 219] -/
def takeRound (s : State) : State :=
  let t := boundary 1000 s.sh.roundAt s.tk.now
  let s := advanceTo t s
  if t % 4000 = 0 ∧ s.sh.beatAt < t then
    let s := takeBeat s
    decideRound { s with sh := { s.sh with beatEarly := true } }
  else decideRound s

/-- ROUND_BOUNDARY (R505): `vbus` is the VBUSS sample of R395 in mV; the shutter decides while domain 8 is ON, unless a report of this
instant has brought the decision about (R580).
[DESIGN CHOICE, unsafe: log 6; DEDUCED, unsafe: log 124; DESIGN CHOICE, unsafe: log 219] -/
def roundBoundary (vbus : Nat) (s : State) : State :=
  if !s.isOn 8 then s
  else
    let s := if s.sh.early && s.sh.roundAt == s.tk.now then { s with sh := { s.sh with early := false } } else takeRound s
    { s with sb := { s.sb with vbus } }

def execRoundBoundary (vbus : Nat) (s : State) : Out := .next (mainOn s (roundBoundary vbus s))

/-- A round boundary of this instant that no command has brought yet is taken (R580).  [DESIGN CHOICE, unsafe: log 219] -/
def roundFirst (s : State) : State :=
  if s.isOn 8 && s.tk.now % 1000 == 0 && decide (s.sh.roundAt < s.tk.now) then
    let s := takeRound s
    { s with sh := { s.sh with early := true } }
  else s

/-- REPORT: a report written in the cycle of a round boundary carries that boundary's fields (R580). -/
def execReport (p h : Nat) (pl : List Byte) (s : State) : Out := .next (mainOn s (reportCell p h pl (roundFirst s)))

/-- BAD_CELL: so does a report written into a bad copy (R580). -/
def execBadCell (p : Nat) (line : List CodeGroup) (afterIdle inSlot : Bool) (s : State) : Out :=
  .next (mainOn s (badCell p line afterIdle inSlot (roundFirst s)))

end Sys2Proof.Machine
end

