-- ==== Sys2Proof/Machine/Bus.lean ====
section
/-!
DEFINITION. Machine/Bus.lean: accesses to BAR0 (R35, R37, R70–R108, R944, R945): what each register reads, what each write stores and does,
and the register commands that have rows of their own.
-/
namespace Sys2Proof.Machine

/-! ### Which storage an access reaches -/

/-- The value that a selected register's selector names, 0 for every other register (R427, R461, R504, R587, R634, R676, the RG_ and AR_
tables). -/
def selOf (s : State) (b : Blk) (i off : Nat) : Nat :=
  match b, off with
  | .rg, 0x28 | .rg, 0x2C | .rg, 0x30 | .rg, 0x34 | .rg, 0x38 | .rg, 0x3C => fld (s.wr 0x43024 0) 0 2
  | .rg, 0x40 => fld (s.wr 0x43024 0) 4 3
  | .ar, 0x34 | .ar, 0x38 => fld (s.wr 0x45024 0) 0 2
  | .pe, 0x1C | .pe, 0x20 => fld (s.wr 0x48018 0) 0 6
  | .pe, 0x24 => fld (s.wr 0x48018 0) 16 6
  | .ez, 0x18 => fld (s.wr 0x4A014 0) 0 4
  | .dv, 0x14 => fld (s.wr (dvKey i 0x10) 0) 0 3
  | .ms, 0x14 | .ms, 0x18 => fld (s.wr (msKey i 0x10) 0) 0 2
  | _, _ => 0

/-- BAR0 offset of the storage: both JL_ instances reach one storage from 0x40 upward (R587). -/
def homeOf (b : Blk) (i off : Nat) : Nat := b.addr (if b = .jl ∧ 0x40 ≤ off then 0 else i) off

/-- Key of the storage that an access to the register reaches now. -/
def keyOf (s : State) (b : Blk) (i off : Nat) : Nat := selKey (homeOf b i off) (selOf s b i off)

/-- Reset value of that storage (R49, R504, R923, R928). -/
def resetOf (s : State) (b : Blk) (i : Nat) (r : RegDef) : Word :=
  match b, r.off with
  | .sp, 0x0 => spConfigReset i
  | .sp, 0x8 => spMapReset i false
  | .sp, 0xC => if reservedHi s.variant r.name then 0 else spMapReset i true
  | .dv, 0x14 => wInt (limitReset (selOf s b i r.off))
  | .hub, 0x44 => if s.variant.hasField then r.reset else 0x00027E00
  | _, _ => r.reset

/-- The domain whose logic drives the register's RO fields, where it is one that can be off while registers are read (R135, R137). -/
def statusDom (b : Blk) (i off : Nat) : Option Nat :=
  match b with
  | .hl => some 2 | .sp => some 4 | .ar => some 5 | .sh => some 8
  | .pe => some 9 | .fx => some 10
  | .jl => if off < 0x40 then some (11 + i) else none
  | .cn => if off < 0x14 then some 13 else none
  | .en => some 14 | .sn => some 14
  | .ez => some 18 | .wn => some 18
  | .sb => some 19 | .tk => some 16
  | .dv => some (ciDom i) | .ms => some (miDom i)
  | .cs => none | .hub => none | .rg => none | .mm => none | .sl => none | .pr => none

/-! ### What status registers read -/

/-- A word with one bit per channel from `lo` on. -/
def chanBits (s : State) (lo : Nat) (p : Nat → Bool) : Nat :=
  (List.range 32).foldl (fun a j => a + 2 ^ j * b2n (decide (lo + j < s.variant.channels) && p (lo + j))) 0

/-- HUB_READY (R860). -/
def hubReady (s : State) : Nat :=
  at_ 16 16 (min 65535 ((s.tk.clk - s.sl.resetAt) / 1000000)) + at_ 8 1 (b2n (portUp s 1)) + at_ 7 1 (b2n (portUp s 0)) +
    at_ 6 1 (b2n s.tk.published) + at_ 5 1 (b2n (s.variant.hasField && ezReady s)) + at_ 4 1 (b2n s.ar.zeroDone) +
    at_ 3 1 (b2n s.ar.fail.isSome) + at_ 2 1 (b2n s.ar.trained) + at_ 1 1 (b2n (s.hl.link == .up)) +
    b2n (isRunning s)

/-- Domain state codes (R139). -/
def DomState.code : DomState → Nat
  | .off => 0 | .up => 1 | .on => 2 | .down => 3 | .fenced => 4 | .failed => 5

/-- The domain exists in the variant (R135, R15). -/
def domExists (s : State) (d : Nat) : Bool :=
  if d < 20 then true
  else if d < 84 then decide (d - 20 < s.variant.channels)
  else if d < 148 then decide (d - 84 < s.variant.channels)
  else decide (d < 160) && s.variant.hasField

/-- HUB_DOM_STATUS, but for REFUSED (R139, R647).  [DESIGN CHOICE, unsafe: log 204] -/
def domStatus (s : State) : Nat :=
  let d := fld (s.wr 0x41048 0) 0 8
  if !domExists s d then 0
  else if d = 0 then 2
  else if d ≥ 148 then 2 * b2n (fieldDomOn s d)
  else
    let x := s.dom d
    at_ 12 8 x.lastUs + at_ 4 8 x.trans + x.st.code

/-- TK_STATUS. -/
def tkStatus (s : State) : Nat :=
  let src := match s.tk.source with | .free => 0 | .master => 1 | .follower => 2 | .holdover => 3
  at_ 5 1 (b2n s.tk.published) + at_ 4 1 (b2n s.tk.refclkOk) + at_ 3 1 (b2n s.tk.tsyncMissing) + at_ 2 1 (b2n s.tk.tsyncAligned) + src

/-- Phase state codes (R424). -/
def PhState.code : PhState → Nat
  | .inService => 0 | .retryWait => 1 | .outTrip => 2 | .outOpen => 3 | .outSense => 4 | .outShort => 5

/-- DV_PH_STATUS, but for NTRIPS; with the CI domain not ON, LIMITED and CHEN read 0 (R138, R424). -/
def phStatus (s : State) (n : Nat) : Nat :=
  let c := s.ch n
  let on := s.isOn (ciDom n)
  let st := fun j =>
    if s.present n && c.phaseList.contains j && phEn s n j && (c.phase j).known then (c.phase j).st.code else 6
  at_ 31 1 (b2n (s.present n && c.short)) + at_ 30 1 (b2n (on && c.limited)) + at_ 29 1 (b2n (on && c.chen)) + at_ 12 4 (st 3) + at_ 8 4 (st 2) +
    at_ 4 4 (st 1) + st 0

/-- MS_STATUS. -/
def msStatus (s : State) (n : Nat) : Nat :=
  let m := s.mi n
  let cal := if m.winAt.isSome then 3 else match m.cal with | .notDue => 0 | .due => 1 | .forced => 2
  at_ 16 16 (calAgeS s n) + at_ 14 2 cal + at_ 8 1 (b2n m.calBad) + at_ 7 1 (b2n m.refLost) + at_ 6 1 (b2n m.refSuspect) +
    at_ 5 1 (match m.last with | some p => b2n p.fastPath | none => 1) +
    at_ 4 1 (match m.last with | some p => b2n p.overRange | none => 0) + at_ 3 1 (b2n (m.thOpen || m.thShort)) +
    at_ 2 1 (b2n m.calibrated) + at_ 0 2 (min 3 m.fails)

/-- SB_STATUS. -/
def sbStatus (s : State) : Nat :=
  at_ 31 1 (b2n (s.sb.cls != 0)) + at_ 28 3 s.sb.cls + at_ 24 4 s.sb.sources + at_ 16 1 (b2n s.sb.pinLow)

/-- MM_STATUS. -/
def mmStatus (s : State) : Nat :=
  at_ 31 1 (b2n s.mm.scrubbing) + at_ 16 8 (if s.mm.scrubbing then s.mm.smacro else 0) + at_ 8 8 (min 255 s.mm.unexp.length) +
    at_ 0 8 (min 255 s.mm.ue.length)

/-- MM_MACRO_INFO and MM_FUSE of a macro (R774, R784). -/
def mmInfo (s : State) (m : Nat) : Nat :=
  match macroInfo s.variant m with | some (d, words) => at_ 31 1 1 + at_ 22 8 d + at_ 0 14 words | none => 0
/-- [DEDUCED, unsafe: log 21; DESIGN CHOICE, unsafe: log 225] -/
def mmFuse (s : State) (m : Nat) : Word :=
  if (macroInfo s.variant m).isNone then 0
  else match s.mm.fuses.find m with
    | none => 0x8FFFFFFF
    | some (some w) => w ||| 0x80000000
    | some none => 0x0FFFFFFF

/-- A latched word index with VALID. -/
def mmLatch (t : Tab Nat) (m : Nat) : Nat := match t.find m with | some w => at_ 31 1 1 + at_ 0 14 w | none => 0

/-- SL_STATUS, but for PARK_REFUSED.  [DEDUCED, unsafe: log 28; DEDUCED, unsafe: log 224] -/
def slStatus (s : State) : Nat :=
  at_ 8 1 (b2n (s.power != .parked || s.sl.pending)) + at_ 6 1 (b2n s.sl.meas.isSome) + at_ 5 1 (b2n s.sl.xtalOk) +
    at_ 2 1 (b2n s.sl.parking.isSome) + at_ 0 2 (stateCode s)

/-- SL_XTAL_MEAS and SL_PARK_INFO. -/
def slXtal (s : State) : Nat := match s.sl.meas with | some m => at_ 31 1 1 + unsigned 16 m | none => 0
def slParkInfo (s : State) : Nat :=
  at_ 31 1 (b2n s.sl.parkValid) + at_ 28 3 s.sl.parkCause + at_ 27 1 (b2n s.sl.restored) + at_ 0 16 s.sl.lost

/-- A selected entry of the sensor schedule: its latest result and poll instant (R763). -/
def snLatest (s : State) : Int × Nat := s.en.sn.value.get (fld (s.wr 0x4E008 0) 0 4) (0, 0)

/-- A 64-bit RO value held in two registers, by the key of its low register (R87, R945): its present value. -/
def pairValue (s : State) (b : Blk) (i off : Nat) : Option Nat :=
  match b, off with
  | .hl, 0x1C => some s.hl.errAddr
  | .dv, 0x08 => some (unsigned 64 (s.ch i).expo)
  | .cn, 0x1C => some (wakeData (s.can i) 0 + 2 ^ 32 * wakeData (s.can i) 4)
  | .sl, 0x10 => some s.sl.wakeTick
  | .pr, 0x10 => some (sealShown s (fld (s.wr 0x52004 0) 0 4))
  | .tk, 0x0C => some s.tk.now
  | .tk, 0x20 => some s.tk.ptmJt
  | .tk, 0x28 => some s.tk.ptmHost
  | _, _ => none

/-- What an RO register reads, but for its RC and CNT fields, with its domain ON.  [DEDUCED, unsafe: log 15] -/
def status (s : State) (b : Blk) (i off : Nat) : Word :=
  match b with
  | .cs => match off with | 0x0 => csStatus s | 0x4 => s.sheet.crcSeen | _ => 0
  | .hub => match off with
    | 0x0 => w32 (hubReady s) | 0x4 => w32 (hubTemp s) | 0x4C => w32 (domStatus s)
    | 0x54 => w32 (at_ 16 16 (min 65535 s.sb.vbus) + at_ 0 4 s.sl.lossRail) | _ => 0
  | .hl => match off with
    | 0x0 => w32 (hlStatus s) | 0xC => w32 s.hl.dialogs | 0x18 => s.hl.errInfo | 0x38 => w32 (hlLdStatus s)
    | 0x40 => w32 (hlPoisonList s) | _ => 0
  | .rg => match off with
    | 0x4 => w32 (rgStatus s) | 0x3C => w32 (rgRingStatus s (selOf s .rg i 0x3C)) | 0x4C => s.rg.beat | _ => 0
  | .sp => match off with | 0x10 => w32 (spStatus s i) | _ => 0
  | .ar =>
    let x := fld (s.wr 0x4501C 0) 0 11
    let l := fld (s.wr 0x45024 0) 0 2
    match off with
    | 0x0 => w32 (arStatus s) | 0x10 => w32 (arFillPos s) | 0x14 => w32 s.ar.seq | 0x20 => w32 (arExtStatus s x)
    | 0x28 => w32 (arLdStatus s l) | 0x2C => w32 (s.lease l).session | 0x30 => w32 (at_ 0 16 (s.lease l).term)
    | 0x3C => w32 (arZeroStatus s) | 0x4C => w32 s.ar.nextSession | _ => 0
  | .sh =>
    let n := fld (s.wr 0x46020 0) 0 6
    match off with
    | 0x0 => w32 (shStatus s + at_ 2 1 (b2n (s.jl.st == .master)))
    | 0x18 => w32 (at_ 16 16 (unsigned 16 s.sh.reported) + unsigned 16 (satInt 16 (grantSum s)))
    | 0x1C => s.sh.grantIn | 0x24 => w32 (shChStatus s n) | 0x28 => w32 (shChReq s n) | _ => 0
  | .jl => match off with
    | 0x0 => w32 (jlPortStatus s i) | 0x18 => w32 (at_ 0 16 (linkDelay s i)) | 0x48 => w32 (jlRingStatus s)
    | 0x4C => if s.jl.st = .master then w32 (at_ 16 16 s.jl.loopW + at_ 0 16 s.jl.loopE) else 0
    | 0x60 => if s.jl.st = .master then w32 ((List.range 32).foldl (fun a n => a + 2 ^ n * b2n (s.jl.members.has n)) 0) else 0
    | _ => 0
  | .pe => match off with | 0x0 => w32 (peStatus s) | _ => 0
  | .fx => match off with | 0x0 => w32 (fxStatus s) | 0x14 => s.fx.crc | 0x24 => w32 s.fx.last | _ => 0
  | .ez => match off with
    | 0x0 => w32 (ezStatus s) | 0x10 => w32 (ezSwStatus s) | 0x18 => s.ez.slots.get (0x10 + selOf s .ez i 0x18) 0
    | 0x28 => w32 (ezInLevel s) | 0x30 => s.ez.slots.get 2 0 | 0x34 => s.ez.slots.get 1 0 | _ => 0
  | .wn => match off with
    | 0x4 => wnSlot s (0x40 + i) 0 | 0x8 => wnSlot s (0x48 + i) 0 | 0xC => wnSlot s (0x50 + i) 0xFF000000 | _ => 0
  | .cn => match off with
    | 0xC => w32 (cnStatus s i) | 0x10 => w32 (cnErr s i) | 0x18 => w32 (wakeId (s.can i)) | 0x24 => w32 (wakeInfo (s.can i)) | _ => 0
  | .en => match off with
    | 0x8 => w32 (unsigned 32 (s.enc i).count) | 0xC => w32 (unsigned 32 (s.enc i).index) | 0x10 => w32 (unsigned 32 (s.enc i).speed)
    | 0x14 => w32 (enCaptureRead s i) | _ => 0
  | .sn => match off with
    | 0x4 => w32 (snStatus s) | 0xC => wInt (snLatest s).1 | _ => 0
  | .mm =>
    let m := fld (s.wr 0x4F004 0) 0 8
    match off with
    | 0x0 => w32 (mmStatus s) | 0x8 => w32 (mmInfo s m) | 0xC => w32 (mmLatch s.mm.unexp m) | 0x10 => w32 (mmLatch s.mm.ue m)
    | 0x28 => mmFuse s m | _ => 0
  | .sb => match off with
    | 0x0 => w32 (sbStatus s) | 0x8 => s.sb.lastStop | 0xC => w32 s.sb.stopTime
    | 0x10 => w32 (chanBits s 0 fun n => (s.dom (ciDom n)).st == .fenced)
    | 0x14 => w32 (chanBits s 32 fun n => (s.dom (ciDom n)).st == .fenced)
    | 0x18 => w32 (chanBits s 0 fun n => (s.dom (miDom n)).st == .fenced)
    | 0x1C => w32 (chanBits s 32 fun n => (s.dom (miDom n)).st == .fenced)
    | 0x20 => w32 ((List.range 20).foldl (fun a d => a + 2 ^ d * b2n (isSwitched s d && (s.dom d).st == .fenced)) 0)
    | 0x28 => w32 (chanBits s 0 fun n => s.present n && latched (s.ch n))
    | 0x2C => w32 (chanBits s 32 fun n => s.present n && latched (s.ch n))
    | 0x34 =>
      let c := s.ch (fld (s.wr 0x50030 0) 0 6)
      w32 (at_ 16 8 c.cause + at_ 0 9 (faultMask c))
    | _ => 0
  | .sl => match off with
    | 0x0 => w32 (slStatus s) | 0xC => w32 (at_ 12 4 s.sl.first + at_ 0 9 s.sl.wake) | 0x1C => w32 (slXtal s)
    | 0x20 => w32 (slParkInfo s) | _ => 0
  | .pr => match off with | 0x0 => prStatus s | 0xC => s.pres.lastRefusal | _ => 0
  | .tk => match off with
    | 0x0 => w32 (tkStatus s) | 0x14 => w32 (unsigned 32 s.tk.syncOffset) | 0x18 => w32 (unsigned 32 s.tk.tsyncDiff) | _ => 0
  | .dv => match off with
    | 0x0 => w32 (dvState (s.ch i)) | 0x4 => w32 (dvRun (s.ch i)) | 0x30 => w32 (phStatus s i) | _ => 0
  | .ms => match off with
    | 0x4 => w32 (msStatus s i) | 0x20 => w32 (unsigned 16 (satInt 16 (s.mi i).errPpm)) | _ => 0

/-- RO registers whose fields the hub keeps while the domain is not ON (R138), apart from DV_STATE.WAITING, LIMITED and CHEN; and
JL_PORT_STATUS, whose STATE then reads OFF (R588).  [DEDUCED, unsafe: log 15] -/
def keptOff (b : Blk) (off : Nat) : Bool := b == .dv && (off == 0 || off == 4 || off == 8 || off == 0x30) || b == .jl && off == 0

/-! ### Reads -/

/-- SEQ and event bits of an SQ register (R82). -/
def sqWord (s : State) (key : Nat) : Word :=
  w32 (at_ 24 8 (s.regs.sqN.get key 0) + (List.range 24).foldl (fun a k => a + 2 ^ k * b2n (s.regs.sqBit.has (key * 32 + k))) 0)

/-- RC bits of an RO register that it returns now; members of a spool chain other than its head read 0 (SP_STATUS). -/
def rcBits (s : State) (b : Blk) (i off : Nat) : Word :=
  if b = .sp ∧ headOf s i ≠ i then 0
  else if b = .wn ∧ !ezReady s then 0
  else s.regs.rc.get (keyOf s b i off) 0

/-- What a read of the register returns, by a requester that its privilege lets read; nothing changes (R78, R89, R100, R137).
[DEDUCED, unsafe: log 15] -/
def regValue (s : State) (b : Blk) (i : Nat) (r : RegDef) : Word :=
  let key := keyOf s b i r.off
  match r.acc with
  | .rw =>
    let w := s.wr key (resetOf s b i r)
    match b, r.off with
    | .cn, 0x0 => setFld w 9 1 (b2n (s.can i).sleep)
    | .en, 0x0 => w32 (enConfigRead s i)
    | _, _ => w
  | .sq => sqWord s key
  | .cnt =>
    if b = .sp then w32 (s.regs.cnt.get key 0 + 65536 * s.regs.cnt.get (selKey key 1) 0) else w32 (s.regs.cnt.get key 0)
  | .w1p => 0
  | .rc => s.regs.rc.get key 0
  | .ro =>
    let on := match statusDom b i r.off with | some d => s.isOn d || keptOff b r.off | none => true
    if !on then r.reset ||| rcBits s b i r.off
    else if b = .dv ∧ r.off = 0x30 then w32 ((phStatus s i) + at_ 16 8 (s.regs.cnt.get key 0))
    else if b = .dv ∧ r.off = 0x0 ∧ !s.isOn (ciDom i) then status s b i r.off &&& 0xFFFFFFF7
    else
      match pairValue s b i r.off with
      | some v => w32 v
      | none => status s b i r.off ||| rcBits s b i r.off

/-- What a privileged read changes (R78, R84). -/
def readClears (b : Blk) (i : Nat) (r : RegDef) (s : State) : State :=
  let key := keyOf s b i r.off
  let g := s.regs
  match r.acc with
  | .sq => { s with regs := { g with snap := g.snap.put key (g.sqN.get key 0) } }
  | .cnt => { s with regs := { g with cnt := if b = .sp then (g.cnt.del key).del (selKey key 1) else g.cnt.del key } }
  | .rc => { s with regs := { g with rc := g.rc.del key } }
  | .ro =>
    if b = .dv ∧ r.off = 0x30 then { s with regs := { g with cnt := g.cnt.del key } }
    else { s with regs := { g with rc := g.rc.put key (g.rc.get key 0 &&& ~~~(rcBits s b i r.off)) } }
  | .rw | .w1p => s

/-- The high register's key of an RO pair, and the pair's other shadows: those of the four TK_PTM_ words go together (R87, R193).
[DEDUCED, unsafe: log 13] -/
def shadowsOf (s : State) (b : Blk) (i off : Nat) : List (Nat × Word) :=
  match b, off with
  | .tk, 0x20 => [(0x53024, w32 (s.tk.ptmJt / 2 ^ 32)), (0x53028, w32 s.tk.ptmHost), (0x5302C, w32 (s.tk.ptmHost / 2 ^ 32))]
  | .tk, 0x28 => []
  | .sn, 0xC => [(0x4E010, w32 (snLatest s).2)]
  | _, _ => match pairValue s b i off with | some v => [(b.addr i (off + 4), w32 (v / 2 ^ 32))] | none => []

/-- The register returns a requester's shadow: the high words of RO pairs, three TK_PTM_ words and SN_TIME (R87, R193, R772).
[DEDUCED, unsafe: log 13] -/
def isShadow (b : Blk) (off : Nat) : Bool :=
  match b, off with
  | .hl, 0x20 | .dv, 0x0C | .cn, 0x20 | .sl, 0x14 | .pr, 0x14 | .tk, 0x10 | .tk, 0x24 | .tk, 0x28 | .tk, 0x2C | .sn, 0x10 => true
  | _, _ => false

/-- A read by requester `q` of a register that its privilege lets it read: the value, and the state after (R79, R87).
[DEDUCED, unsafe: log 13] -/
def regRead (q : Nat) (b : Blk) (i : Nat) (r : RegDef) (s : State) : Word × State :=
  let a := b.addr i r.off
  if isShadow b r.off then (s.regs.shadow.get (reqKey a q) 0, s)
  else
    let v := regValue s b i r
    let s := (shadowsOf s b i r.off).foldl (fun s (e : Nat × Word) =>
      { s with regs := { s.regs with shadow := s.regs.shadow.put (reqKey e.1 q) e.2 } }) s
    (v, if q = 1 then s else readClears b i r s)

/-- Requester 1, function 1, is unprivileged (R71).  [DEDUCED, unsafe: log 12] -/
def privileged (q : Nat) : Bool := q != 1

/-- A BAR0 register that an access reaches: held in standby by a bad sheet, every block but CS_ behaves as undefined (R60, R65). -/
def reachReg (s : State) (off : Nat) : Option (Blk × Nat × RegDef) :=
  match findReg s.variant off with
  | some (b, i, r) => if s.sheet.hold && b != .cs then none else some (b, i, r)
  | none => none

/-- The sheet region (R35). -/
def inSheet (off : Nat) : Bool := decide (off < 0x40000)

/-- A 32-bit read at BAR0 offset `off` by requester `q`: 0 function 0, 1 function 1, 2 the loupe (R35–R37, R74, R77, R103). -/
def busRead (q off : Nat) (s : State) : Word × State :=
  if inSheet off then (w32 (sheetWord s off), s)
  else
    match reachReg s off with
    | none => (0, bump cntUndef s)
    | some (b, i, r) => if r.priv != .any && !privileged q then (0, s) else regRead q b i r s

/-! ### Writes -/

/-- Fields of the register that the variant has (R683, R709, R922, R923). -/
def fieldsOf (v : Variant) (b : Blk) (i : Nat) (r : RegDef) : List FieldDef :=
  match b, r.off, v with
  | .hub, 0x44, .xf6400 => [⟨17, 1, .rw, .any⟩, ⟨9, 6, .rw, .any⟩]
  | .sp, 0xC, .xf3208 => []
  | .fx, 0x8, .xf3208 => []
  | .wn, 0x0, _ => if i % 2 = 1 then r.fields.filter fun f => f.lsb != 31 else r.fields
  | _, _, _ => r.fields

/-- The field lists the value (R101). -/
def Legal.has (l : Legal) (v : Nat) : Bool :=
  match l with
  | .any => true
  | .range lo hi => decide (lo ≤ v) && decide (v ≤ hi)
  | .oneOf vs => vs.contains v

/-- The value may be written to the field: FX_DCIR.DELAY_US comes in multiples of 250 (R634). -/
def fieldTakes (b : Blk) (off : Nat) (f : FieldDef) (v : Nat) : Bool :=
  f.legal.has v && !(b == .fx && off == 0x10 && f.lsb == 16 && v % 250 != 0)

/-- The stored value after a write of `v`: fields that do not list their part keep theirs, and bits of no field stay (R101, R102); and
whether some field did not.  [DEDUCED, unsafe: log 27] -/
def merge (b : Blk) (off : Nat) (fs : List FieldDef) (old v : Word) : Word × Bool :=
  fs.foldl (fun (w, bad) f =>
    if f.acc != .rw then (w, bad)
    else
      let x := fld v f.lsb f.width
      if fieldTakes b off f x then (setFld w f.lsb f.width x, bad) else (w, true)) (old, false)

/-- The pulses a write gives: bits of its W1P fields. -/
def pulsesOf (fs : List FieldDef) (v : Word) : Word :=
  fs.foldl (fun w f => if f.acc == .w1p then setFld w f.lsb f.width (fld v f.lsb f.width) else w) 0

/-- A limit item may take the value (R263, R504). -/
def limitTakes (s : State) (n item : Nat) (v : Int) : Bool :=
  let at_ := fun k => (s.wr (selKey (dvKey n 0x14) k) (wInt (limitReset k))).toInt
  let volt := decide (-500000 ≤ v) && decide (v ≤ 5500000)
  let amp := decide (0 ≤ v) && decide (v ≤ fullScale (s.ch n))
  let deg := decide (-32768 ≤ v) && decide (v ≤ 32767)
  match item with
  | 0 => volt && decide (at_ 1 < v)
  | 1 => volt && decide (v < at_ 0)
  | 2 => amp
  | 3 => amp
  | 4 => deg && decide (at_ 5 < v)
  | 5 => deg && decide (v < at_ 4)
  | _ => false

/-- The whole register may take the value (R342, R375, R461, R504, R714).  [DEDUCED, unsafe: log 27] -/
def wholeTakes (s : State) (b : Blk) (i off : Nat) (w : Word) : Bool :=
  match b, off with
  | .sp, 0x4 => decide (fld w 0 12 < fld w 16 12)
  | .ar, 0x8 => decide (fld w 16 11 ≤ 2046) && decide (fld w 0 11 ≤ fld w 16 11)
  | .cn, 0x4 => decide (1000 ≤ bitTime w)
  | .cn, 0x8 => decide (200 ≤ bitTime w)
  | .dv, 0x14 => limitTakes s i (selOf s .dv i 0x14) w.toInt
  | .ms, 0x18 =>
    let lim : Int := match selOf s .ms i 0x18 with | 0 => 10000 | 1 => 1000000 | _ => 500
    decide (-lim ≤ w.toInt) && decide (w.toInt ≤ lim)
  | _, _ => true

/-- Store a value under its take-effect code (R90): STEP acts at once where the channel executes no step: dark, halted, fading, or running
and waiting for its first step.  [DESIGN CHOICE, unsafe: log 201] -/
def store (b : Blk) (i : Nat) (te : Te) (key : Nat) (reset new : Word) (s : State) : State :=
  let now := fun (s : State) =>
    putNow key new { s with regs := { s.regs with act := s.regs.act.del key, pend := s.regs.pend.del key } }
  match te with
  | .imm => now s
  | .step => if b = .dv ∧ (s.ch i).st = .running ∧ (s.ch i).step.isSome then putLater key reset new s else now s
  | _ => putLater key reset new s

/-- POLL_EN and the ENABLE bits have been written (R246–R248).  [DEDUCED, unsafe: log 23] -/
def ringControl (old new : Word) (s : State) : State :=
  let s := if bitOf new 4 && !bitOf old 4 then pollGoes1 s else s
  (List.range 4).foldl (fun s r =>
    if bitOf new r && !bitOf old r then enableGoes1 r s
    else if !bitOf new r && bitOf old r then enableGoes0 r s
    else s) s

/-- HUB_DOM_ENABLE has been written: domains whose bit changed get a new target (R143, R166–R168).  [DEDUCED, unsafe: log 22] -/
def domTargets (old new : Word) (s : State) : State :=
  [9, 10, 11, 12, 13, 14, 17, 18].foldl (fun s d => if bitOf new d != bitOf old d then setTarget d (bitOf new d) s else s) s

/-- A write of 1 to SL_CONTROL.PARK (R829, R830 steps 1 and 2).  [DEDUCED, unsafe: log 184] -/
def parkAsk (s : State) : State :=
  let queued := s.channelList.any fun n => (s.ch n).queued
  if s.allDark && !queued && s.sl.parking.isNone then
    let member := s.jl.st == .member && !s.jl.leaving
    let s := ringsDown { s with sl := { s.sl with parking := some .beat, parkAt := s.tk.clk } }
    if member then sendLeave 1 s else s
  else rcSet 0x51000 0x8 s

/-- A write of 1 to SL_CONTROL.RESET (R827, R843).  [DEDUCED, unsafe: log 28] -/
def hostReset (s : State) : State :=
  deviceReset { s with sl := { s.sl with wake := 0x100, first := 8, parkValid := false } }

/-- What a write does at once beside storing its value: `old` and `new` are the register's values, `p` its pulses.
[DEDUCED, unsafe: log 17; DEDUCED, unsafe: log 18; DEDUCED, unsafe: log 19; DEDUCED, unsafe: log 137] -/
def writeActs (b : Blk) (i off : Nat) (old new p : Word) (s : State) : State :=
  match b, off with
  | .cs, 0xC => if bitOf p 0 && !s.sheet.checking then { s with sheet := { s.sheet with checking := true } } else s
  | .hub, 0x44 => domTargets old new s
  | .rg, 0x0 => ringControl old new s
  | .rg, 0x10 => lossIfDue s
  | .rg, 0x14 | .rg, 0x18 | .rg, 0x1C | .rg, 0x20 => notePolicy off old s
  | .sp, 0x4 => settleAll s
  | .ar, 0x4 => fillOpen s
  | .jl, 0x4 =>
    let s := if bitOf old 0 != bitOf new 0 then portOff i s else s
    if bitOf p 1 && !toneSending s i then sendTone i s else s
  | .jl, 0x44 => if bitOf p 31 then { s with jl := { s.jl with wakeAsked := true } } else s
  | .fx, 0x18 => if bitOf p 8 && s.isOn 10 then regrade (fld new 0 6) s else s
  | .cn, 0x0 => if bitOf new 9 then canSleep i s else canUnsleep i s
  | .en, 0x0 => if bitOf new 3 then s else s.setEnc i { s.enc i with started := none, stopAt := none }
  | .sn, 0x0 =>
    if bitOf new 0 && !bitOf old 0 then s.setSn { s.en.sn with dueAt := s.tk.now }
    else if bitOf new 0 then s
    else s.setSn { s.en.sn with waiting := [] }
  | .mm, 0x14 => latchClear p s
  | .mm, 0x24 => if bitOf new 31 then { s with mm := { s.mm with passAt := s.tk.now } } else scrubDown s
  | .sb, 0x24 => hubReadmit p s
  | .sl, 0x4 => if bitOf p 31 then hostReset s else if bitOf p 16 then parkAsk s else s
  | .sl, 0x18 => { s with sl := { s.sl with alarmed := false } }
  | .pr, 0x4 => if bitOf p 8 then closeWindow s else s
  | .dv, 0x20 => if fld new 0 13 ≠ fld old 0 13 ∧ !s.regs.pend.has (dvKey i 0x20) then s.setCh i (restartCounts (s.ch i)) else s
  | .ms, 0x1C => if s.isOn (miDom i) then calState i s else s
  | _, _ => s

/-- The RW pairs of R88: key of the low register by that of the high one. -/
def rwLow (b : Blk) (off : Nat) : Option Nat :=
  match b, off with
  | .rg, 0xC => some 0x8 | .rg, 0x2C => some 0x28 | .rg, 0x34 => some 0x30 | _, _ => none
def isRwLow (b : Blk) (off : Nat) : Bool :=
  match b, off with
  | .rg, 0x8 | .rg, 0x28 | .rg, 0x30 => true
  | _, _ => false

/-- The HI word of an RW pair is written by `q`: a held LO word is committed with it (R88).  [DESIGN CHOICE, unsafe: log 14] -/
def commitLow (q : Nat) (b : Blk) (i off : Nat) (s : State) : State :=
  match rwLow b off with
  | none => s
  | some lo =>
    let k := keyOf s b i lo
    match s.regs.held.find (reqKey k q) with
    | none => s
    | some w => putNow k w { s with regs := { s.regs with held := s.regs.held.del (reqKey k q) } }

/-- An accepted write to an RW or W1P register (R76, R88, R90, R101, R102): the held copy in domain 1 takes it, and it crosses to the block's
domain (R135, R147).  [DESIGN CHOICE, unsafe: log 14; DEDUCED, unsafe: log 27] -/
def regWrite (q : Nat) (b : Blk) (i : Nat) (r : RegDef) (v : Word) (s : State) : State :=
  let key := keyOf s b i r.off
  let reset := resetOf s b i r
  let fs := fieldsOf s.variant b i r
  let old := s.wr key reset
  let (new, bad) := merge b r.off fs old v
  if isRwLow b r.off then { s with regs := { s.regs with held := s.regs.held.put (reqKey key q) new } }
  else if !wholeTakes s b i r.off new then bump cntBadValues s
  else if b = .hub ∧ r.off = 0x44 ∧ !s.allDark then rcSet 0x4104C 0x80000000 s
  else
    let s := if bad then bump cntBadValues s else s
    let s := commitLow q b i r.off s
    let s := if r.acc = .rw then store b i r.te key reset new s else s
    let s := match statusDom b i r.off with | some d => crossOpen 1 d s | none => s
    writeActs b i r.off old new (pulsesOf fs v) s

/-- A write to an SQ register (R85, R86). -/
def sqWrite (q key : Nat) (v : Word) (s : State) : State :=
  match s.regs.snap.find key with
  | none => bump cntSqRejects s
  | some n =>
    if privileged q && fld v 24 8 == n % 256 then
      { s with regs := { s.regs with
          sqBit := s.regs.sqBit.filter fun e => !(e.1 / 32 == key && bitOf v (e.1 % 32) && decide (e.1 % 32 < 24) && decide (e.2 ≤ n)),
          snap := s.regs.snap.del key } }
    else bump cntSqRejects s

/-- REQUESTER of PR_LAST_REFUSAL. -/
def requesterCode (s : State) (q : Nat) : Nat := if q = 2 then 2 else b2n s.hl.cxl

/-- A write to a register by requester `q`: privilege first, then the guard (R74–R76, R122). -/
def guardedWrite (q off : Nat) (b : Blk) (i : Nat) (r : RegDef) (v : Word) (s : State) : State :=
  let missing := match r.priv with | .pp => missingPp s | .ps => missingPs s | _ => 0
  if r.priv != .any && !privileged q then bump cntUnpriv s
  else if missing ≠ 0 then refusal 0 missing (requesterCode s q) 0 off s
  else
    match r.acc with
    | .sq => sqWrite q (keyOf s b i r.off) v s
    | .rw | .w1p => regWrite q b i r v s
    | .ro | .rc | .cnt => s

/-- A 32-bit write at BAR0 offset `off` by requester `q` (R37, R74, R77, R103). -/
def busWrite (q off : Nat) (v : Word) (s : State) : State :=
  if inSheet off then bump 0x40008 s
  else
    match reachReg s off with
    | none => bump cntUndef s
    | some (b, i, r) => guardedWrite q off b i r v s

/-! ### The commands -/

/-- A host's write through function `f`.  [DEDUCED, unsafe: log 12] -/
def hostWrite (f off : Nat) (v : Word) (s : State) : State := barUse f false (busWrite f off v) s

/-- A host's read through function `f`, which is answered. -/
def hostRead (f off : Nat) (s : State) : State :=
  barUse f true (fun s => let (v, s') := busRead f off s; send (.reply off v) s') s

/-- The register at an offset satisfies `p`. -/
def regIs (s : State) (off : Nat) (p : Blk → RegDef → Bool) : Bool :=
  match findReg s.variant off with | some (b, _, r) => p b r | none => false

/-- RC bits stand in the register: of its own code, or in a field of an RO register (R78). -/
def hasRc (b : Blk) (r : RegDef) : Bool :=
  match b, r.off with
  | .hub, 0x4C | .sp, 0x10 | .sl, 0x0 | .jl, 0x0 | .ez, 0x18 | .wn, 0xC => true
  | _, _ => r.acc == .rc

/-- A CNT register, or DV_PH_STATUS with its CNT field (R78). -/
def hasCnt (b : Blk) (r : RegDef) : Bool := r.acc == .cnt || (b == .dv && r.off == 0x30)

/-- A word of a split value: low word of a pair, the register whose read latches a shadow, or the shadow (R87, R193, R772).
[DESIGN CHOICE, unsafe: log 200] -/
def splitWord (s : State) (b : Blk) (r : RegDef) : Bool :=
  isRwLow b r.off || (rwLow b r.off).isSome || isShadow b r.off || !(shadowsOf s b 0 r.off).isEmpty

/-- A read that no other row carries: of the sheet region, or of a register that is no SQ or CNT register and no word of a split value.
[DESIGN CHOICE, unsafe: log 200] -/
def plainRead (s : State) (off : Nat) : Bool :=
  inSheet off || regIs s off fun b r => hasRc b r || !(r.acc == .sq || hasCnt b r || splitWord s b r)

/-- REGISTER_WRITE (R74–R77, R90–R94, R101, R102). -/
def execRegisterWrite (f off : Nat) (v : Word) (s : State) : Out := .next (mainOn s (hostWrite f off v s))

/-- SHEET_REGION_WRITE (R37). -/
def execSheetRegionWrite (f off : Nat) (v : Word) (s : State) : Out := .next (mainOn s (if inSheet off then hostWrite f off v s else s))

/-- SQ_READ (R82, R84). -/
def execSqRead (f off : Nat) (s : State) : Out := .next (mainOn s (if regIs s off fun _ r => r.acc == .sq then hostRead f off s else s))

/-- SQ_ACK_WRITE (R85, R86). -/
def execSqAckWrite (f off : Nat) (v : Word) (s : State) : Out :=
  .next (mainOn s (if regIs s off fun _ r => r.acc == .sq then hostWrite f off v s else s))

/-- RC_READ (R36, R78, R79).  [DESIGN CHOICE, unsafe: log 200] -/
def execRcRead (f off : Nat) (s : State) : Out := .next (mainOn s (if plainRead s off then hostRead f off s else s))

/-- CNT_READ (R78–R80). -/
def execCntRead (f off : Nat) (s : State) : Out := .next (mainOn s (if regIs s off hasCnt then hostRead f off s else s))

/-- SPLIT_LO_READ (R87, R89, R193, R772): a read of either word of a split value, the low one or the shadowed one. -/
def execSplitLoRead (f off : Nat) (s : State) : Out :=
  .next (mainOn s (if regIs s off (splitWord s) then hostRead f off s else s))

/-- SPLIT_LO_WRITE (R88). -/
def execSplitLoWrite (f off : Nat) (v : Word) (s : State) : Out :=
  .next (mainOn s (if regIs s off fun b r => isRwLow b r.off then hostWrite f off v s else s))

/-- SPLIT_HI_WRITE (R88). -/
def execSplitHiWrite (f off : Nat) (v : Word) (s : State) : Out :=
  .next (mainOn s (if regIs s off fun b r => (rwLow b r.off).isSome then hostWrite f off v s else s))

/-- UNDEFINED_OFFSET_ACCESS (R65, R103). -/
def execUndefinedOffsetAccess (f off : Nat) (write : Bool) (v : Word) (s : State) : Out :=
  .next (mainOn s (if inSheet off || (reachReg s off).isSome then s else if write then hostWrite f off v s else hostRead f off s))

/-- UNSUPPORTED_REQUEST (R104): a BAR0 access that breaks R72.  [PRESUMED, unsafe: log 24] -/
def unsupported (f : Nat) (isRead : Bool) (s : State) : State :=
  barUse f isRead (fun s => bump cntBadSize (aerReport f aerUr isRead (send (.ur isRead) s))) s

def execUnsupportedRequest (f : Nat) (isRead : Bool) (s : State) : Out := .next (mainOn s (unsupported f isRead s))

/-- LOUPE_REGISTER_ACCESS (R36, R37, R944): the sheet is read with DBGEN blown or not, inside a window or not.
[DEDUCED, unsafe: log 12; DEDUCED, unsafe: log 26] -/
def loupeAccess (off : Nat) (write : Bool) (v : Word) (s : State) : State :=
  if s.power ≠ .on ∨ !s.isOn 15 then s
  else if !inSheet off ∧ !s.dbgen then (if write then s else send (.reply off 0) s)
  else if !inSheet off ∧ s.pres.window.isNone then
    (if write then refusal 0 (missingPp s) 2 0 off s else send (.reply off 0) s)
  else if write then busWrite 2 off v s
  else let (w, s') := busRead 2 off s; send (.reply off w) s'

def execLoupeRegisterAccess (off : Nat) (write : Bool) (v : Word) (s : State) : Out := .next (mainOn s (loupeAccess off write v s))

/-- RESET (R827): a write to SL_CONTROL with RESET 1. -/
def execReset (f : Nat) (s : State) : Out := .next (mainOn s (hostWrite f 0x51004 (s.wr 0x51004 0x64 ||| 0x80000000) s))

/-- PARK (R829): a write to SL_CONTROL with PARK 1. -/
def execPark (f : Nat) (s : State) : Out := .next (mainOn s (hostWrite f 0x51004 (s.wr 0x51004 0x64 ||| 0x00010000) s))

/-- CS_RECHECK (R63). -/
def execCsRecheck (f : Nat) (v : Word) (s : State) : Out := .next (mainOn s (hostWrite f 0x4000C v s))

/-- CLOSE (R112): a write to PR_CONTROL with CLOSE 1. -/
def execClose (f : Nat) (s : State) : Out := .next (mainOn s (hostWrite f 0x52004 (s.wr 0x52004 0 ||| 0x100) s))

/-- HUB_DOM_ENABLE (R143). -/
def execHubDomEnable (f : Nat) (v : Word) (s : State) : Out := .next (mainOn s (hostWrite f 0x41044 v s))

/-- POLL_ENABLE (R246): a write to RG_CONTROL with POLL_EN 1. -/
def execPollEnable (f : Nat) (s : State) : Out := .next (mainOn s (hostWrite f 0x43000 (rgControl s ||| 0x10) s))

/-- RING_ENABLE (R248): a write to RG_CONTROL with ENABLE[r] 1. -/
def execRingEnable (f r : Nat) (s : State) : Out := .next (mainOn s (hostWrite f 0x43000 (setFld (rgControl s) (r % 4) 1 1) s))

/-- RING_DISABLE (R247): a write to RG_CONTROL with ENABLE[r] 0. -/
def execRingDisable (f r : Nat) (s : State) : Out := .next (mainOn s (hostWrite f 0x43000 (setFld (rgControl s) (r % 4) 1 0) s))

/-- HOST_LOSS_TIMEOUT_WRITE (R244). -/
def execHostLossTimeoutWrite (f : Nat) (v : Word) (s : State) : Out := .next (mainOn s (hostWrite f 0x43010 v s))

/-- TONE (R562): a write to JL_PORT_CONTROL of port `p` with TONE 1. -/
def execTone (f p : Nat) (s : State) : Out := .next (mainOn s (hostWrite f (0x47004 + 0x400 * (p % 2)) (jlPortCtl s (p % 2) ||| 0x2) s))

/-- WAKE_RING (R563): a write to JL_CONTROL with WAKE_RING 1. -/
def execWakeRing (f : Nat) (s : State) : Out := .next (mainOn s (hostWrite f 0x47044 (s.wr 0x47044 0x001F0300 ||| 0x80000000) s))

/-- REGRADE (R624): a write to FX_REGRADE with GO 1. -/
def execRegrade (f n : Nat) (s : State) : Out := .next (mainOn s (hostWrite f 0x49018 (w32 (0x100 + n % 64)) s))

/-- SLEEP and SLEEP_CLEAR (R725, R731, R735): a write to CN_CONFIG of bus `b` with SLEEP 1 or 0. -/
def execSleep (f b : Nat) (s : State) : Out := .next (mainOn s (hostWrite f (cnKey (b % 2) 0) (cnConfig s (b % 2) ||| 0x200) s))
def execSleepClear (f b : Nat) (s : State) : Out := .next (mainOn s (hostWrite f (cnKey (b % 2) 0) (cnConfig s (b % 2) &&& 0xFFFFFDFF) s))

/-- MM_LATCH_CLEAR (R780). -/
def execMmLatchClear (f : Nat) (v : Word) (s : State) : Out := .next (mainOn s (hostWrite f 0x4F014 v s))

/-- SB_HUB_READMIT (R813). -/
def execSbHubReadmit (f : Nat) (v : Word) (s : State) : Out := .next (mainOn s (hostWrite f 0x50024 v s))

end Sys2Proof.Machine
end

