-- ==== Sys2Proof/Machine/Dispatch.lean ====
section
/-!
DEFINITION. Machine/Dispatch.lean: what each command does, one call of its meaning per command.
-/
namespace Sys2Proof.Machine

def exec (i : Instr) (s : State) : Host.Outcome State Fault Refusal :=
  match i with
  | .vsafeApply => Sys2Proof.Machine.execVsafeApply s
  | .vsafeLoss => Sys2Proof.Machine.execVsafeLoss s
  | .vcoreEnter => Sys2Proof.Machine.execVcoreEnter s
  | .powerLoss rails => Sys2Proof.Machine.execPowerLoss rails s
  | .reset f => Sys2Proof.Machine.execReset f s
  | .resetCheckDone damage => Sys2Proof.Machine.execResetCheckDone damage s
  | .csRecheck f v => Sys2Proof.Machine.execCsRecheck f v s
  | .recheckDone damage => Sys2Proof.Machine.execRecheckDone damage s
  | .sheetRead v => Sys2Proof.Machine.execSheetRead v s
  | .sheetRegionWrite f off v => Sys2Proof.Machine.execSheetRegionWrite f off v s
  | .registerWrite f off v => Sys2Proof.Machine.execRegisterWrite f off v s
  | .sqRead f off => Sys2Proof.Machine.execSqRead f off s
  | .sqAckWrite f off v => Sys2Proof.Machine.execSqAckWrite f off v s
  | .rcRead f off => Sys2Proof.Machine.execRcRead f off s
  | .cntRead f off => Sys2Proof.Machine.execCntRead f off s
  | .splitLoRead f off => Sys2Proof.Machine.execSplitLoRead f off s
  | .splitLoWrite f off v => Sys2Proof.Machine.execSplitLoWrite f off v s
  | .splitHiWrite f off v => Sys2Proof.Machine.execSplitHiWrite f off v s
  | .undefinedOffsetAccess f off write v => Sys2Proof.Machine.execUndefinedOffsetAccess f off write v s
  | .unsupportedRequest f isRead => Sys2Proof.Machine.execUnsupportedRequest f isRead s
  | .loupeRegisterAccess off write v => Sys2Proof.Machine.execLoupeRegisterAccess off write v s
  | .pressAccepted t => Sys2Proof.Machine.execPressAccepted t s
  | .windowClose => Sys2Proof.Machine.execWindowClose s
  | .close f => Sys2Proof.Machine.execClose f s
  | .calenChange t fitted => Sys2Proof.Machine.execCalenChange t fitted s
  | .sealSample t isOpen => Sys2Proof.Machine.execSealSample t isOpen s
  | .buttonStuck t => Sys2Proof.Machine.execButtonStuck t s
  | .hubDomEnable f v => Sys2Proof.Machine.execHubDomEnable f v s
  | .domainUpPhaseEnd d => Sys2Proof.Machine.execDomainUpPhaseEnd d s
  | .domFail d => Sys2Proof.Machine.execDomFail d s
  | .quiesceEnd d words => Sys2Proof.Machine.execQuiesceEnd d words s
  | .domainDownComplete d => Sys2Proof.Machine.execDomainDownComplete d s
  | .beacon => Sys2Proof.Machine.execBeacon s
  | .islandTimeCorrection d rate => Sys2Proof.Machine.execIslandTimeCorrection d rate s
  | .epochBoundary => Sys2Proof.Machine.execEpochBoundary s
  | .xingTimeout sender receiver rose words => Sys2Proof.Machine.execXingTimeout sender receiver rose words s
  | .fllUnlock d words => Sys2Proof.Machine.execFllUnlock d words s
  | .refclkLoss => Sys2Proof.Machine.execRefclkLoss s
  | .refclkRestored => Sys2Proof.Machine.execRefclkRestored s
  | .tsyncEdge => Sys2Proof.Machine.execTsyncEdge s
  | .tsyncMissing => Sys2Proof.Machine.execTsyncMissing s
  | .timeRestored t => Sys2Proof.Machine.execTimeRestored t s
  | .perstAssert writes copied => Sys2Proof.Machine.execPerstAssert writes copied s
  | .perstDeassert => Sys2Proof.Machine.execPerstDeassert s
  | .linkUp speed width => Sys2Proof.Machine.execLinkUp speed width s
  | .linkDown writes copied => Sys2Proof.Machine.execLinkDown writes copied s
  | .functionLevelReset f writes copied => Sys2Proof.Machine.execFunctionLevelReset f writes copied s
  | .flrComplete f => Sys2Proof.Machine.execFlrComplete f s
  | .d3hotEntry f => Sys2Proof.Machine.execD3hotEntry f s
  | .msixUnmask f v => Sys2Proof.Machine.execMsixUnmask f v s
  | .vectorIntervalEnd v => Sys2Proof.Machine.execVectorIntervalEnd v s
  | .ptmDialogStart => Sys2Proof.Machine.execPtmDialogStart s
  | .ptmCapture t41 t2 prop => Sys2Proof.Machine.execPtmCapture t41 t2 prop s
  | .ptmMiss => Sys2Proof.Machine.execPtmMiss s
  | .dmaCompletion tag kind data => Sys2Proof.Machine.execDmaCompletion tag kind data s
  | .completionTimeout tag => Sys2Proof.Machine.execCompletionTimeout tag s
  | .poisonedTlpReceived => Sys2Proof.Machine.execPoisonedTlpReceived s
  | .ecrcError f tag => Sys2Proof.Machine.execEcrcError f tag s
  | .unexpectedCompletion => Sys2Proof.Machine.execUnexpectedCompletion s
  | .malformedTlp kind => Sys2Proof.Machine.execMalformedTlp kind s
  | .fatalInternal writes copied => Sys2Proof.Machine.execFatalInternal writes copied s
  | .cxlLinkCrcError => Sys2Proof.Machine.execCxlLinkCrcError s
  | .speedChange v => Sys2Proof.Machine.execSpeedChange v s
  | .widthChange v => Sys2Proof.Machine.execWidthChange v s
  | .l1Entry sub => Sys2Proof.Machine.execL1Entry sub s
  | .l1Exit => Sys2Proof.Machine.execL1Exit s
  | .bar2Access f off size write value => Sys2Proof.Machine.execBar2Access f off size write value s
  | .cxlMemRead l a words ue => Sys2Proof.Machine.execCxlMemRead l a words ue s
  | .cxlMemWrite l a bytes poison => Sys2Proof.Machine.execCxlMemWrite l a bytes poison s
  | .hdmCommit l base size ways lock => Sys2Proof.Machine.execHdmCommit l base size ways lock s
  | .identifyMemoryDevice l => Sys2Proof.Machine.execIdentifyMemoryDevice l s
  | .getHealthInfo l => Sys2Proof.Machine.execGetHealthInfo l s
  | .getEventRecords l => Sys2Proof.Machine.execGetEventRecords l s
  | .clearEventRecords l n => Sys2Proof.Machine.execClearEventRecords l n s
  | .getPoisonList l => Sys2Proof.Machine.execGetPoisonList l s
  | .injectPoison l addr => Sys2Proof.Machine.execInjectPoison l addr s
  | .clearPoison l addr data => Sys2Proof.Machine.execClearPoison l addr data s
  | .unsupportedMailboxCommand l => Sys2Proof.Machine.execUnsupportedMailboxCommand l s
  | .getLdInfo => Sys2Proof.Machine.execGetLdInfo s
  | .getLdAllocations => Sys2Proof.Machine.execGetLdAllocations s
  | .setLdAllocations sizes => Sys2Proof.Machine.execSetLdAllocations sizes s
  | .doorbellPoll => Sys2Proof.Machine.execDoorbellPoll s
  | .doorbellLineArrival => Sys2Proof.Machine.execDoorbellLineArrival s
  | .descriptorArrival => Sys2Proof.Machine.execDescriptorArrival s
  | .badDescriptor r => Sys2Proof.Machine.execBadDescriptor r s
  | .completionWrite r => Sys2Proof.Machine.execCompletionWrite r s
  | .completionWaitExpiry r => Sys2Proof.Machine.execCompletionWaitExpiry r s
  | .moderationTimeout v => Sys2Proof.Machine.execModerationTimeout v s
  | .hostLoss => Sys2Proof.Machine.execHostLoss s
  | .pollEnable f => Sys2Proof.Machine.execPollEnable f s
  | .ringEnable f r => Sys2Proof.Machine.execRingEnable f r s
  | .ringDisable f r => Sys2Proof.Machine.execRingDisable f r s
  | .hostLossTimeoutWrite f v => Sys2Proof.Machine.execHostLossTimeoutWrite f v s
  | .nop r => Sys2Proof.Machine.execNop r s
  | .loadRecipe r => Sys2Proof.Machine.execLoadRecipe r s
  | .swapBank r => Sys2Proof.Machine.execSwapBank r s
  | .start r => Sys2Proof.Machine.execStart r s
  | .hold r => Sys2Proof.Machine.execHold r s
  | .resume r => Sys2Proof.Machine.execResume r s
  | .abort r => Sys2Proof.Machine.execAbort r s
  | .presetExposure r => Sys2Proof.Machine.execPresetExposure r s
  | .snapshot r => Sys2Proof.Machine.execSnapshot r s
  | .gang r => Sys2Proof.Machine.execGang r s
  | .chPark r => Sys2Proof.Machine.execChPark r s
  | .chReadmit r => Sys2Proof.Machine.execChReadmit r s
  | .setLimits r => Sys2Proof.Machine.execSetLimits r s
  | .setCal r => Sys2Proof.Machine.execSetCal r s
  | .budgetSet r => Sys2Proof.Machine.execBudgetSet r s
  | .prioritySet r => Sys2Proof.Machine.execPrioritySet r s
  | .stripBind r => Sys2Proof.Machine.execStripBind r s
  | .fusionSet r => Sys2Proof.Machine.execFusionSet r s
  | .gradeSet r => Sys2Proof.Machine.execGradeSet r s
  | .leaseTake r => Sys2Proof.Machine.execLeaseTake r s
  | .leaseRenew r => Sys2Proof.Machine.execLeaseRenew r s
  | .leaseDrop r => Sys2Proof.Machine.execLeaseDrop r s
  | .archiveCopy r => Sys2Proof.Machine.execArchiveCopy r s
  | .valveLoad r => Sys2Proof.Machine.execValveLoad r s
  | .valveRun r => Sys2Proof.Machine.execValveRun r s
  | .switchSet r => Sys2Proof.Machine.execSwitchSet r s
  | .fieldSet r => Sys2Proof.Machine.execFieldSet r s
  | .canSend r => Sys2Proof.Machine.execCanSend r s
  | .canFilter r => Sys2Proof.Machine.execCanFilter r s
  | .encSet r => Sys2Proof.Machine.execEncSet r s
  | .sensorSchedule r => Sys2Proof.Machine.execSensorSchedule r s
  | .jlUser r => Sys2Proof.Machine.execJlUser r s
  | .stop r => Sys2Proof.Machine.execStop r s
  | .clearFault r => Sys2Proof.Machine.execClearFault r s
  | .selftest r => Sys2Proof.Machine.execSelftest r s
  | .tableFetchDone => Sys2Proof.Machine.execTableFetchDone s
  | .recordCommit prod spool words => Sys2Proof.Machine.execRecordCommit prod spool words s
  | .cascadeForward n ue => Sys2Proof.Machine.execCascadeForward n ue s
  | .tailReadComplete => Sys2Proof.Machine.execTailReadComplete s
  | .slotWrite n ue => Sys2Proof.Machine.execSlotWrite n ue s
  | .stallReread n => Sys2Proof.Machine.execStallReread n s
  | .stripStall n => Sys2Proof.Machine.execStripStall n s
  | .rewindTailRead n => Sys2Proof.Machine.execRewindTailRead n s
  | .extentZeroed => Sys2Proof.Machine.execExtentZeroed s
  | .heartbeatSample => Sys2Proof.Machine.execHeartbeatSample s
  | .archiveTrainingDone failed => Sys2Proof.Machine.execArchiveTrainingDone failed s
  | .pwmPeriodBoundary n codes => Sys2Proof.Machine.execPwmPeriodBoundary n codes s
  | .normalTrip n j ua at_ lasts => Sys2Proof.Machine.execNormalTrip n j ua at_ lasts s
  | .hardTrip n j ua => Sys2Proof.Machine.execHardTrip n j ua s
  | .driverFault n j low => Sys2Proof.Machine.execDriverFault n j low s
  | .phRetry n j => Sys2Proof.Machine.execPhRetry n j s
  | .dischargeEnd n => Sys2Proof.Machine.execDischargeEnd n s
  | .sampleWindowEnd n w w2 delay => Sys2Proof.Machine.execSampleWindowEnd n w w2 delay s
  | .fastValue n v sh sh2 => Sys2Proof.Machine.execFastValue n v sh sh2 s
  | .calDue n => Sys2Proof.Machine.execCalDue n s
  | .calForced n => Sys2Proof.Machine.execCalForced n s
  | .calRequestHoldoffEnd n => Sys2Proof.Machine.execCalRequestHoldoffEnd n s
  | .ladderGrant => Sys2Proof.Machine.execLadderGrant s
  | .calWindowEnd n x y => Sys2Proof.Machine.execCalWindowEnd n x y s
  | .modFault n chain => Sys2Proof.Machine.execModFault n chain s
  | .requestWord n => Sys2Proof.Machine.execRequestWord n s
  | .roundBoundary vbus => Sys2Proof.Machine.execRoundBoundary vbus s
  | .grantWord n => Sys2Proof.Machine.execGrantWord n s
  | .beatBoundary => Sys2Proof.Machine.execBeatBoundary s
  | .sync p h pl => Sys2Proof.Machine.execSync p h pl s
  | .report p h pl => Sys2Proof.Machine.execReport p h pl s
  | .grant p h pl => Sys2Proof.Machine.execGrant p h pl s
  | .stopCell p h pl => Sys2Proof.Machine.execStopCell p h pl s
  | .wakeCell p h pl => Sys2Proof.Machine.execWakeCell p h pl s
  | .join p h pl => Sys2Proof.Machine.execJoin p h pl s
  | .leave p h pl => Sys2Proof.Machine.execLeave p h pl s
  | .claim p h pl => Sys2Proof.Machine.execClaim p h pl s
  | .echo p h pl => Sys2Proof.Machine.execEcho p h pl s
  | .userMessage p h pl => Sys2Proof.Machine.execUserMessage p h pl s
  | .badCell p line afterIdle inSlot => Sys2Proof.Machine.execBadCell p line afterIdle inSlot s
  | .collectionClose => Sys2Proof.Machine.execCollectionClose s
  | .syncMissCheck => Sys2Proof.Machine.execSyncMissCheck s
  | .echoRequestDue p => Sys2Proof.Machine.execEchoRequestDue p s
  | .portPllLock p => Sys2Proof.Machine.execPortPllLock p s
  | .portUp p => Sys2Proof.Machine.execPortUp p s
  | .portDown p cause => Sys2Proof.Machine.execPortDown p cause s
  | .unwrap p arrived => Sys2Proof.Machine.execUnwrap p arrived s
  | .tone f p => Sys2Proof.Machine.execTone f p s
  | .wakeRing f => Sys2Proof.Machine.execWakeRing f s
  | .toneAccepted p t periods => Sys2Proof.Machine.execToneAccepted p t periods s
  | .printInputArrival => Sys2Proof.Machine.execPrintInputArrival s
  | .printEmit => Sys2Proof.Machine.execPrintEmit s
  | .regrade f n => Sys2Proof.Machine.execRegrade f n s
  | .frameBoundary => Sys2Proof.Machine.execFrameBoundary s
  | .downlinkFrame line x => Sys2Proof.Machine.execDownlinkFrame line x s
  | .uplinkFrame line => Sys2Proof.Machine.execUplinkFrame line s
  | .helloUplink x => Sys2Proof.Machine.execHelloUplink x s
  | .batchResend => Sys2Proof.Machine.execBatchResend s
  | .downlinkWatchdog => Sys2Proof.Machine.execDownlinkWatchdog s
  | .linkLost => Sys2Proof.Machine.execLinkLost s
  | .fieldDiePowerUp => Sys2Proof.Machine.execFieldDiePowerUp s
  | .barrierPowerLoss reported => Sys2Proof.Machine.execBarrierPowerLoss reported s
  | .inputAccepted n mv ua samples => Sys2Proof.Machine.execInputAccepted n mv ua samples s
  | .wireBreak n => Sys2Proof.Machine.execWireBreak n s
  | .wireOk n => Sys2Proof.Machine.execWireOk n s
  | .reverse v => Sys2Proof.Machine.execReverse v s
  | .fgndLoss => Sys2Proof.Machine.execFgndLoss s
  | .surge v => Sys2Proof.Machine.execSurge v s
  | .undervolt v => Sys2Proof.Machine.execUndervolt v s
  | .supplyConditionEnd k => Sys2Proof.Machine.execSupplyConditionEnd k s
  | .swThermalOff n => Sys2Proof.Machine.execSwThermalOff n s
  | .swThermalRestart n => Sys2Proof.Machine.execSwThermalRestart n s
  | .swOverload n => Sys2Proof.Machine.execSwOverload n s
  | .swOpenLoad n => Sys2Proof.Machine.execSwOpenLoad n s
  | .swShortSupply n => Sys2Proof.Machine.execSwShortSupply n s
  | .clampEnd n => Sys2Proof.Machine.execClampEnd n s
  | .regulationPeriod n mean duty => Sys2Proof.Machine.execRegulationPeriod n mean duty s
  | .seti n => Sys2Proof.Machine.execSeti n s
  | .wandRamp n => Sys2Proof.Machine.execWandRamp n s
  | .waitt n => Sys2Proof.Machine.execWaitt n s
  | .waiti n => Sys2Proof.Machine.execWaiti n s
  | .waitin n => Sys2Proof.Machine.execWaitin n s
  | .dither n => Sys2Proof.Machine.execDither n s
  | .wandLoop n => Sys2Proof.Machine.execWandLoop n s
  | .wandJif n => Sys2Proof.Machine.execWandJif n s
  | .decay n => Sys2Proof.Machine.execDecay n s
  | .endWord n => Sys2Proof.Machine.execEnd n s
  | .decayComplete n => Sys2Proof.Machine.execDecayComplete n s
  | .drvTrip n leg ma since lasts => Sys2Proof.Machine.execDrvTrip n leg ma since lasts s
  | .peakCapped n => Sys2Proof.Machine.execPeakCapped n s
  | .offStateTest n v1 v2 pulse => Sys2Proof.Machine.execOffStateTest n v1 v2 pulse s
  | .canFrameRx b f tec rec_ => Sys2Proof.Machine.execCanFrameRx b f tec rec_ s
  | .canFrameAcknowledged b tec rec_ tdc => Sys2Proof.Machine.execCanFrameAcknowledged b tec rec_ tdc s
  | .canTxRetry b tec rec_ => Sys2Proof.Machine.execCanTxRetry b tec rec_ s
  | .canTxTimeout b => Sys2Proof.Machine.execCanTxTimeout b s
  | .canErrorStateChange b tec rec_ => Sys2Proof.Machine.execCanErrorStateChange b tec rec_ s
  | .busOn b => Sys2Proof.Machine.execBusOn b s
  | .busIdleSettings b => Sys2Proof.Machine.execBusIdleSettings b s
  | .sleep f b => Sys2Proof.Machine.execSleep f b s
  | .sleepEntry b => Sys2Proof.Machine.execSleepEntry b s
  | .sleepClear f b => Sys2Proof.Machine.execSleepClear f b s
  | .wakePattern b phases => Sys2Proof.Machine.execWakePattern b phases s
  | .wakeFrame b f kind => Sys2Proof.Machine.execWakeFrame b f kind s
  | .decoderDisarm b => Sys2Proof.Machine.execDecoderDisarm b s
  | .txdDominant b => Sys2Proof.Machine.execTxdDominant b s
  | .busDominant b => Sys2Proof.Machine.execBusDominant b s
  | .quadratureEdge n a b held => Sys2Proof.Machine.execQuadratureEdge n a b held s
  | .index n held => Sys2Proof.Machine.execIndex n held s
  | .speedLatch n => Sys2Proof.Machine.execSpeedLatch n s
  | .serialFrame n f => Sys2Proof.Machine.execSerialFrame n f s
  | .lineFault n l => Sys2Proof.Machine.execLineFault n l s
  | .lineFaultEnd n l => Sys2Proof.Machine.execLineFaultEnd n l s
  | .sensorPollDue => Sys2Proof.Machine.execSensorPollDue s
  | .sensorTransferDone rx => Sys2Proof.Machine.execSensorTransferDone rx s
  | .eccWriteBack => Sys2Proof.Machine.execEccWriteBack s
  | .scrubPassStart => Sys2Proof.Machine.execScrubPassStart s
  | .scrubAccess kind => Sys2Proof.Machine.execScrubAccess kind s
  | .mmLatchClear f v => Sys2Proof.Machine.execMmLatchClear f v s
  | .stopPinLow => Sys2Proof.Machine.execStopPinLow s
  | .stopPinHigh => Sys2Proof.Machine.execStopPinHigh s
  | .ciWatchdog n words => Sys2Proof.Machine.execCiWatchdog n words s
  | .miWatchdog n words => Sys2Proof.Machine.execMiWatchdog n words s
  | .vbusOver v held => Sys2Proof.Machine.execVbusOver v held s
  | .vbusUnder v held => Sys2Proof.Machine.execVbusUnder v held s
  | .sbHubReadmit f v => Sys2Proof.Machine.execSbHubReadmit f v s
  | .islandSelftestDone d mask words => Sys2Proof.Machine.execIslandSelftestDone d mask words s
  | .park f => Sys2Proof.Machine.execPark f s
  | .parkDrainEnd => Sys2Proof.Machine.execParkDrainEnd s
  | .parkEdge t => Sys2Proof.Machine.execParkEdge t s
  | .deviceWake => Sys2Proof.Machine.execDeviceWake s
  | .alarmMatch => Sys2Proof.Machine.execAlarmMatch s
  | .xtalMeasurement t dj => Sys2Proof.Machine.execXtalMeasurement t dj s
  | .xtalFail t => Sys2Proof.Machine.execXtalFail t s
  | .xtalOk t => Sys2Proof.Machine.execXtalOk t s
  | .tempConversion t0 t1 t2 t3 t4 => Sys2Proof.Machine.execTempConversion t0 t1 t2 t3 t4 s
  | .presReleased t => Sys2Proof.Machine.execPresReleased t s
  | .configurationRequest f field write => Sys2Proof.Machine.execConfigurationRequest f field write s
  | .emptyCell p h pl room => Sys2Proof.Machine.execEmptyCell p h pl room s
  | .zFallingEdge n held => Sys2Proof.Machine.execZFallingEdge n held s
  | .canIntegrated b => Sys2Proof.Machine.execCanIntegrated b s
  | .swOpenLoadClear n => Sys2Proof.Machine.execSwOpenLoadClear n s
  | .swShortSupplyClear n => Sys2Proof.Machine.execSwShortSupplyClear n s
  | .mainRailBelowMinimum r mv => Sys2Proof.Machine.execMainRailBelowMinimum r mv s
  | .selftestFinished r mask failing => Sys2Proof.Machine.execSelftestFinished r mask failing s
  | .archiveCopyDone r words ue => Sys2Proof.Machine.execArchiveCopyDone r words ue s
  | .illegalWord n => Sys2Proof.Machine.execIllegalWord n s

end Sys2Proof.Machine
end

