-- ==== Sys2Proof/Machine/Step.lean ====
section
/-!
DEFINITION. Machine/Step.lean: one step of the block: the command at the front of the queue, or, where none waits, one nanosecond of
Jikan time.
-/
namespace Sys2Proof.Machine

/-- What happens where no command waits: with main power on, Jikan time goes on by one nanosecond (R151).
[DESIGN CHOICE, unsafe: log 5] -/
def idle (s : State) : State := mainOn s (advance 1 s)

/-- One step: the oldest waiting command leaves the queue and has its effect; on an empty queue the block idles.
[DESIGN CHOICE, unsafe: log 5; DESIGN CHOICE, unsafe: log 7; DESIGN CHOICE, unsafe: log 187] -/
def step (s : State) : Host.Outcome State Fault Refusal :=
  match s.pending with
  | [] => .next (idle s)
  | c :: rest => exec c { s with pending := rest }

/-- The command that a word spells, put at the front of the queue; nothing where it spells none.
[DESIGN CHOICE, unsafe: log 3; DESIGN CHOICE, unsafe: log 8] -/
def State.withFetchWord (s : State) (nbits w : Nat) : State :=
  match decodeTableWord nbits w with
  | some c => { s with pending := c :: s.pending }
  | none => s

end Sys2Proof.Machine
end

