-- ==== Sys2Proof/Safety.lean ====
section
/-!
DEFINITION. Safety.lean: what holds of the machine whatever it is told to do, in the terms the statements use: the invariant of every step,
what is left standing with main power off, which parts of State a command may touch, and how a ring command ends.
-/
namespace Sys2Proof.Machine

/-! ### What every step keeps -/

/-- The invariant of every step.  Archive memory and the tables of domains, channels and measurement islands are in canonical form, so that
equal contents are equal data; counters stay in 32 bits (R80) and SQ counts too (R82); DMA tags are 8 bits; the seal log is in canonical form
and has places 0 to 15 only (R124); and the reference ladder serves at most four measurement islands (R447). -/
structure Inv (s : State) : Prop where
  mem    : Memory.wf s.ar.mem = true
  doms   : Tab.rising s.doms = true
  chs    : Tab.rising s.chs = true
  mis    : Tab.rising s.mis = true
  cnt    : ∀ e ∈ s.regs.cnt, e.2 ≤ 0xFFFFFFFF
  sq     : ∀ e ∈ s.regs.sqN, e.2 < 2 ^ 32
  tag    : s.hl.nextTag < 256
  log    : Tab.rising s.sl.log = true
  logAt  : ∀ e ∈ s.sl.log, e.1 < 16
  ladder : s.ladder.places.length ≤ 4

/-- Nothing of the main domains stands: every domain but 0 is off, and what its logic held is at its reset value (R136, R828).  The
safelight, the straps and pins, the fuses and what the fixture buses keep in domain 0 are not named here. -/
structure MainLost (s : State) : Prop where
  doms  : s.doms = []
  sheet : s.sheet = {}
  pres  : s.pres = {}
  link  : s.hl.link = .down
  fns   : s.hl.fns = []
  reqs  : s.hl.reqs = []
  rings : s.rg = {}
  sp    : s.sp = {}
  ar    : s.ar = {}
  chs   : s.chs = []
  mis   : s.mis = []
  sh    : s.sh = {}
  jl    : s.jl = {}
  pe    : s.pe = {}
  fx    : s.fx = {}
  en    : s.en = {}
  ez    : s.ez = {}
  stop  : s.sb.cls = 0
  th    : s.th = {}

/-- With main power not on, nothing of the main domains stands. -/
def PowerInv (s : State) : Prop := s.power ≠ .on → MainLost s

/-- A memory write to the host: until the link carries it, a link that goes down or a function-level reset can still take it back (R212). -/
def Tx.isWrite : Tx → Bool
  | .memWrite _ _ _ _ _ => true
  | _ => false

/-- What no command takes back: the variant and the fuses are fixed, the model's clock never goes back, and what has been sent stays sent, in
its order, but for memory writes that a link going down takes back. -/
structure Onward (s t : State) : Prop where
  variant : t.variant = s.variant
  dbgen   : t.dbgen = s.dbgen
  fuses   : t.mm.fuses = s.mm.fuses
  clk     : s.tk.clk ≤ t.tk.clk
  tx      : (s.tx.filter fun m => !m.isWrite) <:+ (t.tx.filter fun m => !m.isWrite)

/-- The command belongs to the main die: with main power off it does nothing.  The others are of the supplies, the safelight and the pins. -/
def ofMainDie (c : Instr) : Bool :=
  match c with
  | .vsafeApply | .vsafeLoss | .vcoreEnter | .powerLoss _ | .mainRailBelowMinimum _ _ | .deviceWake | .alarmMatch | .toneAccepted _ _ _
  | .xtalFail _ | .xtalOk _ | .pressAccepted _ | .sealSample _ _ | .wakePattern _ _ | .wakeFrame _ _ _ | .decoderDisarm _
  | .presReleased _ | .perstAssert _ _ | .perstDeassert | .stopPinLow | .stopPinHigh => false
  | _ => true

/-! ### Answers -/

/-- Command `c` completes at `s`: `exec` answers a next state, and `P` holds of it. -/
def Runs (c : Instr) (s : State) (P : State → Prop) : Prop := ∃ t, exec c s = .next t ∧ P t

/-- Between `s` and `t` event `num` of place `i` of block `b` was raised with class `cls` and arguments `args`: its record is among those made
since (R303, R305). -/
def Raised (s t : State) (b : Blk) (i num cls : Nat) (args : List Int) : Prop :=
  ∃ r, (b.producer i, r) ∈ t.sp.making.drop s.sp.making.length ∧ r.kind = 3 ∧ r.src = b.source i ∧ r.body = eventBody b num cls args 0 0

/-- The records of producer `p` under way, but for those a SNAPSHOT asked for. -/
def madeBy (s : State) (p : Nat) : List (Nat × Rec) := s.sp.making.filter fun m => m.1 == p && !m.2.snapshot

/-- As `Raised`, where the command may take back records of other producers or of a SNAPSHOT (R293, R337): the record is among those that the
event's own producer has made since. -/
def RaisedBy (s t : State) (b : Blk) (i num cls : Nat) (args : List Int) : Prop :=
  ∃ r, (b.producer i, r) ∈ (madeBy t (b.producer i)).drop (madeBy s (b.producer i)).length ∧ r.kind = 3 ∧ r.src = b.source i ∧
    r.body = eventBody b num cls args 0 0

/-- The state a device reset leaves (R177, R828): domains 1, 16 and 19 power up, the others but 0 are off, the reset check runs, and nothing of
the rings, channels, link, archive and stops stands. -/
structure FromReset (t : State) : Prop where
  power    : t.power = .on
  up       : ∀ d ∈ [1, 16, 19], (t.dom d).st = .up
  off      : ∀ d, d ∉ [1, 16, 19] → (t.dom d).st = .off
  checking : t.sheet = { checking := true, checked := false }
  standby  : t.sl.running = false
  noWake   : t.sl.pending = false
  link     : t.hl.link = .down
  rings    : t.rg = {}
  ar       : t.ar = {}
  chs      : t.chs = []
  mis      : t.mis = []
  stop     : t.sb.cls = 0
  pres     : t.pres = {}
  th       : t.th = {}

/-- The CNT counter under `key` has gone on by one (R80). -/
def Counted (s t : State) (key : Nat) : Prop := t.regs.cnt.get key 0 = min 0xFFFFFFFF (s.regs.cnt.get key 0 + 1)

/-- The code-groups of cell `c` sent on port `q` now (R534, R538). -/
def sentLine (s : State) (q : Nat) (c : Cell) : List CodeGroup :=
  (cellLine (!idleBefore s c.hdr && (s.port q).txRd) c.hdr c.pl c.crc).1

/-- What port `p` reads from the code-groups `line` without idle before them: a cell of header `h`, payload `pl` and the CRC `crc`. -/
structure Reads (s : State) (p : Nat) (line : List CodeGroup) (h : Nat) (pl : List Byte) (crc : Nat) : Prop where
  marked : (readLine (s.port p).rxRd line).1 = true
  bytes  : (readLine (s.port p).rxRd line).2.1 = (cellBytes h pl ++ [BitVec.ofNat 8 (crc / 256), BitVec.ofNat 8 crc]).map some
  hdr    : h < 65536
  pay    : pl.length = 16
  crc    : crc < 65536

/-! ### When a command can act -/

/-- A host request through function `f` reaches its BAR: main power and link are up, the device has the function in its mode (R181), Memory
Space Enable is 1, and the function is neither in D3hot nor in a function-level reset (R202, R203, R210). -/
structure HostReaches (s : State) (f : Nat) : Prop where
  power : s.power = .on
  link  : s.hl.link = .up
  there : fnExists s f = true
  mse   : (s.fn f).memEn = true
  awake : (s.fn f).d3hot = false
  flr   : (s.fn f).flr = false

/-- BAR0 offset `off` reaches register `r` of place `i` of block `b` (R46, R65). -/
structure RegAt (s : State) (off : Nat) (b : Blk) (i : Nat) (r : RegDef) : Prop where
  high  : 0x40000 ≤ off
  found : findReg s.variant off = some (b, i, r)
  stood : s.sheet.hold = false ∨ b = .cs

/-- A write of the register does nothing beside storing its value. -/
def Quiet (b : Blk) (off : Nat) : Prop := ∀ i old new p s, writeActs b i off old new p s = s

/-- No strip is bound, in error, stalled or being released, and no spool is in an episode: what stands at the read sides of the spools stays
there. -/
structure SpoolsStill (s : State) : Prop where
  strips : ∀ k, (s.strip k).bound = false ∧ (s.strip k).error = false
  idle   : ∀ k, (s.strip k).releasing = false ∧ (s.strip k).stall = none
  calm   : ∀ k, (s.spool k).episode = false

/-- Driver `n` runs a program whose next word `w` is legal and has opcode `op`, and no wait is in progress (R686–R688). -/
structure WandAt (s : State) (n op : Nat) (w : Word) : Prop where
  power : s.power = .on
  works : valveOn s n = true
  runs  : (s.valve n).running = true
  free  : (s.valve n).wait = none
  inside : (s.valve n).pc ≤ 63
  word  : (s.valve n).prog.get (s.valve n).pc 0 = w
  legal : wandLegal w = true
  op    : wf w 28 4 = op

/-- It is ring `r`'s turn (R233), and descriptor `d` stands at its head. -/
structure Turn (s : State) (r : Nat) (d : List Byte) : Prop where
  power : s.power = .on
  next  : nextRing s = some r
  head  : (s.ring r).fetched.head?.map (·.2) = some d

/-- Ring `r` begins descriptor `d`, whose opcode is `op` and which passes the checks of R223, R257, R258 and R263. -/
structure Begins (s : State) (r : Nat) (d : List Byte) (op : Nat) : Prop where
  turn : Turn s r d
  op   : dOp d = op
  good : badDesc s d = none

/-- Descriptor `d` is in execution on ring `r`, in stage `g`. -/
def InStage (t : State) (r : Nat) (d : List Byte) (g : Stage) : Prop := ∃ e, (t.ring r).exec = some e ∧ e.d = d ∧ e.stage = g

/-- Descriptor `d` of ring `r` has ended in `t` with status `st` and RESULT `res`: it is no longer in execution; with the link up its completion
waits on the ring, unless it was SILENT and ended OK (R224, R226, R232). -/
structure Done (t : State) (r : Nat) (d : List Byte) (st : Status) (res : Nat) : Prop where
  free : (t.ring r).exec = none
  told : t.hl.link = .up → (dSilent d = false ∨ st ≠ .ok) →
    ∃ c, (t.ring r).cpl = some c ∧ c.d = d ∧ c.status = st.code ∧ c.result = res % 2 ^ 32

end Sys2Proof.Machine
end

