-- ==== Sys2Proof/Certificates/Slice0/Obligations.lean ====
section
/-!
DEFINITION. Obligations.lean: what the provers are to prove of the block's model.
-/
open Sys2Proof Sys2Proof.Machine

/-- Supplies (chapters 23 and 25): each supply command, where it can act, completes with its effect. -/
def Obligations.SupplyCommandsComplete : Prop :=
  (∀ s, s.power = .off → Runs .vsafeApply s fun t =>
    t.power = .parked ∧ MainLost t ∧ t.sl.wake = 1 ∧ t.sl.pending = true ∧ t.sl.tick = 0 ∧
      t.sl.log = [(0, { ticks := 0, kind := 1, state := 0, seq := 0 })]) ∧
  (∀ s, Runs .vsafeLoss s fun t => t.power = .off ∧ MainLost t ∧ t.regs = {} ∧ t.sl.log = [] ∧ t.sl.tick = 0) ∧
  (∀ s, s.power = .parked → s.sl.counting = true → s.sl.vcore = false → Runs .vcoreEnter s fun t =>
    FromReset t ∧ t.sl.vcore = true ∧ t.hl.cxl = s.hl.strap) ∧
  (∀ s rails, s.power = .on → (∃ e ∈ rails, railLost e.1 e.2 = true) → Runs (.powerLoss rails) s fun t =>
    t.power = .parked ∧ MainLost t ∧ t.sl.wake = 1 ∧ t.sl.first = 0 ∧ t.sl.parkCause = 2 ∧ t.sl.lossDue = true ∧
      ((∃ e ∈ rails, e.1 = 1 ∧ railLost 1 e.2 = true) → t.sl.lossRail = 1) ∧ (∀ e ∈ rails, railLost e.1 e.2 = true → e.1 ∈ t.sl.low) ∧
      t.sl.log = s.sl.log) ∧
  (∀ s r mv, railLow r mv = true → Runs (.mainRailBelowMinimum r mv) s fun t => t.sl.counting = false ∧ r ∈ t.sl.low) ∧
  (∀ s r mv, 1 ≤ r → r ≤ 8 → railLow r mv = false → Runs (.mainRailBelowMinimum r mv) s fun t => r ∉ t.sl.low ∧
    (s.power ≠ .off → s.sl.vcore = false → r ∈ s.sl.low → (∀ k ∈ s.sl.low, k = r) → t.sl.counting = true ∧ t.sl.countAt = s.tk.clk))

/-- Wakes, parking and reset (chapter 23), the alarm, tones, the crystal and die temperatures (chapters 23 and 26): each command
completes with its effect. -/
def Obligations.PowerStateCommandsComplete : Prop :=
  (∀ s, s.power = .parked → s.sl.pending = true → s.sl.vcore = true → Runs .deviceWake s FromReset) ∧
  (∀ s, HostReaches s 0 → s.sheet.hold = false → Runs (.reset 0) s fun t => FromReset t ∧ t.sl.wake = 0x100 ∧ t.sl.parkValid = false) ∧
  (∀ s, HostReaches s 0 → s.sheet.hold = false → s.allDark = true → (∀ n, (s.ch n).queued = false) → s.sl.parking = none →
    Runs (.park 0) s fun t => t.sl.parking = some .beat ∧ t.sl.parkAt = s.tk.clk) ∧
  (∀ s, s.power = .on → s.sl.parking = some .drain → (∀ d ∈ List.range' 20 128, domDown s d = true) → recordsHeld s = 0 →
    Runs .parkDrainEnd s fun t => t.sl.parking = some .edge ∧ t.sl.lost = 0) ∧
  (∀ s tick, s.power = .on → s.sl.parking = some .edge → (∀ d ∈ [9, 10, 11, 12, 13, 14, 17, 18], domDown s d = true) →
    Runs (.parkEdge tick) s fun t => t.power = .parked ∧ MainLost t ∧ t.sl.parkValid = true ∧ t.sl.parkJt = s.tk.now ∧
      (s.sl.heldOver = [] → t.sl.pending = false)) ∧
  (∀ s at_, alarmTick s = some at_ → s.power = .parked → s.sl.alarmed = false → s.sl.pending = false → bitOf (s.wr 0x51008 0xE) 5 = true →
    Runs .alarmMatch s fun t => t.sl.pending = true ∧ t.sl.first = 5 ∧ t.sl.wake = 0x20) ∧
  (∀ s p tick periods, s.power = .parked → p < 2 → isTone periods 0 = true → s.sl.pending = false →
    bitOf (s.wr 0x51008 0xE) (2 + p) = true → Runs (.toneAccepted p tick periods) s fun t => t.sl.pending = true ∧ t.sl.first = 2 + p) ∧
  (∀ s tick dj, isRunning s = true → s.tk.refclkOk = true → s.sl.xtalOk = true → 0 < dj → Runs (.xtalMeasurement tick dj) s fun t =>
    t.sl.meas = some (xtalDeviation dj) ∧ (t.sl.xtalOk = false ↔ 5000 < (xtalDeviation dj).natAbs)) ∧
  (∀ s tick, s.power = .on → s.sl.xtalOk = true → Runs (.xtalFail tick) s fun t =>
    t.sl.xtalOk = false ∧ t.pres.window = none ∧ Raised s t .sl 0 2 2 []) ∧
  (∀ s tick, s.power = .on → s.sl.xtalOk = false → Runs (.xtalOk tick) s fun t => t.sl.xtalOk = true ∧ Raised s t .sl 0 3 0 []) ∧
  (∀ s tick p, s.power = .on → s.sl.parkTick = some p → s.sl.restoreDue = true → s.isOn 16 = true → p ≤ tick →
    Runs (.timeRestored tick) s fun t =>
      t.tk.now = restoredTime s.sl.parkJt (tick - p) s.sl.parkMeas ∧ t.sl.restored = true ∧ t.sl.parkValid = false) ∧
  (∀ s t0 t1 t2 t3 t4, s.power = .on → Runs (.tempConversion t0 t1 t2 t3 t4) s fun t =>
    (∀ v, t.th.tj = some v → v ∈ [t0, t1, t2, t3, t4] ∧ ∀ u ∈ [t0, t1, t2, t3, t4], -5500 ≤ u → u ≤ 15000 → u ≤ v) ∧
      ((∀ u ∈ [t0, t1, t2, t3, t4], u < -5500 ∨ 15000 < u) → t.th.tj = none))

/-- Writes of BAR0 (chapter 03): each command that writes has its effect where the host reaches the register. -/
def Obligations.RegisterWritesComplete : Prop :=
  (∀ s f off v b i r, f < 2 → HostReaches s f → RegAt s off b i r → r.acc = .rw → (r.priv = .any ∨ r.priv = .p ∧ f = 0) →
    isRwLow b r.off = false → rwLow b r.off = none → Quiet b r.off →
    wholeTakes s b i r.off (merge b r.off (fieldsOf s.variant b i r) (s.wr (keyOf s b i r.off) (resetOf s b i r)) v).1 = true →
    Runs (.registerWrite f off v) s fun t =>
      t.wr (keyOf s b i r.off) (resetOf s b i r) =
          (merge b r.off (fieldsOf s.variant b i r) (s.wr (keyOf s b i r.off) (resetOf s b i r)) v).1 ∧
        ∀ k d, k ≠ keyOf s b i r.off → t.wr k d = s.wr k d) ∧
  (∀ s f off v, HostReaches s f → off < 0x40000 → Runs (.sheetRegionWrite f off v) s fun t =>
    t.sheet = s.sheet ∧ Counted s t 0x40008 ∧ t.regs.val = s.regs.val) ∧
  (∀ s off v b i r n, HostReaches s 0 → RegAt s off b i r → r.acc = .sq → s.regs.snap.find (keyOf s b i r.off) = some n →
    fld v 24 8 = n % 256 → Runs (.sqAckWrite 0 off v) s fun t =>
      (∀ e, e ∈ t.regs.sqBit ↔ e ∈ s.regs.sqBit ∧
        ¬ (e.1 / 32 = keyOf s b i r.off ∧ bitOf v (e.1 % 32) = true ∧ e.1 % 32 < 24 ∧ e.2 ≤ n)) ∧
      t.regs.snap.find (keyOf s b i r.off) = none ∧ t.regs.sqN = s.regs.sqN) ∧
  (∀ s off v b i r, HostReaches s 0 → RegAt s off b i r → isRwLow b r.off = true → Runs (.splitLoWrite 0 off v) s fun t =>
    t.regs.held.get (reqKey (keyOf s b i r.off) 0) 0 =
        (merge b r.off (fieldsOf s.variant b i r) (s.wr (keyOf s b i r.off) (resetOf s b i r)) v).1 ∧
      t.regs.val = s.regs.val) ∧
  (∀ s off v b i r lo w, HostReaches s 0 → RegAt s off b i r → rwLow b r.off = some lo →
    s.regs.held.find (reqKey (keyOf s b i lo) 0) = some w → Runs (.splitHiWrite 0 off v) s fun t =>
      t.wr (keyOf s b i lo) 0 = w ∧
        t.wr (keyOf s b i r.off) (resetOf s b i r) =
          (merge b r.off (fieldsOf s.variant b i r) (s.wr (keyOf s b i r.off) (resetOf s b i r)) v).1) ∧
  (∀ s f off v, HostReaches s f → 0x40000 ≤ off → findReg s.variant off = none → Runs (.undefinedOffsetAccess f off true v) s fun t =>
    Counted s t 0x4103C ∧ t.regs.val = s.regs.val ∧ t.tx = s.tx) ∧
  (∀ s f isRead, HostReaches s f → Runs (.unsupportedRequest f isRead) s fun t =>
    Counted s t 0x41040 ∧ t.tx = .aer f aerUr (aerSeverity s f aerUr isRead) :: .ur isRead :: s.tx ∧ t.regs.val = s.regs.val) ∧
  (∀ s off v b i r, s.power = .on → s.isOn 15 = true → s.dbgen = true → s.pres.window ≠ none → RegAt s off b i r → r.acc = .rw →
    r.priv = .p → isRwLow b r.off = false → rwLow b r.off = none → Quiet b r.off →
    wholeTakes s b i r.off (merge b r.off (fieldsOf s.variant b i r) (s.wr (keyOf s b i r.off) (resetOf s b i r)) v).1 = true →
    Runs (.loupeRegisterAccess off true v) s fun t =>
      t.wr (keyOf s b i r.off) (resetOf s b i r) =
        (merge b r.off (fieldsOf s.variant b i r) (s.wr (keyOf s b i r.off) (resetOf s b i r)) v).1)

/-- Reads of BAR0 (chapter 03): what each kind of read returns, and what a privileged one clears. -/
def Obligations.RegisterReadsComplete : Prop :=
  (∀ s off b i r, HostReaches s 0 → RegAt s off b i r → r.acc = .sq → Runs (.sqRead 0 off) s fun t =>
    t.tx = .reply off (sqWord s (keyOf s b i r.off)) :: s.tx ∧
      t.regs.snap.get (keyOf s b i r.off) 0 = s.regs.sqN.get (keyOf s b i r.off) 0 ∧ t.regs.sqBit = s.regs.sqBit) ∧
  (∀ s off b i r, HostReaches s 0 → RegAt s off b i r → hasRc b r = true → Runs (.rcRead 0 off) s fun t =>
    t.tx = .reply off (regValue s b i r) :: s.tx ∧
      t.regs.rc.get (keyOf s b i r.off) 0 &&& rcBits s b i r.off = 0) ∧
  (∀ s off b i r, HostReaches s 0 → RegAt s off b i r → hasCnt b r = true → Runs (.cntRead 0 off) s fun t =>
    t.tx = .reply off (regValue s b i r) :: s.tx ∧ t.regs.cnt.get (keyOf s b i r.off) 0 = 0) ∧
  (∀ s off b i r v, HostReaches s 0 → RegAt s off b i r → isShadow b r.off = false → pairValue s b 0 r.off ≠ none →
    pairValue s b i r.off = some v → Runs (.splitLoRead 0 off) s fun t =>
      t.tx = .reply off (regValue s b i r) :: s.tx ∧ t.regs.shadow.get (reqKey (b.addr i (r.off + 4)) 0) 0 = w32 (v / 2 ^ 32)) ∧
  (∀ s off b i r, HostReaches s 0 → RegAt s off b i r → isRwLow b r.off = true → Runs (.splitLoRead 0 off) s fun t =>
    t.tx = .reply off (s.wr (keyOf s b i r.off) (resetOf s b i r)) :: s.tx ∧ t.regs = s.regs) ∧
  (∀ s f off v, HostReaches s f → 0x40000 ≤ off → findReg s.variant off = none → Runs (.undefinedOffsetAccess f off false v) s fun t =>
    Counted s t 0x4103C ∧ t.tx = .reply off 0 :: s.tx) ∧
  (∀ s off v b i r, s.power = .on → s.isOn 15 = true → s.dbgen = true → s.pres.window ≠ none → RegAt s off b i r → r.acc = .sq →
    Runs (.loupeRegisterAccess off false v) s fun t => t.tx = .reply off (sqWord s (keyOf s b i r.off)) :: s.tx)

/-- What a register's privilege and guard let through (R74, R75, R77, R117, R122; chapters 03 and 04). -/
def Obligations.RefusedWritesChangeNoRegister : Prop :=
  (∀ s off v b i r, HostReaches s 1 → RegAt s off b i r → r.priv ≠ .any → Runs (.registerWrite 1 off v) s fun t =>
    Counted s t 0x41030 ∧ t.regs.val = s.regs.val ∧ t.regs.held = s.regs.held ∧ t.tx = s.tx) ∧
  (∀ s off v b i r, HostReaches s 0 → RegAt s off b i r →
    (r.priv = .pp ∧ missingPp s ≠ 0 ∨ r.priv = .ps ∧ missingPs s ≠ 0) → Runs (.registerWrite 0 off v) s fun t =>
      Counted s t 0x52008 ∧ t.regs.val = s.regs.val ∧ t.regs.held = s.regs.held ∧ t.tx = s.tx ∧
        t.pres.lastRefusal = w32 (at_ 28 3 (if r.priv = .pp then missingPp s else missingPs s) + at_ 26 2 (b2n s.hl.cxl) + at_ 0 20 off))

/-- Register commands with rows of their own (chapters 02, 04, 05, 07, 08, 15, 16, 19, 21 and 22): each has its effect where the
host reaches its register. -/
def Obligations.RegisterCommandsComplete : Prop :=
  (∀ s v, HostReaches s 0 → bitOf v 0 = true → s.sheet.checking = false → Runs (.csRecheck 0 v) s fun t =>
    t.sheet = { s.sheet with checking := true }) ∧
  (∀ s w, HostReaches s 0 → s.sheet.hold = false → s.pres.window = some w → Runs (.close 0) s fun t =>
    t.pres.window = none ∧ Raised s t .pr 0 0x21 0 [(prStatus { s with pres := { s.pres with window := none } }).toNat]) ∧
  (∀ s, HostReaches s 0 → s.sheet.hold = false → pollEn s = false → Runs (.pollEnable 0) s fun t =>
    pollEn t = true ∧ t.rg.dblAddr = (s.wr 0x43008 0).toNat + 2 ^ 32 * (s.wr 0x4300C 0).toNat) ∧
  (∀ s r, HostReaches s 0 → s.sheet.hold = false → r < 4 → ringEn s r = false → (s.ring r).running = false → Runs (.ringEnable 0 r) s fun t =>
    ringEn t r = true ∧ (t.ring r).running = true ∧ (t.ring r).crCount = 0 ∧ (t.ring r).cqCount = 0 ∧
      (t.ring r).log2E = fld (ringCfg s r) 28 4) ∧
  (∀ s r, HostReaches s 0 → s.sheet.hold = false → r < 4 → ringEn s r = true → (s.ring r).exec = none → (s.ring r).cpl = none →
    (s.ring r).again = false → Runs (.ringDisable 0 r) s fun t => ringEn t r = false ∧ (t.ring r).running = false) ∧
  (∀ s v, HostReaches s 0 → s.sheet.hold = false → s.rg.timer = none → Runs (.hostLossTimeoutWrite 0 v) s fun t =>
    (1 ≤ fld v 0 14 → fld v 0 14 ≤ 10000 → lossTime t = fld v 0 14 * 1000000) ∧ t.rg.hostLost = s.rg.hostLost) ∧
  (∀ s p, HostReaches s 0 → s.sheet.hold = false → p < 2 → s.isOn (11 + p) = true → portUp s p = false →
    toneSending s p = false → Runs (.tone 0 p) s fun t => (∃ mv, .tone p mv ∈ t.tx) ∧ toneSending t p = true ∧ Raised s t .jl 0 13 0 [(p : Nat)]) ∧
  (∀ s, HostReaches s 0 → s.sheet.hold = false → Runs (.wakeRing 0) s fun t => t.jl.wakeAsked = true) ∧
  (∀ s v, HostReaches s 0 → s.sheet.hold = false →
    (s.mm.unexpHit.find (fld (s.wr 0x4F004 0) 0 8)).all (fun h => h.at_ != s.tk.clk) = true →
    (s.mm.ueHit.find (fld (s.wr 0x4F004 0) 0 8)).all (fun h => h.at_ != s.tk.clk) = true →
    Runs (.mmLatchClear 0 v) s fun t =>
    (bitOf v 0 = true → t.mm.unexp.has (fld (s.wr 0x4F004 0) 0 8) = false) ∧
      (bitOf v 1 = true → t.mm.ue.has (fld (s.wr 0x4F004 0) 0 8) = false)) ∧
  (∀ s v h, HostReaches s 0 → s.sheet.hold = false → bitOf v 0 = true → s.mm.unexpHit.find (fld (s.wr 0x4F004 0) 0 8) = some h →
    h.at_ = s.tk.clk → h.latched = false → Runs (.mmLatchClear 0 v) s fun t =>
      t.mm.unexp.find (fld (s.wr 0x4F004 0) 0 8) = some h.word) ∧
  (∀ s v d, HostReaches s 0 → s.sheet.hold = false → s.allDark = true → d ∈ [9, 10, 11, 12, 13, 14, 17] → bitOf v d ≠ domEnabled s d →
    Runs (.hubDomEnable 0 v) s fun t => (t.dom d).target = bitOf v d) ∧
  (∀ s v d, HostReaches s 0 → s.sheet.hold = false → d ∈ [9, 10, 11, 12, 13, 14, 17] → bitOf v d = true → (s.dom d).st = .fenced →
    Runs (.sbHubReadmit 0 v) s fun t => (t.dom d).st = .up ∧ (t.dom d).readmit = true ∧ (t.dom d).target = true) ∧
  (∀ s n, HostReaches s 0 → s.sheet.hold = false → s.isOn 10 = true → s.present n = true → s.fx.grade.find n = none →
    Runs (.regrade 0 n) s fun t => Raised s t .fx 0 3 1 [(n : Nat)]) ∧
  (∀ s n g, HostReaches s 0 → s.sheet.hold = false → s.isOn 10 = true → s.present n = true → s.fx.grade.find n = some g →
    Runs (.regrade 0 n) s fun t => t.fx.grade.find n = some { g with seq := t.fx.last } ∧ Counted s t 0x4901C ∧
      ∃ r, (prodFx, r) ∈ t.sp.making.drop s.sp.making.length ∧ r.kind = 4 ∧ r.src = n ∧ r.gen = g.gen) ∧
  (∀ s b, HostReaches s 0 → s.sheet.hold = false → b < 2 → Runs (.sleep 0 b) s fun t => (t.can b).sleep = true) ∧
  (∀ s b, HostReaches s 0 → s.sheet.hold = false → b < 2 → Runs (.sleepClear 0 b) s fun t => (t.can b).sleep = false)

/-- Physical presence (chapter 04): button, jumper and seal commands have their effect. -/
def Obligations.PresenceCommandsComplete : Prop :=
  (∀ s tick, s.power = .on → s.isOn 19 = true → s.sl.xtalOk = true → s.sl.button = false → s.pres.stuck = false → s.sheet.hold = false →
    Runs (.pressAccepted tick) s fun t =>
      t.pres.window = some (max s.sl.tick (tick % 2 ^ 48)) ∧ t.pres.pressed = true ∧ t.sl.button = true ∧
      Raised s t .pr 0 0x20 0 [(prStatus t).toNat]) ∧
  (∀ s tick, s.power = .on → s.isOn 19 = true → s.sl.xtalOk = true → s.sl.button = true → Runs (.pressAccepted tick) s fun t =>
    t.pres = { s.pres with pressed := true }) ∧
  (∀ s tick, s.power = .parked → s.sl.xtalOk = true → s.sl.button = false → s.sl.pending = false → bitOf (s.wr 0x51008 0xE) 1 = true →
    Runs (.pressAccepted tick) s fun t => t.sl.pending = true ∧ t.sl.first = 1 ∧ t.pres = s.pres) ∧
  (∀ s w, s.power = .on → s.pres.window = some w → Runs .windowClose s fun t =>
    t.pres.window = none ∧ t.sl.tick = max s.sl.tick ((w + 983040) % 2 ^ 48) ∧ Raised s t .pr 0 0x21 0 [(prStatus t).toNat]) ∧
  (∀ s tick fitted, s.power = .on → Runs (.calenChange tick fitted) s fun t => t.pres.calen = some fitted ∧
    (s.pres.calen = some (!fitted) → Raised s t .pr 0 0x22 1 [(prStatus t).toNat])) ∧
  (∀ s tick o, s.power = .on → s.pres.sample = some o → s.sl.sample = some o → s.sl.seal_ = some (!o) → Runs (.sealSample tick o) s fun t =>
    t.pres.sealOpen = some o ∧ t.sl.seal_ = some o ∧ t.sl.logged = s.sl.logged + 1 ∧
      ((t.sl.log.find (s.sl.logged % 16)).map fun e => (e.kind, e.ticks)) = some (if o then 2 else 3, max s.sl.tick (tick % 2 ^ 48))) ∧
  (∀ s tick, s.power = .on → s.isOn 19 = true → Runs (.buttonStuck tick) s fun t => t.pres.stuck = true ∧ t.pres.pressed = true) ∧
  (∀ s tick, s.power ≠ .off → Runs (.presReleased tick) s fun t =>
    t.pres.stuck = false ∧ t.pres.pressed = false ∧ t.sl.button = false)

/-- Power domains (chapter 05): each command takes its domain one phase on. -/
def Obligations.DomainCommandsComplete : Prop :=
  (∀ s d, s.power = .on → d < 148 → (s.dom d).st = .up → (s.dom d).phase = .rail → Runs (.domainUpPhaseEnd d) s fun t =>
    (t.dom d).st = .up ∧ (t.dom d).phase = .fll) ∧
  (∀ s d, s.power = .on → d < 148 → (s.dom d).st = .up → (s.dom d).phase = .fll → Runs (.domainUpPhaseEnd d) s fun t => (t.dom d).phase = .release) ∧
  (∀ s d, s.power = .on → d < 148 → (s.dom d).st = .up → (s.dom d).phase = .release → Runs (.domainUpPhaseEnd d) s fun t =>
    (t.dom d).phase = .beacon) ∧
  (∀ s d, s.power = .on → s.field.powered = true → 148 ≤ d → d < 160 → (s.dom d).st = .up → Runs (.domainUpPhaseEnd d) s fun t =>
    t.isOn d = true ∧ (d = 149 → ∀ k ∈ List.range' 150 10, (t.dom k).st = .up)) ∧
  (∀ s d, s.power = .on → (s.dom d).st = .up → (s.dom d).phase = .rail ∨ (s.dom d).phase = .fll → Runs (.domFail d) s fun t =>
    (t.dom d).st = .failed ∧ (t.dom d).target = false ∧
      Raised s t .hub 0 0x22 2 [(d : Nat), if (s.dom d).phase = .rail then 1 else 2]) ∧
  (∀ s d words, s.power = .on → (s.dom d).st = .down → (s.dom d).phase = .quiesce → Runs (.quiesceEnd d words) s fun t =>
    (t.dom d).phase = .isolate ∧ t.regs.cnt.get 0x41050 0 = min 0xFFFFFFFF (s.regs.cnt.get 0x41050 0 + words)) ∧
  (∀ s d, s.power = .on → (s.dom d).st = .down → (s.dom d).phase ≠ .quiesce → Runs (.domainDownComplete d) s fun t =>
    ((s.dom d).fence = false → (s.dom d).target = false → (t.dom d).st = .off) ∧
    ((s.dom d).fence = false → (s.dom d).target = true → (t.dom d).st = .up ∧ (t.dom d).phase = .rail) ∧
    ((s.dom d).fence = true → (s.dom d).readmit = false → (t.dom d).st = .fenced) ∧
    (t.dom d).trans = ((s.dom d).trans + 1) % 256) ∧
  (∀ s d mask words, s.power = .on → (s.dom d).st = .on → (s.dom d).testing = true →
    (if d < 84 then mask % 16 = 15 else mask / 16 % 4 = 3) → Runs (.islandSelftestDone d mask words) s fun t =>
      (t.dom d).st = .on ∧ (t.dom d).testing = false ∧ t.chs = s.chs) ∧
  (∀ s d mask words, s.power = .on → isFenceable s d = true → 20 ≤ d → (s.dom d).st = .on → (s.dom d).testing = true →
    ¬ (if d < 84 then mask % 16 = 15 else mask / 16 % 4 = 3) → Runs (.islandSelftestDone d mask words) s fun t =>
      (t.dom d).st = .down ∧ (t.dom d).fence = true ∧ RaisedBy s t .sb 0 6 2 [0, (domChannel s d : Nat), (mask : Nat)]) ∧
  (∀ s d rate own value, s.power = .on → s.isOn d = true → (s.dom d).strobe = some ((own : Nat), (value : Nat)) →
    Runs (.islandTimeCorrection d rate) s fun t =>
      (t.dom d).strobe = none ∧ (t.dom d).rate = heldRate s rate ∧
      (value ≤ own + 64 → own ≤ value + 64 → (t.dom d).slew = (value : Int) - own ∧ localTime t d = localTime s d) ∧
      (own + 64 < value → localTime t d = localTime s d + (value - own) ∧ Raised s t .tk 0 0 1 []) ∧
      (value + 64 < own → (t.dom d).wait = own - value - 64 ∧ localTime t d = localTime s d ∧ Raised s t .tk 0 1 1 []))

/-- Beacons, epochs and rack time (chapter 05): the boundaries come in their order and time goes on to them. -/
def Obligations.TimeCommandsComplete : Prop :=
  (∀ s, s.power = .on → s.isOn 16 = true → Runs .beacon s fun t =>
    t.tk.beaconAt = nextOf 1024 s.tk.beaconAt ∧ t.tk.now = max s.tk.now (nextOf 1024 s.tk.beaconAt)) ∧
  (∀ s d, s.power = .on → s.isOn 16 = true → d ∈ List.range' 1 147 → (holdingBack s = true → d = 1) → (s.dom d).st = .up →
    (s.dom d).phase = .beacon → (s.dom d).target = true → (s.dom d).readmit = false → Runs .beacon s fun t =>
      (t.dom d).st = .on ∧ (t.dom d).phase = .idle) ∧
  (∀ s, s.power = .on → s.isOn 16 = true → Runs .epochBoundary s fun t =>
    t.tk.epochAt = nextOf (epochLen s) s.tk.epochAt ∧ t.tk.now = max s.tk.now (nextOf (epochLen s) s.tk.epochAt)) ∧
  (∀ s, s.power = .on → s.isOn 16 = true → s.tk.waitTsync = true → tsyncLate s = false → Runs .tsyncEdge s fun t =>
    t.tk.now = 0 ∧ t.tk.waitTsync = false ∧ t.tk.tsyncAligned = true) ∧
  (∀ s, s.power = .on → s.isOn 16 = true → s.tk.waitTsync = true → tsyncLate s = true → Runs .tsyncEdge s fun t =>
    t.tk.waitTsync = false ∧ t.tk.tsyncMissing = true ∧ Raised s t .tk 0 4 1 []) ∧
  (∀ s, s.power = .on → s.isOn 16 = true → s.tk.waitTsync = false → s.tk.published = true → Runs .tsyncEdge s fun t =>
    t.tk.tsyncDiff = signedRest 1000000000 s.tk.now ∧ t.tk.now = s.tk.now) ∧
  (∀ s, s.power = .on → s.isOn 16 = true → s.tk.waitTsync = true → Runs .tsyncMissing s fun t =>
    t.tk.now = t.tk.clk - (s.tk.startedAt + 2000000000) ∧ s.tk.startedAt + 2000000000 ≤ t.tk.clk ∧ t.tk.waitTsync = false ∧
    t.tk.tsyncMissing = true ∧ Raised s t .tk 0 4 1 []) ∧
  (∀ s, s.power = .on → s.tk.refclkOk = true → Runs .refclkLoss s fun t =>
    t.tk.refclkOk = false ∧ t.sb.cls ≠ 0 ∧ Raised s t .tk 0 5 1 []) ∧
  (∀ s, s.power = .on → s.tk.refclkOk = false → Runs .refclkRestored s fun t => t.tk.refclkOk = true ∧ t.sb = s.sb)

/-- Fences and stops that conditions outside the rings enter (chapters 05 and 22). -/
def Obligations.FenceAndStopCommandsComplete : Prop :=
  (∀ s a b rose words, s.power = .on → s.isOn a = true → s.isOn b = true → isFenceable s (if rose then a else b) = true →
    Runs (.xingTimeout a b rose words) s fun t =>
      (t.dom (if rose then a else b)).st = .down ∧ (t.dom (if rose then a else b)).fence = true ∧
        RaisedBy s t .hub 0 0x21 2 [(b : Nat), (a : Nat), if rose then 2 else 1]) ∧
  (∀ s d words, s.power = .on → s.isOn d = true → Runs (.fllUnlock d words) s fun t =>
    RaisedBy s t .hub 0 0x20 2 [(d : Nat)] ∧
      (d = 14 ∨ 20 ≤ d → isFenceable s d = true → (t.dom d).st = .down ∧ (t.dom d).fence = true) ∧
      (d ≠ 14 → d < 20 → 3 ≤ t.sb.cls ∧ t.dom d = s.dom d)) ∧
  (∀ s n words, s.power = .on → n < s.variant.channels → s.isOn (ciDom n) = true →
    fld (sbConfig s) 0 8 ≤ (s.sh.ch.get n {}).missed → Runs (.ciWatchdog n words) s fun t =>
      (t.dom (ciDom n)).st = .down ∧ (t.dom (ciDom n)).fence = true ∧ RaisedBy s t .sb 0 3 2 [(ciDom n : Nat), 0x12]) ∧
  (∀ s n words, s.power = .on → n < s.variant.channels → s.isOn (miDom n) = true → Runs (.miWatchdog n words) s fun t =>
    (t.dom (miDom n)).st = .down ∧ (t.dom (miDom n)).fence = true ∧ RaisedBy s t .sb 0 3 2 [(miDom n : Nat), 0x13]) ∧
  (∀ s v held, s.power = .on → s.isOn 19 = true → 63000 < v → 2000 ≤ held → Runs (.vbusOver v held) s fun t =>
    2 ≤ t.sb.cls ∧ t.sb.vbus = v ∧ Raised s t .sb 0 8 2 [(v : Nat), 1]) ∧
  (∀ s v held, s.power = .on → s.isOn 19 = true → v < 18000 → 50000 ≤ held → s.allDark = false → Runs (.vbusUnder v held) s fun t =>
    1 ≤ t.sb.cls ∧ t.sb.vbus = v ∧ Raised s t .sb 0 8 2 [(v : Nat), 2]) ∧
  (∀ s, s.sb.pinLow = false → s.isOn 19 = true → Runs .stopPinLow s fun t =>
    t.sb.pinLow = true ∧ fld (sbConfig s) 16 3 ≤ t.sb.cls ∧ bitOf (w32 t.sb.sources) 0 = true) ∧
  (∀ s, Runs .stopPinHigh s fun t => t.sb.pinLow = false ∧ t.sb.cls = s.sb.cls ∧ t.sb.sources = s.sb.sources)

/-- Host link (chapter 06): link, power and configuration commands have their effect. -/
def Obligations.LinkCommandsComplete : Prop :=
  (∀ s writes copied, s.power = .on → s.hl.perst = false → Runs (.perstAssert writes copied) s fun t =>
    t.hl.perst = true ∧ t.hl.link = .down ∧ (∀ f, (t.fn f).memEn = false ∧ (t.fn f).bme = false ∧ (t.fn f).msixEn = false) ∧ t.hl.inbox = [] ∧
      t.regs.snap = [] ∧ t.doms = s.doms ∧ pollEn t = false ∧ ∀ r < 4, ringEn t r = false) ∧
  (∀ s, s.power = .on → s.hl.link = .down → s.sheet.checked = true → Runs .perstDeassert s fun t => t.hl.perst = false ∧ t.hl.link = .training) ∧
  (∀ s speed width, s.power = .on → s.hl.link = .training → s.isOn 2 = true → 1 ≤ speed → speed ≤ fld (linkCap s) 4 4 → width ∈ [1, 2, 4] →
    width ≤ fld (linkCap s) 0 4 → Runs (.linkUp speed width) s fun t =>
      t.hl.link = .up ∧ t.hl.speed = speed ∧ t.hl.width = width ∧ Raised s t .hl 0 0 1 []) ∧
  (∀ s writes copied, s.power = .on → s.hl.link = .up → s.hl.perst = false → Runs (.linkDown writes copied) s fun t =>
    t.hl.link = .training ∧ t.hl.reqs = [] ∧ Raised s t .hl 0 1 1 [] ∧ pollEn t = false ∧ ∀ r < 4, ringEn t r = false) ∧
  (∀ s f writes copied, s.power = .on → s.hl.link = .up → fnExists s f = true → (s.fn f).flr = false →
    Runs (.functionLevelReset f writes copied) s fun t =>
    (t.fn f).flr = true ∧ (t.fn f).bme = false ∧ (t.fn f).msixEn = false ∧ (t.fn f).memEn = false ∧ (f = 0 → t.regs.snap = []) ∧
      t.sheet = s.sheet ∧ t.regs.val = s.regs.val) ∧
  (∀ s, s.power = .on → (s.fn 0).flr = true → Runs (.flrComplete 0) s fun t => (t.fn 0).flr = false ∧ Raised s t .hl 0 7 1 []) ∧
  (∀ s f, s.power = .on → s.hl.link = .up → fnExists s f = true → Runs (.d3hotEntry f) s fun t =>
    (t.fn f).d3hot = true ∧ t.regs.val = s.regs.val ∧ t.rg = s.rg ∧ t.sheet = s.sheet) ∧
  (∀ s v, s.power = .on → s.hl.link = .up → 1 ≤ v → v ≤ fld (linkCap s) 4 4 → v ≠ s.hl.speed → Runs (.speedChange v) s fun t =>
    t.hl.speed = v ∧ Counted s t 0x42030 ∧ Raised s t .hl 0 2 1 [] ∧ t.hl.reqs = s.hl.reqs) ∧
  (∀ s v, s.power = .on → s.hl.link = .up → v ∈ [1, 2, 4] → v ≤ fld (linkCap s) 0 4 → v ≠ s.hl.width → Runs (.widthChange v) s fun t =>
    t.hl.width = v ∧ Counted s t 0x42030 ∧ Raised s t .hl 0 3 1 [] ∧ t.hl.reqs = s.hl.reqs) ∧
  (∀ s sub, s.power = .on → s.hl.link = .up → (polling s = false ∨ 8 < pollUsW s) → Runs (.l1Entry sub) s fun t =>
    t.hl.inL1 = true ∧ t.hl.inL11 = (sub && (s.fn 0).l11En) ∧ s.hl.busyAt + 8000 ≤ t.tk.clk) ∧
  (∀ s, s.power = .on → Runs .l1Exit s fun t => t.hl.inL1 = false ∧ t.hl.inL11 = false ∧ t.sheet = s.sheet) ∧
  (∀ s f v, s.power = .on → s.hl.link = .up → fnExists s f = true → (s.fn f).flr = false → (s.fn f).ready = true ∨ readyBy s ≤ s.tk.clk →
    Runs (.configurationRequest f .memorySpace (some v)) s fun t => (t.fn f).memEn = (v % 2 == 1)) ∧
  (∀ s f v, s.power = .on → s.hl.link = .up → fnExists s f = true → (s.fn f).flr = false → (s.fn f).ready = true ∨ readyBy s ≤ s.tk.clk →
    v % 4 = 0 ∨ v % 4 = 3 → Runs (.configurationRequest f .powerState (some v)) s fun t =>
      (t.fn f).d3hot = (v % 4 == 3) ∧ t.sheet = s.sheet) ∧
  (∀ s f field, s.power = .on → s.hl.link = .up → fnExists s f = true → (s.fn f).flr = false →
    (s.fn f).ready = true ∨ readyBy s ≤ s.tk.clk → Runs (.configurationRequest f field none) s fun t =>
      t.tx = .cfg f (cfgRead s f field) :: s.tx ∧ t.regs = s.regs) ∧
  (∀ s f field w, s.power = .on → s.hl.link = .up → fnExists s f = true → (s.fn f).flr = true →
    Runs (.configurationRequest f field w) s fun t => t.tx = .crs f :: s.tx ∧ t.hl.fns = s.hl.fns) ∧
  (∀ s f field w, s.power = .on → s.hl.link = .up → fnExists s f = false → Runs (.configurationRequest f field w) s fun t =>
    .ur w.isNone ∈ t.tx ∧ t.hl.fns = s.hl.fns)

/-- MSI-X, BAR2 and PTM (chapter 06): each command has its effect. -/
def Obligations.MessageCommandsComplete : Prop :=
  (∀ s f v, s.power = .on → fnExists s f = true → (s.fn f).pba.has v = true → s.canSend f = true → f ≠ 0 ∨ v < 12 → Runs (.msixUnmask f v) s fun t =>
    (t.fn f).masked v = false ∧ (t.fn f).pba.has v = false ∧
      t.tx = .msix f v (((s.fn f).table.get (4 * v) 0).toNat + 2 ^ 32 * ((s.fn f).table.get (4 * v + 1) 0).toNat)
        ((s.fn f).table.get (4 * v + 2) 0) { tc := 0, relaxed := false, noSnoop := false, ecrc := (s.fn f).ecrcGen } :: s.tx) ∧
  (∀ s f v, s.power = .on → fnExists s f = true → (s.fn f).pba.has v = false → Runs (.msixUnmask f v) s fun t => (t.fn f).masked v = false ∧
    t.tx = s.tx) ∧
  (∀ s v at_, s.power = .on → s.hl.spaced.find v = some at_ → (s.fn 0).pba.has v = false → Runs (.vectorIntervalEnd v) s fun t =>
    t.hl.spaced.find v = none ∧ t.tx = s.tx) ∧
  (∀ s f k w, HostReaches s f → k < 4 * msixEntries f → k % 4 ≠ 3 → w < 2 ^ 32 → Runs (.bar2Access f (4 * k) 4 true w) s fun t =>
    (t.fn f).table.get k 0 = w32 w ∧ t.tx = s.tx) ∧
  (∀ s f k v, HostReaches s f → k < 4 * msixEntries f → Runs (.bar2Access f (4 * k) 4 false v) s fun t =>
    t.tx = .reply (4 * k) ((s.fn f).table.get k (if k % 4 = 3 then 1 else 0)) :: s.tx) ∧
  (∀ s, s.power = .on → s.hl.ptmEn = true → s.hl.link = .up → s.hl.dialog = none → s.hl.ptmAt = none → Runs .ptmDialogStart s fun t =>
    t.hl.dialog = some (s.tk.clk, s.tk.now) ∧ t.hl.ptmAt = some s.tk.clk) ∧
  (∀ s t0, s.power = .on → s.hl.ptmEn = true → s.hl.link = .up → s.hl.dialog = none → s.hl.ptmAt = some t0 →
    Runs .ptmDialogStart s fun t => t.hl.dialog = some (t.tk.clk, t.tk.now) ∧ t0 + ptmPeriod s ≤ t.tk.clk) ∧
  (∀ s t41 t2 prop c t1, s.power = .on → s.hl.dialog = some (c, t1) → Runs (.ptmCapture t41 t2 prop) s fun t =>
    t.hl.dialog = none ∧ t.hl.dialogs = (s.hl.dialogs + 1) % 2 ^ 32 ∧ t.tk.ptmJt = t1 ∧ t.tk.now = s.tk.now ∧
      (prop ≤ t41 → (t41 - prop) % 2 = 0 → (t41 - prop) / 2 ≤ t2 → t2 < 2 ^ 64 → t.tk.ptmHost = t2 - (t41 - prop) / 2)) ∧
  (∀ s c t1, s.power = .on → s.hl.dialog = some (c, t1) → Runs .ptmMiss s fun t => t.hl.dialog = none ∧ c + 1000000 ≤ t.tk.clk ∧
    Raised s t .hl 0 6 1 [])

/-- DMA completions and link errors (chapter 06): each command has its effect. -/
def Obligations.DmaAndErrorCommandsComplete : Prop :=
  (∀ s tag q data, s.power = .on → s.hl.reqs.find? (fun q => q.tag == tag) = some q → q.dead = true →
    Runs (.dmaCompletion tag 0 data) s fun t => Counted s t 0x42014 ∧ Raised s t .hl 0 4 1 []) ∧
  (∀ s tag q data, s.power = .on → s.hl.reqs.find? (fun q => q.tag == tag) = some q → q.dead = false → data.length = q.len →
    Runs (.dmaCompletion tag 0 data) s fun t => (q, data) ∈ t.hl.inbox) ∧
  (∀ s tag q, s.power = .on → s.hl.reqs.find? (fun q => q.tag == tag) = some q → (s.fn q.fn).timeoutOff = false →
    Runs (.completionTimeout tag) s fun t => Counted s t 0x42044 ∧ Counted s t 0x42014 ∧ Raised s t .hl 0 4 1 [] ∧ t.hl.errAddr = q.addr) ∧
  (∀ s, s.power = .on → Runs .poisonedTlpReceived s fun t => Counted s t 0x42028 ∧ Raised s t .hl 0 5 1 [] ∧
    .aer 0 aerPoisoned (aerSeverity s 0 aerPoisoned false) ∈ t.tx) ∧
  (∀ s f, s.power = .on → (s.fn f).ecrcCheck = true → Runs (.ecrcError f none) s fun t =>
    Counted s t 0x42024 ∧ t.tx = .aer f aerEcrc (aerSeverity s f aerEcrc false) :: s.tx) ∧
  (∀ s, s.power = .on → Runs .unexpectedCompletion s fun t =>
    t = { traffic s with tx := .aer 0 aerUnexpected (aerSeverity s 0 aerUnexpected true) :: s.tx }) ∧
  (∀ s k, s.power = .on → k < 3 → Runs (.malformedTlp k) s fun t =>
    t = { traffic s with tx := .aer 0 (aerLink + k) (aerSeverity s 0 (aerLink + k) false) :: s.tx }) ∧
  (∀ s k, s.power = .on → 3 ≤ k → k < 6 → Runs (.malformedTlp k) s fun t =>
    t.tx = .aer 0 (aerLink + k) (aerSeverity s 0 (aerLink + k) false) :: s.tx ∧
      ∃ n, t.regs.cnt.get 0x42034 0 = min 0xFFFFFFFF (s.regs.cnt.get 0x42034 0 + n)) ∧
  (∀ s k, s.power = .on → k = 6 ∨ k = 7 → Runs (.malformedTlp k) s fun t =>
    t.tx = .aer 0 (aerLink + k) .correctable :: s.tx ∧
      (∃ n, t.regs.cnt.get 0x42034 0 = min 0xFFFFFFFF (s.regs.cnt.get 0x42034 0 + 1 + n)) ∧ (k = 7 → Counted s t 0x42030)) ∧
  (∀ s writes copied, s.power = .on → s.hl.link = .up → s.hl.perst = false → Runs (.fatalInternal writes copied) s fun t =>
    t.hl.link = .training ∧ t.hl.reqs = [] ∧ Raised s t .hl 0 11 1 [] ∧ Raised s t .hl 0 1 1 []) ∧
  (∀ s, s.power = .on → s.hl.cxl = true → Runs .cxlLinkCrcError s fun t =>
    t = { traffic s with tx := .aer 0 aerCxlCrc .correctable :: s.tx })

/-- CXL.mem and the decoders (chapters 06 and 10): accesses and commits have their effect. -/
def Obligations.CxlMemCommandsComplete : Prop :=
  (∀ s l a o words, s.power = .on → s.hl.cxl = true → s.hl.link = .up → hdmHit s l a = some o → o / 64 * 64 < hbBase →
    mayAccess s l (o / 64 * 64) false = true → linePoison s (o / 64 * 64) = false → Runs (.cxlMemRead l a words false) s fun t =>
      t.tx = .cxlData l (memRead s.ar.mem (o / 64 * 64) 64) false :: s.tx ∧ t.ar = s.ar ∧
        t.regs.cnt.get 0x45040 0 = min 0xFFFFFFFF (s.regs.cnt.get 0x45040 0 + words)) ∧
  (∀ s l a o words, s.power = .on → s.hl.cxl = true → s.hl.link = .up → hdmHit s l a = some o → o / 64 * 64 < hbBase →
    mayAccess s l (o / 64 * 64) false = true → linePoison s (o / 64 * 64) = false → Runs (.cxlMemRead l a words true) s fun t =>
      t.tx.head? = some (.cxlData l [] true) ∧ t.ar.ueLines.has (o / 64 * 64) = true ∧ Counted s t 0x45044 ∧ Raised s t .hl 0 10 1 [] ∧
        (s.hl.poison.length < 64 → t.hl.poison = s.hl.poison ++ [o / 64 * 64])) ∧
  (∀ s l a o words ue, s.power = .on → s.hl.cxl = true → s.hl.link = .up → hdmHit s l a = some o → hbBase ≤ o / 64 * 64 →
    s.ar.fail = none → Runs (.cxlMemRead l a words ue) s fun t =>
      t.tx = .cxlData l (heartbeatLine s ((o / 64 * 64 - hbBase) / 64)) false :: s.tx ∧ t.ar = s.ar) ∧
  (∀ s l a words ue, s.power = .on → s.hl.cxl = true → s.hl.link = .up → hdmHit s l a = none → Runs (.cxlMemRead l a words ue) s fun t =>
    t.tx = .cxlData l [] true :: s.tx ∧ Counted s t 0x4203C ∧ t.ar = s.ar) ∧
  (∀ s l a o words ue, s.power = .on → s.hl.cxl = true → s.hl.link = .up → hdmHit s l a = some o → o / 64 * 64 < hbBase →
    mayAccess s l (o / 64 * 64) false = false → Runs (.cxlMemRead l a words ue) s fun t =>
      t.tx = .cxlData l [] true :: s.tx ∧ Counted s t (selKey 0x45034 l) ∧ t.ar = s.ar) ∧
  (∀ s l a o bytes k, s.power = .on → s.hl.cxl = true → s.hl.link = .up → hdmHit s l a = some o → s.ar.fail = none →
    o / 64 * 64 < hbBase → mayAccess s l o true = true → bytes ≠ [] → o + bytes.length ≤ o / 64 * 64 + 64 →
    Runs (.cxlMemWrite l a bytes false) s fun t =>
      memGet t.ar.mem k = if o ≤ k ∧ k < o + bytes.length then bytes.getD (k - o) 0 else memGet s.ar.mem k) ∧
  (∀ s l a o bytes, s.power = .on → s.hl.cxl = true → s.hl.link = .up → hdmHit s l a = some o → s.ar.fail = none →
    o / 64 * 64 < hbBase → mayAccess s l o true = true → bytes ≠ [] → Runs (.cxlMemWrite l a bytes true) s fun t =>
      linePoison t o = true ∧ Raised s t .hl 0 10 1 []) ∧
  (∀ s l a bytes, s.power = .on → s.hl.cxl = true → s.hl.link = .up → l < 4 → hdmHit s l a = some (hbBase + 64 * l) → s.ar.fail = none →
    bytes.length = 12 → Runs (.cxlMemWrite l a bytes false) s fun t =>
      (t.lease l).beat = leAt bytes 0 8 ∧ (t.lease l).claimed = leAt bytes 8 4 ∧ (t.lease l).session = (s.lease l).session) ∧
  (∀ s l a o bytes poison, s.power = .on → s.hl.cxl = true → s.hl.link = .up → hdmHit s l a = some o → s.ar.fail = none →
    o / 64 * 64 < hbBase → mayAccess s l o true = false → bytes ≠ [] → Runs (.cxlMemWrite l a bytes poison) s fun t =>
      Counted s t (selKey 0x45038 l) ∧ t.ar = s.ar) ∧
  (∀ s l base, s.power = .on → mailboxOpen s l = true → (s.ld l).locked = false → base % 0x10000000 = 0 →
    Runs (.hdmCommit l base (2 ^ 32) 1 true) s fun t => (t.ld l).committed = true ∧ (t.ld l).locked = true ∧ (t.ld l).base = base) ∧
  (∀ s l base size ways lock, s.power = .on → mailboxOpen s l = true → (s.ld l).locked = false →
    ¬ (base % 0x10000000 = 0 ∧ size = 2 ^ 32 ∧ ways = 1) → Runs (.hdmCommit l base size ways lock) s fun t =>
      (t.ld l).committed = false ∧ (t.ld l).errNotCommitted = true ∧ Raised s t .hl 0 9 1 [])

/-- The CXL mailbox and the FM API (chapter 06): every command is answered.  The codes and the shape of the answers are the
model's (PRESUMED, the CXL 2.0 return codes, log entry 56); health data and the open fields of IDENTIFY are free values. -/
def Obligations.MailboxCommandsComplete : Prop :=
  (∀ s l, s.power = .on → mailboxOpen s l = true → Runs (.identifyMemoryDevice l) s fun t =>
    ∃ x, .mailbox l cxlOk [2 ^ 32, 64, s.variant.deviceCode, x] ∈ t.tx) ∧
  (∀ s l, s.power = .on → mailboxOpen s l = true → Runs (.getHealthInfo l) s fun t => ∃ x, .mailbox l cxlOk [x] ∈ t.tx) ∧
  (∀ s l, s.power = .on → mailboxOpen s l = true → Runs (.getEventRecords l) s fun t =>
    .mailbox l cxlOk (s.hl.cxlLog.flatMap fun e => [e.1, e.2]) ∈ t.tx) ∧
  (∀ s l n, s.power = .on → mailboxOpen s l = true → Runs (.clearEventRecords l n) s fun t =>
    t.hl.cxlLog = s.hl.cxlLog.drop n ∧ .mailbox l cxlOk [] ∈ t.tx) ∧
  (∀ s l, s.power = .on → mailboxOpen s l = true → Runs (.getPoisonList l) s fun t =>
    .mailbox l cxlOk (b2n s.hl.poisonOver :: s.hl.poison) ∈ t.tx) ∧
  (∀ s a, s.power = .on → mailboxOpen s 0 = true → a < 2 ^ 32 → a % 64 = 0 → s.hl.poison.length < 64 → Runs (.injectPoison 0 a) s fun t =>
    t.hl.poison = s.hl.poison ++ [a] ∧ linePoison t a = true ∧ .mailbox 0 cxlOk [] ∈ t.tx) ∧
  (∀ s a data, s.power = .on → mailboxOpen s 0 = true → a < 2 ^ 32 → a % 64 = 0 → data.length = 64 → Runs (.clearPoison 0 a data) s fun t =>
    t.hl.poison = s.hl.poison.filter (fun x => x != a) ∧ t.ar.poisoned.has a = false ∧
      (∀ k < 64, memGet t.ar.mem (a + k) = data.getD k 0) ∧ .mailbox 0 cxlOk [] ∈ t.tx) ∧
  (∀ s l, s.power = .on → mailboxOpen s l = true → Runs (.unsupportedMailboxCommand l) s fun t => .mailbox l cxlUnsupported [] ∈ t.tx) ∧
  (∀ s, s.power = .on → s.hl.cxl = true → s.hl.link = .up → Runs (.unsupportedMailboxCommand fmLd) s fun t =>
    t.tx = .mailbox fmLd cxlUnsupported [] :: s.tx) ∧
  (∀ s, s.power = .on → s.hl.cxl = true → s.hl.link = .up → Runs .getLdInfo s fun t => t.tx = .mailbox fmLd cxlOk [2 ^ 32, 4] :: s.tx) ∧
  (∀ s, s.power = .on → s.hl.cxl = true → s.hl.link = .up → Runs .getLdAllocations s fun t =>
    t.tx = .mailbox fmLd cxlOk [2 ^ 32, 2 ^ 32, 2 ^ 32, 2 ^ 32] :: s.tx) ∧
  (∀ s, s.power = .on → s.hl.cxl = true → s.hl.link = .up → Runs (.setLdAllocations (List.replicate 4 (2 ^ 32))) s fun t =>
    t = { traffic s with tx := .mailbox fmLd cxlOk [] :: s.tx }) ∧
  (∀ s sizes, s.power = .on → s.hl.cxl = true → s.hl.link = .up → sizes ≠ List.replicate 4 (2 ^ 32) →
    Runs (.setLdAllocations sizes) s fun t => t = { traffic s with tx := .mailbox fmLd cxlInvalid [] :: s.tx })

/-- The archive (chapter 10) and the scrubber (chapter 21): zeroing, leases' heartbeats, training and the scrubber's words. -/
def Obligations.ArchiveCommandsComplete : Prop :=
  (∀ s x rest, s.power = .on → s.ar.zeroQ = x :: rest → fillEn s = false → Runs .extentZeroed s fun t =>
    (x ∉ rest → (t.ext x).st = .free) ∧ t.ar.zeroQ = rest ∧ ∀ a, extOf a = x → memGet t.ar.mem a = 0) ∧
  (∀ s l, s.power = .on → l < 4 → (s.lease l).st = .active → (s.lease l).beat = (s.lease l).sampled →
    (s.lease l).deadline ≤ boundary 1000000 s.ar.sampleAt s.tk.now → Runs .heartbeatSample s fun t =>
      (t.lease l).st = .lost ∧ (t.lease l).session = 0 ∧ t.tk.now = max s.tk.now (boundary 1000000 s.ar.sampleAt s.tk.now)) ∧
  (∀ s l, s.power = .on → l < 4 → (s.lease l).st = .active → (s.lease l).beat ≠ (s.lease l).sampled →
    (s.lease l).claimed = (s.lease l).session → 0 < (s.lease l).term → Runs .heartbeatSample s fun t =>
      (t.lease l).st = .active ∧ (t.lease l).renewed = max s.tk.now (boundary 1000000 s.ar.sampleAt s.tk.now)) ∧
  (∀ s, s.power = .on → s.isOn 5 = true → s.isOn 6 = true → s.isOn 7 = true → s.ar.trained = false → s.ar.fail = none →
    s.ar.railsLow = false → Runs (.archiveTrainingDone none) s fun t => t.ar.trained = true ∧ t.ar.fail = none ∧ t.ar.zeroQ.head? = some (fillFirst s)) ∧
  (∀ s c, s.power = .on → s.isOn 5 = true → s.isOn 6 = true → s.isOn 7 = true → s.ar.trained = false → s.ar.fail = none →
    s.ar.railsLow = false →
    Runs (.archiveTrainingDone (some c)) s fun t => t.ar.fail = some (c % 2) ∧ t.ar.trained = false ∧ Raised s t .ar 0 4 2 [(c % 2 : Nat)]) ∧
  (∀ s w rest, s.power = .on → s.mm.back = w :: rest → Runs .eccWriteBack s fun t => t.mm.back = rest) ∧
  (∀ s, s.power = .on → scrubEn s = true → s.mm.scrubbing = false → Runs .scrubPassStart s fun t =>
    t.mm.scrubbing = true ∧ t.mm.smacro = 0 ∧ t.mm.sword = 0 ∧ t.mm.corrected = 0) ∧
  (∀ s d words, s.power = .on → scrubEn s = true → s.mm.scrubbing = true → macroInfo s.variant s.mm.smacro = some (d, words) →
    s.mm.sword + 1 < words → scrubKind s s.mm.smacro s.mm.sword 0 = 0 → Runs (.scrubAccess 0) s fun t =>
      t.mm = { s.mm with sword := s.mm.sword + 1, scrubAt := t.tk.clk } ∧ t.regs = s.regs ∧
        (0 < s.mm.sword → s.mm.scrubAt + scrubGap s s.mm.smacro ≤ t.tk.clk)) ∧
  (∀ s d words k, s.power = .on → scrubEn s = true → s.mm.scrubbing = true → macroInfo s.variant s.mm.smacro = some (d, words) →
    s.mm.sword + 1 < words → scrubKind s s.mm.smacro s.mm.sword k = 2 → s.mm.ue.has s.mm.smacro = false →
    Runs (.scrubAccess k) s fun t => t.mm.ue.find s.mm.smacro = some s.mm.sword ∧ Counted s t 0x4F01C ∧ t.mm.sword = s.mm.sword + 1) ∧
  (∀ s d words, s.power = .on → scrubEn s = true → s.mm.scrubbing = true → macroInfo s.variant s.mm.smacro = some (d, words) →
    s.mm.sword + 1 < words → scrubKind s s.mm.smacro s.mm.sword 1 = 1 → Runs (.scrubAccess 1) s fun t =>
      t.mm.back = s.mm.back ++ [(s.mm.smacro, s.mm.sword)] ∧ Counted s t 0x4F018 ∧ t.mm.sword = s.mm.sword + 1) ∧
  (∀ s f, s.power = .on → s.isOn 5 = true → s.isOn 6 = true → s.isOn 7 = true → s.ar.trained = false → s.ar.fail = none →
    s.ar.railsLow = true → Runs (.archiveTrainingDone f) s fun t => t.ar.fail = some 0 ∧ t.ar.trained = false ∧ Raised s t .ar 0 4 2 [0])

/-- The ring engine (chapter 07): polls, fetches, completions and host loss have their effect. -/
def Obligations.RingEngineCommandsComplete : Prop :=
  (∀ s, s.power = .on → polling s = true → (∀ q ∈ s.hl.reqs, q.issuer ≠ .poll) → s.readRoom = true → dmaTurn s 1 = true →
    Runs .doorbellPoll s fun t => t.rg.pollAt = t.tk.now ∧ t.tk.now = max s.tk.now (boundary (pollUsW s * 1000) s.rg.pollAt s.tk.now) ∧
      ∃ q, t.hl.reqs = s.hl.reqs ++ [q] ∧ q.issuer = .poll ∧ q.addr = s.rg.dblAddr ∧ q.len = 64) ∧
  (∀ s q line, s.power = .on → s.hl.inbox.find? (fun e => e.1.issuer == .poll) = some (q, line) → Runs .doorbellLineArrival s fun t =>
    t.rg.beat = w32 (leAt line 0 4) ∧
      (w32 (leAt line 0 4) ≠ s.rg.beat → t.rg.timer = some s.tk.clk ∧ t.rg.hostLost = false) ∧
      (w32 (leAt line 0 4) = s.rg.beat → (∀ t0, s.rg.timer = some t0 → s.tk.clk < t0 + lossTime s) →
        t.rg.timer = s.rg.timer ∧ t.rg.hostLost = s.rg.hostLost)) ∧
  (∀ s q line t0, s.power = .on → s.hl.inbox.find? (fun e => e.1.issuer == .poll) = some (q, line) → s.rg.timer = some t0 →
    t0 + lossTime s ≤ s.tk.clk → Runs .doorbellLineArrival s fun t => Raised s t .rg 0 0 1 [] ∧
      (w32 (leAt line 0 4) ≠ s.rg.beat → Raised s t .rg 0 1 1 [] ∧ t.rg.hostLost = false) ∧
      (w32 (leAt line 0 4) = s.rg.beat → t.rg.hostLost = true)) ∧
  (∀ s q d r, s.power = .on → s.hl.inbox = [(q, d)] → q.issuer = .descFetch r (s.ring r).nextArr 1 → d.length = 64 →
    (s.ring r).running = true → (s.ring r).error = false → (s.ring r).stopping = none →
    dPhase d = phaseOf (s.ring r).log2E (s.ring r).nextArr → Runs .descriptorArrival s fun t =>
      (t.ring r).fetched = (s.ring r).fetched ++ [((s.ring r).nextArr, d)] ∧ t.hl.inbox = []) ∧
  (∀ s r d o, Turn s r d → badHeader d = some o → Runs (.badDescriptor r) s fun t => Done t r d .badDesc 0) ∧
  (∀ s r c, s.power = .on → (s.ring r).cpl = some c → cqFull (s.ring r) = false → s.canDma 0 = true → dmaTurn s 1 = true →
    (s.ring r).stopping = none → (s.ring r).error = false → (s.ring r).exec = none → Runs (.completionWrite r) s fun t =>
      (t.ring r).cpl = none ∧ (t.ring r).cqCount = ((s.ring r).cqCount + 1) % 65536 ∧
        (t.ring r).crCount = ((s.ring r).crCount + 1) % 65536) ∧
  (∀ s r c st, s.power = .on → (s.ring r).cpl = some c → (s.ring r).stopping = some st → (s.ring r).exec = none → (s.ring r).again = false →
    (s.ring r).running = true → Runs (.completionWaitExpiry r) s fun t =>
      (t.ring r).cpl = none ∧ (t.ring r).running = false ∧ t.rg.lost = (s.rg.lost + 1) % 256 ∧ Raised s t .rg 0 6 1 []) ∧
  (∀ s v, s.power = .on → v < 4 → (s.ring v).unsig ≠ 0 → s.canSend 0 = true → (s.fn 0).masked v = false → Runs (.moderationTimeout v) s fun t =>
    (t.ring v).unsig = 0 ∧ (s.ring v).unsigAt + fld (ringCfg s v) 8 10 * 1000 ≤ t.tk.clk ∧ ∃ a w x, t.tx = .msix 0 v a w x :: s.tx) ∧
  (∀ s n, s.power = .on → n < 8 → (s.strip n).unsig ≠ 0 → Runs (.moderationTimeout (4 + n)) s fun t =>
    (t.strip n).unsig = 0 ∧ (s.strip n).unsigAt + fld (nsMod s n) 8 10 * 1000 ≤ t.tk.clk) ∧
  (∀ s t0, s.power = .on → s.rg.timer = some t0 → Runs .hostLoss s fun t =>
    t.rg.hostLost = true ∧ t.rg.timer = none ∧ t0 + lossTime s ≤ t.tk.clk ∧ Raised s t .rg 0 0 1 [])

/-- What host loss asks of each channel (chapter 07, R240). -/
def Obligations.HostLossAppliesPolicies : Prop :=
  ∀ s t t0 n, s.power = .on → s.rg.timer = some t0 → n < s.variant.channels → s.present n = true → (s.ch n).queued = false →
    exec .hostLoss s = .next t →
      (hostPolicy (advanceClk (t0 + lossTime s) s) n = 0 → t.ch n = s.ch n) ∧
      (hostPolicy (advanceClk (t0 + lossTime s) s) n = 1 → (s.ch n).st = .running → (t.ch n).cmds = { (s.ch n).cmds with hold := true }) ∧
      (2 ≤ hostPolicy (advanceClk (t0 + lossTime s) s) n → (s.ch n).st = .running ∨ (s.ch n).st = .held →
        (t.ch n).cmds = { (s.ch n).cmds with hostFade := true }) ∧
      ((s.ch n).st = .dark → t.ch n = s.ch n)

/-- Channel commands of the rings (chapters 08, 11, 13 and 22): each, where its channel can take it, has its effect and ends, or
stays in execution until the boundary that ends it. -/
def Obligations.ChannelRingCommandsComplete : Prop :=
  (∀ s r d, Begins s r d 0x00 → Runs (.nop r) s fun t => Done t r d .ok 0) ∧
  (∀ s r d, Begins s r d 0x10 → s.present (dTarget d) = true → (s.ch (dTarget d)).armed = false → Runs (.loadRecipe r) s fun t =>
    InStage t r d .fetching ∧ t.chs = s.chs) ∧
  (∀ s r d, Begins s r d 0x11 → s.present (dTarget d) = true → staleGen s d = false → (s.ch (dTarget d)).armed = false →
    (s.ch (dTarget d)).st = .dark → Runs (.swapBank r) s fun t =>
      (t.ch (dTarget d)).active = 1 - (s.ch (dTarget d)).active ∧ Done t r d .ok 2) ∧
  (∀ s r d, Begins s r d 0x11 → s.present (dTarget d) = true → staleGen s d = false → (s.ch (dTarget d)).armed = false →
    (s.ch (dTarget d)).st ≠ .dark → dU8 d 0x10 = 0 → Runs (.swapBank r) s fun t =>
      (t.ch (dTarget d)).armed = true ∧ (t.ch (dTarget d)).active = (s.ch (dTarget d)).active ∧ Done t r d .ok 1) ∧
  (∀ s r d, Begins s r d 0x12 → s.present (dTarget d) = true → (s.ch (dTarget d)).st = .dark → startFault s (dTarget d) = none →
    Runs (.start r) s fun t =>
      (t.ch (dTarget d)).cmds.start = some
          { entry := dU16 d 0x10, prio := dU8 d 0x12, vars := [(0, dS32 d 0x14), (1, dS32 d 0x18), (2, dS32 d 0x1C), (3, dS32 d 0x20)] } ∧
        (t.ch (dTarget d)).st = .dark ∧ (t.ch (dTarget d)).vars = (s.ch (dTarget d)).vars ∧ InStage t r d .waiting) ∧
  (∀ s r d k, Begins s r d 0x12 → s.present (dTarget d) = true → (s.ch (dTarget d)).st = .dark → startFault s (dTarget d) = some k →
    Runs (.start r) s fun t => (t.ch (dTarget d)).cmds.start = (s.ch (dTarget d)).cmds.start ∧ Done t r d .fault 0) ∧
  (∀ s r d, Begins s r d 0x12 → s.present (dTarget d) = true → (s.ch (dTarget d)).st = .fading → Runs (.start r) s fun t =>
    (t.ch (dTarget d)).queued = true ∧ InStage t r d .queued) ∧
  (∀ s r d, Begins s r d 0x13 → s.present (dTarget d) = true → staleGen s d = false → (s.ch (dTarget d)).st = .running →
    Runs (.hold r) s fun t => (t.ch (dTarget d)).cmds.hold = true ∧ InStage t r d .waiting) ∧
  (∀ s r d, Begins s r d 0x14 → s.present (dTarget d) = true → staleGen s d = false → (s.ch (dTarget d)).st = .held →
    Runs (.resume r) s fun t => (t.ch (dTarget d)).cmds.resume = true ∧ InStage t r d .waiting) ∧
  (∀ s r d, Begins s r d 0x15 → s.present (dTarget d) = true → staleGen s d = false →
    (s.ch (dTarget d)).st = .running ∨ (s.ch (dTarget d)).st = .held → Runs (.abort r) s fun t =>
      (t.ch (dTarget d)).cmds.abort = true ∧ InStage t r d .waiting) ∧
  (∀ s r d, Begins s r d 0x16 → s.present (dTarget d) = true → staleGen s d = false → s.isOn (ciDom (dTarget d)) = true →
    Runs (.presetExposure r) s fun t => (t.ch (dTarget d)).preset = some { value := dS64 d 0x10, at_ := s.tk.clk }) ∧
  (∀ s r d p, Begins s r d 0x17 → s.present (dTarget d) = true → dU8 d 0x10 = 1 → s.isOn (miDom (dTarget d)) = true →
    (s.mi (dTarget d)).last = some p → Runs (.snapshot r) s fun t =>
      InStage t r d (.records p.time) ∧ ∃ m ∈ t.sp.making.drop s.sp.making.length, m.1 = prodMi (dTarget d) ∧ m.2.snapshot = true ∧
        m.2.src = dTarget d) ∧
  (∀ s r d, Begins s r d 0x20 → s.present (dTarget d) = true → dU8 d 0x10 = 1 → (s.ch (dTarget d)).gang = false →
    (s.ch (dTarget d)).st = .dark → (s.ch (dTarget d + 1)).st = .dark →
    (∀ k ∈ [ciDom (dTarget d), ciDom (dTarget d + 1), miDom (dTarget d), miDom (dTarget d + 1)], s.isOn k = true) →
    Runs (.gang r) s fun t => (t.ch (dTarget d)).gang = true ∧ (t.ch (dTarget d)).phase 2 = (s.ch (dTarget d + 1)).phase 0 ∧
      (t.ch (dTarget d)).phase 3 = (s.ch (dTarget d + 1)).phase 1 ∧ Done t r d .ok 0) ∧
  (∀ s r d, Begins s r d 0x21 → s.present (dTarget d) = true → (s.ch (dTarget d)).st = .dark → (s.ch (dTarget d)).gang = false →
    s.isOn (ciDom (dTarget d)) = true → s.isOn (miDom (dTarget d)) = true → Runs (.chPark r) s fun t =>
      (t.dom (ciDom (dTarget d))).st = .down ∧ (t.dom (miDom (dTarget d))).st = .down ∧
        InStage t r d (.domains [ciDom (dTarget d), miDom (dTarget d)])) ∧
  (∀ s r d, Begins s r d 0x22 → s.present (dTarget d) = true → (s.ch (dTarget d)).gang = false → (s.dom (ciDom (dTarget d))).st = .fenced →
    s.isOn (miDom (dTarget d)) = true → Runs (.chReadmit r) s fun t =>
      (t.dom (ciDom (dTarget d))).st = .up ∧ (t.dom (ciDom (dTarget d))).readmit = true ∧ InStage t r d (.domains [ciDom (dTarget d)])) ∧
  (∀ s r d, Begins s r d 0x31 → s.present (dTarget d) = true → staleGen s d = false → Runs (.prioritySet r) s fun t =>
    (t.ch (dTarget d)).prio = dU8 d 0x10 ∧ Done t r d .ok 0) ∧
  (∀ s r d, Begins s r d 0x71 → dTarget d ≠ 0xFFFF → s.present (dTarget d) = true → (s.ch (dTarget d)).st = .dark →
    (∀ b ∈ [2, 8], chFaultEnded s (dTarget d) b = true) → Runs (.clearFault r) s fun t =>
      (t.ch (dTarget d)).faults = 0 ∧ (t.ch (dTarget d)).st = .dark ∧ Done t r d .ok (faultMask (s.ch (dTarget d)))) ∧
  (∀ s r d, Begins s r d 0x71 → dTarget d = 0xFFFF → s.sb.cls ≠ 0 → s.sb.fresh = [] → stopEnded s = true → s.ez.safeHeld = false →
    fieldLatched s = false → Runs (.clearFault r) s fun t =>
    t.sb.cls = 0 ∧ t.sb.sources = 0 ∧ Raised s t .sb 0 2 0 []) ∧
  (∀ s r d, Begins s r d 0x72 → dU8 d 0x10 = 1 → s.sb.cls = 0 → Runs (.selftest r) s fun t => InStage t r d .waiting) ∧
  (∀ s r e mask, s.power = .on → (s.ring r).exec = some e → dOp e.d = 0x72 → dU8 e.d 0x10 = 1 →
    Runs (.selftestFinished r mask []) s fun t => Done t r e.d .ok (mask % 8) ∧
      (mask % 8 ≠ 7 → Raised s t .sb 0 6 2 [1, (dTarget e.d : Nat), (mask % 8 : Nat)])) ∧
  (∀ s r d, Begins s r d 0x70 → dU8 d 0x11 = 0 → Runs (.stop r) s fun t =>
    dU8 d 0x10 ≤ t.sb.cls ∧ bitOf (w32 t.sb.sources) 1 = true ∧ Done t r d .ok 0)

/-- Settings that the rings bring (chapter 08): limits, coefficients, budgets, fusion, tables, and the presence guards of
SET_LIMITS and SET_CAL. -/
def Obligations.SettingRingCommandsComplete : Prop :=
  (∀ s r d, Begins s r d 0x28 → s.present (dTarget d) = true → s.pres.window ≠ none → Runs (.setLimits r) s fun t =>
    t.wr (selKey (dvKey (dTarget d) 0x14) 0) 0 = wInt (dS32 d 0x10) ∧ t.wr (selKey (dvKey (dTarget d) 0x14) 1) 0 = wInt (dS32 d 0x14) ∧
      t.wr (selKey (dvKey (dTarget d) 0x14) 2) 0 = wInt (dU32 d 0x18) ∧ t.wr (selKey (dvKey (dTarget d) 0x14) 5) 0 = wInt (dS16 d 0x22) ∧
      Done t r d .ok 0) ∧
  (∀ s r d, Begins s r d 0x28 → s.present (dTarget d) = true → s.pres.window = none → Runs (.setLimits r) s fun t =>
    t.regs.val = s.regs.val ∧ Counted s t 0x52008 ∧ Done t r d .deniedPresence 0) ∧
  (∀ s r d, Begins s r d 0x29 → s.present (dTarget d) = true → missingPs s = 0 → Runs (.setCal r) s fun t =>
    (∀ q < 3, dU8 d 0x10 / 2 ^ q % 2 = 1 → t.wr (selKey (msKey (dTarget d) 0x14) q) 0 = w32 (dU32 d (0x14 + 8 * q)) ∧
      t.wr (selKey (msKey (dTarget d) 0x18) q) 0 = w32 (dU32 d (0x18 + 8 * q))) ∧ InStage t r d .waiting) ∧
  (∀ s r d, Begins s r d 0x29 → s.present (dTarget d) = true → missingPs s ≠ 0 → Runs (.setCal r) s fun t =>
    t.regs.val = s.regs.val ∧ Counted s t 0x52008 ∧ Done t r d .deniedPresence 0) ∧
  (∀ s r d, Begins s r d 0x30 → Runs (.budgetSet r) s fun t =>
    t.wr (if dU8 d 0x10 = 0 then 0x46010 else 0x46014) 0 = w32 (dU32 d 0x14) ∧ InStage t r d .waiting) ∧
  (∀ s r d, Begins s r d 0x39 → Runs (.fusionSet r) s fun t =>
    t.wr 0x48004 0 = w32 (at_ 16 10 (dU16 d 0x10) + at_ 8 1 (dU8 d 0x12) + at_ 0 8 (dU8 d 0x13)) ∧
      fld (t.wr 0x48008 0) 0 14 = dU16 d 0x14 ∧ InStage t r d .waiting) ∧
  (∀ s r d, Begins s r d 0x3A → s.isOn 10 = true → Runs (.gradeSet r) s fun t => InStage t r d .fetching ∧ t.fx = s.fx) ∧
  (∀ s r d, Begins s r d 0x5B → s.isOn 14 = true → Runs (.sensorSchedule r) s fun t => InStage t r d .fetching ∧ t.en = s.en) ∧
  (∀ s r e q bytes, s.power = .on →
    s.hl.inbox.find? (fun x => match x.1.issuer with | .table _ => true | _ => false) = some (q, bytes) → q.issuer = .table r →
    (s.ring r).exec = some e → e.stage = .fetching → dOp e.d = 0x10 → crc32 bytes = dU32 e.d 0x1C → dU16 e.d 0x1A + dU16 e.d 0x18 ≤ 512 →
    Runs .tableFetchDone s fun t =>
      (∀ k < dU16 e.d 0x18, (t.ch (dTarget e.d)).bank.get ((1 - (s.ch (dTarget e.d)).active) * 512 + (dU16 e.d 0x1A + k)) 0 =
        BitVec.ofNat 64 (ofBytes ((bytes.drop (k * 8)).take 8))) ∧
      (t.ch (dTarget e.d)).active = (s.ch (dTarget e.d)).active ∧ Done t r e.d .ok (crc32 bytes)) ∧
  (∀ s r e q bytes, s.power = .on →
    s.hl.inbox.find? (fun x => match x.1.issuer with | .table _ => true | _ => false) = some (q, bytes) → q.issuer = .table r →
    (s.ring r).exec = some e → e.stage = .fetching → crc32 bytes ≠ dU32 e.d 0x1C → Runs .tableFetchDone s fun t =>
      t.chs = s.chs ∧ Done t r e.d .fault 0)

/-- Strips, leases, the archive copy and fixtures, as the rings command them (chapters 08 to 10, 15 and 17 to 20). -/
def Obligations.HostRingCommandsComplete : Prop :=
  (∀ s r d, Begins s r d 0x38 → dU8 d 0x20 = 1 → (s.strip (dTarget d)).bound = false → Runs (.stripBind r) s fun t =>
    (t.strip (dTarget d)).bound = true ∧ (t.strip (dTarget d)).base = dU64 d 0x10 ∧ (t.strip (dTarget d)).slots = dU32 d 0x18 ∧
      Done t r d .ok 0) ∧
  (∀ s r d, Begins s r d 0x40 → needTake s = none → (s.lease (dTarget d)).st ≠ .active → dU8 d 0x18 = 0 →
    (∀ x ∈ dExtents d, (s.ext x).held = none ∧ (s.ext x).st ≠ .unzeroed ∧ (s.ext x).st ≠ .zeroing) →
    Runs (.leaseTake r) s fun t =>
      (t.lease (dTarget d)).st = .active ∧ (t.lease (dTarget d)).session = s.ar.nextSession ∧ (t.lease (dTarget d)).renewed = s.tk.now ∧
        (∀ x ∈ dExtents d, (t.ext x).held = some (dTarget d, false)) ∧ Done t r d .ok s.ar.nextSession) ∧
  (∀ s r d, Begins s r d 0x41 → needLease s = none → (s.lease (dTarget d)).st = .active → (s.lease (dTarget d)).session = dU32 d 0x1C →
    Runs (.leaseRenew r) s fun t => (t.lease (dTarget d)).renewed = s.tk.now ∧ (t.lease (dTarget d)).term = dU32 d 0x14 ∧
      (t.lease (dTarget d)).st = .active ∧ Done t r d .ok (dU32 d 0x1C)) ∧
  (∀ s r d, Begins s r d 0x42 → needLease s = none → (s.lease (dTarget d)).st = .active → (s.lease (dTarget d)).session = dU32 d 0x1C →
    Runs (.leaseDrop r) s fun t => Done t r d .ok 0 ∧ ∀ x ∈ dExtents d, ∀ rw, (t.ext x).held ≠ some (dTarget d, rw)) ∧
  (∀ s r d, Begins s r d 0x43 → s.ar.fail = none → Runs (.archiveCopy r) s fun t => InStage t r d (.copied 0)) ∧
  (∀ s r e words, s.power = .on → (s.ring r).exec = some e → dOp e.d = 0x43 → e.stage = .copied 0 → s.canDma 0 = true → dmaTurn s 4 = true →
    (∀ k < dU32 e.d 0x20 / 64, linePoison s (dU64 e.d 0x10 + 64 * k) = false) →
    Runs (.archiveCopyDone r words none) s fun t => Done t r e.d .ok (dU32 e.d 0x20 / 64 * 64)) ∧
  (∀ s r e words k, s.power = .on → (s.ring r).exec = some e → dOp e.d = 0x43 → e.stage = .copied 0 → s.canDma 0 = true →
    dmaTurn s 4 = true → (∀ k < dU32 e.d 0x20 / 64, linePoison s (dU64 e.d 0x10 + 64 * k) = false) → k < dU32 e.d 0x20 / 64 →
    Runs (.archiveCopyDone r words (some k)) s fun t => Done t r e.d .fault (64 * k) ∧ Counted s t 0x45044 ∧
      t.ar.ueLines.has ((dU64 e.d 0x10 + 64 * k) / 64 * 64) = true ∧ Raised s t .hl 0 10 1 []) ∧
  (∀ s r d, Begins s r d 0x50 → needValve d s = none → ezReady s = true → valveBusy s (dTarget d) = false → Runs (.valveLoad r) s fun t =>
    InStage t r d .fetching) ∧
  (∀ s r d, Begins s r d 0x51 → needValve d s = none → ezReady s = true → dU8 d 0x10 = 1 → valveBusy s (dTarget d) = false →
    fld (s.ez.slots.get (0x40 + dTarget d) 0) 5 1 = 0 → s.ez.safeRep = false → s.ez.safeHeld = false → Runs (.valveRun r) s fun t =>
      InStage t r d .waiting ∧ ∃ c, t.ez.cmds = s.ez.cmds ++ [c] ∧ c.ring = r ∧ c.run = some (dTarget d, true) ∧
        c.slots = [(0x50 + dTarget d, w32 (dU8 d 0x11))]) ∧
  (∀ s r d, Begins s r d 0x52 → needField s = none → ezReady s = true → Runs (.switchSet r) s fun t =>
    InStage t r d .waiting ∧ ∀ n < 16, bitOf (t.wr 0x4A008 0) n =
      if bitOf (w32 (dU16 d 0x10)) n then bitOf (w32 (dU16 d 0x12)) n else bitOf (s.wr 0x4A008 0) n) ∧
  (∀ s r d, Begins s r d 0x53 → needField s = none → ezReady s = true → Runs (.fieldSet r) s fun t =>
    InStage t r d .waiting ∧ t.wr 0x4A01C 0 = w32 (dU32 d 0x10) ∧ t.wr 0x4A020 0 = w32 (dU32 d 0x14) ∧ t.wr 0x4A024 0 = w32 (dU8 d 0x18)) ∧
  (∀ s r d, Begins s r d 0x58 → s.isOn 13 = true → fld (cnConfig s (dTarget d)) 0 2 = 1 → (s.can (dTarget d)).sleep = false →
    (s.can (dTarget d)).st ≠ .busOff → Runs (.canSend r) s fun t => (t.can (dTarget d)).sending = true ∧ InStage t r d .waiting) ∧
  (∀ s r d, Begins s r d 0x59 → dU8 d 0x11 ≠ 2 → Runs (.canFilter r) s fun t =>
    (t.can (dTarget d)).filters.find (dU8 d 0x10) =
      some { action := dU8 d 0x11, id := dU32 d 0x14, mask := dU32 d 0x18, data := dU64 d 0x1C, dmask := dU64 d 0x24 } ∧
    Done t r d .ok 0) ∧
  (∀ s r d, Begins s r d 0x5A → s.isOn 14 = true → Runs (.encSet r) s fun t =>
    (t.enc (dTarget d)).mode = dU8 d 0x10 ∧ (t.enc (dTarget d)).lo = dS32 d 0x14 ∧ (t.enc (dTarget d)).hi = dS32 d 0x18 ∧ Done t r d .ok 0) ∧
  (∀ s r d, Begins s r d 0x60 → (s.jl.st = .master ∨ s.jl.st = .member ∧ framed s = true) → portState s 0 = .up →
    dTarget d ≠ s.jl.idInUse → Runs (.jlUser r) s fun t => InStage t r d .acted ∧ t.jl.out.length = s.jl.out.length + 1) ∧
  (∀ s r d, Begins s r d 0x60 → s.jl.st = .member → framed s = false → portState s 0 = .up → dTarget d ≠ s.jl.idInUse → s.jl.out = [] →
    s.jl.sentAt.find 10 = none → Runs (.jlUser r) s fun t => Done t r d .ok 0 ∧ t.jl.out = [])

/-- The spools and their strips (chapter 09): commits, forwarding, slots, tail reads, stalls and rewind reads have their effect.
-/
def Obligations.SpoolCommandsComplete : Prop :=
  (∀ s prod spool r rest, s.power = .on → s.isOn 4 = true → s.sp.making = (prod, r) :: rest → r.snapshot = false →
    (∀ n, (s.spool n).q = []) → (∀ n, spNext (spConfig s) n = none) → (∀ n < 16, 1 < spAf s n) → s.staged prod (routeOf s r.src) = [] →
    SpoolsStill s → fillEn s = false → Runs (.recordCommit prod spool []) s fun t => t.sp.making = rest ∧
      ∃ g, (t.spool (routeOf s r.src)).q = [g] ∧ g.r = { r with seq := s.sp.srcSeq.get (r.src * 8 + r.kind) 0 } ∧ g.origin = routeOf s r.src) ∧
  (∀ s prod spool r rest, s.power = .on → s.isOn 4 = false → s.sp.making = (prod, r) :: rest → Runs (.recordCommit prod spool []) s fun t =>
    t.sp = { s.sp with making := rest } ∧ t.regs.cnt.get cntXing 0 = min 0xFFFFFFFF (s.regs.cnt.get cntXing 0 + (recWords r).length)) ∧
  (∀ s prod spool w, s.power = .on → s.isOn 4 = true → prodPresent s prod = true → s.isOn (prodDom prod) = true →
    s.staged prod (headOf s spool) = [] → Runs (.recordCommit prod spool [(1, w)]) s fun t =>
      t.staged prod (headOf s spool) = [w] ∧ t.sp.making = s.sp.making) ∧
  (∀ s prod spool w, s.power = .on → s.isOn 4 = true → prodPresent s prod = true → s.isOn (prodDom prod) = true →
    s.staged prod (headOf s spool) = [] → Runs (.recordCommit prod spool [(0, w)]) s fun t => t.staged prod (headOf s spool) = [] ∧
      Raised s t .sp (headOf s spool) 0x23 1 [headOf s spool, prodSource prod, 1]) ∧
  (∀ s n m g q rest, s.power = .on → (s.spool n).q = g :: q → g.wr = none → g.path = m :: rest → m ≠ n → (s.spool m).q.length < 512 →
    g.blank = false → SpoolsStill s → Runs (.cascadeForward n false) s fun t =>
      (t.spool n).q = q ∧ (t.spool m).q = (s.spool m).q ++ [{ g with path := rest }]) ∧
  (∀ s n m g q rest, s.power = .on → (s.spool n).q = g :: q → g.wr = none → g.path = m :: rest → m ≠ n → (s.spool m).q.length < 512 →
    SpoolsStill s → Runs (.cascadeForward n true) s fun t => (t.spool n).q = q ∧ (t.spool m).q = (s.spool m).q ∧
      (g.blank = false → Counted s t 0x4F01C) ∧ (g.blank = true → Counted s t 0x4F020)) ∧
  (∀ s n slot q data k, s.power = .on →
    s.hl.inbox.find? (fun e => e.1.issuer.isTail) = some (q, data) →
    q.issuer = .tail n slot → (s.strip n).bound = true → (s.strip n).error = false → (s.strip n).releasing = false →
    k < (s.strip n).looks.length → k < (s.strip n).slots → (s.strip n).next < (s.strip n).slots →
    slot = ((s.strip n).next + k) % (s.strip n).slots → Runs .tailReadComplete s fun t =>
      (t.strip n).looks[k]? = some (if leAt data 7 1 = 0 then .free else .owned s.tk.clk) ∧ (t.strip n).next = (s.strip n).next) ∧
  (∀ s n g q k more, s.power = .on → (s.spool n).q = g :: q → g.wr = none → g.path = [] → g.blank = false → stripOf s g = some k →
    (s.strip k).error = false → (s.strip k).releasing = false → stripAvailable s k = true → (s.strip k).looks = .free :: more →
    dmaTurn s g.r.dmaClass = true → Runs (.slotWrite n false) s fun t =>
      (t.spool n).q.head? = some { g with wr := some (some k, s.sp.issued + 1) } ∧
        (t.strip k).next = ((s.strip k).next + 1) % (s.strip k).slots ∧ (t.strip k).seq = ((s.strip k).seq + 1) % 2 ^ 32 ∧
        more <+: (t.strip k).looks ∧ (t.strip k).lastWrite = some (s.tk.clk, s.sp.issued + 1)) ∧
  (∀ s n g q, s.power = .on → (s.spool n).q = g :: q → g.wr = none → g.path = [] → SpoolsStill s → Runs (.slotWrite n true) s fun t =>
    (t.spool n).q = q ∧ (g.blank = false → Counted s t 0x4F01C) ∧ (g.blank = true → Counted s t 0x4F020)) ∧
  (∀ s n t0 more, s.power = .on → (s.strip n).looks = .owned t0 :: more → (s.strip n).bound = true → (s.strip n).error = false →
    stripAvailable s n = true → s.readRoom = true → tailsOut s n < 4 → dmaTurn s (tailClass s n) = true → Runs (.stallReread n) s fun t =>
      (t.strip n).looks = .again :: more ∧ t0 + 2000 ≤ t.tk.clk ∧
        ∃ q, t.hl.reqs = s.hl.reqs ++ [q] ∧ q.issuer = .tail n (s.strip n).next) ∧
  (∀ s n t0, s.power = .on → (s.strip n).stall = some t0 → (s.strip n).stallSaid = false → Runs (.stripStall n) s fun t =>
    (t.strip n).stallSaid = true ∧ Raised s t .sp 0 0x24 1 [n, (s.strip n).next] ∧ t0 + 1000000 ≤ t.tk.clk) ∧
  (∀ s n t0 m, s.power = .on → (s.strip n).lastWrite = some (t0, m) → (s.strip n).bound = true → (s.strip n).error = false →
    stripAvailable s n = true → tailsOut s n < 4 → s.readRoom = true → dmaTurn s (tailClass s n) = true → Runs (.rewindTailRead n) s fun t =>
      (t.strip n).lastWrite = none ∧ t0 + 8000 ≤ t.tk.clk ∧
        ∃ q, t.hl.reqs = s.hl.reqs ++ [q] ∧ q.issuer =
          .tail n (if lookDue s n then ((s.strip n).next + (s.strip n).looks.length) % (s.strip n).slots else (s.strip n).next))

/-- The power path of a channel (chapter 11): a period boundary, trips, driver faults, retries and the discharge wait have their
effect. -/
def Obligations.PowerPathCommandsComplete : Prop :=
  (∀ s n codes, s.power = .on → s.present n = true → s.isOn (ciDom n) = true → (s.ch n).st = .dark → (s.ch n).cmds.start = none →
    Runs (.pwmPeriodBoundary n codes) s fun t => (t.ch n).periods = (s.ch n).periods + 1 ∧ (t.ch n).st = .dark ∧ (t.ch n).ic = 0) ∧
  (∀ s n codes, s.power = .on → s.present n = true → s.isOn (ciDom n) = true → (s.ch n).st = .running → (s.ch n).cmds.hold = true →
    (s.ch n).cmds.abort = false → (s.ch n).cmds.hostFade = false → (inService s n).isEmpty = false →
    s.regs.pend.has (dvKey n 0x20) = false →
    s.mm.bad = [] → (∀ j, ((s.ch n).phase j).found = 0 ∧ ((s.ch n).phase j).runRail < 7 ∧ ∀ w ∈ ((s.ch n).phase j).stuck, w.2 < 7) →
    (s.ch n).limRun.get 2 0 < 3 → (s.ch n).limRun.get 3 0 < 3 → Runs (.pwmPeriodBoundary n codes) s fun t =>
      (t.ch n).st = .held ∧ (t.ch n).cmds.hold = false ∧ (t.ch n).ic = 0 ∧ (t.ch n).step = (s.ch n).step) ∧
  (∀ s n j ua at_ lasts, s.power = .on → s.present n = true → s.isOn (ciDom n) = true → (s.ch n).phaseList.contains j = true →
    phEn s n j = true → ((s.ch n).phase j).st = .inService → ((s.ch n).phase j).tripped = false → ((s.ch n).phase j).runTrip < 15 →
    tripUa s n < ua.natAbs → at_ < 8 * fld (dvPwm s n) 0 13 →
    (∀ e ∈ ((s.ch n).phase j).allEdges, (at_ : Int) < e ∨ e + blankUnits s n ≤ at_) → Runs (.normalTrip n j ua at_ lasts) s fun t =>
      ((t.ch n).phase j).tripped = true ∧ ((t.ch n).phase j).runTrip = ((s.ch n).phase j).runTrip + 1 ∧
        ((t.ch n).phase j).st = .inService ∧ ((t.ch n).phase j).hi = none ∧ ((t.ch n).phase j).lo = none ∧
        t.regs.cnt.get (dvKey n 0x30) 0 = min 0xFF (s.regs.cnt.get (dvKey n 0x30) 0 + 1)) ∧
  (∀ s n j ua (at_ lasts : Nat) (e : Int), s.power = .on → s.present n = true → s.isOn (ciDom n) = true → (s.ch n).phaseList.contains j = true →
    phEn s n j = true → ((s.ch n).phase j).st = .inService → ((s.ch n).phase j).tripNext = false → ((s.ch n).phase j).runTrip < 15 →
    tripUa s n < ua.natAbs → e ∈ ((s.ch n).phase j).allEdges → (∀ x ∈ ((s.ch n).phase j).allEdges, x ≤ e) →
    e ≤ at_ → (at_ : Int) < e + blankUnits s n → e + blankUnits s n ≤ at_ + lasts →
    8 * fld (dvPwm s n) 0 13 ≤ e + blankUnits s n → e + blankUnits s n < 8 * fld (dvPwm s n) 0 13 + 8 →
    Runs (.normalTrip n j ua at_ lasts) s fun t => ((t.ch n).phase j).tripNext = true ∧
      ((t.ch n).phase j).tripped = ((s.ch n).phase j).tripped ∧ ((t.ch n).phase j).hi = ((s.ch n).phase j).hi ∧
      t.regs.cnt.get (dvKey n 0x30) 0 = min 0xFF (s.regs.cnt.get (dvKey n 0x30) 0 + 1)) ∧
  (∀ s n j ua (at_ lasts : Nat) (e : Int), s.power = .on → s.present n = true → s.isOn (ciDom n) = true →
    (tripUa s n < ua.natAbs → e ∈ ((s.ch n).phase j).allEdges ∧ (∀ x ∈ ((s.ch n).phase j).allEdges, x ≤ e) ∧
      e ≤ at_ ∧ (at_ : Int) < e + blankUnits s n ∧ (at_ : Int) + lasts < e + blankUnits s n) →
    Runs (.normalTrip n j ua at_ lasts) s fun t => t = s) ∧
  (∀ s n j ua, s.power = .on → s.present n = true → s.isOn (ciDom n) = true → (s.ch n).phaseList.contains j = true → phEn s n j = true →
    2 * tripUa s n < ua.natAbs → ((s.ch n).phase j).st = .inService → ((s.ch n).phase j).history = [] →
    (∀ k, k ≠ j → ((s.ch n).phase k).history = [] ∧ ((s.ch n).phase k).st ≠ .retryWait ∧ ((s.ch n).phase k).back = false) →
    fld (s.acting (dvKey n 0x28) 0x0A0A0090) 24 8 ≠ 0 → Runs (.hardTrip n j ua) s fun t =>
      ((t.ch n).phase j).st = .retryWait ∧ ((t.ch n).phase j).waitAt = s.tk.clk ∧ ((t.ch n).phase j).duty = 0 ∧
        Raised s t .dv n 1 2 [(2 * n + j : Nat), ((s.ch n).phase j).avg.floor, ((s.ch n).phase j).share.floor]) ∧
  (∀ s n j, s.power = .on → s.present n = true → (s.ch n).phaseList.contains j = true → s.isOn (ciDom n) = true → phEn s n j = true →
    ((s.ch n).phase j).st = .inService → ((s.ch n).phase j).history = [] →
    (∀ k, k ≠ j → ((s.ch n).phase k).history = [] ∧ ((s.ch n).phase k).st ≠ .retryWait ∧ ((s.ch n).phase k).back = false) →
    fld (s.acting (dvKey n 0x28) 0x0A0A0090) 24 8 = 0 → Runs (.driverFault n j true) s fun t =>
      ((t.ch n).phase j).flt = true ∧ ((t.ch n).phase j).st = .outTrip ∧
        Raised s t .dv n 2 2 [(2 * n + j : Nat), ((s.ch n).phase j).avg.floor, ((s.ch n).phase j).share.floor]) ∧
  (∀ s n j k ua, s.power = .on → s.present n = true → s.isOn (ciDom n) = true → (s.ch n).phaseList.contains j = true → phEn s n j = true →
    ((s.ch n).phase j).st = .inService → (s.ch n).phaseList.contains k = true → k ≠ j → ((s.ch n).phase k).tripNear s.tk.clk = true →
    2 * tripUa s n < ua.natAbs → Runs (.hardTrip n j ua) s fun t =>
      (t.ch n).short = true ∧ ((t.ch n).phase j).st = .outShort ∧ ((t.ch n).phase k).st ≠ .inService) ∧
  (∀ s n j, s.power = .on → s.present n = true → (s.ch n).phaseList.contains j = true → Runs (.driverFault n j false) s fun t =>
    ((t.ch n).phase j).flt = false ∧ ((t.ch n).phase j).st = ((s.ch n).phase j).st) ∧
  (∀ s n j, s.power = .on → s.present n = true → s.isOn (ciDom n) = true → (s.ch n).phaseList.contains j = true →
    ((s.ch n).phase j).st = .retryWait → ((s.ch n).phase j).due = false → (∀ k, k ≠ j → ((s.ch n).phase k).history = []) →
    fld (s.acting (dvKey n 0x28) 0x0A0A0090) 24 8 ≠ 0 → Runs (.phRetry n j) s fun t =>
      ((t.ch n).phase j).st = .retryWait ∧ ((t.ch n).phase j).due = true ∧ retryDue s n ((s.ch n).phase j) ≤ t.tk.clk) ∧
  (∀ s n j codes, s.power = .on → s.present n = true → s.isOn (ciDom n) = true → (s.ch n).st = .dark → (s.ch n).cmds.start = none →
    (s.ch n).phaseList.contains j = true → ((s.ch n).phase j).st = .retryWait → ((s.ch n).phase j).due = true →
    ((s.ch n).phase j).found = 0 → s.regs.pend.has (dvKey n 0x20) = false → s.mm.bad = [] → Runs (.pwmPeriodBoundary n codes) s fun t =>
      ((t.ch n).phase j).st = .inService ∧ ((t.ch n).phase j).back = true ∧ ((t.ch n).phase j).due = false) ∧
  (∀ s n j, s.power = .on → s.present n = true → s.isOn (ciDom n) = true → (s.ch n).phaseList.contains j = true →
    ((s.ch n).phase j).st = .retryWait → ((s.ch n).phase j).due = false →
    fld (s.acting (dvKey n 0x28) 0x0A0A0090) 24 8 = 0 → Runs (.phRetry n j) s fun t => ((t.ch n).phase j).st = .outTrip) ∧
  (∀ s n f t0, s.power = .on → (s.ch n).st = .fading → (s.ch n).fade = some f → f.lowAt = some t0 → (s.ch n).queued = false →
    Runs (.dischargeEnd n) s fun t =>
      (t.ch n).st = .dark ∧ (t.ch n).chen = false ∧ (t.ch n).fade = none ∧ t0 + f.dischNs ≤ t.tk.clk ∧
        (t.ch n).active = if (s.ch n).armed then 1 - (s.ch n).active else (s.ch n).active)

/-- The measurement islands (chapter 12): samples, fast values and autocalibration have their effect. -/
def Obligations.MeasurementCommandsComplete : Prop :=
  (∀ s n w w2 delay, s.power = .on → s.present n = true → s.isOn (miDom n) = true → (s.ch n).gang = false →
    s.mm.bad = [] → (s.mi n).onAt + 250000 ≤ boundary 250000 (s.mi n).endAt s.tk.now →
    boundary 250000 (s.mi n).endAt s.tk.now ≤ localTime (advanceTo (boundary 250000 (s.mi n).endAt s.tk.now) s) (miDom n) + 64 →
    windowValues (boundary 250000 (s.mi n).endAt s.tk.now) ((s.mi n).dec ++ w) ≠ [] → Runs (.sampleWindowEnd n w w2 delay) s fun t =>
      (t.mi n).endAt = boundary 250000 (s.mi n).endAt s.tk.now ∧
        ∃ q, (t.mi n).last = some q ∧ q.time = boundary 250000 (s.mi n).endAt s.tk.now ∧
          q.v = (if q.fastPath then (fastMeans (s.mi n) (s.ch n)).1 else scaleV s n (boundary 250000 (s.mi n).endAt s.tk.now)
            (decMean (fun x => clipAt 6200000 x.v) (windowValues (boundary 250000 (s.mi n).endAt s.tk.now) ((s.mi n).dec ++ w)))) ∧
          q.i = (if q.fastPath then (fastMeans (s.mi n) (s.ch n)).2 else scaleI s n (boundary 250000 (s.mi n).endAt s.tk.now)
            (decMean (fun x => clipAt 55000000 x.sh) (windowValues (boundary 250000 (s.mi n).endAt s.tk.now) ((s.mi n).dec ++ w)))) ∧
          (q.fastPath = false ↔ ((s.mi n).gapSeen || (s.mi n).winAt.isSome || selftesting s n || fastOnly (s.mi n)) = false)) ∧
  (∀ s n v sh sh2, s.power = .on → s.present n = true → s.isOn (miDom n) = true → s.isOn (ciDom n) = true → (s.ch n).gang = false →
    (s.mi n).winAt = none → (s.mi n).modFail / 2 % 2 = 0 → Runs (.fastValue n v sh sh2) s fun t =>
      (t.ch n).vFast = max (-6200000) (min 6200000 v) ∧ (t.mi n).guard = max (-6200000) (min 6200000 v) ∧
        (t.mi n).guardN = (s.mi n).guardN + 1 ∧
        (t.ch n).iShunt = some (scaleI s n (s.tk.now + 1) ((max (-55000000) (min 55000000 sh) : Int) : Rat))) ∧
  (∀ s n v sh sh2, s.power = .on → s.present n = true → s.isOn (miDom n) = true → s.isOn (ciDom n) = false →
    Runs (.fastValue n v sh sh2) s fun t => t.chs = s.chs ∧
      t.regs.cnt.get cntXing 0 = min 0xFFFFFFFF (s.regs.cnt.get cntXing 0 + (1 + openNat s))) ∧
  (∀ s n t0, s.power = .on → s.isOn (miDom n) = true → (s.mi n).calAt = some t0 → (s.mi n).cal = .notDue → Runs (.calDue n) s fun t =>
    (t.mi n).cal = .due ∧ t0 + intervalS s n * 1000000000 ≤ t.tk.clk) ∧
  (∀ s n t0, s.power = .on → s.isOn (miDom n) = true → (s.mi n).calAt = some t0 → (s.mi n).cal = .due → Runs (.calForced n) s fun t =>
    (t.mi n).cal = .forced ∧ t0 + (intervalS s n + 600) * 1000000000 ≤ t.tk.clk ∧
      Raised s t .ms (msOf s n) 2 1 [(calAgeS t n : Nat)]) ∧
  (∀ s n, s.power = .on → (s.mi n).holdoff ≠ 0 → Runs (.calRequestHoldoffEnd n) s fun t =>
    (t.mi n).holdoff = 0 ∧ (s.mi n).holdoff ≤ t.tk.clk) ∧
  (∀ s n, s.power = .on → ((List.range' 1 64).map fun k => (s.ladder.last + k) % 64).find? (wants s) = some n → (s.ch n).gang = false →
    s.ladder.places.length < 4 → Runs .ladderGrant s fun t =>
      t.ladder.places = s.ladder.places ++ [n] ∧ t.ladder.last = n ∧ (t.mi n).winAt = some s.tk.clk) ∧
  (∀ s n t0 x y, s.power = .on → (s.mi n).winAt = some t0 → s.present n = true → s.isOn (miDom n) = true → (s.ch n).gang = false →
    x.err.natAbs ≤ 500 → calDeparture (s.mi n) x = none → Runs (.calWindowEnd n x y) s fun t =>
      (t.mi n).winAt = none ∧ (t.mi n).calAt = some t.tk.clk ∧ (t.mi n).cal = .notDue ∧ (t.mi n).gainPpm.get 0 0 = x.gv ∧
        (t.mi n).gainPpm.get 1 0 = x.gs ∧ (t.mi n).offset.get 0 0 = x.ov ∧ n ∉ t.ladder.places ∧
        Raised s t .ms n 0 0 [(b2n (s.mi n).forcedWin : Nat), satInt 16 x.err, x.gv - (s.mi n).gainPpm.get 0 0]) ∧
  (∀ s n t0 x y, s.power = .on → (s.mi n).winAt = some t0 → s.present n = true → s.isOn (miDom n) = true → (s.ch n).gang = false →
    5000 < x.err.natAbs → Runs (.calWindowEnd n x y) s fun t =>
      (t.mi n).winAt = none ∧ (t.mi n).refLost = true ∧ (t.mi n).gainPpm = (s.mi n).gainPpm ∧ (t.mi n).calAt = (s.mi n).calAt ∧
        Raised s t .ms n 6 2 [satInt 16 x.err]) ∧
  (∀ s n chain, s.power = .on → s.isOn (miDom n) = true → chain ≤ 2 → (s.mi n).modFail / 2 ^ chain % 2 = 0 →
    Runs (.modFault n chain) s fun t =>
      (t.mi n).modFail = (s.mi n).modFail + 2 ^ chain ∧ Raised s t .ms (msOf s n) 12 2 [(chain : Nat)])

/-- The shutter (chapter 14): request words, rounds, grant words and beats have their effect. -/
def Obligations.ShutterCommandsComplete : Prop :=
  (∀ s n, s.power = .on → n < s.variant.channels → s.isOn (ciDom n) = true → s.isOn 8 = true → s.gangOdd n = false →
    s.tk.now ≠ s.sh.roundAt → Runs (.requestWord n) s fun t =>
    (t.shc n).word = some ((envelope s n / 1000000).toNat, (s.ch n).prio, reqW s n) ∧ (t.shc n).seen = true ∧
      (t.shc n).grant = (s.shc n).grant) ∧
  (∀ s n, s.power = .on → n < s.variant.channels → s.isOn (ciDom n) = true → s.isOn 8 = false → Runs (.requestWord n) s fun t =>
    t.sh = s.sh ∧ s.regs.cnt.get cntXing 0 ≤ t.regs.cnt.get cntXing 0) ∧
  (∀ s vbus, s.power = .on → s.isOn 8 = true → s.sh.early = false → Runs (.roundBoundary vbus) s fun t =>
    t.sb.vbus = vbus ∧ t.tk.now = max s.tk.now (boundary 1000 s.sh.roundAt s.tk.now) ∧ t.sh.roundAt = t.tk.now ∧
      ∀ n < s.variant.channels, (t.shc n).word = none ∧ (t.shc n).seen = false) ∧
  (∀ s vbus, s.power = .on → s.isOn 8 = true → s.sh.early = true → s.sh.roundAt = s.tk.now → Runs (.roundBoundary vbus) s fun t =>
    t.sh = { s.sh with early := false } ∧ t.sb.vbus = vbus) ∧
  (∀ s vbus n e p r, s.power = .on → n < s.variant.channels → s.isOn (ciDom n) = true → s.isOn 8 = true → s.sh.early = false →
    boundary 1000 s.sh.roundAt s.tk.now % 4000 ≠ 0 → s.sh.mode = .standalone → s.sh.late = false → (∀ m, m ≠ n → s.shc m = {}) →
    (s.shc n).word = some (e, p, r) → 0 < r → r ≤ shCeil s → (s.shc n).grant = 0 → (s.shc n).lease = 0 →
    Runs (.roundBoundary vbus) s fun t => (t.shc n).grant = r ∧ (t.shc n).lease = 4 ∧ (t.shc n).leaseEnd = t.tk.now + 4000 ∧
      (t.shc n).sent = some r ∧ (t.shc n).age = 0) ∧
  (∀ s vbus n, s.power = .on → n < s.variant.channels → s.isOn (ciDom n) = true → s.isOn 8 = true → s.sh.early = false →
    boundary 1000 s.sh.roundAt s.tk.now % 4000 ≠ 0 → s.sh.late = false → (s.shc n).word = none → (s.shc n).lease = 1 →
    Runs (.roundBoundary vbus) s fun t =>
      (t.shc n).grant = 0 ∧ (t.shc n).lease = 0 ∧ Raised s t .sh 0 2 1 [(n : Nat), (s.shc n).grant]) ∧
  (∀ s n g, s.power = .on → (s.shc n).sent = some g → s.isOn (ciDom n) = true → Runs (.grantWord n) s fun t =>
    (t.ch n).grant = g ∧ (t.ch n).grantEnd = (s.shc n).leaseEnd ∧ (t.shc n).sent = none) ∧
  (∀ s n g, s.power = .on → (s.shc n).sent = some g → s.isOn (ciDom n) = false → Runs (.grantWord n) s fun t =>
    t.chs = s.chs ∧ (t.shc n).sent = none ∧ Counted s t cntXing) ∧
  (∀ s, s.power = .on → s.sh.beatEarly = false → Runs .beatBoundary s fun t =>
    t.tk.now = max s.tk.now (boundary 4000 s.sh.beatAt s.tk.now) ∧ t.sh.beatAt = t.tk.now ∧ t.sh.gotOne = false) ∧
  (∀ s, s.power = .on → s.sh.beatEarly = true → s.sh.beatAt = s.tk.now → Runs .beatBoundary s fun t =>
    t = { s with sh := { s.sh with beatEarly := false } }) ∧
  (∀ s, s.power = .on → s.sh.beatEarly = false → s.sh.gotOne = true → Runs .beatBoundary s fun t =>
    t.sh.mode = .rack ∧ t.sh.missed = 0 ∧ t.sh.net = signed 16 (fld s.sh.grantIn 0 16)) ∧
  (∀ s, s.power = .on → s.sh.beatEarly = false → s.sh.gotOne = false → s.sh.joined = true → s.sh.granted = true → s.sh.mode ≠ .floor →
    s.sh.missed = 0 → Runs .beatBoundary s fun t =>
    t.sh.mode = .holding ∧ t.sh.missed = 1 ∧ Raised s t .sb 0 7 1 [s.sh.net]) ∧
  (∀ s, s.power = .on → s.sh.beatEarly = false → s.sh.gotOne = false → s.sh.joined = true → s.sh.granted = true → s.sh.mode ≠ .floor →
    s.sh.missed = 2 → Runs .beatBoundary s fun t =>
    t.sh.mode = .floor ∧ t.sh.missed = 3 ∧ t.sh.capFrom = grantGross s ∧ Raised s t .sh 0 0 1 [3, grantGross s]) ∧
  (∀ s, s.power = .on → s.sh.beatEarly = false → s.sl.parking = some .beat → Runs .beatBoundary s fun t => t.sl.parking = some .drain)

/-- Jikanlink cells (chapter 15): each cell that arrives has its effect at the node. -/
def Obligations.JikanlinkCellsComplete : Prop :=
  (∀ s p h pl, s.power = .on → portState s p ≠ .off → cType h = 1 → s.jl.st = .masterless → joinEn s = false →
    secondSync s (leAt pl 0 8 / 4000) (leAt pl 12 1 % 32) = false →
    Runs (.sync p h pl) s fun t =>
      t.jl.st = .follower ∧ t.jl.beat = some (leAt pl 0 8 / 4000) ∧ t.jl.master = leAt pl 12 1 % 32 ∧ t.tk.now = s.tk.now ∧
        t.tk.slew = ((leAt pl 0 8 + (leAt pl 8 4 + linkDelay s p) : Nat) : Int) - s.tk.now) ∧
  (∀ s p h pl, s.power = .on → portState s p ≠ .off → cType h = 1 → s.jl.st = .joining → s.jl.master = leAt pl 12 1 % 32 →
    secondSync s (leAt pl 0 8 / 4000) (leAt pl 12 1 % 32) = false → leAt pl 13 1 / 64 = 2 →
    leAt pl 13 1 % 32 = s.jl.idInUse → Runs (.sync p h pl) s fun t =>
      t.jl.st = .member ∧ t.sh.joined = true ∧ Raised s t .jl 0 4 0 [(s.jl.idInUse : Nat), (s.jl.master : Nat)]) ∧
  (∀ s p h pl, s.power = .on → portState s p ≠ .off → cType h = 2 → s.jl.st = .member → s.jl.idInUse / 4 = cCell h →
    s.jl.wrote.find (cRing h) ≠ some (servedBeat s p h) → h / 2 ^ (s.jl.idInUse % 4) % 2 = 0 → portUp s (1 - p) = true →
    (s.port (1 - p)).wrap = false → roundFirst s = s → Runs (.report p h pl) s fun t =>
      t.jl.wrote.find (cRing h) = some (servedBeat s p h) ∧
        ∃ c : Cell, c = { hdr := h + 2 ^ (s.jl.idInUse % 4), pl := plPut pl (4 * (s.jl.idInUse % 4)) (bytesOf 4 (ownReport s).toNat) } ∧
          t.tx = .cell (1 - p) c (sentLine s (1 - p) c) :: s.tx) ∧
  (∀ s p h pl g, s.power = .on → portState s p ≠ .off → cType h = 2 → s.jl.st = .master → roundFirst s = s → g < 4 → h / 2 ^ g % 2 = 1 →
    collects s (h / 16 % 16) = true →
    s.jl.reports.has (repKey (h / 16 % 16) (4 * cCell h + g)) = false → Runs (.report p h pl) s fun t =>
      t.jl.reports.find (repKey (h / 16 % 16) (4 * cCell h + g)) = some (w32 (leAt pl (4 * g) 4)) ∧ t.tx = s.tx) ∧
  (∀ s p h pl, s.power = .on → portState s p ≠ .off → cType h = 3 → s.jl.st = .member → s.jl.idInUse / 4 = cCell h →
    (∀ k, s.sh.gotBeat = some k → k < arrivalBeat s p) →
    fld (w32 (leAt pl (4 * (s.jl.idInUse % 4)) 4)) 16 8 = arrivalBeat s p % 256 → Runs (.grant p h pl) s fun t =>
      t.sh.gotOne = true ∧ t.sh.gotBeat = some (arrivalBeat s p) ∧ t.sh.grantIn = w32 (leAt pl (4 * (s.jl.idInUse % 4)) 4) ∧
        ((arrivalBeat s p + 1) * 4000 < s.tk.now → t.sh.late = true ∧ Counted s t 0x4705C)) ∧
  (∀ s p h pl, s.power = .on → portState s p ≠ .off → cType h = 4 → delivers s h = true → cSrc h ≠ s.jl.idInUse →
    1 ≤ leAt pl 0 1 → leAt pl 0 1 ≤ 3 → Runs (.stopCell p h pl) s fun t => leAt pl 0 1 ≤ t.sb.cls ∧ bitOf (w32 t.sb.sources) 2 = true ∧
      Raised s t .jl 0 0x21 1 [(leAt pl 0 1 : Nat), (cSrc h : Nat)]) ∧
  (∀ s p h pl q, s.power = .on → portState s p ≠ .off → cType h = 5 → delivers s h = true → q < 2 → s.isOn (11 + q) = true →
    portUp s q = false → Runs (.wakeCell p h pl) s fun t =>
      .tone q (600 + 200 * fld (jlPortCtl s q) 8 2) ∈ t.tx ∧ Raised s t .jl 0 13 0 [(q : Nat)]) ∧
  (∀ s p h pl, s.power = .on → portState s p ≠ .off → cType h = 6 → s.jl.st = .master → delivers s h = true → Runs (.join p h pl) s fun t =>
    t.jl.joins.has (cSrc h) = true ∧ t.tx = s.tx) ∧
  (∀ s p h pl, s.power = .on → portState s p ≠ .off → cType h = 7 → s.jl.st = .master → delivers s h = true → Runs (.leave p h pl) s fun t =>
    t.jl.leaves.has (cSrc h) = true ∧ t.tx = s.tx) ∧
  (∀ s p h pl, s.power = .on → portState s p ≠ .off → cType h = 8 → delivers s h = true → Runs (.claim p h pl) s fun t =>
    t.jl.ranks.find (cSrc h) = some (pl.getD 0 0).toNat ∧
      ((pl.getD 0 0).toNat < claimRank s ∨ (pl.getD 0 0).toNat = claimRank s ∧ cSrc h < s.jl.idInUse → t.jl.claim = none)) ∧
  (∀ s p h pl, s.power = .on → portState s p ≠ .off → cType h = 9 → (pl.getD 14 0).toNat % 2 = 1 → Runs (.echo p h pl) s fun t =>
    (t.port p).delays = ((s.tk.now - leAt pl 0 8 - leAt pl 8 4) / 2 :: (s.port p).delays).take 8 ∧ (t.port p).nb = cSrc h) ∧
  (∀ s p h pl, s.power = .on → portState s p ≠ .off → cType h = 10 → delivers s h = true → Runs (.userMessage p h pl) s fun t =>
    Raised s t .jl 0 0x20 0 [(leAt pl 0 4 : Nat), (leAt pl 4 4 : Nat), (leAt pl 8 4 : Nat), (leAt pl 12 4 : Nat), (cSrc h : Nat),
      (b2n (cDst h == cSrc h) : Nat)]) ∧
  (∀ s p h pl crc line, s.power = .on → roundFirst s = s → p < 2 → portState s p ≠ .off → (s.port p).bad + 1 < 4 → Reads s p line h pl crc →
    crc16 (cellBytes h pl) ≠ crc → Runs (.badCell p line false true) s fun t =>
      (t.port p).bad = (s.port p).bad + 1 ∧ (t.port p).errAt = (s.port p).errAt ∧ Counted s t (0x4700C + 0x400 * p)) ∧
  (∀ s p line idle, s.power = .on → roundFirst s = s → p < 2 → portUp s p = true → (s.port p).bad = 3 →
    (readLine (!idle && (s.port p).rxRd) line).1 = false → Runs (.badCell p line idle true) s fun t =>
      (t.port p).st = .down ∧ (t.port p).errAt = some s.tk.clk ∧ Counted s t (0x47008 + 0x400 * p) ∧
        Raised s t .jl 0 1 1 [(p : Nat), 3]) ∧
  (∀ s p h pl crc line, s.power = .on → roundFirst s = s → p < 2 → portState s p ≠ .off → Reads s p line h pl crc →
    crc16 (cellBytes h pl) = crc →
    Runs (.badCell p line false false) s fun t => (t.port p).bad = 0 ∧ Counted s t (0x47014 + 0x400 * p)) ∧
  (∀ rd h pl crc, (readLine rd (cellLine rd h pl crc).1) =
    (true, (cellBytes h pl ++ [BitVec.ofNat 8 (crc / 256), BitVec.ofNat 8 crc]).map some, (cellLine rd h pl crc).2)) ∧
  (∀ s p h pl room, s.power = .on → portState s p ≠ .off → cType h = 0 → s.jl.st = .masterless → portUp s (1 - p) = true →
    (s.port (1 - p)).wrap = false → Runs (.emptyCell p h pl room) s fun t =>
      t.tx = .cell (1 - p) { hdr := h, pl := plZero } (sentLine s (1 - p) { hdr := h, pl := plZero }) :: s.tx ∧ t.jl.out = s.jl.out) ∧
  (∀ s p h pl room, s.power = .on → portState s p ≠ .off → 11 ≤ cType h → s.jl.st ≠ .master → portUp s (1 - p) = true →
    (s.port (1 - p)).wrap = false → Runs (.emptyCell p h pl room) s fun t =>
      t.tx = .cell (1 - p) { hdr := h, pl } (sentLine s (1 - p) { hdr := h, pl }) :: s.tx ∧ t.jl.out = s.jl.out) ∧
  (∀ s p h pl room, s.power = .on → portState s p ≠ .off → s.jl.st = .master → Runs (.emptyCell p h pl room) s fun t => t.tx = s.tx)

/-- The ports and the node's own times (chapter 15): ports come and go, a missing SYNC and the end of collection are taken. -/
def Obligations.JikanlinkNodeComplete : Prop :=
  (∀ s p, s.power = .on → portState s p = .notReady → Runs (.portPllLock p) s fun t =>
    (t.port p).st = .seeking ∧ (t.port p).pll = true ∧ (t.port p).held = []) ∧
  (∀ s p, s.power = .on → portState s p = .seeking ∨ portState s p = .down → (s.port p).pll = true →
    (s.port p).clean s.tk.clk = true → Runs (.portUp p) s fun t =>
    (t.port p).st = .up ∧ (t.port p).rxSync = true ∧ Raised s t .jl 0 0 0 [(p : Nat)]) ∧
  (∀ s p cause, s.power = .on → portUp s p = true → Runs (.portDown p cause) s fun t =>
    (t.port p).st = .down ∧ Raised s t .jl 0 1 1 [(p : Nat), (cause : Nat)] ∧ (portUp s (1 - p) = true → p < 2 → (t.port p).wrap = true)) ∧
  (∀ s p b arrived, s.power = .on → (s.port p).wrap = true → portUp s p = true → framed s = true → (s.port p).agreed = some b →
    b ≤ beatNow s + 1 → (arrived = true ∨ (s.port p).confirms = false) → Runs (.unwrap p arrived) s fun t =>
      (t.port p).wrap = false ∧ Raised s t .jl 0 3 0 [(p : Nat)]) ∧
  (∀ s p b, s.power = .on → framed s = true → (s.port p).agreed = some b → b ≤ beatNow s + 1 → (s.port p).confirms = true →
    Runs (.unwrap p false) s fun t => (t.port p).wrap = (s.port p).wrap ∧ (t.port p).agreed = none) ∧
  (∀ s p, s.power = .on → portUp s p = true → s.sheet.hold = false → framed s = true → (s.port p).wrap = false →
    Runs (.echoRequestDue p) s fun t => (t.port p).echoAt = some t.tk.clk ∧ (∀ t0, (s.port p).echoAt = some t0 → t0 + 256000 ≤ t.tk.clk) ∧
      ∃ m, t.jl.out = s.jl.out ++ [m] ∧ m.ty = 9 ∧ m.e = 1 - p ∧ m.w = p ∧ m.at_ = none) ∧
  (∀ s, s.power = .on → follows s = true → s.jl.miss < 2 →
    s.jl.beat ≠ some (beatNow (advanceTo (boundary 4000 (s.jl.checkAt - 2000) (s.tk.now - 2000) + 2000) s)) →
    Runs .syncMissCheck s fun t => t.jl.miss = s.jl.miss + 1 ∧ t.jl.run = 0 ∧ t.jl.st = s.jl.st ∧ t.tk.source = .holdover ∧ Counted s t 0x47054) ∧
  (∀ s, s.power = .on → follows s = true → s.jl.miss = 2 → s.jl.st ≠ .member →
    s.jl.beat ≠ some (beatNow (advanceTo (boundary 4000 (s.jl.checkAt - 2000) (s.tk.now - 2000) + 2000) s)) →
    Runs .syncMissCheck s fun t => t.jl.st = .masterless ∧ t.tk.source = .holdover ∧ Raised s t .jl 0 8 1 [(s.jl.master : Nat)]) ∧
  (∀ s, s.power = .on → s.jl.st = .master → Runs .collectionClose s fun t =>
    t.jl.closeAt = t.tk.now ∧ t.tk.now = max s.tk.now (boundary 4000 (s.jl.closeAt - 1000) (s.tk.now - 1000) + 1000)) ∧
  (∀ s n, s.power = .on → s.jl.st = .master → n ≠ s.jl.idInUse → s.jl.members.has n = true → s.jl.first = none → s.jl.reports = [] →
    s.sh.gotBeat = none →
    Runs .collectionClose s fun t => t.jl.missing.get n 0 = (if s.jl.missing.get n 0 + 1 < 16 then s.jl.missing.get n 0 + 1 else 0) ∧
      t.sh.gotOne = true ∧ Raised s t .sh 0 5 1 [(n : Nat)])

/-- The print engine and the fixer (chapter 16): an input is kept or counted late, and an epoch's prints and grades are made at
its E. -/
def Obligations.PrintCommandsComplete : Prop :=
  (∀ s i rest, s.power = .on → s.pe.coming = i :: rest → peLate s i = false → Runs .printInputArrival s fun t =>
    t.pe.coming = rest ∧ t.pe.kept = s.pe.kept ++ [i]) ∧
  (∀ s i rest, s.power = .on → s.pe.coming = i :: rest → peLate s i = true → Runs .printInputArrival s fun t =>
    t.pe.coming = rest ∧ t.pe.kept = s.pe.kept ∧ Counted s t 0x48028) ∧
  (∀ s e rest, s.power = .on → s.pe.epochs = e :: rest → Runs .printEmit s fun t =>
    t.pe.epochs = rest ∧ t.tk.now = max s.tk.now (e.endT + fld e.config 16 10 * 1000) ∧ t.pe.printed = max s.pe.printed e.endT ∧
      (∀ g ∈ e.chans, ∃ m ∈ t.sp.making.drop s.sp.making.length, m.1 = prodPe ∧ m.2.kind = 2 ∧ m.2.src = g.ch ∧ m.2.time = e.endT) ∧
      (∀ x ∈ s.fx.ended, x.2.endAt ≤ e.endT → ∃ m ∈ t.sp.making.drop s.sp.making.length, m.1 = prodFx ∧ m.2.kind = 4 ∧ m.2.src = x.1) ∧
      (∀ x ∈ t.fx.ended, e.endT < x.2.endAt))

/-- The easel link (chapter 17): frames in both directions, resends, the watchdog and the loss of the link have their effect. -/
def Obligations.EaselLinkCommandsComplete : Prop :=
  (∀ s b, s.power = .on → s.isOn 18 = true → s.ez.link ≠ .powering → s.ez.cur = some b → Runs .frameBoundary s fun t =>
    t.ez.frameAt = boundary 4000 s.ez.frameAt s.tk.now ∧ t.tk.now = max s.tk.now (boundary 4000 s.ez.frameAt s.tk.now) ∧
      ∃ d, t.ez.down = some d ∧ d.seq = s.ez.seq ∧ (d.addr, d.data) = b.slots.getD b.done (0, 0) ∧ d.first = (b.done == 0) ∧
        d.commit = decide (b.done + 1 ≥ b.slots.length)) ∧
  (∀ s, s.power = .on → s.isOn 18 = true → s.ez.link = .powering → 2 ≤ s.ez.hellos → Runs .frameBoundary s fun t =>
    t.ez.link = .notReady ∧ ∃ d, t.ez.down = some d ∧ d.addr = 1 ∧ d.first = true) ∧
  (∀ s x d flip, s.power = .on → s.field.powered = true → s.ez.down.bind (DownFrame.received flip) = some d → d.first = true →
    d.commit = false → d.safeNow = false → Runs (.downlinkFrame (some flip) x) s fun t => t.field.joined = true ∧ t.field.goodSeq = d.seq ∧
    t.field.missed = 0 ∧
      t.field.staged = some [(d.addr, d.data)] ∧ t.field.safeState = s.field.safeState) ∧
  (∀ s x d flip, s.power = .on → s.field.powered = true → s.ez.down.bind (DownFrame.received flip) = some d → d.first = true →
    d.commit = true → d.safeNow = false → d.addr = 1 → Runs (.downlinkFrame (some flip) x) s fun t =>
      t.field.safeState = d.data ∧ t.field.sw = d.sw ∧ t.field.vd = d.vd ∧ t.field.staged = none) ∧
  (∀ s x d flip, s.power = .on → s.field.powered = true → s.field.safe = false → s.ez.down.bind (DownFrame.received flip) = some d →
    d.commit = false → d.safeNow = true → Runs (.downlinkFrame (some flip) x) s fun t => t.field.safe = true ∧ t.field.cause = 2) ∧
  (∀ s x line, s.power = .on → s.field.powered = true → s.field.joined = true →
    line.bind (fun flip => s.ez.down.bind (DownFrame.received flip)) = none → Runs (.downlinkFrame line x) s fun t =>
    t.field.missed = s.field.missed + 1 ∧ t.field.staged = none) ∧
  (∀ d, DownFrame.received 0 d = some d) ∧ (∀ u, UpFrame.received 0 u = some u) ∧
  (∀ sync head, head / 2 ^ 104 = sync → frameGood sync (sealFrame head) = true) ∧
  (∀ s u flip, s.power = .on → s.isOn 18 = true → s.ez.link = .ready → s.ez.up.bind (UpFrame.received flip) = some u →
    Runs (.uplinkFrame (some flip)) s fun t =>
    t.ez.upSeq = u.seq ∧ t.ez.inp = some u.inp ∧ t.ez.swOn = u.swOn ∧ t.ez.missed = 0 ∧ t.ez.safeRep = decide (u.flags % 2 = 1) ∧
      t.ez.slots.get u.addr 0 = slotKept u.addr u.data) ∧
  (∀ s line, s.power = .on → s.isOn 18 = true → s.ez.link ≠ .powering →
    line.bind (fun flip => s.ez.up.bind (UpFrame.received flip)) = none → Runs (.uplinkFrame line) s fun t =>
    t.ez.missed = s.ez.missed + 1 ∧ t.ez.acks = 0 ∧ Counted s t 0x4A03C) ∧
  (∀ s x, s.power = .on → s.field.powered = true → s.field.joined = false → fieldOn s 149 = false → Runs (.helloUplink x) s fun t =>
    t = s) ∧
  (∀ s x, s.power = .on → s.field.joined = false → fieldOn s 149 = true → Runs (.helloUplink x) s fun t =>
    t.field.helloAt = some t.tk.clk ∧ (∀ t0, s.field.helloAt = some t0 → t0 + 4000 ≤ t.tk.clk) ∧
      ∃ u, t.ez.up = some u ∧ u.seq = s.field.upSeq ∧ u.at_ = t.tk.now ∧ u.flags / 128 % 2 = 1) ∧
  (∀ s b, s.power = .on → s.isOn 18 = true → s.ez.sent.find? (fun b => decide (b.age ≥ 4)) = some b → Runs .batchResend s fun t =>
    t.ez.again = s.ez.again ++ [b] ∧ t.ez.sent = s.ez.sent.filter fun x => x.id != b.id) ∧
  (∀ s, s.power = .on → s.field.powered = true → s.field.safe = false → 5 ≤ s.field.missed → Runs .downlinkWatchdog s fun t =>
    t.field.safe = true ∧ t.field.cause = 1) ∧
  (∀ s, s.power = .on → s.isOn 18 = true → 5 ≤ s.ez.missed → s.ez.link = .ready → Runs .linkLost s fun t =>
    t.ez.link = .lost ∧ t.ez.stale = true ∧ t.ez.cmds = [] ∧ Raised s t .ez 0 1 2 []) ∧
  (∀ s, s.power = .on → s.isOn 18 = true → s.variant.hasField = true → s.field.powered = false → Runs .fieldDiePowerUp s fun t =>
    t.field = { powered := true, poweredAt := s.tk.clk } ∧ (t.dom 148).st = .on ∧ (t.dom 149).st = .up) ∧
  (∀ s reported, s.power = .on → s.field.powered = true → Runs (.barrierPowerLoss reported) s fun t =>
    t.field = {} ∧ t.ez.up = none ∧ (∀ d, 148 ≤ d → (t.dom d).st = .off) ∧
      (reported = true → s.isOn 18 = true → s.ez.safeRep = false → t.ez.safeHeld = true ∧ Raised s t .ez 0 2 2 [3]))

/-- Inputs, switches and the field supply (chapter 17): what the field die's pins do has its effect. -/
def Obligations.FieldCommandsComplete : Prop :=
  (∀ s n mv ua samples b, s.power = .on → n < 24 → inOn s n = true → s.field.broken / 2 ^ n % 2 = 0 → s.field.supply / 2 % 2 = 0 →
    b = judgeInput (bitOf s.field.inType n) (s.inputOf n).level mv ua →
    filterLength s ≤ (if b = (s.inputOf n).level then (s.inputOf n).run + samples else samples) →
    Runs (.inputAccepted n mv ua samples) s fun t => (t.field.level / 2 ^ n % 2 == 1) = b ∧ (t.inputOf n).level = b) ∧
  (∀ s n mv ua samples b, s.power = .on → n < 24 → inOn s n = true → b = judgeInput (bitOf s.field.inType n) (s.inputOf n).level mv ua →
    (if b = (s.inputOf n).level then (s.inputOf n).run + samples else samples) < filterLength s →
    Runs (.inputAccepted n mv ua samples) s fun t => t.field.level = s.field.level ∧ (t.inputOf n).level = b) ∧
  (∀ s n, s.power = .on → n < 24 → inOn s n = true → bitOf s.field.inWb n = true → s.field.broken / 2 ^ n % 2 = 0 →
    Runs (.wireBreak n) s fun t => t.field.broken = s.field.broken + 2 ^ n ∧ Raised s t .ez 0 14 1 [(n : Nat)] ∧
      (s.field.supply / 2 % 2 = 0 → t.field.level / 2 ^ n % 2 = 0) ∧ (s.field.supply / 2 % 2 = 1 → t.field.level = s.field.level)) ∧
  (∀ s n, s.power = .on → n < 24 → inOn s n = true → s.field.broken / 2 ^ n % 2 = 1 → Runs (.wireOk n) s fun t =>
    t.field.broken = s.field.broken - 2 ^ n ∧ Raised s t .ez 0 15 0 [(n : Nat)]) ∧
  (∀ s v, s.power = .on → s.field.powered = true → s.field.supply % 2 = 0 → Runs (.reverse v) s fun t =>
    t.field.supply = s.field.supply + 1 ∧ t.field.vfield = v ∧ Raised s t .ez 0 4 2 [v]) ∧
  (∀ s, s.power = .on → s.field.powered = true → s.field.supply / 2 % 2 = 0 → Runs .fgndLoss s fun t =>
    t.field.supply = s.field.supply + 2 ∧ Raised s t .ez 0 5 2 []) ∧
  (∀ s v, s.power = .on → s.field.powered = true → s.field.supply / 4 % 2 = 0 → Runs (.surge v) s fun t =>
    t.field.supply = s.field.supply + 4 ∧ t.field.vfield = v ∧ Raised s t .ez 0 6 2 [v]) ∧
  (∀ s v, s.power = .on → s.field.powered = true → s.field.supply / 8 % 2 = 0 → Runs (.undervolt v) s fun t =>
    t.field.supply = s.field.supply + 8 ∧ t.field.vfield = v ∧ Raised s t .ez 0 7 1 [v]) ∧
  (∀ s k, s.power = .on → s.field.powered = true → k < 4 → s.field.supply / 2 ^ k % 2 = 1 → Runs (.supplyConditionEnd k) s fun t =>
    t.field.supply = s.field.supply - 2 ^ k ∧ (s.field.supply = 2 ^ k → Raised s t .ez 0 8 0 [])) ∧
  (∀ s n, s.power = .on → n < 16 → swDomOn s n = true → s.field.supply = 0 → (s.sw n).on = true →
    bitOf s.field.swConfig n = true → Runs (.swThermalOff n) s fun t =>
      (t.sw n).thermal = true ∧ (t.sw n).hot = true ∧ (t.sw n).on = false) ∧
  (∀ s n, s.power = .on → n < 16 → swDomOn s n = true → s.field.supply = 0 → (s.sw n).on = true →
    bitOf s.field.swConfig n = false → Runs (.swThermalOff n) s fun t =>
      (t.sw n).latched = true ∧ (t.sw n).on = false ∧ Raised s t .ez 0 10 2 [(n : Nat), (swRestarts s n : Nat)]) ∧
  (∀ s n, s.power = .on → n < 16 → swDomOn s n = true → (s.sw n).hot = true → (s.sw n).thermal = true → swRestarts s n < 16 →
    swWanted (s.setSw n { s.sw n with thermal := false }) n = true → Runs (.swThermalRestart n) s fun t =>
      (t.sw n).thermal = false ∧ (t.sw n).hot = false ∧ (t.sw n).restarts.head? = some s.tk.clk) ∧
  (∀ s n, s.power = .on → n < 16 → swDomOn s n = true → (s.sw n).on = true → Runs (.swOverload n) s fun t =>
    (t.sw n).limiting = true ∧ Raised s t .ez 0 9 1 [(n : Nat)]) ∧
  (∀ s n, s.power = .on → n < 16 → swDomOn s n = true → (s.sw n).on = true → (s.sw n).openLoad = false →
    Runs (.swOpenLoad n) s fun t => (t.sw n).openLoad = true ∧ Raised s t .ez 0 11 1 [(n : Nat)]) ∧
  (∀ s n, s.power = .on → n < 16 → swDomOn s n = true → Runs (.swOpenLoadClear n) s fun t => (t.sw n).openLoad = false) ∧
  (∀ s n, s.power = .on → n < 16 → swDomOn s n = true → (s.sw n).on = false → swClamping s n = false →
    (s.sw n).shortSup = false → Runs (.swShortSupply n) s fun t =>
      (t.sw n).shortSup = true ∧ Raised s t .ez 0 12 1 [(n : Nat)]) ∧
  (∀ s n, s.power = .on → n < 16 → swDomOn s n = true → Runs (.swShortSupplyClear n) s fun t => (t.sw n).shortSup = false) ∧
  (∀ s n t0 c, s.power = .on → n < 16 → swDomOn s n = true → (s.sw n).clampAt = some c → (s.sw n).on = false →
    (s.sw n).heldAt = some t0 → swWanted s n = true → Runs (.clampEnd n) s fun t =>
      (t.sw n).on = true ∧ (t.sw n).clampAt = none ∧ (t.sw n).heldAt = none ∧ c ≤ t.tk.clk ∧
        Raised s t .ez 0 13 1 [(n : Nat), ((t.tk.clk - t0) / 1000 : Nat)])

/-- Wand words (chapter 18): each legal word that starts next has its effect on its driver. -/
def Obligations.WandWordsComplete : Prop :=
  (∀ s n w, WandAt s n 1 w → Runs (.seti n) s fun t => (t.valve n).goal = signed 13 (wf w 0 13) ∧ (t.valve n).ramp = none ∧
    (t.valve n).pc = (s.valve n).pc + 1 ∧ (t.valve n).nextAt = (s.valve n).nextAt + 1000) ∧
  (∀ s n w, WandAt s n 2 w → Runs (.wandRamp n) s fun t => (t.valve n).goal = signed 13 (wf w 0 13) ∧
    (t.valve n).ramp = some (goalAt (s.valve n) t.tk.clk, t.tk.clk, wf w 13 15 * 1000) ∧ (t.valve n).pc = (s.valve n).pc + 1 ∧
    (t.valve n).nextAt = (s.valve n).nextAt + wf w 13 15 * 1000) ∧
  (∀ s n w, WandAt s n 3 w → Runs (.waitt n) s fun t =>
    (t.valve n).pc = (s.valve n).pc + 1 ∧ (t.valve n).nextAt = (s.valve n).nextAt + wf w 0 28 * 1000 ∧ (t.valve n).goal = (s.valve n).goal) ∧
  (∀ s n w, WandAt s n 4 w → Runs (.waiti n) s fun t => (t.valve n).pc = (s.valve n).pc ∧
    (t.valve n).wait = some (.level (bitOf w 27) (signed 13 (wf w 0 13)) ((s.valve n).nextAt + wf w 13 14 * 10000))) ∧
  (∀ s n w, WandAt s n 5 w → (inLevel s (wf w 22 5) == bitOf w 27) = true → Runs (.waitin n) s fun t =>
    (t.valve n).wait = none ∧ (t.valve n).c = false ∧ (t.valve n).pc = (s.valve n).pc + 1 ∧
      (t.valve n).nextAt = (s.valve n).nextAt + 1000) ∧
  (∀ s n w, WandAt s n 5 w → (inLevel s (wf w 22 5) == bitOf w 27) = false → Runs (.waitin n) s fun t => (t.valve n).pc = (s.valve n).pc ∧
    (t.valve n).wait = some (.input (wf w 22 5) (bitOf w 27)
      (if wf w 0 22 = 0 then none else some ((s.valve n).nextAt + wf w 0 22 * 1000)))) ∧
  (∀ s n w, WandAt s n 6 w → Runs (.dither n) s fun t => (t.valve n).pc = (s.valve n).pc + 1 ∧
    (t.valve n).dither = if wf w 20 8 = 0 then none else some (wf w 20 8 * 10, wf w 8 12 * 10000, (s.valve n).nextAt)) ∧
  (∀ s n w, WandAt s n 7 w → Runs (.wandLoop n) s fun t =>
    ((s.valve n).loop ≠ 1 → ((s.valve n).loop = 0 → wf w 20 8 ≠ 1) → (t.valve n).pc = wf w 0 6 ∧
      (t.valve n).loop = (if (s.valve n).loop = 0 then wf w 20 8 else (s.valve n).loop) - 1) ∧
    ((s.valve n).loop = 1 → (t.valve n).pc = (s.valve n).pc + 1 ∧ (t.valve n).loop = 0)) ∧
  (∀ s n w, WandAt s n 8 w → Runs (.wandJif n) s fun t => (t.valve n).pc =
    if (match wf w 25 3 with
        | 0 => (s.valve n).c | 1 => !(s.valve n).c | 2 => inLevel s (wf w 20 5) | _ => !inLevel s (wf w 20 5)) = true
      then wf w 0 6 else (s.valve n).pc + 1) ∧
  (∀ s n w, WandAt s n 9 w → Runs (.decay n) s fun t => (t.valve n).fast = bitOf w 27 ∧ (t.valve n).pc = (s.valve n).pc + 1) ∧
  (∀ s n w, WandAt s n 10 w → Runs (.endWord n) s fun t =>
    (t.valve n).running = false ∧ (t.valve n).cause = 1 ∧ (t.valve n).code = wf w 0 8 ∧
      ((s.valve n).mean.natAbs < 10 → Raised s t .wn n 1 0 [1, (wf w 0 8 : Nat)])) ∧
  (∀ s n, s.power = .on → valveOn s n = true → (s.valve n).running = true → (s.valve n).wait = none →
    wandLegal ((s.valve n).prog.get (s.valve n).pc 0) = false → Runs (.illegalWord n) s fun t =>
      (t.valve n).running = false ∧ (t.valve n).cause = 5 ∧
        Raised s t .wn n 2 1 [0, ((s.valve n).pc : Nat), (((s.valve n).prog.get (s.valve n).pc 0).toNat : Nat)])

/-- The valve drivers (chapter 18): what their converters and comparators report has its effect. -/
def Obligations.ValveCommandsComplete : Prop :=
  (∀ s n mean duty, s.power = .on → valveOn s n = true → (s.valve n).running = false → Runs (.regulationPeriod n mean duty) s fun t =>
    (t.valve n).mean = mean ∧ (t.valve n).duty = duty) ∧
  (∀ s n mean duty, s.power = .on → valveOn s n = true → (s.valve n).running = true → bitOf (s.valve n).cfg 0 = false →
    Runs (.regulationPeriod n mean duty) s fun t => (t.valve n).running = true ∧ (t.valve n).mean = mean ∧ (t.valve n).duty = duty) ∧
  (∀ s n mean duty t1, s.power = .on → valveOn s n = true → (s.valve n).regAt = some t1 → Runs (.regulationPeriod n mean duty) s fun t =>
    t1 + regPeriod (s.valve n).cfg ≤ t.tk.clk) ∧
  (∀ s n mean duty le i t0, s.power = .on → valveOn s n = true → (s.valve n).running = true → bitOf (s.valve n).cfg 0 = false →
    (s.valve n).wait = some (.level le i t0) →
    (match (s.valve n).regAt with | some u => advanceClk (u + regPeriod (s.valve n).cfg) s | none => s).tk.clk < t0 →
    (if le then mean ≤ i else i ≤ mean) → Runs (.regulationPeriod n mean duty) s fun t =>
      (t.valve n).wait = none ∧ (t.valve n).c = false ∧ (t.valve n).pc = (s.valve n).pc + 1) ∧
  (∀ s n, s.power = .on → valveOn s n = true → (s.valve n).ending = true → Runs (.decayComplete n) s fun t =>
    (t.valve n).ending = false ∧ (t.valve n).mean = 0 ∧ (t.valve n).duty = 0 ∧
      Raised s t .wn n 1 0 [((s.valve n).cause : Nat), ((s.valve n).code : Nat)]) ∧
  (∀ s n leg ma since lasts kind d, s.power = .on → valveOn s n = true → leg ≤ 1 → (s.valve n).running = true → (s.valve n).tripAt = none →
    tripKind (s.valve n).cfg ma since lasts = some (kind, d) → Runs (.drvTrip n leg ma since lasts) s fun t =>
      t.tk.clk = s.tk.clk + d ∧ (t.valve n).running = false ∧ (t.valve n).latched = true ∧ (t.valve n).cause = 6 ∧
        Raised s t .wn n 3 2 [(leg : Nat), (kind : Nat)]) ∧
  (∀ s n leg ma since lasts, s.power = .on → valveOn s n = true → tripKind (s.valve n).cfg ma since lasts = none →
    Runs (.drvTrip n leg ma since lasts) s fun t => t = s) ∧
  (∀ s n leg ma since lasts kind d t1 k, s.power = .on → valveOn s n = true → leg ≤ 1 →
    tripKind (s.valve n).cfg ma since lasts = some (kind, d) → (s.valve n).tripAt = some (t1, k) → k ≠ 2 * (n % 2) + leg →
    s.tk.clk + d ≤ t1 + 1000 → Runs (.drvTrip n leg ma since lasts) s fun t =>
      (t.valve n).latched = true ∧ (t.valve n).cause = 7 ∧
        Raised s t .wn n 4 2 [((2 ^ (2 * (n % 2) + leg) + 2 ^ k : Nat) : Int)]) ∧
  (∀ s n t0, s.power = .on → valveOn s n = true → (s.valve n).running = true → (s.valve n).capped = false →
    (s.valve n).highAt = some t0 → Runs (.peakCapped n) s fun t =>
      (t.valve n).capped = true ∧ (t.valve n).target.natAbs ≤ 2000 ∧ t0 + 200000000 ≤ t.tk.clk ∧
        Raised s t .wn n 7 1 []) ∧
  (∀ s n v1 v2 pulse, s.power = .on → valveOn s n = true → s.field.pushed = true → bitOf (s.valve n).cfg 1 = true →
    (s.valve n).running = false → (s.valve n).ending = false → (s.valve n).inSafe = false → (s.valve n).latched = false → s.field.supply = 0 →
    Runs (.offStateTest n v1 v2 pulse) s fun t =>
      (t.valve n).offRes = offResult (s.valve n).pair v1 v2 pulse ∧ (t.valve n).tests = ((s.valve n).tests + 1) % 256 ∧ offTestDue s n ≤ t.tk.clk ∧
        ((t.valve n).offRes ≠ (s.valve n).offRes → Raised s t .wn n 6 1 [((t.valve n).offRes : Nat)]))

/-- The fixture buses (chapter 19): frames, errors and modes have their effect. -/
def Obligations.CanCommandsComplete : Prop :=
  (∀ s b f tec rec_ k, s.power = .on → b < 2 → s.isOn 13 = true → (s.can b).depth ≠ .asleep → canLive (s.can b) = true →
    canTaker (s.can b).filters 1 f = some k → canPlaces s b < 16 → Runs (.canFrameRx b f tec rec_) s fun t =>
      (∃ x, (t.can b).boxes.find k = some x ∧ x.frame = { f with data := (canBytes f).take 32 } ∧ x.at_ = s.tk.now) ∧
      (t.can b).tec = tec ∧ (t.can b).rec_ = rec_ ∧
      Raised s t .cn b 0x20 0 ([(f.id : Int), ((at_ 0 4 f.dlc + at_ 4 1 (b2n f.esi) + at_ 5 1 (b2n (decide ((canBytes f).length > 32))) +
        at_ 8 5 k : Nat) : Int)] ++ [0, 4, 8, 12, 16, 20].map fun o => ((leAt (canBytes f) o 4 : Nat) : Int))) ∧
  (∀ s b f tec rec_, s.power = .on → b < 2 → s.isOn 13 = true → (s.can b).depth ≠ .asleep → canLive (s.can b) = true →
    canTaker (s.can b).filters 1 f = none → Runs (.canFrameRx b f tec rec_) s fun t =>
      (t.can b).boxes = (s.can b).boxes ∧ (t.can b).tec = tec ∧ t.sp = s.sp) ∧
  (∀ s b tec rec_ tdc r e, s.power = .on → s.isOn 13 = true → (s.can b).sending = true → (s.can b).tryAt ≠ none →
    execOf s 0x58 b = some (r, e) → Runs (.canFrameAcknowledged b tec rec_ tdc) s fun t =>
      (t.can b).sending = false ∧ (t.can b).tec = tec ∧ (t.can b).tdc = tdc ∧ Done t r e.d .ok 0) ∧
  (∀ s b tec rec_ r e, s.power = .on → s.isOn 13 = true → (s.can b).sending = true → (s.can b).tryAt ≠ none →
    canLive (s.can b) = true → (s.can b).mode = 1 → (s.can b).txdStop = false → execOf s 0x58 b = some (r, e) →
    Runs (.canTxRetry b tec rec_) s fun t =>
      t.tx = .can b (sendFrame (s.can b) e.d) (s.can b).timing :: s.tx ∧ (t.can b).tec = tec ∧ (t.can b).tryAt = (s.can b).tryAt) ∧
  (∀ s b t0 r e, s.power = .on → s.isOn 13 = true → (s.can b).sending = true → (s.can b).tryAt = some t0 →
    execOf s 0x58 b = some (r, e) → Runs (.canTxTimeout b) s fun t =>
      (t.can b).sending = false ∧ Done t r e.d .fault 0 ∧ t0 + 10000000 ≤ t.tk.clk ∧
        Raised s t .cn b 6 1 [(dU32 e.d 0x10 : Nat), 0xD]) ∧
  (∀ s b tec rec_, s.power = .on → s.isOn 13 = true → canLive (s.can b) = true → 256 ≤ tec → Runs (.canErrorStateChange b tec rec_) s fun t =>
    (t.can b).st = .busOff ∧ (t.can b).sending = false ∧ Raised s t .cn b 4 2 [(tec : Nat)]) ∧
  (∀ s b tec rec_, s.power = .on → s.isOn 13 = true → (s.can b).st = .active → 128 ≤ tec → tec < 256 →
    Runs (.canErrorStateChange b tec rec_) s fun t =>
      (t.can b).st = .passive ∧ Raised s t .cn b 2 1 [(tec : Nat), (rec_ : Nat)]) ∧
  (∀ s b tec rec_, s.power = .on → s.isOn 13 = true → (s.can b).st = .passive → tec < 128 → rec_ < 128 →
    Runs (.canErrorStateChange b tec rec_) s fun t =>
      (t.can b).st = .active ∧ Raised s t .cn b 3 0 [(tec : Nat), (rec_ : Nat)]) ∧
  (∀ s b, s.power = .on → s.isOn 13 = true → (s.can b).st = .busOff → (s.can b).depth ≠ .asleep → Runs (.busOn b) s fun t =>
    (t.can b).st = .active ∧ (t.can b).tec = 0 ∧ (t.can b).rec_ = 0 ∧ Raised s t .cn b 5 0 []) ∧
  (∀ s b, s.power = .on → b < 2 → s.isOn 13 = true → Runs (.busIdleSettings b) s fun t =>
    (t.can b).mode = fld (cnConfig s b) 0 2 ∧ (t.can b).nbt = s.wr (cnKey b 4) 0x021F0808 ∧ (t.can b).dbt = s.wr (cnKey b 8) 0x010E0505) ∧
  (∀ s b, s.power = .on → s.isOn 13 = true → (s.can b).st = .integrating → (s.can b).depth ≠ .asleep → Runs (.canIntegrated b) s fun t =>
    (t.can b).st = if (s.can b).tec ≥ 128 ∨ (s.can b).rec_ ≥ 128 then .passive else .active) ∧
  (∀ s b, s.power = .on → b < 2 → s.isOn 13 = true → (s.can b).txdStop = false → Runs (.txdDominant b) s fun t =>
    (t.can b).txdStop = true ∧ Raised s t .cn b 8 2 []) ∧
  (∀ s b, s.power = .on → b < 2 → s.isOn 13 = true → (s.can b).dominant = false → Runs (.busDominant b) s fun t =>
    (t.can b).dominant = true ∧ Raised s t .cn b 9 1 [])

/-- Sleep and wake of the fixture buses (chapter 19), which the safelight watches whatever the main power. -/
def Obligations.CanWakeCommandsComplete : Prop :=
  (∀ s b, s.power = .on → s.isOn 13 = true → (s.can b).depth = .entry → (s.can b).sending = false → Runs (.sleepEntry b) s fun t =>
    (t.can b).depth = .asleep ∧ (t.can b).st = .off ∧ (t.can b).armed = false ∧ Raised s t .cn b 1 0 []) ∧
  (∀ s b ph, canWatched s b = true → wakeMode s b = 1 → (ph.foldl (scanPhase (tFog s b)) ({}, s)).1.hit = true →
    Runs (.wakePattern b ph) s fun t =>
    (t.can b).cause = 1 ∧ (t.can b).wakes = ((s.can b).wakes + 1) % 65536 ∧
      (s.power = .parked → t.sl.pending = true) ∧ (s.isOn 13 = true → (t.can b).depth = .awake ∧ (t.can b).sleep = false)) ∧
  (∀ s b d1 r d2, canWatched s b = true → wakeMode s b = 1 → 0 < tFog s b → 11 * tFog s b ≤ 10 * min d1 (min r d2) → d1 + r + tFog s b ≤ 1000000 →
    Runs (.wakePattern b [(true, d1), (false, r), (true, d2)]) s fun t => (t.can b).cause = 1) ∧
  (∀ s b d1 r d2, 10 * d2 ≤ 9 * tFog s b ∨ 1000000 < d1 + r + min (tFog s b) d2 →
    Runs (.wakePattern b [(true, d1), (false, r), (true, d2)]) s fun t => t.cn = s.cn ∧ t.sl = s.sl ∧ t.sp = s.sp) ∧
  (∀ s b ph, canWatched s b = true → wakeMode s b = 2 → (ph.foldl (scanPhase (tFog s b)) ({}, s)).1.hit = true →
    Runs (.wakePattern b ph) s fun t =>
    (t.can b).armed = true ∧ (t.can b).wakes = (s.can b).wakes ∧ t.sl = s.sl) ∧
  (∀ s b f, canWatched s b = true → (s.can b).armed = true → wakeMode s b = 2 → Runs (.wakeFrame b f 3) s fun t =>
    (t.can b).inFrame = some (s.can b).filters ∧ (t.can b).wakes = (s.can b).wakes) ∧
  (∀ s b f k l, canWatched s b = true → (s.can b).armed = true → wakeMode s b = 2 → (s.can b).inFrame = some l →
    canTaker l 2 f = some k → Runs (.wakeFrame b f 0) s fun t =>
      (t.can b).cause = 2 ∧ (t.can b).wfilter = k ∧ (t.can b).wframe = some f ∧ (t.can b).armed = false ∧
        (s.power = .parked → t.sl.pending = true)) ∧
  (∀ s b f l, canWatched s b = true → (s.can b).armed = true → wakeMode s b = 2 → (s.can b).inFrame = some l → canTaker l 2 f = none →
    Runs (.wakeFrame b f 0) s fun t => (t.can b).heard = some f ∧ (t.can b).wakes = (s.can b).wakes ∧ t.sl = s.sl) ∧
  (∀ s b f l, canWatched s b = true → (s.can b).armed = true → wakeMode s b = 2 → (s.can b).inFrame = some l →
    (s.can b).fec + 1 ≤ fld (wakeConfig s b) 16 5 →
    Runs (.wakeFrame b f 1) s fun t => (t.can b).fec = (s.can b).fec + 1 ∧ (t.can b).wakes = (s.can b).wakes) ∧
  (∀ s b f l, canWatched s b = true → (s.can b).armed = true → wakeMode s b = 2 → (s.can b).inFrame = some l →
    fld (wakeConfig s b) 16 5 < (s.can b).fec + 1 →
    Runs (.wakeFrame b f 1) s fun t => (t.can b).cause = 3 ∧ (t.can b).fec = 0) ∧
  (∀ s b, (s.can b).armed = true → Runs (.decoderDisarm b) s fun t => (t.can b).armed = false ∧ (t.can b).fec = 0)

/-- The encoders and the sensor port (chapter 20): edges, frames, latches, line faults and transfers have their effect. -/
def Obligations.EncoderCommandsComplete : Prop :=
  (∀ s n a b held, s.power = .on → enOn s n = true → (s.enc n).filterN ≤ held → (s.enc n).mode = 1 ∨ (s.enc n).mode = 2 → (s.enc n).fault % 4 = 0 →
    (s.enc n).a ≠ a → (s.enc n).b ≠ b → Runs (.quadratureEdge n a b held) s fun t =>
      (t.enc n).count = (s.enc n).count ∧ (t.enc n).a = a ∧ (t.enc n).b = b ∧ Counted s t (enKey n 0x18) ∧
        Raised s t .en n 3 1 [(s.enc n).count]) ∧
  (∀ s n a b held, s.power = .on → enOn s n = true → (s.enc n).filterN ≤ held → (s.enc n).mode = 2 → (s.enc n).fault % 4 = 0 →
    quadDir (s.enc n).a (s.enc n).b a b ≠ 0 → Runs (.quadratureEdge n a b held) s fun t =>
      (t.enc n).count = signed 32 (unsigned 32 ((s.enc n).count + quadDir (s.enc n).a (s.enc n).b a b)) ∧
        (t.enc n).dir = quadDir (s.enc n).a (s.enc n).b a b ∧ (t.enc n).edgeAt = some t.tk.now) ∧
  (∀ s n a b held, s.power = .on → enOn s n = true → (s.enc n).filterN ≤ held → (s.enc n).mode = 1 → (s.enc n).fault % 4 = 0 →
    quadDir (s.enc n).a (s.enc n).b a b ≠ 0 → Runs (.quadratureEdge n a b held) s fun t =>
      (t.enc n).count = max (s.enc n).lo (min (s.enc n).hi ((s.enc n).count + quadDir (s.enc n).a (s.enc n).b a b))) ∧
  (∀ s n held, s.power = .on → enOn s n = true → (s.enc n).filterN ≤ held → (s.enc n).mode = 1 ∨ (s.enc n).mode = 2 →
    (s.enc n).fault / 4 % 2 = 0 →
    Runs (.index n held) s fun t => (t.enc n).index = (s.enc n).count ∧ (t.enc n).count = (s.enc n).count ∧
      Raised s t .en n 2 0 [(s.enc n).count]) ∧
  (∀ s n held, s.power = .on → enOn s n = true → (s.enc n).filterN ≤ held → (s.enc n).mode = 1 ∨ (s.enc n).mode = 2 →
    (s.enc n).fault / 4 % 2 = 0 →
    bitOf (enConfig s n) 3 = true → fld (enConfig s n) 26 2 = 1 → fld (enConfig s n) 24 2 ≠ 1 → (s.enc n).started = none →
    (s.enc n).stopAt = none → Runs (.zFallingEdge n held) s fun t => (t.enc n).started = some (s.tk.now, (s.enc n).count)) ∧
  (∀ s n a b held, s.power = .on → held < (s.enc n).filterN →
    Runs (.quadratureEdge n a b held) s (· = s) ∧ Runs (.index n held) s (· = s) ∧ Runs (.zFallingEdge n held) s (· = s)) ∧
  (∀ s n, s.power = .on → (s.enc n).latchEarly = true → (s.enc n).latchAt = s.tk.now → Runs (.speedLatch n) s fun t =>
    (t.enc n).latchEarly = false ∧ (t.enc n).speed = (s.enc n).speed ∧ t.pe = s.pe) ∧
  (∀ s n, s.power = .on → enOn s n = true → (s.enc n).latchEarly = false → Runs (.speedLatch n) s fun t =>
    (t.enc n).latchAt = boundary 250000 (s.enc n).latchAt s.tk.now ∧
      (t.enc n).speed = speedNow s n (boundary 250000 (s.enc n).latchAt s.tk.now)) ∧
  (∀ s n f, s.power = .on → enOn s n = true → (s.enc n).mode = 3 ∨ (s.enc n).mode = 4 →
    frameFault (s.enc n).mode (enSerial s n) f = none → Runs (.serialFrame n f) s fun t =>
      (t.enc n).fails = 0 ∧ ∃ p, (t.enc n).pos = some (p, (t.enc n).frameAt) ∧ (t.enc n).count = signed 32 p ∧
        p = if (s.enc n).mode = 3 ∧ bitOf (enSerial s n) 6 then
              grayToBin (fld (enSerial s n) 0 6) 0 (f.data % 2 ^ fld (enSerial s n) 0 6)
            else f.data % 2 ^ fld (enSerial s n) 0 6) ∧
  (∀ s n f k, s.power = .on → enOn s n = true → (s.enc n).mode = 3 ∨ (s.enc n).mode = 4 →
    frameFault (s.enc n).mode (enSerial s n) f = some k → Runs (.serialFrame n f) s fun t =>
      (t.enc n).fails = min 8 ((s.enc n).fails + 1) ∧ (t.enc n).count = (s.enc n).count ∧ Counted s t (enKey n 0x18) ∧
        Raised s t .en n 4 1 [(k : Nat)]) ∧
  (∀ s n l, s.power = .on → enOn s n = true → l < 3 → (s.enc n).fault / 2 ^ l % 2 = 0 → Runs (.lineFault n l) s fun t =>
    (t.enc n).fault = (s.enc n).fault + 2 ^ l ∧ Raised s t .en n 7 2 [(l : Nat)]) ∧
  (∀ s n l, s.power = .on → enOn s n = true → l < 3 → (s.enc n).fault / 2 ^ l % 2 = 1 → Runs (.lineFaultEnd n l) s fun t =>
    (t.enc n).fault = (s.enc n).fault - 2 ^ l) ∧
  (∀ s k, s.power = .on → snRuns s = true → snLive s = [k] → s.en.sn.waiting = [] → s.en.sn.busy = none →
    Runs .sensorPollDue s fun t =>
      t.en.sn.busy = some (k, s.en.sn.entries.getD k [], max t.tk.now s.en.sn.freeAt) ∧
        t.en.sn.dueAt = snNext (s.en.sn.entries.getD k []) s.en.sn.dueAt ∧ t.tk.now = max s.tk.now t.en.sn.dueAt) ∧
  (∀ s rx k d at0, s.power = .on → s.isOn 14 = true → s.en.sn.busy = some (k, d, at0) → s.en.sn.waiting = [] →
    Runs (.sensorTransferDone rx) s fun t =>
      t.en.sn.busy = none ∧ t.en.sn.freeAt = t.tk.now + 100 ∧
        t.en.sn.value.find k = some (snResult d ((rx ++ List.replicate (dU8 d 3) 0).take (dU8 d 3)), at0))

/-- The contact sheet (chapter 02): checks end with their findings, and the loupe reads words of the sheet. -/
def Obligations.SheetCommandsComplete : Prop :=
  (∀ s damage, s.power = .on → s.sheet.checking = true → s.sheet.checked = false → Runs (.resetCheckDone damage) s fun t =>
    t.sheet.checked = true ∧ t.sheet.checking = false ∧ t.sheet.damage = damage ∧
      t.sheet.hold = (checkSheet (damagedBy damage (sheetRom s.variant))).bad ∧
      t.sheet.crcSeen = (checkSheet (damagedBy damage (sheetRom s.variant))).seen) ∧
  (∀ s damage, s.power = .on → s.sheet.checking = true → s.sheet.checked = true → Runs (.recheckDone damage) s fun t =>
    t.sheet.checking = false ∧ t.sheet.damage = s.sheet.damage ∧ t.sheet.hold = s.sheet.hold ∧
      t.sheet.crcSeen = (checkSheet (damagedBy damage (sheetImage s))).seen ∧
      ((checkSheet (damagedBy damage (sheetImage s))).bad = true → Raised s t .cs 0 0x20 2 [((csStatus t).toNat : Nat)])) ∧
  (∀ s v, s.power = .on → s.sheet.checked = true → Runs (.sheetRead v) s fun t =>
    t.sheet.loupeIr = 0x2C ∧
      t.sheet.loupeDr = BitVec.ofNat 64 (leAt (sheetImage s) (v / 4 % 2 ^ 16 * 4) 4 * 2 ^ 32 + v / 4 % 2 ^ 16 * 4)) ∧
  (∀ s v, s.power = .on → s.sheet.checked = false → Runs (.sheetRead v) s fun t =>
    t.sheet.loupeDr = BitVec.ofNat 64 (v / 4 % 2 ^ 16 * 4))

/-- A step takes the command at the front of the queue and is `exec` of it on the rest; on an empty queue the block idles (the
model's choice, log entry 5). -/
def Obligations.StepRunsTheFrontCommand : Prop :=
  (∀ s c rest, s.pending = c :: rest → step s = exec c { s with pending := rest }) ∧
  (∀ s, s.pending = [] → step s = .next (mainOn s (advance 1 s)))

/-- Every command answers a next state in every state: none faults, none is refused. -/
def Obligations.EveryCommandAnswersANextState : Prop := ∀ c s, ∃ t, exec c s = .next t

/-- The state after reset meets both invariants. -/
def Obligations.ResetMeetsTheInvariants : Prop := Machine.Inv State.reset ∧ PowerInv State.reset

/-- Every step keeps the invariant: canonical memory and tables, counters of 32 bits, tags of 8, the seal log's places, the
ladder's four. -/
def Obligations.EveryStepKeepsTheInvariant : Prop := ∀ s t, Machine.Inv s → step s = .next t → Machine.Inv t

/-- Every step keeps it true that with main power off nothing of the main domains stands. -/
def Obligations.EveryStepKeepsMainLost : Prop := ∀ s t, PowerInv s → step s = .next t → PowerInv t

/-- No step takes anything back: the variant and the fuses stay, the clock does not go back, what was sent stays sent but for
memory writes that a link going down takes back, and the queue is what stood behind its front. -/
def Obligations.EveryStepGoesOnward : Prop := ∀ s t, step s = .next t → Onward s t ∧ t.pending = s.pending.tail

/-- With main power off, a command of the main die does nothing. -/
def Obligations.WithoutMainPowerTheMainDieStands : Prop := ∀ c s, ofMainDie c = true → s.power ≠ .on → exec c s = .next s

/-- R38, R61, R67: between a reset check and the next device reset the sheet's contents stand; resets of a function, power
states and L1 leave sheet and CS_STATUS; and the bad bits go only at a device reset, not at a passing recheck.  With main power
lost the sheet's block is off and a device reset comes before it is on again, hence `t.power = .on`; a state whose reset check
has not ended is one after a device reset, hence `checked`. -/
def Obligations.SheetStandsUntilReset : Prop :=
  (∀ c s t, exec c s = .next t → t.power = .on → s.sheet.checked = true → t.sheet.checked = true →
    sheetImage t = sheetImage s) ∧
  (∀ s t f w k x v l1, ∀ c ∈ [Instr.functionLevelReset f w k, .flrComplete f, .d3hotEntry f, .configurationRequest f x v, .l1Entry l1, .l1Exit],
    exec c s = .next t → t.sheet = s.sheet ∧ csStatus t = csStatus s) ∧
  (∀ c s t, exec c s = .next t → t.power = .on → t.sheet.checked = true →
    (s.sheet.magicBad = true → t.sheet.magicBad = true) ∧ (s.sheet.lengthBad = true → t.sheet.lengthBad = true) ∧
      (s.sheet.crcBad = true → t.sheet.crcBad = true) ∧ (s.sheet.structBad = true → t.sheet.structBad = true) ∧
      (bitOf (csStatus s) 2 = true → bitOf (csStatus t) 2 = true)) ∧
  (∀ s damage f, f = checkSheet (damagedBy damage (sheetImage s)) → s.power = .on → s.sheet.checking = true → s.sheet.checked = true →
    Runs (.recheckDone damage) s fun t =>
      t.sheet.magicBad = (s.sheet.magicBad || f.magic) ∧ t.sheet.lengthBad = (s.sheet.lengthBad || f.length) ∧
      t.sheet.crcBad = (s.sheet.crcBad || f.crc) ∧ t.sheet.structBad = (s.sheet.structBad || f.struct) ∧
      bitOf (csStatus t) 2 = (bitOf (csStatus s) 2 || f.bad))

/-- R113: no register, command or loupe instruction opens the window or extends it; only a press does. -/
def Obligations.OnlyAPressOpensTheWindow : Prop :=
  ∀ c s t w, exec c s = .next t → t.pres.window = some w → s.pres.window = some w ∨ ∃ k, c = .pressAccepted k

/-- R530: a CI domain that leaves ON, for whatever reason, releases its channel's grant at that instant. -/
def Obligations.ACiThatLeavesOnReleasesItsGrant : Prop :=
  ∀ c s t n, n < s.variant.channels → exec c s = .next t → s.isOn (ciDom n) = true → t.isOn (ciDom n) = false →
    (t.shc n).grant = 0 ∧ (t.shc n).lease = 0

/-- R797: a delivered STOP cell enters the stop of its class, a class outside 1 to 3 as CUT_FIELD, and the node's own cell is
ignored.  With it, of R412: a fade does nothing to a cut, and a cut replaces a fade from its own instant. -/
def Obligations.StopCellsEnterAndCutsReplaceFades : Prop :=
  (∀ s p h pl, s.power = .on → portState s p ≠ .off → cType h = 4 → delivers s h = true → cSrc h ≠ s.jl.idInUse →
    Runs (.stopCell p h pl) s fun t => t.sb.cls = max s.sb.cls (if 1 ≤ leAt pl 0 1 ∧ leAt pl 0 1 ≤ 3 then leAt pl 0 1 else 3)) ∧
  (∀ s p h pl, s.power = .on → portState s p ≠ .off → cType h = 4 → delivers s h = true → cSrc h = s.jl.idInUse →
    Runs (.stopCell p h pl) s fun t => t.sb = s.sb ∧ t.chs = s.chs) ∧
  (∀ s p h pl n f, s.power = .on → portState s p ≠ .off → cType h = 4 → delivers s h = true → cSrc h ≠ s.jl.idInUse →
    s.present n = true → (s.ch n).st = .fading → (s.ch n).fade = some f → Runs (.stopCell p h pl) s fun t =>
      (leAt pl 0 1 = 1 → f.cut = true → (t.ch n).fade = some f) ∧
      (leAt pl 0 1 ≠ 1 → f.cut = false → (t.ch n).chen = false ∧
        ∃ g, (t.ch n).fade = some g ∧ g.cut = true ∧ g.start = s.tk.clk ∧ g.lowAt = some s.tk.clk ∧ g.dischNs = dischNs s n))

/-- R801, for the crossing timeout: of the domains of an XF-6408, 9 to 14, 17, 18 and 20 to 147 are fenced by a fault, and 1 to
8, 15, 16 and 19 enter a device stop of class CUT_FIELD in its place. -/
def Obligations.FaultsFenceOrStop : Prop :=
  ∀ s a b rose words d, s.variant = .xf6408 → s.power = .on → s.isOn a = true → s.isOn b = true → d = (if rose then a else b) →
    Runs (.xingTimeout a b rose words) s fun t =>
      (d ∈ [9, 10, 11, 12, 13, 14, 17, 18] ∨ 20 ≤ d ∧ d ≤ 147 → (t.dom d).st = .down ∧ (t.dom d).fence = true ∧ t.sb.cls = s.sb.cls) ∧
      (d ∈ [1, 2, 3, 4, 5, 6, 7, 8, 15, 16, 19] → t.sb.cls = max s.sb.cls 3 ∧ t.doms = s.doms)

/-- R16: on an XF-6400, VALVE_LOAD, VALVE_RUN, SWITCH_SET and FIELD_SET complete NO_RESOURCE and have no effect. -/
def Obligations.Xf6400HasNoFieldCommands : Prop :=
  ∀ s r d t, s.variant = .xf6400 →
    (Begins s r d 0x50 ∧ exec (.valveLoad r) s = .next t ∨ Begins s r d 0x51 ∧ exec (.valveRun r) s = .next t ∨
      Begins s r d 0x52 ∧ exec (.switchSet r) s = .next t ∨ Begins s r d 0x53 ∧ exec (.fieldSet r) s = .next t) →
    Done t r d .noResource 0 ∧ t.ez = s.ez ∧ t.regs.val = s.regs.val ∧ t.regs.pend = s.regs.pend ∧ t.chs = s.chs ∧ t.ar = s.ar

/-- R735: SLEEP 1 at bus-off abandons the recovery and enters sleep at once; SLEEP 0 before SLEEP_ENTERED cancels the sleep, and
neither records nor raises a wake. -/
def Obligations.SleepAtBusOffAndSleepCancelled : Prop :=
  (∀ s b, HostReaches s 0 → s.sheet.hold = false → b < 2 → s.isOn 13 = true → (s.can b).sleep = false → (s.can b).st = .busOff →
    Runs (.sleep 0 b) s fun t => (t.can b).depth = .asleep ∧ (t.can b).st = .off ∧ Raised s t .cn b 1 0 []) ∧
  (∀ s b, HostReaches s 0 → s.sheet.hold = false → b < 2 → (s.can b).sleep = true → (s.can b).depth = .entry →
    Runs (.sleepClear 0 b) s fun t => (t.can b).sleep = false ∧ (t.can b).depth = .awake ∧ (t.can b).wakes = (s.can b).wakes ∧
      (t.can b).cause = (s.can b).cause ∧ t.sp.making = s.sp.making)

/-- R744: a change of A or B to an adjacent state counts one, up where A leads B, and a change of both counts nothing and raises
QUAD_ERR.  With it, of R753: a start and a stop in one filter clock form a capture of duration 0 with COINCIDENT. -/
def Obligations.QuadratureCountsAndCoincidentCaptures : Prop :=
  (∀ s n a b a' b' held, s.power = .on → enOn s n = true → (s.enc n).filterN ≤ held →
    (s.enc n).mode = 2 ∧ -2147483648 < (s.enc n).count ∧ (s.enc n).count < 2147483647 ∨
      (s.enc n).mode = 1 ∧ (s.enc n).lo < (s.enc n).count ∧ (s.enc n).count < (s.enc n).hi → (s.enc n).fault % 4 = 0 →
    (s.enc n).a = a → (s.enc n).b = b →
      (((a, b), (a', b')) ∈ [((false, false), (true, false)), ((true, false), (true, true)), ((true, true), (false, true)),
          ((false, true), (false, false))] → Runs (.quadratureEdge n a' b' held) s fun t => (t.enc n).count = (s.enc n).count + 1) ∧
      (((a', b'), (a, b)) ∈ [((false, false), (true, false)), ((true, false), (true, true)), ((true, true), (false, true)),
          ((false, true), (false, false))] → Runs (.quadratureEdge n a' b' held) s fun t => (t.enc n).count = (s.enc n).count - 1) ∧
      (a ≠ a' → b ≠ b' → Runs (.quadratureEdge n a' b' held) s fun t =>
        (t.enc n).count = (s.enc n).count ∧ Raised s t .en n 3 1 [(s.enc n).count])) ∧
  (∀ s n held, s.power = .on → enOn s n = true → (s.enc n).filterN ≤ held → (s.enc n).mode = 1 ∨ (s.enc n).mode = 2 →
    (s.enc n).fault / 4 % 2 = 0 → bitOf (enConfig s n) 3 = true →
    (fld (enConfig s n) 26 2 = 0 ∧ fld (enConfig s n) 24 2 = 0 ∧ (s.enc n).started = none) ∨
      (fld (enConfig s n) 24 2 = 0 ∧ ∃ t0 c0, (s.enc n).started = some (t0, c0) ∧ t0 / 5 = s.tk.now / 5) ∨
      (fld (enConfig s n) 26 2 = 0 ∧ fld (enConfig s n) 24 2 ≠ 0 ∧ (s.enc n).started = none ∧
        ∃ u, (s.enc n).stopAt = some u ∧ u / 5 = s.tk.now / 5) →
    Runs (.index n held) s fun t => (t.enc n).capture = 0 ∧ (t.enc n).coincident = true)

/-- R342, R375, R714 and R143: settings that the whole register may not take, or may not take now, leave it unchanged and are
counted, or set REFUSED. -/
def Obligations.RefusedSettingsLeaveTheirRegisters : Prop :=
  (∀ s n v w i r, HostReaches s 0 → n < 16 → RegAt s (0x44004 + 0x100 * n) .sp i r →
    w = (merge .sp 4 (fieldsOf s.variant .sp i r) (s.wr (0x44004 + 0x100 * n) 0x01C00040) v).1 →
    fld w 16 12 ≤ fld w 0 12 ∨ fld w 16 12 = 0 → Runs (.registerWrite 0 (0x44004 + 0x100 * n) v) s fun t =>
      t.regs.val = s.regs.val ∧ Counted s t cntBadValues) ∧
  (∀ s v, HostReaches s 0 → s.sheet.hold = false → 2046 < fld v 16 11 ∨ fld v 16 11 < fld v 0 11 →
    Runs (.registerWrite 0 0x45008 v) s fun t =>
      t.regs.val = s.regs.val ∧ t.regs.pend = s.regs.pend ∧ t.regs.act = s.regs.act ∧ Counted s t cntBadValues) ∧
  (∀ s b v w i r, HostReaches s 0 → b < 2 → RegAt s (cnKey b 4) .cn i r →
    w = (merge .cn 4 (fieldsOf s.variant .cn i r) (s.wr (cnKey b 4) 0x021F0808) v).1 →
    25 * fld w 24 8 * (1 + fld w 16 8 + fld w 8 8) < 1000 → Runs (.registerWrite 0 (cnKey b 4) v) s fun t =>
      t.regs.val = s.regs.val ∧ Counted s t cntBadValues) ∧
  (∀ s b v w i r, HostReaches s 0 → b < 2 → RegAt s (cnKey b 8) .cn i r →
    w = (merge .cn 8 (fieldsOf s.variant .cn i r) (s.wr (cnKey b 8) 0x010E0505) v).1 →
    25 * fld w 24 8 * (1 + fld w 16 8 + fld w 8 8) < 200 → Runs (.registerWrite 0 (cnKey b 8) v) s fun t =>
      t.regs.val = s.regs.val ∧ Counted s t cntBadValues) ∧
  (∀ s v, HostReaches s 0 → s.sheet.hold = false → s.allDark = false → Runs (.hubDomEnable 0 v) s fun t =>
    t.regs.val = s.regs.val ∧ t.doms = s.doms ∧ bitOf (t.regs.rc.get 0x4104C 0) 31 = true)

/-- R286: generations are 0 after device reset, go on by one when a START's first step begins, from 0xFFFF to 1, and by nothing
else. -/
def Obligations.GenerationsAdvanceAtStarts : Prop :=
  (∀ t n, FromReset t → (t.ch n).gen = 0) ∧ (∀ n, (State.reset.ch n).gen = 0) ∧
  (∀ s n codes a, s.power = .on → s.present n = true → s.isOn (ciDom n) = true → (s.ch n).st = .dark → (s.ch n).cmds.start = some a →
    s.mm.bad = [] → Runs (.pwmPeriodBoundary n codes) s fun t => (t.ch n).gen = if (s.ch n).gen ≥ 0xFFFF then 1 else (s.ch n).gen + 1) ∧
  (∀ c s t n, exec c s = .next t → (t.ch n).gen = (s.ch n).gen ∨ t.chs = [] ∨
    (∃ codes, c = .pwmPeriodBoundary n codes) ∧ (t.ch n).gen = if (s.ch n).gen ≥ 0xFFFF then 1 else (s.ch n).gen + 1)

/-- R846: when VSAFE falls the device is OFF, every domain is off, and what domain 0 held is lost: the safelight and its log,
the held registers and the wake receivers of the fixture buses. -/
def Obligations.VsafeLossLosesDomainZero : Prop :=
  ∀ s, Runs .vsafeLoss s fun t =>
    t.power = .off ∧ t.doms = [] ∧ (∀ d, (t.dom d).st = .off) ∧ t.regs = {} ∧ t.cn = [] ∧
      t.sl = { log := [], wake := 0, low := s.sl.low }

/-- Frame of the valve drivers and the field die (chapters 17 and 18): what their commands leave unchanged. -/
def Obligations.FieldDieCommandsFrame : Prop :=
  (∀ s t n mean duty leg ma since lasts v1 v2 pulse,
    ∀ c ∈ [Instr.seti n, .wandRamp n, .waitt n, .waiti n, .waitin n, .dither n, .wandLoop n, .wandJif n, .decay n, .endWord n, .illegalWord n,
      .decayComplete n, .regulationPeriod n mean duty, .peakCapped n, .drvTrip n leg ma since lasts, .offStateTest n v1 v2 pulse],
    exec c s = .next t → (∀ m, m / 2 ≠ n / 2 → t.valve m = s.valve m) ∧ t.ez.field.switches = s.ez.field.switches ∧
      t.ez.field.level = s.ez.field.level ∧ t.ez.field.safe = s.ez.field.safe ∧ t.ez.slots = s.ez.slots ∧ t.ez.link = s.ez.link ∧
      t.regs.val = s.regs.val ∧ t.regs.cnt = s.regs.cnt ∧ t.rg = s.rg ∧ t.ar = s.ar ∧ t.chs = s.chs ∧ t.mis = s.mis ∧ t.doms = s.doms ∧
      t.sh = s.sh ∧ t.jl = s.jl ∧ t.pe = s.pe ∧ t.fx = s.fx ∧ t.en = s.en ∧ t.cn = s.cn ∧ t.sb = s.sb ∧ t.mm = s.mm ∧ t.sl = s.sl ∧
      t.pres = s.pres ∧ t.sheet = s.sheet) ∧
  (∀ s t n mv ua k v x flip,
    ∀ c ∈ [Instr.inputAccepted n mv ua k, .wireBreak n, .wireOk n, .reverse v, .fgndLoss, .surge v, .undervolt v, .supplyConditionEnd n,
      .swThermalOff n, .swThermalRestart n, .swOverload n, .swOpenLoad n, .swOpenLoadClear n, .swShortSupply n, .swShortSupplyClear n,
      .clampEnd n, .helloUplink x, .downlinkFrame flip x, .downlinkWatchdog],
    exec c s = .next t → t.ez.link = s.ez.link ∧ t.ez.slots = s.ez.slots ∧ t.ez.cmds = s.ez.cmds ∧ t.regs.val = s.regs.val ∧ t.rg = s.rg ∧
      t.ar = s.ar ∧ t.chs = s.chs ∧ t.mis = s.mis ∧ t.doms = s.doms ∧ t.sh = s.sh ∧ t.jl = s.jl ∧ t.pe = s.pe ∧ t.fx = s.fx ∧
      t.en = s.en ∧ t.cn = s.cn ∧ t.sb = s.sb ∧ t.mm = s.mm ∧ t.sl = s.sl ∧ t.pres = s.pres ∧ t.sheet = s.sheet) ∧
  (∀ s t n m, m ≠ n →
    ∀ c ∈ [Instr.swThermalOff n, .swThermalRestart n, .swOverload n, .swOpenLoad n, .swOpenLoadClear n, .swShortSupply n,
      .swShortSupplyClear n, .clampEnd n],
    exec c s = .next t → t.sw m = s.sw m ∧ t.ez.field.valves = s.ez.field.valves ∧ t.ez.field.level = s.ez.field.level)

/-- Frame of the encoders, the sensor port and the fixture buses (chapters 19 and 20). -/
def Obligations.FixtureCommandsFrame : Prop :=
  (∀ s t n a b f l held,
    ∀ c ∈ [Instr.quadratureEdge n a b held, .index n held, .speedLatch n, .serialFrame n f, .lineFault n l, .lineFaultEnd n l, .zFallingEdge n held],
    exec c s = .next t → (∀ m, m ≠ n → t.enc m = s.enc m) ∧ t.en.sn = s.en.sn ∧ t.regs.val = s.regs.val ∧ t.rg = s.rg ∧ t.ar = s.ar ∧
      t.chs = s.chs ∧ t.mis = s.mis ∧ t.doms = s.doms ∧ t.sh = s.sh ∧ t.jl = s.jl ∧ t.fx = s.fx ∧ t.cn = s.cn ∧ t.ez = s.ez ∧ t.sb = s.sb ∧
      t.mm = s.mm ∧ t.sl = s.sl ∧ t.pres = s.pres ∧ t.sheet = s.sheet) ∧
  (∀ s t rx, ∀ c ∈ [Instr.sensorPollDue, .sensorTransferDone rx],
    exec c s = .next t → t.en.en = s.en.en ∧ t.en.sn.entries = s.en.sn.entries ∧ t.en.sn.valid = s.en.sn.valid ∧ t.regs.val = s.regs.val ∧
      t.rg = s.rg ∧ t.ar = s.ar ∧ t.chs = s.chs ∧ t.mis = s.mis ∧ t.doms = s.doms ∧ t.sh = s.sh ∧ t.jl = s.jl ∧ t.fx = s.fx ∧ t.cn = s.cn ∧
      t.ez = s.ez ∧ t.sb = s.sb ∧ t.mm = s.mm ∧ t.sl = s.sl ∧ t.pres = s.pres ∧ t.sheet = s.sheet) ∧
  (∀ s t b f tec rec_ tdc k ph,
    ∀ c ∈ [Instr.canFrameRx b f tec rec_, .canFrameAcknowledged b tec rec_ tdc, .canTxRetry b tec rec_, .canTxTimeout b,
      .canErrorStateChange b tec rec_, .busOn b, .busIdleSettings b, .canIntegrated b, .sleepEntry b, .wakePattern b ph, .wakeFrame b f k,
      .decoderDisarm b, .txdDominant b, .busDominant b],
    exec c s = .next t → (∀ m, m ≠ b → t.can m = s.can m) ∧ (t.can b).filters = (s.can b).filters ∧ t.regs.val = s.regs.val ∧
      t.ar = s.ar ∧ t.chs = s.chs ∧ t.mis = s.mis ∧ t.doms = s.doms ∧ t.sh = s.sh ∧ t.jl = s.jl ∧ t.fx = s.fx ∧ t.en = s.en ∧ t.ez = s.ez ∧
      t.sb = s.sb ∧ t.mm = s.mm ∧ t.pres = s.pres ∧ t.sheet = s.sheet)

/-- Frame of Jikanlink cells and of the shutter (chapters 14 and 15). -/
def Obligations.RackCommandsFrame : Prop :=
  (∀ s t p h pl k room arrived, ∀ c ∈ [Instr.wakeCell p h pl, .join p h pl, .leave p h pl, .claim p h pl, .echo p h pl, .userMessage p h pl,
      .emptyCell p h pl room, .portPllLock p, .portUp p, .portDown p k, .unwrap p arrived],
    exec c s = .next t → t.tk = s.tk ∧ t.regs.val = s.regs.val ∧ t.ar = s.ar ∧ t.chs = s.chs ∧ t.mis = s.mis ∧ t.doms = s.doms ∧
      t.sh = s.sh ∧ t.pe = s.pe ∧ t.fx = s.fx ∧ t.en = s.en ∧ t.cn = s.cn ∧ t.ez = s.ez ∧ t.sb = s.sb ∧ t.mm = s.mm ∧ t.sl = s.sl ∧
      t.pres = s.pres ∧ t.sheet = s.sheet) ∧
  (∀ s t p, exec (.echoRequestDue p) s = .next t → t.regs.val = s.regs.val ∧ t.ar = s.ar ∧ t.chs = s.chs ∧ t.mis = s.mis ∧ t.doms = s.doms ∧
      t.sh = s.sh ∧ t.pe = s.pe ∧ t.fx = s.fx ∧ t.en = s.en ∧ t.cn = s.cn ∧ t.ez = s.ez ∧ t.sb = s.sb ∧ t.mm = s.mm ∧ t.sl = s.sl ∧
      t.pres = s.pres ∧ t.sheet = s.sheet) ∧
  (∀ s t p h pl, exec (.sync p h pl) s = .next t → t.tk.now = s.tk.now → t.regs.val = s.regs.val ∧ t.ar = s.ar ∧ t.chs = s.chs ∧
      t.doms = s.doms ∧ t.sh.ch = s.sh.ch ∧ t.pe = s.pe ∧ t.fx = s.fx ∧ t.cn = s.cn ∧ t.sb = s.sb ∧ t.pres = s.pres ∧ t.sheet = s.sheet ∧
      t.sl = s.sl) ∧
  (∀ s t p h pl line idle slot, ∀ c ∈ [Instr.report p h pl, .badCell p line idle slot],
    exec c s = .next t → s.sl.parking ≠ some .beat → t.regs.val = s.regs.val ∧ t.ar = s.ar ∧
      t.chs = s.chs ∧ t.mis = s.mis ∧ t.doms = s.doms ∧ (s.tk.now % 1000 ≠ 0 → t.sh.ch = s.sh.ch) ∧ t.pe = s.pe ∧ t.fx = s.fx ∧
      t.en = s.en ∧ t.cn = s.cn ∧ t.ez = s.ez ∧ t.mm = s.mm ∧ t.pres = s.pres ∧ t.sheet = s.sheet ∧ t.sl = s.sl) ∧
  (∀ s t p h pl, ∀ c ∈ [Instr.grant p h pl, .syncMissCheck, .collectionClose],
    exec c s = .next t → t.regs.val = s.regs.val ∧ t.ar = s.ar ∧ t.chs = s.chs ∧ t.doms = s.doms ∧ t.sh.ch = s.sh.ch ∧ t.pe = s.pe ∧
      t.fx = s.fx ∧ t.cn = s.cn ∧ t.sb = s.sb ∧ t.pres = s.pres ∧ t.sheet = s.sheet ∧ t.sl = s.sl) ∧
  (∀ s t vbus, exec (.roundBoundary vbus) s = .next t → s.sl.parking ≠ some .beat →
      (∀ m, (t.ch m).st = (s.ch m).st ∧ (t.ch m).prio = (s.ch m).prio ∧ (t.ch m).ic = (s.ch m).ic) ∧
      (boundary 1000 s.sh.roundAt s.tk.now % 4000 ≠ 0 → t.jl = s.jl ∧ t.rg = s.rg) ∧ t.regs.val = s.regs.val ∧ t.ar = s.ar ∧
      t.mis = s.mis ∧ t.doms = s.doms ∧ t.pe = s.pe ∧ t.fx = s.fx ∧ t.en = s.en ∧ t.cn = s.cn ∧ t.ez = s.ez ∧ t.mm = s.mm ∧ t.sl = s.sl ∧
      t.pres = s.pres ∧ t.sheet = s.sheet) ∧
  (∀ s t n, ∀ c ∈ [Instr.requestWord n, .grantWord n],
    exec c s = .next t → (∀ m, (t.ch m).st = (s.ch m).st ∧ (t.ch m).prio = (s.ch m).prio ∧ (t.ch m).ic = (s.ch m).ic) ∧
      t.regs.val = s.regs.val ∧ t.rg = s.rg ∧ t.ar = s.ar ∧ t.mis = s.mis ∧ t.doms = s.doms ∧ t.jl = s.jl ∧ t.pe = s.pe ∧ t.fx = s.fx ∧
      t.en = s.en ∧ t.cn = s.cn ∧ t.ez = s.ez ∧ t.mm = s.mm ∧ t.sl = s.sl ∧ t.pres = s.pres ∧ t.sheet = s.sheet)

/-- Frame of the power path and the measurement islands (chapters 11 and 12): another channel keeps its state. -/
def Obligations.ChannelCommandsFrame : Prop :=
  (∀ s t n j b ua at_ lasts codes w w2 delay v sh sh2,
    ∀ c ∈ [Instr.pwmPeriodBoundary n codes, .normalTrip n j ua at_ lasts, .hardTrip n j ua, .driverFault n j b, .phRetry n j, .dischargeEnd n,
      .sampleWindowEnd n w w2 delay, .fastValue n v sh sh2],
    exec c s = .next t → (∀ m, m ≠ n → t.ch m = s.ch m) ∧ t.ar = s.ar ∧ t.doms = s.doms ∧ t.sh = s.sh ∧ t.jl = s.jl ∧ t.en = s.en ∧
      t.cn = s.cn ∧ t.ez = s.ez ∧ t.sb = s.sb ∧ t.sl = s.sl ∧ t.pres = s.pres ∧ t.sheet = s.sheet) ∧
  (∀ s t n x y k, ∀ c ∈ [Instr.calDue n, .calForced n, .calRequestHoldoffEnd n, .ladderGrant, .calWindowEnd n x y, .modFault n k],
    exec c s = .next t → t.chs = s.chs ∧ t.regs.val = s.regs.val ∧ t.rg = s.rg ∧ t.ar = s.ar ∧ t.doms = s.doms ∧ t.sh = s.sh ∧
      t.jl = s.jl ∧ t.pe = s.pe ∧ t.fx = s.fx ∧ t.en = s.en ∧ t.cn = s.cn ∧ t.ez = s.ez ∧ t.sb = s.sb ∧ t.mm = s.mm ∧ t.sl = s.sl ∧
      t.pres = s.pres ∧ t.sheet = s.sheet)

/-- Frame of the host link, of CXL and of the archive's own events (chapters 06 and 10): the machine behind them is untouched,
and only writes, poison and zeroing change archive memory. -/
def Obligations.HostAndArchiveCommandsFrame : Prop :=
  (∀ s t f w k a ue l sp words sub,
    ∀ c ∈ [Instr.perstAssert w k, .perstDeassert, .linkUp sp l, .linkDown w k, .functionLevelReset f w k, .flrComplete f, .d3hotEntry f,
      .speedChange sp, .widthChange sp, .l1Entry sub, .l1Exit, .cxlMemRead l a words ue],
    exec c s = .next t → t.power = s.power ∧ t.regs.val.keep (fun k => decide (k < 0x43000)) = s.regs.val.keep (fun k => decide (k < 0x43000)) ∧
      memRead t.ar.mem = memRead s.ar.mem ∧ t.doms = s.doms ∧ t.mis = s.mis ∧ t.sh = s.sh ∧ t.jl = s.jl ∧ t.pe = s.pe ∧ t.fx = s.fx ∧
      t.en = s.en ∧ t.cn = s.cn ∧ t.ez = s.ez ∧ t.sb = s.sb ∧ t.mm = s.mm ∧ t.sl = s.sl ∧ t.sheet = s.sheet) ∧
  (∀ s t l a o bytes poison b, exec (.cxlMemWrite l a bytes poison) s = .next t → hdmHit s l a = some o →
    b < o / 64 * 64 ∨ o / 64 * 64 + 64 ≤ b → memGet t.ar.mem b = memGet s.ar.mem b) ∧
  (∀ s t l a bytes poison, exec (.cxlMemWrite l a bytes poison) s = .next t → hdmHit s l a = none → t.ar = s.ar) ∧
  (∀ s t l a data b, exec (.clearPoison l a data) s = .next t → b < a ∨ a + 64 ≤ b → memGet t.ar.mem b = memGet s.ar.mem b) ∧
  (∀ s t fail, ∀ c ∈ [Instr.extentZeroed, .heartbeatSample, .archiveTrainingDone fail],
    exec c s = .next t → t.power = s.power ∧ t.regs.val = s.regs.val ∧ t.doms = s.doms ∧ t.chs = s.chs ∧ t.mis = s.mis ∧ t.sh = s.sh ∧
      t.jl = s.jl ∧ t.pe = s.pe ∧ t.fx = s.fx ∧ t.en = s.en ∧ t.cn = s.cn ∧ t.ez = s.ez ∧ t.sb = s.sb ∧ t.mm = s.mm ∧ t.sl = s.sl ∧
      t.sheet = s.sheet)

/-- Frame of the spools, the prints, the memories and the presence inputs (chapters 04, 09, 16 and 21). -/
def Obligations.RecordCommandsFrame : Prop :=
  (∀ s t prod sp words n ue,
    ∀ c ∈ [Instr.recordCommit prod sp words, .cascadeForward n ue, .tailReadComplete, .slotWrite n ue, .stallReread n, .stripStall n,
      .rewindTailRead n],
    exec c s = .next t → t.power = s.power ∧ t.regs.val = s.regs.val ∧ t.doms = s.doms ∧ t.chs = s.chs ∧ t.mis = s.mis ∧ t.sh = s.sh ∧
      t.jl = s.jl ∧ t.pe = s.pe ∧ t.fx = s.fx ∧ t.en = s.en ∧ t.cn = s.cn ∧ t.ez = s.ez ∧ t.sb = s.sb ∧ t.sl = s.sl ∧ t.pres = s.pres ∧
      t.sheet = s.sheet) ∧
  (∀ s t, ∀ c ∈ [Instr.printInputArrival, .printEmit],
    exec c s = .next t → (∀ n, (t.ch n).st = (s.ch n).st ∧ (t.ch n).expo = (s.ch n).expo) ∧ t.regs.val = s.regs.val ∧ t.rg = s.rg ∧
      t.ar = s.ar ∧ t.doms = s.doms ∧ t.mis = s.mis ∧ t.sh = s.sh ∧ t.jl = s.jl ∧ t.en = s.en ∧ t.cn = s.cn ∧ t.ez = s.ez ∧ t.sb = s.sb ∧
      t.mm = s.mm ∧ t.sl = s.sl ∧ t.pres = s.pres ∧ t.sheet = s.sheet) ∧
  (∀ s t k, ∀ c ∈ [Instr.eccWriteBack, .scrubPassStart, .scrubAccess k],
    exec c s = .next t → t.regs.val = s.regs.val ∧ t.rg = s.rg ∧ t.ar = s.ar ∧ t.chs = s.chs ∧ t.doms = s.doms ∧ t.mis = s.mis ∧
      t.sh = s.sh ∧ t.jl = s.jl ∧ t.pe = s.pe ∧ t.fx = s.fx ∧ t.en = s.en ∧ t.cn = s.cn ∧ t.ez = s.ez ∧ t.sb = s.sb ∧ t.sl = s.sl ∧
      t.pres = s.pres ∧ t.sheet = s.sheet) ∧
  (∀ s t k b, ∀ c ∈ [Instr.windowClose, .calenChange k b, .sealSample k b, .buttonStuck k, .presReleased k],
    exec c s = .next t → t.power = s.power ∧ t.regs.val = s.regs.val ∧ t.regs.cnt = s.regs.cnt ∧ t.tk = s.tk ∧ t.rg = s.rg ∧ t.ar = s.ar ∧
      t.chs = s.chs ∧ t.doms = s.doms ∧ t.mis = s.mis ∧ t.sh = s.sh ∧ t.jl = s.jl ∧ t.pe = s.pe ∧ t.fx = s.fx ∧ t.en = s.en ∧
      t.cn = s.cn ∧ t.ez = s.ez ∧ t.sb = s.sb ∧ t.mm = s.mm ∧ t.sheet = s.sheet)
end

