-- ==== Sys2Proof/Laws/Tab.lean ====
section
/-!
SUPPORT. Laws/Tab.lean: reading a sparse table after a change, and that every change keeps its keys rising.
-/
namespace Sys2Proof.Tab

variable {α : Type}

@[simp] theorem find_nil (k : Nat) : Tab.find ([] : Tab α) k = none := rfl

theorem find_cons (j : Nat) (a : α) (t : Tab α) (k : Nat) :
    Tab.find ((j, a) :: t) k = if j = k then some a else Tab.find t k := rfl

@[simp] theorem find_del_same (t : Tab α) (k : Nat) : Tab.find (Tab.del t k) k = none := by
  induction t with
  | nil => rfl
  | cons e t ih =>
    obtain ⟨j, a⟩ := e
    by_cases h : j = k <;> simp [Tab.del, h, ih, Tab.find]

theorem find_del_other (t : Tab α) {k m : Nat} (h : m ≠ k) : Tab.find (Tab.del t k) m = Tab.find t m := by
  induction t with
  | nil => rfl
  | cons e t ih =>
    obtain ⟨j, a⟩ := e
    by_cases hj : j = k
    · subst hj
      simp [Tab.del, Tab.find, ih, Ne.symm h]
    · simp [Tab.del, hj, Tab.find, ih]

theorem find_ins_same (t : Tab α) (k : Nat) (a : α) (h : Tab.find t k = none) : Tab.find (Tab.ins t k a) k = some a := by
  induction t with
  | nil => simp [Tab.ins, Tab.find]
  | cons e t ih =>
    obtain ⟨j, b⟩ := e
    have hj : j ≠ k := by
      intro hj
      simp [Tab.find, hj] at h
    have ht : Tab.find t k = none := by simpa [Tab.find, hj] using h
    unfold Tab.ins
    split
    · simp [Tab.find]
    · simp [Tab.find, hj, ih ht]

theorem find_ins_other (t : Tab α) {k m : Nat} (a : α) (h : m ≠ k) : Tab.find (Tab.ins t k a) m = Tab.find t m := by
  induction t with
  | nil => simp [Tab.ins, Tab.find, Ne.symm h]
  | cons e t ih =>
    obtain ⟨j, b⟩ := e
    unfold Tab.ins
    split
    · simp [Tab.find, Ne.symm h]
    · simp [Tab.find, ih]

/-- What was put at a key is found there. -/
@[simp] theorem find_put_same (t : Tab α) (k : Nat) (a : α) : Tab.find (Tab.put t k a) k = some a :=
  find_ins_same _ _ _ (find_del_same t k)

/-- A change at one key leaves every other key alone. -/
theorem find_put_other (t : Tab α) {k m : Nat} (a : α) (h : m ≠ k) : Tab.find (Tab.put t k a) m = Tab.find t m := by
  rw [Tab.put, find_ins_other _ _ h, find_del_other _ h]

theorem find_put (t : Tab α) (k m : Nat) (a : α) : Tab.find (Tab.put t k a) m = if m = k then some a else Tab.find t m := by
  by_cases h : m = k
  · subst h; simp
  · simp [h, find_put_other t a h]

@[simp] theorem get_put_same (t : Tab α) (k : Nat) (a d : α) : Tab.get (Tab.put t k a) k d = a := by
  simp [Tab.get]

theorem get_put_other (t : Tab α) {k m : Nat} (a d : α) (h : m ≠ k) : Tab.get (Tab.put t k a) m d = Tab.get t m d := by
  simp [Tab.get, find_put_other t a h]

theorem get_put (t : Tab α) (k m : Nat) (a d : α) : Tab.get (Tab.put t k a) m d = if m = k then a else Tab.get t m d := by
  by_cases h : m = k
  · subst h; simp
  · simp [h, get_put_other t a d h]

@[simp] theorem has_put_same (t : Tab α) (k : Nat) (a : α) : Tab.has (Tab.put t k a) k = true := by simp [Tab.has]

/-! ### Keys strictly rising -/

theorem rising_iff (t : Tab α) : Tab.rising t = true ↔ t.Pairwise (fun x y => x.1 < y.1) := by
  induction t with
  | nil => simp [Tab.rising]
  | cons e t ih =>
    obtain ⟨j, a⟩ := e
    cases t with
    | nil => simp [Tab.rising]
    | cons f t =>
      obtain ⟨k, b⟩ := f
      rw [Tab.rising, Bool.and_eq_true, ih, List.pairwise_cons (a := (j, a))]
      simp only [decide_eq_true_eq]
      constructor
      · rintro ⟨hjk, hp⟩
        refine ⟨?_, hp⟩
        intro y hy
        rcases List.mem_cons.mp hy with rfl | hy
        · exact hjk
        · exact lt_trans hjk ((List.pairwise_cons.mp hp).1 y hy)
      · rintro ⟨h, hp⟩
        exact ⟨h (k, b) (by simp), hp⟩

theorem del_sublist (t : Tab α) (k : Nat) : List.Sublist (Tab.del t k) t := by
  induction t with
  | nil => exact List.Sublist.refl _
  | cons e t ih =>
    obtain ⟨j, a⟩ := e
    unfold Tab.del
    split
    · exact ih.trans (List.sublist_cons_self _ _)
    · exact ih.cons_cons _

theorem rising_sublist {t u : Tab α} (h : List.Sublist t u) (hu : Tab.rising u = true) : Tab.rising t = true := by
  rw [rising_iff] at *
  exact hu.sublist h

theorem rising_del (t : Tab α) (k : Nat) (h : Tab.rising t = true) : Tab.rising (Tab.del t k) = true :=
  rising_sublist (del_sublist t k) h

theorem mem_ins (t : Tab α) (k : Nat) (a : α) (e : Nat × α) (h : e ∈ Tab.ins t k a) : e = (k, a) ∨ e ∈ t := by
  induction t with
  | nil => simpa [Tab.ins] using h
  | cons f t ih =>
    obtain ⟨j, b⟩ := f
    unfold Tab.ins at h
    split at h
    · simpa using h
    · rcases List.mem_cons.mp h with h | h
      · exact .inr (by simp [h])
      · rcases ih h with h | h
        · exact .inl h
        · exact .inr (by simp [h])

theorem not_mem_del (t : Tab α) (k : Nat) (e : Nat × α) (h : e ∈ Tab.del t k) : e.1 ≠ k := by
  induction t with
  | nil => simp [Tab.del] at h
  | cons f t ih =>
    obtain ⟨j, b⟩ := f
    unfold Tab.del at h
    split at h
    · exact ih h
    · rename_i hj
      rcases List.mem_cons.mp h with h | h
      · simpa [h] using hj
      · exact ih h

theorem rising_ins (t : Tab α) (k : Nat) (a : α) (h : Tab.rising t = true) (hk : ∀ e ∈ t, e.1 ≠ k) :
    Tab.rising (Tab.ins t k a) = true := by
  rw [rising_iff] at *
  induction t with
  | nil => simp [Tab.ins]
  | cons f t ih =>
    obtain ⟨j, b⟩ := f
    have hp := List.pairwise_cons.mp h
    unfold Tab.ins
    split
    · rename_i hkj
      refine List.pairwise_cons.mpr ⟨?_, h⟩
      intro y hy
      rcases List.mem_cons.mp hy with rfl | hy
      · exact hkj
      · exact lt_trans hkj (hp.1 y hy)
    · rename_i hkj
      have hjk : j ≠ k := hk (j, b) (by simp)
      refine List.pairwise_cons.mpr ⟨?_, ih hp.2 fun e he => hk e (by simp [he])⟩
      intro y hy
      rcases mem_ins t k a y hy with rfl | hy
      · simp only
        omega
      · exact hp.1 y hy

/-- A change keeps the keys rising. -/
theorem rising_put (t : Tab α) (k : Nat) (a : α) (h : Tab.rising t = true) : Tab.rising (Tab.put t k a) = true :=
  rising_ins _ _ _ (rising_del t k h) (not_mem_del t k)

theorem rising_keep (t : Tab α) (p : Nat → Bool) (h : Tab.rising t = true) : Tab.rising (Tab.keep t p) = true :=
  rising_sublist List.filter_sublist h

theorem mem_put (t : Tab α) (k : Nat) (a : α) (e : Nat × α) (h : e ∈ Tab.put t k a) : e = (k, a) ∨ e ∈ t := by
  rcases mem_ins _ _ _ _ h with h | h
  · exact .inl h
  · exact .inr ((del_sublist t k).subset h)

end Sys2Proof.Tab
end

