-- ==== Sys2Proof/Laws/State.lean ====
section
/-!
SUPPORT. Laws/State.lean: what each update of a place of State changes and what it leaves alone, one lemma per field.
-/
namespace Sys2Proof.Machine

/-! ### setCh -/

@[simp] theorem State.setCh_variant (s : State) (n : Nat) (c : Chan) : (s.setCh n c).variant = s.variant := rfl
@[simp] theorem State.setCh_dbgen (s : State) (n : Nat) (c : Chan) : (s.setCh n c).dbgen = s.dbgen := rfl
@[simp] theorem State.setCh_power (s : State) (n : Nat) (c : Chan) : (s.setCh n c).power = s.power := rfl
@[simp] theorem State.setCh_regs (s : State) (n : Nat) (c : Chan) : (s.setCh n c).regs = s.regs := rfl
@[simp] theorem State.setCh_sheet (s : State) (n : Nat) (c : Chan) : (s.setCh n c).sheet = s.sheet := rfl
@[simp] theorem State.setCh_pres (s : State) (n : Nat) (c : Chan) : (s.setCh n c).pres = s.pres := rfl
@[simp] theorem State.setCh_doms (s : State) (n : Nat) (c : Chan) : (s.setCh n c).doms = s.doms := rfl
@[simp] theorem State.setCh_xings (s : State) (n : Nat) (c : Chan) : (s.setCh n c).xings = s.xings := rfl
@[simp] theorem State.setCh_tk (s : State) (n : Nat) (c : Chan) : (s.setCh n c).tk = s.tk := rfl
@[simp] theorem State.setCh_hl (s : State) (n : Nat) (c : Chan) : (s.setCh n c).hl = s.hl := rfl
@[simp] theorem State.setCh_rg (s : State) (n : Nat) (c : Chan) : (s.setCh n c).rg = s.rg := rfl
@[simp] theorem State.setCh_sp (s : State) (n : Nat) (c : Chan) : (s.setCh n c).sp = s.sp := rfl
@[simp] theorem State.setCh_ar (s : State) (n : Nat) (c : Chan) : (s.setCh n c).ar = s.ar := rfl
@[simp] theorem State.setCh_mis (s : State) (n : Nat) (c : Chan) : (s.setCh n c).mis = s.mis := rfl
@[simp] theorem State.setCh_streams (s : State) (n : Nat) (c : Chan) : (s.setCh n c).streams = s.streams := rfl
@[simp] theorem State.setCh_ladder (s : State) (n : Nat) (c : Chan) : (s.setCh n c).ladder = s.ladder := rfl
@[simp] theorem State.setCh_sh (s : State) (n : Nat) (c : Chan) : (s.setCh n c).sh = s.sh := rfl
@[simp] theorem State.setCh_jl (s : State) (n : Nat) (c : Chan) : (s.setCh n c).jl = s.jl := rfl
@[simp] theorem State.setCh_pe (s : State) (n : Nat) (c : Chan) : (s.setCh n c).pe = s.pe := rfl
@[simp] theorem State.setCh_fx (s : State) (n : Nat) (c : Chan) : (s.setCh n c).fx = s.fx := rfl
@[simp] theorem State.setCh_en (s : State) (n : Nat) (c : Chan) : (s.setCh n c).en = s.en := rfl
@[simp] theorem State.setCh_cn (s : State) (n : Nat) (c : Chan) : (s.setCh n c).cn = s.cn := rfl
@[simp] theorem State.setCh_ez (s : State) (n : Nat) (c : Chan) : (s.setCh n c).ez = s.ez := rfl
@[simp] theorem State.setCh_sb (s : State) (n : Nat) (c : Chan) : (s.setCh n c).sb = s.sb := rfl
@[simp] theorem State.setCh_mm (s : State) (n : Nat) (c : Chan) : (s.setCh n c).mm = s.mm := rfl
@[simp] theorem State.setCh_sl (s : State) (n : Nat) (c : Chan) : (s.setCh n c).sl = s.sl := rfl
@[simp] theorem State.setCh_th (s : State) (n : Nat) (c : Chan) : (s.setCh n c).th = s.th := rfl
@[simp] theorem State.setCh_tx (s : State) (n : Nat) (c : Chan) : (s.setCh n c).tx = s.tx := rfl
@[simp] theorem State.setCh_free (s : State) (n : Nat) (c : Chan) : (s.setCh n c).free = s.free := rfl
@[simp] theorem State.setCh_pending (s : State) (n : Nat) (c : Chan) : (s.setCh n c).pending = s.pending := rfl
@[simp] theorem State.setCh_same (s : State) (n : Nat) (c : Chan) : (s.setCh n c).ch n = c := Tab.get_put_same _ _ _ _
theorem State.setCh_other (s : State) (n : Nat) (c : Chan) (k_ : Nat) (h : k_ ≠ n) : (s.setCh n c).ch k_ = s.ch k_ := Tab.get_put_other _ _ _ h
theorem State.setCh_ch (s : State) (n : Nat) (c : Chan) (k_ : Nat) : (s.setCh n c).ch k_ = if k_ = n then c else s.ch k_ := Tab.get_put _ _ _ _ _
@[simp] theorem State.setCh_mi (s : State) (n : Nat) (c : Chan) (k_ : Nat) : (s.setCh n c).mi k_ = s.mi k_ := rfl
@[simp] theorem State.setCh_dom (s : State) (n : Nat) (c : Chan) (k_ : Nat) : (s.setCh n c).dom k_ = s.dom k_ := rfl
@[simp] theorem State.setCh_ring (s : State) (n : Nat) (c : Chan) (k_ : Nat) : (s.setCh n c).ring k_ = s.ring k_ := rfl
@[simp] theorem State.setCh_fn (s : State) (n : Nat) (c : Chan) (k_ : Nat) : (s.setCh n c).fn k_ = s.fn k_ := rfl
@[simp] theorem State.setCh_ld (s : State) (n : Nat) (c : Chan) (k_ : Nat) : (s.setCh n c).ld k_ = s.ld k_ := rfl
@[simp] theorem State.setCh_spool (s : State) (n : Nat) (c : Chan) (k_ : Nat) : (s.setCh n c).spool k_ = s.spool k_ := rfl
@[simp] theorem State.setCh_strip (s : State) (n : Nat) (c : Chan) (k_ : Nat) : (s.setCh n c).strip k_ = s.strip k_ := rfl
@[simp] theorem State.setCh_ext (s : State) (n : Nat) (c : Chan) (k_ : Nat) : (s.setCh n c).ext k_ = s.ext k_ := rfl
@[simp] theorem State.setCh_lease (s : State) (n : Nat) (c : Chan) (k_ : Nat) : (s.setCh n c).lease k_ = s.lease k_ := rfl

/-! ### setMi -/

@[simp] theorem State.setMi_variant (s : State) (n : Nat) (m : Meas) : (s.setMi n m).variant = s.variant := rfl
@[simp] theorem State.setMi_dbgen (s : State) (n : Nat) (m : Meas) : (s.setMi n m).dbgen = s.dbgen := rfl
@[simp] theorem State.setMi_power (s : State) (n : Nat) (m : Meas) : (s.setMi n m).power = s.power := rfl
@[simp] theorem State.setMi_regs (s : State) (n : Nat) (m : Meas) : (s.setMi n m).regs = s.regs := rfl
@[simp] theorem State.setMi_sheet (s : State) (n : Nat) (m : Meas) : (s.setMi n m).sheet = s.sheet := rfl
@[simp] theorem State.setMi_pres (s : State) (n : Nat) (m : Meas) : (s.setMi n m).pres = s.pres := rfl
@[simp] theorem State.setMi_doms (s : State) (n : Nat) (m : Meas) : (s.setMi n m).doms = s.doms := rfl
@[simp] theorem State.setMi_xings (s : State) (n : Nat) (m : Meas) : (s.setMi n m).xings = s.xings := rfl
@[simp] theorem State.setMi_tk (s : State) (n : Nat) (m : Meas) : (s.setMi n m).tk = s.tk := rfl
@[simp] theorem State.setMi_hl (s : State) (n : Nat) (m : Meas) : (s.setMi n m).hl = s.hl := rfl
@[simp] theorem State.setMi_rg (s : State) (n : Nat) (m : Meas) : (s.setMi n m).rg = s.rg := rfl
@[simp] theorem State.setMi_sp (s : State) (n : Nat) (m : Meas) : (s.setMi n m).sp = s.sp := rfl
@[simp] theorem State.setMi_ar (s : State) (n : Nat) (m : Meas) : (s.setMi n m).ar = s.ar := rfl
@[simp] theorem State.setMi_chs (s : State) (n : Nat) (m : Meas) : (s.setMi n m).chs = s.chs := rfl
@[simp] theorem State.setMi_streams (s : State) (n : Nat) (m : Meas) : (s.setMi n m).streams = s.streams := rfl
@[simp] theorem State.setMi_ladder (s : State) (n : Nat) (m : Meas) : (s.setMi n m).ladder = s.ladder := rfl
@[simp] theorem State.setMi_sh (s : State) (n : Nat) (m : Meas) : (s.setMi n m).sh = s.sh := rfl
@[simp] theorem State.setMi_jl (s : State) (n : Nat) (m : Meas) : (s.setMi n m).jl = s.jl := rfl
@[simp] theorem State.setMi_pe (s : State) (n : Nat) (m : Meas) : (s.setMi n m).pe = s.pe := rfl
@[simp] theorem State.setMi_fx (s : State) (n : Nat) (m : Meas) : (s.setMi n m).fx = s.fx := rfl
@[simp] theorem State.setMi_en (s : State) (n : Nat) (m : Meas) : (s.setMi n m).en = s.en := rfl
@[simp] theorem State.setMi_cn (s : State) (n : Nat) (m : Meas) : (s.setMi n m).cn = s.cn := rfl
@[simp] theorem State.setMi_ez (s : State) (n : Nat) (m : Meas) : (s.setMi n m).ez = s.ez := rfl
@[simp] theorem State.setMi_sb (s : State) (n : Nat) (m : Meas) : (s.setMi n m).sb = s.sb := rfl
@[simp] theorem State.setMi_mm (s : State) (n : Nat) (m : Meas) : (s.setMi n m).mm = s.mm := rfl
@[simp] theorem State.setMi_sl (s : State) (n : Nat) (m : Meas) : (s.setMi n m).sl = s.sl := rfl
@[simp] theorem State.setMi_th (s : State) (n : Nat) (m : Meas) : (s.setMi n m).th = s.th := rfl
@[simp] theorem State.setMi_tx (s : State) (n : Nat) (m : Meas) : (s.setMi n m).tx = s.tx := rfl
@[simp] theorem State.setMi_free (s : State) (n : Nat) (m : Meas) : (s.setMi n m).free = s.free := rfl
@[simp] theorem State.setMi_pending (s : State) (n : Nat) (m : Meas) : (s.setMi n m).pending = s.pending := rfl
@[simp] theorem State.setMi_same (s : State) (n : Nat) (m : Meas) : (s.setMi n m).mi n = m := Tab.get_put_same _ _ _ _
theorem State.setMi_other (s : State) (n : Nat) (m : Meas) (k_ : Nat) (h : k_ ≠ n) : (s.setMi n m).mi k_ = s.mi k_ := Tab.get_put_other _ _ _ h
theorem State.setMi_mi (s : State) (n : Nat) (m : Meas) (k_ : Nat) : (s.setMi n m).mi k_ = if k_ = n then m else s.mi k_ := Tab.get_put _ _ _ _ _
@[simp] theorem State.setMi_ch (s : State) (n : Nat) (m : Meas) (k_ : Nat) : (s.setMi n m).ch k_ = s.ch k_ := rfl
@[simp] theorem State.setMi_dom (s : State) (n : Nat) (m : Meas) (k_ : Nat) : (s.setMi n m).dom k_ = s.dom k_ := rfl
@[simp] theorem State.setMi_ring (s : State) (n : Nat) (m : Meas) (k_ : Nat) : (s.setMi n m).ring k_ = s.ring k_ := rfl
@[simp] theorem State.setMi_fn (s : State) (n : Nat) (m : Meas) (k_ : Nat) : (s.setMi n m).fn k_ = s.fn k_ := rfl
@[simp] theorem State.setMi_ld (s : State) (n : Nat) (m : Meas) (k_ : Nat) : (s.setMi n m).ld k_ = s.ld k_ := rfl
@[simp] theorem State.setMi_spool (s : State) (n : Nat) (m : Meas) (k_ : Nat) : (s.setMi n m).spool k_ = s.spool k_ := rfl
@[simp] theorem State.setMi_strip (s : State) (n : Nat) (m : Meas) (k_ : Nat) : (s.setMi n m).strip k_ = s.strip k_ := rfl
@[simp] theorem State.setMi_ext (s : State) (n : Nat) (m : Meas) (k_ : Nat) : (s.setMi n m).ext k_ = s.ext k_ := rfl
@[simp] theorem State.setMi_lease (s : State) (n : Nat) (m : Meas) (k_ : Nat) : (s.setMi n m).lease k_ = s.lease k_ := rfl

/-! ### setDom -/

@[simp] theorem State.setDom_variant (s : State) (d : Nat) (x : Dom) : (s.setDom d x).variant = s.variant := rfl
@[simp] theorem State.setDom_dbgen (s : State) (d : Nat) (x : Dom) : (s.setDom d x).dbgen = s.dbgen := rfl
@[simp] theorem State.setDom_power (s : State) (d : Nat) (x : Dom) : (s.setDom d x).power = s.power := rfl
@[simp] theorem State.setDom_regs (s : State) (d : Nat) (x : Dom) : (s.setDom d x).regs = s.regs := rfl
@[simp] theorem State.setDom_sheet (s : State) (d : Nat) (x : Dom) : (s.setDom d x).sheet = s.sheet := rfl
@[simp] theorem State.setDom_pres (s : State) (d : Nat) (x : Dom) : (s.setDom d x).pres = s.pres := rfl
@[simp] theorem State.setDom_xings (s : State) (d : Nat) (x : Dom) : (s.setDom d x).xings = s.xings := rfl
@[simp] theorem State.setDom_tk (s : State) (d : Nat) (x : Dom) : (s.setDom d x).tk = s.tk := rfl
@[simp] theorem State.setDom_hl (s : State) (d : Nat) (x : Dom) : (s.setDom d x).hl = s.hl := rfl
@[simp] theorem State.setDom_rg (s : State) (d : Nat) (x : Dom) : (s.setDom d x).rg = s.rg := rfl
@[simp] theorem State.setDom_sp (s : State) (d : Nat) (x : Dom) : (s.setDom d x).sp = s.sp := rfl
@[simp] theorem State.setDom_ar (s : State) (d : Nat) (x : Dom) : (s.setDom d x).ar = s.ar := rfl
@[simp] theorem State.setDom_chs (s : State) (d : Nat) (x : Dom) : (s.setDom d x).chs = s.chs := rfl
@[simp] theorem State.setDom_mis (s : State) (d : Nat) (x : Dom) : (s.setDom d x).mis = s.mis := rfl
@[simp] theorem State.setDom_streams (s : State) (d : Nat) (x : Dom) : (s.setDom d x).streams = s.streams := rfl
@[simp] theorem State.setDom_ladder (s : State) (d : Nat) (x : Dom) : (s.setDom d x).ladder = s.ladder := rfl
@[simp] theorem State.setDom_sh (s : State) (d : Nat) (x : Dom) : (s.setDom d x).sh = s.sh := rfl
@[simp] theorem State.setDom_jl (s : State) (d : Nat) (x : Dom) : (s.setDom d x).jl = s.jl := rfl
@[simp] theorem State.setDom_pe (s : State) (d : Nat) (x : Dom) : (s.setDom d x).pe = s.pe := rfl
@[simp] theorem State.setDom_fx (s : State) (d : Nat) (x : Dom) : (s.setDom d x).fx = s.fx := rfl
@[simp] theorem State.setDom_en (s : State) (d : Nat) (x : Dom) : (s.setDom d x).en = s.en := rfl
@[simp] theorem State.setDom_cn (s : State) (d : Nat) (x : Dom) : (s.setDom d x).cn = s.cn := rfl
@[simp] theorem State.setDom_ez (s : State) (d : Nat) (x : Dom) : (s.setDom d x).ez = s.ez := rfl
@[simp] theorem State.setDom_sb (s : State) (d : Nat) (x : Dom) : (s.setDom d x).sb = s.sb := rfl
@[simp] theorem State.setDom_mm (s : State) (d : Nat) (x : Dom) : (s.setDom d x).mm = s.mm := rfl
@[simp] theorem State.setDom_sl (s : State) (d : Nat) (x : Dom) : (s.setDom d x).sl = s.sl := rfl
@[simp] theorem State.setDom_th (s : State) (d : Nat) (x : Dom) : (s.setDom d x).th = s.th := rfl
@[simp] theorem State.setDom_tx (s : State) (d : Nat) (x : Dom) : (s.setDom d x).tx = s.tx := rfl
@[simp] theorem State.setDom_free (s : State) (d : Nat) (x : Dom) : (s.setDom d x).free = s.free := rfl
@[simp] theorem State.setDom_pending (s : State) (d : Nat) (x : Dom) : (s.setDom d x).pending = s.pending := rfl
@[simp] theorem State.setDom_same (s : State) (d : Nat) (x : Dom) : (s.setDom d x).dom d = x := Tab.get_put_same _ _ _ _
theorem State.setDom_other (s : State) (d : Nat) (x : Dom) (k_ : Nat) (h : k_ ≠ d) : (s.setDom d x).dom k_ = s.dom k_ := Tab.get_put_other _ _ _ h
theorem State.setDom_dom (s : State) (d : Nat) (x : Dom) (k_ : Nat) : (s.setDom d x).dom k_ = if k_ = d then x else s.dom k_ := Tab.get_put _ _ _ _ _
@[simp] theorem State.setDom_ch (s : State) (d : Nat) (x : Dom) (k_ : Nat) : (s.setDom d x).ch k_ = s.ch k_ := rfl
@[simp] theorem State.setDom_mi (s : State) (d : Nat) (x : Dom) (k_ : Nat) : (s.setDom d x).mi k_ = s.mi k_ := rfl
@[simp] theorem State.setDom_ring (s : State) (d : Nat) (x : Dom) (k_ : Nat) : (s.setDom d x).ring k_ = s.ring k_ := rfl
@[simp] theorem State.setDom_fn (s : State) (d : Nat) (x : Dom) (k_ : Nat) : (s.setDom d x).fn k_ = s.fn k_ := rfl
@[simp] theorem State.setDom_ld (s : State) (d : Nat) (x : Dom) (k_ : Nat) : (s.setDom d x).ld k_ = s.ld k_ := rfl
@[simp] theorem State.setDom_spool (s : State) (d : Nat) (x : Dom) (k_ : Nat) : (s.setDom d x).spool k_ = s.spool k_ := rfl
@[simp] theorem State.setDom_strip (s : State) (d : Nat) (x : Dom) (k_ : Nat) : (s.setDom d x).strip k_ = s.strip k_ := rfl
@[simp] theorem State.setDom_ext (s : State) (d : Nat) (x : Dom) (k_ : Nat) : (s.setDom d x).ext k_ = s.ext k_ := rfl
@[simp] theorem State.setDom_lease (s : State) (d : Nat) (x : Dom) (k_ : Nat) : (s.setDom d x).lease k_ = s.lease k_ := rfl

/-! ### setRing -/

@[simp] theorem State.setRing_variant (s : State) (r : Nat) (x : Ring) : (s.setRing r x).variant = s.variant := rfl
@[simp] theorem State.setRing_dbgen (s : State) (r : Nat) (x : Ring) : (s.setRing r x).dbgen = s.dbgen := rfl
@[simp] theorem State.setRing_power (s : State) (r : Nat) (x : Ring) : (s.setRing r x).power = s.power := rfl
@[simp] theorem State.setRing_regs (s : State) (r : Nat) (x : Ring) : (s.setRing r x).regs = s.regs := rfl
@[simp] theorem State.setRing_sheet (s : State) (r : Nat) (x : Ring) : (s.setRing r x).sheet = s.sheet := rfl
@[simp] theorem State.setRing_pres (s : State) (r : Nat) (x : Ring) : (s.setRing r x).pres = s.pres := rfl
@[simp] theorem State.setRing_doms (s : State) (r : Nat) (x : Ring) : (s.setRing r x).doms = s.doms := rfl
@[simp] theorem State.setRing_xings (s : State) (r : Nat) (x : Ring) : (s.setRing r x).xings = s.xings := rfl
@[simp] theorem State.setRing_tk (s : State) (r : Nat) (x : Ring) : (s.setRing r x).tk = s.tk := rfl
@[simp] theorem State.setRing_hl (s : State) (r : Nat) (x : Ring) : (s.setRing r x).hl = s.hl := rfl
@[simp] theorem State.setRing_sp (s : State) (r : Nat) (x : Ring) : (s.setRing r x).sp = s.sp := rfl
@[simp] theorem State.setRing_ar (s : State) (r : Nat) (x : Ring) : (s.setRing r x).ar = s.ar := rfl
@[simp] theorem State.setRing_chs (s : State) (r : Nat) (x : Ring) : (s.setRing r x).chs = s.chs := rfl
@[simp] theorem State.setRing_mis (s : State) (r : Nat) (x : Ring) : (s.setRing r x).mis = s.mis := rfl
@[simp] theorem State.setRing_streams (s : State) (r : Nat) (x : Ring) : (s.setRing r x).streams = s.streams := rfl
@[simp] theorem State.setRing_ladder (s : State) (r : Nat) (x : Ring) : (s.setRing r x).ladder = s.ladder := rfl
@[simp] theorem State.setRing_sh (s : State) (r : Nat) (x : Ring) : (s.setRing r x).sh = s.sh := rfl
@[simp] theorem State.setRing_jl (s : State) (r : Nat) (x : Ring) : (s.setRing r x).jl = s.jl := rfl
@[simp] theorem State.setRing_pe (s : State) (r : Nat) (x : Ring) : (s.setRing r x).pe = s.pe := rfl
@[simp] theorem State.setRing_fx (s : State) (r : Nat) (x : Ring) : (s.setRing r x).fx = s.fx := rfl
@[simp] theorem State.setRing_en (s : State) (r : Nat) (x : Ring) : (s.setRing r x).en = s.en := rfl
@[simp] theorem State.setRing_cn (s : State) (r : Nat) (x : Ring) : (s.setRing r x).cn = s.cn := rfl
@[simp] theorem State.setRing_ez (s : State) (r : Nat) (x : Ring) : (s.setRing r x).ez = s.ez := rfl
@[simp] theorem State.setRing_sb (s : State) (r : Nat) (x : Ring) : (s.setRing r x).sb = s.sb := rfl
@[simp] theorem State.setRing_mm (s : State) (r : Nat) (x : Ring) : (s.setRing r x).mm = s.mm := rfl
@[simp] theorem State.setRing_sl (s : State) (r : Nat) (x : Ring) : (s.setRing r x).sl = s.sl := rfl
@[simp] theorem State.setRing_th (s : State) (r : Nat) (x : Ring) : (s.setRing r x).th = s.th := rfl
@[simp] theorem State.setRing_tx (s : State) (r : Nat) (x : Ring) : (s.setRing r x).tx = s.tx := rfl
@[simp] theorem State.setRing_free (s : State) (r : Nat) (x : Ring) : (s.setRing r x).free = s.free := rfl
@[simp] theorem State.setRing_pending (s : State) (r : Nat) (x : Ring) : (s.setRing r x).pending = s.pending := rfl
@[simp] theorem State.setRing_same (s : State) (r : Nat) (x : Ring) : (s.setRing r x).ring r = x := Tab.get_put_same _ _ _ _
theorem State.setRing_other (s : State) (r : Nat) (x : Ring) (k_ : Nat) (h : k_ ≠ r) : (s.setRing r x).ring k_ = s.ring k_ := Tab.get_put_other _ _ _ h
theorem State.setRing_ring (s : State) (r : Nat) (x : Ring) (k_ : Nat) : (s.setRing r x).ring k_ = if k_ = r then x else s.ring k_ := Tab.get_put _ _ _ _ _
@[simp] theorem State.setRing_ch (s : State) (r : Nat) (x : Ring) (k_ : Nat) : (s.setRing r x).ch k_ = s.ch k_ := rfl
@[simp] theorem State.setRing_mi (s : State) (r : Nat) (x : Ring) (k_ : Nat) : (s.setRing r x).mi k_ = s.mi k_ := rfl
@[simp] theorem State.setRing_dom (s : State) (r : Nat) (x : Ring) (k_ : Nat) : (s.setRing r x).dom k_ = s.dom k_ := rfl
@[simp] theorem State.setRing_fn (s : State) (r : Nat) (x : Ring) (k_ : Nat) : (s.setRing r x).fn k_ = s.fn k_ := rfl
@[simp] theorem State.setRing_ld (s : State) (r : Nat) (x : Ring) (k_ : Nat) : (s.setRing r x).ld k_ = s.ld k_ := rfl
@[simp] theorem State.setRing_spool (s : State) (r : Nat) (x : Ring) (k_ : Nat) : (s.setRing r x).spool k_ = s.spool k_ := rfl
@[simp] theorem State.setRing_strip (s : State) (r : Nat) (x : Ring) (k_ : Nat) : (s.setRing r x).strip k_ = s.strip k_ := rfl
@[simp] theorem State.setRing_ext (s : State) (r : Nat) (x : Ring) (k_ : Nat) : (s.setRing r x).ext k_ = s.ext k_ := rfl
@[simp] theorem State.setRing_lease (s : State) (r : Nat) (x : Ring) (k_ : Nat) : (s.setRing r x).lease k_ = s.lease k_ := rfl

/-! ### setFn -/

@[simp] theorem State.setFn_variant (s : State) (f : Nat) (x : Fn) : (s.setFn f x).variant = s.variant := rfl
@[simp] theorem State.setFn_dbgen (s : State) (f : Nat) (x : Fn) : (s.setFn f x).dbgen = s.dbgen := rfl
@[simp] theorem State.setFn_power (s : State) (f : Nat) (x : Fn) : (s.setFn f x).power = s.power := rfl
@[simp] theorem State.setFn_regs (s : State) (f : Nat) (x : Fn) : (s.setFn f x).regs = s.regs := rfl
@[simp] theorem State.setFn_sheet (s : State) (f : Nat) (x : Fn) : (s.setFn f x).sheet = s.sheet := rfl
@[simp] theorem State.setFn_pres (s : State) (f : Nat) (x : Fn) : (s.setFn f x).pres = s.pres := rfl
@[simp] theorem State.setFn_doms (s : State) (f : Nat) (x : Fn) : (s.setFn f x).doms = s.doms := rfl
@[simp] theorem State.setFn_xings (s : State) (f : Nat) (x : Fn) : (s.setFn f x).xings = s.xings := rfl
@[simp] theorem State.setFn_tk (s : State) (f : Nat) (x : Fn) : (s.setFn f x).tk = s.tk := rfl
@[simp] theorem State.setFn_rg (s : State) (f : Nat) (x : Fn) : (s.setFn f x).rg = s.rg := rfl
@[simp] theorem State.setFn_sp (s : State) (f : Nat) (x : Fn) : (s.setFn f x).sp = s.sp := rfl
@[simp] theorem State.setFn_ar (s : State) (f : Nat) (x : Fn) : (s.setFn f x).ar = s.ar := rfl
@[simp] theorem State.setFn_chs (s : State) (f : Nat) (x : Fn) : (s.setFn f x).chs = s.chs := rfl
@[simp] theorem State.setFn_mis (s : State) (f : Nat) (x : Fn) : (s.setFn f x).mis = s.mis := rfl
@[simp] theorem State.setFn_streams (s : State) (f : Nat) (x : Fn) : (s.setFn f x).streams = s.streams := rfl
@[simp] theorem State.setFn_ladder (s : State) (f : Nat) (x : Fn) : (s.setFn f x).ladder = s.ladder := rfl
@[simp] theorem State.setFn_sh (s : State) (f : Nat) (x : Fn) : (s.setFn f x).sh = s.sh := rfl
@[simp] theorem State.setFn_jl (s : State) (f : Nat) (x : Fn) : (s.setFn f x).jl = s.jl := rfl
@[simp] theorem State.setFn_pe (s : State) (f : Nat) (x : Fn) : (s.setFn f x).pe = s.pe := rfl
@[simp] theorem State.setFn_fx (s : State) (f : Nat) (x : Fn) : (s.setFn f x).fx = s.fx := rfl
@[simp] theorem State.setFn_en (s : State) (f : Nat) (x : Fn) : (s.setFn f x).en = s.en := rfl
@[simp] theorem State.setFn_cn (s : State) (f : Nat) (x : Fn) : (s.setFn f x).cn = s.cn := rfl
@[simp] theorem State.setFn_ez (s : State) (f : Nat) (x : Fn) : (s.setFn f x).ez = s.ez := rfl
@[simp] theorem State.setFn_sb (s : State) (f : Nat) (x : Fn) : (s.setFn f x).sb = s.sb := rfl
@[simp] theorem State.setFn_mm (s : State) (f : Nat) (x : Fn) : (s.setFn f x).mm = s.mm := rfl
@[simp] theorem State.setFn_sl (s : State) (f : Nat) (x : Fn) : (s.setFn f x).sl = s.sl := rfl
@[simp] theorem State.setFn_th (s : State) (f : Nat) (x : Fn) : (s.setFn f x).th = s.th := rfl
@[simp] theorem State.setFn_tx (s : State) (f : Nat) (x : Fn) : (s.setFn f x).tx = s.tx := rfl
@[simp] theorem State.setFn_free (s : State) (f : Nat) (x : Fn) : (s.setFn f x).free = s.free := rfl
@[simp] theorem State.setFn_pending (s : State) (f : Nat) (x : Fn) : (s.setFn f x).pending = s.pending := rfl
@[simp] theorem State.setFn_same (s : State) (f : Nat) (x : Fn) : (s.setFn f x).fn f = x := Tab.get_put_same _ _ _ _
theorem State.setFn_other (s : State) (f : Nat) (x : Fn) (k_ : Nat) (h : k_ ≠ f) : (s.setFn f x).fn k_ = s.fn k_ := Tab.get_put_other _ _ _ h
theorem State.setFn_fn (s : State) (f : Nat) (x : Fn) (k_ : Nat) : (s.setFn f x).fn k_ = if k_ = f then x else s.fn k_ := Tab.get_put _ _ _ _ _
@[simp] theorem State.setFn_ch (s : State) (f : Nat) (x : Fn) (k_ : Nat) : (s.setFn f x).ch k_ = s.ch k_ := rfl
@[simp] theorem State.setFn_mi (s : State) (f : Nat) (x : Fn) (k_ : Nat) : (s.setFn f x).mi k_ = s.mi k_ := rfl
@[simp] theorem State.setFn_dom (s : State) (f : Nat) (x : Fn) (k_ : Nat) : (s.setFn f x).dom k_ = s.dom k_ := rfl
@[simp] theorem State.setFn_ring (s : State) (f : Nat) (x : Fn) (k_ : Nat) : (s.setFn f x).ring k_ = s.ring k_ := rfl
@[simp] theorem State.setFn_ld (s : State) (f : Nat) (x : Fn) (k_ : Nat) : (s.setFn f x).ld k_ = s.ld k_ := rfl
@[simp] theorem State.setFn_spool (s : State) (f : Nat) (x : Fn) (k_ : Nat) : (s.setFn f x).spool k_ = s.spool k_ := rfl
@[simp] theorem State.setFn_strip (s : State) (f : Nat) (x : Fn) (k_ : Nat) : (s.setFn f x).strip k_ = s.strip k_ := rfl
@[simp] theorem State.setFn_ext (s : State) (f : Nat) (x : Fn) (k_ : Nat) : (s.setFn f x).ext k_ = s.ext k_ := rfl
@[simp] theorem State.setFn_lease (s : State) (f : Nat) (x : Fn) (k_ : Nat) : (s.setFn f x).lease k_ = s.lease k_ := rfl

/-! ### setLd -/

@[simp] theorem State.setLd_variant (s : State) (l : Nat) (x : Ld) : (s.setLd l x).variant = s.variant := rfl
@[simp] theorem State.setLd_dbgen (s : State) (l : Nat) (x : Ld) : (s.setLd l x).dbgen = s.dbgen := rfl
@[simp] theorem State.setLd_power (s : State) (l : Nat) (x : Ld) : (s.setLd l x).power = s.power := rfl
@[simp] theorem State.setLd_regs (s : State) (l : Nat) (x : Ld) : (s.setLd l x).regs = s.regs := rfl
@[simp] theorem State.setLd_sheet (s : State) (l : Nat) (x : Ld) : (s.setLd l x).sheet = s.sheet := rfl
@[simp] theorem State.setLd_pres (s : State) (l : Nat) (x : Ld) : (s.setLd l x).pres = s.pres := rfl
@[simp] theorem State.setLd_doms (s : State) (l : Nat) (x : Ld) : (s.setLd l x).doms = s.doms := rfl
@[simp] theorem State.setLd_xings (s : State) (l : Nat) (x : Ld) : (s.setLd l x).xings = s.xings := rfl
@[simp] theorem State.setLd_tk (s : State) (l : Nat) (x : Ld) : (s.setLd l x).tk = s.tk := rfl
@[simp] theorem State.setLd_rg (s : State) (l : Nat) (x : Ld) : (s.setLd l x).rg = s.rg := rfl
@[simp] theorem State.setLd_sp (s : State) (l : Nat) (x : Ld) : (s.setLd l x).sp = s.sp := rfl
@[simp] theorem State.setLd_ar (s : State) (l : Nat) (x : Ld) : (s.setLd l x).ar = s.ar := rfl
@[simp] theorem State.setLd_chs (s : State) (l : Nat) (x : Ld) : (s.setLd l x).chs = s.chs := rfl
@[simp] theorem State.setLd_mis (s : State) (l : Nat) (x : Ld) : (s.setLd l x).mis = s.mis := rfl
@[simp] theorem State.setLd_streams (s : State) (l : Nat) (x : Ld) : (s.setLd l x).streams = s.streams := rfl
@[simp] theorem State.setLd_ladder (s : State) (l : Nat) (x : Ld) : (s.setLd l x).ladder = s.ladder := rfl
@[simp] theorem State.setLd_sh (s : State) (l : Nat) (x : Ld) : (s.setLd l x).sh = s.sh := rfl
@[simp] theorem State.setLd_jl (s : State) (l : Nat) (x : Ld) : (s.setLd l x).jl = s.jl := rfl
@[simp] theorem State.setLd_pe (s : State) (l : Nat) (x : Ld) : (s.setLd l x).pe = s.pe := rfl
@[simp] theorem State.setLd_fx (s : State) (l : Nat) (x : Ld) : (s.setLd l x).fx = s.fx := rfl
@[simp] theorem State.setLd_en (s : State) (l : Nat) (x : Ld) : (s.setLd l x).en = s.en := rfl
@[simp] theorem State.setLd_cn (s : State) (l : Nat) (x : Ld) : (s.setLd l x).cn = s.cn := rfl
@[simp] theorem State.setLd_ez (s : State) (l : Nat) (x : Ld) : (s.setLd l x).ez = s.ez := rfl
@[simp] theorem State.setLd_sb (s : State) (l : Nat) (x : Ld) : (s.setLd l x).sb = s.sb := rfl
@[simp] theorem State.setLd_mm (s : State) (l : Nat) (x : Ld) : (s.setLd l x).mm = s.mm := rfl
@[simp] theorem State.setLd_sl (s : State) (l : Nat) (x : Ld) : (s.setLd l x).sl = s.sl := rfl
@[simp] theorem State.setLd_th (s : State) (l : Nat) (x : Ld) : (s.setLd l x).th = s.th := rfl
@[simp] theorem State.setLd_tx (s : State) (l : Nat) (x : Ld) : (s.setLd l x).tx = s.tx := rfl
@[simp] theorem State.setLd_free (s : State) (l : Nat) (x : Ld) : (s.setLd l x).free = s.free := rfl
@[simp] theorem State.setLd_pending (s : State) (l : Nat) (x : Ld) : (s.setLd l x).pending = s.pending := rfl
@[simp] theorem State.setLd_same (s : State) (l : Nat) (x : Ld) : (s.setLd l x).ld l = x := Tab.get_put_same _ _ _ _
theorem State.setLd_other (s : State) (l : Nat) (x : Ld) (k_ : Nat) (h : k_ ≠ l) : (s.setLd l x).ld k_ = s.ld k_ := Tab.get_put_other _ _ _ h
theorem State.setLd_ld (s : State) (l : Nat) (x : Ld) (k_ : Nat) : (s.setLd l x).ld k_ = if k_ = l then x else s.ld k_ := Tab.get_put _ _ _ _ _
@[simp] theorem State.setLd_ch (s : State) (l : Nat) (x : Ld) (k_ : Nat) : (s.setLd l x).ch k_ = s.ch k_ := rfl
@[simp] theorem State.setLd_mi (s : State) (l : Nat) (x : Ld) (k_ : Nat) : (s.setLd l x).mi k_ = s.mi k_ := rfl
@[simp] theorem State.setLd_dom (s : State) (l : Nat) (x : Ld) (k_ : Nat) : (s.setLd l x).dom k_ = s.dom k_ := rfl
@[simp] theorem State.setLd_ring (s : State) (l : Nat) (x : Ld) (k_ : Nat) : (s.setLd l x).ring k_ = s.ring k_ := rfl
@[simp] theorem State.setLd_fn (s : State) (l : Nat) (x : Ld) (k_ : Nat) : (s.setLd l x).fn k_ = s.fn k_ := rfl
@[simp] theorem State.setLd_spool (s : State) (l : Nat) (x : Ld) (k_ : Nat) : (s.setLd l x).spool k_ = s.spool k_ := rfl
@[simp] theorem State.setLd_strip (s : State) (l : Nat) (x : Ld) (k_ : Nat) : (s.setLd l x).strip k_ = s.strip k_ := rfl
@[simp] theorem State.setLd_ext (s : State) (l : Nat) (x : Ld) (k_ : Nat) : (s.setLd l x).ext k_ = s.ext k_ := rfl
@[simp] theorem State.setLd_lease (s : State) (l : Nat) (x : Ld) (k_ : Nat) : (s.setLd l x).lease k_ = s.lease k_ := rfl

/-! ### setSpool -/

@[simp] theorem State.setSpool_variant (s : State) (n : Nat) (x : Spool) : (s.setSpool n x).variant = s.variant := rfl
@[simp] theorem State.setSpool_dbgen (s : State) (n : Nat) (x : Spool) : (s.setSpool n x).dbgen = s.dbgen := rfl
@[simp] theorem State.setSpool_power (s : State) (n : Nat) (x : Spool) : (s.setSpool n x).power = s.power := rfl
@[simp] theorem State.setSpool_regs (s : State) (n : Nat) (x : Spool) : (s.setSpool n x).regs = s.regs := rfl
@[simp] theorem State.setSpool_sheet (s : State) (n : Nat) (x : Spool) : (s.setSpool n x).sheet = s.sheet := rfl
@[simp] theorem State.setSpool_pres (s : State) (n : Nat) (x : Spool) : (s.setSpool n x).pres = s.pres := rfl
@[simp] theorem State.setSpool_doms (s : State) (n : Nat) (x : Spool) : (s.setSpool n x).doms = s.doms := rfl
@[simp] theorem State.setSpool_xings (s : State) (n : Nat) (x : Spool) : (s.setSpool n x).xings = s.xings := rfl
@[simp] theorem State.setSpool_tk (s : State) (n : Nat) (x : Spool) : (s.setSpool n x).tk = s.tk := rfl
@[simp] theorem State.setSpool_hl (s : State) (n : Nat) (x : Spool) : (s.setSpool n x).hl = s.hl := rfl
@[simp] theorem State.setSpool_rg (s : State) (n : Nat) (x : Spool) : (s.setSpool n x).rg = s.rg := rfl
@[simp] theorem State.setSpool_ar (s : State) (n : Nat) (x : Spool) : (s.setSpool n x).ar = s.ar := rfl
@[simp] theorem State.setSpool_chs (s : State) (n : Nat) (x : Spool) : (s.setSpool n x).chs = s.chs := rfl
@[simp] theorem State.setSpool_mis (s : State) (n : Nat) (x : Spool) : (s.setSpool n x).mis = s.mis := rfl
@[simp] theorem State.setSpool_streams (s : State) (n : Nat) (x : Spool) : (s.setSpool n x).streams = s.streams := rfl
@[simp] theorem State.setSpool_ladder (s : State) (n : Nat) (x : Spool) : (s.setSpool n x).ladder = s.ladder := rfl
@[simp] theorem State.setSpool_sh (s : State) (n : Nat) (x : Spool) : (s.setSpool n x).sh = s.sh := rfl
@[simp] theorem State.setSpool_jl (s : State) (n : Nat) (x : Spool) : (s.setSpool n x).jl = s.jl := rfl
@[simp] theorem State.setSpool_pe (s : State) (n : Nat) (x : Spool) : (s.setSpool n x).pe = s.pe := rfl
@[simp] theorem State.setSpool_fx (s : State) (n : Nat) (x : Spool) : (s.setSpool n x).fx = s.fx := rfl
@[simp] theorem State.setSpool_en (s : State) (n : Nat) (x : Spool) : (s.setSpool n x).en = s.en := rfl
@[simp] theorem State.setSpool_cn (s : State) (n : Nat) (x : Spool) : (s.setSpool n x).cn = s.cn := rfl
@[simp] theorem State.setSpool_ez (s : State) (n : Nat) (x : Spool) : (s.setSpool n x).ez = s.ez := rfl
@[simp] theorem State.setSpool_sb (s : State) (n : Nat) (x : Spool) : (s.setSpool n x).sb = s.sb := rfl
@[simp] theorem State.setSpool_mm (s : State) (n : Nat) (x : Spool) : (s.setSpool n x).mm = s.mm := rfl
@[simp] theorem State.setSpool_sl (s : State) (n : Nat) (x : Spool) : (s.setSpool n x).sl = s.sl := rfl
@[simp] theorem State.setSpool_th (s : State) (n : Nat) (x : Spool) : (s.setSpool n x).th = s.th := rfl
@[simp] theorem State.setSpool_tx (s : State) (n : Nat) (x : Spool) : (s.setSpool n x).tx = s.tx := rfl
@[simp] theorem State.setSpool_free (s : State) (n : Nat) (x : Spool) : (s.setSpool n x).free = s.free := rfl
@[simp] theorem State.setSpool_pending (s : State) (n : Nat) (x : Spool) : (s.setSpool n x).pending = s.pending := rfl
@[simp] theorem State.setSpool_same (s : State) (n : Nat) (x : Spool) : (s.setSpool n x).spool n = x := Tab.get_put_same _ _ _ _
theorem State.setSpool_other (s : State) (n : Nat) (x : Spool) (k_ : Nat) (h : k_ ≠ n) : (s.setSpool n x).spool k_ = s.spool k_ := Tab.get_put_other _ _ _ h
theorem State.setSpool_spool (s : State) (n : Nat) (x : Spool) (k_ : Nat) : (s.setSpool n x).spool k_ = if k_ = n then x else s.spool k_ := Tab.get_put _ _ _ _ _
@[simp] theorem State.setSpool_ch (s : State) (n : Nat) (x : Spool) (k_ : Nat) : (s.setSpool n x).ch k_ = s.ch k_ := rfl
@[simp] theorem State.setSpool_mi (s : State) (n : Nat) (x : Spool) (k_ : Nat) : (s.setSpool n x).mi k_ = s.mi k_ := rfl
@[simp] theorem State.setSpool_dom (s : State) (n : Nat) (x : Spool) (k_ : Nat) : (s.setSpool n x).dom k_ = s.dom k_ := rfl
@[simp] theorem State.setSpool_ring (s : State) (n : Nat) (x : Spool) (k_ : Nat) : (s.setSpool n x).ring k_ = s.ring k_ := rfl
@[simp] theorem State.setSpool_fn (s : State) (n : Nat) (x : Spool) (k_ : Nat) : (s.setSpool n x).fn k_ = s.fn k_ := rfl
@[simp] theorem State.setSpool_ld (s : State) (n : Nat) (x : Spool) (k_ : Nat) : (s.setSpool n x).ld k_ = s.ld k_ := rfl
@[simp] theorem State.setSpool_strip (s : State) (n : Nat) (x : Spool) (k_ : Nat) : (s.setSpool n x).strip k_ = s.strip k_ := rfl
@[simp] theorem State.setSpool_ext (s : State) (n : Nat) (x : Spool) (k_ : Nat) : (s.setSpool n x).ext k_ = s.ext k_ := rfl
@[simp] theorem State.setSpool_lease (s : State) (n : Nat) (x : Spool) (k_ : Nat) : (s.setSpool n x).lease k_ = s.lease k_ := rfl

/-! ### setStrip -/

@[simp] theorem State.setStrip_variant (s : State) (n : Nat) (x : Strip) : (s.setStrip n x).variant = s.variant := rfl
@[simp] theorem State.setStrip_dbgen (s : State) (n : Nat) (x : Strip) : (s.setStrip n x).dbgen = s.dbgen := rfl
@[simp] theorem State.setStrip_power (s : State) (n : Nat) (x : Strip) : (s.setStrip n x).power = s.power := rfl
@[simp] theorem State.setStrip_regs (s : State) (n : Nat) (x : Strip) : (s.setStrip n x).regs = s.regs := rfl
@[simp] theorem State.setStrip_sheet (s : State) (n : Nat) (x : Strip) : (s.setStrip n x).sheet = s.sheet := rfl
@[simp] theorem State.setStrip_pres (s : State) (n : Nat) (x : Strip) : (s.setStrip n x).pres = s.pres := rfl
@[simp] theorem State.setStrip_doms (s : State) (n : Nat) (x : Strip) : (s.setStrip n x).doms = s.doms := rfl
@[simp] theorem State.setStrip_xings (s : State) (n : Nat) (x : Strip) : (s.setStrip n x).xings = s.xings := rfl
@[simp] theorem State.setStrip_tk (s : State) (n : Nat) (x : Strip) : (s.setStrip n x).tk = s.tk := rfl
@[simp] theorem State.setStrip_hl (s : State) (n : Nat) (x : Strip) : (s.setStrip n x).hl = s.hl := rfl
@[simp] theorem State.setStrip_rg (s : State) (n : Nat) (x : Strip) : (s.setStrip n x).rg = s.rg := rfl
@[simp] theorem State.setStrip_ar (s : State) (n : Nat) (x : Strip) : (s.setStrip n x).ar = s.ar := rfl
@[simp] theorem State.setStrip_chs (s : State) (n : Nat) (x : Strip) : (s.setStrip n x).chs = s.chs := rfl
@[simp] theorem State.setStrip_mis (s : State) (n : Nat) (x : Strip) : (s.setStrip n x).mis = s.mis := rfl
@[simp] theorem State.setStrip_streams (s : State) (n : Nat) (x : Strip) : (s.setStrip n x).streams = s.streams := rfl
@[simp] theorem State.setStrip_ladder (s : State) (n : Nat) (x : Strip) : (s.setStrip n x).ladder = s.ladder := rfl
@[simp] theorem State.setStrip_sh (s : State) (n : Nat) (x : Strip) : (s.setStrip n x).sh = s.sh := rfl
@[simp] theorem State.setStrip_jl (s : State) (n : Nat) (x : Strip) : (s.setStrip n x).jl = s.jl := rfl
@[simp] theorem State.setStrip_pe (s : State) (n : Nat) (x : Strip) : (s.setStrip n x).pe = s.pe := rfl
@[simp] theorem State.setStrip_fx (s : State) (n : Nat) (x : Strip) : (s.setStrip n x).fx = s.fx := rfl
@[simp] theorem State.setStrip_en (s : State) (n : Nat) (x : Strip) : (s.setStrip n x).en = s.en := rfl
@[simp] theorem State.setStrip_cn (s : State) (n : Nat) (x : Strip) : (s.setStrip n x).cn = s.cn := rfl
@[simp] theorem State.setStrip_ez (s : State) (n : Nat) (x : Strip) : (s.setStrip n x).ez = s.ez := rfl
@[simp] theorem State.setStrip_sb (s : State) (n : Nat) (x : Strip) : (s.setStrip n x).sb = s.sb := rfl
@[simp] theorem State.setStrip_mm (s : State) (n : Nat) (x : Strip) : (s.setStrip n x).mm = s.mm := rfl
@[simp] theorem State.setStrip_sl (s : State) (n : Nat) (x : Strip) : (s.setStrip n x).sl = s.sl := rfl
@[simp] theorem State.setStrip_th (s : State) (n : Nat) (x : Strip) : (s.setStrip n x).th = s.th := rfl
@[simp] theorem State.setStrip_tx (s : State) (n : Nat) (x : Strip) : (s.setStrip n x).tx = s.tx := rfl
@[simp] theorem State.setStrip_free (s : State) (n : Nat) (x : Strip) : (s.setStrip n x).free = s.free := rfl
@[simp] theorem State.setStrip_pending (s : State) (n : Nat) (x : Strip) : (s.setStrip n x).pending = s.pending := rfl
@[simp] theorem State.setStrip_same (s : State) (n : Nat) (x : Strip) : (s.setStrip n x).strip n = x := Tab.get_put_same _ _ _ _
theorem State.setStrip_other (s : State) (n : Nat) (x : Strip) (k_ : Nat) (h : k_ ≠ n) : (s.setStrip n x).strip k_ = s.strip k_ := Tab.get_put_other _ _ _ h
theorem State.setStrip_strip (s : State) (n : Nat) (x : Strip) (k_ : Nat) : (s.setStrip n x).strip k_ = if k_ = n then x else s.strip k_ := Tab.get_put _ _ _ _ _
@[simp] theorem State.setStrip_ch (s : State) (n : Nat) (x : Strip) (k_ : Nat) : (s.setStrip n x).ch k_ = s.ch k_ := rfl
@[simp] theorem State.setStrip_mi (s : State) (n : Nat) (x : Strip) (k_ : Nat) : (s.setStrip n x).mi k_ = s.mi k_ := rfl
@[simp] theorem State.setStrip_dom (s : State) (n : Nat) (x : Strip) (k_ : Nat) : (s.setStrip n x).dom k_ = s.dom k_ := rfl
@[simp] theorem State.setStrip_ring (s : State) (n : Nat) (x : Strip) (k_ : Nat) : (s.setStrip n x).ring k_ = s.ring k_ := rfl
@[simp] theorem State.setStrip_fn (s : State) (n : Nat) (x : Strip) (k_ : Nat) : (s.setStrip n x).fn k_ = s.fn k_ := rfl
@[simp] theorem State.setStrip_ld (s : State) (n : Nat) (x : Strip) (k_ : Nat) : (s.setStrip n x).ld k_ = s.ld k_ := rfl
@[simp] theorem State.setStrip_spool (s : State) (n : Nat) (x : Strip) (k_ : Nat) : (s.setStrip n x).spool k_ = s.spool k_ := rfl
@[simp] theorem State.setStrip_ext (s : State) (n : Nat) (x : Strip) (k_ : Nat) : (s.setStrip n x).ext k_ = s.ext k_ := rfl
@[simp] theorem State.setStrip_lease (s : State) (n : Nat) (x : Strip) (k_ : Nat) : (s.setStrip n x).lease k_ = s.lease k_ := rfl

/-! ### setExt -/

@[simp] theorem State.setExt_variant (s : State) (n : Nat) (x : Extent) : (s.setExt n x).variant = s.variant := rfl
@[simp] theorem State.setExt_dbgen (s : State) (n : Nat) (x : Extent) : (s.setExt n x).dbgen = s.dbgen := rfl
@[simp] theorem State.setExt_power (s : State) (n : Nat) (x : Extent) : (s.setExt n x).power = s.power := rfl
@[simp] theorem State.setExt_regs (s : State) (n : Nat) (x : Extent) : (s.setExt n x).regs = s.regs := rfl
@[simp] theorem State.setExt_sheet (s : State) (n : Nat) (x : Extent) : (s.setExt n x).sheet = s.sheet := rfl
@[simp] theorem State.setExt_pres (s : State) (n : Nat) (x : Extent) : (s.setExt n x).pres = s.pres := rfl
@[simp] theorem State.setExt_doms (s : State) (n : Nat) (x : Extent) : (s.setExt n x).doms = s.doms := rfl
@[simp] theorem State.setExt_xings (s : State) (n : Nat) (x : Extent) : (s.setExt n x).xings = s.xings := rfl
@[simp] theorem State.setExt_tk (s : State) (n : Nat) (x : Extent) : (s.setExt n x).tk = s.tk := rfl
@[simp] theorem State.setExt_hl (s : State) (n : Nat) (x : Extent) : (s.setExt n x).hl = s.hl := rfl
@[simp] theorem State.setExt_rg (s : State) (n : Nat) (x : Extent) : (s.setExt n x).rg = s.rg := rfl
@[simp] theorem State.setExt_sp (s : State) (n : Nat) (x : Extent) : (s.setExt n x).sp = s.sp := rfl
@[simp] theorem State.setExt_chs (s : State) (n : Nat) (x : Extent) : (s.setExt n x).chs = s.chs := rfl
@[simp] theorem State.setExt_mis (s : State) (n : Nat) (x : Extent) : (s.setExt n x).mis = s.mis := rfl
@[simp] theorem State.setExt_streams (s : State) (n : Nat) (x : Extent) : (s.setExt n x).streams = s.streams := rfl
@[simp] theorem State.setExt_ladder (s : State) (n : Nat) (x : Extent) : (s.setExt n x).ladder = s.ladder := rfl
@[simp] theorem State.setExt_sh (s : State) (n : Nat) (x : Extent) : (s.setExt n x).sh = s.sh := rfl
@[simp] theorem State.setExt_jl (s : State) (n : Nat) (x : Extent) : (s.setExt n x).jl = s.jl := rfl
@[simp] theorem State.setExt_pe (s : State) (n : Nat) (x : Extent) : (s.setExt n x).pe = s.pe := rfl
@[simp] theorem State.setExt_fx (s : State) (n : Nat) (x : Extent) : (s.setExt n x).fx = s.fx := rfl
@[simp] theorem State.setExt_en (s : State) (n : Nat) (x : Extent) : (s.setExt n x).en = s.en := rfl
@[simp] theorem State.setExt_cn (s : State) (n : Nat) (x : Extent) : (s.setExt n x).cn = s.cn := rfl
@[simp] theorem State.setExt_ez (s : State) (n : Nat) (x : Extent) : (s.setExt n x).ez = s.ez := rfl
@[simp] theorem State.setExt_sb (s : State) (n : Nat) (x : Extent) : (s.setExt n x).sb = s.sb := rfl
@[simp] theorem State.setExt_mm (s : State) (n : Nat) (x : Extent) : (s.setExt n x).mm = s.mm := rfl
@[simp] theorem State.setExt_sl (s : State) (n : Nat) (x : Extent) : (s.setExt n x).sl = s.sl := rfl
@[simp] theorem State.setExt_th (s : State) (n : Nat) (x : Extent) : (s.setExt n x).th = s.th := rfl
@[simp] theorem State.setExt_tx (s : State) (n : Nat) (x : Extent) : (s.setExt n x).tx = s.tx := rfl
@[simp] theorem State.setExt_free (s : State) (n : Nat) (x : Extent) : (s.setExt n x).free = s.free := rfl
@[simp] theorem State.setExt_pending (s : State) (n : Nat) (x : Extent) : (s.setExt n x).pending = s.pending := rfl
@[simp] theorem State.setExt_same (s : State) (n : Nat) (x : Extent) : (s.setExt n x).ext n = x := Tab.get_put_same _ _ _ _
theorem State.setExt_other (s : State) (n : Nat) (x : Extent) (k_ : Nat) (h : k_ ≠ n) : (s.setExt n x).ext k_ = s.ext k_ := Tab.get_put_other _ _ _ h
theorem State.setExt_ext (s : State) (n : Nat) (x : Extent) (k_ : Nat) : (s.setExt n x).ext k_ = if k_ = n then x else s.ext k_ := Tab.get_put _ _ _ _ _
@[simp] theorem State.setExt_ch (s : State) (n : Nat) (x : Extent) (k_ : Nat) : (s.setExt n x).ch k_ = s.ch k_ := rfl
@[simp] theorem State.setExt_mi (s : State) (n : Nat) (x : Extent) (k_ : Nat) : (s.setExt n x).mi k_ = s.mi k_ := rfl
@[simp] theorem State.setExt_dom (s : State) (n : Nat) (x : Extent) (k_ : Nat) : (s.setExt n x).dom k_ = s.dom k_ := rfl
@[simp] theorem State.setExt_ring (s : State) (n : Nat) (x : Extent) (k_ : Nat) : (s.setExt n x).ring k_ = s.ring k_ := rfl
@[simp] theorem State.setExt_fn (s : State) (n : Nat) (x : Extent) (k_ : Nat) : (s.setExt n x).fn k_ = s.fn k_ := rfl
@[simp] theorem State.setExt_ld (s : State) (n : Nat) (x : Extent) (k_ : Nat) : (s.setExt n x).ld k_ = s.ld k_ := rfl
@[simp] theorem State.setExt_spool (s : State) (n : Nat) (x : Extent) (k_ : Nat) : (s.setExt n x).spool k_ = s.spool k_ := rfl
@[simp] theorem State.setExt_strip (s : State) (n : Nat) (x : Extent) (k_ : Nat) : (s.setExt n x).strip k_ = s.strip k_ := rfl
@[simp] theorem State.setExt_lease (s : State) (n : Nat) (x : Extent) (k_ : Nat) : (s.setExt n x).lease k_ = s.lease k_ := rfl

/-! ### setLease -/

@[simp] theorem State.setLease_variant (s : State) (l : Nat) (x : Lease) : (s.setLease l x).variant = s.variant := rfl
@[simp] theorem State.setLease_dbgen (s : State) (l : Nat) (x : Lease) : (s.setLease l x).dbgen = s.dbgen := rfl
@[simp] theorem State.setLease_power (s : State) (l : Nat) (x : Lease) : (s.setLease l x).power = s.power := rfl
@[simp] theorem State.setLease_regs (s : State) (l : Nat) (x : Lease) : (s.setLease l x).regs = s.regs := rfl
@[simp] theorem State.setLease_sheet (s : State) (l : Nat) (x : Lease) : (s.setLease l x).sheet = s.sheet := rfl
@[simp] theorem State.setLease_pres (s : State) (l : Nat) (x : Lease) : (s.setLease l x).pres = s.pres := rfl
@[simp] theorem State.setLease_doms (s : State) (l : Nat) (x : Lease) : (s.setLease l x).doms = s.doms := rfl
@[simp] theorem State.setLease_xings (s : State) (l : Nat) (x : Lease) : (s.setLease l x).xings = s.xings := rfl
@[simp] theorem State.setLease_tk (s : State) (l : Nat) (x : Lease) : (s.setLease l x).tk = s.tk := rfl
@[simp] theorem State.setLease_hl (s : State) (l : Nat) (x : Lease) : (s.setLease l x).hl = s.hl := rfl
@[simp] theorem State.setLease_rg (s : State) (l : Nat) (x : Lease) : (s.setLease l x).rg = s.rg := rfl
@[simp] theorem State.setLease_sp (s : State) (l : Nat) (x : Lease) : (s.setLease l x).sp = s.sp := rfl
@[simp] theorem State.setLease_chs (s : State) (l : Nat) (x : Lease) : (s.setLease l x).chs = s.chs := rfl
@[simp] theorem State.setLease_mis (s : State) (l : Nat) (x : Lease) : (s.setLease l x).mis = s.mis := rfl
@[simp] theorem State.setLease_streams (s : State) (l : Nat) (x : Lease) : (s.setLease l x).streams = s.streams := rfl
@[simp] theorem State.setLease_ladder (s : State) (l : Nat) (x : Lease) : (s.setLease l x).ladder = s.ladder := rfl
@[simp] theorem State.setLease_sh (s : State) (l : Nat) (x : Lease) : (s.setLease l x).sh = s.sh := rfl
@[simp] theorem State.setLease_jl (s : State) (l : Nat) (x : Lease) : (s.setLease l x).jl = s.jl := rfl
@[simp] theorem State.setLease_pe (s : State) (l : Nat) (x : Lease) : (s.setLease l x).pe = s.pe := rfl
@[simp] theorem State.setLease_fx (s : State) (l : Nat) (x : Lease) : (s.setLease l x).fx = s.fx := rfl
@[simp] theorem State.setLease_en (s : State) (l : Nat) (x : Lease) : (s.setLease l x).en = s.en := rfl
@[simp] theorem State.setLease_cn (s : State) (l : Nat) (x : Lease) : (s.setLease l x).cn = s.cn := rfl
@[simp] theorem State.setLease_ez (s : State) (l : Nat) (x : Lease) : (s.setLease l x).ez = s.ez := rfl
@[simp] theorem State.setLease_sb (s : State) (l : Nat) (x : Lease) : (s.setLease l x).sb = s.sb := rfl
@[simp] theorem State.setLease_mm (s : State) (l : Nat) (x : Lease) : (s.setLease l x).mm = s.mm := rfl
@[simp] theorem State.setLease_sl (s : State) (l : Nat) (x : Lease) : (s.setLease l x).sl = s.sl := rfl
@[simp] theorem State.setLease_th (s : State) (l : Nat) (x : Lease) : (s.setLease l x).th = s.th := rfl
@[simp] theorem State.setLease_tx (s : State) (l : Nat) (x : Lease) : (s.setLease l x).tx = s.tx := rfl
@[simp] theorem State.setLease_free (s : State) (l : Nat) (x : Lease) : (s.setLease l x).free = s.free := rfl
@[simp] theorem State.setLease_pending (s : State) (l : Nat) (x : Lease) : (s.setLease l x).pending = s.pending := rfl
@[simp] theorem State.setLease_same (s : State) (l : Nat) (x : Lease) : (s.setLease l x).lease l = x := Tab.get_put_same _ _ _ _
theorem State.setLease_other (s : State) (l : Nat) (x : Lease) (k_ : Nat) (h : k_ ≠ l) : (s.setLease l x).lease k_ = s.lease k_ := Tab.get_put_other _ _ _ h
theorem State.setLease_lease (s : State) (l : Nat) (x : Lease) (k_ : Nat) : (s.setLease l x).lease k_ = if k_ = l then x else s.lease k_ := Tab.get_put _ _ _ _ _
@[simp] theorem State.setLease_ch (s : State) (l : Nat) (x : Lease) (k_ : Nat) : (s.setLease l x).ch k_ = s.ch k_ := rfl
@[simp] theorem State.setLease_mi (s : State) (l : Nat) (x : Lease) (k_ : Nat) : (s.setLease l x).mi k_ = s.mi k_ := rfl
@[simp] theorem State.setLease_dom (s : State) (l : Nat) (x : Lease) (k_ : Nat) : (s.setLease l x).dom k_ = s.dom k_ := rfl
@[simp] theorem State.setLease_ring (s : State) (l : Nat) (x : Lease) (k_ : Nat) : (s.setLease l x).ring k_ = s.ring k_ := rfl
@[simp] theorem State.setLease_fn (s : State) (l : Nat) (x : Lease) (k_ : Nat) : (s.setLease l x).fn k_ = s.fn k_ := rfl
@[simp] theorem State.setLease_ld (s : State) (l : Nat) (x : Lease) (k_ : Nat) : (s.setLease l x).ld k_ = s.ld k_ := rfl
@[simp] theorem State.setLease_spool (s : State) (l : Nat) (x : Lease) (k_ : Nat) : (s.setLease l x).spool k_ = s.spool k_ := rfl
@[simp] theorem State.setLease_strip (s : State) (l : Nat) (x : Lease) (k_ : Nat) : (s.setLease l x).strip k_ = s.strip k_ := rfl
@[simp] theorem State.setLease_ext (s : State) (l : Nat) (x : Lease) (k_ : Nat) : (s.setLease l x).ext k_ = s.ext k_ := rfl

/-! ### setXing -/

@[simp] theorem State.setXing_variant (s : State) (i j : Nat) (x : Crossing) : (s.setXing i j x).variant = s.variant := rfl
@[simp] theorem State.setXing_dbgen (s : State) (i j : Nat) (x : Crossing) : (s.setXing i j x).dbgen = s.dbgen := rfl
@[simp] theorem State.setXing_power (s : State) (i j : Nat) (x : Crossing) : (s.setXing i j x).power = s.power := rfl
@[simp] theorem State.setXing_regs (s : State) (i j : Nat) (x : Crossing) : (s.setXing i j x).regs = s.regs := rfl
@[simp] theorem State.setXing_sheet (s : State) (i j : Nat) (x : Crossing) : (s.setXing i j x).sheet = s.sheet := rfl
@[simp] theorem State.setXing_pres (s : State) (i j : Nat) (x : Crossing) : (s.setXing i j x).pres = s.pres := rfl
@[simp] theorem State.setXing_doms (s : State) (i j : Nat) (x : Crossing) : (s.setXing i j x).doms = s.doms := rfl
@[simp] theorem State.setXing_tk (s : State) (i j : Nat) (x : Crossing) : (s.setXing i j x).tk = s.tk := rfl
@[simp] theorem State.setXing_hl (s : State) (i j : Nat) (x : Crossing) : (s.setXing i j x).hl = s.hl := rfl
@[simp] theorem State.setXing_rg (s : State) (i j : Nat) (x : Crossing) : (s.setXing i j x).rg = s.rg := rfl
@[simp] theorem State.setXing_sp (s : State) (i j : Nat) (x : Crossing) : (s.setXing i j x).sp = s.sp := rfl
@[simp] theorem State.setXing_ar (s : State) (i j : Nat) (x : Crossing) : (s.setXing i j x).ar = s.ar := rfl
@[simp] theorem State.setXing_chs (s : State) (i j : Nat) (x : Crossing) : (s.setXing i j x).chs = s.chs := rfl
@[simp] theorem State.setXing_mis (s : State) (i j : Nat) (x : Crossing) : (s.setXing i j x).mis = s.mis := rfl
@[simp] theorem State.setXing_streams (s : State) (i j : Nat) (x : Crossing) : (s.setXing i j x).streams = s.streams := rfl
@[simp] theorem State.setXing_ladder (s : State) (i j : Nat) (x : Crossing) : (s.setXing i j x).ladder = s.ladder := rfl
@[simp] theorem State.setXing_sh (s : State) (i j : Nat) (x : Crossing) : (s.setXing i j x).sh = s.sh := rfl
@[simp] theorem State.setXing_jl (s : State) (i j : Nat) (x : Crossing) : (s.setXing i j x).jl = s.jl := rfl
@[simp] theorem State.setXing_pe (s : State) (i j : Nat) (x : Crossing) : (s.setXing i j x).pe = s.pe := rfl
@[simp] theorem State.setXing_fx (s : State) (i j : Nat) (x : Crossing) : (s.setXing i j x).fx = s.fx := rfl
@[simp] theorem State.setXing_en (s : State) (i j : Nat) (x : Crossing) : (s.setXing i j x).en = s.en := rfl
@[simp] theorem State.setXing_cn (s : State) (i j : Nat) (x : Crossing) : (s.setXing i j x).cn = s.cn := rfl
@[simp] theorem State.setXing_ez (s : State) (i j : Nat) (x : Crossing) : (s.setXing i j x).ez = s.ez := rfl
@[simp] theorem State.setXing_sb (s : State) (i j : Nat) (x : Crossing) : (s.setXing i j x).sb = s.sb := rfl
@[simp] theorem State.setXing_mm (s : State) (i j : Nat) (x : Crossing) : (s.setXing i j x).mm = s.mm := rfl
@[simp] theorem State.setXing_sl (s : State) (i j : Nat) (x : Crossing) : (s.setXing i j x).sl = s.sl := rfl
@[simp] theorem State.setXing_th (s : State) (i j : Nat) (x : Crossing) : (s.setXing i j x).th = s.th := rfl
@[simp] theorem State.setXing_tx (s : State) (i j : Nat) (x : Crossing) : (s.setXing i j x).tx = s.tx := rfl
@[simp] theorem State.setXing_free (s : State) (i j : Nat) (x : Crossing) : (s.setXing i j x).free = s.free := rfl
@[simp] theorem State.setXing_pending (s : State) (i j : Nat) (x : Crossing) : (s.setXing i j x).pending = s.pending := rfl
@[simp] theorem State.setXing_same (s : State) (i j : Nat) (x : Crossing) : (s.setXing i j x).xing i j = x := Tab.get_put_same _ _ _ _
@[simp] theorem State.setXing_ch (s : State) (i j : Nat) (x : Crossing) (k_ : Nat) : (s.setXing i j x).ch k_ = s.ch k_ := rfl
@[simp] theorem State.setXing_mi (s : State) (i j : Nat) (x : Crossing) (k_ : Nat) : (s.setXing i j x).mi k_ = s.mi k_ := rfl
@[simp] theorem State.setXing_dom (s : State) (i j : Nat) (x : Crossing) (k_ : Nat) : (s.setXing i j x).dom k_ = s.dom k_ := rfl
@[simp] theorem State.setXing_ring (s : State) (i j : Nat) (x : Crossing) (k_ : Nat) : (s.setXing i j x).ring k_ = s.ring k_ := rfl
@[simp] theorem State.setXing_fn (s : State) (i j : Nat) (x : Crossing) (k_ : Nat) : (s.setXing i j x).fn k_ = s.fn k_ := rfl
@[simp] theorem State.setXing_ld (s : State) (i j : Nat) (x : Crossing) (k_ : Nat) : (s.setXing i j x).ld k_ = s.ld k_ := rfl
@[simp] theorem State.setXing_spool (s : State) (i j : Nat) (x : Crossing) (k_ : Nat) : (s.setXing i j x).spool k_ = s.spool k_ := rfl
@[simp] theorem State.setXing_strip (s : State) (i j : Nat) (x : Crossing) (k_ : Nat) : (s.setXing i j x).strip k_ = s.strip k_ := rfl
@[simp] theorem State.setXing_ext (s : State) (i j : Nat) (x : Crossing) (k_ : Nat) : (s.setXing i j x).ext k_ = s.ext k_ := rfl
@[simp] theorem State.setXing_lease (s : State) (i j : Nat) (x : Crossing) (k_ : Nat) : (s.setXing i j x).lease k_ = s.lease k_ := rfl
@[simp] theorem State.setXing_isOn (s : State) (i j : Nat) (x : Crossing) (k_ : Nat) : (s.setXing i j x).isOn k_ = s.isOn k_ := rfl

end Sys2Proof.Machine
end

