-- ==== Sys2Proof/Laws/Ops.lean ====
section
/-!
SUPPORT. Laws/Ops.lean: what the shared operations leave alone, one lemma per operation and field, and what they do to the fields they
change.
-/
namespace Sys2Proof.Machine

/-! ### send -/

@[simp] theorem send_variant (t : Tx) (s : State) : (send t s).variant = s.variant := rfl
@[simp] theorem send_dbgen (t : Tx) (s : State) : (send t s).dbgen = s.dbgen := rfl
@[simp] theorem send_power (t : Tx) (s : State) : (send t s).power = s.power := rfl
@[simp] theorem send_regs (t : Tx) (s : State) : (send t s).regs = s.regs := rfl
@[simp] theorem send_sheet (t : Tx) (s : State) : (send t s).sheet = s.sheet := rfl
@[simp] theorem send_pres (t : Tx) (s : State) : (send t s).pres = s.pres := rfl
@[simp] theorem send_doms (t : Tx) (s : State) : (send t s).doms = s.doms := rfl
@[simp] theorem send_xings (t : Tx) (s : State) : (send t s).xings = s.xings := rfl
@[simp] theorem send_tk (t : Tx) (s : State) : (send t s).tk = s.tk := rfl
@[simp] theorem send_hl (t : Tx) (s : State) : (send t s).hl = s.hl := rfl
@[simp] theorem send_rg (t : Tx) (s : State) : (send t s).rg = s.rg := rfl
@[simp] theorem send_sp (t : Tx) (s : State) : (send t s).sp = s.sp := rfl
@[simp] theorem send_ar (t : Tx) (s : State) : (send t s).ar = s.ar := rfl
@[simp] theorem send_chs (t : Tx) (s : State) : (send t s).chs = s.chs := rfl
@[simp] theorem send_mis (t : Tx) (s : State) : (send t s).mis = s.mis := rfl
@[simp] theorem send_streams (t : Tx) (s : State) : (send t s).streams = s.streams := rfl
@[simp] theorem send_ladder (t : Tx) (s : State) : (send t s).ladder = s.ladder := rfl
@[simp] theorem send_sh (t : Tx) (s : State) : (send t s).sh = s.sh := rfl
@[simp] theorem send_jl (t : Tx) (s : State) : (send t s).jl = s.jl := rfl
@[simp] theorem send_pe (t : Tx) (s : State) : (send t s).pe = s.pe := rfl
@[simp] theorem send_fx (t : Tx) (s : State) : (send t s).fx = s.fx := rfl
@[simp] theorem send_en (t : Tx) (s : State) : (send t s).en = s.en := rfl
@[simp] theorem send_cn (t : Tx) (s : State) : (send t s).cn = s.cn := rfl
@[simp] theorem send_ez (t : Tx) (s : State) : (send t s).ez = s.ez := rfl
@[simp] theorem send_sb (t : Tx) (s : State) : (send t s).sb = s.sb := rfl
@[simp] theorem send_mm (t : Tx) (s : State) : (send t s).mm = s.mm := rfl
@[simp] theorem send_sl (t : Tx) (s : State) : (send t s).sl = s.sl := rfl
@[simp] theorem send_th (t : Tx) (s : State) : (send t s).th = s.th := rfl
@[simp] theorem send_free (t : Tx) (s : State) : (send t s).free = s.free := rfl
@[simp] theorem send_pending (t : Tx) (s : State) : (send t s).pending = s.pending := rfl
@[simp] theorem send_ch (t : Tx) (s : State) (k_ : Nat) : (send t s).ch k_ = s.ch k_ := by simp [State.ch]
@[simp] theorem send_mi (t : Tx) (s : State) (k_ : Nat) : (send t s).mi k_ = s.mi k_ := by simp [State.mi]
@[simp] theorem send_dom (t : Tx) (s : State) (k_ : Nat) : (send t s).dom k_ = s.dom k_ := by simp [State.dom]
@[simp] theorem send_ring (t : Tx) (s : State) (k_ : Nat) : (send t s).ring k_ = s.ring k_ := by simp [State.ring]
@[simp] theorem send_fn (t : Tx) (s : State) (k_ : Nat) : (send t s).fn k_ = s.fn k_ := by simp [State.fn]
@[simp] theorem send_ld (t : Tx) (s : State) (k_ : Nat) : (send t s).ld k_ = s.ld k_ := by simp [State.ld]
@[simp] theorem send_spool (t : Tx) (s : State) (k_ : Nat) : (send t s).spool k_ = s.spool k_ := by simp [State.spool]
@[simp] theorem send_strip (t : Tx) (s : State) (k_ : Nat) : (send t s).strip k_ = s.strip k_ := by simp [State.strip]
@[simp] theorem send_ext (t : Tx) (s : State) (k_ : Nat) : (send t s).ext k_ = s.ext k_ := by simp [State.ext]
@[simp] theorem send_lease (t : Tx) (s : State) (k_ : Nat) : (send t s).lease k_ = s.lease k_ := by simp [State.lease]
@[simp] theorem send_isOn (t : Tx) (s : State) (k_ : Nat) : (send t s).isOn k_ = s.isOn k_ := by simp [State.isOn, State.dom]

/-! ### spend -/

@[simp] theorem spend_variant (s : State) : (spend s).variant = s.variant := rfl
@[simp] theorem spend_dbgen (s : State) : (spend s).dbgen = s.dbgen := rfl
@[simp] theorem spend_power (s : State) : (spend s).power = s.power := rfl
@[simp] theorem spend_regs (s : State) : (spend s).regs = s.regs := rfl
@[simp] theorem spend_sheet (s : State) : (spend s).sheet = s.sheet := rfl
@[simp] theorem spend_pres (s : State) : (spend s).pres = s.pres := rfl
@[simp] theorem spend_doms (s : State) : (spend s).doms = s.doms := rfl
@[simp] theorem spend_xings (s : State) : (spend s).xings = s.xings := rfl
@[simp] theorem spend_tk (s : State) : (spend s).tk = s.tk := rfl
@[simp] theorem spend_hl (s : State) : (spend s).hl = s.hl := rfl
@[simp] theorem spend_rg (s : State) : (spend s).rg = s.rg := rfl
@[simp] theorem spend_sp (s : State) : (spend s).sp = s.sp := rfl
@[simp] theorem spend_ar (s : State) : (spend s).ar = s.ar := rfl
@[simp] theorem spend_chs (s : State) : (spend s).chs = s.chs := rfl
@[simp] theorem spend_mis (s : State) : (spend s).mis = s.mis := rfl
@[simp] theorem spend_streams (s : State) : (spend s).streams = s.streams := rfl
@[simp] theorem spend_ladder (s : State) : (spend s).ladder = s.ladder := rfl
@[simp] theorem spend_sh (s : State) : (spend s).sh = s.sh := rfl
@[simp] theorem spend_jl (s : State) : (spend s).jl = s.jl := rfl
@[simp] theorem spend_pe (s : State) : (spend s).pe = s.pe := rfl
@[simp] theorem spend_fx (s : State) : (spend s).fx = s.fx := rfl
@[simp] theorem spend_en (s : State) : (spend s).en = s.en := rfl
@[simp] theorem spend_cn (s : State) : (spend s).cn = s.cn := rfl
@[simp] theorem spend_ez (s : State) : (spend s).ez = s.ez := rfl
@[simp] theorem spend_sb (s : State) : (spend s).sb = s.sb := rfl
@[simp] theorem spend_mm (s : State) : (spend s).mm = s.mm := rfl
@[simp] theorem spend_sl (s : State) : (spend s).sl = s.sl := rfl
@[simp] theorem spend_th (s : State) : (spend s).th = s.th := rfl
@[simp] theorem spend_tx (s : State) : (spend s).tx = s.tx := rfl
@[simp] theorem spend_pending (s : State) : (spend s).pending = s.pending := rfl
@[simp] theorem spend_ch (s : State) (k_ : Nat) : (spend s).ch k_ = s.ch k_ := by simp [State.ch]
@[simp] theorem spend_mi (s : State) (k_ : Nat) : (spend s).mi k_ = s.mi k_ := by simp [State.mi]
@[simp] theorem spend_dom (s : State) (k_ : Nat) : (spend s).dom k_ = s.dom k_ := by simp [State.dom]
@[simp] theorem spend_ring (s : State) (k_ : Nat) : (spend s).ring k_ = s.ring k_ := by simp [State.ring]
@[simp] theorem spend_fn (s : State) (k_ : Nat) : (spend s).fn k_ = s.fn k_ := by simp [State.fn]
@[simp] theorem spend_ld (s : State) (k_ : Nat) : (spend s).ld k_ = s.ld k_ := by simp [State.ld]
@[simp] theorem spend_spool (s : State) (k_ : Nat) : (spend s).spool k_ = s.spool k_ := by simp [State.spool]
@[simp] theorem spend_strip (s : State) (k_ : Nat) : (spend s).strip k_ = s.strip k_ := by simp [State.strip]
@[simp] theorem spend_ext (s : State) (k_ : Nat) : (spend s).ext k_ = s.ext k_ := by simp [State.ext]
@[simp] theorem spend_lease (s : State) (k_ : Nat) : (spend s).lease k_ = s.lease k_ := by simp [State.lease]
@[simp] theorem spend_isOn (s : State) (k_ : Nat) : (spend s).isOn k_ = s.isOn k_ := by simp [State.isOn, State.dom]

/-! ### putNow -/

@[simp] theorem putNow_variant (k : Nat) (w : Word) (s : State) : (putNow k w s).variant = s.variant := rfl
@[simp] theorem putNow_dbgen (k : Nat) (w : Word) (s : State) : (putNow k w s).dbgen = s.dbgen := rfl
@[simp] theorem putNow_power (k : Nat) (w : Word) (s : State) : (putNow k w s).power = s.power := rfl
@[simp] theorem putNow_sheet (k : Nat) (w : Word) (s : State) : (putNow k w s).sheet = s.sheet := rfl
@[simp] theorem putNow_pres (k : Nat) (w : Word) (s : State) : (putNow k w s).pres = s.pres := rfl
@[simp] theorem putNow_doms (k : Nat) (w : Word) (s : State) : (putNow k w s).doms = s.doms := rfl
@[simp] theorem putNow_xings (k : Nat) (w : Word) (s : State) : (putNow k w s).xings = s.xings := rfl
@[simp] theorem putNow_tk (k : Nat) (w : Word) (s : State) : (putNow k w s).tk = s.tk := rfl
@[simp] theorem putNow_hl (k : Nat) (w : Word) (s : State) : (putNow k w s).hl = s.hl := rfl
@[simp] theorem putNow_rg (k : Nat) (w : Word) (s : State) : (putNow k w s).rg = s.rg := rfl
@[simp] theorem putNow_sp (k : Nat) (w : Word) (s : State) : (putNow k w s).sp = s.sp := rfl
@[simp] theorem putNow_ar (k : Nat) (w : Word) (s : State) : (putNow k w s).ar = s.ar := rfl
@[simp] theorem putNow_chs (k : Nat) (w : Word) (s : State) : (putNow k w s).chs = s.chs := rfl
@[simp] theorem putNow_mis (k : Nat) (w : Word) (s : State) : (putNow k w s).mis = s.mis := rfl
@[simp] theorem putNow_streams (k : Nat) (w : Word) (s : State) : (putNow k w s).streams = s.streams := rfl
@[simp] theorem putNow_ladder (k : Nat) (w : Word) (s : State) : (putNow k w s).ladder = s.ladder := rfl
@[simp] theorem putNow_sh (k : Nat) (w : Word) (s : State) : (putNow k w s).sh = s.sh := rfl
@[simp] theorem putNow_jl (k : Nat) (w : Word) (s : State) : (putNow k w s).jl = s.jl := rfl
@[simp] theorem putNow_pe (k : Nat) (w : Word) (s : State) : (putNow k w s).pe = s.pe := rfl
@[simp] theorem putNow_fx (k : Nat) (w : Word) (s : State) : (putNow k w s).fx = s.fx := rfl
@[simp] theorem putNow_en (k : Nat) (w : Word) (s : State) : (putNow k w s).en = s.en := rfl
@[simp] theorem putNow_cn (k : Nat) (w : Word) (s : State) : (putNow k w s).cn = s.cn := rfl
@[simp] theorem putNow_ez (k : Nat) (w : Word) (s : State) : (putNow k w s).ez = s.ez := rfl
@[simp] theorem putNow_sb (k : Nat) (w : Word) (s : State) : (putNow k w s).sb = s.sb := rfl
@[simp] theorem putNow_mm (k : Nat) (w : Word) (s : State) : (putNow k w s).mm = s.mm := rfl
@[simp] theorem putNow_sl (k : Nat) (w : Word) (s : State) : (putNow k w s).sl = s.sl := rfl
@[simp] theorem putNow_th (k : Nat) (w : Word) (s : State) : (putNow k w s).th = s.th := rfl
@[simp] theorem putNow_tx (k : Nat) (w : Word) (s : State) : (putNow k w s).tx = s.tx := rfl
@[simp] theorem putNow_free (k : Nat) (w : Word) (s : State) : (putNow k w s).free = s.free := rfl
@[simp] theorem putNow_pending (k : Nat) (w : Word) (s : State) : (putNow k w s).pending = s.pending := rfl
@[simp] theorem putNow_ch (k : Nat) (w : Word) (s : State) (k_ : Nat) : (putNow k w s).ch k_ = s.ch k_ := by simp [State.ch]
@[simp] theorem putNow_mi (k : Nat) (w : Word) (s : State) (k_ : Nat) : (putNow k w s).mi k_ = s.mi k_ := by simp [State.mi]
@[simp] theorem putNow_dom (k : Nat) (w : Word) (s : State) (k_ : Nat) : (putNow k w s).dom k_ = s.dom k_ := by simp [State.dom]
@[simp] theorem putNow_ring (k : Nat) (w : Word) (s : State) (k_ : Nat) : (putNow k w s).ring k_ = s.ring k_ := by simp [State.ring]
@[simp] theorem putNow_fn (k : Nat) (w : Word) (s : State) (k_ : Nat) : (putNow k w s).fn k_ = s.fn k_ := by simp [State.fn]
@[simp] theorem putNow_ld (k : Nat) (w : Word) (s : State) (k_ : Nat) : (putNow k w s).ld k_ = s.ld k_ := by simp [State.ld]
@[simp] theorem putNow_spool (k : Nat) (w : Word) (s : State) (k_ : Nat) : (putNow k w s).spool k_ = s.spool k_ := by simp [State.spool]
@[simp] theorem putNow_strip (k : Nat) (w : Word) (s : State) (k_ : Nat) : (putNow k w s).strip k_ = s.strip k_ := by simp [State.strip]
@[simp] theorem putNow_ext (k : Nat) (w : Word) (s : State) (k_ : Nat) : (putNow k w s).ext k_ = s.ext k_ := by simp [State.ext]
@[simp] theorem putNow_lease (k : Nat) (w : Word) (s : State) (k_ : Nat) : (putNow k w s).lease k_ = s.lease k_ := by simp [State.lease]
@[simp] theorem putNow_isOn (k : Nat) (w : Word) (s : State) (k_ : Nat) : (putNow k w s).isOn k_ = s.isOn k_ := by simp [State.isOn, State.dom]

/-! ### putLater -/

@[simp] theorem putLater_variant (k : Nat) (d w : Word) (s : State) : (putLater k d w s).variant = s.variant := rfl
@[simp] theorem putLater_dbgen (k : Nat) (d w : Word) (s : State) : (putLater k d w s).dbgen = s.dbgen := rfl
@[simp] theorem putLater_power (k : Nat) (d w : Word) (s : State) : (putLater k d w s).power = s.power := rfl
@[simp] theorem putLater_sheet (k : Nat) (d w : Word) (s : State) : (putLater k d w s).sheet = s.sheet := rfl
@[simp] theorem putLater_pres (k : Nat) (d w : Word) (s : State) : (putLater k d w s).pres = s.pres := rfl
@[simp] theorem putLater_doms (k : Nat) (d w : Word) (s : State) : (putLater k d w s).doms = s.doms := rfl
@[simp] theorem putLater_xings (k : Nat) (d w : Word) (s : State) : (putLater k d w s).xings = s.xings := rfl
@[simp] theorem putLater_tk (k : Nat) (d w : Word) (s : State) : (putLater k d w s).tk = s.tk := rfl
@[simp] theorem putLater_hl (k : Nat) (d w : Word) (s : State) : (putLater k d w s).hl = s.hl := rfl
@[simp] theorem putLater_rg (k : Nat) (d w : Word) (s : State) : (putLater k d w s).rg = s.rg := rfl
@[simp] theorem putLater_sp (k : Nat) (d w : Word) (s : State) : (putLater k d w s).sp = s.sp := rfl
@[simp] theorem putLater_ar (k : Nat) (d w : Word) (s : State) : (putLater k d w s).ar = s.ar := rfl
@[simp] theorem putLater_chs (k : Nat) (d w : Word) (s : State) : (putLater k d w s).chs = s.chs := rfl
@[simp] theorem putLater_mis (k : Nat) (d w : Word) (s : State) : (putLater k d w s).mis = s.mis := rfl
@[simp] theorem putLater_streams (k : Nat) (d w : Word) (s : State) : (putLater k d w s).streams = s.streams := rfl
@[simp] theorem putLater_ladder (k : Nat) (d w : Word) (s : State) : (putLater k d w s).ladder = s.ladder := rfl
@[simp] theorem putLater_sh (k : Nat) (d w : Word) (s : State) : (putLater k d w s).sh = s.sh := rfl
@[simp] theorem putLater_jl (k : Nat) (d w : Word) (s : State) : (putLater k d w s).jl = s.jl := rfl
@[simp] theorem putLater_pe (k : Nat) (d w : Word) (s : State) : (putLater k d w s).pe = s.pe := rfl
@[simp] theorem putLater_fx (k : Nat) (d w : Word) (s : State) : (putLater k d w s).fx = s.fx := rfl
@[simp] theorem putLater_en (k : Nat) (d w : Word) (s : State) : (putLater k d w s).en = s.en := rfl
@[simp] theorem putLater_cn (k : Nat) (d w : Word) (s : State) : (putLater k d w s).cn = s.cn := rfl
@[simp] theorem putLater_ez (k : Nat) (d w : Word) (s : State) : (putLater k d w s).ez = s.ez := rfl
@[simp] theorem putLater_sb (k : Nat) (d w : Word) (s : State) : (putLater k d w s).sb = s.sb := rfl
@[simp] theorem putLater_mm (k : Nat) (d w : Word) (s : State) : (putLater k d w s).mm = s.mm := rfl
@[simp] theorem putLater_sl (k : Nat) (d w : Word) (s : State) : (putLater k d w s).sl = s.sl := rfl
@[simp] theorem putLater_th (k : Nat) (d w : Word) (s : State) : (putLater k d w s).th = s.th := rfl
@[simp] theorem putLater_tx (k : Nat) (d w : Word) (s : State) : (putLater k d w s).tx = s.tx := rfl
@[simp] theorem putLater_free (k : Nat) (d w : Word) (s : State) : (putLater k d w s).free = s.free := rfl
@[simp] theorem putLater_pending (k : Nat) (d w : Word) (s : State) : (putLater k d w s).pending = s.pending := rfl
@[simp] theorem putLater_ch (k : Nat) (d w : Word) (s : State) (k_ : Nat) : (putLater k d w s).ch k_ = s.ch k_ := by simp [State.ch]
@[simp] theorem putLater_mi (k : Nat) (d w : Word) (s : State) (k_ : Nat) : (putLater k d w s).mi k_ = s.mi k_ := by simp [State.mi]
@[simp] theorem putLater_dom (k : Nat) (d w : Word) (s : State) (k_ : Nat) : (putLater k d w s).dom k_ = s.dom k_ := by simp [State.dom]
@[simp] theorem putLater_ring (k : Nat) (d w : Word) (s : State) (k_ : Nat) : (putLater k d w s).ring k_ = s.ring k_ := by simp [State.ring]
@[simp] theorem putLater_fn (k : Nat) (d w : Word) (s : State) (k_ : Nat) : (putLater k d w s).fn k_ = s.fn k_ := by simp [State.fn]
@[simp] theorem putLater_ld (k : Nat) (d w : Word) (s : State) (k_ : Nat) : (putLater k d w s).ld k_ = s.ld k_ := by simp [State.ld]
@[simp] theorem putLater_spool (k : Nat) (d w : Word) (s : State) (k_ : Nat) : (putLater k d w s).spool k_ = s.spool k_ := by simp [State.spool]
@[simp] theorem putLater_strip (k : Nat) (d w : Word) (s : State) (k_ : Nat) : (putLater k d w s).strip k_ = s.strip k_ := by simp [State.strip]
@[simp] theorem putLater_ext (k : Nat) (d w : Word) (s : State) (k_ : Nat) : (putLater k d w s).ext k_ = s.ext k_ := by simp [State.ext]
@[simp] theorem putLater_lease (k : Nat) (d w : Word) (s : State) (k_ : Nat) : (putLater k d w s).lease k_ = s.lease k_ := by simp [State.lease]
@[simp] theorem putLater_isOn (k : Nat) (d w : Word) (s : State) (k_ : Nat) : (putLater k d w s).isOn k_ = s.isOn k_ := by simp [State.isOn, State.dom]

/-! ### bumpBy -/

@[simp] theorem bumpBy_variant (k lim m : Nat) (s : State) : (bumpBy k lim m s).variant = s.variant := rfl
@[simp] theorem bumpBy_dbgen (k lim m : Nat) (s : State) : (bumpBy k lim m s).dbgen = s.dbgen := rfl
@[simp] theorem bumpBy_power (k lim m : Nat) (s : State) : (bumpBy k lim m s).power = s.power := rfl
@[simp] theorem bumpBy_sheet (k lim m : Nat) (s : State) : (bumpBy k lim m s).sheet = s.sheet := rfl
@[simp] theorem bumpBy_pres (k lim m : Nat) (s : State) : (bumpBy k lim m s).pres = s.pres := rfl
@[simp] theorem bumpBy_doms (k lim m : Nat) (s : State) : (bumpBy k lim m s).doms = s.doms := rfl
@[simp] theorem bumpBy_xings (k lim m : Nat) (s : State) : (bumpBy k lim m s).xings = s.xings := rfl
@[simp] theorem bumpBy_tk (k lim m : Nat) (s : State) : (bumpBy k lim m s).tk = s.tk := rfl
@[simp] theorem bumpBy_hl (k lim m : Nat) (s : State) : (bumpBy k lim m s).hl = s.hl := rfl
@[simp] theorem bumpBy_rg (k lim m : Nat) (s : State) : (bumpBy k lim m s).rg = s.rg := rfl
@[simp] theorem bumpBy_sp (k lim m : Nat) (s : State) : (bumpBy k lim m s).sp = s.sp := rfl
@[simp] theorem bumpBy_ar (k lim m : Nat) (s : State) : (bumpBy k lim m s).ar = s.ar := rfl
@[simp] theorem bumpBy_chs (k lim m : Nat) (s : State) : (bumpBy k lim m s).chs = s.chs := rfl
@[simp] theorem bumpBy_mis (k lim m : Nat) (s : State) : (bumpBy k lim m s).mis = s.mis := rfl
@[simp] theorem bumpBy_streams (k lim m : Nat) (s : State) : (bumpBy k lim m s).streams = s.streams := rfl
@[simp] theorem bumpBy_ladder (k lim m : Nat) (s : State) : (bumpBy k lim m s).ladder = s.ladder := rfl
@[simp] theorem bumpBy_sh (k lim m : Nat) (s : State) : (bumpBy k lim m s).sh = s.sh := rfl
@[simp] theorem bumpBy_jl (k lim m : Nat) (s : State) : (bumpBy k lim m s).jl = s.jl := rfl
@[simp] theorem bumpBy_pe (k lim m : Nat) (s : State) : (bumpBy k lim m s).pe = s.pe := rfl
@[simp] theorem bumpBy_fx (k lim m : Nat) (s : State) : (bumpBy k lim m s).fx = s.fx := rfl
@[simp] theorem bumpBy_en (k lim m : Nat) (s : State) : (bumpBy k lim m s).en = s.en := rfl
@[simp] theorem bumpBy_cn (k lim m : Nat) (s : State) : (bumpBy k lim m s).cn = s.cn := rfl
@[simp] theorem bumpBy_ez (k lim m : Nat) (s : State) : (bumpBy k lim m s).ez = s.ez := rfl
@[simp] theorem bumpBy_sb (k lim m : Nat) (s : State) : (bumpBy k lim m s).sb = s.sb := rfl
@[simp] theorem bumpBy_mm (k lim m : Nat) (s : State) : (bumpBy k lim m s).mm = s.mm := rfl
@[simp] theorem bumpBy_sl (k lim m : Nat) (s : State) : (bumpBy k lim m s).sl = s.sl := rfl
@[simp] theorem bumpBy_th (k lim m : Nat) (s : State) : (bumpBy k lim m s).th = s.th := rfl
@[simp] theorem bumpBy_tx (k lim m : Nat) (s : State) : (bumpBy k lim m s).tx = s.tx := rfl
@[simp] theorem bumpBy_free (k lim m : Nat) (s : State) : (bumpBy k lim m s).free = s.free := rfl
@[simp] theorem bumpBy_pending (k lim m : Nat) (s : State) : (bumpBy k lim m s).pending = s.pending := rfl
@[simp] theorem bumpBy_ch (k lim m : Nat) (s : State) (k_ : Nat) : (bumpBy k lim m s).ch k_ = s.ch k_ := by simp [State.ch]
@[simp] theorem bumpBy_mi (k lim m : Nat) (s : State) (k_ : Nat) : (bumpBy k lim m s).mi k_ = s.mi k_ := by simp [State.mi]
@[simp] theorem bumpBy_dom (k lim m : Nat) (s : State) (k_ : Nat) : (bumpBy k lim m s).dom k_ = s.dom k_ := by simp [State.dom]
@[simp] theorem bumpBy_ring (k lim m : Nat) (s : State) (k_ : Nat) : (bumpBy k lim m s).ring k_ = s.ring k_ := by simp [State.ring]
@[simp] theorem bumpBy_fn (k lim m : Nat) (s : State) (k_ : Nat) : (bumpBy k lim m s).fn k_ = s.fn k_ := by simp [State.fn]
@[simp] theorem bumpBy_ld (k lim m : Nat) (s : State) (k_ : Nat) : (bumpBy k lim m s).ld k_ = s.ld k_ := by simp [State.ld]
@[simp] theorem bumpBy_spool (k lim m : Nat) (s : State) (k_ : Nat) : (bumpBy k lim m s).spool k_ = s.spool k_ := by simp [State.spool]
@[simp] theorem bumpBy_strip (k lim m : Nat) (s : State) (k_ : Nat) : (bumpBy k lim m s).strip k_ = s.strip k_ := by simp [State.strip]
@[simp] theorem bumpBy_ext (k lim m : Nat) (s : State) (k_ : Nat) : (bumpBy k lim m s).ext k_ = s.ext k_ := by simp [State.ext]
@[simp] theorem bumpBy_lease (k lim m : Nat) (s : State) (k_ : Nat) : (bumpBy k lim m s).lease k_ = s.lease k_ := by simp [State.lease]
@[simp] theorem bumpBy_isOn (k lim m : Nat) (s : State) (k_ : Nat) : (bumpBy k lim m s).isOn k_ = s.isOn k_ := by simp [State.isOn, State.dom]

/-! ### bump -/

@[simp] theorem bump_variant (k : Nat) (s : State) : (bump k s).variant = s.variant := rfl
@[simp] theorem bump_dbgen (k : Nat) (s : State) : (bump k s).dbgen = s.dbgen := rfl
@[simp] theorem bump_power (k : Nat) (s : State) : (bump k s).power = s.power := rfl
@[simp] theorem bump_sheet (k : Nat) (s : State) : (bump k s).sheet = s.sheet := rfl
@[simp] theorem bump_pres (k : Nat) (s : State) : (bump k s).pres = s.pres := rfl
@[simp] theorem bump_doms (k : Nat) (s : State) : (bump k s).doms = s.doms := rfl
@[simp] theorem bump_xings (k : Nat) (s : State) : (bump k s).xings = s.xings := rfl
@[simp] theorem bump_tk (k : Nat) (s : State) : (bump k s).tk = s.tk := rfl
@[simp] theorem bump_hl (k : Nat) (s : State) : (bump k s).hl = s.hl := rfl
@[simp] theorem bump_rg (k : Nat) (s : State) : (bump k s).rg = s.rg := rfl
@[simp] theorem bump_sp (k : Nat) (s : State) : (bump k s).sp = s.sp := rfl
@[simp] theorem bump_ar (k : Nat) (s : State) : (bump k s).ar = s.ar := rfl
@[simp] theorem bump_chs (k : Nat) (s : State) : (bump k s).chs = s.chs := rfl
@[simp] theorem bump_mis (k : Nat) (s : State) : (bump k s).mis = s.mis := rfl
@[simp] theorem bump_streams (k : Nat) (s : State) : (bump k s).streams = s.streams := rfl
@[simp] theorem bump_ladder (k : Nat) (s : State) : (bump k s).ladder = s.ladder := rfl
@[simp] theorem bump_sh (k : Nat) (s : State) : (bump k s).sh = s.sh := rfl
@[simp] theorem bump_jl (k : Nat) (s : State) : (bump k s).jl = s.jl := rfl
@[simp] theorem bump_pe (k : Nat) (s : State) : (bump k s).pe = s.pe := rfl
@[simp] theorem bump_fx (k : Nat) (s : State) : (bump k s).fx = s.fx := rfl
@[simp] theorem bump_en (k : Nat) (s : State) : (bump k s).en = s.en := rfl
@[simp] theorem bump_cn (k : Nat) (s : State) : (bump k s).cn = s.cn := rfl
@[simp] theorem bump_ez (k : Nat) (s : State) : (bump k s).ez = s.ez := rfl
@[simp] theorem bump_sb (k : Nat) (s : State) : (bump k s).sb = s.sb := rfl
@[simp] theorem bump_mm (k : Nat) (s : State) : (bump k s).mm = s.mm := rfl
@[simp] theorem bump_sl (k : Nat) (s : State) : (bump k s).sl = s.sl := rfl
@[simp] theorem bump_th (k : Nat) (s : State) : (bump k s).th = s.th := rfl
@[simp] theorem bump_tx (k : Nat) (s : State) : (bump k s).tx = s.tx := rfl
@[simp] theorem bump_free (k : Nat) (s : State) : (bump k s).free = s.free := rfl
@[simp] theorem bump_pending (k : Nat) (s : State) : (bump k s).pending = s.pending := rfl
@[simp] theorem bump_ch (k : Nat) (s : State) (k_ : Nat) : (bump k s).ch k_ = s.ch k_ := by simp [State.ch]
@[simp] theorem bump_mi (k : Nat) (s : State) (k_ : Nat) : (bump k s).mi k_ = s.mi k_ := by simp [State.mi]
@[simp] theorem bump_dom (k : Nat) (s : State) (k_ : Nat) : (bump k s).dom k_ = s.dom k_ := by simp [State.dom]
@[simp] theorem bump_ring (k : Nat) (s : State) (k_ : Nat) : (bump k s).ring k_ = s.ring k_ := by simp [State.ring]
@[simp] theorem bump_fn (k : Nat) (s : State) (k_ : Nat) : (bump k s).fn k_ = s.fn k_ := by simp [State.fn]
@[simp] theorem bump_ld (k : Nat) (s : State) (k_ : Nat) : (bump k s).ld k_ = s.ld k_ := by simp [State.ld]
@[simp] theorem bump_spool (k : Nat) (s : State) (k_ : Nat) : (bump k s).spool k_ = s.spool k_ := by simp [State.spool]
@[simp] theorem bump_strip (k : Nat) (s : State) (k_ : Nat) : (bump k s).strip k_ = s.strip k_ := by simp [State.strip]
@[simp] theorem bump_ext (k : Nat) (s : State) (k_ : Nat) : (bump k s).ext k_ = s.ext k_ := by simp [State.ext]
@[simp] theorem bump_lease (k : Nat) (s : State) (k_ : Nat) : (bump k s).lease k_ = s.lease k_ := by simp [State.lease]
@[simp] theorem bump_isOn (k : Nat) (s : State) (k_ : Nat) : (bump k s).isOn k_ = s.isOn k_ := by simp [State.isOn, State.dom]

/-! ### sqRecord -/

@[simp] theorem sqRecord_variant (k b : Nat) (s : State) : (sqRecord k b s).variant = s.variant := rfl
@[simp] theorem sqRecord_dbgen (k b : Nat) (s : State) : (sqRecord k b s).dbgen = s.dbgen := rfl
@[simp] theorem sqRecord_power (k b : Nat) (s : State) : (sqRecord k b s).power = s.power := rfl
@[simp] theorem sqRecord_sheet (k b : Nat) (s : State) : (sqRecord k b s).sheet = s.sheet := rfl
@[simp] theorem sqRecord_pres (k b : Nat) (s : State) : (sqRecord k b s).pres = s.pres := rfl
@[simp] theorem sqRecord_doms (k b : Nat) (s : State) : (sqRecord k b s).doms = s.doms := rfl
@[simp] theorem sqRecord_xings (k b : Nat) (s : State) : (sqRecord k b s).xings = s.xings := rfl
@[simp] theorem sqRecord_tk (k b : Nat) (s : State) : (sqRecord k b s).tk = s.tk := rfl
@[simp] theorem sqRecord_hl (k b : Nat) (s : State) : (sqRecord k b s).hl = s.hl := rfl
@[simp] theorem sqRecord_rg (k b : Nat) (s : State) : (sqRecord k b s).rg = s.rg := rfl
@[simp] theorem sqRecord_sp (k b : Nat) (s : State) : (sqRecord k b s).sp = s.sp := rfl
@[simp] theorem sqRecord_ar (k b : Nat) (s : State) : (sqRecord k b s).ar = s.ar := rfl
@[simp] theorem sqRecord_chs (k b : Nat) (s : State) : (sqRecord k b s).chs = s.chs := rfl
@[simp] theorem sqRecord_mis (k b : Nat) (s : State) : (sqRecord k b s).mis = s.mis := rfl
@[simp] theorem sqRecord_streams (k b : Nat) (s : State) : (sqRecord k b s).streams = s.streams := rfl
@[simp] theorem sqRecord_ladder (k b : Nat) (s : State) : (sqRecord k b s).ladder = s.ladder := rfl
@[simp] theorem sqRecord_sh (k b : Nat) (s : State) : (sqRecord k b s).sh = s.sh := rfl
@[simp] theorem sqRecord_jl (k b : Nat) (s : State) : (sqRecord k b s).jl = s.jl := rfl
@[simp] theorem sqRecord_pe (k b : Nat) (s : State) : (sqRecord k b s).pe = s.pe := rfl
@[simp] theorem sqRecord_fx (k b : Nat) (s : State) : (sqRecord k b s).fx = s.fx := rfl
@[simp] theorem sqRecord_en (k b : Nat) (s : State) : (sqRecord k b s).en = s.en := rfl
@[simp] theorem sqRecord_cn (k b : Nat) (s : State) : (sqRecord k b s).cn = s.cn := rfl
@[simp] theorem sqRecord_ez (k b : Nat) (s : State) : (sqRecord k b s).ez = s.ez := rfl
@[simp] theorem sqRecord_sb (k b : Nat) (s : State) : (sqRecord k b s).sb = s.sb := rfl
@[simp] theorem sqRecord_mm (k b : Nat) (s : State) : (sqRecord k b s).mm = s.mm := rfl
@[simp] theorem sqRecord_sl (k b : Nat) (s : State) : (sqRecord k b s).sl = s.sl := rfl
@[simp] theorem sqRecord_th (k b : Nat) (s : State) : (sqRecord k b s).th = s.th := rfl
@[simp] theorem sqRecord_tx (k b : Nat) (s : State) : (sqRecord k b s).tx = s.tx := rfl
@[simp] theorem sqRecord_free (k b : Nat) (s : State) : (sqRecord k b s).free = s.free := rfl
@[simp] theorem sqRecord_pending (k b : Nat) (s : State) : (sqRecord k b s).pending = s.pending := rfl
@[simp] theorem sqRecord_ch (k b : Nat) (s : State) (k_ : Nat) : (sqRecord k b s).ch k_ = s.ch k_ := by simp [State.ch]
@[simp] theorem sqRecord_mi (k b : Nat) (s : State) (k_ : Nat) : (sqRecord k b s).mi k_ = s.mi k_ := by simp [State.mi]
@[simp] theorem sqRecord_dom (k b : Nat) (s : State) (k_ : Nat) : (sqRecord k b s).dom k_ = s.dom k_ := by simp [State.dom]
@[simp] theorem sqRecord_ring (k b : Nat) (s : State) (k_ : Nat) : (sqRecord k b s).ring k_ = s.ring k_ := by simp [State.ring]
@[simp] theorem sqRecord_fn (k b : Nat) (s : State) (k_ : Nat) : (sqRecord k b s).fn k_ = s.fn k_ := by simp [State.fn]
@[simp] theorem sqRecord_ld (k b : Nat) (s : State) (k_ : Nat) : (sqRecord k b s).ld k_ = s.ld k_ := by simp [State.ld]
@[simp] theorem sqRecord_spool (k b : Nat) (s : State) (k_ : Nat) : (sqRecord k b s).spool k_ = s.spool k_ := by simp [State.spool]
@[simp] theorem sqRecord_strip (k b : Nat) (s : State) (k_ : Nat) : (sqRecord k b s).strip k_ = s.strip k_ := by simp [State.strip]
@[simp] theorem sqRecord_ext (k b : Nat) (s : State) (k_ : Nat) : (sqRecord k b s).ext k_ = s.ext k_ := by simp [State.ext]
@[simp] theorem sqRecord_lease (k b : Nat) (s : State) (k_ : Nat) : (sqRecord k b s).lease k_ = s.lease k_ := by simp [State.lease]
@[simp] theorem sqRecord_isOn (k b : Nat) (s : State) (k_ : Nat) : (sqRecord k b s).isOn k_ = s.isOn k_ := by simp [State.isOn, State.dom]

/-! ### rcSet -/

@[simp] theorem rcSet_variant (k : Nat) (w : Word) (s : State) : (rcSet k w s).variant = s.variant := rfl
@[simp] theorem rcSet_dbgen (k : Nat) (w : Word) (s : State) : (rcSet k w s).dbgen = s.dbgen := rfl
@[simp] theorem rcSet_power (k : Nat) (w : Word) (s : State) : (rcSet k w s).power = s.power := rfl
@[simp] theorem rcSet_sheet (k : Nat) (w : Word) (s : State) : (rcSet k w s).sheet = s.sheet := rfl
@[simp] theorem rcSet_pres (k : Nat) (w : Word) (s : State) : (rcSet k w s).pres = s.pres := rfl
@[simp] theorem rcSet_doms (k : Nat) (w : Word) (s : State) : (rcSet k w s).doms = s.doms := rfl
@[simp] theorem rcSet_xings (k : Nat) (w : Word) (s : State) : (rcSet k w s).xings = s.xings := rfl
@[simp] theorem rcSet_tk (k : Nat) (w : Word) (s : State) : (rcSet k w s).tk = s.tk := rfl
@[simp] theorem rcSet_hl (k : Nat) (w : Word) (s : State) : (rcSet k w s).hl = s.hl := rfl
@[simp] theorem rcSet_rg (k : Nat) (w : Word) (s : State) : (rcSet k w s).rg = s.rg := rfl
@[simp] theorem rcSet_sp (k : Nat) (w : Word) (s : State) : (rcSet k w s).sp = s.sp := rfl
@[simp] theorem rcSet_ar (k : Nat) (w : Word) (s : State) : (rcSet k w s).ar = s.ar := rfl
@[simp] theorem rcSet_chs (k : Nat) (w : Word) (s : State) : (rcSet k w s).chs = s.chs := rfl
@[simp] theorem rcSet_mis (k : Nat) (w : Word) (s : State) : (rcSet k w s).mis = s.mis := rfl
@[simp] theorem rcSet_streams (k : Nat) (w : Word) (s : State) : (rcSet k w s).streams = s.streams := rfl
@[simp] theorem rcSet_ladder (k : Nat) (w : Word) (s : State) : (rcSet k w s).ladder = s.ladder := rfl
@[simp] theorem rcSet_sh (k : Nat) (w : Word) (s : State) : (rcSet k w s).sh = s.sh := rfl
@[simp] theorem rcSet_jl (k : Nat) (w : Word) (s : State) : (rcSet k w s).jl = s.jl := rfl
@[simp] theorem rcSet_pe (k : Nat) (w : Word) (s : State) : (rcSet k w s).pe = s.pe := rfl
@[simp] theorem rcSet_fx (k : Nat) (w : Word) (s : State) : (rcSet k w s).fx = s.fx := rfl
@[simp] theorem rcSet_en (k : Nat) (w : Word) (s : State) : (rcSet k w s).en = s.en := rfl
@[simp] theorem rcSet_cn (k : Nat) (w : Word) (s : State) : (rcSet k w s).cn = s.cn := rfl
@[simp] theorem rcSet_ez (k : Nat) (w : Word) (s : State) : (rcSet k w s).ez = s.ez := rfl
@[simp] theorem rcSet_sb (k : Nat) (w : Word) (s : State) : (rcSet k w s).sb = s.sb := rfl
@[simp] theorem rcSet_mm (k : Nat) (w : Word) (s : State) : (rcSet k w s).mm = s.mm := rfl
@[simp] theorem rcSet_sl (k : Nat) (w : Word) (s : State) : (rcSet k w s).sl = s.sl := rfl
@[simp] theorem rcSet_th (k : Nat) (w : Word) (s : State) : (rcSet k w s).th = s.th := rfl
@[simp] theorem rcSet_tx (k : Nat) (w : Word) (s : State) : (rcSet k w s).tx = s.tx := rfl
@[simp] theorem rcSet_free (k : Nat) (w : Word) (s : State) : (rcSet k w s).free = s.free := rfl
@[simp] theorem rcSet_pending (k : Nat) (w : Word) (s : State) : (rcSet k w s).pending = s.pending := rfl
@[simp] theorem rcSet_ch (k : Nat) (w : Word) (s : State) (k_ : Nat) : (rcSet k w s).ch k_ = s.ch k_ := by simp [State.ch]
@[simp] theorem rcSet_mi (k : Nat) (w : Word) (s : State) (k_ : Nat) : (rcSet k w s).mi k_ = s.mi k_ := by simp [State.mi]
@[simp] theorem rcSet_dom (k : Nat) (w : Word) (s : State) (k_ : Nat) : (rcSet k w s).dom k_ = s.dom k_ := by simp [State.dom]
@[simp] theorem rcSet_ring (k : Nat) (w : Word) (s : State) (k_ : Nat) : (rcSet k w s).ring k_ = s.ring k_ := by simp [State.ring]
@[simp] theorem rcSet_fn (k : Nat) (w : Word) (s : State) (k_ : Nat) : (rcSet k w s).fn k_ = s.fn k_ := by simp [State.fn]
@[simp] theorem rcSet_ld (k : Nat) (w : Word) (s : State) (k_ : Nat) : (rcSet k w s).ld k_ = s.ld k_ := by simp [State.ld]
@[simp] theorem rcSet_spool (k : Nat) (w : Word) (s : State) (k_ : Nat) : (rcSet k w s).spool k_ = s.spool k_ := by simp [State.spool]
@[simp] theorem rcSet_strip (k : Nat) (w : Word) (s : State) (k_ : Nat) : (rcSet k w s).strip k_ = s.strip k_ := by simp [State.strip]
@[simp] theorem rcSet_ext (k : Nat) (w : Word) (s : State) (k_ : Nat) : (rcSet k w s).ext k_ = s.ext k_ := by simp [State.ext]
@[simp] theorem rcSet_lease (k : Nat) (w : Word) (s : State) (k_ : Nat) : (rcSet k w s).lease k_ = s.lease k_ := by simp [State.lease]
@[simp] theorem rcSet_isOn (k : Nat) (w : Word) (s : State) (k_ : Nat) : (rcSet k w s).isOn k_ = s.isOn k_ := by simp [State.isOn, State.dom]

/-! ### discarded -/

@[simp] theorem discarded_variant (s : State) : (discarded s).variant = s.variant := rfl
@[simp] theorem discarded_dbgen (s : State) : (discarded s).dbgen = s.dbgen := rfl
@[simp] theorem discarded_power (s : State) : (discarded s).power = s.power := rfl
@[simp] theorem discarded_sheet (s : State) : (discarded s).sheet = s.sheet := rfl
@[simp] theorem discarded_pres (s : State) : (discarded s).pres = s.pres := rfl
@[simp] theorem discarded_doms (s : State) : (discarded s).doms = s.doms := rfl
@[simp] theorem discarded_xings (s : State) : (discarded s).xings = s.xings := rfl
@[simp] theorem discarded_tk (s : State) : (discarded s).tk = s.tk := rfl
@[simp] theorem discarded_hl (s : State) : (discarded s).hl = s.hl := rfl
@[simp] theorem discarded_rg (s : State) : (discarded s).rg = s.rg := rfl
@[simp] theorem discarded_sp (s : State) : (discarded s).sp = s.sp := rfl
@[simp] theorem discarded_ar (s : State) : (discarded s).ar = s.ar := rfl
@[simp] theorem discarded_chs (s : State) : (discarded s).chs = s.chs := rfl
@[simp] theorem discarded_mis (s : State) : (discarded s).mis = s.mis := rfl
@[simp] theorem discarded_streams (s : State) : (discarded s).streams = s.streams := rfl
@[simp] theorem discarded_ladder (s : State) : (discarded s).ladder = s.ladder := rfl
@[simp] theorem discarded_sh (s : State) : (discarded s).sh = s.sh := rfl
@[simp] theorem discarded_jl (s : State) : (discarded s).jl = s.jl := rfl
@[simp] theorem discarded_pe (s : State) : (discarded s).pe = s.pe := rfl
@[simp] theorem discarded_fx (s : State) : (discarded s).fx = s.fx := rfl
@[simp] theorem discarded_en (s : State) : (discarded s).en = s.en := rfl
@[simp] theorem discarded_cn (s : State) : (discarded s).cn = s.cn := rfl
@[simp] theorem discarded_ez (s : State) : (discarded s).ez = s.ez := rfl
@[simp] theorem discarded_sb (s : State) : (discarded s).sb = s.sb := rfl
@[simp] theorem discarded_mm (s : State) : (discarded s).mm = s.mm := rfl
@[simp] theorem discarded_sl (s : State) : (discarded s).sl = s.sl := rfl
@[simp] theorem discarded_th (s : State) : (discarded s).th = s.th := rfl
@[simp] theorem discarded_tx (s : State) : (discarded s).tx = s.tx := rfl
@[simp] theorem discarded_pending (s : State) : (discarded s).pending = s.pending := rfl
@[simp] theorem discarded_ch (s : State) (k_ : Nat) : (discarded s).ch k_ = s.ch k_ := by simp [State.ch]
@[simp] theorem discarded_mi (s : State) (k_ : Nat) : (discarded s).mi k_ = s.mi k_ := by simp [State.mi]
@[simp] theorem discarded_dom (s : State) (k_ : Nat) : (discarded s).dom k_ = s.dom k_ := by simp [State.dom]
@[simp] theorem discarded_ring (s : State) (k_ : Nat) : (discarded s).ring k_ = s.ring k_ := by simp [State.ring]
@[simp] theorem discarded_fn (s : State) (k_ : Nat) : (discarded s).fn k_ = s.fn k_ := by simp [State.fn]
@[simp] theorem discarded_ld (s : State) (k_ : Nat) : (discarded s).ld k_ = s.ld k_ := by simp [State.ld]
@[simp] theorem discarded_spool (s : State) (k_ : Nat) : (discarded s).spool k_ = s.spool k_ := by simp [State.spool]
@[simp] theorem discarded_strip (s : State) (k_ : Nat) : (discarded s).strip k_ = s.strip k_ := by simp [State.strip]
@[simp] theorem discarded_ext (s : State) (k_ : Nat) : (discarded s).ext k_ = s.ext k_ := by simp [State.ext]
@[simp] theorem discarded_lease (s : State) (k_ : Nat) : (discarded s).lease k_ = s.lease k_ := by simp [State.lease]
@[simp] theorem discarded_isOn (s : State) (k_ : Nat) : (discarded s).isOn k_ = s.isOn k_ := by simp [State.isOn, State.dom]

/-! ### dropLater -/

@[simp] theorem dropLater_variant (k : Nat) (w : Word) (s : State) : (dropLater k w s).variant = s.variant := by unfold dropLater; (repeat' split) <;> rfl
@[simp] theorem dropLater_dbgen (k : Nat) (w : Word) (s : State) : (dropLater k w s).dbgen = s.dbgen := by unfold dropLater; (repeat' split) <;> rfl
@[simp] theorem dropLater_power (k : Nat) (w : Word) (s : State) : (dropLater k w s).power = s.power := by unfold dropLater; (repeat' split) <;> rfl
@[simp] theorem dropLater_sheet (k : Nat) (w : Word) (s : State) : (dropLater k w s).sheet = s.sheet := by unfold dropLater; (repeat' split) <;> rfl
@[simp] theorem dropLater_pres (k : Nat) (w : Word) (s : State) : (dropLater k w s).pres = s.pres := by unfold dropLater; (repeat' split) <;> rfl
@[simp] theorem dropLater_doms (k : Nat) (w : Word) (s : State) : (dropLater k w s).doms = s.doms := by unfold dropLater; (repeat' split) <;> rfl
@[simp] theorem dropLater_xings (k : Nat) (w : Word) (s : State) : (dropLater k w s).xings = s.xings := by unfold dropLater; (repeat' split) <;> rfl
@[simp] theorem dropLater_tk (k : Nat) (w : Word) (s : State) : (dropLater k w s).tk = s.tk := by unfold dropLater; (repeat' split) <;> rfl
@[simp] theorem dropLater_hl (k : Nat) (w : Word) (s : State) : (dropLater k w s).hl = s.hl := by unfold dropLater; (repeat' split) <;> rfl
@[simp] theorem dropLater_rg (k : Nat) (w : Word) (s : State) : (dropLater k w s).rg = s.rg := by unfold dropLater; (repeat' split) <;> rfl
@[simp] theorem dropLater_sp (k : Nat) (w : Word) (s : State) : (dropLater k w s).sp = s.sp := by unfold dropLater; (repeat' split) <;> rfl
@[simp] theorem dropLater_ar (k : Nat) (w : Word) (s : State) : (dropLater k w s).ar = s.ar := by unfold dropLater; (repeat' split) <;> rfl
@[simp] theorem dropLater_chs (k : Nat) (w : Word) (s : State) : (dropLater k w s).chs = s.chs := by unfold dropLater; (repeat' split) <;> rfl
@[simp] theorem dropLater_mis (k : Nat) (w : Word) (s : State) : (dropLater k w s).mis = s.mis := by unfold dropLater; (repeat' split) <;> rfl
@[simp] theorem dropLater_streams (k : Nat) (w : Word) (s : State) : (dropLater k w s).streams = s.streams := by unfold dropLater; (repeat' split) <;> rfl
@[simp] theorem dropLater_ladder (k : Nat) (w : Word) (s : State) : (dropLater k w s).ladder = s.ladder := by unfold dropLater; (repeat' split) <;> rfl
@[simp] theorem dropLater_sh (k : Nat) (w : Word) (s : State) : (dropLater k w s).sh = s.sh := by unfold dropLater; (repeat' split) <;> rfl
@[simp] theorem dropLater_jl (k : Nat) (w : Word) (s : State) : (dropLater k w s).jl = s.jl := by unfold dropLater; (repeat' split) <;> rfl
@[simp] theorem dropLater_pe (k : Nat) (w : Word) (s : State) : (dropLater k w s).pe = s.pe := by unfold dropLater; (repeat' split) <;> rfl
@[simp] theorem dropLater_fx (k : Nat) (w : Word) (s : State) : (dropLater k w s).fx = s.fx := by unfold dropLater; (repeat' split) <;> rfl
@[simp] theorem dropLater_en (k : Nat) (w : Word) (s : State) : (dropLater k w s).en = s.en := by unfold dropLater; (repeat' split) <;> rfl
@[simp] theorem dropLater_cn (k : Nat) (w : Word) (s : State) : (dropLater k w s).cn = s.cn := by unfold dropLater; (repeat' split) <;> rfl
@[simp] theorem dropLater_ez (k : Nat) (w : Word) (s : State) : (dropLater k w s).ez = s.ez := by unfold dropLater; (repeat' split) <;> rfl
@[simp] theorem dropLater_sb (k : Nat) (w : Word) (s : State) : (dropLater k w s).sb = s.sb := by unfold dropLater; (repeat' split) <;> rfl
@[simp] theorem dropLater_mm (k : Nat) (w : Word) (s : State) : (dropLater k w s).mm = s.mm := by unfold dropLater; (repeat' split) <;> rfl
@[simp] theorem dropLater_sl (k : Nat) (w : Word) (s : State) : (dropLater k w s).sl = s.sl := by unfold dropLater; (repeat' split) <;> rfl
@[simp] theorem dropLater_th (k : Nat) (w : Word) (s : State) : (dropLater k w s).th = s.th := by unfold dropLater; (repeat' split) <;> rfl
@[simp] theorem dropLater_tx (k : Nat) (w : Word) (s : State) : (dropLater k w s).tx = s.tx := by unfold dropLater; (repeat' split) <;> rfl
@[simp] theorem dropLater_free (k : Nat) (w : Word) (s : State) : (dropLater k w s).free = s.free := by unfold dropLater; (repeat' split) <;> rfl
@[simp] theorem dropLater_pending (k : Nat) (w : Word) (s : State) : (dropLater k w s).pending = s.pending := by unfold dropLater; (repeat' split) <;> rfl
@[simp] theorem dropLater_ch (k : Nat) (w : Word) (s : State) (k_ : Nat) : (dropLater k w s).ch k_ = s.ch k_ := by simp [State.ch]
@[simp] theorem dropLater_mi (k : Nat) (w : Word) (s : State) (k_ : Nat) : (dropLater k w s).mi k_ = s.mi k_ := by simp [State.mi]
@[simp] theorem dropLater_dom (k : Nat) (w : Word) (s : State) (k_ : Nat) : (dropLater k w s).dom k_ = s.dom k_ := by simp [State.dom]
@[simp] theorem dropLater_ring (k : Nat) (w : Word) (s : State) (k_ : Nat) : (dropLater k w s).ring k_ = s.ring k_ := by simp [State.ring]
@[simp] theorem dropLater_fn (k : Nat) (w : Word) (s : State) (k_ : Nat) : (dropLater k w s).fn k_ = s.fn k_ := by simp [State.fn]
@[simp] theorem dropLater_ld (k : Nat) (w : Word) (s : State) (k_ : Nat) : (dropLater k w s).ld k_ = s.ld k_ := by simp [State.ld]
@[simp] theorem dropLater_spool (k : Nat) (w : Word) (s : State) (k_ : Nat) : (dropLater k w s).spool k_ = s.spool k_ := by simp [State.spool]
@[simp] theorem dropLater_strip (k : Nat) (w : Word) (s : State) (k_ : Nat) : (dropLater k w s).strip k_ = s.strip k_ := by simp [State.strip]
@[simp] theorem dropLater_ext (k : Nat) (w : Word) (s : State) (k_ : Nat) : (dropLater k w s).ext k_ = s.ext k_ := by simp [State.ext]
@[simp] theorem dropLater_lease (k : Nat) (w : Word) (s : State) (k_ : Nat) : (dropLater k w s).lease k_ = s.lease k_ := by simp [State.lease]
@[simp] theorem dropLater_isOn (k : Nat) (w : Word) (s : State) (k_ : Nat) : (dropLater k w s).isOn k_ = s.isOn k_ := by simp [State.isOn, State.dom]

/-! ### actTaken -/

@[simp] theorem actTaken_variant (p : Nat → Bool) (take : Bool) (s : State) : (actTaken p take s).variant = s.variant := rfl
@[simp] theorem actTaken_dbgen (p : Nat → Bool) (take : Bool) (s : State) : (actTaken p take s).dbgen = s.dbgen := rfl
@[simp] theorem actTaken_power (p : Nat → Bool) (take : Bool) (s : State) : (actTaken p take s).power = s.power := rfl
@[simp] theorem actTaken_sheet (p : Nat → Bool) (take : Bool) (s : State) : (actTaken p take s).sheet = s.sheet := rfl
@[simp] theorem actTaken_pres (p : Nat → Bool) (take : Bool) (s : State) : (actTaken p take s).pres = s.pres := rfl
@[simp] theorem actTaken_doms (p : Nat → Bool) (take : Bool) (s : State) : (actTaken p take s).doms = s.doms := rfl
@[simp] theorem actTaken_xings (p : Nat → Bool) (take : Bool) (s : State) : (actTaken p take s).xings = s.xings := rfl
@[simp] theorem actTaken_tk (p : Nat → Bool) (take : Bool) (s : State) : (actTaken p take s).tk = s.tk := rfl
@[simp] theorem actTaken_hl (p : Nat → Bool) (take : Bool) (s : State) : (actTaken p take s).hl = s.hl := rfl
@[simp] theorem actTaken_rg (p : Nat → Bool) (take : Bool) (s : State) : (actTaken p take s).rg = s.rg := rfl
@[simp] theorem actTaken_sp (p : Nat → Bool) (take : Bool) (s : State) : (actTaken p take s).sp = s.sp := rfl
@[simp] theorem actTaken_ar (p : Nat → Bool) (take : Bool) (s : State) : (actTaken p take s).ar = s.ar := rfl
@[simp] theorem actTaken_chs (p : Nat → Bool) (take : Bool) (s : State) : (actTaken p take s).chs = s.chs := rfl
@[simp] theorem actTaken_mis (p : Nat → Bool) (take : Bool) (s : State) : (actTaken p take s).mis = s.mis := rfl
@[simp] theorem actTaken_streams (p : Nat → Bool) (take : Bool) (s : State) : (actTaken p take s).streams = s.streams := rfl
@[simp] theorem actTaken_ladder (p : Nat → Bool) (take : Bool) (s : State) : (actTaken p take s).ladder = s.ladder := rfl
@[simp] theorem actTaken_sh (p : Nat → Bool) (take : Bool) (s : State) : (actTaken p take s).sh = s.sh := rfl
@[simp] theorem actTaken_jl (p : Nat → Bool) (take : Bool) (s : State) : (actTaken p take s).jl = s.jl := rfl
@[simp] theorem actTaken_pe (p : Nat → Bool) (take : Bool) (s : State) : (actTaken p take s).pe = s.pe := rfl
@[simp] theorem actTaken_fx (p : Nat → Bool) (take : Bool) (s : State) : (actTaken p take s).fx = s.fx := rfl
@[simp] theorem actTaken_en (p : Nat → Bool) (take : Bool) (s : State) : (actTaken p take s).en = s.en := rfl
@[simp] theorem actTaken_cn (p : Nat → Bool) (take : Bool) (s : State) : (actTaken p take s).cn = s.cn := rfl
@[simp] theorem actTaken_ez (p : Nat → Bool) (take : Bool) (s : State) : (actTaken p take s).ez = s.ez := rfl
@[simp] theorem actTaken_sb (p : Nat → Bool) (take : Bool) (s : State) : (actTaken p take s).sb = s.sb := rfl
@[simp] theorem actTaken_mm (p : Nat → Bool) (take : Bool) (s : State) : (actTaken p take s).mm = s.mm := rfl
@[simp] theorem actTaken_sl (p : Nat → Bool) (take : Bool) (s : State) : (actTaken p take s).sl = s.sl := rfl
@[simp] theorem actTaken_th (p : Nat → Bool) (take : Bool) (s : State) : (actTaken p take s).th = s.th := rfl
@[simp] theorem actTaken_tx (p : Nat → Bool) (take : Bool) (s : State) : (actTaken p take s).tx = s.tx := rfl
@[simp] theorem actTaken_free (p : Nat → Bool) (take : Bool) (s : State) : (actTaken p take s).free = s.free := rfl
@[simp] theorem actTaken_pending (p : Nat → Bool) (take : Bool) (s : State) : (actTaken p take s).pending = s.pending := rfl
@[simp] theorem actTaken_ch (p : Nat → Bool) (take : Bool) (s : State) (k_ : Nat) : (actTaken p take s).ch k_ = s.ch k_ := by simp [State.ch]
@[simp] theorem actTaken_mi (p : Nat → Bool) (take : Bool) (s : State) (k_ : Nat) : (actTaken p take s).mi k_ = s.mi k_ := by simp [State.mi]
@[simp] theorem actTaken_dom (p : Nat → Bool) (take : Bool) (s : State) (k_ : Nat) : (actTaken p take s).dom k_ = s.dom k_ := by simp [State.dom]
@[simp] theorem actTaken_ring (p : Nat → Bool) (take : Bool) (s : State) (k_ : Nat) : (actTaken p take s).ring k_ = s.ring k_ := by simp [State.ring]
@[simp] theorem actTaken_fn (p : Nat → Bool) (take : Bool) (s : State) (k_ : Nat) : (actTaken p take s).fn k_ = s.fn k_ := by simp [State.fn]
@[simp] theorem actTaken_ld (p : Nat → Bool) (take : Bool) (s : State) (k_ : Nat) : (actTaken p take s).ld k_ = s.ld k_ := by simp [State.ld]
@[simp] theorem actTaken_spool (p : Nat → Bool) (take : Bool) (s : State) (k_ : Nat) : (actTaken p take s).spool k_ = s.spool k_ := by simp [State.spool]
@[simp] theorem actTaken_strip (p : Nat → Bool) (take : Bool) (s : State) (k_ : Nat) : (actTaken p take s).strip k_ = s.strip k_ := by simp [State.strip]
@[simp] theorem actTaken_ext (p : Nat → Bool) (take : Bool) (s : State) (k_ : Nat) : (actTaken p take s).ext k_ = s.ext k_ := by simp [State.ext]
@[simp] theorem actTaken_lease (p : Nat → Bool) (take : Bool) (s : State) (k_ : Nat) : (actTaken p take s).lease k_ = s.lease k_ := by simp [State.lease]
@[simp] theorem actTaken_isOn (p : Nat → Bool) (take : Bool) (s : State) (k_ : Nat) : (actTaken p take s).isOn k_ = s.isOn k_ := by simp [State.isOn, State.dom]

/-! ### actDue -/

@[simp] theorem actDue_variant (p : Nat → Bool) (s : State) : (actDue p s).variant = s.variant := by unfold actDue takeNear; (repeat' split) <;> rfl
@[simp] theorem actDue_dbgen (p : Nat → Bool) (s : State) : (actDue p s).dbgen = s.dbgen := by unfold actDue takeNear; (repeat' split) <;> rfl
@[simp] theorem actDue_power (p : Nat → Bool) (s : State) : (actDue p s).power = s.power := by unfold actDue takeNear; (repeat' split) <;> rfl
@[simp] theorem actDue_sheet (p : Nat → Bool) (s : State) : (actDue p s).sheet = s.sheet := by unfold actDue takeNear; (repeat' split) <;> rfl
@[simp] theorem actDue_pres (p : Nat → Bool) (s : State) : (actDue p s).pres = s.pres := by unfold actDue takeNear; (repeat' split) <;> rfl
@[simp] theorem actDue_doms (p : Nat → Bool) (s : State) : (actDue p s).doms = s.doms := by unfold actDue takeNear; (repeat' split) <;> rfl
@[simp] theorem actDue_xings (p : Nat → Bool) (s : State) : (actDue p s).xings = s.xings := by unfold actDue takeNear; (repeat' split) <;> rfl
@[simp] theorem actDue_tk (p : Nat → Bool) (s : State) : (actDue p s).tk = s.tk := by unfold actDue takeNear; (repeat' split) <;> rfl
@[simp] theorem actDue_hl (p : Nat → Bool) (s : State) : (actDue p s).hl = s.hl := by unfold actDue takeNear; (repeat' split) <;> rfl
@[simp] theorem actDue_rg (p : Nat → Bool) (s : State) : (actDue p s).rg = s.rg := by unfold actDue takeNear; (repeat' split) <;> rfl
@[simp] theorem actDue_sp (p : Nat → Bool) (s : State) : (actDue p s).sp = s.sp := by unfold actDue takeNear; (repeat' split) <;> rfl
@[simp] theorem actDue_ar (p : Nat → Bool) (s : State) : (actDue p s).ar = s.ar := by unfold actDue takeNear; (repeat' split) <;> rfl
@[simp] theorem actDue_chs (p : Nat → Bool) (s : State) : (actDue p s).chs = s.chs := by unfold actDue takeNear; (repeat' split) <;> rfl
@[simp] theorem actDue_mis (p : Nat → Bool) (s : State) : (actDue p s).mis = s.mis := by unfold actDue takeNear; (repeat' split) <;> rfl
@[simp] theorem actDue_streams (p : Nat → Bool) (s : State) : (actDue p s).streams = s.streams := by unfold actDue takeNear; (repeat' split) <;> rfl
@[simp] theorem actDue_ladder (p : Nat → Bool) (s : State) : (actDue p s).ladder = s.ladder := by unfold actDue takeNear; (repeat' split) <;> rfl
@[simp] theorem actDue_sh (p : Nat → Bool) (s : State) : (actDue p s).sh = s.sh := by unfold actDue takeNear; (repeat' split) <;> rfl
@[simp] theorem actDue_jl (p : Nat → Bool) (s : State) : (actDue p s).jl = s.jl := by unfold actDue takeNear; (repeat' split) <;> rfl
@[simp] theorem actDue_pe (p : Nat → Bool) (s : State) : (actDue p s).pe = s.pe := by unfold actDue takeNear; (repeat' split) <;> rfl
@[simp] theorem actDue_fx (p : Nat → Bool) (s : State) : (actDue p s).fx = s.fx := by unfold actDue takeNear; (repeat' split) <;> rfl
@[simp] theorem actDue_en (p : Nat → Bool) (s : State) : (actDue p s).en = s.en := by unfold actDue takeNear; (repeat' split) <;> rfl
@[simp] theorem actDue_cn (p : Nat → Bool) (s : State) : (actDue p s).cn = s.cn := by unfold actDue takeNear; (repeat' split) <;> rfl
@[simp] theorem actDue_ez (p : Nat → Bool) (s : State) : (actDue p s).ez = s.ez := by unfold actDue takeNear; (repeat' split) <;> rfl
@[simp] theorem actDue_sb (p : Nat → Bool) (s : State) : (actDue p s).sb = s.sb := by unfold actDue takeNear; (repeat' split) <;> rfl
@[simp] theorem actDue_mm (p : Nat → Bool) (s : State) : (actDue p s).mm = s.mm := by unfold actDue takeNear; (repeat' split) <;> rfl
@[simp] theorem actDue_sl (p : Nat → Bool) (s : State) : (actDue p s).sl = s.sl := by unfold actDue takeNear; (repeat' split) <;> rfl
@[simp] theorem actDue_th (p : Nat → Bool) (s : State) : (actDue p s).th = s.th := by unfold actDue takeNear; (repeat' split) <;> rfl
@[simp] theorem actDue_tx (p : Nat → Bool) (s : State) : (actDue p s).tx = s.tx := by unfold actDue takeNear; (repeat' split) <;> rfl
@[simp] theorem actDue_pending (p : Nat → Bool) (s : State) : (actDue p s).pending = s.pending := by unfold actDue takeNear; (repeat' split) <;> rfl
@[simp] theorem actDue_ch (p : Nat → Bool) (s : State) (k_ : Nat) : (actDue p s).ch k_ = s.ch k_ := by simp [State.ch]
@[simp] theorem actDue_mi (p : Nat → Bool) (s : State) (k_ : Nat) : (actDue p s).mi k_ = s.mi k_ := by simp [State.mi]
@[simp] theorem actDue_dom (p : Nat → Bool) (s : State) (k_ : Nat) : (actDue p s).dom k_ = s.dom k_ := by simp [State.dom]
@[simp] theorem actDue_ring (p : Nat → Bool) (s : State) (k_ : Nat) : (actDue p s).ring k_ = s.ring k_ := by simp [State.ring]
@[simp] theorem actDue_fn (p : Nat → Bool) (s : State) (k_ : Nat) : (actDue p s).fn k_ = s.fn k_ := by simp [State.fn]
@[simp] theorem actDue_ld (p : Nat → Bool) (s : State) (k_ : Nat) : (actDue p s).ld k_ = s.ld k_ := by simp [State.ld]
@[simp] theorem actDue_spool (p : Nat → Bool) (s : State) (k_ : Nat) : (actDue p s).spool k_ = s.spool k_ := by simp [State.spool]
@[simp] theorem actDue_strip (p : Nat → Bool) (s : State) (k_ : Nat) : (actDue p s).strip k_ = s.strip k_ := by simp [State.strip]
@[simp] theorem actDue_ext (p : Nat → Bool) (s : State) (k_ : Nat) : (actDue p s).ext k_ = s.ext k_ := by simp [State.ext]
@[simp] theorem actDue_lease (p : Nat → Bool) (s : State) (k_ : Nat) : (actDue p s).lease k_ = s.lease k_ := by simp [State.lease]
@[simp] theorem actDue_isOn (p : Nat → Bool) (s : State) (k_ : Nat) : (actDue p s).isOn k_ = s.isOn k_ := by simp [State.isOn, State.dom]

/-! ### offer -/

@[simp] theorem offer_variant (i j : Nat) (ws : List (Nat × Word)) (s : State) : (offer i j ws s).variant = s.variant := by unfold offer; split <;> rfl
@[simp] theorem offer_dbgen (i j : Nat) (ws : List (Nat × Word)) (s : State) : (offer i j ws s).dbgen = s.dbgen := by unfold offer; split <;> rfl
@[simp] theorem offer_power (i j : Nat) (ws : List (Nat × Word)) (s : State) : (offer i j ws s).power = s.power := by unfold offer; split <;> rfl
@[simp] theorem offer_sheet (i j : Nat) (ws : List (Nat × Word)) (s : State) : (offer i j ws s).sheet = s.sheet := by unfold offer; split <;> rfl
@[simp] theorem offer_pres (i j : Nat) (ws : List (Nat × Word)) (s : State) : (offer i j ws s).pres = s.pres := by unfold offer; split <;> rfl
@[simp] theorem offer_doms (i j : Nat) (ws : List (Nat × Word)) (s : State) : (offer i j ws s).doms = s.doms := by unfold offer; split <;> rfl
@[simp] theorem offer_tk (i j : Nat) (ws : List (Nat × Word)) (s : State) : (offer i j ws s).tk = s.tk := by unfold offer; split <;> rfl
@[simp] theorem offer_hl (i j : Nat) (ws : List (Nat × Word)) (s : State) : (offer i j ws s).hl = s.hl := by unfold offer; split <;> rfl
@[simp] theorem offer_rg (i j : Nat) (ws : List (Nat × Word)) (s : State) : (offer i j ws s).rg = s.rg := by unfold offer; split <;> rfl
@[simp] theorem offer_sp (i j : Nat) (ws : List (Nat × Word)) (s : State) : (offer i j ws s).sp = s.sp := by unfold offer; split <;> rfl
@[simp] theorem offer_ar (i j : Nat) (ws : List (Nat × Word)) (s : State) : (offer i j ws s).ar = s.ar := by unfold offer; split <;> rfl
@[simp] theorem offer_chs (i j : Nat) (ws : List (Nat × Word)) (s : State) : (offer i j ws s).chs = s.chs := by unfold offer; split <;> rfl
@[simp] theorem offer_mis (i j : Nat) (ws : List (Nat × Word)) (s : State) : (offer i j ws s).mis = s.mis := by unfold offer; split <;> rfl
@[simp] theorem offer_streams (i j : Nat) (ws : List (Nat × Word)) (s : State) : (offer i j ws s).streams = s.streams := by unfold offer; split <;> rfl
@[simp] theorem offer_ladder (i j : Nat) (ws : List (Nat × Word)) (s : State) : (offer i j ws s).ladder = s.ladder := by unfold offer; split <;> rfl
@[simp] theorem offer_sh (i j : Nat) (ws : List (Nat × Word)) (s : State) : (offer i j ws s).sh = s.sh := by unfold offer; split <;> rfl
@[simp] theorem offer_jl (i j : Nat) (ws : List (Nat × Word)) (s : State) : (offer i j ws s).jl = s.jl := by unfold offer; split <;> rfl
@[simp] theorem offer_pe (i j : Nat) (ws : List (Nat × Word)) (s : State) : (offer i j ws s).pe = s.pe := by unfold offer; split <;> rfl
@[simp] theorem offer_fx (i j : Nat) (ws : List (Nat × Word)) (s : State) : (offer i j ws s).fx = s.fx := by unfold offer; split <;> rfl
@[simp] theorem offer_en (i j : Nat) (ws : List (Nat × Word)) (s : State) : (offer i j ws s).en = s.en := by unfold offer; split <;> rfl
@[simp] theorem offer_cn (i j : Nat) (ws : List (Nat × Word)) (s : State) : (offer i j ws s).cn = s.cn := by unfold offer; split <;> rfl
@[simp] theorem offer_ez (i j : Nat) (ws : List (Nat × Word)) (s : State) : (offer i j ws s).ez = s.ez := by unfold offer; split <;> rfl
@[simp] theorem offer_sb (i j : Nat) (ws : List (Nat × Word)) (s : State) : (offer i j ws s).sb = s.sb := by unfold offer; split <;> rfl
@[simp] theorem offer_mm (i j : Nat) (ws : List (Nat × Word)) (s : State) : (offer i j ws s).mm = s.mm := by unfold offer; split <;> rfl
@[simp] theorem offer_sl (i j : Nat) (ws : List (Nat × Word)) (s : State) : (offer i j ws s).sl = s.sl := by unfold offer; split <;> rfl
@[simp] theorem offer_th (i j : Nat) (ws : List (Nat × Word)) (s : State) : (offer i j ws s).th = s.th := by unfold offer; split <;> rfl
@[simp] theorem offer_tx (i j : Nat) (ws : List (Nat × Word)) (s : State) : (offer i j ws s).tx = s.tx := by unfold offer; split <;> rfl
@[simp] theorem offer_free (i j : Nat) (ws : List (Nat × Word)) (s : State) : (offer i j ws s).free = s.free := by unfold offer; split <;> rfl
@[simp] theorem offer_pending (i j : Nat) (ws : List (Nat × Word)) (s : State) : (offer i j ws s).pending = s.pending := by unfold offer; split <;> rfl
@[simp] theorem offer_ch (i j : Nat) (ws : List (Nat × Word)) (s : State) (k_ : Nat) : (offer i j ws s).ch k_ = s.ch k_ := by simp [State.ch]
@[simp] theorem offer_mi (i j : Nat) (ws : List (Nat × Word)) (s : State) (k_ : Nat) : (offer i j ws s).mi k_ = s.mi k_ := by simp [State.mi]
@[simp] theorem offer_dom (i j : Nat) (ws : List (Nat × Word)) (s : State) (k_ : Nat) : (offer i j ws s).dom k_ = s.dom k_ := by simp [State.dom]
@[simp] theorem offer_ring (i j : Nat) (ws : List (Nat × Word)) (s : State) (k_ : Nat) : (offer i j ws s).ring k_ = s.ring k_ := by simp [State.ring]
@[simp] theorem offer_fn (i j : Nat) (ws : List (Nat × Word)) (s : State) (k_ : Nat) : (offer i j ws s).fn k_ = s.fn k_ := by simp [State.fn]
@[simp] theorem offer_ld (i j : Nat) (ws : List (Nat × Word)) (s : State) (k_ : Nat) : (offer i j ws s).ld k_ = s.ld k_ := by simp [State.ld]
@[simp] theorem offer_spool (i j : Nat) (ws : List (Nat × Word)) (s : State) (k_ : Nat) : (offer i j ws s).spool k_ = s.spool k_ := by simp [State.spool]
@[simp] theorem offer_strip (i j : Nat) (ws : List (Nat × Word)) (s : State) (k_ : Nat) : (offer i j ws s).strip k_ = s.strip k_ := by simp [State.strip]
@[simp] theorem offer_ext (i j : Nat) (ws : List (Nat × Word)) (s : State) (k_ : Nat) : (offer i j ws s).ext k_ = s.ext k_ := by simp [State.ext]
@[simp] theorem offer_lease (i j : Nat) (ws : List (Nat × Word)) (s : State) (k_ : Nat) : (offer i j ws s).lease k_ = s.lease k_ := by simp [State.lease]
@[simp] theorem offer_isOn (i j : Nat) (ws : List (Nat × Word)) (s : State) (k_ : Nat) : (offer i j ws s).isOn k_ = s.isOn k_ := by simp [State.isOn, State.dom]

/-! ### offerOpen -/

@[simp] theorem offerOpen_variant (i j : Nat) (s : State) : (offerOpen i j s).variant = s.variant := by unfold offerOpen; split <;> rfl
@[simp] theorem offerOpen_dbgen (i j : Nat) (s : State) : (offerOpen i j s).dbgen = s.dbgen := by unfold offerOpen; split <;> rfl
@[simp] theorem offerOpen_power (i j : Nat) (s : State) : (offerOpen i j s).power = s.power := by unfold offerOpen; split <;> rfl
@[simp] theorem offerOpen_sheet (i j : Nat) (s : State) : (offerOpen i j s).sheet = s.sheet := by unfold offerOpen; split <;> rfl
@[simp] theorem offerOpen_pres (i j : Nat) (s : State) : (offerOpen i j s).pres = s.pres := by unfold offerOpen; split <;> rfl
@[simp] theorem offerOpen_doms (i j : Nat) (s : State) : (offerOpen i j s).doms = s.doms := by unfold offerOpen; split <;> rfl
@[simp] theorem offerOpen_tk (i j : Nat) (s : State) : (offerOpen i j s).tk = s.tk := by unfold offerOpen; split <;> rfl
@[simp] theorem offerOpen_hl (i j : Nat) (s : State) : (offerOpen i j s).hl = s.hl := by unfold offerOpen; split <;> rfl
@[simp] theorem offerOpen_rg (i j : Nat) (s : State) : (offerOpen i j s).rg = s.rg := by unfold offerOpen; split <;> rfl
@[simp] theorem offerOpen_sp (i j : Nat) (s : State) : (offerOpen i j s).sp = s.sp := by unfold offerOpen; split <;> rfl
@[simp] theorem offerOpen_ar (i j : Nat) (s : State) : (offerOpen i j s).ar = s.ar := by unfold offerOpen; split <;> rfl
@[simp] theorem offerOpen_chs (i j : Nat) (s : State) : (offerOpen i j s).chs = s.chs := by unfold offerOpen; split <;> rfl
@[simp] theorem offerOpen_mis (i j : Nat) (s : State) : (offerOpen i j s).mis = s.mis := by unfold offerOpen; split <;> rfl
@[simp] theorem offerOpen_streams (i j : Nat) (s : State) : (offerOpen i j s).streams = s.streams := by unfold offerOpen; split <;> rfl
@[simp] theorem offerOpen_ladder (i j : Nat) (s : State) : (offerOpen i j s).ladder = s.ladder := by unfold offerOpen; split <;> rfl
@[simp] theorem offerOpen_sh (i j : Nat) (s : State) : (offerOpen i j s).sh = s.sh := by unfold offerOpen; split <;> rfl
@[simp] theorem offerOpen_jl (i j : Nat) (s : State) : (offerOpen i j s).jl = s.jl := by unfold offerOpen; split <;> rfl
@[simp] theorem offerOpen_pe (i j : Nat) (s : State) : (offerOpen i j s).pe = s.pe := by unfold offerOpen; split <;> rfl
@[simp] theorem offerOpen_fx (i j : Nat) (s : State) : (offerOpen i j s).fx = s.fx := by unfold offerOpen; split <;> rfl
@[simp] theorem offerOpen_en (i j : Nat) (s : State) : (offerOpen i j s).en = s.en := by unfold offerOpen; split <;> rfl
@[simp] theorem offerOpen_cn (i j : Nat) (s : State) : (offerOpen i j s).cn = s.cn := by unfold offerOpen; split <;> rfl
@[simp] theorem offerOpen_ez (i j : Nat) (s : State) : (offerOpen i j s).ez = s.ez := by unfold offerOpen; split <;> rfl
@[simp] theorem offerOpen_sb (i j : Nat) (s : State) : (offerOpen i j s).sb = s.sb := by unfold offerOpen; split <;> rfl
@[simp] theorem offerOpen_mm (i j : Nat) (s : State) : (offerOpen i j s).mm = s.mm := by unfold offerOpen; split <;> rfl
@[simp] theorem offerOpen_sl (i j : Nat) (s : State) : (offerOpen i j s).sl = s.sl := by unfold offerOpen; split <;> rfl
@[simp] theorem offerOpen_th (i j : Nat) (s : State) : (offerOpen i j s).th = s.th := by unfold offerOpen; split <;> rfl
@[simp] theorem offerOpen_tx (i j : Nat) (s : State) : (offerOpen i j s).tx = s.tx := by unfold offerOpen; split <;> rfl
@[simp] theorem offerOpen_pending (i j : Nat) (s : State) : (offerOpen i j s).pending = s.pending := by unfold offerOpen; split <;> rfl
@[simp] theorem offerOpen_ch (i j : Nat) (s : State) (k_ : Nat) : (offerOpen i j s).ch k_ = s.ch k_ := by simp [State.ch]
@[simp] theorem offerOpen_mi (i j : Nat) (s : State) (k_ : Nat) : (offerOpen i j s).mi k_ = s.mi k_ := by simp [State.mi]
@[simp] theorem offerOpen_dom (i j : Nat) (s : State) (k_ : Nat) : (offerOpen i j s).dom k_ = s.dom k_ := by simp [State.dom]
@[simp] theorem offerOpen_ring (i j : Nat) (s : State) (k_ : Nat) : (offerOpen i j s).ring k_ = s.ring k_ := by simp [State.ring]
@[simp] theorem offerOpen_fn (i j : Nat) (s : State) (k_ : Nat) : (offerOpen i j s).fn k_ = s.fn k_ := by simp [State.fn]
@[simp] theorem offerOpen_ld (i j : Nat) (s : State) (k_ : Nat) : (offerOpen i j s).ld k_ = s.ld k_ := by simp [State.ld]
@[simp] theorem offerOpen_spool (i j : Nat) (s : State) (k_ : Nat) : (offerOpen i j s).spool k_ = s.spool k_ := by simp [State.spool]
@[simp] theorem offerOpen_strip (i j : Nat) (s : State) (k_ : Nat) : (offerOpen i j s).strip k_ = s.strip k_ := by simp [State.strip]
@[simp] theorem offerOpen_ext (i j : Nat) (s : State) (k_ : Nat) : (offerOpen i j s).ext k_ = s.ext k_ := by simp [State.ext]
@[simp] theorem offerOpen_lease (i j : Nat) (s : State) (k_ : Nat) : (offerOpen i j s).lease k_ = s.lease k_ := by simp [State.lease]
@[simp] theorem offerOpen_isOn (i j : Nat) (s : State) (k_ : Nat) : (offerOpen i j s).isOn k_ = s.isOn k_ := by simp [State.isOn, State.dom]

/-! ### traffic -/

@[simp] theorem traffic_variant (s : State) : (traffic s).variant = s.variant := rfl
@[simp] theorem traffic_dbgen (s : State) : (traffic s).dbgen = s.dbgen := rfl
@[simp] theorem traffic_power (s : State) : (traffic s).power = s.power := rfl
@[simp] theorem traffic_regs (s : State) : (traffic s).regs = s.regs := rfl
@[simp] theorem traffic_sheet (s : State) : (traffic s).sheet = s.sheet := rfl
@[simp] theorem traffic_pres (s : State) : (traffic s).pres = s.pres := rfl
@[simp] theorem traffic_doms (s : State) : (traffic s).doms = s.doms := rfl
@[simp] theorem traffic_xings (s : State) : (traffic s).xings = s.xings := rfl
@[simp] theorem traffic_tk (s : State) : (traffic s).tk = s.tk := rfl
@[simp] theorem traffic_rg (s : State) : (traffic s).rg = s.rg := rfl
@[simp] theorem traffic_sp (s : State) : (traffic s).sp = s.sp := rfl
@[simp] theorem traffic_ar (s : State) : (traffic s).ar = s.ar := rfl
@[simp] theorem traffic_chs (s : State) : (traffic s).chs = s.chs := rfl
@[simp] theorem traffic_mis (s : State) : (traffic s).mis = s.mis := rfl
@[simp] theorem traffic_streams (s : State) : (traffic s).streams = s.streams := rfl
@[simp] theorem traffic_ladder (s : State) : (traffic s).ladder = s.ladder := rfl
@[simp] theorem traffic_sh (s : State) : (traffic s).sh = s.sh := rfl
@[simp] theorem traffic_jl (s : State) : (traffic s).jl = s.jl := rfl
@[simp] theorem traffic_pe (s : State) : (traffic s).pe = s.pe := rfl
@[simp] theorem traffic_fx (s : State) : (traffic s).fx = s.fx := rfl
@[simp] theorem traffic_en (s : State) : (traffic s).en = s.en := rfl
@[simp] theorem traffic_cn (s : State) : (traffic s).cn = s.cn := rfl
@[simp] theorem traffic_ez (s : State) : (traffic s).ez = s.ez := rfl
@[simp] theorem traffic_sb (s : State) : (traffic s).sb = s.sb := rfl
@[simp] theorem traffic_mm (s : State) : (traffic s).mm = s.mm := rfl
@[simp] theorem traffic_sl (s : State) : (traffic s).sl = s.sl := rfl
@[simp] theorem traffic_th (s : State) : (traffic s).th = s.th := rfl
@[simp] theorem traffic_tx (s : State) : (traffic s).tx = s.tx := rfl
@[simp] theorem traffic_free (s : State) : (traffic s).free = s.free := rfl
@[simp] theorem traffic_pending (s : State) : (traffic s).pending = s.pending := rfl
@[simp] theorem traffic_ch (s : State) (k_ : Nat) : (traffic s).ch k_ = s.ch k_ := by simp [State.ch]
@[simp] theorem traffic_mi (s : State) (k_ : Nat) : (traffic s).mi k_ = s.mi k_ := by simp [State.mi]
@[simp] theorem traffic_dom (s : State) (k_ : Nat) : (traffic s).dom k_ = s.dom k_ := by simp [State.dom]
@[simp] theorem traffic_ring (s : State) (k_ : Nat) : (traffic s).ring k_ = s.ring k_ := by simp [State.ring]
@[simp] theorem traffic_spool (s : State) (k_ : Nat) : (traffic s).spool k_ = s.spool k_ := by simp [State.spool]
@[simp] theorem traffic_strip (s : State) (k_ : Nat) : (traffic s).strip k_ = s.strip k_ := by simp [State.strip]
@[simp] theorem traffic_ext (s : State) (k_ : Nat) : (traffic s).ext k_ = s.ext k_ := by simp [State.ext]
@[simp] theorem traffic_lease (s : State) (k_ : Nat) : (traffic s).lease k_ = s.lease k_ := by simp [State.lease]
@[simp] theorem traffic_isOn (s : State) (k_ : Nat) : (traffic s).isOn k_ = s.isOn k_ := by simp [State.isOn, State.dom]

/-! ### pushRec -/

@[simp] theorem pushRec_variant (p : Nat) (r : Rec) (s : State) : (pushRec p r s).variant = s.variant := rfl
@[simp] theorem pushRec_dbgen (p : Nat) (r : Rec) (s : State) : (pushRec p r s).dbgen = s.dbgen := rfl
@[simp] theorem pushRec_power (p : Nat) (r : Rec) (s : State) : (pushRec p r s).power = s.power := rfl
@[simp] theorem pushRec_regs (p : Nat) (r : Rec) (s : State) : (pushRec p r s).regs = s.regs := rfl
@[simp] theorem pushRec_sheet (p : Nat) (r : Rec) (s : State) : (pushRec p r s).sheet = s.sheet := rfl
@[simp] theorem pushRec_pres (p : Nat) (r : Rec) (s : State) : (pushRec p r s).pres = s.pres := rfl
@[simp] theorem pushRec_doms (p : Nat) (r : Rec) (s : State) : (pushRec p r s).doms = s.doms := rfl
@[simp] theorem pushRec_xings (p : Nat) (r : Rec) (s : State) : (pushRec p r s).xings = s.xings := rfl
@[simp] theorem pushRec_tk (p : Nat) (r : Rec) (s : State) : (pushRec p r s).tk = s.tk := rfl
@[simp] theorem pushRec_hl (p : Nat) (r : Rec) (s : State) : (pushRec p r s).hl = s.hl := rfl
@[simp] theorem pushRec_rg (p : Nat) (r : Rec) (s : State) : (pushRec p r s).rg = s.rg := rfl
@[simp] theorem pushRec_ar (p : Nat) (r : Rec) (s : State) : (pushRec p r s).ar = s.ar := rfl
@[simp] theorem pushRec_chs (p : Nat) (r : Rec) (s : State) : (pushRec p r s).chs = s.chs := rfl
@[simp] theorem pushRec_mis (p : Nat) (r : Rec) (s : State) : (pushRec p r s).mis = s.mis := rfl
@[simp] theorem pushRec_streams (p : Nat) (r : Rec) (s : State) : (pushRec p r s).streams = s.streams := rfl
@[simp] theorem pushRec_ladder (p : Nat) (r : Rec) (s : State) : (pushRec p r s).ladder = s.ladder := rfl
@[simp] theorem pushRec_sh (p : Nat) (r : Rec) (s : State) : (pushRec p r s).sh = s.sh := rfl
@[simp] theorem pushRec_jl (p : Nat) (r : Rec) (s : State) : (pushRec p r s).jl = s.jl := rfl
@[simp] theorem pushRec_pe (p : Nat) (r : Rec) (s : State) : (pushRec p r s).pe = s.pe := rfl
@[simp] theorem pushRec_fx (p : Nat) (r : Rec) (s : State) : (pushRec p r s).fx = s.fx := rfl
@[simp] theorem pushRec_en (p : Nat) (r : Rec) (s : State) : (pushRec p r s).en = s.en := rfl
@[simp] theorem pushRec_cn (p : Nat) (r : Rec) (s : State) : (pushRec p r s).cn = s.cn := rfl
@[simp] theorem pushRec_ez (p : Nat) (r : Rec) (s : State) : (pushRec p r s).ez = s.ez := rfl
@[simp] theorem pushRec_sb (p : Nat) (r : Rec) (s : State) : (pushRec p r s).sb = s.sb := rfl
@[simp] theorem pushRec_mm (p : Nat) (r : Rec) (s : State) : (pushRec p r s).mm = s.mm := rfl
@[simp] theorem pushRec_sl (p : Nat) (r : Rec) (s : State) : (pushRec p r s).sl = s.sl := rfl
@[simp] theorem pushRec_th (p : Nat) (r : Rec) (s : State) : (pushRec p r s).th = s.th := rfl
@[simp] theorem pushRec_tx (p : Nat) (r : Rec) (s : State) : (pushRec p r s).tx = s.tx := rfl
@[simp] theorem pushRec_free (p : Nat) (r : Rec) (s : State) : (pushRec p r s).free = s.free := rfl
@[simp] theorem pushRec_pending (p : Nat) (r : Rec) (s : State) : (pushRec p r s).pending = s.pending := rfl
@[simp] theorem pushRec_ch (p : Nat) (r : Rec) (s : State) (k_ : Nat) : (pushRec p r s).ch k_ = s.ch k_ := by simp [State.ch]
@[simp] theorem pushRec_mi (p : Nat) (r : Rec) (s : State) (k_ : Nat) : (pushRec p r s).mi k_ = s.mi k_ := by simp [State.mi]
@[simp] theorem pushRec_dom (p : Nat) (r : Rec) (s : State) (k_ : Nat) : (pushRec p r s).dom k_ = s.dom k_ := by simp [State.dom]
@[simp] theorem pushRec_ring (p : Nat) (r : Rec) (s : State) (k_ : Nat) : (pushRec p r s).ring k_ = s.ring k_ := by simp [State.ring]
@[simp] theorem pushRec_fn (p : Nat) (r : Rec) (s : State) (k_ : Nat) : (pushRec p r s).fn k_ = s.fn k_ := by simp [State.fn]
@[simp] theorem pushRec_ld (p : Nat) (r : Rec) (s : State) (k_ : Nat) : (pushRec p r s).ld k_ = s.ld k_ := by simp [State.ld]
@[simp] theorem pushRec_ext (p : Nat) (r : Rec) (s : State) (k_ : Nat) : (pushRec p r s).ext k_ = s.ext k_ := by simp [State.ext]
@[simp] theorem pushRec_lease (p : Nat) (r : Rec) (s : State) (k_ : Nat) : (pushRec p r s).lease k_ = s.lease k_ := by simp [State.lease]
@[simp] theorem pushRec_isOn (p : Nat) (r : Rec) (s : State) (k_ : Nat) : (pushRec p r s).isOn k_ = s.isOn k_ := by simp [State.isOn, State.dom]

/-! ### advance -/

@[simp] theorem advance_variant (m : Nat) (s : State) : (advance m s).variant = s.variant := rfl
@[simp] theorem advance_dbgen (m : Nat) (s : State) : (advance m s).dbgen = s.dbgen := rfl
@[simp] theorem advance_power (m : Nat) (s : State) : (advance m s).power = s.power := rfl
@[simp] theorem advance_regs (m : Nat) (s : State) : (advance m s).regs = s.regs := rfl
@[simp] theorem advance_sheet (m : Nat) (s : State) : (advance m s).sheet = s.sheet := rfl
@[simp] theorem advance_pres (m : Nat) (s : State) : (advance m s).pres = s.pres := rfl
@[simp] theorem advance_doms (m : Nat) (s : State) : (advance m s).doms = s.doms := rfl
@[simp] theorem advance_xings (m : Nat) (s : State) : (advance m s).xings = s.xings := rfl
@[simp] theorem advance_hl (m : Nat) (s : State) : (advance m s).hl = s.hl := rfl
@[simp] theorem advance_rg (m : Nat) (s : State) : (advance m s).rg = s.rg := rfl
@[simp] theorem advance_sp (m : Nat) (s : State) : (advance m s).sp = s.sp := rfl
@[simp] theorem advance_ar (m : Nat) (s : State) : (advance m s).ar = s.ar := rfl
@[simp] theorem advance_chs (m : Nat) (s : State) : (advance m s).chs = s.chs := rfl
@[simp] theorem advance_mis (m : Nat) (s : State) : (advance m s).mis = s.mis := rfl
@[simp] theorem advance_streams (m : Nat) (s : State) : (advance m s).streams = s.streams := rfl
@[simp] theorem advance_ladder (m : Nat) (s : State) : (advance m s).ladder = s.ladder := rfl
@[simp] theorem advance_sh (m : Nat) (s : State) : (advance m s).sh = s.sh := rfl
@[simp] theorem advance_jl (m : Nat) (s : State) : (advance m s).jl = s.jl := rfl
@[simp] theorem advance_pe (m : Nat) (s : State) : (advance m s).pe = s.pe := rfl
@[simp] theorem advance_fx (m : Nat) (s : State) : (advance m s).fx = s.fx := rfl
@[simp] theorem advance_en (m : Nat) (s : State) : (advance m s).en = s.en := rfl
@[simp] theorem advance_cn (m : Nat) (s : State) : (advance m s).cn = s.cn := rfl
@[simp] theorem advance_ez (m : Nat) (s : State) : (advance m s).ez = s.ez := rfl
@[simp] theorem advance_sb (m : Nat) (s : State) : (advance m s).sb = s.sb := rfl
@[simp] theorem advance_mm (m : Nat) (s : State) : (advance m s).mm = s.mm := rfl
@[simp] theorem advance_sl (m : Nat) (s : State) : (advance m s).sl = s.sl := rfl
@[simp] theorem advance_th (m : Nat) (s : State) : (advance m s).th = s.th := rfl
@[simp] theorem advance_tx (m : Nat) (s : State) : (advance m s).tx = s.tx := rfl
@[simp] theorem advance_free (m : Nat) (s : State) : (advance m s).free = s.free := rfl
@[simp] theorem advance_pending (m : Nat) (s : State) : (advance m s).pending = s.pending := rfl
@[simp] theorem advance_ch (m : Nat) (s : State) (k_ : Nat) : (advance m s).ch k_ = s.ch k_ := by simp [State.ch]
@[simp] theorem advance_mi (m : Nat) (s : State) (k_ : Nat) : (advance m s).mi k_ = s.mi k_ := by simp [State.mi]
@[simp] theorem advance_dom (m : Nat) (s : State) (k_ : Nat) : (advance m s).dom k_ = s.dom k_ := by simp [State.dom]
@[simp] theorem advance_ring (m : Nat) (s : State) (k_ : Nat) : (advance m s).ring k_ = s.ring k_ := by simp [State.ring]
@[simp] theorem advance_fn (m : Nat) (s : State) (k_ : Nat) : (advance m s).fn k_ = s.fn k_ := by simp [State.fn]
@[simp] theorem advance_ld (m : Nat) (s : State) (k_ : Nat) : (advance m s).ld k_ = s.ld k_ := by simp [State.ld]
@[simp] theorem advance_spool (m : Nat) (s : State) (k_ : Nat) : (advance m s).spool k_ = s.spool k_ := by simp [State.spool]
@[simp] theorem advance_strip (m : Nat) (s : State) (k_ : Nat) : (advance m s).strip k_ = s.strip k_ := by simp [State.strip]
@[simp] theorem advance_ext (m : Nat) (s : State) (k_ : Nat) : (advance m s).ext k_ = s.ext k_ := by simp [State.ext]
@[simp] theorem advance_lease (m : Nat) (s : State) (k_ : Nat) : (advance m s).lease k_ = s.lease k_ := by simp [State.lease]
@[simp] theorem advance_isOn (m : Nat) (s : State) (k_ : Nat) : (advance m s).isOn k_ = s.isOn k_ := by simp [State.isOn, State.dom]

/-! ### advanceTo -/

@[simp] theorem advanceTo_variant (t : Nat) (s : State) : (advanceTo t s).variant = s.variant := rfl
@[simp] theorem advanceTo_dbgen (t : Nat) (s : State) : (advanceTo t s).dbgen = s.dbgen := rfl
@[simp] theorem advanceTo_power (t : Nat) (s : State) : (advanceTo t s).power = s.power := rfl
@[simp] theorem advanceTo_regs (t : Nat) (s : State) : (advanceTo t s).regs = s.regs := rfl
@[simp] theorem advanceTo_sheet (t : Nat) (s : State) : (advanceTo t s).sheet = s.sheet := rfl
@[simp] theorem advanceTo_pres (t : Nat) (s : State) : (advanceTo t s).pres = s.pres := rfl
@[simp] theorem advanceTo_doms (t : Nat) (s : State) : (advanceTo t s).doms = s.doms := rfl
@[simp] theorem advanceTo_xings (t : Nat) (s : State) : (advanceTo t s).xings = s.xings := rfl
@[simp] theorem advanceTo_hl (t : Nat) (s : State) : (advanceTo t s).hl = s.hl := rfl
@[simp] theorem advanceTo_rg (t : Nat) (s : State) : (advanceTo t s).rg = s.rg := rfl
@[simp] theorem advanceTo_sp (t : Nat) (s : State) : (advanceTo t s).sp = s.sp := rfl
@[simp] theorem advanceTo_ar (t : Nat) (s : State) : (advanceTo t s).ar = s.ar := rfl
@[simp] theorem advanceTo_chs (t : Nat) (s : State) : (advanceTo t s).chs = s.chs := rfl
@[simp] theorem advanceTo_mis (t : Nat) (s : State) : (advanceTo t s).mis = s.mis := rfl
@[simp] theorem advanceTo_streams (t : Nat) (s : State) : (advanceTo t s).streams = s.streams := rfl
@[simp] theorem advanceTo_ladder (t : Nat) (s : State) : (advanceTo t s).ladder = s.ladder := rfl
@[simp] theorem advanceTo_sh (t : Nat) (s : State) : (advanceTo t s).sh = s.sh := rfl
@[simp] theorem advanceTo_jl (t : Nat) (s : State) : (advanceTo t s).jl = s.jl := rfl
@[simp] theorem advanceTo_pe (t : Nat) (s : State) : (advanceTo t s).pe = s.pe := rfl
@[simp] theorem advanceTo_fx (t : Nat) (s : State) : (advanceTo t s).fx = s.fx := rfl
@[simp] theorem advanceTo_en (t : Nat) (s : State) : (advanceTo t s).en = s.en := rfl
@[simp] theorem advanceTo_cn (t : Nat) (s : State) : (advanceTo t s).cn = s.cn := rfl
@[simp] theorem advanceTo_ez (t : Nat) (s : State) : (advanceTo t s).ez = s.ez := rfl
@[simp] theorem advanceTo_sb (t : Nat) (s : State) : (advanceTo t s).sb = s.sb := rfl
@[simp] theorem advanceTo_mm (t : Nat) (s : State) : (advanceTo t s).mm = s.mm := rfl
@[simp] theorem advanceTo_sl (t : Nat) (s : State) : (advanceTo t s).sl = s.sl := rfl
@[simp] theorem advanceTo_th (t : Nat) (s : State) : (advanceTo t s).th = s.th := rfl
@[simp] theorem advanceTo_tx (t : Nat) (s : State) : (advanceTo t s).tx = s.tx := rfl
@[simp] theorem advanceTo_free (t : Nat) (s : State) : (advanceTo t s).free = s.free := rfl
@[simp] theorem advanceTo_pending (t : Nat) (s : State) : (advanceTo t s).pending = s.pending := rfl
@[simp] theorem advanceTo_ch (t : Nat) (s : State) (k_ : Nat) : (advanceTo t s).ch k_ = s.ch k_ := by simp [State.ch]
@[simp] theorem advanceTo_mi (t : Nat) (s : State) (k_ : Nat) : (advanceTo t s).mi k_ = s.mi k_ := by simp [State.mi]
@[simp] theorem advanceTo_dom (t : Nat) (s : State) (k_ : Nat) : (advanceTo t s).dom k_ = s.dom k_ := by simp [State.dom]
@[simp] theorem advanceTo_ring (t : Nat) (s : State) (k_ : Nat) : (advanceTo t s).ring k_ = s.ring k_ := by simp [State.ring]
@[simp] theorem advanceTo_fn (t : Nat) (s : State) (k_ : Nat) : (advanceTo t s).fn k_ = s.fn k_ := by simp [State.fn]
@[simp] theorem advanceTo_ld (t : Nat) (s : State) (k_ : Nat) : (advanceTo t s).ld k_ = s.ld k_ := by simp [State.ld]
@[simp] theorem advanceTo_spool (t : Nat) (s : State) (k_ : Nat) : (advanceTo t s).spool k_ = s.spool k_ := by simp [State.spool]
@[simp] theorem advanceTo_strip (t : Nat) (s : State) (k_ : Nat) : (advanceTo t s).strip k_ = s.strip k_ := by simp [State.strip]
@[simp] theorem advanceTo_ext (t : Nat) (s : State) (k_ : Nat) : (advanceTo t s).ext k_ = s.ext k_ := by simp [State.ext]
@[simp] theorem advanceTo_lease (t : Nat) (s : State) (k_ : Nat) : (advanceTo t s).lease k_ = s.lease k_ := by simp [State.lease]
@[simp] theorem advanceTo_isOn (t : Nat) (s : State) (k_ : Nat) : (advanceTo t s).isOn k_ = s.isOn k_ := by simp [State.isOn, State.dom]

/-! ### advanceClk -/

@[simp] theorem advanceClk_variant (t : Nat) (s : State) : (advanceClk t s).variant = s.variant := by unfold advanceClk; dsimp only; split <;> rfl
@[simp] theorem advanceClk_dbgen (t : Nat) (s : State) : (advanceClk t s).dbgen = s.dbgen := by unfold advanceClk; dsimp only; split <;> rfl
@[simp] theorem advanceClk_power (t : Nat) (s : State) : (advanceClk t s).power = s.power := by unfold advanceClk; dsimp only; split <;> rfl
@[simp] theorem advanceClk_regs (t : Nat) (s : State) : (advanceClk t s).regs = s.regs := by unfold advanceClk; dsimp only; split <;> rfl
@[simp] theorem advanceClk_sheet (t : Nat) (s : State) : (advanceClk t s).sheet = s.sheet := by unfold advanceClk; dsimp only; split <;> rfl
@[simp] theorem advanceClk_pres (t : Nat) (s : State) : (advanceClk t s).pres = s.pres := by unfold advanceClk; dsimp only; split <;> rfl
@[simp] theorem advanceClk_doms (t : Nat) (s : State) : (advanceClk t s).doms = s.doms := by unfold advanceClk; dsimp only; split <;> rfl
@[simp] theorem advanceClk_xings (t : Nat) (s : State) : (advanceClk t s).xings = s.xings := by unfold advanceClk; dsimp only; split <;> rfl
@[simp] theorem advanceClk_hl (t : Nat) (s : State) : (advanceClk t s).hl = s.hl := by unfold advanceClk; dsimp only; split <;> rfl
@[simp] theorem advanceClk_rg (t : Nat) (s : State) : (advanceClk t s).rg = s.rg := by unfold advanceClk; dsimp only; split <;> rfl
@[simp] theorem advanceClk_sp (t : Nat) (s : State) : (advanceClk t s).sp = s.sp := by unfold advanceClk; dsimp only; split <;> rfl
@[simp] theorem advanceClk_ar (t : Nat) (s : State) : (advanceClk t s).ar = s.ar := by unfold advanceClk; dsimp only; split <;> rfl
@[simp] theorem advanceClk_chs (t : Nat) (s : State) : (advanceClk t s).chs = s.chs := by unfold advanceClk; dsimp only; split <;> rfl
@[simp] theorem advanceClk_mis (t : Nat) (s : State) : (advanceClk t s).mis = s.mis := by unfold advanceClk; dsimp only; split <;> rfl
@[simp] theorem advanceClk_streams (t : Nat) (s : State) : (advanceClk t s).streams = s.streams := by unfold advanceClk; dsimp only; split <;> rfl
@[simp] theorem advanceClk_ladder (t : Nat) (s : State) : (advanceClk t s).ladder = s.ladder := by unfold advanceClk; dsimp only; split <;> rfl
@[simp] theorem advanceClk_sh (t : Nat) (s : State) : (advanceClk t s).sh = s.sh := by unfold advanceClk; dsimp only; split <;> rfl
@[simp] theorem advanceClk_jl (t : Nat) (s : State) : (advanceClk t s).jl = s.jl := by unfold advanceClk; dsimp only; split <;> rfl
@[simp] theorem advanceClk_pe (t : Nat) (s : State) : (advanceClk t s).pe = s.pe := by unfold advanceClk; dsimp only; split <;> rfl
@[simp] theorem advanceClk_fx (t : Nat) (s : State) : (advanceClk t s).fx = s.fx := by unfold advanceClk; dsimp only; split <;> rfl
@[simp] theorem advanceClk_en (t : Nat) (s : State) : (advanceClk t s).en = s.en := by unfold advanceClk; dsimp only; split <;> rfl
@[simp] theorem advanceClk_cn (t : Nat) (s : State) : (advanceClk t s).cn = s.cn := by unfold advanceClk; dsimp only; split <;> rfl
@[simp] theorem advanceClk_ez (t : Nat) (s : State) : (advanceClk t s).ez = s.ez := by unfold advanceClk; dsimp only; split <;> rfl
@[simp] theorem advanceClk_sb (t : Nat) (s : State) : (advanceClk t s).sb = s.sb := by unfold advanceClk; dsimp only; split <;> rfl
@[simp] theorem advanceClk_mm (t : Nat) (s : State) : (advanceClk t s).mm = s.mm := by unfold advanceClk; dsimp only; split <;> rfl
@[simp] theorem advanceClk_sl (t : Nat) (s : State) : (advanceClk t s).sl = s.sl := by unfold advanceClk; dsimp only; split <;> rfl
@[simp] theorem advanceClk_th (t : Nat) (s : State) : (advanceClk t s).th = s.th := by unfold advanceClk; dsimp only; split <;> rfl
@[simp] theorem advanceClk_tx (t : Nat) (s : State) : (advanceClk t s).tx = s.tx := by unfold advanceClk; dsimp only; split <;> rfl
@[simp] theorem advanceClk_free (t : Nat) (s : State) : (advanceClk t s).free = s.free := by unfold advanceClk; dsimp only; split <;> rfl
@[simp] theorem advanceClk_pending (t : Nat) (s : State) : (advanceClk t s).pending = s.pending := by unfold advanceClk; dsimp only; split <;> rfl
@[simp] theorem advanceClk_ch (t : Nat) (s : State) (k_ : Nat) : (advanceClk t s).ch k_ = s.ch k_ := by simp [State.ch]
@[simp] theorem advanceClk_mi (t : Nat) (s : State) (k_ : Nat) : (advanceClk t s).mi k_ = s.mi k_ := by simp [State.mi]
@[simp] theorem advanceClk_dom (t : Nat) (s : State) (k_ : Nat) : (advanceClk t s).dom k_ = s.dom k_ := by simp [State.dom]
@[simp] theorem advanceClk_ring (t : Nat) (s : State) (k_ : Nat) : (advanceClk t s).ring k_ = s.ring k_ := by simp [State.ring]
@[simp] theorem advanceClk_fn (t : Nat) (s : State) (k_ : Nat) : (advanceClk t s).fn k_ = s.fn k_ := by simp [State.fn]
@[simp] theorem advanceClk_ld (t : Nat) (s : State) (k_ : Nat) : (advanceClk t s).ld k_ = s.ld k_ := by simp [State.ld]
@[simp] theorem advanceClk_spool (t : Nat) (s : State) (k_ : Nat) : (advanceClk t s).spool k_ = s.spool k_ := by simp [State.spool]
@[simp] theorem advanceClk_strip (t : Nat) (s : State) (k_ : Nat) : (advanceClk t s).strip k_ = s.strip k_ := by simp [State.strip]
@[simp] theorem advanceClk_ext (t : Nat) (s : State) (k_ : Nat) : (advanceClk t s).ext k_ = s.ext k_ := by simp [State.ext]
@[simp] theorem advanceClk_lease (t : Nat) (s : State) (k_ : Nat) : (advanceClk t s).lease k_ = s.lease k_ := by simp [State.lease]
@[simp] theorem advanceClk_isOn (t : Nat) (s : State) (k_ : Nat) : (advanceClk t s).isOn k_ = s.isOn k_ := by simp [State.isOn, State.dom]

/-! ### signal -/

@[simp] theorem signal_variant (f v : Nat) (s : State) : (signal f v s).variant = s.variant := by unfold signal; dsimp only; split <;> rfl
@[simp] theorem signal_dbgen (f v : Nat) (s : State) : (signal f v s).dbgen = s.dbgen := by unfold signal; dsimp only; split <;> rfl
@[simp] theorem signal_power (f v : Nat) (s : State) : (signal f v s).power = s.power := by unfold signal; dsimp only; split <;> rfl
@[simp] theorem signal_regs (f v : Nat) (s : State) : (signal f v s).regs = s.regs := by unfold signal; dsimp only; split <;> rfl
@[simp] theorem signal_sheet (f v : Nat) (s : State) : (signal f v s).sheet = s.sheet := by unfold signal; dsimp only; split <;> rfl
@[simp] theorem signal_pres (f v : Nat) (s : State) : (signal f v s).pres = s.pres := by unfold signal; dsimp only; split <;> rfl
@[simp] theorem signal_doms (f v : Nat) (s : State) : (signal f v s).doms = s.doms := by unfold signal; dsimp only; split <;> rfl
@[simp] theorem signal_xings (f v : Nat) (s : State) : (signal f v s).xings = s.xings := by unfold signal; dsimp only; split <;> rfl
@[simp] theorem signal_tk (f v : Nat) (s : State) : (signal f v s).tk = s.tk := by unfold signal; dsimp only; split <;> rfl
@[simp] theorem signal_rg (f v : Nat) (s : State) : (signal f v s).rg = s.rg := by unfold signal; dsimp only; split <;> rfl
@[simp] theorem signal_sp (f v : Nat) (s : State) : (signal f v s).sp = s.sp := by unfold signal; dsimp only; split <;> rfl
@[simp] theorem signal_ar (f v : Nat) (s : State) : (signal f v s).ar = s.ar := by unfold signal; dsimp only; split <;> rfl
@[simp] theorem signal_chs (f v : Nat) (s : State) : (signal f v s).chs = s.chs := by unfold signal; dsimp only; split <;> rfl
@[simp] theorem signal_mis (f v : Nat) (s : State) : (signal f v s).mis = s.mis := by unfold signal; dsimp only; split <;> rfl
@[simp] theorem signal_streams (f v : Nat) (s : State) : (signal f v s).streams = s.streams := by unfold signal; dsimp only; split <;> rfl
@[simp] theorem signal_ladder (f v : Nat) (s : State) : (signal f v s).ladder = s.ladder := by unfold signal; dsimp only; split <;> rfl
@[simp] theorem signal_sh (f v : Nat) (s : State) : (signal f v s).sh = s.sh := by unfold signal; dsimp only; split <;> rfl
@[simp] theorem signal_jl (f v : Nat) (s : State) : (signal f v s).jl = s.jl := by unfold signal; dsimp only; split <;> rfl
@[simp] theorem signal_pe (f v : Nat) (s : State) : (signal f v s).pe = s.pe := by unfold signal; dsimp only; split <;> rfl
@[simp] theorem signal_fx (f v : Nat) (s : State) : (signal f v s).fx = s.fx := by unfold signal; dsimp only; split <;> rfl
@[simp] theorem signal_en (f v : Nat) (s : State) : (signal f v s).en = s.en := by unfold signal; dsimp only; split <;> rfl
@[simp] theorem signal_cn (f v : Nat) (s : State) : (signal f v s).cn = s.cn := by unfold signal; dsimp only; split <;> rfl
@[simp] theorem signal_ez (f v : Nat) (s : State) : (signal f v s).ez = s.ez := by unfold signal; dsimp only; split <;> rfl
@[simp] theorem signal_sb (f v : Nat) (s : State) : (signal f v s).sb = s.sb := by unfold signal; dsimp only; split <;> rfl
@[simp] theorem signal_mm (f v : Nat) (s : State) : (signal f v s).mm = s.mm := by unfold signal; dsimp only; split <;> rfl
@[simp] theorem signal_sl (f v : Nat) (s : State) : (signal f v s).sl = s.sl := by unfold signal; dsimp only; split <;> rfl
@[simp] theorem signal_th (f v : Nat) (s : State) : (signal f v s).th = s.th := by unfold signal; dsimp only; split <;> rfl
@[simp] theorem signal_free (f v : Nat) (s : State) : (signal f v s).free = s.free := by unfold signal; dsimp only; split <;> rfl
@[simp] theorem signal_pending (f v : Nat) (s : State) : (signal f v s).pending = s.pending := by unfold signal; dsimp only; split <;> rfl
@[simp] theorem signal_ch (f v : Nat) (s : State) (k_ : Nat) : (signal f v s).ch k_ = s.ch k_ := by simp [State.ch]
@[simp] theorem signal_mi (f v : Nat) (s : State) (k_ : Nat) : (signal f v s).mi k_ = s.mi k_ := by simp [State.mi]
@[simp] theorem signal_dom (f v : Nat) (s : State) (k_ : Nat) : (signal f v s).dom k_ = s.dom k_ := by simp [State.dom]
@[simp] theorem signal_ring (f v : Nat) (s : State) (k_ : Nat) : (signal f v s).ring k_ = s.ring k_ := by simp [State.ring]
@[simp] theorem signal_spool (f v : Nat) (s : State) (k_ : Nat) : (signal f v s).spool k_ = s.spool k_ := by simp [State.spool]
@[simp] theorem signal_strip (f v : Nat) (s : State) (k_ : Nat) : (signal f v s).strip k_ = s.strip k_ := by simp [State.strip]
@[simp] theorem signal_ext (f v : Nat) (s : State) (k_ : Nat) : (signal f v s).ext k_ = s.ext k_ := by simp [State.ext]
@[simp] theorem signal_lease (f v : Nat) (s : State) (k_ : Nat) : (signal f v s).lease k_ = s.lease k_ := by simp [State.lease]
@[simp] theorem signal_isOn (f v : Nat) (s : State) (k_ : Nat) : (signal f v s).isOn k_ = s.isOn k_ := by simp [State.isOn, State.dom]

/-! ### signalSpaced -/

@[simp] theorem signalSpaced_variant (v : Nat) (s : State) : (signalSpaced v s).variant = s.variant := by unfold signalSpaced; dsimp only; (repeat' split) <;> simp
@[simp] theorem signalSpaced_dbgen (v : Nat) (s : State) : (signalSpaced v s).dbgen = s.dbgen := by unfold signalSpaced; dsimp only; (repeat' split) <;> simp
@[simp] theorem signalSpaced_power (v : Nat) (s : State) : (signalSpaced v s).power = s.power := by unfold signalSpaced; dsimp only; (repeat' split) <;> simp
@[simp] theorem signalSpaced_regs (v : Nat) (s : State) : (signalSpaced v s).regs = s.regs := by unfold signalSpaced; dsimp only; (repeat' split) <;> simp
@[simp] theorem signalSpaced_sheet (v : Nat) (s : State) : (signalSpaced v s).sheet = s.sheet := by unfold signalSpaced; dsimp only; (repeat' split) <;> simp
@[simp] theorem signalSpaced_pres (v : Nat) (s : State) : (signalSpaced v s).pres = s.pres := by unfold signalSpaced; dsimp only; (repeat' split) <;> simp
@[simp] theorem signalSpaced_doms (v : Nat) (s : State) : (signalSpaced v s).doms = s.doms := by unfold signalSpaced; dsimp only; (repeat' split) <;> simp
@[simp] theorem signalSpaced_xings (v : Nat) (s : State) : (signalSpaced v s).xings = s.xings := by unfold signalSpaced; dsimp only; (repeat' split) <;> simp
@[simp] theorem signalSpaced_tk (v : Nat) (s : State) : (signalSpaced v s).tk = s.tk := by unfold signalSpaced; dsimp only; (repeat' split) <;> simp
@[simp] theorem signalSpaced_rg (v : Nat) (s : State) : (signalSpaced v s).rg = s.rg := by unfold signalSpaced; dsimp only; (repeat' split) <;> simp
@[simp] theorem signalSpaced_sp (v : Nat) (s : State) : (signalSpaced v s).sp = s.sp := by unfold signalSpaced; dsimp only; (repeat' split) <;> simp
@[simp] theorem signalSpaced_ar (v : Nat) (s : State) : (signalSpaced v s).ar = s.ar := by unfold signalSpaced; dsimp only; (repeat' split) <;> simp
@[simp] theorem signalSpaced_chs (v : Nat) (s : State) : (signalSpaced v s).chs = s.chs := by unfold signalSpaced; dsimp only; (repeat' split) <;> simp
@[simp] theorem signalSpaced_mis (v : Nat) (s : State) : (signalSpaced v s).mis = s.mis := by unfold signalSpaced; dsimp only; (repeat' split) <;> simp
@[simp] theorem signalSpaced_streams (v : Nat) (s : State) : (signalSpaced v s).streams = s.streams := by unfold signalSpaced; dsimp only; (repeat' split) <;> simp
@[simp] theorem signalSpaced_ladder (v : Nat) (s : State) : (signalSpaced v s).ladder = s.ladder := by unfold signalSpaced; dsimp only; (repeat' split) <;> simp
@[simp] theorem signalSpaced_sh (v : Nat) (s : State) : (signalSpaced v s).sh = s.sh := by unfold signalSpaced; dsimp only; (repeat' split) <;> simp
@[simp] theorem signalSpaced_jl (v : Nat) (s : State) : (signalSpaced v s).jl = s.jl := by unfold signalSpaced; dsimp only; (repeat' split) <;> simp
@[simp] theorem signalSpaced_pe (v : Nat) (s : State) : (signalSpaced v s).pe = s.pe := by unfold signalSpaced; dsimp only; (repeat' split) <;> simp
@[simp] theorem signalSpaced_fx (v : Nat) (s : State) : (signalSpaced v s).fx = s.fx := by unfold signalSpaced; dsimp only; (repeat' split) <;> simp
@[simp] theorem signalSpaced_en (v : Nat) (s : State) : (signalSpaced v s).en = s.en := by unfold signalSpaced; dsimp only; (repeat' split) <;> simp
@[simp] theorem signalSpaced_cn (v : Nat) (s : State) : (signalSpaced v s).cn = s.cn := by unfold signalSpaced; dsimp only; (repeat' split) <;> simp
@[simp] theorem signalSpaced_ez (v : Nat) (s : State) : (signalSpaced v s).ez = s.ez := by unfold signalSpaced; dsimp only; (repeat' split) <;> simp
@[simp] theorem signalSpaced_sb (v : Nat) (s : State) : (signalSpaced v s).sb = s.sb := by unfold signalSpaced; dsimp only; (repeat' split) <;> simp
@[simp] theorem signalSpaced_mm (v : Nat) (s : State) : (signalSpaced v s).mm = s.mm := by unfold signalSpaced; dsimp only; (repeat' split) <;> simp
@[simp] theorem signalSpaced_sl (v : Nat) (s : State) : (signalSpaced v s).sl = s.sl := by unfold signalSpaced; dsimp only; (repeat' split) <;> simp
@[simp] theorem signalSpaced_th (v : Nat) (s : State) : (signalSpaced v s).th = s.th := by unfold signalSpaced; dsimp only; (repeat' split) <;> simp
@[simp] theorem signalSpaced_free (v : Nat) (s : State) : (signalSpaced v s).free = s.free := by unfold signalSpaced; dsimp only; (repeat' split) <;> simp
@[simp] theorem signalSpaced_pending (v : Nat) (s : State) : (signalSpaced v s).pending = s.pending := by unfold signalSpaced; dsimp only; (repeat' split) <;> simp
@[simp] theorem signalSpaced_ch (v : Nat) (s : State) (k_ : Nat) : (signalSpaced v s).ch k_ = s.ch k_ := by simp [State.ch]
@[simp] theorem signalSpaced_mi (v : Nat) (s : State) (k_ : Nat) : (signalSpaced v s).mi k_ = s.mi k_ := by simp [State.mi]
@[simp] theorem signalSpaced_dom (v : Nat) (s : State) (k_ : Nat) : (signalSpaced v s).dom k_ = s.dom k_ := by simp [State.dom]
@[simp] theorem signalSpaced_ring (v : Nat) (s : State) (k_ : Nat) : (signalSpaced v s).ring k_ = s.ring k_ := by simp [State.ring]
@[simp] theorem signalSpaced_spool (v : Nat) (s : State) (k_ : Nat) : (signalSpaced v s).spool k_ = s.spool k_ := by simp [State.spool]
@[simp] theorem signalSpaced_strip (v : Nat) (s : State) (k_ : Nat) : (signalSpaced v s).strip k_ = s.strip k_ := by simp [State.strip]
@[simp] theorem signalSpaced_ext (v : Nat) (s : State) (k_ : Nat) : (signalSpaced v s).ext k_ = s.ext k_ := by simp [State.ext]
@[simp] theorem signalSpaced_lease (v : Nat) (s : State) (k_ : Nat) : (signalSpaced v s).lease k_ = s.lease k_ := by simp [State.lease]
@[simp] theorem signalSpaced_isOn (v : Nat) (s : State) (k_ : Nat) : (signalSpaced v s).isOn k_ = s.isOn k_ := by simp [State.isOn, State.dom]

/-! ### raiseAs -/

@[simp] theorem raiseAs_variant (b : Blk) (i num cls : Nat) (args : List Int) (src prod : Nat) (s : State) : (raiseAs b i num cls args src prod s).variant = s.variant := by unfold raiseAs; dsimp only; (repeat' split) <;> simp
@[simp] theorem raiseAs_dbgen (b : Blk) (i num cls : Nat) (args : List Int) (src prod : Nat) (s : State) : (raiseAs b i num cls args src prod s).dbgen = s.dbgen := by unfold raiseAs; dsimp only; (repeat' split) <;> simp
@[simp] theorem raiseAs_power (b : Blk) (i num cls : Nat) (args : List Int) (src prod : Nat) (s : State) : (raiseAs b i num cls args src prod s).power = s.power := by unfold raiseAs; dsimp only; (repeat' split) <;> simp
@[simp] theorem raiseAs_sheet (b : Blk) (i num cls : Nat) (args : List Int) (src prod : Nat) (s : State) : (raiseAs b i num cls args src prod s).sheet = s.sheet := by unfold raiseAs; dsimp only; (repeat' split) <;> simp
@[simp] theorem raiseAs_pres (b : Blk) (i num cls : Nat) (args : List Int) (src prod : Nat) (s : State) : (raiseAs b i num cls args src prod s).pres = s.pres := by unfold raiseAs; dsimp only; (repeat' split) <;> simp
@[simp] theorem raiseAs_doms (b : Blk) (i num cls : Nat) (args : List Int) (src prod : Nat) (s : State) : (raiseAs b i num cls args src prod s).doms = s.doms := by unfold raiseAs; dsimp only; (repeat' split) <;> simp
@[simp] theorem raiseAs_xings (b : Blk) (i num cls : Nat) (args : List Int) (src prod : Nat) (s : State) : (raiseAs b i num cls args src prod s).xings = s.xings := by unfold raiseAs; dsimp only; (repeat' split) <;> simp
@[simp] theorem raiseAs_tk (b : Blk) (i num cls : Nat) (args : List Int) (src prod : Nat) (s : State) : (raiseAs b i num cls args src prod s).tk = s.tk := by unfold raiseAs; dsimp only; (repeat' split) <;> simp
@[simp] theorem raiseAs_rg (b : Blk) (i num cls : Nat) (args : List Int) (src prod : Nat) (s : State) : (raiseAs b i num cls args src prod s).rg = s.rg := by unfold raiseAs; dsimp only; (repeat' split) <;> simp
@[simp] theorem raiseAs_ar (b : Blk) (i num cls : Nat) (args : List Int) (src prod : Nat) (s : State) : (raiseAs b i num cls args src prod s).ar = s.ar := by unfold raiseAs; dsimp only; (repeat' split) <;> simp
@[simp] theorem raiseAs_chs (b : Blk) (i num cls : Nat) (args : List Int) (src prod : Nat) (s : State) : (raiseAs b i num cls args src prod s).chs = s.chs := by unfold raiseAs; dsimp only; (repeat' split) <;> simp
@[simp] theorem raiseAs_mis (b : Blk) (i num cls : Nat) (args : List Int) (src prod : Nat) (s : State) : (raiseAs b i num cls args src prod s).mis = s.mis := by unfold raiseAs; dsimp only; (repeat' split) <;> simp
@[simp] theorem raiseAs_streams (b : Blk) (i num cls : Nat) (args : List Int) (src prod : Nat) (s : State) : (raiseAs b i num cls args src prod s).streams = s.streams := by unfold raiseAs; dsimp only; (repeat' split) <;> simp
@[simp] theorem raiseAs_ladder (b : Blk) (i num cls : Nat) (args : List Int) (src prod : Nat) (s : State) : (raiseAs b i num cls args src prod s).ladder = s.ladder := by unfold raiseAs; dsimp only; (repeat' split) <;> simp
@[simp] theorem raiseAs_sh (b : Blk) (i num cls : Nat) (args : List Int) (src prod : Nat) (s : State) : (raiseAs b i num cls args src prod s).sh = s.sh := by unfold raiseAs; dsimp only; (repeat' split) <;> simp
@[simp] theorem raiseAs_jl (b : Blk) (i num cls : Nat) (args : List Int) (src prod : Nat) (s : State) : (raiseAs b i num cls args src prod s).jl = s.jl := by unfold raiseAs; dsimp only; (repeat' split) <;> simp
@[simp] theorem raiseAs_pe (b : Blk) (i num cls : Nat) (args : List Int) (src prod : Nat) (s : State) : (raiseAs b i num cls args src prod s).pe = s.pe := by unfold raiseAs; dsimp only; (repeat' split) <;> simp
@[simp] theorem raiseAs_fx (b : Blk) (i num cls : Nat) (args : List Int) (src prod : Nat) (s : State) : (raiseAs b i num cls args src prod s).fx = s.fx := by unfold raiseAs; dsimp only; (repeat' split) <;> simp
@[simp] theorem raiseAs_en (b : Blk) (i num cls : Nat) (args : List Int) (src prod : Nat) (s : State) : (raiseAs b i num cls args src prod s).en = s.en := by unfold raiseAs; dsimp only; (repeat' split) <;> simp
@[simp] theorem raiseAs_cn (b : Blk) (i num cls : Nat) (args : List Int) (src prod : Nat) (s : State) : (raiseAs b i num cls args src prod s).cn = s.cn := by unfold raiseAs; dsimp only; (repeat' split) <;> simp
@[simp] theorem raiseAs_ez (b : Blk) (i num cls : Nat) (args : List Int) (src prod : Nat) (s : State) : (raiseAs b i num cls args src prod s).ez = s.ez := by unfold raiseAs; dsimp only; (repeat' split) <;> simp
@[simp] theorem raiseAs_sb (b : Blk) (i num cls : Nat) (args : List Int) (src prod : Nat) (s : State) : (raiseAs b i num cls args src prod s).sb = s.sb := by unfold raiseAs; dsimp only; (repeat' split) <;> simp
@[simp] theorem raiseAs_mm (b : Blk) (i num cls : Nat) (args : List Int) (src prod : Nat) (s : State) : (raiseAs b i num cls args src prod s).mm = s.mm := by unfold raiseAs; dsimp only; (repeat' split) <;> simp
@[simp] theorem raiseAs_sl (b : Blk) (i num cls : Nat) (args : List Int) (src prod : Nat) (s : State) : (raiseAs b i num cls args src prod s).sl = s.sl := by unfold raiseAs; dsimp only; (repeat' split) <;> simp
@[simp] theorem raiseAs_th (b : Blk) (i num cls : Nat) (args : List Int) (src prod : Nat) (s : State) : (raiseAs b i num cls args src prod s).th = s.th := by unfold raiseAs; dsimp only; (repeat' split) <;> simp
@[simp] theorem raiseAs_free (b : Blk) (i num cls : Nat) (args : List Int) (src prod : Nat) (s : State) : (raiseAs b i num cls args src prod s).free = s.free := by unfold raiseAs; dsimp only; (repeat' split) <;> simp
@[simp] theorem raiseAs_pending (b : Blk) (i num cls : Nat) (args : List Int) (src prod : Nat) (s : State) : (raiseAs b i num cls args src prod s).pending = s.pending := by unfold raiseAs; dsimp only; (repeat' split) <;> simp
@[simp] theorem raiseAs_ch (b : Blk) (i num cls : Nat) (args : List Int) (src prod : Nat) (s : State) (k_ : Nat) : (raiseAs b i num cls args src prod s).ch k_ = s.ch k_ := by simp [State.ch]
@[simp] theorem raiseAs_mi (b : Blk) (i num cls : Nat) (args : List Int) (src prod : Nat) (s : State) (k_ : Nat) : (raiseAs b i num cls args src prod s).mi k_ = s.mi k_ := by simp [State.mi]
@[simp] theorem raiseAs_dom (b : Blk) (i num cls : Nat) (args : List Int) (src prod : Nat) (s : State) (k_ : Nat) : (raiseAs b i num cls args src prod s).dom k_ = s.dom k_ := by simp [State.dom]
@[simp] theorem raiseAs_ring (b : Blk) (i num cls : Nat) (args : List Int) (src prod : Nat) (s : State) (k_ : Nat) : (raiseAs b i num cls args src prod s).ring k_ = s.ring k_ := by simp [State.ring]
@[simp] theorem raiseAs_ext (b : Blk) (i num cls : Nat) (args : List Int) (src prod : Nat) (s : State) (k_ : Nat) : (raiseAs b i num cls args src prod s).ext k_ = s.ext k_ := by simp [State.ext]
@[simp] theorem raiseAs_lease (b : Blk) (i num cls : Nat) (args : List Int) (src prod : Nat) (s : State) (k_ : Nat) : (raiseAs b i num cls args src prod s).lease k_ = s.lease k_ := by simp [State.lease]
@[simp] theorem raiseAs_isOn (b : Blk) (i num cls : Nat) (args : List Int) (src prod : Nat) (s : State) (k_ : Nat) : (raiseAs b i num cls args src prod s).isOn k_ = s.isOn k_ := by simp [State.isOn, State.dom]

/-! ### raise -/

@[simp] theorem raise_variant (b : Blk) (i num cls : Nat) (args : List Int) (s : State) : (raise b i num cls args s).variant = s.variant := by unfold raise; simp
@[simp] theorem raise_dbgen (b : Blk) (i num cls : Nat) (args : List Int) (s : State) : (raise b i num cls args s).dbgen = s.dbgen := by unfold raise; simp
@[simp] theorem raise_power (b : Blk) (i num cls : Nat) (args : List Int) (s : State) : (raise b i num cls args s).power = s.power := by unfold raise; simp
@[simp] theorem raise_sheet (b : Blk) (i num cls : Nat) (args : List Int) (s : State) : (raise b i num cls args s).sheet = s.sheet := by unfold raise; simp
@[simp] theorem raise_pres (b : Blk) (i num cls : Nat) (args : List Int) (s : State) : (raise b i num cls args s).pres = s.pres := by unfold raise; simp
@[simp] theorem raise_doms (b : Blk) (i num cls : Nat) (args : List Int) (s : State) : (raise b i num cls args s).doms = s.doms := by unfold raise; simp
@[simp] theorem raise_xings (b : Blk) (i num cls : Nat) (args : List Int) (s : State) : (raise b i num cls args s).xings = s.xings := by unfold raise; simp
@[simp] theorem raise_tk (b : Blk) (i num cls : Nat) (args : List Int) (s : State) : (raise b i num cls args s).tk = s.tk := by unfold raise; simp
@[simp] theorem raise_rg (b : Blk) (i num cls : Nat) (args : List Int) (s : State) : (raise b i num cls args s).rg = s.rg := by unfold raise; simp
@[simp] theorem raise_ar (b : Blk) (i num cls : Nat) (args : List Int) (s : State) : (raise b i num cls args s).ar = s.ar := by unfold raise; simp
@[simp] theorem raise_chs (b : Blk) (i num cls : Nat) (args : List Int) (s : State) : (raise b i num cls args s).chs = s.chs := by unfold raise; simp
@[simp] theorem raise_mis (b : Blk) (i num cls : Nat) (args : List Int) (s : State) : (raise b i num cls args s).mis = s.mis := by unfold raise; simp
@[simp] theorem raise_streams (b : Blk) (i num cls : Nat) (args : List Int) (s : State) : (raise b i num cls args s).streams = s.streams := by unfold raise; simp
@[simp] theorem raise_ladder (b : Blk) (i num cls : Nat) (args : List Int) (s : State) : (raise b i num cls args s).ladder = s.ladder := by unfold raise; simp
@[simp] theorem raise_sh (b : Blk) (i num cls : Nat) (args : List Int) (s : State) : (raise b i num cls args s).sh = s.sh := by unfold raise; simp
@[simp] theorem raise_jl (b : Blk) (i num cls : Nat) (args : List Int) (s : State) : (raise b i num cls args s).jl = s.jl := by unfold raise; simp
@[simp] theorem raise_pe (b : Blk) (i num cls : Nat) (args : List Int) (s : State) : (raise b i num cls args s).pe = s.pe := by unfold raise; simp
@[simp] theorem raise_fx (b : Blk) (i num cls : Nat) (args : List Int) (s : State) : (raise b i num cls args s).fx = s.fx := by unfold raise; simp
@[simp] theorem raise_en (b : Blk) (i num cls : Nat) (args : List Int) (s : State) : (raise b i num cls args s).en = s.en := by unfold raise; simp
@[simp] theorem raise_cn (b : Blk) (i num cls : Nat) (args : List Int) (s : State) : (raise b i num cls args s).cn = s.cn := by unfold raise; simp
@[simp] theorem raise_ez (b : Blk) (i num cls : Nat) (args : List Int) (s : State) : (raise b i num cls args s).ez = s.ez := by unfold raise; simp
@[simp] theorem raise_sb (b : Blk) (i num cls : Nat) (args : List Int) (s : State) : (raise b i num cls args s).sb = s.sb := by unfold raise; simp
@[simp] theorem raise_mm (b : Blk) (i num cls : Nat) (args : List Int) (s : State) : (raise b i num cls args s).mm = s.mm := by unfold raise; simp
@[simp] theorem raise_sl (b : Blk) (i num cls : Nat) (args : List Int) (s : State) : (raise b i num cls args s).sl = s.sl := by unfold raise; simp
@[simp] theorem raise_th (b : Blk) (i num cls : Nat) (args : List Int) (s : State) : (raise b i num cls args s).th = s.th := by unfold raise; simp
@[simp] theorem raise_free (b : Blk) (i num cls : Nat) (args : List Int) (s : State) : (raise b i num cls args s).free = s.free := by unfold raise; simp
@[simp] theorem raise_pending (b : Blk) (i num cls : Nat) (args : List Int) (s : State) : (raise b i num cls args s).pending = s.pending := by unfold raise; simp
@[simp] theorem raise_ch (b : Blk) (i num cls : Nat) (args : List Int) (s : State) (k_ : Nat) : (raise b i num cls args s).ch k_ = s.ch k_ := by simp [State.ch]
@[simp] theorem raise_mi (b : Blk) (i num cls : Nat) (args : List Int) (s : State) (k_ : Nat) : (raise b i num cls args s).mi k_ = s.mi k_ := by simp [State.mi]
@[simp] theorem raise_dom (b : Blk) (i num cls : Nat) (args : List Int) (s : State) (k_ : Nat) : (raise b i num cls args s).dom k_ = s.dom k_ := by simp [State.dom]
@[simp] theorem raise_ring (b : Blk) (i num cls : Nat) (args : List Int) (s : State) (k_ : Nat) : (raise b i num cls args s).ring k_ = s.ring k_ := by simp [State.ring]
@[simp] theorem raise_ext (b : Blk) (i num cls : Nat) (args : List Int) (s : State) (k_ : Nat) : (raise b i num cls args s).ext k_ = s.ext k_ := by simp [State.ext]
@[simp] theorem raise_lease (b : Blk) (i num cls : Nat) (args : List Int) (s : State) (k_ : Nat) : (raise b i num cls args s).lease k_ = s.lease k_ := by simp [State.lease]
@[simp] theorem raise_isOn (b : Blk) (i num cls : Nat) (args : List Int) (s : State) (k_ : Nat) : (raise b i num cls args s).isOn k_ = s.isOn k_ := by simp [State.isOn, State.dom]

/-! ### raiseTimed -/

@[simp] theorem raiseTimed_variant (b : Blk) (i num cls : Nat) (args : List Int) (time : Nat) (s : State) : (raiseTimed b i num cls args time s).variant = s.variant := by unfold raiseTimed; dsimp only; (repeat' split) <;> simp
@[simp] theorem raiseTimed_dbgen (b : Blk) (i num cls : Nat) (args : List Int) (time : Nat) (s : State) : (raiseTimed b i num cls args time s).dbgen = s.dbgen := by unfold raiseTimed; dsimp only; (repeat' split) <;> simp
@[simp] theorem raiseTimed_power (b : Blk) (i num cls : Nat) (args : List Int) (time : Nat) (s : State) : (raiseTimed b i num cls args time s).power = s.power := by unfold raiseTimed; dsimp only; (repeat' split) <;> simp
@[simp] theorem raiseTimed_sheet (b : Blk) (i num cls : Nat) (args : List Int) (time : Nat) (s : State) : (raiseTimed b i num cls args time s).sheet = s.sheet := by unfold raiseTimed; dsimp only; (repeat' split) <;> simp
@[simp] theorem raiseTimed_pres (b : Blk) (i num cls : Nat) (args : List Int) (time : Nat) (s : State) : (raiseTimed b i num cls args time s).pres = s.pres := by unfold raiseTimed; dsimp only; (repeat' split) <;> simp
@[simp] theorem raiseTimed_doms (b : Blk) (i num cls : Nat) (args : List Int) (time : Nat) (s : State) : (raiseTimed b i num cls args time s).doms = s.doms := by unfold raiseTimed; dsimp only; (repeat' split) <;> simp
@[simp] theorem raiseTimed_xings (b : Blk) (i num cls : Nat) (args : List Int) (time : Nat) (s : State) : (raiseTimed b i num cls args time s).xings = s.xings := by unfold raiseTimed; dsimp only; (repeat' split) <;> simp
@[simp] theorem raiseTimed_tk (b : Blk) (i num cls : Nat) (args : List Int) (time : Nat) (s : State) : (raiseTimed b i num cls args time s).tk = s.tk := by unfold raiseTimed; dsimp only; (repeat' split) <;> simp
@[simp] theorem raiseTimed_rg (b : Blk) (i num cls : Nat) (args : List Int) (time : Nat) (s : State) : (raiseTimed b i num cls args time s).rg = s.rg := by unfold raiseTimed; dsimp only; (repeat' split) <;> simp
@[simp] theorem raiseTimed_ar (b : Blk) (i num cls : Nat) (args : List Int) (time : Nat) (s : State) : (raiseTimed b i num cls args time s).ar = s.ar := by unfold raiseTimed; dsimp only; (repeat' split) <;> simp
@[simp] theorem raiseTimed_chs (b : Blk) (i num cls : Nat) (args : List Int) (time : Nat) (s : State) : (raiseTimed b i num cls args time s).chs = s.chs := by unfold raiseTimed; dsimp only; (repeat' split) <;> simp
@[simp] theorem raiseTimed_mis (b : Blk) (i num cls : Nat) (args : List Int) (time : Nat) (s : State) : (raiseTimed b i num cls args time s).mis = s.mis := by unfold raiseTimed; dsimp only; (repeat' split) <;> simp
@[simp] theorem raiseTimed_streams (b : Blk) (i num cls : Nat) (args : List Int) (time : Nat) (s : State) : (raiseTimed b i num cls args time s).streams = s.streams := by unfold raiseTimed; dsimp only; (repeat' split) <;> simp
@[simp] theorem raiseTimed_ladder (b : Blk) (i num cls : Nat) (args : List Int) (time : Nat) (s : State) : (raiseTimed b i num cls args time s).ladder = s.ladder := by unfold raiseTimed; dsimp only; (repeat' split) <;> simp
@[simp] theorem raiseTimed_sh (b : Blk) (i num cls : Nat) (args : List Int) (time : Nat) (s : State) : (raiseTimed b i num cls args time s).sh = s.sh := by unfold raiseTimed; dsimp only; (repeat' split) <;> simp
@[simp] theorem raiseTimed_jl (b : Blk) (i num cls : Nat) (args : List Int) (time : Nat) (s : State) : (raiseTimed b i num cls args time s).jl = s.jl := by unfold raiseTimed; dsimp only; (repeat' split) <;> simp
@[simp] theorem raiseTimed_pe (b : Blk) (i num cls : Nat) (args : List Int) (time : Nat) (s : State) : (raiseTimed b i num cls args time s).pe = s.pe := by unfold raiseTimed; dsimp only; (repeat' split) <;> simp
@[simp] theorem raiseTimed_fx (b : Blk) (i num cls : Nat) (args : List Int) (time : Nat) (s : State) : (raiseTimed b i num cls args time s).fx = s.fx := by unfold raiseTimed; dsimp only; (repeat' split) <;> simp
@[simp] theorem raiseTimed_en (b : Blk) (i num cls : Nat) (args : List Int) (time : Nat) (s : State) : (raiseTimed b i num cls args time s).en = s.en := by unfold raiseTimed; dsimp only; (repeat' split) <;> simp
@[simp] theorem raiseTimed_cn (b : Blk) (i num cls : Nat) (args : List Int) (time : Nat) (s : State) : (raiseTimed b i num cls args time s).cn = s.cn := by unfold raiseTimed; dsimp only; (repeat' split) <;> simp
@[simp] theorem raiseTimed_ez (b : Blk) (i num cls : Nat) (args : List Int) (time : Nat) (s : State) : (raiseTimed b i num cls args time s).ez = s.ez := by unfold raiseTimed; dsimp only; (repeat' split) <;> simp
@[simp] theorem raiseTimed_sb (b : Blk) (i num cls : Nat) (args : List Int) (time : Nat) (s : State) : (raiseTimed b i num cls args time s).sb = s.sb := by unfold raiseTimed; dsimp only; (repeat' split) <;> simp
@[simp] theorem raiseTimed_mm (b : Blk) (i num cls : Nat) (args : List Int) (time : Nat) (s : State) : (raiseTimed b i num cls args time s).mm = s.mm := by unfold raiseTimed; dsimp only; (repeat' split) <;> simp
@[simp] theorem raiseTimed_sl (b : Blk) (i num cls : Nat) (args : List Int) (time : Nat) (s : State) : (raiseTimed b i num cls args time s).sl = s.sl := by unfold raiseTimed; dsimp only; (repeat' split) <;> simp
@[simp] theorem raiseTimed_th (b : Blk) (i num cls : Nat) (args : List Int) (time : Nat) (s : State) : (raiseTimed b i num cls args time s).th = s.th := by unfold raiseTimed; dsimp only; (repeat' split) <;> simp
@[simp] theorem raiseTimed_free (b : Blk) (i num cls : Nat) (args : List Int) (time : Nat) (s : State) : (raiseTimed b i num cls args time s).free = s.free := by unfold raiseTimed; dsimp only; (repeat' split) <;> simp
@[simp] theorem raiseTimed_pending (b : Blk) (i num cls : Nat) (args : List Int) (time : Nat) (s : State) : (raiseTimed b i num cls args time s).pending = s.pending := by unfold raiseTimed; dsimp only; (repeat' split) <;> simp
@[simp] theorem raiseTimed_ch (b : Blk) (i num cls : Nat) (args : List Int) (time : Nat) (s : State) (k_ : Nat) : (raiseTimed b i num cls args time s).ch k_ = s.ch k_ := by simp [State.ch]
@[simp] theorem raiseTimed_mi (b : Blk) (i num cls : Nat) (args : List Int) (time : Nat) (s : State) (k_ : Nat) : (raiseTimed b i num cls args time s).mi k_ = s.mi k_ := by simp [State.mi]
@[simp] theorem raiseTimed_dom (b : Blk) (i num cls : Nat) (args : List Int) (time : Nat) (s : State) (k_ : Nat) : (raiseTimed b i num cls args time s).dom k_ = s.dom k_ := by simp [State.dom]
@[simp] theorem raiseTimed_ring (b : Blk) (i num cls : Nat) (args : List Int) (time : Nat) (s : State) (k_ : Nat) : (raiseTimed b i num cls args time s).ring k_ = s.ring k_ := by simp [State.ring]
@[simp] theorem raiseTimed_ext (b : Blk) (i num cls : Nat) (args : List Int) (time : Nat) (s : State) (k_ : Nat) : (raiseTimed b i num cls args time s).ext k_ = s.ext k_ := by simp [State.ext]
@[simp] theorem raiseTimed_lease (b : Blk) (i num cls : Nat) (args : List Int) (time : Nat) (s : State) (k_ : Nat) : (raiseTimed b i num cls args time s).lease k_ = s.lease k_ := by simp [State.lease]
@[simp] theorem raiseTimed_isOn (b : Blk) (i num cls : Nat) (args : List Int) (time : Nat) (s : State) (k_ : Nat) : (raiseTimed b i num cls args time s).isOn k_ = s.isOn k_ := by simp [State.isOn, State.dom]

/-! ### recordWake -/

@[simp] theorem recordWake_variant (k : Nat) (s : State) : (recordWake k s).variant = s.variant := rfl
@[simp] theorem recordWake_dbgen (k : Nat) (s : State) : (recordWake k s).dbgen = s.dbgen := rfl
@[simp] theorem recordWake_power (k : Nat) (s : State) : (recordWake k s).power = s.power := rfl
@[simp] theorem recordWake_regs (k : Nat) (s : State) : (recordWake k s).regs = s.regs := rfl
@[simp] theorem recordWake_sheet (k : Nat) (s : State) : (recordWake k s).sheet = s.sheet := rfl
@[simp] theorem recordWake_pres (k : Nat) (s : State) : (recordWake k s).pres = s.pres := rfl
@[simp] theorem recordWake_doms (k : Nat) (s : State) : (recordWake k s).doms = s.doms := rfl
@[simp] theorem recordWake_xings (k : Nat) (s : State) : (recordWake k s).xings = s.xings := rfl
@[simp] theorem recordWake_tk (k : Nat) (s : State) : (recordWake k s).tk = s.tk := rfl
@[simp] theorem recordWake_hl (k : Nat) (s : State) : (recordWake k s).hl = s.hl := rfl
@[simp] theorem recordWake_rg (k : Nat) (s : State) : (recordWake k s).rg = s.rg := rfl
@[simp] theorem recordWake_sp (k : Nat) (s : State) : (recordWake k s).sp = s.sp := rfl
@[simp] theorem recordWake_ar (k : Nat) (s : State) : (recordWake k s).ar = s.ar := rfl
@[simp] theorem recordWake_chs (k : Nat) (s : State) : (recordWake k s).chs = s.chs := rfl
@[simp] theorem recordWake_mis (k : Nat) (s : State) : (recordWake k s).mis = s.mis := rfl
@[simp] theorem recordWake_streams (k : Nat) (s : State) : (recordWake k s).streams = s.streams := rfl
@[simp] theorem recordWake_ladder (k : Nat) (s : State) : (recordWake k s).ladder = s.ladder := rfl
@[simp] theorem recordWake_sh (k : Nat) (s : State) : (recordWake k s).sh = s.sh := rfl
@[simp] theorem recordWake_jl (k : Nat) (s : State) : (recordWake k s).jl = s.jl := rfl
@[simp] theorem recordWake_pe (k : Nat) (s : State) : (recordWake k s).pe = s.pe := rfl
@[simp] theorem recordWake_fx (k : Nat) (s : State) : (recordWake k s).fx = s.fx := rfl
@[simp] theorem recordWake_en (k : Nat) (s : State) : (recordWake k s).en = s.en := rfl
@[simp] theorem recordWake_cn (k : Nat) (s : State) : (recordWake k s).cn = s.cn := rfl
@[simp] theorem recordWake_ez (k : Nat) (s : State) : (recordWake k s).ez = s.ez := rfl
@[simp] theorem recordWake_sb (k : Nat) (s : State) : (recordWake k s).sb = s.sb := rfl
@[simp] theorem recordWake_mm (k : Nat) (s : State) : (recordWake k s).mm = s.mm := rfl
@[simp] theorem recordWake_th (k : Nat) (s : State) : (recordWake k s).th = s.th := rfl
@[simp] theorem recordWake_tx (k : Nat) (s : State) : (recordWake k s).tx = s.tx := rfl
@[simp] theorem recordWake_free (k : Nat) (s : State) : (recordWake k s).free = s.free := rfl
@[simp] theorem recordWake_pending (k : Nat) (s : State) : (recordWake k s).pending = s.pending := rfl
@[simp] theorem recordWake_ch (k : Nat) (s : State) (k_ : Nat) : (recordWake k s).ch k_ = s.ch k_ := by simp [State.ch]
@[simp] theorem recordWake_mi (k : Nat) (s : State) (k_ : Nat) : (recordWake k s).mi k_ = s.mi k_ := by simp [State.mi]
@[simp] theorem recordWake_dom (k : Nat) (s : State) (k_ : Nat) : (recordWake k s).dom k_ = s.dom k_ := by simp [State.dom]
@[simp] theorem recordWake_ring (k : Nat) (s : State) (k_ : Nat) : (recordWake k s).ring k_ = s.ring k_ := by simp [State.ring]
@[simp] theorem recordWake_fn (k : Nat) (s : State) (k_ : Nat) : (recordWake k s).fn k_ = s.fn k_ := by simp [State.fn]
@[simp] theorem recordWake_ld (k : Nat) (s : State) (k_ : Nat) : (recordWake k s).ld k_ = s.ld k_ := by simp [State.ld]
@[simp] theorem recordWake_spool (k : Nat) (s : State) (k_ : Nat) : (recordWake k s).spool k_ = s.spool k_ := by simp [State.spool]
@[simp] theorem recordWake_strip (k : Nat) (s : State) (k_ : Nat) : (recordWake k s).strip k_ = s.strip k_ := by simp [State.strip]
@[simp] theorem recordWake_ext (k : Nat) (s : State) (k_ : Nat) : (recordWake k s).ext k_ = s.ext k_ := by simp [State.ext]
@[simp] theorem recordWake_lease (k : Nat) (s : State) (k_ : Nat) : (recordWake k s).lease k_ = s.lease k_ := by simp [State.lease]
@[simp] theorem recordWake_isOn (k : Nat) (s : State) (k_ : Nat) : (recordWake k s).isOn k_ = s.isOn k_ := by simp [State.isOn, State.dom]

/-! ### wakeSource -/

@[simp] theorem wakeSource_variant (k : Nat) (s : State) : (wakeSource k s).variant = s.variant := by unfold wakeSource; (repeat' split) <;> simp
@[simp] theorem wakeSource_dbgen (k : Nat) (s : State) : (wakeSource k s).dbgen = s.dbgen := by unfold wakeSource; (repeat' split) <;> simp
@[simp] theorem wakeSource_power (k : Nat) (s : State) : (wakeSource k s).power = s.power := by unfold wakeSource; (repeat' split) <;> simp
@[simp] theorem wakeSource_regs (k : Nat) (s : State) : (wakeSource k s).regs = s.regs := by unfold wakeSource; (repeat' split) <;> simp
@[simp] theorem wakeSource_sheet (k : Nat) (s : State) : (wakeSource k s).sheet = s.sheet := by unfold wakeSource; (repeat' split) <;> simp
@[simp] theorem wakeSource_pres (k : Nat) (s : State) : (wakeSource k s).pres = s.pres := by unfold wakeSource; (repeat' split) <;> simp
@[simp] theorem wakeSource_doms (k : Nat) (s : State) : (wakeSource k s).doms = s.doms := by unfold wakeSource; (repeat' split) <;> simp
@[simp] theorem wakeSource_xings (k : Nat) (s : State) : (wakeSource k s).xings = s.xings := by unfold wakeSource; (repeat' split) <;> simp
@[simp] theorem wakeSource_tk (k : Nat) (s : State) : (wakeSource k s).tk = s.tk := by unfold wakeSource; (repeat' split) <;> simp
@[simp] theorem wakeSource_hl (k : Nat) (s : State) : (wakeSource k s).hl = s.hl := by unfold wakeSource; (repeat' split) <;> simp
@[simp] theorem wakeSource_rg (k : Nat) (s : State) : (wakeSource k s).rg = s.rg := by unfold wakeSource; (repeat' split) <;> simp
@[simp] theorem wakeSource_sp (k : Nat) (s : State) : (wakeSource k s).sp = s.sp := by unfold wakeSource; (repeat' split) <;> simp
@[simp] theorem wakeSource_ar (k : Nat) (s : State) : (wakeSource k s).ar = s.ar := by unfold wakeSource; (repeat' split) <;> simp
@[simp] theorem wakeSource_chs (k : Nat) (s : State) : (wakeSource k s).chs = s.chs := by unfold wakeSource; (repeat' split) <;> simp
@[simp] theorem wakeSource_mis (k : Nat) (s : State) : (wakeSource k s).mis = s.mis := by unfold wakeSource; (repeat' split) <;> simp
@[simp] theorem wakeSource_streams (k : Nat) (s : State) : (wakeSource k s).streams = s.streams := by unfold wakeSource; (repeat' split) <;> simp
@[simp] theorem wakeSource_ladder (k : Nat) (s : State) : (wakeSource k s).ladder = s.ladder := by unfold wakeSource; (repeat' split) <;> simp
@[simp] theorem wakeSource_sh (k : Nat) (s : State) : (wakeSource k s).sh = s.sh := by unfold wakeSource; (repeat' split) <;> simp
@[simp] theorem wakeSource_jl (k : Nat) (s : State) : (wakeSource k s).jl = s.jl := by unfold wakeSource; (repeat' split) <;> simp
@[simp] theorem wakeSource_pe (k : Nat) (s : State) : (wakeSource k s).pe = s.pe := by unfold wakeSource; (repeat' split) <;> simp
@[simp] theorem wakeSource_fx (k : Nat) (s : State) : (wakeSource k s).fx = s.fx := by unfold wakeSource; (repeat' split) <;> simp
@[simp] theorem wakeSource_en (k : Nat) (s : State) : (wakeSource k s).en = s.en := by unfold wakeSource; (repeat' split) <;> simp
@[simp] theorem wakeSource_cn (k : Nat) (s : State) : (wakeSource k s).cn = s.cn := by unfold wakeSource; (repeat' split) <;> simp
@[simp] theorem wakeSource_ez (k : Nat) (s : State) : (wakeSource k s).ez = s.ez := by unfold wakeSource; (repeat' split) <;> simp
@[simp] theorem wakeSource_sb (k : Nat) (s : State) : (wakeSource k s).sb = s.sb := by unfold wakeSource; (repeat' split) <;> simp
@[simp] theorem wakeSource_mm (k : Nat) (s : State) : (wakeSource k s).mm = s.mm := by unfold wakeSource; (repeat' split) <;> simp
@[simp] theorem wakeSource_th (k : Nat) (s : State) : (wakeSource k s).th = s.th := by unfold wakeSource; (repeat' split) <;> simp
@[simp] theorem wakeSource_tx (k : Nat) (s : State) : (wakeSource k s).tx = s.tx := by unfold wakeSource; (repeat' split) <;> simp
@[simp] theorem wakeSource_free (k : Nat) (s : State) : (wakeSource k s).free = s.free := by unfold wakeSource; (repeat' split) <;> simp
@[simp] theorem wakeSource_pending (k : Nat) (s : State) : (wakeSource k s).pending = s.pending := by unfold wakeSource; (repeat' split) <;> simp
@[simp] theorem wakeSource_ch (k : Nat) (s : State) (k_ : Nat) : (wakeSource k s).ch k_ = s.ch k_ := by simp [State.ch]
@[simp] theorem wakeSource_mi (k : Nat) (s : State) (k_ : Nat) : (wakeSource k s).mi k_ = s.mi k_ := by simp [State.mi]
@[simp] theorem wakeSource_dom (k : Nat) (s : State) (k_ : Nat) : (wakeSource k s).dom k_ = s.dom k_ := by simp [State.dom]
@[simp] theorem wakeSource_ring (k : Nat) (s : State) (k_ : Nat) : (wakeSource k s).ring k_ = s.ring k_ := by simp [State.ring]
@[simp] theorem wakeSource_fn (k : Nat) (s : State) (k_ : Nat) : (wakeSource k s).fn k_ = s.fn k_ := by simp [State.fn]
@[simp] theorem wakeSource_ld (k : Nat) (s : State) (k_ : Nat) : (wakeSource k s).ld k_ = s.ld k_ := by simp [State.ld]
@[simp] theorem wakeSource_spool (k : Nat) (s : State) (k_ : Nat) : (wakeSource k s).spool k_ = s.spool k_ := by simp [State.spool]
@[simp] theorem wakeSource_strip (k : Nat) (s : State) (k_ : Nat) : (wakeSource k s).strip k_ = s.strip k_ := by simp [State.strip]
@[simp] theorem wakeSource_ext (k : Nat) (s : State) (k_ : Nat) : (wakeSource k s).ext k_ = s.ext k_ := by simp [State.ext]
@[simp] theorem wakeSource_lease (k : Nat) (s : State) (k_ : Nat) : (wakeSource k s).lease k_ = s.lease k_ := by simp [State.lease]
@[simp] theorem wakeSource_isOn (k : Nat) (s : State) (k_ : Nat) : (wakeSource k s).isOn k_ = s.isOn k_ := by simp [State.isOn, State.dom]

/-! ### What they change -/

@[simp] theorem putNow_wr_same (k : Nat) (w d : Word) (s : State) : (putNow k w s).wr k d = w := Tab.get_put_same _ _ _ _

@[simp] theorem signal_link (f v : Nat) (s : State) : (signal f v s).hl.link = s.hl.link := by
  unfold signal; dsimp only; split <;> rfl
@[simp] theorem signalSpaced_link (v : Nat) (s : State) : (signalSpaced v s).hl.link = s.hl.link := by
  unfold signalSpaced; dsimp only; split
  · rfl
  · split
    · simp
    · rfl
@[simp] theorem raiseAs_link (b : Blk) (i num cls : Nat) (args : List Int) (src prod : Nat) (s : State) :
    (raiseAs b i num cls args src prod s).hl.link = s.hl.link := by
  unfold raiseAs; split
  · dsimp only; split <;> split <;> simp
  · rfl
@[simp] theorem raise_link (b : Blk) (i num cls : Nat) (args : List Int) (s : State) :
    (raise b i num cls args s).hl.link = s.hl.link := by unfold raise; simp
@[simp] theorem sqRecord_val (k b : Nat) (s : State) : (sqRecord k b s).regs.val = s.regs.val := rfl
@[simp] theorem raiseAs_val (b : Blk) (i num cls : Nat) (args : List Int) (src prod : Nat) (s : State) :
    (raiseAs b i num cls args src prod s).regs.val = s.regs.val := by
  unfold raiseAs; split
  · dsimp only; split <;> split <;> simp
  · rfl
@[simp] theorem raise_val (b : Blk) (i num cls : Nat) (args : List Int) (s : State) :
    (raise b i num cls args s).regs.val = s.regs.val := by unfold raise; simp
@[simp] theorem raise_wr (b : Blk) (i num cls : Nat) (args : List Int) (s : State) (k : Nat) (d : Word) :
    (raise b i num cls args s).wr k d = s.wr k d := by simp [State.wr]
@[simp] theorem raiseAs_cnt (b : Blk) (i num cls : Nat) (args : List Int) (src prod : Nat) (s : State) :
    (raiseAs b i num cls args src prod s).regs.cnt = s.regs.cnt := by
  unfold raiseAs; split
  · dsimp only; split <;> split <;> simp [sqRecord]
  · rfl
@[simp] theorem raise_cnt (b : Blk) (i num cls : Nat) (args : List Int) (s : State) :
    (raise b i num cls args s).regs.cnt = s.regs.cnt := by unfold raise; simp

/-- With main power on, an event that is raised leaves its record on the way to its spool, last of all (R304, R305). -/
theorem raiseAs_making (b : Blk) (i num cls : Nat) (args : List Int) (src prod : Nat) (s : State) (h : s.power = .on) :
    (raiseAs b i num cls args src prod s).sp.making =
      s.sp.making ++ [(prod, mkRec s prod 3 src (b.stamp s i) (eventBody b num cls args 0 0))] := by
  unfold raiseAs
  rw [if_pos h]
  dsimp only [pushRec]
  split <;> split <;> simp [mkRec, streamOf, Blk.stamp, stampOf, localTime, hubTime]

/-- With main power on, an event with a register bit is counted by its SQ register, and its bit carries the count (R82, R83, R304). -/
theorem raiseAs_sq (b : Blk) (i num cls : Nat) (args : List Int) (src prod : Nat) (s : State) (h : s.power = .on) (hn : num < 0x20) :
    (raiseAs b i num cls args src prod s).regs = (sqRecord (b.sqKey i num) num s).regs := by
  unfold raiseAs
  rw [if_pos h]
  dsimp only [pushRec]
  rw [if_pos hn]
  split <;> simp

/-- A counter after a bump: one more, and no more than its limit (R80). -/
theorem bumpBy_cnt (k lim m : Nat) (s : State) : (bumpBy k lim m s).regs.cnt.get k 0 = min lim (s.regs.cnt.get k 0 + m) :=
  Tab.get_put_same _ _ _ _

theorem bumpBy_cnt_other (k lim m j : Nat) (s : State) (h : j ≠ k) : (bumpBy k lim m s).regs.cnt.get j 0 = s.regs.cnt.get j 0 :=
  Tab.get_put_other _ _ _ h

/-! ### Crossings -/

/-- Words offered to a domain that is not ON are discarded and counted, and the crossing stays as it was (R149). -/
theorem offer_off (i j : Nat) (ws : List (Nat × Word)) (s : State) (h : s.isOn j = false) :
    offer i j ws s = bumpBy cntXing 0xFFFFFFFF ws.length s := by simp [offer, h]

/-- Words offered to an ON domain go through the four phases one by one, and no count changes (R147, R150). -/
theorem offer_on (i j : Nat) (ws : List (Nat × Word)) (s : State) (h : s.isOn j = true) :
    offer i j ws s = s.setXing i j (ws.foldl (fun x w => x.cycle w.1 w.2) (s.xing i j)) := by simp [offer, h]

/-- A whole cycle of an idle crossing leaves it idle, with the word and its tag (R147, R148). -/
theorem Crossing.cycle_idle (tag : Nat) (w : Word) (x : Crossing) (hr : x.req = false) (ha : x.ack = false) :
    x.cycle tag w = { x with word := w, tag := BitVec.ofNat 2 tag, req := false, ack := false } := by
  simp [Crossing.cycle, hr, ha, Crossing.raise, Crossing.latch, Crossing.lower, Crossing.finish]

/-! ### Reaching a time -/

/-- Going on to a clock count reaches it at least, whatever slews meanwhile. -/
theorem advanceClk_clk (t : Nat) (s : State) : t ≤ (advanceClk t s).tk.clk := by
  unfold advanceClk advance
  dsimp only
  split
  · omega
  · dsimp only
    split <;> omega

/-- Going on to a Jikan time reaches it, and no more. -/
theorem advanceTo_now (t : Nat) (s : State) : (advanceTo t s).tk.now = max s.tk.now t := by
  simp only [advanceTo, advance]
  omega

/-! ### Folds -/

/-- What each turn of a fold keeps, the fold keeps. -/
theorem foldl_keep {α β γ : Type} (p : α → γ) (f : α → β → α) (h : ∀ a b, p (f a b) = p a) (l : List β) (a : α) :
    p (l.foldl f a) = p a := by
  induction l generalizing a with
  | nil => rfl
  | cons b l ih => rw [List.foldl_cons, ih, h]

/-- What an offer and a use of a free value keep, an offer of words of open tags keeps (R147). -/
theorem offerWords_keep {γ : Type} (p : State → γ) (hs : ∀ s, p (spend s) = p s) (ho : ∀ i j w s, p (offer i j w s) = p s)
    (i j : Nat) (ws : List Word) (s : State) : p (offerWords i j ws s) = p s :=
  foldl_keep p _ (fun a w => by rw [ho, hs]) ws s

end Sys2Proof.Machine
end

