-- ==== Sys2Proof/Laws/Archive.lean ====
section
/-!
SUPPORT. Laws/Archive.lean: reading archive memory after writing it, and that every operation on it keeps its canonical form.
-/
namespace Sys2Proof.Machine

/-! ### Reading after writing -/

@[simp] theorem memGet_put_same (m : List Host.Cell) (a : Nat) (b : Byte) : memGet (memPut m a b) a = b := by
  unfold memGet memPut
  split
  · rename_i h; simp [Tab.get, h]
  · simp

theorem memGet_put_other (m : List Host.Cell) {a k : Nat} (b : Byte) (h : k ≠ a) : memGet (memPut m a b) k = memGet m k := by
  unfold memGet memPut
  split
  · simp [Tab.get, Tab.find_del_other _ h]
  · exact Tab.get_put_other _ _ _ h

/-- A write leaves every byte outside it alone. -/
theorem memGet_write_outside (l : List Byte) (m : List Host.Cell) (a k : Nat) (h : k < a ∨ a + l.length ≤ k) :
    memGet (memWrite m a l) k = memGet m k := by
  induction l generalizing m a with
  | nil => rfl
  | cons b t ih =>
    simp only [List.length_cons] at h
    rw [memWrite, ih _ _ (by omega), memGet_put_other _ _ (by omega)]

/-- A write leaves its own bytes in their places. -/
theorem memGet_write_inside (l : List Byte) (m : List Host.Cell) (a k : Nat) (h : k < l.length) :
    memGet (memWrite m a l) (a + k) = l.getD k 0 := by
  induction l generalizing m a k with
  | nil => simp at h
  | cons b t ih =>
    cases k with
    | zero => rw [memWrite, memGet_write_outside _ _ _ _ (.inl (by omega))]; simp
    | succ k =>
      rw [memWrite, show a + (k + 1) = a + 1 + k by omega, ih _ _ _ (by simpa using h)]; simp

/-! ### The canonical form -/

theorem wf_memPut (m : List Host.Cell) (a : Nat) (b : Byte) (h : Memory.wf m = true) : Memory.wf (memPut m a b) = true := by
  unfold memPut
  simp only [Memory.wf, Bool.and_eq_true, List.all_eq_true] at *
  split
  · exact ⟨Tab.rising_del _ _ h.1, fun e he => h.2 e ((Tab.del_sublist _ _).mem he)⟩
  · refine ⟨Tab.rising_put _ _ _ h.1, fun e he => ?_⟩
    rcases Tab.mem_put _ _ _ _ he with rfl | he
    · simpa using ‹_›
    · exact h.2 e he

theorem wf_memWrite (l : List Byte) (m : List Host.Cell) (a : Nat) (h : Memory.wf m = true) : Memory.wf (memWrite m a l) = true := by
  induction l generalizing m a with
  | nil => exact h
  | cons b t ih => exact ih _ _ (wf_memPut _ _ _ h)

/-- Zeroing an extent keeps the bytes outside it only. -/
theorem wf_keep (m : List Host.Cell) (p : Nat → Bool) (h : Memory.wf m = true) : Memory.wf (Tab.keep m p) = true := by
  simp only [Memory.wf, Bool.and_eq_true, List.all_eq_true] at *
  exact ⟨Tab.rising_keep _ _ h.1, fun e he => h.2 e (List.mem_filter.mp he).1⟩

theorem wf_arPut (a : Nat) (l : List Byte) (s : State) (h : Memory.wf s.ar.mem = true) : Memory.wf (arPut a l s).ar.mem = true :=
  wf_memWrite _ _ _ h

theorem wf_reset : Memory.wf State.reset.ar.mem = true := rfl

end Sys2Proof.Machine
end

