-- ==== Sys2Proof/Laws/Complete.lean ====
section
/-!
SUPPORT. Laws/Complete.lean: what the operations by which a ring command begins and ends do to the ring, each said once.
-/
namespace Sys2Proof.Machine

@[simp] theorem setRing_same (s : State) (r : Nat) (x : Ring) : (s.setRing r x).ring r = x := by simp [State.ring, State.setRing]

theorem setRing_other (s : State) {r q : Nat} (x : Ring) (h : q ≠ r) : (s.setRing r x).ring q = s.ring q := by
  simp only [State.ring, State.setRing]; exact Tab.get_put_other _ _ _ h

@[simp] theorem setRing_hl (s : State) (r : Nat) (x : Ring) : (s.setRing r x).hl = s.hl := rfl
@[simp] theorem setRing_tk (s : State) (r : Nat) (x : Ring) : (s.setRing r x).tk = s.tk := rfl

/-- A stage is put into the descriptor in execution, and nothing else of it changes. -/
theorem setStage_stage (r : Nat) (g : Stage) (s : State) (e : Exec) (h : (s.ring r).exec = some e) :
    ((setStage r g s).ring r).exec = some { e with stage := g } := by
  simp [setStage, h]

/-- A ring whose turn it is begins the descriptor at its head where that has the command's opcode. -/
theorem begin_of_begins (r op : Nat) (d : List Byte) (k : List Byte → State → State) (s : State) (h : Begins s r d op) :
    ∃ c rest, (s.ring r).fetched = (c, d) :: rest ∧
      begin_ r op k s =
        k d { s.setRing r { s.ring r with fetched := rest, exec := some { d, count := c } } with
          rg := { (s.setRing r { s.ring r with fetched := rest, exec := some { d, count := c } }).rg with last := r } } := by
  have h1 := h.turn.head
  cases hf : (s.ring r).fetched with
  | nil => rw [hf] at h1; cases h1
  | cons x rest =>
    obtain ⟨c, d'⟩ := x
    rw [hf] at h1
    cases h1
    refine ⟨c, rest, rfl, ?_⟩
    simp only [begin_, h.turn.next, hf, h.op, if_true]

/-- A command that is not this ring's to begin does nothing. -/
theorem begin_of_not_next (r op : Nat) (k : List Byte → State → State) (s : State) (h : nextRing s ≠ some r) : begin_ r op k s = s := by
  simp [begin_, h]

@[simp] theorem makeEcho_rg (r : Nat) (c : Cpl) (p : Bool) (s : State) : (makeEcho r c p s).rg = s.rg := by simp [makeEcho]
@[simp] theorem makeEcho_hl (r : Nat) (c : Cpl) (p : Bool) (s : State) : (makeEcho r c p s).hl = s.hl := by simp [makeEcho]

theorem ring_of_rg {s t : State} (h : t.rg = s.rg) (r : Nat) : t.ring r = s.ring r := by simp [State.ring, h]

/-- A ring that settles has nothing in execution if it had nothing. -/
theorem ringSettle_exec (r : Nat) (s : State) (h : (s.ring r).exec = none) : ((ringSettle r s).ring r).exec = none := by
  unfold ringSettle
  dsimp only
  split
  · split
    · simp [ringEnable]
    · simp [h]
  · exact h

@[simp] theorem ringSettle_hl (r : Nat) (s : State) : (ringSettle r s).hl = s.hl := by
  unfold ringSettle ringEnable
  dsimp only
  split
  · split <;> rfl
  · rfl

/-- A completion that is lost leaves nothing in execution. -/
theorem loseCompletion_exec (r : Nat) (s : State) (h : (s.ring r).exec = none) : ((loseCompletion r s).ring r).exec = none := by
  unfold loseCompletion
  dsimp only
  split
  · exact h
  · apply ringSettle_exec
    rw [ring_of_rg (makeEcho_rg _ _ _ _), ring_of_rg (raise_rg _ _ _ _ _ _)]
    exact (congrArg Ring.exec (setRing_same s r _)).trans h

@[simp] theorem loseCompletion_link (r : Nat) (s : State) : (loseCompletion r s).hl.link = s.hl.link := by
  unfold loseCompletion
  dsimp only
  split
  · rfl
  · simp

/-- The completion that waits is still there once CQ_FULL has been raised, and nothing comes into execution. -/
theorem cqCheck_ring (r : Nat) (s : State) :
    ((cqCheck r s).ring r).cpl = (s.ring r).cpl ∧ ((cqCheck r s).ring r).exec = (s.ring r).exec := by
  unfold cqCheck
  dsimp only
  split
  · rw [ring_of_rg (raise_rg _ _ _ _ _ _)]; simp
  · exact ⟨rfl, rfl⟩

@[simp] theorem cqCheck_link (r : Nat) (s : State) : (cqCheck r s).hl.link = s.hl.link := by
  unfold cqCheck
  dsimp only
  split
  · simp
  · rfl

/-- A completion waits on its ring with the link up, and is lost with the link down. -/
theorem waits_or_lost (r : Nat) (s : State) (c : Cpl) (hx : (s.ring r).exec = none) (hc : (s.ring r).cpl = some c) :
    ((if s.hl.link = .up then cqCheck r s else loseCompletion r s).ring r).exec = none ∧
      ((if s.hl.link = .up then cqCheck r s else loseCompletion r s).hl.link = .up →
        ((if s.hl.link = .up then cqCheck r s else loseCompletion r s).ring r).cpl = some c) := by
  by_cases hl : s.hl.link = .up
  · simp only [if_pos hl]
    exact ⟨(cqCheck_ring r s).2.trans hx, fun _ => (cqCheck_ring r s).1.trans hc⟩
  · simp only [if_neg hl, loseCompletion_link]
    exact ⟨loseCompletion_exec _ _ hx, fun h => absurd h hl⟩

/-- A descriptor in execution that completes is done, with the status and RESULT it completes with. -/
theorem complete_done (r : Nat) (st : Status) (result detail : Nat) (s : State) (e : Exec) (h : (s.ring r).exec = some e) :
    Done (complete r st result detail s) r e.d st result := by
  unfold complete
  simp only [h]
  split
  · rename_i hs
    simp only [Bool.and_eq_true, beq_iff_eq] at hs
    refine ⟨ringSettle_exec _ _ ?_, fun _ hd => ?_⟩
    · rw [ring_of_rg (makeEcho_rg _ _ _ _)]; simp
    · rcases hd with hd | hd
      · rw [hs.1] at hd; cases hd
      · exact absurd hs.2 hd
  · exact ⟨(waits_or_lost r _ _ (by rw [setRing_same]) (by rw [setRing_same])).1,
      fun hu _ => ⟨_, (waits_or_lost r _ _ (by rw [setRing_same]) (by rw [setRing_same])).2 hu, rfl, rfl, rfl⟩⟩

/-! ### DMA turns (R327) -/

@[simp] theorem dmaCount_variant (c k : Nat) (s : State) : (dmaCount c k s).variant = s.variant := rfl
@[simp] theorem dmaCount_dbgen (c k : Nat) (s : State) : (dmaCount c k s).dbgen = s.dbgen := rfl
@[simp] theorem dmaCount_power (c k : Nat) (s : State) : (dmaCount c k s).power = s.power := rfl
@[simp] theorem dmaCount_regs (c k : Nat) (s : State) : (dmaCount c k s).regs = s.regs := rfl
@[simp] theorem dmaCount_sheet (c k : Nat) (s : State) : (dmaCount c k s).sheet = s.sheet := rfl
@[simp] theorem dmaCount_pres (c k : Nat) (s : State) : (dmaCount c k s).pres = s.pres := rfl
@[simp] theorem dmaCount_doms (c k : Nat) (s : State) : (dmaCount c k s).doms = s.doms := rfl
@[simp] theorem dmaCount_xings (c k : Nat) (s : State) : (dmaCount c k s).xings = s.xings := rfl
@[simp] theorem dmaCount_tk (c k : Nat) (s : State) : (dmaCount c k s).tk = s.tk := rfl
@[simp] theorem dmaCount_rg (c k : Nat) (s : State) : (dmaCount c k s).rg = s.rg := rfl
@[simp] theorem dmaCount_sp (c k : Nat) (s : State) : (dmaCount c k s).sp = s.sp := rfl
@[simp] theorem dmaCount_ar (c k : Nat) (s : State) : (dmaCount c k s).ar = s.ar := rfl
@[simp] theorem dmaCount_chs (c k : Nat) (s : State) : (dmaCount c k s).chs = s.chs := rfl
@[simp] theorem dmaCount_mis (c k : Nat) (s : State) : (dmaCount c k s).mis = s.mis := rfl
@[simp] theorem dmaCount_streams (c k : Nat) (s : State) : (dmaCount c k s).streams = s.streams := rfl
@[simp] theorem dmaCount_ladder (c k : Nat) (s : State) : (dmaCount c k s).ladder = s.ladder := rfl
@[simp] theorem dmaCount_sh (c k : Nat) (s : State) : (dmaCount c k s).sh = s.sh := rfl
@[simp] theorem dmaCount_jl (c k : Nat) (s : State) : (dmaCount c k s).jl = s.jl := rfl
@[simp] theorem dmaCount_pe (c k : Nat) (s : State) : (dmaCount c k s).pe = s.pe := rfl
@[simp] theorem dmaCount_fx (c k : Nat) (s : State) : (dmaCount c k s).fx = s.fx := rfl
@[simp] theorem dmaCount_en (c k : Nat) (s : State) : (dmaCount c k s).en = s.en := rfl
@[simp] theorem dmaCount_cn (c k : Nat) (s : State) : (dmaCount c k s).cn = s.cn := rfl
@[simp] theorem dmaCount_ez (c k : Nat) (s : State) : (dmaCount c k s).ez = s.ez := rfl
@[simp] theorem dmaCount_sb (c k : Nat) (s : State) : (dmaCount c k s).sb = s.sb := rfl
@[simp] theorem dmaCount_mm (c k : Nat) (s : State) : (dmaCount c k s).mm = s.mm := rfl
@[simp] theorem dmaCount_sl (c k : Nat) (s : State) : (dmaCount c k s).sl = s.sl := rfl
@[simp] theorem dmaCount_th (c k : Nat) (s : State) : (dmaCount c k s).th = s.th := rfl
@[simp] theorem dmaCount_tx (c k : Nat) (s : State) : (dmaCount c k s).tx = s.tx := rfl
@[simp] theorem dmaCount_free (c k : Nat) (s : State) : (dmaCount c k s).free = s.free := rfl
@[simp] theorem dmaCount_pending (c k : Nat) (s : State) : (dmaCount c k s).pending = s.pending := rfl
@[simp] theorem dmaCount_ch (c k : Nat) (s : State) : (dmaCount c k s).ch = s.ch := rfl
@[simp] theorem dmaCount_mi (c k : Nat) (s : State) : (dmaCount c k s).mi = s.mi := rfl
@[simp] theorem dmaCount_dom (c k : Nat) (s : State) : (dmaCount c k s).dom = s.dom := rfl
@[simp] theorem dmaCount_ring (c k : Nat) (s : State) : (dmaCount c k s).ring = s.ring := rfl
@[simp] theorem dmaCount_spool (c k : Nat) (s : State) : (dmaCount c k s).spool = s.spool := rfl
@[simp] theorem dmaCount_strip (c k : Nat) (s : State) : (dmaCount c k s).strip = s.strip := rfl
@[simp] theorem dmaCount_ext (c k : Nat) (s : State) : (dmaCount c k s).ext = s.ext := rfl
@[simp] theorem dmaCount_lease (c k : Nat) (s : State) : (dmaCount c k s).lease = s.lease := rfl
@[simp] theorem dmaCount_isOn (c k : Nat) (s : State) : (dmaCount c k s).isOn = s.isOn := rfl

end Sys2Proof.Machine
end

