-- ==== Sys2Proof/Laws/LineCode.lean ====
section
/-!
SUPPORT. Laws/LineCode.lean: the line code of Jikanlink (R534): a receiver at the sender's running disparity reads each code-group as the
symbol it was sent for.
-/
namespace Sys2Proof.Machine

set_option maxRecDepth 100000 in
/-- Every data byte comes back, at either running disparity. -/
theorem decodeSym_encodeSym_data (rd : Bool) (b : Byte) : decodeSym rd (encodeSym rd (.data b)) = some (.data b) := by
  have all : ∀ rd : Bool, ∀ n : Fin 256, decodeSym rd (encodeSym rd (.data (BitVec.ofFin n))) = some (.data (BitVec.ofFin n)) := by
    decide +kernel
  exact all rd b.toFin

/-- Every symbol comes back. -/
theorem decodeSym_encodeSym (rd : Bool) (y : LineSym) : decodeSym rd (encodeSym rd y) = some y := by
  cases y with
  | data b => exact decodeSym_encodeSym_data rd b
  | cellStart => cases rd <;> decide
  | guardMark => cases rd <;> decide
  | comma => cases rd <;> decide

/-- Symbols sent one after the other: the first's code-group, then the others from the disparity it leaves. -/
theorem sendSyms_cons (rd : Bool) (y : LineSym) (l : List LineSym) :
    sendSyms rd (y :: l) = (encodeSym rd y :: (sendSyms (rdAfterGroup rd (encodeSym rd y)) l).1,
      (sendSyms (rdAfterGroup rd (encodeSym rd y)) l).2) := by
  have acc : ∀ (l : List LineSym) (g : List CodeGroup) (rd : Bool),
      l.foldl (fun a y => let h := encodeSym a.2 y; (a.1 ++ [h], rdAfterGroup a.2 h)) (g, rd) =
        (g ++ (sendSyms rd l).1, (sendSyms rd l).2) := by
    intro l
    induction l with
    | nil => intro g rd; simp [sendSyms]
    | cons z l ih =>
      intro g rd
      have e : sendSyms rd (z :: l) = ([encodeSym rd z] ++ (sendSyms (rdAfterGroup rd (encodeSym rd z)) l).1,
        (sendSyms (rdAfterGroup rd (encodeSym rd z)) l).2) := ih [encodeSym rd z] _
      rw [List.foldl_cons, e]
      exact (ih (g ++ [encodeSym rd z]) _).trans (by rw [List.append_assoc])
  exact acc l [encodeSym rd y] _

end Sys2Proof.Machine
end

