-- ==== Sys2Proof/Laws/Places.lean ====
section
/-!
SUPPORT. Laws/Places.lean: the places of the blocks (fixture buses, encoders, ports, shutter and print channels, valves, switches and inputs of
the field die): what an update of one changes and leaves alone, one lemma per field.
-/
namespace Sys2Proof.Machine

/-! ### setCan -/

@[simp] theorem State.setCan_variant (s : State) (b : Nat) (x : CanBus) : (s.setCan b x).variant = s.variant := rfl
@[simp] theorem State.setCan_dbgen (s : State) (b : Nat) (x : CanBus) : (s.setCan b x).dbgen = s.dbgen := rfl
@[simp] theorem State.setCan_power (s : State) (b : Nat) (x : CanBus) : (s.setCan b x).power = s.power := rfl
@[simp] theorem State.setCan_regs (s : State) (b : Nat) (x : CanBus) : (s.setCan b x).regs = s.regs := rfl
@[simp] theorem State.setCan_sheet (s : State) (b : Nat) (x : CanBus) : (s.setCan b x).sheet = s.sheet := rfl
@[simp] theorem State.setCan_pres (s : State) (b : Nat) (x : CanBus) : (s.setCan b x).pres = s.pres := rfl
@[simp] theorem State.setCan_doms (s : State) (b : Nat) (x : CanBus) : (s.setCan b x).doms = s.doms := rfl
@[simp] theorem State.setCan_xings (s : State) (b : Nat) (x : CanBus) : (s.setCan b x).xings = s.xings := rfl
@[simp] theorem State.setCan_tk (s : State) (b : Nat) (x : CanBus) : (s.setCan b x).tk = s.tk := rfl
@[simp] theorem State.setCan_hl (s : State) (b : Nat) (x : CanBus) : (s.setCan b x).hl = s.hl := rfl
@[simp] theorem State.setCan_rg (s : State) (b : Nat) (x : CanBus) : (s.setCan b x).rg = s.rg := rfl
@[simp] theorem State.setCan_sp (s : State) (b : Nat) (x : CanBus) : (s.setCan b x).sp = s.sp := rfl
@[simp] theorem State.setCan_ar (s : State) (b : Nat) (x : CanBus) : (s.setCan b x).ar = s.ar := rfl
@[simp] theorem State.setCan_chs (s : State) (b : Nat) (x : CanBus) : (s.setCan b x).chs = s.chs := rfl
@[simp] theorem State.setCan_mis (s : State) (b : Nat) (x : CanBus) : (s.setCan b x).mis = s.mis := rfl
@[simp] theorem State.setCan_streams (s : State) (b : Nat) (x : CanBus) : (s.setCan b x).streams = s.streams := rfl
@[simp] theorem State.setCan_ladder (s : State) (b : Nat) (x : CanBus) : (s.setCan b x).ladder = s.ladder := rfl
@[simp] theorem State.setCan_sh (s : State) (b : Nat) (x : CanBus) : (s.setCan b x).sh = s.sh := rfl
@[simp] theorem State.setCan_jl (s : State) (b : Nat) (x : CanBus) : (s.setCan b x).jl = s.jl := rfl
@[simp] theorem State.setCan_pe (s : State) (b : Nat) (x : CanBus) : (s.setCan b x).pe = s.pe := rfl
@[simp] theorem State.setCan_fx (s : State) (b : Nat) (x : CanBus) : (s.setCan b x).fx = s.fx := rfl
@[simp] theorem State.setCan_en (s : State) (b : Nat) (x : CanBus) : (s.setCan b x).en = s.en := rfl
@[simp] theorem State.setCan_ez (s : State) (b : Nat) (x : CanBus) : (s.setCan b x).ez = s.ez := rfl
@[simp] theorem State.setCan_sb (s : State) (b : Nat) (x : CanBus) : (s.setCan b x).sb = s.sb := rfl
@[simp] theorem State.setCan_mm (s : State) (b : Nat) (x : CanBus) : (s.setCan b x).mm = s.mm := rfl
@[simp] theorem State.setCan_sl (s : State) (b : Nat) (x : CanBus) : (s.setCan b x).sl = s.sl := rfl
@[simp] theorem State.setCan_th (s : State) (b : Nat) (x : CanBus) : (s.setCan b x).th = s.th := rfl
@[simp] theorem State.setCan_tx (s : State) (b : Nat) (x : CanBus) : (s.setCan b x).tx = s.tx := rfl
@[simp] theorem State.setCan_free (s : State) (b : Nat) (x : CanBus) : (s.setCan b x).free = s.free := rfl
@[simp] theorem State.setCan_pending (s : State) (b : Nat) (x : CanBus) : (s.setCan b x).pending = s.pending := rfl
@[simp] theorem State.setCan_same (s : State) (b : Nat) (x : CanBus) : (s.setCan b x).can b = x := Tab.get_put_same _ _ _ _
theorem State.setCan_other (s : State) (b : Nat) (x : CanBus) (k_ : Nat) (h : k_ ≠ b) : (s.setCan b x).can k_ = s.can k_ := Tab.get_put_other _ _ _ h
@[simp] theorem State.setCan_enc (s : State) (b : Nat) (x : CanBus) (k_ : Nat) : (s.setCan b x).enc k_ = s.enc k_ := rfl
@[simp] theorem State.setCan_port (s : State) (b : Nat) (x : CanBus) (k_ : Nat) : (s.setCan b x).port k_ = s.port k_ := rfl
@[simp] theorem State.setCan_shc (s : State) (b : Nat) (x : CanBus) (k_ : Nat) : (s.setCan b x).shc k_ = s.shc k_ := rfl
@[simp] theorem State.setCan_valve (s : State) (b : Nat) (x : CanBus) (k_ : Nat) : (s.setCan b x).valve k_ = s.valve k_ := rfl
@[simp] theorem State.setCan_sw (s : State) (b : Nat) (x : CanBus) (k_ : Nat) : (s.setCan b x).sw k_ = s.sw k_ := rfl
@[simp] theorem State.setCan_inputOf (s : State) (b : Nat) (x : CanBus) (k_ : Nat) : (s.setCan b x).inputOf k_ = s.inputOf k_ := rfl

/-! ### setEnc -/

@[simp] theorem State.setEnc_variant (s : State) (n : Nat) (x : Encoder) : (s.setEnc n x).variant = s.variant := rfl
@[simp] theorem State.setEnc_dbgen (s : State) (n : Nat) (x : Encoder) : (s.setEnc n x).dbgen = s.dbgen := rfl
@[simp] theorem State.setEnc_power (s : State) (n : Nat) (x : Encoder) : (s.setEnc n x).power = s.power := rfl
@[simp] theorem State.setEnc_regs (s : State) (n : Nat) (x : Encoder) : (s.setEnc n x).regs = s.regs := rfl
@[simp] theorem State.setEnc_sheet (s : State) (n : Nat) (x : Encoder) : (s.setEnc n x).sheet = s.sheet := rfl
@[simp] theorem State.setEnc_pres (s : State) (n : Nat) (x : Encoder) : (s.setEnc n x).pres = s.pres := rfl
@[simp] theorem State.setEnc_doms (s : State) (n : Nat) (x : Encoder) : (s.setEnc n x).doms = s.doms := rfl
@[simp] theorem State.setEnc_xings (s : State) (n : Nat) (x : Encoder) : (s.setEnc n x).xings = s.xings := rfl
@[simp] theorem State.setEnc_tk (s : State) (n : Nat) (x : Encoder) : (s.setEnc n x).tk = s.tk := rfl
@[simp] theorem State.setEnc_hl (s : State) (n : Nat) (x : Encoder) : (s.setEnc n x).hl = s.hl := rfl
@[simp] theorem State.setEnc_rg (s : State) (n : Nat) (x : Encoder) : (s.setEnc n x).rg = s.rg := rfl
@[simp] theorem State.setEnc_sp (s : State) (n : Nat) (x : Encoder) : (s.setEnc n x).sp = s.sp := rfl
@[simp] theorem State.setEnc_ar (s : State) (n : Nat) (x : Encoder) : (s.setEnc n x).ar = s.ar := rfl
@[simp] theorem State.setEnc_chs (s : State) (n : Nat) (x : Encoder) : (s.setEnc n x).chs = s.chs := rfl
@[simp] theorem State.setEnc_mis (s : State) (n : Nat) (x : Encoder) : (s.setEnc n x).mis = s.mis := rfl
@[simp] theorem State.setEnc_streams (s : State) (n : Nat) (x : Encoder) : (s.setEnc n x).streams = s.streams := rfl
@[simp] theorem State.setEnc_ladder (s : State) (n : Nat) (x : Encoder) : (s.setEnc n x).ladder = s.ladder := rfl
@[simp] theorem State.setEnc_sh (s : State) (n : Nat) (x : Encoder) : (s.setEnc n x).sh = s.sh := rfl
@[simp] theorem State.setEnc_jl (s : State) (n : Nat) (x : Encoder) : (s.setEnc n x).jl = s.jl := rfl
@[simp] theorem State.setEnc_pe (s : State) (n : Nat) (x : Encoder) : (s.setEnc n x).pe = s.pe := rfl
@[simp] theorem State.setEnc_fx (s : State) (n : Nat) (x : Encoder) : (s.setEnc n x).fx = s.fx := rfl
@[simp] theorem State.setEnc_cn (s : State) (n : Nat) (x : Encoder) : (s.setEnc n x).cn = s.cn := rfl
@[simp] theorem State.setEnc_ez (s : State) (n : Nat) (x : Encoder) : (s.setEnc n x).ez = s.ez := rfl
@[simp] theorem State.setEnc_sb (s : State) (n : Nat) (x : Encoder) : (s.setEnc n x).sb = s.sb := rfl
@[simp] theorem State.setEnc_mm (s : State) (n : Nat) (x : Encoder) : (s.setEnc n x).mm = s.mm := rfl
@[simp] theorem State.setEnc_sl (s : State) (n : Nat) (x : Encoder) : (s.setEnc n x).sl = s.sl := rfl
@[simp] theorem State.setEnc_th (s : State) (n : Nat) (x : Encoder) : (s.setEnc n x).th = s.th := rfl
@[simp] theorem State.setEnc_tx (s : State) (n : Nat) (x : Encoder) : (s.setEnc n x).tx = s.tx := rfl
@[simp] theorem State.setEnc_free (s : State) (n : Nat) (x : Encoder) : (s.setEnc n x).free = s.free := rfl
@[simp] theorem State.setEnc_pending (s : State) (n : Nat) (x : Encoder) : (s.setEnc n x).pending = s.pending := rfl
@[simp] theorem State.setEnc_same (s : State) (n : Nat) (x : Encoder) : (s.setEnc n x).enc n = x := Tab.get_put_same _ _ _ _
theorem State.setEnc_other (s : State) (n : Nat) (x : Encoder) (k_ : Nat) (h : k_ ≠ n) : (s.setEnc n x).enc k_ = s.enc k_ := Tab.get_put_other _ _ _ h
@[simp] theorem State.setEnc_can (s : State) (n : Nat) (x : Encoder) (k_ : Nat) : (s.setEnc n x).can k_ = s.can k_ := rfl
@[simp] theorem State.setEnc_port (s : State) (n : Nat) (x : Encoder) (k_ : Nat) : (s.setEnc n x).port k_ = s.port k_ := rfl
@[simp] theorem State.setEnc_shc (s : State) (n : Nat) (x : Encoder) (k_ : Nat) : (s.setEnc n x).shc k_ = s.shc k_ := rfl
@[simp] theorem State.setEnc_valve (s : State) (n : Nat) (x : Encoder) (k_ : Nat) : (s.setEnc n x).valve k_ = s.valve k_ := rfl
@[simp] theorem State.setEnc_sw (s : State) (n : Nat) (x : Encoder) (k_ : Nat) : (s.setEnc n x).sw k_ = s.sw k_ := rfl
@[simp] theorem State.setEnc_inputOf (s : State) (n : Nat) (x : Encoder) (k_ : Nat) : (s.setEnc n x).inputOf k_ = s.inputOf k_ := rfl

/-! ### setPort -/

@[simp] theorem State.setPort_variant (s : State) (p : Nat) (x : Port) : (s.setPort p x).variant = s.variant := rfl
@[simp] theorem State.setPort_dbgen (s : State) (p : Nat) (x : Port) : (s.setPort p x).dbgen = s.dbgen := rfl
@[simp] theorem State.setPort_power (s : State) (p : Nat) (x : Port) : (s.setPort p x).power = s.power := rfl
@[simp] theorem State.setPort_regs (s : State) (p : Nat) (x : Port) : (s.setPort p x).regs = s.regs := rfl
@[simp] theorem State.setPort_sheet (s : State) (p : Nat) (x : Port) : (s.setPort p x).sheet = s.sheet := rfl
@[simp] theorem State.setPort_pres (s : State) (p : Nat) (x : Port) : (s.setPort p x).pres = s.pres := rfl
@[simp] theorem State.setPort_doms (s : State) (p : Nat) (x : Port) : (s.setPort p x).doms = s.doms := rfl
@[simp] theorem State.setPort_xings (s : State) (p : Nat) (x : Port) : (s.setPort p x).xings = s.xings := rfl
@[simp] theorem State.setPort_tk (s : State) (p : Nat) (x : Port) : (s.setPort p x).tk = s.tk := rfl
@[simp] theorem State.setPort_hl (s : State) (p : Nat) (x : Port) : (s.setPort p x).hl = s.hl := rfl
@[simp] theorem State.setPort_rg (s : State) (p : Nat) (x : Port) : (s.setPort p x).rg = s.rg := rfl
@[simp] theorem State.setPort_sp (s : State) (p : Nat) (x : Port) : (s.setPort p x).sp = s.sp := rfl
@[simp] theorem State.setPort_ar (s : State) (p : Nat) (x : Port) : (s.setPort p x).ar = s.ar := rfl
@[simp] theorem State.setPort_chs (s : State) (p : Nat) (x : Port) : (s.setPort p x).chs = s.chs := rfl
@[simp] theorem State.setPort_mis (s : State) (p : Nat) (x : Port) : (s.setPort p x).mis = s.mis := rfl
@[simp] theorem State.setPort_streams (s : State) (p : Nat) (x : Port) : (s.setPort p x).streams = s.streams := rfl
@[simp] theorem State.setPort_ladder (s : State) (p : Nat) (x : Port) : (s.setPort p x).ladder = s.ladder := rfl
@[simp] theorem State.setPort_sh (s : State) (p : Nat) (x : Port) : (s.setPort p x).sh = s.sh := rfl
@[simp] theorem State.setPort_pe (s : State) (p : Nat) (x : Port) : (s.setPort p x).pe = s.pe := rfl
@[simp] theorem State.setPort_fx (s : State) (p : Nat) (x : Port) : (s.setPort p x).fx = s.fx := rfl
@[simp] theorem State.setPort_en (s : State) (p : Nat) (x : Port) : (s.setPort p x).en = s.en := rfl
@[simp] theorem State.setPort_cn (s : State) (p : Nat) (x : Port) : (s.setPort p x).cn = s.cn := rfl
@[simp] theorem State.setPort_ez (s : State) (p : Nat) (x : Port) : (s.setPort p x).ez = s.ez := rfl
@[simp] theorem State.setPort_sb (s : State) (p : Nat) (x : Port) : (s.setPort p x).sb = s.sb := rfl
@[simp] theorem State.setPort_mm (s : State) (p : Nat) (x : Port) : (s.setPort p x).mm = s.mm := rfl
@[simp] theorem State.setPort_sl (s : State) (p : Nat) (x : Port) : (s.setPort p x).sl = s.sl := rfl
@[simp] theorem State.setPort_th (s : State) (p : Nat) (x : Port) : (s.setPort p x).th = s.th := rfl
@[simp] theorem State.setPort_tx (s : State) (p : Nat) (x : Port) : (s.setPort p x).tx = s.tx := rfl
@[simp] theorem State.setPort_free (s : State) (p : Nat) (x : Port) : (s.setPort p x).free = s.free := rfl
@[simp] theorem State.setPort_pending (s : State) (p : Nat) (x : Port) : (s.setPort p x).pending = s.pending := rfl
@[simp] theorem State.setPort_same (s : State) (p : Nat) (x : Port) : (s.setPort p x).port p = x := Tab.get_put_same _ _ _ _
theorem State.setPort_other (s : State) (p : Nat) (x : Port) (k_ : Nat) (h : k_ ≠ p) : (s.setPort p x).port k_ = s.port k_ := Tab.get_put_other _ _ _ h
@[simp] theorem State.setPort_can (s : State) (p : Nat) (x : Port) (k_ : Nat) : (s.setPort p x).can k_ = s.can k_ := rfl
@[simp] theorem State.setPort_enc (s : State) (p : Nat) (x : Port) (k_ : Nat) : (s.setPort p x).enc k_ = s.enc k_ := rfl
@[simp] theorem State.setPort_shc (s : State) (p : Nat) (x : Port) (k_ : Nat) : (s.setPort p x).shc k_ = s.shc k_ := rfl
@[simp] theorem State.setPort_valve (s : State) (p : Nat) (x : Port) (k_ : Nat) : (s.setPort p x).valve k_ = s.valve k_ := rfl
@[simp] theorem State.setPort_sw (s : State) (p : Nat) (x : Port) (k_ : Nat) : (s.setPort p x).sw k_ = s.sw k_ := rfl
@[simp] theorem State.setPort_inputOf (s : State) (p : Nat) (x : Port) (k_ : Nat) : (s.setPort p x).inputOf k_ = s.inputOf k_ := rfl

/-! ### setShc -/

@[simp] theorem State.setShc_variant (s : State) (n : Nat) (x : ShCh) : (s.setShc n x).variant = s.variant := rfl
@[simp] theorem State.setShc_dbgen (s : State) (n : Nat) (x : ShCh) : (s.setShc n x).dbgen = s.dbgen := rfl
@[simp] theorem State.setShc_power (s : State) (n : Nat) (x : ShCh) : (s.setShc n x).power = s.power := rfl
@[simp] theorem State.setShc_regs (s : State) (n : Nat) (x : ShCh) : (s.setShc n x).regs = s.regs := rfl
@[simp] theorem State.setShc_sheet (s : State) (n : Nat) (x : ShCh) : (s.setShc n x).sheet = s.sheet := rfl
@[simp] theorem State.setShc_pres (s : State) (n : Nat) (x : ShCh) : (s.setShc n x).pres = s.pres := rfl
@[simp] theorem State.setShc_doms (s : State) (n : Nat) (x : ShCh) : (s.setShc n x).doms = s.doms := rfl
@[simp] theorem State.setShc_xings (s : State) (n : Nat) (x : ShCh) : (s.setShc n x).xings = s.xings := rfl
@[simp] theorem State.setShc_tk (s : State) (n : Nat) (x : ShCh) : (s.setShc n x).tk = s.tk := rfl
@[simp] theorem State.setShc_hl (s : State) (n : Nat) (x : ShCh) : (s.setShc n x).hl = s.hl := rfl
@[simp] theorem State.setShc_rg (s : State) (n : Nat) (x : ShCh) : (s.setShc n x).rg = s.rg := rfl
@[simp] theorem State.setShc_sp (s : State) (n : Nat) (x : ShCh) : (s.setShc n x).sp = s.sp := rfl
@[simp] theorem State.setShc_ar (s : State) (n : Nat) (x : ShCh) : (s.setShc n x).ar = s.ar := rfl
@[simp] theorem State.setShc_chs (s : State) (n : Nat) (x : ShCh) : (s.setShc n x).chs = s.chs := rfl
@[simp] theorem State.setShc_mis (s : State) (n : Nat) (x : ShCh) : (s.setShc n x).mis = s.mis := rfl
@[simp] theorem State.setShc_streams (s : State) (n : Nat) (x : ShCh) : (s.setShc n x).streams = s.streams := rfl
@[simp] theorem State.setShc_ladder (s : State) (n : Nat) (x : ShCh) : (s.setShc n x).ladder = s.ladder := rfl
@[simp] theorem State.setShc_jl (s : State) (n : Nat) (x : ShCh) : (s.setShc n x).jl = s.jl := rfl
@[simp] theorem State.setShc_pe (s : State) (n : Nat) (x : ShCh) : (s.setShc n x).pe = s.pe := rfl
@[simp] theorem State.setShc_fx (s : State) (n : Nat) (x : ShCh) : (s.setShc n x).fx = s.fx := rfl
@[simp] theorem State.setShc_en (s : State) (n : Nat) (x : ShCh) : (s.setShc n x).en = s.en := rfl
@[simp] theorem State.setShc_cn (s : State) (n : Nat) (x : ShCh) : (s.setShc n x).cn = s.cn := rfl
@[simp] theorem State.setShc_ez (s : State) (n : Nat) (x : ShCh) : (s.setShc n x).ez = s.ez := rfl
@[simp] theorem State.setShc_sb (s : State) (n : Nat) (x : ShCh) : (s.setShc n x).sb = s.sb := rfl
@[simp] theorem State.setShc_mm (s : State) (n : Nat) (x : ShCh) : (s.setShc n x).mm = s.mm := rfl
@[simp] theorem State.setShc_sl (s : State) (n : Nat) (x : ShCh) : (s.setShc n x).sl = s.sl := rfl
@[simp] theorem State.setShc_th (s : State) (n : Nat) (x : ShCh) : (s.setShc n x).th = s.th := rfl
@[simp] theorem State.setShc_tx (s : State) (n : Nat) (x : ShCh) : (s.setShc n x).tx = s.tx := rfl
@[simp] theorem State.setShc_free (s : State) (n : Nat) (x : ShCh) : (s.setShc n x).free = s.free := rfl
@[simp] theorem State.setShc_pending (s : State) (n : Nat) (x : ShCh) : (s.setShc n x).pending = s.pending := rfl
@[simp] theorem State.setShc_same (s : State) (n : Nat) (x : ShCh) : (s.setShc n x).shc n = x := Tab.get_put_same _ _ _ _
theorem State.setShc_other (s : State) (n : Nat) (x : ShCh) (k_ : Nat) (h : k_ ≠ n) : (s.setShc n x).shc k_ = s.shc k_ := Tab.get_put_other _ _ _ h
@[simp] theorem State.setShc_can (s : State) (n : Nat) (x : ShCh) (k_ : Nat) : (s.setShc n x).can k_ = s.can k_ := rfl
@[simp] theorem State.setShc_enc (s : State) (n : Nat) (x : ShCh) (k_ : Nat) : (s.setShc n x).enc k_ = s.enc k_ := rfl
@[simp] theorem State.setShc_port (s : State) (n : Nat) (x : ShCh) (k_ : Nat) : (s.setShc n x).port k_ = s.port k_ := rfl
@[simp] theorem State.setShc_valve (s : State) (n : Nat) (x : ShCh) (k_ : Nat) : (s.setShc n x).valve k_ = s.valve k_ := rfl
@[simp] theorem State.setShc_sw (s : State) (n : Nat) (x : ShCh) (k_ : Nat) : (s.setShc n x).sw k_ = s.sw k_ := rfl
@[simp] theorem State.setShc_inputOf (s : State) (n : Nat) (x : ShCh) (k_ : Nat) : (s.setShc n x).inputOf k_ = s.inputOf k_ := rfl

/-! ### setValve -/

@[simp] theorem State.setValve_variant (s : State) (n : Nat) (x : Valve) : (s.setValve n x).variant = s.variant := rfl
@[simp] theorem State.setValve_dbgen (s : State) (n : Nat) (x : Valve) : (s.setValve n x).dbgen = s.dbgen := rfl
@[simp] theorem State.setValve_power (s : State) (n : Nat) (x : Valve) : (s.setValve n x).power = s.power := rfl
@[simp] theorem State.setValve_regs (s : State) (n : Nat) (x : Valve) : (s.setValve n x).regs = s.regs := rfl
@[simp] theorem State.setValve_sheet (s : State) (n : Nat) (x : Valve) : (s.setValve n x).sheet = s.sheet := rfl
@[simp] theorem State.setValve_pres (s : State) (n : Nat) (x : Valve) : (s.setValve n x).pres = s.pres := rfl
@[simp] theorem State.setValve_doms (s : State) (n : Nat) (x : Valve) : (s.setValve n x).doms = s.doms := rfl
@[simp] theorem State.setValve_xings (s : State) (n : Nat) (x : Valve) : (s.setValve n x).xings = s.xings := rfl
@[simp] theorem State.setValve_tk (s : State) (n : Nat) (x : Valve) : (s.setValve n x).tk = s.tk := rfl
@[simp] theorem State.setValve_hl (s : State) (n : Nat) (x : Valve) : (s.setValve n x).hl = s.hl := rfl
@[simp] theorem State.setValve_rg (s : State) (n : Nat) (x : Valve) : (s.setValve n x).rg = s.rg := rfl
@[simp] theorem State.setValve_sp (s : State) (n : Nat) (x : Valve) : (s.setValve n x).sp = s.sp := rfl
@[simp] theorem State.setValve_ar (s : State) (n : Nat) (x : Valve) : (s.setValve n x).ar = s.ar := rfl
@[simp] theorem State.setValve_chs (s : State) (n : Nat) (x : Valve) : (s.setValve n x).chs = s.chs := rfl
@[simp] theorem State.setValve_mis (s : State) (n : Nat) (x : Valve) : (s.setValve n x).mis = s.mis := rfl
@[simp] theorem State.setValve_streams (s : State) (n : Nat) (x : Valve) : (s.setValve n x).streams = s.streams := rfl
@[simp] theorem State.setValve_ladder (s : State) (n : Nat) (x : Valve) : (s.setValve n x).ladder = s.ladder := rfl
@[simp] theorem State.setValve_sh (s : State) (n : Nat) (x : Valve) : (s.setValve n x).sh = s.sh := rfl
@[simp] theorem State.setValve_jl (s : State) (n : Nat) (x : Valve) : (s.setValve n x).jl = s.jl := rfl
@[simp] theorem State.setValve_pe (s : State) (n : Nat) (x : Valve) : (s.setValve n x).pe = s.pe := rfl
@[simp] theorem State.setValve_fx (s : State) (n : Nat) (x : Valve) : (s.setValve n x).fx = s.fx := rfl
@[simp] theorem State.setValve_en (s : State) (n : Nat) (x : Valve) : (s.setValve n x).en = s.en := rfl
@[simp] theorem State.setValve_cn (s : State) (n : Nat) (x : Valve) : (s.setValve n x).cn = s.cn := rfl
@[simp] theorem State.setValve_sb (s : State) (n : Nat) (x : Valve) : (s.setValve n x).sb = s.sb := rfl
@[simp] theorem State.setValve_mm (s : State) (n : Nat) (x : Valve) : (s.setValve n x).mm = s.mm := rfl
@[simp] theorem State.setValve_sl (s : State) (n : Nat) (x : Valve) : (s.setValve n x).sl = s.sl := rfl
@[simp] theorem State.setValve_th (s : State) (n : Nat) (x : Valve) : (s.setValve n x).th = s.th := rfl
@[simp] theorem State.setValve_tx (s : State) (n : Nat) (x : Valve) : (s.setValve n x).tx = s.tx := rfl
@[simp] theorem State.setValve_free (s : State) (n : Nat) (x : Valve) : (s.setValve n x).free = s.free := rfl
@[simp] theorem State.setValve_pending (s : State) (n : Nat) (x : Valve) : (s.setValve n x).pending = s.pending := rfl
@[simp] theorem State.setValve_same (s : State) (n : Nat) (x : Valve) : (s.setValve n x).valve n = x := Tab.get_put_same _ _ _ _
theorem State.setValve_other (s : State) (n : Nat) (x : Valve) (k_ : Nat) (h : k_ ≠ n) : (s.setValve n x).valve k_ = s.valve k_ := Tab.get_put_other _ _ _ h
@[simp] theorem State.setValve_can (s : State) (n : Nat) (x : Valve) (k_ : Nat) : (s.setValve n x).can k_ = s.can k_ := rfl
@[simp] theorem State.setValve_enc (s : State) (n : Nat) (x : Valve) (k_ : Nat) : (s.setValve n x).enc k_ = s.enc k_ := rfl
@[simp] theorem State.setValve_port (s : State) (n : Nat) (x : Valve) (k_ : Nat) : (s.setValve n x).port k_ = s.port k_ := rfl
@[simp] theorem State.setValve_shc (s : State) (n : Nat) (x : Valve) (k_ : Nat) : (s.setValve n x).shc k_ = s.shc k_ := rfl
@[simp] theorem State.setValve_sw (s : State) (n : Nat) (x : Valve) (k_ : Nat) : (s.setValve n x).sw k_ = s.sw k_ := rfl
@[simp] theorem State.setValve_inputOf (s : State) (n : Nat) (x : Valve) (k_ : Nat) : (s.setValve n x).inputOf k_ = s.inputOf k_ := rfl

/-! ### setSw -/

@[simp] theorem State.setSw_variant (s : State) (n : Nat) (x : Switch) : (s.setSw n x).variant = s.variant := rfl
@[simp] theorem State.setSw_dbgen (s : State) (n : Nat) (x : Switch) : (s.setSw n x).dbgen = s.dbgen := rfl
@[simp] theorem State.setSw_power (s : State) (n : Nat) (x : Switch) : (s.setSw n x).power = s.power := rfl
@[simp] theorem State.setSw_regs (s : State) (n : Nat) (x : Switch) : (s.setSw n x).regs = s.regs := rfl
@[simp] theorem State.setSw_sheet (s : State) (n : Nat) (x : Switch) : (s.setSw n x).sheet = s.sheet := rfl
@[simp] theorem State.setSw_pres (s : State) (n : Nat) (x : Switch) : (s.setSw n x).pres = s.pres := rfl
@[simp] theorem State.setSw_doms (s : State) (n : Nat) (x : Switch) : (s.setSw n x).doms = s.doms := rfl
@[simp] theorem State.setSw_xings (s : State) (n : Nat) (x : Switch) : (s.setSw n x).xings = s.xings := rfl
@[simp] theorem State.setSw_tk (s : State) (n : Nat) (x : Switch) : (s.setSw n x).tk = s.tk := rfl
@[simp] theorem State.setSw_hl (s : State) (n : Nat) (x : Switch) : (s.setSw n x).hl = s.hl := rfl
@[simp] theorem State.setSw_rg (s : State) (n : Nat) (x : Switch) : (s.setSw n x).rg = s.rg := rfl
@[simp] theorem State.setSw_sp (s : State) (n : Nat) (x : Switch) : (s.setSw n x).sp = s.sp := rfl
@[simp] theorem State.setSw_ar (s : State) (n : Nat) (x : Switch) : (s.setSw n x).ar = s.ar := rfl
@[simp] theorem State.setSw_chs (s : State) (n : Nat) (x : Switch) : (s.setSw n x).chs = s.chs := rfl
@[simp] theorem State.setSw_mis (s : State) (n : Nat) (x : Switch) : (s.setSw n x).mis = s.mis := rfl
@[simp] theorem State.setSw_streams (s : State) (n : Nat) (x : Switch) : (s.setSw n x).streams = s.streams := rfl
@[simp] theorem State.setSw_ladder (s : State) (n : Nat) (x : Switch) : (s.setSw n x).ladder = s.ladder := rfl
@[simp] theorem State.setSw_sh (s : State) (n : Nat) (x : Switch) : (s.setSw n x).sh = s.sh := rfl
@[simp] theorem State.setSw_jl (s : State) (n : Nat) (x : Switch) : (s.setSw n x).jl = s.jl := rfl
@[simp] theorem State.setSw_pe (s : State) (n : Nat) (x : Switch) : (s.setSw n x).pe = s.pe := rfl
@[simp] theorem State.setSw_fx (s : State) (n : Nat) (x : Switch) : (s.setSw n x).fx = s.fx := rfl
@[simp] theorem State.setSw_en (s : State) (n : Nat) (x : Switch) : (s.setSw n x).en = s.en := rfl
@[simp] theorem State.setSw_cn (s : State) (n : Nat) (x : Switch) : (s.setSw n x).cn = s.cn := rfl
@[simp] theorem State.setSw_sb (s : State) (n : Nat) (x : Switch) : (s.setSw n x).sb = s.sb := rfl
@[simp] theorem State.setSw_mm (s : State) (n : Nat) (x : Switch) : (s.setSw n x).mm = s.mm := rfl
@[simp] theorem State.setSw_sl (s : State) (n : Nat) (x : Switch) : (s.setSw n x).sl = s.sl := rfl
@[simp] theorem State.setSw_th (s : State) (n : Nat) (x : Switch) : (s.setSw n x).th = s.th := rfl
@[simp] theorem State.setSw_tx (s : State) (n : Nat) (x : Switch) : (s.setSw n x).tx = s.tx := rfl
@[simp] theorem State.setSw_free (s : State) (n : Nat) (x : Switch) : (s.setSw n x).free = s.free := rfl
@[simp] theorem State.setSw_pending (s : State) (n : Nat) (x : Switch) : (s.setSw n x).pending = s.pending := rfl
@[simp] theorem State.setSw_same (s : State) (n : Nat) (x : Switch) : (s.setSw n x).sw n = x := Tab.get_put_same _ _ _ _
theorem State.setSw_other (s : State) (n : Nat) (x : Switch) (k_ : Nat) (h : k_ ≠ n) : (s.setSw n x).sw k_ = s.sw k_ := Tab.get_put_other _ _ _ h
@[simp] theorem State.setSw_can (s : State) (n : Nat) (x : Switch) (k_ : Nat) : (s.setSw n x).can k_ = s.can k_ := rfl
@[simp] theorem State.setSw_enc (s : State) (n : Nat) (x : Switch) (k_ : Nat) : (s.setSw n x).enc k_ = s.enc k_ := rfl
@[simp] theorem State.setSw_port (s : State) (n : Nat) (x : Switch) (k_ : Nat) : (s.setSw n x).port k_ = s.port k_ := rfl
@[simp] theorem State.setSw_shc (s : State) (n : Nat) (x : Switch) (k_ : Nat) : (s.setSw n x).shc k_ = s.shc k_ := rfl
@[simp] theorem State.setSw_valve (s : State) (n : Nat) (x : Switch) (k_ : Nat) : (s.setSw n x).valve k_ = s.valve k_ := rfl
@[simp] theorem State.setSw_inputOf (s : State) (n : Nat) (x : Switch) (k_ : Nat) : (s.setSw n x).inputOf k_ = s.inputOf k_ := rfl

/-! ### setInput -/

@[simp] theorem State.setInput_variant (s : State) (n : Nat) (x : FieldInput) : (s.setInput n x).variant = s.variant := rfl
@[simp] theorem State.setInput_dbgen (s : State) (n : Nat) (x : FieldInput) : (s.setInput n x).dbgen = s.dbgen := rfl
@[simp] theorem State.setInput_power (s : State) (n : Nat) (x : FieldInput) : (s.setInput n x).power = s.power := rfl
@[simp] theorem State.setInput_regs (s : State) (n : Nat) (x : FieldInput) : (s.setInput n x).regs = s.regs := rfl
@[simp] theorem State.setInput_sheet (s : State) (n : Nat) (x : FieldInput) : (s.setInput n x).sheet = s.sheet := rfl
@[simp] theorem State.setInput_pres (s : State) (n : Nat) (x : FieldInput) : (s.setInput n x).pres = s.pres := rfl
@[simp] theorem State.setInput_doms (s : State) (n : Nat) (x : FieldInput) : (s.setInput n x).doms = s.doms := rfl
@[simp] theorem State.setInput_xings (s : State) (n : Nat) (x : FieldInput) : (s.setInput n x).xings = s.xings := rfl
@[simp] theorem State.setInput_tk (s : State) (n : Nat) (x : FieldInput) : (s.setInput n x).tk = s.tk := rfl
@[simp] theorem State.setInput_hl (s : State) (n : Nat) (x : FieldInput) : (s.setInput n x).hl = s.hl := rfl
@[simp] theorem State.setInput_rg (s : State) (n : Nat) (x : FieldInput) : (s.setInput n x).rg = s.rg := rfl
@[simp] theorem State.setInput_sp (s : State) (n : Nat) (x : FieldInput) : (s.setInput n x).sp = s.sp := rfl
@[simp] theorem State.setInput_ar (s : State) (n : Nat) (x : FieldInput) : (s.setInput n x).ar = s.ar := rfl
@[simp] theorem State.setInput_chs (s : State) (n : Nat) (x : FieldInput) : (s.setInput n x).chs = s.chs := rfl
@[simp] theorem State.setInput_mis (s : State) (n : Nat) (x : FieldInput) : (s.setInput n x).mis = s.mis := rfl
@[simp] theorem State.setInput_streams (s : State) (n : Nat) (x : FieldInput) : (s.setInput n x).streams = s.streams := rfl
@[simp] theorem State.setInput_ladder (s : State) (n : Nat) (x : FieldInput) : (s.setInput n x).ladder = s.ladder := rfl
@[simp] theorem State.setInput_sh (s : State) (n : Nat) (x : FieldInput) : (s.setInput n x).sh = s.sh := rfl
@[simp] theorem State.setInput_jl (s : State) (n : Nat) (x : FieldInput) : (s.setInput n x).jl = s.jl := rfl
@[simp] theorem State.setInput_pe (s : State) (n : Nat) (x : FieldInput) : (s.setInput n x).pe = s.pe := rfl
@[simp] theorem State.setInput_fx (s : State) (n : Nat) (x : FieldInput) : (s.setInput n x).fx = s.fx := rfl
@[simp] theorem State.setInput_en (s : State) (n : Nat) (x : FieldInput) : (s.setInput n x).en = s.en := rfl
@[simp] theorem State.setInput_cn (s : State) (n : Nat) (x : FieldInput) : (s.setInput n x).cn = s.cn := rfl
@[simp] theorem State.setInput_sb (s : State) (n : Nat) (x : FieldInput) : (s.setInput n x).sb = s.sb := rfl
@[simp] theorem State.setInput_mm (s : State) (n : Nat) (x : FieldInput) : (s.setInput n x).mm = s.mm := rfl
@[simp] theorem State.setInput_sl (s : State) (n : Nat) (x : FieldInput) : (s.setInput n x).sl = s.sl := rfl
@[simp] theorem State.setInput_th (s : State) (n : Nat) (x : FieldInput) : (s.setInput n x).th = s.th := rfl
@[simp] theorem State.setInput_tx (s : State) (n : Nat) (x : FieldInput) : (s.setInput n x).tx = s.tx := rfl
@[simp] theorem State.setInput_free (s : State) (n : Nat) (x : FieldInput) : (s.setInput n x).free = s.free := rfl
@[simp] theorem State.setInput_pending (s : State) (n : Nat) (x : FieldInput) : (s.setInput n x).pending = s.pending := rfl
@[simp] theorem State.setInput_same (s : State) (n : Nat) (x : FieldInput) : (s.setInput n x).inputOf n = x := Tab.get_put_same _ _ _ _
theorem State.setInput_other (s : State) (n : Nat) (x : FieldInput) (k_ : Nat) (h : k_ ≠ n) : (s.setInput n x).inputOf k_ = s.inputOf k_ := Tab.get_put_other _ _ _ h
@[simp] theorem State.setInput_can (s : State) (n : Nat) (x : FieldInput) (k_ : Nat) : (s.setInput n x).can k_ = s.can k_ := rfl
@[simp] theorem State.setInput_enc (s : State) (n : Nat) (x : FieldInput) (k_ : Nat) : (s.setInput n x).enc k_ = s.enc k_ := rfl
@[simp] theorem State.setInput_port (s : State) (n : Nat) (x : FieldInput) (k_ : Nat) : (s.setInput n x).port k_ = s.port k_ := rfl
@[simp] theorem State.setInput_shc (s : State) (n : Nat) (x : FieldInput) (k_ : Nat) : (s.setInput n x).shc k_ = s.shc k_ := rfl
@[simp] theorem State.setInput_valve (s : State) (n : Nat) (x : FieldInput) (k_ : Nat) : (s.setInput n x).valve k_ = s.valve k_ := rfl
@[simp] theorem State.setInput_sw (s : State) (n : Nat) (x : FieldInput) (k_ : Nat) : (s.setInput n x).sw k_ = s.sw k_ := rfl

end Sys2Proof.Machine
end

