-- ==== Sys2Proof/Machine/Pins.lean ====
section
/-!
DEFINITION. Machine/Pins.lean: what the device drives at its output balls, and what stands at its inputs without a source (R389, R771, R831,
R873): a view of State, which no command reads.
-/
namespace Sys2Proof.Machine

/-- The level of a ball: driven low or high, high-impedance, held by an internal pull, switched by pulses of the running PWM period, held by an active
clamp, switched by a valve driver's regulation, or driven with the traffic of its link. -/
inductive Level where
  | low | high | highZ | pullUp | pullDown
  | pulsed (p : Pulse)
  | clamped
  | legs (l : Legs)
  | traffic
  deriving DecidableEq, Repr

/-- Balls whose level the device determines (R873); those of a channel by local phase `j`. -/
inductive Pin where
  | pwmh (n j : Nat) | pwml (n j : Nat) | flt (n j : Nat) | chen (n : Nat) | thx (n : Nat)
  | pcieTx | jlTx (p : Nat) | clkreq | hlmode | can (b : Nat)
  | encCkp (n : Nat) | encCkn (n : Nat) | snSck | snMosi | snCs (k : Nat) | snMiso | tsync | stop
  | tck | tms | tdi | trst | tdo | pwreq | sw (n : Nat) | vd (n : Nat)
  deriving DecidableEq, Repr

/-- An output on VIO outside reset release: low while VCORE is in range, else high-impedance with its pull-down (R389, R873).
[DEDUCED, unsafe: log 223] -/
def vioOff (s : State) : Level := if s.sl.low.contains 1 then .pullDown else .low

/-- The ball at a pin of channel `n`'s local phase `j` is connected inside (R21, R866, R884). -/
def phasePin (s : State) (n j : Nat) : Bool := (Ball.channel (phaseBalls n j).1 1).connected s.variant

/-- The level of the PWM output of local phase `j` of channel `n` whose pulse of the running period is `p`.
[DEDUCED, unsafe: log 223] -/
def pwmLevel (s : State) (n j : Nat) (p : Option Pulse) : Level :=
  if !phasePin s n j then .highZ
  else if s.power ≠ .on then vioOff s
  else if !s.isOn (ciDom n) then .low
  else match p with | some p => .pulsed p | none => .low

/-- The CS# that is low: that of the sensor transfer under way (R759, R771).  [DEDUCED, unsafe: log 223] -/
def snSelected (s : State) : Option Nat := s.en.sn.busy.map fun t => fld (w32 (leAt t.2.1 0 1)) 0 2

/-- The level at a pin (R389, R873).  [DEDUCED, unsafe: log 223] -/
def pinLevel (s : State) (p : Pin) : Level :=
  let on := s.power == .on
  match p with
  | .pwmh n j => pwmLevel s n j ((s.ch n).phase j).hi
  | .pwml n j => pwmLevel s n j ((s.ch n).phase j).lo
  | .flt n j => if phasePin s n j then .pullUp else .highZ
  | .chen n => if !phasePin s n 0 then .highZ else if !on then vioOff s else if s.isOn (ciDom n) && (s.ch n).chen then .high else .low
  | .thx n => if on && s.isOn (miDom n) then .traffic else .highZ
  | .pcieTx => if on && s.hl.link != .down then .traffic else .highZ
  | .jlTx p => if on && portState s p != .off then .traffic else .highZ
  | .clkreq => .highZ
  | .hlmode => .pullDown
  | .can b => if on && (s.can b).st != .off then .traffic else .highZ
  | .encCkp _ => if on then .high else .highZ
  | .encCkn _ => if on then .low else .highZ
  | .snSck | .snMosi => if on then (if s.en.sn.busy.isSome then .traffic else .low) else .highZ
  | .snCs k => if !on then .highZ else if snSelected s == some k then .low else .high
  | .snMiso | .tsync | .stop | .trst => .pullDown
  | .tck | .tms | .tdi => .pullUp
  | .tdo => .highZ
  | .pwreq => if s.power = .off then .highZ else if s.power = .parked ∧ !s.sl.pending then .low else .high
  | .sw n => if !swDomOn s n then .highZ else if (s.sw n).on then .high else if swClamping s n then .clamped else .highZ
  | .vd n =>
    match valveLegs s n with
    | .rest .off => if (s.valve n).clamping && valveDomOn s n then .clamped else .highZ
    | .rest .low => .low
    | .rest .high => .high
    | l => .legs l

end Sys2Proof.Machine
end

