-- ==== Sys2Proof/WellFormed.lean ====
section
/-!
DEFINITION. WellFormed.lean: the commands whose operands the device has a place for: numbers of rings, channels, domains and the like in
range, aligned 32-bit BAR0 offsets, cells of 16 payload bytes, lines of 64 bytes.
-/
namespace Sys2Proof

/-- A host function: 0 or 1 (R70). -/
def okFn (f : Nat) : Bool := decide (f < 2)

/-- A 32-bit access to BAR0, naturally aligned (R72). -/
def okOff (off : Nat) : Bool := decide (off < 0x100000) && off % 4 == 0

/-- A channel number (R3). -/
def okChan (n : Nat) : Bool := decide (n < 64)

/-- A domain of the main die (R135). -/
def okDom (d : Nat) : Bool := decide (1 ≤ d) && decide (d < 148)

/-- A link width in lanes (R178). -/
def okWidth (w : Nat) : Bool := [1, 2, 4].contains w

/-- Address of a 64-byte line of the archive (R194). -/
def okLine (a : Nat) : Bool := decide (a < 2 ^ 32) && a % 64 == 0

/-- Decimator values in the order of their centre instants (R427). -/
def okValues (l : List DecVal) : Bool := decide (l.Pairwise fun a b => a.time < b.time)

/-- A cell of type `ty` at a port, with its header and payload (R538, R540). -/
def okCell (ty p h : Nat) (pl : List Byte) : Bool := decide (p < 2) && decide (h < 65536) && h / 4096 == ty && decide (pl.length = 16)

/-- A CAN frame (R711). -/
def okFrame (x : CanFrame) : Bool := decide (x.id < 2 ^ 32) && decide (x.dlc < 16) && decide (x.data.length ≤ 64)

/-- A well-formed command.  [DESIGN CHOICE, unsafe: log 11] -/
def Instr.wellFormed : Instr → Bool
  | .vsafeApply => true
  | .vsafeLoss => true
  | .vcoreEnter => true
  | .powerLoss rails => (!rails.isEmpty && rails.all fun e => decide (1 ≤ e.1) && decide (e.1 ≤ 8))
  | .reset f => okFn f
  | .resetCheckDone _ => true
  | .csRecheck f _ => okFn f
  | .recheckDone _ => true
  | .sheetRead _ => true
  | .sheetRegionWrite f off _ => okFn f && okOff off
  | .registerWrite f off _ => okFn f && okOff off
  | .sqRead f off => okFn f && okOff off
  | .sqAckWrite f off _ => okFn f && okOff off
  | .rcRead f off => okFn f && okOff off
  | .cntRead f off => okFn f && okOff off
  | .splitLoRead f off => okFn f && okOff off
  | .splitLoWrite f off _ => okFn f && okOff off
  | .splitHiWrite f off _ => okFn f && okOff off
  | .undefinedOffsetAccess f off _ _ => okFn f && okOff off
  | .unsupportedRequest f _ => okFn f
  | .loupeRegisterAccess off _ _ => okOff off
  | .pressAccepted t => decide (t < 2 ^ 48)
  | .windowClose => true
  | .close f => okFn f
  | .calenChange t _ => decide (t < 2 ^ 48)
  | .sealSample t _ => decide (t < 2 ^ 48)
  | .buttonStuck t => decide (t < 2 ^ 48)
  | .hubDomEnable f _ => okFn f
  | .domainUpPhaseEnd d => decide (1 ≤ d) && decide (d < 160)
  | .domFail d => okDom d
  | .quiesceEnd d _ => okDom d
  | .domainDownComplete d => okDom d
  | .beacon => true
  | .islandTimeCorrection d rate => decide (2 ≤ d) && okDom d && decide (rate.natAbs ≤ 20000000)
  | .epochBoundary => true
  | .xingTimeout sender receiver _ _ => okDom sender && okDom receiver
  | .fllUnlock d _ => okDom d
  | .refclkLoss => true
  | .refclkRestored => true
  | .tsyncEdge => true
  | .tsyncMissing => true
  | .timeRestored t => decide (t < 2 ^ 48)
  | .perstAssert _ _ => true
  | .perstDeassert => true
  | .linkUp speed width => decide (1 ≤ speed) && decide (speed ≤ 4) && okWidth width
  | .linkDown _ _ => true
  | .functionLevelReset f _ _ => decide (f < 5)
  | .flrComplete f => decide (f < 5)
  | .d3hotEntry f => decide (f < 5)
  | .msixUnmask f v => decide (f < 5) && decide (v < if f < 2 then 64 else 4)
  | .vectorIntervalEnd v => decide (12 ≤ v) && decide (v < 24)
  | .ptmDialogStart => true
  | .ptmCapture _ t2 _ => decide (t2 < 2 ^ 64)
  | .ptmMiss => true
  | .dmaCompletion tag kind _ => decide (tag < 256) && [0, 2, 3, 4].contains kind
  | .completionTimeout tag => decide (tag < 256)
  | .poisonedTlpReceived => true
  | .ecrcError f tag => decide (f < 5) && (match tag with | some k => decide (k < 256) | none => true)
  | .unexpectedCompletion => true
  | .malformedTlp kind => decide (kind < 8)
  | .fatalInternal _ _ => true
  | .cxlLinkCrcError => true
  | .speedChange v => decide (1 ≤ v) && decide (v ≤ 4)
  | .widthChange v => okWidth v
  | .l1Entry _ => true
  | .l1Exit => true
  | .bar2Access f off _ _ _ => decide (f < 5) && decide (off < 0x4000)
  | .cxlMemRead l a words _ => decide (l < 4) && decide (a < 2 ^ 64) && decide (words ≤ 8)
  | .cxlMemWrite l a bytes _ => decide (l < 4) && decide (a < 2 ^ 64) && decide (0 < bytes.length) && decide (a % 64 + bytes.length ≤ 64)
  | .hdmCommit l base _ ways _ => decide (l < 4) && decide (base < 2 ^ 64) && decide (1 ≤ ways)
  | .identifyMemoryDevice l => decide (l < 4)
  | .getHealthInfo l => decide (l < 4)
  | .getEventRecords l => decide (l < 4)
  | .clearEventRecords l _ => decide (l < 4)
  | .getPoisonList l => decide (l < 4)
  | .injectPoison l addr => decide (l < 4) && okLine addr
  | .clearPoison l addr data => decide (l < 4) && okLine addr && decide (data.length = 64)
  | .unsupportedMailboxCommand l => decide (l < 4) || l == 0xFFFF
  | .getLdInfo => true
  | .getLdAllocations => true
  | .setLdAllocations sizes => decide (sizes.length = 4)
  | .doorbellPoll => true
  | .doorbellLineArrival => true
  | .descriptorArrival => true
  | .badDescriptor r => decide (r < 4)
  | .completionWrite r => decide (r < 4)
  | .completionWaitExpiry r => decide (r < 4)
  | .moderationTimeout v => decide (v < 12)
  | .hostLoss => true
  | .pollEnable f => okFn f
  | .ringEnable f r => okFn f && decide (r < 4)
  | .ringDisable f r => okFn f && decide (r < 4)
  | .hostLossTimeoutWrite f _ => okFn f
  | .nop r => decide (r < 4)
  | .loadRecipe r => decide (r < 4)
  | .swapBank r => decide (r < 4)
  | .start r => decide (r < 4)
  | .hold r => decide (r < 4)
  | .resume r => decide (r < 4)
  | .abort r => decide (r < 4)
  | .presetExposure r => decide (r < 4)
  | .snapshot r => decide (r < 4)
  | .gang r => decide (r < 4)
  | .chPark r => decide (r < 4)
  | .chReadmit r => decide (r < 4)
  | .setLimits r => decide (r < 4)
  | .setCal r => decide (r < 4)
  | .budgetSet r => decide (r < 4)
  | .prioritySet r => decide (r < 4)
  | .stripBind r => decide (r < 4)
  | .fusionSet r => decide (r < 4)
  | .gradeSet r => decide (r < 4)
  | .leaseTake r => decide (r < 4)
  | .leaseRenew r => decide (r < 4)
  | .leaseDrop r => decide (r < 4)
  | .archiveCopy r => decide (r < 4)
  | .valveLoad r => decide (r < 4)
  | .valveRun r => decide (r < 4)
  | .switchSet r => decide (r < 4)
  | .fieldSet r => decide (r < 4)
  | .canSend r => decide (r < 4)
  | .canFilter r => decide (r < 4)
  | .encSet r => decide (r < 4)
  | .sensorSchedule r => decide (r < 4)
  | .jlUser r => decide (r < 4)
  | .stop r => decide (r < 4)
  | .clearFault r => decide (r < 4)
  | .selftest r => decide (r < 4)
  | .tableFetchDone => true
  | .recordCommit prod spool _ => decide (prod < 131) && decide (spool < 16)
  | .cascadeForward n _ => decide (n < 16)
  | .tailReadComplete => true
  | .slotWrite n _ => decide (n < 8)
  | .stallReread n => decide (n < 8)
  | .stripStall n => decide (n < 8)
  | .rewindTailRead n => decide (n < 8)
  | .extentZeroed => true
  | .heartbeatSample => true
  | .archiveTrainingDone failed => (match failed with | some c => decide (c < 2) | none => true)
  | .pwmPeriodBoundary n codes => okChan n && decide (codes.length ≤ 4) && codes.all fun l => l.all fun x => decide (-2048 ≤ x) && decide (x ≤ 2047)
  | .normalTrip n j _ _ _ => okChan n && decide (j < 4)
  | .hardTrip n j _ => okChan n && decide (j < 4)
  | .driverFault n j _ => okChan n && decide (j < 4)
  | .phRetry n j => okChan n && decide (j < 4)
  | .dischargeEnd n => okChan n
  | .sampleWindowEnd n w w2 delay => okChan n && okValues w && okValues w2 && decide (delay ≤ 10000)
  | .fastValue n _ _ _ => okChan n
  | .calDue n => okChan n
  | .calForced n => okChan n
  | .calRequestHoldoffEnd n => okChan n
  | .ladderGrant => true
  | .calWindowEnd n _ _ => okChan n
  | .modFault n chain => okChan n && decide (chain < 3)
  | .requestWord n => okChan n
  | .roundBoundary vbus => decide (vbus < 2 ^ 17)
  | .grantWord n => okChan n
  | .beatBoundary => true
  | .sync p h pl => okCell 1 p h pl
  | .report p h pl => okCell 2 p h pl
  | .grant p h pl => okCell 3 p h pl
  | .stopCell p h pl => okCell 4 p h pl
  | .wakeCell p h pl => okCell 5 p h pl
  | .join p h pl => okCell 6 p h pl
  | .leave p h pl => okCell 7 p h pl
  | .claim p h pl => okCell 8 p h pl
  | .echo p h pl => okCell 9 p h pl
  | .userMessage p h pl => okCell 10 p h pl
  | .badCell p line _ _ => decide (p < 2) && decide (line.length = 21)
  | .collectionClose => true
  | .syncMissCheck => true
  | .echoRequestDue p => decide (p < 2)
  | .portPllLock p => decide (p < 2)
  | .portUp p => decide (p < 2)
  | .portDown p cause => decide (p < 2) && decide (1 ≤ cause) && decide (cause ≤ 3)
  | .unwrap p _ => decide (p < 2)
  | .tone f p => okFn f && decide (p < 2)
  | .wakeRing f => okFn f
  | .toneAccepted p t _ => decide (p < 2) && decide (t < 2 ^ 48)
  | .printInputArrival => true
  | .printEmit => true
  | .regrade f n => okFn f && okChan n
  | .frameBoundary => true
  | .downlinkFrame line _ => decide (line.getD 0 < 2 ^ 256)
  | .uplinkFrame line => decide (line.getD 0 < 2 ^ 256)
  | .helloUplink _ => true
  | .batchResend => true
  | .downlinkWatchdog => true
  | .linkLost => true
  | .fieldDiePowerUp => true
  | .barrierPowerLoss _ => true
  | .inputAccepted n _ _ _ => decide (n < 24)
  | .wireBreak n => decide (n < 24)
  | .wireOk n => decide (n < 24)
  | .reverse _ => true
  | .fgndLoss => true
  | .surge _ => true
  | .undervolt _ => true
  | .supplyConditionEnd k => decide (k < 4)
  | .swThermalOff n => decide (n < 16)
  | .swThermalRestart n => decide (n < 16)
  | .swOverload n => decide (n < 16)
  | .swOpenLoad n => decide (n < 16)
  | .swShortSupply n => decide (n < 16)
  | .clampEnd n => decide (n < 24)
  | .regulationPeriod n _ duty => decide (n < 8) && decide (duty ≤ 1000)
  | .seti n => decide (n < 8)
  | .wandRamp n => decide (n < 8)
  | .waitt n => decide (n < 8)
  | .waiti n => decide (n < 8)
  | .waitin n => decide (n < 8)
  | .dither n => decide (n < 8)
  | .wandLoop n => decide (n < 8)
  | .wandJif n => decide (n < 8)
  | .decay n => decide (n < 8)
  | .endWord n => decide (n < 8)
  | .decayComplete n => decide (n < 8)
  | .drvTrip n leg _ _ _ => decide (n < 8) && decide (leg < 2)
  | .peakCapped n => decide (n < 8)
  | .offStateTest n _ _ _ => decide (n < 8)
  | .canFrameRx b f tec rec_ => decide (b < 2) && okFrame f && decide (tec < 512) && decide (rec_ < 256)
  | .canFrameAcknowledged b tec rec_ tdc => decide (b < 2) && decide (tec < 512) && decide (rec_ < 256) && decide (tdc < 256)
  | .canTxRetry b tec rec_ => decide (b < 2) && decide (tec < 512) && decide (rec_ < 256)
  | .canTxTimeout b => decide (b < 2)
  | .canErrorStateChange b tec rec_ => decide (b < 2) && decide (tec < 512) && decide (rec_ < 256)
  | .busOn b => decide (b < 2)
  | .busIdleSettings b => decide (b < 2)
  | .sleep f b => okFn f && decide (b < 2)
  | .sleepEntry b => decide (b < 2)
  | .sleepClear f b => okFn f && decide (b < 2)
  | .wakePattern b _ => decide (b < 2)
  | .wakeFrame b f kind => decide (b < 2) && okFrame f && decide (kind < 4)
  | .decoderDisarm b => decide (b < 2)
  | .txdDominant b => decide (b < 2)
  | .busDominant b => decide (b < 2)
  | .quadratureEdge n _ _ _ => decide (n < 4)
  | .index n _ => decide (n < 4)
  | .speedLatch n => decide (n < 4)
  | .serialFrame n f => decide (n < 4) && decide (f.crc < 64)
  | .lineFault n l => decide (n < 4) && decide (l < 3)
  | .lineFaultEnd n l => decide (n < 4) && decide (l < 3)
  | .sensorPollDue => true
  | .sensorTransferDone _ => true
  | .eccWriteBack => true
  | .scrubPassStart => true
  | .scrubAccess kind => decide (kind < 3)
  | .mmLatchClear f _ => okFn f
  | .stopPinLow => true
  | .stopPinHigh => true
  | .ciWatchdog n _ => okChan n
  | .miWatchdog n _ => okChan n
  | .vbusOver v _ => decide (v < 2 ^ 17)
  | .vbusUnder v _ => decide (v < 2 ^ 17)
  | .sbHubReadmit f _ => okFn f
  | .islandSelftestDone d mask _ => decide (20 ≤ d) && okDom d && decide (mask < 64)
  | .park f => okFn f
  | .parkDrainEnd => true
  | .parkEdge t => decide (t < 2 ^ 48)
  | .deviceWake => true
  | .alarmMatch => true
  | .xtalMeasurement t _ => decide (t < 2 ^ 48)
  | .xtalFail t => decide (t < 2 ^ 48)
  | .xtalOk t => decide (t < 2 ^ 48)
  | .tempConversion _ _ _ _ _ => true
  | .presReleased t => decide (t < 2 ^ 48)
  | .configurationRequest f field write => decide (f < 5) && (match field with | .bar k => decide (k < 6) | _ => true) &&
      (match write with | some v => decide (v < 2 ^ 32) | none => true)
  | .emptyCell p h pl _ => decide (p < 2) && decide (h < 65536) && (h / 4096 == 0 || decide (11 ≤ h / 4096)) && decide (pl.length = 16)
  | .zFallingEdge n _ => decide (n < 4)
  | .canIntegrated b => decide (b < 2)
  | .swOpenLoadClear n => decide (n < 16)
  | .swShortSupplyClear n => decide (n < 16)
  | .mainRailBelowMinimum r _ => (decide (1 ≤ r) && decide (r ≤ 8))
  | .selftestFinished r _ _ => decide (r < 4)
  | .archiveCopyDone r _ _ => decide (r < 4)
  | .illegalWord n => decide (n < 8)

end Sys2Proof
end

