-- ==== Sys2Proof/Tests/Slice0.lean ====
section
/-!
SUPPORT. Tests/Slice0.lean: an ill-formed command for each check of WellFormed, a few worked cases of the spec, and for every statement that
has hypotheses a theorem that shows states and operands that meet them, clause by clause.
-/
namespace Sys2Proof.Tests
open Sys2Proof Sys2Proof.Machine

/-- Domains 1 to 19, the islands of channels 0 to 3 and the field domains are ON. -/
def doms : Tab Dom := (List.range' 1 23 ++ List.range' 84 4 ++ List.range' 148 12).map fun d => (d, { st := .on, target := true })

/-- A working machine: domains ON, the sheet good, the link up with both functions answering, a presence window open. -/
def W : State :=
  { State.reset with
    sheet := {}
    doms := doms
    tk := { now := 1000000, clk := 1000000, run := 1000000, beaconAt := 999424, epochAt := 1000000 }
    hl := { cxl := true, link := .up, speed := 3, width := 4,
            fns := [(0, { memEn := true, bme := true, msixEn := true, ready := true }), (1, { memEn := true, ready := true })] } }

/-- W with a presence window open and the calibration jumper fitted. -/
def Wp : State := { W with pres := { window := some 0, calen := some true } }

/-- Wp with the seal open: every condition of a PS guard holds. -/
def Wps : State := { W with pres := { window := some 0, calen := some true, sealOpen := some true } }

/-- W with LD 0 and LD 1 mapped to the archive at 256 MiB; LD 0 holds extent 0 for writing and has an active session. -/
def Wl : State :=
  { W with
    hl := { W.hl with lds := [(0, { committed := true, base := 0x10000000 }), (1, { committed := true, base := 0x10000000 })] }
    ar := { trained := true, ext := [(0, { st := .free, held := some (0, true) })], lease := [(0, { st := .active })], mem := [(5, 9)] } }

/-- W with channel 0 as given. -/
def Wc (c : Chan) : State := { W with chs := [(0, c)] }

/-- W with the field die powered, the link READY and the field die as given. -/
def Wf (f : FieldDie) : State := { W with ez := { link := .ready, field := { f with powered := true } } }

/-- Wf with valve driver 0 as given. -/
def Wv (v : Valve) : State := Wf { pushed := true, valves := [(0, v)] }

/-- Driver 0 runs a program whose only word is `w`. -/
def Ww (w : Word) : State := Wv { running := true, run := true, prog := [(0, w)], nextAt := 1000000 }

/-- W with switch 0 as given. -/
def Wsw (x : Switch) : State := Wf { pushed := true, swConfig := 1, sw := 1, switches := [(0, x)] }

/-- W with bus 0 as given. -/
def Wb (c : CanBus) : State := { W with cn := [(0, c)] }

/-- W with encoder 0 as given. -/
def We (e : Encoder) : State := { W with en := { en := [(0, e)] } }

/-- W with measurement island 0 as given. -/
def Wm (m : Meas) : State := { W with mis := [(0, m)] }

/-- W with the node as given and port 0 and 1 UP. -/
def Wj (j : Jl) : State := { W with jl := { j with port := [(0, { st := .up, pll := true }), (1, { st := .up, pll := true })] } }

/-- W with the registers as given. -/
def Wr (l : List (Nat × Word)) (s : State) : State := { s with regs := { s.regs with val := l } }

/-- W with domain `d` as given. -/
def Wd (d : Nat) (x : Dom) : State := { W with doms := doms.put d x }

/-- A descriptor of opcode `op` for `target`, with the fields given as (offset, value). -/
def dsc (op target : Nat) (l : List (Nat × Nat)) : List Byte :=
  bytesOf 64 (op + target * 2 ^ 32 + (l.map fun e => e.2 * 2 ^ (8 * e.1)).foldl (· + ·) 0)

/-- `s` with descriptor `d` at the head of ring 0, whose turn it is. -/
def Wh (d : List Byte) (s : State) : State :=
  { s with rg := { s.rg with ring := [(0, { running := true, fetched := [(0, d)] })] } }

/-- `s` with descriptor `d` in execution on ring 0. -/
def Wx (d : List Byte) (g : Stage) (s : State) : State :=
  { s with rg := { s.rg with ring := [(0, { running := true, exec := some { d, count := 0, stage := g } })] } }

/-- The machine parked, with the safelight as given. -/
def Wk (l : Safelight) : State := { State.reset with power := .parked, doms := [], sheet := {}, sl := l }

/-- The definition of the register at `off`. -/
def regOf (off : Nat) : RegDef := ((findReg .xf6408 off).map (·.2.2)).getD ⟨"", 0, .ro, .any, .imm, 0, []⟩

/-- A record, and its granule. -/
def rec1 : Rec := { kind := 1, src := 0 }
def gran (path : List Nat) : Granule := { r := rec1, origin := 0, path }

/-- A downlink frame, and an uplink frame. -/
def down (commit safeNow : Bool) : DownFrame :=
  { seq := 1, sw := 3, vd := 0, ack := 0, addr := 1, data := 5, commit, safeNow, first := true }
def up1 : UpFrame := { seq := 7, inp := 3, ack := 0, addr := 2, data := 9, flags := 1, swOn := 1, at_ := 1000000, cause := 2 }

/-- Ring 0 has fetched eight bytes of zeros as the table of descriptor `d`. -/
def Wtab (d : List Byte) : State :=
  { Wx d .fetching W with
    hl := { W.hl with inbox := [({ tag := 0, fn := 0, addr := 0, len := 8, issuer := .table 0 }, List.replicate 8 0)] } }

/-- The header of a report or grant cell of cell `k`, and of a message from node `n` to all. -/
def hdrFor (k : Nat) : Nat := 256 * k
def toAll (n : Nat) : Nat := 33 * n

/-- Wf with the downlink frame `d` under way. -/
def Wdown (f : FieldDie) (d : DownFrame) : State := { Wf f with ez := { (Wf f).ez with down := some d } }

/-- An epoch that ended at 1 ms with one channel, and a sensor schedule entry. -/
def epoch1 : PeEpoch :=
  { start := 0, endT := 1000000, no := 1, config := 0x00C800FF, dispute := 0x258141F4, tol := 0, motion := 0, path := 0, ocv := [],
    chans := [{ ch := 0, gang := false, gen := 0, stream := 0, expo := 0 }], ganged := [] }
def snE : List Byte := bytesOf 32 (4 * 2 ^ 16 + 1 * 2 ^ 24 + 1 * 2 ^ 96 + 8 * 2 ^ 136)

/-- A good sheet of 65 bytes with no entries; its CRC-32 was computed from R43 by hand outside the model. -/
def goodSheet : List Byte :=
  bytesOf 65 (0x53435A58 + 0x40 * 2 ^ 96 + 0x40 * 2 ^ 128 + 0x40 * 2 ^ 160 + 0x40 * 2 ^ 192 + 65 * 2 ^ 224 + 0x1EABAD78 * 2 ^ 256)

/-- What command `c` leaves of `s`. -/
def after (c : Instr) (s : State) : State := match exec c s with | .next t => t | _ => s

/-! ### Helpers of the witnesses -/

/-- What one entry of a table does not touch stands at its default. -/
theorem get_one {α : Type} (k m : Nat) (a d : α) (P : α → Prop) (ha : P a) (hd : P d) : P (Tab.get [(k, a)] m d) := by
  by_cases h : k = m <;> simp [Tab.get, Tab.find, h, ha, hd]

theorem get_one_other {α : Type} (k m : Nat) (a d : α) (h : m ≠ k) : Tab.get [(k, a)] m d = d := by
  simp [Tab.get, Tab.find, Ne.symm h]

theorem reset_from_reset : FromReset State.reset :=
  { power := rfl, up := by decide, checking := rfl, standby := rfl, noWake := rfl, link := rfl, rings := rfl, ar := rfl, chs := rfl,
    mis := rfl, stop := rfl, pres := rfl, th := rfl
    off := fun d h => by
      simp only [List.mem_cons, List.not_mem_nil, or_false, not_or] at h
      simp [State.dom, State.reset, Tab.get, Tab.find, Ne.symm h.1, Ne.symm h.2.1, Ne.symm h.2.2] }

theorem next_none (n : Nat) : spNext (spConfig W) n = none := by
  have h : spConfig W n = spConfigReset n := rfl
  unfold spNext; rw [h]; unfold spConfigReset
  by_cases h0 : n = 0
  · subst h0; rfl
  · rw [if_neg h0]; rfl

set_option maxRecDepth 8000

/-! ### The smoke test of WellFormed: an ill-formed command for each check -/

theorem test_illformed_operands :
    [Instr.powerLoss [], .powerLoss [(0, 1)], .powerLoss [(9, 1)], .reset 2, .registerWrite 0 0x100000 0, .registerWrite 0 2 0, .pressAccepted (2 ^ 48),
      .domFail 0, .domFail 148, .domainUpPhaseEnd 160, .islandTimeCorrection 1 0, .xingTimeout 0 1 true 0, .linkUp 0 1, .linkUp 5 1, .linkUp 1 3,
      .functionLevelReset 5 0 none, .msixUnmask 2 4, .vectorIntervalEnd 11, .vectorIntervalEnd 24, .dmaCompletion 256 0 [],
      .dmaCompletion 0 1 [], .ecrcError 0 (some 256), .bar2Access 0 0x4000 4 false 0, .cxlMemRead 4 0 0 false, .cxlMemRead 0 0 9 false,
      .cxlMemWrite 0 63 [1, 2] false, .injectPoison 0 32, .hdmCommit 0 (2 ^ 64) 0 1 true, .setLdAllocations [1]].all (fun c => !c.wellFormed) = true := by decide

theorem test_illformed_numbers :
    [Instr.badDescriptor 4, .moderationTimeout 12, .recordCommit 131 0 [], .recordCommit 3 16 [], .cascadeForward 16 false, .slotWrite 8 false, .archiveTrainingDone (some 2),
      .pwmPeriodBoundary 64 [], .pwmPeriodBoundary 0 [[], [], [], [], []], .normalTrip 0 4 0 0 0, .hardTrip 0 4 0, .modFault 0 3, .roundBoundary (2 ^ 17),
      .sync 2 0x1000 (List.replicate 16 0), .sync 0 0x2000 (List.replicate 16 0), .sync 0 0x1000 [], .badCell 0 [] true true,
      .portDown 0 0, .portDown 0 4, .regrade 0 64, .inputAccepted 24 0 0 0, .supplyConditionEnd 4, .swOverload 16, .clampEnd 24,
      .regulationPeriod 8 0 0, .regulationPeriod 0 0 1001, .drvTrip 0 2 0 0 0, .downlinkFrame (some (2 ^ 256)) ⟨0, 0, 0⟩,
      .sampleWindowEnd 0 [⟨5, 0, 0, 0⟩, ⟨5, 0, 0, 0⟩] [] 0, .sampleWindowEnd 0 [] [] 10001, .emptyCell 0 0x1000 (List.replicate 16 0) true,
      .unwrap 2 true].all (fun c => !c.wellFormed) = true := by decide

theorem test_illformed_fixtures :
    [Instr.canErrorStateChange 2 0 0, .canErrorStateChange 0 512 0, .canErrorStateChange 0 0 256, .canFrameAcknowledged 0 0 0 256,
      .canFrameRx 0 { id := 2 ^ 32, dlc := 0, esi := false, data := [] } 0 0,
      .canFrameRx 0 { id := 0, dlc := 16, esi := false, data := [] } 0 0, .quadratureEdge 4 true true 0, .lineFault 0 3, .scrubAccess 3,
      .islandSelftestDone 19 15 0, .islandSelftestDone 20 64 0, .configurationRequest 5 .vendorId none, .configurationRequest 0 (.bar 6) none,
      .configurationRequest 0 .memorySpace (some (2 ^ 32)),
      .illegalWord 8].all (fun c => !c.wellFormed) = true := by decide

theorem test_wellformed :
    [Instr.powerLoss [(1, 0), (8, 5000)], .registerWrite 1 0xFFFFC 0, .domFail 147, .linkUp 4 4, .cxlMemRead 3 (2 ^ 64 - 64) 8 true, .domainUpPhaseEnd 159, .pwmPeriodBoundary 63 [],
      .sync 1 0x1FFF (List.replicate 16 0), .scrubAccess 2, .illegalWord 7].all (·.wellFormed) = true := by decide

/-! ### Worked cases of the spec -/

/-- The restored time of the worked case of *Safelight and Power States*. -/
theorem test_restored_time : restoredTime 5184000000123456 943718407 125 = 5212799640341576 := by decide

/-- CI37 of the worked case of *The Contact Sheet* starts at 0x0008_5000. -/
theorem test_ci37_base : Blk.dv.addr 37 0 = 0x85000 := by decide

/-- CS_STATUS of the worked case of *The Contact Sheet* reads 0x0000_0002. -/
theorem test_cs_status_good : csStatus W = 2 := by decide

/-- The log entry of the worked case of *Physical Presence* reads 0x0000_2807 and 0x0012_3450. -/
theorem test_seal_log_words :
    let s := Wr [(0x52004, 7)] { W with sl := { log := [(7, { ticks := 0x1234500000, kind := 2, state := 2, seq := 7 })] } }
    regValue s .pr 0 (regOf 0x52010) = 0x00002807 ∧
      (after (.splitLoRead 0 0x52010) s).regs.shadow.get (reqKey 0x52014 0) 0 = 0x00123450 := by decide

/-- REQ_W of ch0 and of ch1 in the worked case of *The Shutter*, with EFF_PERMIL 950. -/
theorem test_req_w :
    reqW (Wr [(0x46004, 950)] (Wc { chen := true, vFast := 3300000, icReq := -36000000 })) 0 = -112 ∧
      reqW (Wr [(0x46004, 950)] (Wc { chen := true, vFast := 3600000, icReq := 36000000 })) 0 = 137 := by decide +kernel

/-- The IEEE 802.3 CRC-32 (R43) of the digits 1 to 9, known as its check value. -/
theorem test_crc32 : crc32 ((List.range' 0x31 9).map (BitVec.ofNat 8)) = 0xCBF43926 := by decide

/-- The CRC-16 of R539 of the digits 1 to 9 is 0x29B1. -/
theorem test_crc16 : crc16 ((List.range' 0x31 9).map (BitVec.ofNat 8)) = 0x29B1 := by decide

/-- K28.5 (R534) at either running disparity is 0011111010 or its complement. -/
theorem test_comma : decodeSym false (encodeSym false .comma) = some .comma ∧ decodeSym true (encodeSym true .comma) = some .comma := by decide

/-- The package has 1,472 populated balls (R862). -/
theorem test_balls : ((List.range 40).map fun r => ((List.range 40).filter fun c => ballAt r c != .unpopulated).length).sum = 1472 := by
  decide +kernel

/-! ### Archive memory -/

theorem test_memory_of_reset : Memory.wf State.reset.ar.mem = true := by decide

theorem test_memory_forgets_zero : memWrite (memWrite [] 5 [1, 2, 3]) 6 [0] = [(5, 1), (7, 3)] := by decide

/-! ### Witnesses: states and operands that meet the hypotheses of each statement, clause by clause -/

theorem witness_SupplyCommandsComplete :
    (∃ (s : State), s.power = .off) ∧
    (∃ (s : State), s.power = .parked ∧ s.sl.counting = true ∧ s.sl.vcore = false) ∧
    (∃ (s : State) (rails : List (Nat × Nat)), s.power = .on ∧ (∃ e ∈ rails, railLost e.1 e.2 = true)) ∧
    (∃ (r mv : _), railLow r mv = true) ∧
    (∃ (r mv : _), 1 ≤ r ∧ r ≤ 8 ∧ railLow r mv = false) :=
  ⟨⟨{ W with power := .off }, rfl⟩,
    ⟨Wk { counting := true }, rfl, rfl, rfl⟩,
    ⟨W, [(1, 1), (2, 1)], rfl, by decide⟩,
    ⟨1, 1, rfl⟩,
    ⟨1, 5000, by decide, by decide, rfl⟩⟩

theorem witness_PowerStateCommandsComplete :
    (∃ (s : State), s.power = .parked ∧ s.sl.pending = true ∧ s.sl.vcore = true) ∧
    (∃ (s : State), HostReaches s 0 ∧ s.sheet.hold = false) ∧
    (∃ (s : State), HostReaches s 0 ∧ s.sheet.hold = false ∧ s.allDark = true ∧ (∀ n, (s.ch n).queued = false) ∧ s.sl.parking = none) ∧
    (∃ (s : State), s.power = .on ∧ s.sl.parking = some .drain ∧ (∀ d ∈ List.range' 20 128, domDown s d = true) ∧ recordsHeld s = 0) ∧
    (∃ (s : State), s.power = .on ∧ s.sl.parking = some .edge ∧ (∀ d ∈ [9, 10, 11, 12, 13, 14, 17, 18], domDown s d = true)) ∧
    (∃ (s : State) (at_ : _), alarmTick s = some at_ ∧ s.power = .parked ∧ s.sl.alarmed = false ∧ s.sl.pending = false ∧ bitOf (s.wr 0x51008 0xE) 5 =
      true) ∧
    (∃ (s : State) (p periods : _), s.power = .parked ∧ p < 2 ∧ isTone periods 0 = true ∧ s.sl.pending = false ∧ bitOf (s.wr 0x51008 0xE) (2 + p) =
      true) ∧
    (∃ (s : State) (dj : _), isRunning s = true ∧ s.tk.refclkOk = true ∧ s.sl.xtalOk = true ∧ 0 < dj) ∧
    (∃ (s : State), s.power = .on ∧ s.sl.xtalOk = true) ∧
    (∃ (s : State), s.power = .on ∧ s.sl.xtalOk = false) ∧
    (∃ (s : State) (tick p : _), s.power = .on ∧ s.sl.parkTick = some p ∧ s.sl.restoreDue = true ∧ s.isOn 16 = true ∧ p ≤ tick) ∧
    (∃ (s : State), s.power = .on) :=
  ⟨⟨Wk { pending := true, vcore := true }, rfl, rfl, rfl⟩,
    ⟨W, ⟨rfl, rfl, rfl, rfl, rfl, rfl⟩, rfl⟩,
    ⟨W, ⟨rfl, rfl, rfl, rfl, rfl, rfl⟩, rfl, rfl, fun _ => rfl, rfl⟩,
    ⟨{ W with doms := (List.range' 1 19).map fun d => (d, { st := .on }), sl := { parking := some .drain } }, rfl, rfl, by decide, rfl⟩,
    ⟨{ W with doms := [(16, { st := .on })], sl := { parking := some .edge } }, rfl, rfl, by decide⟩,
    ⟨Wr [(0x51008, 0x2E), (0x51018, 2)] (Wk { parkTick := some 7 }), 65543, rfl, rfl, rfl, rfl, rfl⟩,
    ⟨Wk {}, 1, List.replicate 32 800, rfl, by decide, rfl, rfl, rfl⟩,
    ⟨{ W with sl := { running := true } }, 1000000100, rfl, rfl, rfl, by decide⟩,
    ⟨Wp, rfl, rfl⟩,
    ⟨{ W with sl := { xtalOk := false } }, rfl, rfl⟩,
    ⟨{ W with sl := { parkTick := some 4, restoreDue := true, parkJt := 50 } }, 40, 4, rfl, rfl, rfl, rfl, by decide⟩,
    ⟨W, rfl⟩⟩

theorem witness_RegisterWritesComplete :
    (∃ (s : State) (f off v b i r : _), f < 2 ∧ HostReaches s f ∧ RegAt s off b i r ∧ r.acc = .rw ∧ (r.priv = .any ∨ r.priv = .p ∧ f = 0) ∧ isRwLow b
      r.off = false ∧ rwLow b r.off = none ∧ Quiet b r.off ∧ wholeTakes s b i r.off (merge b r.off (fieldsOf s.variant b i r) (s.wr (keyOf s b i
      r.off) (resetOf s b i r)) v).1 = true) ∧
    (∃ (s : State) (f off : _), HostReaches s f ∧ off < 0x40000) ∧
    (∃ (s : State) (off v b i r n : _), HostReaches s 0 ∧ RegAt s off b i r ∧ r.acc = .sq ∧ s.regs.snap.find (keyOf s b i r.off) = some n ∧ fld v 24 8 =
      n % 256) ∧
    (∃ (s : State) (off b i r : _), HostReaches s 0 ∧ RegAt s off b i r ∧ isRwLow b r.off = true) ∧
    (∃ (s : State) (off b i r lo w : _), HostReaches s 0 ∧ RegAt s off b i r ∧ rwLow b r.off = some lo ∧ s.regs.held.find (reqKey (keyOf s b i lo) 0) =
      some w) ∧
    (∃ (s : State) (f off : _), HostReaches s f ∧ 0x40000 ≤ off ∧ findReg s.variant off = none) ∧
    (∃ (s : State) (f : _), HostReaches s f) ∧
    (∃ (s : State) (off v b i r : _), s.power = .on ∧ s.isOn 15 = true ∧ s.dbgen = true ∧ s.pres.window ≠ none ∧ RegAt s off b i r ∧ r.acc = .rw ∧
      r.priv = .p ∧ isRwLow b r.off = false ∧ rwLow b r.off = none ∧ Quiet b r.off ∧ wholeTakes s b i r.off (merge b r.off (fieldsOf s.variant b i
      r) (s.wr (keyOf s b i r.off) (resetOf s b i r)) v).1 = true) :=
  ⟨⟨W, 0, 0x45008, 0x07FE07FE, .ar, 0, regOf 0x45008, by decide, ⟨rfl, rfl, rfl, rfl, rfl, rfl⟩, ⟨by decide, rfl, .inl rfl⟩, rfl, by decide, rfl, rfl,
      fun _ _ _ _ _ => rfl, rfl⟩,
    ⟨W, 1, 0x3FFFC, ⟨rfl, rfl, rfl, rfl, rfl, rfl⟩, by decide⟩,
    ⟨{ W with regs := { sqBit := [(0x42010 * 32 + 1, 3)], sqN := [(0x42010, 5)], snap := [(0x42010, 4)] } }, 0x42010, 0x04000003, .hl, 0, regOf 0x42010,
      4, ⟨rfl, rfl, rfl, rfl, rfl, rfl⟩, ⟨by decide, rfl, .inl rfl⟩, rfl, rfl, rfl⟩,
    ⟨W, 0x43008, .rg, 0, regOf 0x43008, ⟨rfl, rfl, rfl, rfl, rfl, rfl⟩, ⟨by decide, rfl, .inl rfl⟩, rfl⟩,
    ⟨{ W with regs := { held := [(reqKey 0x43008 0, 64)] } }, 0x4300C, .rg, 0, regOf 0x4300C, 8, 64, ⟨rfl, rfl, rfl, rfl, rfl, rfl⟩, ⟨by decide, rfl,
      .inl rfl⟩, rfl, rfl⟩,
    ⟨W, 1, 0x40010, ⟨rfl, rfl, rfl, rfl, rfl, rfl⟩, by decide, rfl⟩,
    ⟨W, 0, ⟨rfl, rfl, rfl, rfl, rfl, rfl⟩⟩,
    ⟨{ Wp with dbgen := true }, 0x45008, 0x07FE07FE, .ar, 0, regOf 0x45008, rfl, rfl, rfl, by decide, ⟨by decide, rfl, .inl rfl⟩, rfl, rfl, rfl, rfl,
      fun _ _ _ _ _ => rfl, rfl⟩⟩

theorem witness_RegisterReadsComplete :
    (∃ (s : State) (off b i r : _), HostReaches s 0 ∧ RegAt s off b i r ∧ r.acc = .sq) ∧
    (∃ (s : State) (off b i r : _), HostReaches s 0 ∧ RegAt s off b i r ∧ hasRc b r = true) ∧
    (∃ (s : State) (off b i r : _), HostReaches s 0 ∧ RegAt s off b i r ∧ hasCnt b r = true) ∧
    (∃ (s : State) (off b i r v : _), HostReaches s 0 ∧ RegAt s off b i r ∧ isShadow b r.off = false ∧ pairValue s b 0 r.off ≠ none ∧ pairValue s b i
      r.off = some v) ∧
    (∃ (s : State) (off b i r : _), HostReaches s 0 ∧ RegAt s off b i r ∧ isRwLow b r.off = true) ∧
    (∃ (s : State) (f off : _), HostReaches s f ∧ 0x40000 ≤ off ∧ findReg s.variant off = none) ∧
    (∃ (s : State) (off b i r : _), s.power = .on ∧ s.isOn 15 = true ∧ s.dbgen = true ∧ s.pres.window ≠ none ∧ RegAt s off b i r ∧ r.acc = .sq) :=
  ⟨⟨{ W with regs := { sqBit := [(0x42010 * 32 + 1, 3)], sqN := [(0x42010, 5)] } }, 0x42010, .hl, 0, regOf 0x42010, ⟨rfl, rfl, rfl, rfl, rfl, rfl⟩, ⟨by
      decide, rfl, .inl rfl⟩, rfl⟩,
    ⟨{ W with regs := { rc := [(0x4104C, 0x80000000)] } }, 0x4104C, .hub, 0, regOf 0x4104C, ⟨rfl, rfl, rfl, rfl, rfl, rfl⟩, ⟨by decide, rfl, .inl rfl⟩,
      rfl⟩,
    ⟨{ W with regs := { cnt := [(0x42024, 5)] } }, 0x42024, .hl, 0, regOf 0x42024, ⟨rfl, rfl, rfl, rfl, rfl, rfl⟩, ⟨by decide, rfl, .inl rfl⟩, rfl⟩,
    ⟨{ W with tk := { W.tk with now := 0x500000007 } }, 0x5300C, .tk, 0, regOf 0x5300C, 0x500000007, ⟨rfl, rfl, rfl, rfl, rfl, rfl⟩, ⟨by decide, rfl,
      .inl rfl⟩, rfl, by decide, rfl⟩,
    ⟨W, 0x43008, .rg, 0, regOf 0x43008, ⟨rfl, rfl, rfl, rfl, rfl, rfl⟩, ⟨by decide, rfl, .inl rfl⟩, rfl⟩,
    ⟨W, 1, 0x40010, ⟨rfl, rfl, rfl, rfl, rfl, rfl⟩, by decide, rfl⟩,
    ⟨{ Wp with dbgen := true }, 0x42010, .hl, 0, regOf 0x42010, rfl, rfl, rfl, by decide, ⟨by decide, rfl, .inl rfl⟩, rfl⟩⟩

theorem witness_RefusedWritesChangeNoRegister :
    (∃ (s : State) (off b i r : _), HostReaches s 1 ∧ RegAt s off b i r ∧ r.priv ≠ .any) ∧
    (∃ (s : State) (off b i r : _), HostReaches s 0 ∧ RegAt s off b i r ∧ (r.priv = .pp ∧ missingPp s ≠ 0 ∨ r.priv = .ps ∧ missingPs s ≠ 0)) :=
  ⟨⟨W, 0x44004, .sp, 0, regOf 0x44004, ⟨rfl, rfl, rfl, rfl, rfl, rfl⟩, ⟨by decide, rfl, .inl rfl⟩, by decide⟩,
    ⟨W, 0x46008, .sh, 0, regOf 0x46008, ⟨rfl, rfl, rfl, rfl, rfl, rfl⟩, ⟨by decide, rfl, .inl rfl⟩, by decide⟩⟩

theorem witness_RegisterCommandsComplete :
    (∃ (s : State) (v : _), HostReaches s 0 ∧ bitOf v 0 = true ∧ s.sheet.checking = false) ∧
    (∃ (s : State) (w : _), HostReaches s 0 ∧ s.sheet.hold = false ∧ s.pres.window = some w) ∧
    (∃ (s : State), HostReaches s 0 ∧ s.sheet.hold = false ∧ pollEn s = false) ∧
    (∃ (s : State) (r : _), HostReaches s 0 ∧ s.sheet.hold = false ∧ r < 4 ∧ ringEn s r = false ∧ (s.ring r).running = false) ∧
    (∃ (s : State) (r : _), HostReaches s 0 ∧ s.sheet.hold = false ∧ r < 4 ∧ ringEn s r = true ∧ (s.ring r).exec = none ∧ (s.ring r).cpl = none ∧
      (s.ring r).again = false) ∧
    (∃ (s : State), HostReaches s 0 ∧ s.sheet.hold = false ∧ s.rg.timer = none) ∧
    (∃ (s : State) (p : _), HostReaches s 0 ∧ s.sheet.hold = false ∧ p < 2 ∧ s.isOn (11 + p) = true ∧ portUp s p = false ∧ toneSending s p = false) ∧
    (∃ (s : State), HostReaches s 0 ∧ s.sheet.hold = false) ∧
    (∃ (s : State), HostReaches s 0 ∧ s.sheet.hold = false ∧ (s.mm.unexpHit.find (fld (s.wr 0x4F004 0) 0 8)).all (fun h => h.at_ != s.tk.clk) = true ∧
      (s.mm.ueHit.find (fld (s.wr 0x4F004 0) 0 8)).all (fun h => h.at_ != s.tk.clk) = true) ∧
    (∃ (s : State) (v h : _), HostReaches s 0 ∧ s.sheet.hold = false ∧ bitOf v 0 = true ∧ s.mm.unexpHit.find (fld (s.wr 0x4F004 0) 0 8) = some h ∧ h.at_
      = s.tk.clk ∧ h.latched = false) ∧
    (∃ (s : State) (v d : _), HostReaches s 0 ∧ s.sheet.hold = false ∧ s.allDark = true ∧ d ∈ [9, 10, 11, 12, 13, 14, 17] ∧ bitOf v d ≠ domEnabled s d) ∧
    (∃ (s : State) (v d : _), HostReaches s 0 ∧ s.sheet.hold = false ∧ d ∈ [9, 10, 11, 12, 13, 14, 17] ∧ bitOf v d = true ∧ (s.dom d).st = .fenced) ∧
    (∃ (s : State) (n : _), HostReaches s 0 ∧ s.sheet.hold = false ∧ s.isOn 10 = true ∧ s.present n = true ∧ s.fx.grade.find n = none) ∧
    (∃ (s : State) (n g : _), HostReaches s 0 ∧ s.sheet.hold = false ∧ s.isOn 10 = true ∧ s.present n = true ∧ s.fx.grade.find n = some g) ∧
    (∃ (s : State) (b : _), HostReaches s 0 ∧ s.sheet.hold = false ∧ b < 2) ∧
    (∃ (s : State) (b : _), HostReaches s 0 ∧ s.sheet.hold = false ∧ b < 2) :=
  ⟨⟨W, 1, ⟨rfl, rfl, rfl, rfl, rfl, rfl⟩, rfl, rfl⟩,
    ⟨Wp, 0, ⟨rfl, rfl, rfl, rfl, rfl, rfl⟩, rfl, rfl⟩,
    ⟨Wr [(0x43008, 64)] W, ⟨rfl, rfl, rfl, rfl, rfl, rfl⟩, rfl, rfl⟩,
    ⟨W, 3, ⟨rfl, rfl, rfl, rfl, rfl, rfl⟩, rfl, by decide, rfl, rfl⟩,
    ⟨Wr [(0x43000, 0x401)] { W with rg := { ring := [(0, { running := true })] } }, 0, ⟨rfl, rfl, rfl, rfl, rfl, rfl⟩, rfl, by decide, rfl, rfl, rfl,
      rfl⟩,
    ⟨W, ⟨rfl, rfl, rfl, rfl, rfl, rfl⟩, rfl, rfl⟩,
    ⟨W, 1, ⟨rfl, rfl, rfl, rfl, rfl, rfl⟩, rfl, by decide, rfl, rfl, rfl⟩,
    ⟨W, ⟨rfl, rfl, rfl, rfl, rfl, rfl⟩, rfl⟩,
    ⟨{ W with mm := { unexp := [(0, 1)], ue := [(0, 2)] } }, ⟨rfl, rfl, rfl, rfl, rfl, rfl⟩, rfl, rfl, rfl⟩,
    ⟨{ W with mm := { unexp := [(0, 1)], unexpHit := [(0, { word := 7, at_ := 1000000, latched := false })] } }, 1,
      { word := 7, at_ := 1000000, latched := false }, ⟨rfl, rfl, rfl, rfl, rfl, rfl⟩, rfl, rfl, rfl, rfl, rfl⟩,
    ⟨W, 0x00067C00, 9, ⟨rfl, rfl, rfl, rfl, rfl, rfl⟩, rfl, rfl, by decide, by decide⟩,
    ⟨{ W with doms := doms.put 9 { st := .fenced } }, 0x200, 9, ⟨rfl, rfl, rfl, rfl, rfl, rfl⟩, rfl, by decide, rfl, rfl⟩,
    ⟨W, 63, ⟨rfl, rfl, rfl, rfl, rfl, rfl⟩, rfl, rfl, rfl, rfl⟩,
    ⟨{ W with fx := { grade := [(5, { gen := 3, cap := none, energy := none, dcir := none, ocv := none, sd := none, capConf := 0, dcirConf := 0, ocvConf := 0, sdConf := 0, dispute := false, early := false, seq := 0 })] } },
      5,
      { gen := 3, cap := none, energy := none, dcir := none, ocv := none, sd := none, capConf := 0, dcirConf := 0, ocvConf := 0, sdConf := 0, dispute := false, early := false, seq := 0 },
      ⟨rfl, rfl, rfl, rfl, rfl, rfl⟩, rfl, rfl, rfl, rfl⟩,
    ⟨W, 1, ⟨rfl, rfl, rfl, rfl, rfl, rfl⟩, rfl, by decide⟩,
    ⟨Wb { sleep := true, depth := .asleep }, 0, ⟨rfl, rfl, rfl, rfl, rfl, rfl⟩, rfl, by decide⟩⟩

theorem witness_PresenceCommandsComplete :
    (∃ (s : State), s.power = .on ∧ s.isOn 19 = true ∧ s.sl.xtalOk = true ∧ s.sl.button = false ∧ s.pres.stuck = false ∧ s.sheet.hold = false) ∧
    (∃ (s : State), s.power = .on ∧ s.isOn 19 = true ∧ s.sl.xtalOk = true ∧ s.sl.button = true) ∧
    (∃ (s : State), s.power = .parked ∧ s.sl.xtalOk = true ∧ s.sl.button = false ∧ s.sl.pending = false ∧ bitOf (s.wr 0x51008 0xE) 1 = true) ∧
    (∃ (s : State) (w : _), s.power = .on ∧ s.pres.window = some w) ∧
    (∃ (s : State), s.power = .on) ∧
    (∃ (s : State) (o : _), s.power = .on ∧ s.pres.sample = some o ∧ s.sl.sample = some o ∧ s.sl.seal_ = some (!o)) ∧
    (∃ (s : State), s.power = .on ∧ s.isOn 19 = true) ∧
    (∃ (s : State), s.power ≠ .off) :=
  ⟨⟨W, rfl, rfl, rfl, rfl, rfl, rfl⟩,
    ⟨{ W with sl := { button := true } }, rfl, rfl, rfl, rfl⟩,
    ⟨Wk {}, rfl, rfl, rfl, rfl, rfl⟩,
    ⟨Wp, 0, rfl, rfl⟩,
    ⟨Wp, rfl⟩,
    ⟨{ W with pres := { sample := some true }, sl := { sample := some true, seal_ := some false, logged := 17 } }, true, rfl, rfl, rfl, rfl⟩,
    ⟨W, rfl, rfl⟩,
    ⟨{ W with pres := { stuck := true, pressed := true } }, by decide⟩⟩

theorem witness_DomainCommandsComplete :
    (∃ (s : State) (d : _), s.power = .on ∧ d < 148 ∧ (s.dom d).st = .up ∧ (s.dom d).phase = .rail) ∧
    (∃ (s : State) (d : _), s.power = .on ∧ d < 148 ∧ (s.dom d).st = .up ∧ (s.dom d).phase = .fll) ∧
    (∃ (s : State) (d : _), s.power = .on ∧ d < 148 ∧ (s.dom d).st = .up ∧ (s.dom d).phase = .release) ∧
    (∃ (s : State) (d : _), s.power = .on ∧ s.field.powered = true ∧ 148 ≤ d ∧ d < 160 ∧ (s.dom d).st = .up) ∧
    (∃ (s : State) (d : _), s.power = .on ∧ (s.dom d).st = .up ∧ ((s.dom d).phase = .rail ∨ (s.dom d).phase = .fll)) ∧
    (∃ (s : State) (d : _), s.power = .on ∧ (s.dom d).st = .down ∧ (s.dom d).phase = .quiesce) ∧
    (∃ (s : State) (d : _), s.power = .on ∧ (s.dom d).st = .down ∧ (s.dom d).phase ≠ .quiesce) ∧
    (∃ (s : State) (d mask : _), s.power = .on ∧ (s.dom d).st = .on ∧ (s.dom d).testing = true ∧ (if d < 84 then mask % 16 = 15 else mask / 16 % 4 = 3)) ∧
    (∃ (s : State) (d mask : _), s.power = .on ∧ isFenceable s d = true ∧ 20 ≤ d ∧ (s.dom d).st = .on ∧ (s.dom d).testing = true ∧ ¬ (if d < 84 then
      mask % 16 = 15 else mask / 16 % 4 = 3)) ∧
    (∃ (s : State) (d own value : _), s.power = .on ∧ s.isOn d = true ∧ (s.dom d).strobe = some ((own : Nat), (value : Nat))) :=
  ⟨⟨Wd 9 { st := .up, phase := .rail }, 9, rfl, by decide, rfl, rfl⟩,
    ⟨Wd 147 { st := .up, phase := .fll }, 147, rfl, by decide, rfl, rfl⟩,
    ⟨Wd 20 { st := .up, phase := .release }, 20, rfl, by decide, rfl, rfl⟩,
    ⟨{ Wf {} with doms := doms.put 149 { st := .up, target := true } }, 149, rfl, rfl, by decide, by decide, rfl⟩,
    ⟨Wd 10 { st := .up, phase := .rail }, 10, rfl, rfl, by decide⟩,
    ⟨Wd 9 { st := .down, phase := .quiesce }, 9, rfl, rfl, rfl⟩,
    ⟨Wd 9 { st := .down, phase := .isolate }, 9, rfl, rfl, by decide⟩,
    ⟨Wd 20 { st := .on, testing := true }, 20, 15, rfl, rfl, rfl, by decide⟩,
    ⟨Wd 84 { st := .on, testing := true }, 84, 0, rfl, rfl, by decide, rfl, rfl, by decide⟩,
    ⟨Wd 9 { st := .on, target := true, strobe := some (999000, 999936) }, 9, 999000, 999936, rfl, rfl, rfl⟩⟩

theorem witness_TimeCommandsComplete :
    (∃ (s : State), s.power = .on ∧ s.isOn 16 = true) ∧
    (∃ (s : State) (d : _), s.power = .on ∧ s.isOn 16 = true ∧ d ∈ List.range' 1 147 ∧ (holdingBack s = true → d = 1) ∧ (s.dom d).st = .up ∧ (s.dom
      d).phase = .beacon ∧ (s.dom d).target = true ∧ (s.dom d).readmit = false) ∧
    (∃ (s : State), s.power = .on ∧ s.isOn 16 = true) ∧
    (∃ (s : State), s.power = .on ∧ s.isOn 16 = true ∧ s.tk.waitTsync = true ∧ tsyncLate s = false) ∧
    (∃ (s : State), s.power = .on ∧ s.isOn 16 = true ∧ s.tk.waitTsync = true ∧ tsyncLate s = true) ∧
    (∃ (s : State), s.power = .on ∧ s.isOn 16 = true ∧ s.tk.waitTsync = false ∧ s.tk.published = true) ∧
    (∃ (s : State), s.power = .on ∧ s.isOn 16 = true ∧ s.tk.waitTsync = true) ∧
    (∃ (s : State), s.power = .on ∧ s.tk.refclkOk = true) ∧
    (∃ (s : State), s.power = .on ∧ s.tk.refclkOk = false) :=
  ⟨⟨W, rfl, rfl⟩,
    ⟨Wd 9 { st := .up, phase := .beacon, target := true }, 9, rfl, rfl, by decide, by decide, rfl, rfl, rfl, rfl⟩,
    ⟨W, rfl, rfl⟩,
    ⟨{ W with tk := { waitTsync := true, now := 5 } }, rfl, rfl, rfl, by decide +kernel⟩,
    ⟨{ W with tk := { W.tk with waitTsync := true, clk := 3000000000 } }, rfl, rfl, rfl, by decide +kernel⟩,
    ⟨{ W with tk := { published := true, now := 1999999999 } }, rfl, rfl, rfl, rfl⟩,
    ⟨{ W with tk := { waitTsync := true, now := 5 } }, rfl, rfl, rfl⟩,
    ⟨W, rfl, rfl⟩,
    ⟨{ W with tk := { refclkOk := false } }, rfl, rfl⟩⟩

theorem witness_FenceAndStopCommandsComplete :
    (∃ (s : State) (a b : _) (rose : Bool), s.power = .on ∧ s.isOn a = true ∧ s.isOn b = true ∧ isFenceable s (if rose then a else b) = true) ∧
    (∃ (s : State) (d : _), s.power = .on ∧ s.isOn d = true) ∧
    (∃ (s : State) (n : _), s.power = .on ∧ n < s.variant.channels ∧ s.isOn (ciDom n) = true ∧ fld (sbConfig s) 0 8 ≤ (s.sh.ch.get n {}).missed) ∧
    (∃ (s : State) (n : _), s.power = .on ∧ n < s.variant.channels ∧ s.isOn (miDom n) = true) ∧
    (∃ (s : State) (v held : _), s.power = .on ∧ s.isOn 19 = true ∧ 63000 < v ∧ 2000 ≤ held) ∧
    (∃ (s : State) (v held : _), s.power = .on ∧ s.isOn 19 = true ∧ v < 18000 ∧ 50000 ≤ held ∧ s.allDark = false) ∧
    (∃ (s : State), s.sb.pinLow = false ∧ s.isOn 19 = true) :=
  ⟨⟨W, 20, 9, true, rfl, rfl, rfl, rfl⟩,
    ⟨W, 14, rfl, rfl⟩,
    ⟨{ W with sh := { ch := [(0, { missed := 255 })] } }, 0, rfl, by decide, rfl, by decide⟩,
    ⟨W, 3, rfl, by decide, rfl⟩,
    ⟨W, 63001, 2000, rfl, rfl, by decide, by decide⟩,
    ⟨Wc { st := .running }, 17999, 50000, rfl, rfl, by decide, by decide, rfl⟩,
    ⟨W, rfl, rfl⟩⟩

theorem witness_LinkCommandsComplete :
    (∃ (s : State), s.power = .on ∧ s.hl.perst = false) ∧
    (∃ (s : State), s.power = .on ∧ s.hl.link = .down ∧ s.sheet.checked = true) ∧
    (∃ (s : State) (speed width : _), s.power = .on ∧ s.hl.link = .training ∧ s.isOn 2 = true ∧ 1 ≤ speed ∧ speed ≤ fld (linkCap s) 4 4 ∧ width ∈ [1, 2,
      4] ∧ width ≤ fld (linkCap s) 0 4) ∧
    (∃ (s : State), s.power = .on ∧ s.hl.link = .up ∧ s.hl.perst = false) ∧
    (∃ (s : State) (f : _), s.power = .on ∧ s.hl.link = .up ∧ fnExists s f = true ∧ (s.fn f).flr = false) ∧
    (∃ (s : State), s.power = .on ∧ (s.fn 0).flr = true) ∧
    (∃ (s : State) (f : _), s.power = .on ∧ s.hl.link = .up ∧ fnExists s f = true) ∧
    (∃ (s : State) (v : _), s.power = .on ∧ s.hl.link = .up ∧ 1 ≤ v ∧ v ≤ fld (linkCap s) 4 4 ∧ v ≠ s.hl.speed) ∧
    (∃ (s : State) (v : _), s.power = .on ∧ s.hl.link = .up ∧ v ∈ [1, 2, 4] ∧ v ≤ fld (linkCap s) 0 4 ∧ v ≠ s.hl.width) ∧
    (∃ (s : State), s.power = .on ∧ s.hl.link = .up ∧ (polling s = false ∨ 8 < pollUsW s)) ∧
    (∃ (s : State), s.power = .on) ∧
    (∃ (s : State) (f : _), s.power = .on ∧ s.hl.link = .up ∧ fnExists s f = true ∧ (s.fn f).flr = false ∧ ((s.fn f).ready = true ∨ readyBy s ≤
      s.tk.clk)) ∧
    (∃ (s : State) (f v : _), s.power = .on ∧ s.hl.link = .up ∧ fnExists s f = true ∧ (s.fn f).flr = false ∧ ((s.fn f).ready = true ∨ readyBy s ≤
      s.tk.clk) ∧ (v % 4 = 0 ∨ v % 4 = 3)) ∧
    (∃ (s : State) (f : _), s.power = .on ∧ s.hl.link = .up ∧ fnExists s f = true ∧ (s.fn f).flr = false ∧ ((s.fn f).ready = true ∨ readyBy s ≤
      s.tk.clk)) ∧
    (∃ (s : State) (f : _), s.power = .on ∧ s.hl.link = .up ∧ fnExists s f = true ∧ (s.fn f).flr = true) ∧
    (∃ (s : State) (f : _), s.power = .on ∧ s.hl.link = .up ∧ fnExists s f = false) :=
  ⟨⟨W, rfl, rfl⟩,
    ⟨{ W with hl := { perst := true } }, rfl, rfl, rfl⟩,
    ⟨{ W with hl := { link := .training } }, 4, 4, rfl, rfl, rfl, by decide, by decide, by decide, by decide⟩,
    ⟨Wr [(0x43000, 0x41F)] W, rfl, rfl, rfl⟩,
    ⟨{ W with regs := { snap := [(0x42010, 3)] } }, 0, rfl, rfl, rfl, rfl⟩,
    ⟨{ W with hl := { W.hl with fns := [(0, { flr := true })] } }, rfl, rfl⟩,
    ⟨W, 1, rfl, rfl, rfl⟩,
    ⟨W, 4, rfl, rfl, by decide, by decide, by decide⟩,
    ⟨W, 1, rfl, rfl, by decide, by decide, by decide⟩,
    ⟨W, rfl, rfl, by decide⟩,
    ⟨{ W with hl := { W.hl with inL1 := true } }, rfl⟩,
    ⟨{ W with hl := { W.hl with fns := [(4, { ready := true })] } }, 4, rfl, rfl, rfl, rfl, by decide⟩,
    ⟨W, 0, 3, rfl, rfl, rfl, rfl, by decide, by decide⟩,
    ⟨W, 0, rfl, rfl, rfl, rfl, by decide⟩,
    ⟨{ W with hl := { W.hl with fns := [(0, { flr := true })] } }, 0, rfl, rfl, rfl, rfl⟩,
    ⟨W, 5, rfl, rfl, rfl⟩⟩

theorem witness_MessageCommandsComplete :
    (∃ (s : State) (f v : _), s.power = .on ∧ fnExists s f = true ∧ (s.fn f).pba.has v = true ∧ s.canSend f = true ∧ (f ≠ 0 ∨ v < 12)) ∧
    (∃ (s : State) (f v : _), s.power = .on ∧ fnExists s f = true ∧ (s.fn f).pba.has v = false) ∧
    (∃ (s : State) (v at_ : _), s.power = .on ∧ s.hl.spaced.find v = some at_ ∧ (s.fn 0).pba.has v = false) ∧
    (∃ (s : State) (f k w : _), HostReaches s f ∧ k < 4 * msixEntries f ∧ k % 4 ≠ 3 ∧ w < 2 ^ 32) ∧
    (∃ (s : State) (f k : _), HostReaches s f ∧ k < 4 * msixEntries f) ∧
    (∃ (s : State), s.power = .on ∧ s.hl.ptmEn = true ∧ s.hl.link = .up ∧ s.hl.dialog = none ∧ s.hl.ptmAt = none) ∧
    (∃ (s : State) (t0 : _), s.power = .on ∧ s.hl.ptmEn = true ∧ s.hl.link = .up ∧ s.hl.dialog = none ∧ s.hl.ptmAt = some t0) ∧
    (∃ (s : State) (c t1 : _), s.power = .on ∧ s.hl.dialog = some (c, t1)) ∧
    (∃ (s : State) (c t1 : _), s.power = .on ∧ s.hl.dialog = some (c, t1)) :=
  ⟨⟨{ W with hl := { W.hl with fns := [(0, { bme := true, memEn := true, msixEn := true, pba := [(11, ())] })] } }, 0, 11, rfl, rfl, rfl, rfl, by
      decide⟩,
    ⟨W, 0, 23, rfl, rfl, rfl⟩,
    ⟨{ W with hl := { W.hl with spaced := [(12, 5)] } }, 12, 5, rfl, rfl, rfl⟩,
    ⟨W, 0, 4, 7, ⟨rfl, rfl, rfl, rfl, rfl, rfl⟩, by decide, by decide, by decide⟩,
    ⟨W, 0, 3, ⟨rfl, rfl, rfl, rfl, rfl, rfl⟩, by decide⟩,
    ⟨{ W with hl := { W.hl with ptmEn := true } }, rfl, rfl, rfl, rfl, rfl⟩,
    ⟨{ W with hl := { W.hl with ptmEn := true, ptmAt := some 5 } }, 5, rfl, rfl, rfl, rfl, rfl⟩,
    ⟨{ W with hl := { W.hl with dialog := some (5, 6) } }, 5, 6, rfl, rfl⟩,
    ⟨{ W with hl := { W.hl with dialog := some (5, 6) } }, 5, 6, rfl, rfl⟩⟩

theorem witness_DmaAndErrorCommandsComplete :
    (∃ (s : State) (tag q : _), s.power = .on ∧ s.hl.reqs.find? (fun q => q.tag == tag) = some q ∧ q.dead = true) ∧
    (∃ (s : State) (tag q : _) (data : List Byte), s.power = .on ∧ s.hl.reqs.find? (fun q => q.tag == tag) = some q ∧ q.dead = false ∧ data.length =
      q.len) ∧
    (∃ (s : State) (tag q : _), s.power = .on ∧ s.hl.reqs.find? (fun q => q.tag == tag) = some q ∧ (s.fn q.fn).timeoutOff = false) ∧
    (∃ (s : State), s.power = .on) ∧
    (∃ (s : State) (f : _), s.power = .on ∧ (s.fn f).ecrcCheck = true) ∧
    (∃ (s : State), s.power = .on) ∧
    (∃ (s : State) (k : _), s.power = .on ∧ k < 3) ∧
    (∃ (s : State) (k : _), s.power = .on ∧ 3 ≤ k ∧ k < 6) ∧
    (∃ (s : State) (k : _), s.power = .on ∧ (k = 6 ∨ k = 7)) ∧
    (∃ (s : State), s.power = .on ∧ s.hl.link = .up ∧ s.hl.perst = false) ∧
    (∃ (s : State), s.power = .on ∧ s.hl.cxl = true) :=
  ⟨⟨{ W with hl := { W.hl with reqs := [{ tag := 3, fn := 0, addr := 64, len := 2, issuer := .poll, dead := true }] } }, 3,
      { tag := 3, fn := 0, addr := 64, len := 2, issuer := .poll, dead := true }, rfl, rfl, rfl⟩,
    ⟨{ W with hl := { W.hl with reqs := [{ tag := 3, fn := 0, addr := 64, len := 2, issuer := .poll }] } }, 3,
      { tag := 3, fn := 0, addr := 64, len := 2, issuer := .poll }, [1, 2], rfl, rfl, rfl, rfl⟩,
    ⟨{ W with hl := { W.hl with reqs := [{ tag := 3, fn := 0, addr := 64, len := 2, issuer := .poll }] } }, 3,
      { tag := 3, fn := 0, addr := 64, len := 2, issuer := .poll }, rfl, rfl, rfl⟩,
    ⟨W, rfl⟩,
    ⟨{ W with hl := { W.hl with fns := [(0, { ecrcCheck := true })] } }, 0, rfl, rfl⟩,
    ⟨W, rfl⟩,
    ⟨W, 2, rfl, by decide⟩,
    ⟨W, 5, rfl, by decide, by decide⟩,
    ⟨W, 7, rfl, by decide⟩,
    ⟨W, rfl, rfl, rfl⟩,
    ⟨W, rfl, rfl⟩⟩

theorem witness_CxlMemCommandsComplete :
    (∃ (s : State) (l a o : _), s.power = .on ∧ s.hl.cxl = true ∧ s.hl.link = .up ∧ hdmHit s l a = some o ∧ o / 64 * 64 < hbBase ∧ mayAccess s l (o / 64
      * 64) false = true ∧ linePoison s (o / 64 * 64) = false) ∧
    (∃ (s : State) (l a o : _), s.power = .on ∧ s.hl.cxl = true ∧ s.hl.link = .up ∧ hdmHit s l a = some o ∧ o / 64 * 64 < hbBase ∧ mayAccess s l (o / 64
      * 64) false = true ∧ linePoison s (o / 64 * 64) = false) ∧
    (∃ (s : State) (l a o : _), s.power = .on ∧ s.hl.cxl = true ∧ s.hl.link = .up ∧ hdmHit s l a = some o ∧ hbBase ≤ o / 64 * 64 ∧ s.ar.fail = none) ∧
    (∃ (s : State) (l a : _), s.power = .on ∧ s.hl.cxl = true ∧ s.hl.link = .up ∧ hdmHit s l a = none) ∧
    (∃ (s : State) (l a o : _), s.power = .on ∧ s.hl.cxl = true ∧ s.hl.link = .up ∧ hdmHit s l a = some o ∧ o / 64 * 64 < hbBase ∧ mayAccess s l (o / 64
      * 64) false = false) ∧
    (∃ (s : State) (l a o : _) (bytes : List Byte), s.power = .on ∧ s.hl.cxl = true ∧ s.hl.link = .up ∧ hdmHit s l a = some o ∧ s.ar.fail = none ∧ o /
      64 * 64 < hbBase ∧ mayAccess s l o true = true ∧ bytes ≠ [] ∧ o + bytes.length ≤ o / 64 * 64 + 64) ∧
    (∃ (s : State) (l a o : _) (bytes : List Byte), s.power = .on ∧ s.hl.cxl = true ∧ s.hl.link = .up ∧ hdmHit s l a = some o ∧ s.ar.fail = none ∧ o /
      64 * 64 < hbBase ∧ mayAccess s l o true = true ∧ bytes ≠ []) ∧
    (∃ (s : State) (l a : _) (bytes : List Byte), s.power = .on ∧ s.hl.cxl = true ∧ s.hl.link = .up ∧ l < 4 ∧ hdmHit s l a = some (hbBase + 64 * l) ∧
      s.ar.fail = none ∧ bytes.length = 12) ∧
    (∃ (s : State) (l a o : _) (bytes : List Byte), s.power = .on ∧ s.hl.cxl = true ∧ s.hl.link = .up ∧ hdmHit s l a = some o ∧ s.ar.fail = none ∧ o /
      64 * 64 < hbBase ∧ mayAccess s l o true = false ∧ bytes ≠ []) ∧
    (∃ (s : State) (l base : _), s.power = .on ∧ mailboxOpen s l = true ∧ (s.ld l).locked = false ∧ base % 0x10000000 = 0) ∧
    (∃ (s : State) (l base size ways : _), s.power = .on ∧ mailboxOpen s l = true ∧ (s.ld l).locked = false ∧ ¬ (base % 0x10000000 = 0 ∧ size = 2 ^ 32 ∧
      ways = 1)) :=
  ⟨⟨Wl, 0, 0x10000005, 5, rfl, rfl, rfl, by decide +kernel, by decide, rfl, rfl⟩,
    ⟨Wl, 0, 0x10000005, 5, rfl, rfl, rfl, by decide +kernel, by decide, rfl, rfl⟩,
    ⟨Wl, 0, 0x10000000 + hbBase, hbBase, rfl, rfl, rfl, by decide +kernel, by decide, rfl⟩,
    ⟨W, 0, 0, rfl, rfl, rfl, by decide +kernel⟩,
    ⟨Wl, 1, 0x10000005, 5, rfl, rfl, rfl, by decide +kernel, by decide, rfl⟩,
    ⟨Wl, 0, 0x1000003C, 60, [1, 2, 3, 0], rfl, rfl, rfl, by decide +kernel, rfl, by decide, rfl, by decide, by decide⟩,
    ⟨Wl, 0, 0x1000003C, 60, [1], rfl, rfl, rfl, by decide +kernel, rfl, by decide, rfl, by decide⟩,
    ⟨Wl, 0, 0x10000000 + hbBase, bytesOf 12 77, rfl, rfl, rfl, by decide, by decide +kernel, rfl, rfl⟩,
    ⟨Wl, 1, 0x10000000, 0, [1], rfl, rfl, rfl, by decide +kernel, rfl, by decide, rfl, by decide⟩,
    ⟨W, 0, 0x20000000, rfl, rfl, rfl, rfl⟩,
    ⟨W, 0, 0x20000000, 5, 1, rfl, rfl, rfl, by decide⟩⟩

theorem witness_MailboxCommandsComplete :
    (∃ (s : State) (l : _), s.power = .on ∧ mailboxOpen s l = true) ∧
    (∃ (s : State) (l : _), s.power = .on ∧ mailboxOpen s l = true) ∧
    (∃ (s : State) (l : _), s.power = .on ∧ mailboxOpen s l = true) ∧
    (∃ (s : State) (l : _), s.power = .on ∧ mailboxOpen s l = true) ∧
    (∃ (s : State) (l : _), s.power = .on ∧ mailboxOpen s l = true) ∧
    (∃ (s : State) (a : _), s.power = .on ∧ mailboxOpen s 0 = true ∧ a < 2 ^ 32 ∧ a % 64 = 0 ∧ s.hl.poison.length < 64) ∧
    (∃ (s : State) (a : _) (data : List Byte), s.power = .on ∧ mailboxOpen s 0 = true ∧ a < 2 ^ 32 ∧ a % 64 = 0 ∧ data.length = 64) ∧
    (∃ (s : State) (l : _), s.power = .on ∧ mailboxOpen s l = true) ∧
    (∃ (s : State), s.power = .on ∧ s.hl.cxl = true ∧ s.hl.link = .up) ∧
    (∃ (s : State), s.power = .on ∧ s.hl.cxl = true ∧ s.hl.link = .up) ∧
    (∃ (s : State), s.power = .on ∧ s.hl.cxl = true ∧ s.hl.link = .up) ∧
    (∃ (s : State), s.power = .on ∧ s.hl.cxl = true ∧ s.hl.link = .up) ∧
    (∃ (s : State) (sizes : _), s.power = .on ∧ s.hl.cxl = true ∧ s.hl.link = .up ∧ sizes ≠ List.replicate 4 (2 ^ 32)) :=
  ⟨⟨W, 0, rfl, rfl⟩,
    ⟨W, 0, rfl, rfl⟩,
    ⟨W, 0, rfl, rfl⟩,
    ⟨{ W with hl := { W.hl with cxlLog := [(0, 0), (64, 1)] } }, 0, rfl, rfl⟩,
    ⟨W, 0, rfl, rfl⟩,
    ⟨W, 0xFFFFFFC0, rfl, rfl, by decide, rfl, by decide⟩,
    ⟨W, 64, List.replicate 64 7, rfl, rfl, by decide, rfl, rfl⟩,
    ⟨W, 0, rfl, rfl⟩,
    ⟨W, rfl, rfl, rfl⟩,
    ⟨W, rfl, rfl, rfl⟩,
    ⟨W, rfl, rfl, rfl⟩,
    ⟨W, rfl, rfl, rfl⟩,
    ⟨W, [1], rfl, rfl, rfl, by decide⟩⟩

theorem witness_ArchiveCommandsComplete :
    (∃ (s : State) (x rest : _), s.power = .on ∧ s.ar.zeroQ = x :: rest ∧ fillEn s = false) ∧
    (∃ (s : State) (l : _), s.power = .on ∧ l < 4 ∧ (s.lease l).st = .active ∧ (s.lease l).beat = (s.lease l).sampled ∧ (s.lease l).deadline ≤ boundary
      1000000 s.ar.sampleAt s.tk.now) ∧
    (∃ (s : State) (l : _), s.power = .on ∧ l < 4 ∧ (s.lease l).st = .active ∧ (s.lease l).beat ≠ (s.lease l).sampled ∧ (s.lease l).claimed = (s.lease
      l).session ∧ 0 < (s.lease l).term) ∧
    (∃ (s : State), s.power = .on ∧ s.isOn 5 = true ∧ s.isOn 6 = true ∧ s.isOn 7 = true ∧ s.ar.trained = false ∧ s.ar.fail = none ∧ s.ar.railsLow =
      false) ∧
    (∃ (s : State), s.power = .on ∧ s.isOn 5 = true ∧ s.isOn 6 = true ∧ s.isOn 7 = true ∧ s.ar.trained = false ∧ s.ar.fail = none ∧ s.ar.railsLow =
      false) ∧
    (∃ (s : State) (w rest : _), s.power = .on ∧ s.mm.back = w :: rest) ∧
    (∃ (s : State), s.power = .on ∧ scrubEn s = true ∧ s.mm.scrubbing = false) ∧
    (∃ (s : State) (d words : _), s.power = .on ∧ scrubEn s = true ∧ s.mm.scrubbing = true ∧ macroInfo s.variant s.mm.smacro = some (d, words) ∧
      s.mm.sword + 1 < words ∧ scrubKind s s.mm.smacro s.mm.sword 0 = 0) ∧
    (∃ (s : State) (d words k : _), s.power = .on ∧ scrubEn s = true ∧ s.mm.scrubbing = true ∧ macroInfo s.variant s.mm.smacro = some (d, words) ∧
      s.mm.sword + 1 < words ∧ scrubKind s s.mm.smacro s.mm.sword k = 2 ∧ s.mm.ue.has s.mm.smacro = false) ∧
    (∃ (s : State) (d words : _), s.power = .on ∧ scrubEn s = true ∧ s.mm.scrubbing = true ∧ macroInfo s.variant s.mm.smacro = some (d, words) ∧
      s.mm.sword + 1 < words ∧ scrubKind s s.mm.smacro s.mm.sword 1 = 1) ∧
    (∃ (s : State), s.power = .on ∧ s.isOn 5 = true ∧ s.isOn 6 = true ∧ s.isOn 7 = true ∧ s.ar.trained = false ∧ s.ar.fail = none ∧ s.ar.railsLow =
      true) :=
  ⟨⟨{ W with ar := { zeroQ := [2, 3], mem := [(5, 9), (0x400001, 4)], ext := [(2, { st := .zeroing })] } }, 2, [3], rfl, rfl, rfl⟩,
    ⟨{ W with ar := { lease := [(3, { st := .active, session := 4 })] } }, 3, rfl, by decide, rfl, rfl, by decide⟩,
    ⟨{ W with ar := { lease := [(3, { st := .active, session := 4, claimed := 4, beat := 1, term := 5 })] } }, 3, rfl, by decide, rfl, by decide, rfl,
      by decide⟩,
    ⟨W, rfl, rfl, rfl, rfl, rfl, rfl, rfl⟩,
    ⟨W, rfl, rfl, rfl, rfl, rfl, rfl, rfl⟩,
    ⟨{ W with mm := { back := [(1, 2)] } }, (1, 2), [], rfl, rfl⟩,
    ⟨Wr [(0x4F000, 1)] W, rfl, rfl, rfl⟩,
    ⟨Wr [(0x4F000, 1)] { W with mm := { scrubbing := true } }, 20, 1024, rfl, rfl, rfl, rfl, by decide, rfl⟩,
    ⟨Wr [(0x4F000, 1)] { W with mm := { scrubbing := true }, chs := [(0, { bank := [(0, 5)] })] }, 20, 1024, 2, rfl, rfl, rfl, rfl, by decide, rfl, rfl⟩,
    ⟨Wr [(0x4F000, 1)] { W with mm := { scrubbing := true }, chs := [(0, { bank := [(0, 5)] })] }, 20, 1024, rfl, rfl, rfl, rfl, by decide, rfl⟩,
    ⟨{ W with ar := { railsLow := true } }, rfl, rfl, rfl, rfl, rfl, rfl, rfl⟩⟩

theorem witness_RingEngineCommandsComplete :
    (∃ (s : State), s.power = .on ∧ polling s = true ∧ (∀ q ∈ s.hl.reqs, q.issuer ≠ .poll) ∧ s.readRoom = true ∧ dmaTurn s 1 = true) ∧
    (∃ (s : State) (q line : _), s.power = .on ∧ s.hl.inbox.find? (fun e => e.1.issuer == .poll) = some (q, line)) ∧
    (∃ (s : State) (q line t0 : _), s.power = .on ∧ s.hl.inbox.find? (fun e => e.1.issuer == .poll) = some (q, line) ∧ s.rg.timer = some t0 ∧ t0 +
      lossTime s ≤ s.tk.clk) ∧
    (∃ (s : State) (q d r : _), s.power = .on ∧ s.hl.inbox = [(q, d)] ∧ q.issuer = .descFetch r (s.ring r).nextArr 1 ∧ d.length = 64 ∧ (s.ring
      r).running = true ∧ (s.ring r).error = false ∧ (s.ring r).stopping = none ∧ dPhase d = phaseOf (s.ring r).log2E (s.ring r).nextArr) ∧
    (∃ (s : State) (r d o : _), Turn s r d ∧ badHeader d = some o) ∧
    (∃ (s : State) (r c : _), s.power = .on ∧ (s.ring r).cpl = some c ∧ cqFull (s.ring r) = false ∧ s.canDma 0 = true ∧ dmaTurn s 1 = true ∧ (s.ring
      r).stopping = none ∧ (s.ring r).error = false ∧ (s.ring r).exec = none) ∧
    (∃ (s : State) (r c st : _), s.power = .on ∧ (s.ring r).cpl = some c ∧ (s.ring r).stopping = some st ∧ (s.ring r).exec = none ∧ (s.ring r).again =
      false ∧ (s.ring r).running = true) ∧
    (∃ (s : State) (v : _), s.power = .on ∧ v < 4 ∧ (s.ring v).unsig ≠ 0 ∧ s.canSend 0 = true ∧ (s.fn 0).masked v = false) ∧
    (∃ (s : State) (n : _), s.power = .on ∧ n < 8 ∧ (s.strip n).unsig ≠ 0) ∧
    (∃ (s : State) (t0 : _), s.power = .on ∧ s.rg.timer = some t0) :=
  ⟨⟨Wr [(0x43000, 0x410)] W, rfl, rfl, by decide, rfl, rfl⟩,
    ⟨{ W with hl := { W.hl with inbox := [({ tag := 0, fn := 0, addr := 0, len := 64, issuer := .poll }, bytesOf 64 9)] } },
      { tag := 0, fn := 0, addr := 0, len := 64, issuer := .poll }, bytesOf 64 9, rfl, rfl⟩,
    ⟨{ W with hl := { W.hl with inbox := [({ tag := 0, fn := 0, addr := 0, len := 64, issuer := .poll }, bytesOf 64 9)] }, rg := { timer := some 0 }, tk := { W.tk with clk := 600000000 } },
      { tag := 0, fn := 0, addr := 0, len := 64, issuer := .poll }, bytesOf 64 9, 0, rfl, rfl, rfl, by decide⟩,
    ⟨{ W with hl := { W.hl with inbox := [({ tag := 0, fn := 0, addr := 0, len := 64, issuer := .descFetch 0 0 1 }, bytesOf 64 256)] }, rg := { ring := [(0, { running := true })] } },
      { tag := 0, fn := 0, addr := 0, len := 64, issuer := .descFetch 0 0 1 }, bytesOf 64 256, 0, rfl, rfl, rfl, rfl, rfl, rfl, rfl, rfl⟩,
    ⟨Wh (dsc 0x77 0 []) W, 0, dsc 0x77 0 [], 0, ⟨rfl, rfl, rfl⟩, rfl⟩,
    ⟨{ W with rg := { ring := [(1, { running := true, cpl := some { d := dsc 0 0 [], count := 0, status := 0, gen := 0, result := 0, detail := 0 } })] } },
      1, { d := dsc 0 0 [], count := 0, status := 0, gen := 0, result := 0, detail := 0 }, rfl, rfl, rfl, rfl, rfl, rfl, rfl, rfl⟩,
    ⟨{ W with rg := { ring := [(1, { running := true, stopping := some 3, cpl := some { d := dsc 0 0 [], count := 0, status := 0, gen := 0, result := 0, detail := 0 } })] } },
      1, { d := dsc 0 0 [], count := 0, status := 0, gen := 0, result := 0, detail := 0 }, 3, rfl, rfl, rfl, rfl, rfl, rfl⟩,
    ⟨{ W with hl := { W.hl with fns := [(0, { bme := true, memEn := true, msixEn := true, table := [(7, 0)] })] }, rg := { ring := [(1, { running := true, unsig := 2 })] } },
      1, rfl, by decide, by decide, rfl, rfl⟩,
    ⟨{ W with sp := { ns := [(3, { unsig := 2, unsigAt := 999000 })] } }, 3, rfl, by decide, by decide⟩,
    ⟨{ W with rg := { timer := some 5 } }, 5, rfl, rfl⟩⟩

theorem witness_HostLossAppliesPolicies :
    (∃ (s t : State) (t0 n : _), s.power = .on ∧ s.rg.timer = some t0 ∧ n < s.variant.channels ∧ s.present n = true ∧ (s.ch n).queued = false ∧ exec
      .hostLoss s = .next t) :=
  ⟨{ Wc { st := .running } with rg := { timer := some 5 } }, after .hostLoss { Wc { st := .running } with rg := { timer := some 5 } }, 5, 0, rfl, rfl,
    by decide, rfl, rfl, rfl⟩

theorem witness_ChannelRingCommandsComplete :
    (∃ (s : State) (r d : _), Begins s r d 0x00) ∧
    (∃ (s : State) (r d : _), Begins s r d 0x10 ∧ s.present (dTarget d) = true ∧ (s.ch (dTarget d)).armed = false) ∧
    (∃ (s : State) (r d : _), Begins s r d 0x11 ∧ s.present (dTarget d) = true ∧ staleGen s d = false ∧ (s.ch (dTarget d)).armed = false ∧ (s.ch
      (dTarget d)).st = .dark) ∧
    (∃ (s : State) (r d : _), Begins s r d 0x11 ∧ s.present (dTarget d) = true ∧ staleGen s d = false ∧ (s.ch (dTarget d)).armed = false ∧ (s.ch
      (dTarget d)).st ≠ .dark ∧ dU8 d 0x10 = 0) ∧
    (∃ (s : State) (r d : _), Begins s r d 0x12 ∧ s.present (dTarget d) = true ∧ (s.ch (dTarget d)).st = .dark ∧ startFault s (dTarget d) = none) ∧
    (∃ (s : State) (r d k : _), Begins s r d 0x12 ∧ s.present (dTarget d) = true ∧ (s.ch (dTarget d)).st = .dark ∧ startFault s (dTarget d) = some k) ∧
    (∃ (s : State) (r d : _), Begins s r d 0x12 ∧ s.present (dTarget d) = true ∧ (s.ch (dTarget d)).st = .fading) ∧
    (∃ (s : State) (r d : _), Begins s r d 0x13 ∧ s.present (dTarget d) = true ∧ staleGen s d = false ∧ (s.ch (dTarget d)).st = .running) ∧
    (∃ (s : State) (r d : _), Begins s r d 0x14 ∧ s.present (dTarget d) = true ∧ staleGen s d = false ∧ (s.ch (dTarget d)).st = .held) ∧
    (∃ (s : State) (r d : _), Begins s r d 0x15 ∧ s.present (dTarget d) = true ∧ staleGen s d = false ∧ ((s.ch (dTarget d)).st = .running ∨ (s.ch
      (dTarget d)).st = .held)) ∧
    (∃ (s : State) (r d : _), Begins s r d 0x16 ∧ s.present (dTarget d) = true ∧ staleGen s d = false ∧ s.isOn (ciDom (dTarget d)) = true) ∧
    (∃ (s : State) (r d p : _), Begins s r d 0x17 ∧ s.present (dTarget d) = true ∧ dU8 d 0x10 = 1 ∧ s.isOn (miDom (dTarget d)) = true ∧ (s.mi (dTarget
      d)).last = some p) ∧
    (∃ (s : State) (r d : _), Begins s r d 0x20 ∧ s.present (dTarget d) = true ∧ dU8 d 0x10 = 1 ∧ (s.ch (dTarget d)).gang = false ∧ (s.ch (dTarget
      d)).st = .dark ∧ (s.ch (dTarget d + 1)).st = .dark ∧ (∀ k ∈ [ciDom (dTarget d), ciDom (dTarget d + 1), miDom (dTarget d), miDom (dTarget d +
      1)], s.isOn k = true)) ∧
    (∃ (s : State) (r d : _), Begins s r d 0x21 ∧ s.present (dTarget d) = true ∧ (s.ch (dTarget d)).st = .dark ∧ (s.ch (dTarget d)).gang = false ∧
      s.isOn (ciDom (dTarget d)) = true ∧ s.isOn (miDom (dTarget d)) = true) ∧
    (∃ (s : State) (r d : _), Begins s r d 0x22 ∧ s.present (dTarget d) = true ∧ (s.ch (dTarget d)).gang = false ∧ (s.dom (ciDom (dTarget d))).st =
      .fenced ∧ s.isOn (miDom (dTarget d)) = true) ∧
    (∃ (s : State) (r d : _), Begins s r d 0x31 ∧ s.present (dTarget d) = true ∧ staleGen s d = false) ∧
    (∃ (s : State) (r d : _), Begins s r d 0x71 ∧ dTarget d ≠ 0xFFFF ∧ s.present (dTarget d) = true ∧ (s.ch (dTarget d)).st = .dark ∧ (∀ b ∈ [2, 8],
      chFaultEnded s (dTarget d) b = true)) ∧
    (∃ (s : State) (r d : _), Begins s r d 0x71 ∧ dTarget d = 0xFFFF ∧ s.sb.cls ≠ 0 ∧ s.sb.fresh = [] ∧ stopEnded s = true ∧ s.ez.safeHeld = false ∧
      fieldLatched s = false) ∧
    (∃ (s : State) (r d : _), Begins s r d 0x72 ∧ dU8 d 0x10 = 1 ∧ s.sb.cls = 0) ∧
    (∃ (s : State) (r e : _), s.power = .on ∧ (s.ring r).exec = some e ∧ dOp e.d = 0x72 ∧ dU8 e.d 0x10 = 1) ∧
    (∃ (s : State) (r d : _), Begins s r d 0x70 ∧ dU8 d 0x11 = 0) :=
  ⟨⟨Wh (dsc 0 0 []) W, 0, dsc 0 0 [], ⟨⟨rfl, rfl, rfl⟩, rfl, rfl⟩⟩,
    ⟨Wh (dsc 0x10 63 [(0x18, 512)]) W, 0, dsc 0x10 63 [(0x18, 512)], ⟨⟨rfl, rfl, rfl⟩, rfl, rfl⟩, rfl, rfl⟩,
    ⟨Wh (dsc 0x11 0 [(0x10, 1)]) W, 0, dsc 0x11 0 [(0x10, 1)], ⟨⟨rfl, rfl, rfl⟩, rfl, rfl⟩, rfl, rfl, rfl, rfl⟩,
    ⟨Wh (dsc 0x11 0 []) (Wc { st := .held }), 0, dsc 0x11 0 [], ⟨⟨rfl, rfl, rfl⟩, rfl, rfl⟩, rfl, rfl, rfl, by decide, rfl⟩,
    ⟨Wh (dsc 0x12 0 [(0x10, 5), (0x14, 7)]) W, 0, dsc 0x12 0 [(0x10, 5), (0x14, 7)], ⟨⟨rfl, rfl, rfl⟩, rfl, rfl⟩, rfl, rfl, rfl⟩,
    ⟨Wh (dsc 0x12 0 [(0x10, 511), (0x12, 7), (0x14, 9)]) (Wc { faults := 2 }), 0, dsc 0x12 0 [(0x10, 511), (0x12, 7), (0x14, 9)], 6, ⟨⟨rfl, rfl, rfl⟩,
      rfl, rfl⟩, rfl, rfl, rfl⟩,
    ⟨Wh (dsc 0x12 0 []) (Wc { st := .fading }), 0, dsc 0x12 0 [], ⟨⟨rfl, rfl, rfl⟩, rfl, rfl⟩, rfl, rfl⟩,
    ⟨Wh (dsc 0x13 0 []) (Wc { st := .running }), 0, dsc 0x13 0 [], ⟨⟨rfl, rfl, rfl⟩, rfl, rfl⟩, rfl, rfl, rfl⟩,
    ⟨Wh (dsc 0x14 0 []) (Wc { st := .held }), 0, dsc 0x14 0 [], ⟨⟨rfl, rfl, rfl⟩, rfl, rfl⟩, rfl, rfl, rfl⟩,
    ⟨Wh (dsc 0x15 0 []) (Wc { st := .held }), 0, dsc 0x15 0 [], ⟨⟨rfl, rfl, rfl⟩, rfl, rfl⟩, rfl, rfl, by decide⟩,
    ⟨Wh (dsc 0x16 0 [(0x10, 0xFFFFFFFFFFFFFFFF)]) W, 0, dsc 0x16 0 [(0x10, 0xFFFFFFFFFFFFFFFF)], ⟨⟨rfl, rfl, rfl⟩, rfl, rfl⟩, rfl, rfl, rfl⟩,
    ⟨Wh (dsc 0x17 0 [(0x10, 1)]) (Wm { last := some { time := 500000 } }), 0, dsc 0x17 0 [(0x10, 1)], { time := 500000 }, ⟨⟨rfl, rfl, rfl⟩, rfl, rfl⟩,
      rfl, rfl, rfl, rfl⟩,
    ⟨Wh (dsc 0x20 2 [(0x10, 1)]) { W with chs := [(3, { phases := [(0, { ramp := 5 }), (1, { ramp := 6 })] })] }, 0, dsc 0x20 2 [(0x10, 1)], ⟨⟨rfl, rfl,
      rfl⟩, rfl, rfl⟩, rfl, rfl, rfl, rfl, rfl, by decide⟩,
    ⟨Wh (dsc 0x21 1 []) W, 0, dsc 0x21 1 [], ⟨⟨rfl, rfl, rfl⟩, rfl, rfl⟩, rfl, rfl, rfl, rfl, rfl⟩,
    ⟨Wh (dsc 0x22 0 []) (Wd 20 { st := .fenced }), 0, dsc 0x22 0 [], ⟨⟨rfl, rfl, rfl⟩, rfl, rfl⟩, rfl, rfl, rfl, rfl⟩,
    ⟨Wh (dsc 0x31 0 [(0x10, 7)]) W, 0, dsc 0x31 0 [(0x10, 7)], ⟨⟨rfl, rfl, rfl⟩, rfl, rfl⟩, rfl, rfl⟩,
    ⟨Wh (dsc 0x71 0 []) (Wc { faults := 3 }), 0, dsc 0x71 0 [], ⟨⟨rfl, rfl, rfl⟩, rfl, rfl⟩, by decide, rfl, rfl, by decide⟩,
    ⟨Wh (dsc 0x71 0xFFFF []) { W with sb := { cls := 2, sources := 2 } }, 0, dsc 0x71 0xFFFF [], ⟨⟨rfl, rfl, rfl⟩, rfl, rfl⟩, rfl, by decide, rfl, rfl,
      rfl, rfl⟩,
    ⟨Wh (dsc 0x72 0 [(0x10, 1)]) W, 0, dsc 0x72 0 [(0x10, 1)], ⟨⟨rfl, rfl, rfl⟩, rfl, rfl⟩, rfl, rfl⟩,
    ⟨Wx (dsc 0x72 0 [(0x10, 1)]) .waiting W, 0, { d := dsc 0x72 0 [(0x10, 1)], count := 0 }, rfl, rfl, rfl, rfl⟩,
    ⟨Wh (dsc 0x70 0 [(0x10, 3)]) W, 0, dsc 0x70 0 [(0x10, 3)], ⟨⟨rfl, rfl, rfl⟩, rfl, rfl⟩, rfl⟩⟩

theorem witness_SettingRingCommandsComplete :
    (∃ (s : State) (r d : _), Begins s r d 0x28 ∧ s.present (dTarget d) = true ∧ s.pres.window ≠ none) ∧
    (∃ (s : State) (r d : _), Begins s r d 0x28 ∧ s.present (dTarget d) = true ∧ s.pres.window = none) ∧
    (∃ (s : State) (r d : _), Begins s r d 0x29 ∧ s.present (dTarget d) = true ∧ missingPs s = 0) ∧
    (∃ (s : State) (r d : _), Begins s r d 0x29 ∧ s.present (dTarget d) = true ∧ missingPs s ≠ 0) ∧
    (∃ (s : State) (r d : _), Begins s r d 0x30) ∧
    (∃ (s : State) (r d : _), Begins s r d 0x39) ∧
    (∃ (s : State) (r d : _), Begins s r d 0x3A ∧ s.isOn 10 = true) ∧
    (∃ (s : State) (r d : _), Begins s r d 0x5B ∧ s.isOn 14 = true) ∧
    (∃ (s : State) (r e q : _) (bytes : List Byte), s.power = .on ∧ s.hl.inbox.find? (fun x => match x.1.issuer with | .table _ => true | _ => false) =
      some (q, bytes) ∧ q.issuer = .table r ∧ (s.ring r).exec = some e ∧ e.stage = .fetching ∧ dOp e.d = 0x10 ∧ crc32 bytes = dU32 e.d 0x1C ∧ dU16
      e.d 0x1A + dU16 e.d 0x18 ≤ 512) ∧
    (∃ (s : State) (r e q : _) (bytes : List Byte), s.power = .on ∧ s.hl.inbox.find? (fun x => match x.1.issuer with | .table _ => true | _ => false) =
      some (q, bytes) ∧ q.issuer = .table r ∧ (s.ring r).exec = some e ∧ e.stage = .fetching ∧ crc32 bytes ≠ dU32 e.d 0x1C) :=
  ⟨⟨Wh (dsc 0x28 0 [(0x10, 5500000), (0x14, 5499999), (0x18, 60000000), (0x20, 1)]) Wp, 0, dsc 0x28 0 [(0x10, 5500000), (0x14, 5499999), (0x18,
      60000000), (0x20, 1)], ⟨⟨rfl, rfl, rfl⟩, rfl, rfl⟩, rfl, by decide⟩,
    ⟨Wh (dsc 0x28 0 [(0x10, 5500000), (0x14, 5499999), (0x18, 60000000), (0x20, 1)]) W, 0, dsc 0x28 0 [(0x10, 5500000), (0x14, 5499999), (0x18,
      60000000), (0x20, 1)], ⟨⟨rfl, rfl, rfl⟩, rfl, rfl⟩, rfl, rfl⟩,
    ⟨Wh (dsc 0x29 0 [(0x10, 1), (0x14, 0x46666666), (0x18, 10000), (0x1C, 0x40000000), (0x24, 0x40000000)]) Wps, 0, dsc 0x29 0 [(0x10, 1), (0x14,
      0x46666666), (0x18, 10000), (0x1C, 0x40000000), (0x24, 0x40000000)], ⟨⟨rfl, rfl, rfl⟩, rfl, rfl⟩, rfl, rfl⟩,
    ⟨Wh (dsc 0x29 0 [(0x10, 1), (0x14, 0x46666666), (0x18, 10000), (0x1C, 0x40000000), (0x24, 0x40000000)]) W, 0, dsc 0x29 0 [(0x10, 1), (0x14,
      0x46666666), (0x18, 10000), (0x1C, 0x40000000), (0x24, 0x40000000)], ⟨⟨rfl, rfl, rfl⟩, rfl, rfl⟩, rfl, by decide⟩,
    ⟨Wh (dsc 0x30 0 [(0x10, 1), (0x14, 4000000)]) W, 0, dsc 0x30 0 [(0x10, 1), (0x14, 4000000)], ⟨⟨rfl, rfl, rfl⟩, rfl, rfl⟩⟩,
    ⟨Wh (dsc 0x39 0 [(0x10, 500), (0x12, 1), (0x13, 255), (0x14, 10000)]) W, 0, dsc 0x39 0 [(0x10, 500), (0x12, 1), (0x13, 255), (0x14, 10000)], ⟨⟨rfl,
      rfl, rfl⟩, rfl, rfl⟩⟩,
    ⟨Wh (dsc 0x3A 0 [(0x18, 64)]) W, 0, dsc 0x3A 0 [(0x18, 64)], ⟨⟨rfl, rfl, rfl⟩, rfl, rfl⟩, rfl⟩,
    ⟨Wh (dsc 0x5B 0 [(0x18, 16)]) W, 0, dsc 0x5B 0 [(0x18, 16)], ⟨⟨rfl, rfl, rfl⟩, rfl, rfl⟩, rfl⟩,
    ⟨Wtab (dsc 0x10 0 [(0x18, 1), (0x1A, 511), (0x1C, 0x6522DF69)]), 0,
      { d := dsc 0x10 0 [(0x18, 1), (0x1A, 511), (0x1C, 0x6522DF69)], count := 0, stage := .fetching },
      { tag := 0, fn := 0, addr := 0, len := 8, issuer := .table 0 }, List.replicate 8 0, rfl, rfl, rfl, rfl, rfl, rfl, rfl, by decide⟩,
    ⟨Wtab (dsc 0x10 0 [(0x18, 1), (0x1C, 0)]), 0, { d := dsc 0x10 0 [(0x18, 1), (0x1C, 0)], count := 0, stage := .fetching },
      { tag := 0, fn := 0, addr := 0, len := 8, issuer := .table 0 }, List.replicate 8 0, rfl, rfl, rfl, rfl, rfl, by decide⟩⟩

theorem witness_HostRingCommandsComplete :
    (∃ (s : State) (r d : _), Begins s r d 0x38 ∧ dU8 d 0x20 = 1 ∧ (s.strip (dTarget d)).bound = false) ∧
    (∃ (s : State) (r d : _), Begins s r d 0x40 ∧ needTake s = none ∧ (s.lease (dTarget d)).st ≠ .active ∧ dU8 d 0x18 = 0 ∧ (∀ x ∈ dExtents d, (s.ext
      x).held = none ∧ (s.ext x).st ≠ .unzeroed ∧ (s.ext x).st ≠ .zeroing)) ∧
    (∃ (s : State) (r d : _), Begins s r d 0x41 ∧ needLease s = none ∧ (s.lease (dTarget d)).st = .active ∧ (s.lease (dTarget d)).session = dU32 d 0x1C) ∧
    (∃ (s : State) (r d : _), Begins s r d 0x42 ∧ needLease s = none ∧ (s.lease (dTarget d)).st = .active ∧ (s.lease (dTarget d)).session = dU32 d 0x1C) ∧
    (∃ (s : State) (r d : _), Begins s r d 0x43 ∧ s.ar.fail = none) ∧
    (∃ (s : State) (r e : _), s.power = .on ∧ (s.ring r).exec = some e ∧ dOp e.d = 0x43 ∧ e.stage = .copied 0 ∧ s.canDma 0 = true ∧ dmaTurn s 4 = true ∧
      (∀ k < dU32 e.d 0x20 / 64, linePoison s (dU64 e.d 0x10 + 64 * k) = false)) ∧
    (∃ (s : State) (r e k : _), s.power = .on ∧ (s.ring r).exec = some e ∧ dOp e.d = 0x43 ∧ e.stage = .copied 0 ∧ s.canDma 0 = true ∧ dmaTurn s 4 = true
      ∧ (∀ k < dU32 e.d 0x20 / 64, linePoison s (dU64 e.d 0x10 + 64 * k) = false) ∧ k < dU32 e.d 0x20 / 64) ∧
    (∃ (s : State) (r d : _), Begins s r d 0x50 ∧ needValve d s = none ∧ ezReady s = true ∧ valveBusy s (dTarget d) = false) ∧
    (∃ (s : State) (r d : _), Begins s r d 0x51 ∧ needValve d s = none ∧ ezReady s = true ∧ dU8 d 0x10 = 1 ∧ valveBusy s (dTarget d) = false ∧ fld
      (s.ez.slots.get (0x40 + dTarget d) 0) 5 1 = 0 ∧ s.ez.safeRep = false ∧ s.ez.safeHeld = false) ∧
    (∃ (s : State) (r d : _), Begins s r d 0x52 ∧ needField s = none ∧ ezReady s = true) ∧
    (∃ (s : State) (r d : _), Begins s r d 0x53 ∧ needField s = none ∧ ezReady s = true) ∧
    (∃ (s : State) (r d : _), Begins s r d 0x58 ∧ s.isOn 13 = true ∧ fld (cnConfig s (dTarget d)) 0 2 = 1 ∧ (s.can (dTarget d)).sleep = false ∧ (s.can
      (dTarget d)).st ≠ .busOff) ∧
    (∃ (s : State) (r d : _), Begins s r d 0x59 ∧ dU8 d 0x11 ≠ 2) ∧
    (∃ (s : State) (r d : _), Begins s r d 0x5A ∧ s.isOn 14 = true) ∧
    (∃ (s : State) (r d : _), Begins s r d 0x60 ∧ (s.jl.st = .master ∨ s.jl.st = .member ∧ framed s = true) ∧ portState s 0 = .up ∧ dTarget d ≠
      s.jl.idInUse) ∧
    (∃ (s : State) (r d : _), Begins s r d 0x60 ∧ s.jl.st = .member ∧ framed s = false ∧ portState s 0 = .up ∧ dTarget d ≠ s.jl.idInUse ∧ s.jl.out = []
      ∧ s.jl.sentAt.find 10 = none) :=
  ⟨⟨Wh (dsc 0x38 7 [(0x10, 4096), (0x18, 64), (0x1D, 31), (0x1E, 1), (0x20, 1)]) W, 0, dsc 0x38 7 [(0x10, 4096), (0x18, 64), (0x1D, 31), (0x1E, 1),
      (0x20, 1)], ⟨⟨rfl, rfl, rfl⟩, rfl, rfl⟩, rfl, rfl⟩,
    ⟨Wh (dsc 0x40 3 [(0x10, 2047), (0x12, 1), (0x14, 60000)]) { W with ar := { trained := true, ext := [(2047, { st := .free })] } }, 0, dsc 0x40 3
      [(0x10, 2047), (0x12, 1), (0x14, 60000)], ⟨⟨rfl, rfl, rfl⟩, rfl, rfl⟩, rfl, by decide, rfl, by decide⟩,
    ⟨Wh (dsc 0x41 3 [(0x10, 2047), (0x12, 1), (0x14, 60000), (0x1C, 5)])
      { W with ar := { trained := true, lease := [(3, { st := .active, session := 5 })] } }, 0, dsc 0x41 3 [(0x10, 2047), (0x12, 1), (0x14, 60000),
      (0x1C, 5)], ⟨⟨rfl, rfl, rfl⟩, rfl, rfl⟩, rfl, rfl, rfl⟩,
    ⟨Wh (dsc 0x42 3 [(0x10, 2047), (0x12, 1), (0x1C, 5)])
      { W with ar := { trained := true, ext := [(2047, { st := .free, held := some (3, true) })], lease := [(3, { st := .active, session := 5 })] } },
      0, dsc 0x42 3 [(0x10, 2047), (0x12, 1), (0x1C, 5)], ⟨⟨rfl, rfl, rfl⟩, rfl, rfl⟩, rfl, rfl, rfl⟩,
    ⟨Wh (dsc 0x43 0 [(0x20, 64)]) { W with ar := { trained := true } }, 0, dsc 0x43 0 [(0x20, 64)], ⟨⟨rfl, rfl, rfl⟩, rfl, rfl⟩, rfl⟩,
    ⟨Wx (dsc 0x43 0 [(0x20, 64)]) (.copied 0) { W with ar := { trained := true, ext := [(0, { st := .free })] } }, 0,
      { d := dsc 0x43 0 [(0x20, 64)], count := 0, stage := .copied 0 }, rfl, rfl, rfl, rfl, rfl, rfl, by decide⟩,
    ⟨Wx (dsc 0x43 0 [(0x20, 128)]) (.copied 0) { W with ar := { trained := true, ext := [(0, { st := .free })] } }, 0,
      { d := dsc 0x43 0 [(0x20, 128)], count := 0, stage := .copied 0 }, 1, rfl, rfl, rfl, rfl, rfl, rfl, by decide, by decide⟩,
    ⟨Wh (dsc 0x50 7 [(0x18, 64)]) (Wf {}), 0, dsc 0x50 7 [(0x18, 64)], ⟨⟨rfl, rfl, rfl⟩, rfl, rfl⟩, rfl, rfl, rfl⟩,
    ⟨Wh (dsc 0x51 7 [(0x10, 1), (0x11, 63)]) (Wf {}), 0, dsc 0x51 7 [(0x10, 1), (0x11, 63)], ⟨⟨rfl, rfl, rfl⟩, rfl, rfl⟩, rfl, rfl, rfl, rfl, rfl, rfl,
      rfl⟩,
    ⟨Wh (dsc 0x52 0 [(0x10, 0xFFFF), (0x12, 0x8001)]) (Wf {}), 0, dsc 0x52 0 [(0x10, 0xFFFF), (0x12, 0x8001)], ⟨⟨rfl, rfl, rfl⟩, rfl, rfl⟩, rfl, rfl⟩,
    ⟨Wh (dsc 0x53 0 [(0x10, 0xFFFFFF), (0x14, 1), (0x18, 10)]) (Wf {}), 0, dsc 0x53 0 [(0x10, 0xFFFFFF), (0x14, 1), (0x18, 10)], ⟨⟨rfl, rfl, rfl⟩, rfl,
      rfl⟩, rfl, rfl⟩,
    ⟨Wh (dsc 0x58 0 [(0x10, 5), (0x14, 8), (0x1F, 7)]) (Wr [(0x4C000, 1)] (Wb { st := .active, mode := 1 })), 0, dsc 0x58 0 [(0x10, 5), (0x14, 8),
      (0x1F, 7)], ⟨⟨rfl, rfl, rfl⟩, rfl, rfl⟩, rfl, rfl, rfl, by decide⟩,
    ⟨Wh (dsc 0x59 1 [(0x10, 31), (0x11, 1), (0x14, 5)]) W, 0, dsc 0x59 1 [(0x10, 31), (0x11, 1), (0x14, 5)], ⟨⟨rfl, rfl, rfl⟩, rfl, rfl⟩, by decide⟩,
    ⟨Wh (dsc 0x5A 3 [(0x10, 1), (0x11, 255), (0x14, 0xFFFFFFF0), (0x18, 16)]) W, 0, dsc 0x5A 3 [(0x10, 1), (0x11, 255), (0x14, 0xFFFFFFF0), (0x18, 16)],
      ⟨⟨rfl, rfl, rfl⟩, rfl, rfl⟩, rfl⟩,
    ⟨Wh (dsc 0x60 31 [(0x10, 16), (0x27, 3)]) (Wj { st := .member, idInUse := 4 }), 0, dsc 0x60 31 [(0x10, 16), (0x27, 3)], ⟨⟨rfl, rfl, rfl⟩, rfl, rfl⟩,
      by decide, rfl, by decide⟩,
    ⟨Wh (dsc 0x60 31 [(0x10, 16), (0x27, 3)]) (Wj { st := .member, idInUse := 4, miss := 3 }), 0, dsc 0x60 31 [(0x10, 16), (0x27, 3)], ⟨⟨rfl, rfl, rfl⟩,
      rfl, rfl⟩, rfl, rfl, rfl, by decide, rfl, rfl⟩⟩

theorem witness_SpoolCommandsComplete :
    (∃ (s : State) (prod r rest : _), s.power = .on ∧ s.isOn 4 = true ∧ s.sp.making = (prod, r) :: rest ∧ r.snapshot = false ∧ (∀ n, (s.spool n).q = [])
      ∧ (∀ n, spNext (spConfig s) n = none) ∧ (∀ n < 16, 1 < spAf s n) ∧ s.staged prod (routeOf s r.src) = [] ∧ SpoolsStill s ∧ fillEn s = false) ∧
    (∃ (s : State) (prod r rest : _), s.power = .on ∧ s.isOn 4 = false ∧ s.sp.making = (prod, r) :: rest) ∧
    (∃ (s : State) (prod spool : _), s.power = .on ∧ s.isOn 4 = true ∧ prodPresent s prod = true ∧ s.isOn (prodDom prod) = true ∧ s.staged prod (headOf
      s spool) = []) ∧
    (∃ (s : State) (prod spool : _), s.power = .on ∧ s.isOn 4 = true ∧ prodPresent s prod = true ∧ s.isOn (prodDom prod) = true ∧ s.staged prod (headOf
      s spool) = []) ∧
    (∃ (s : State) (n m g q rest : _), s.power = .on ∧ (s.spool n).q = g :: q ∧ g.wr = none ∧ g.path = m :: rest ∧ m ≠ n ∧ (s.spool m).q.length < 512 ∧
      g.blank = false ∧ SpoolsStill s) ∧
    (∃ (s : State) (n m g q rest : _), s.power = .on ∧ (s.spool n).q = g :: q ∧ g.wr = none ∧ g.path = m :: rest ∧ m ≠ n ∧ (s.spool m).q.length < 512 ∧
      SpoolsStill s) ∧
    (∃ (s : State) (n slot q : _) (data : List Byte) (k : _), s.power = .on ∧ s.hl.inbox.find? (fun e => e.1.issuer.isTail) = some (q, data) ∧ q.issuer
      = .tail n slot ∧ (s.strip n).bound = true ∧ (s.strip n).error = false ∧ (s.strip n).releasing = false ∧ k < (s.strip n).looks.length ∧ k <
      (s.strip n).slots ∧ (s.strip n).next < (s.strip n).slots ∧ slot = ((s.strip n).next + k) % (s.strip n).slots) ∧
    (∃ (s : State) (n g q k more : _), s.power = .on ∧ (s.spool n).q = g :: q ∧ g.wr = none ∧ g.path = [] ∧ g.blank = false ∧ stripOf s g = some k ∧
      (s.strip k).error = false ∧ (s.strip k).releasing = false ∧ stripAvailable s k = true ∧ (s.strip k).looks = .free :: more ∧ dmaTurn s
      g.r.dmaClass = true) ∧
    (∃ (s : State) (n g q : _), s.power = .on ∧ (s.spool n).q = g :: q ∧ g.wr = none ∧ g.path = [] ∧ SpoolsStill s) ∧
    (∃ (s : State) (n t0 more : _), s.power = .on ∧ (s.strip n).looks = .owned t0 :: more ∧ (s.strip n).bound = true ∧ (s.strip n).error = false ∧
      stripAvailable s n = true ∧ s.readRoom = true ∧ tailsOut s n < 4 ∧ dmaTurn s (tailClass s n) = true) ∧
    (∃ (s : State) (n t0 : _), s.power = .on ∧ (s.strip n).stall = some t0 ∧ (s.strip n).stallSaid = false) ∧
    (∃ (s : State) (n t0 m : _), s.power = .on ∧ (s.strip n).lastWrite = some (t0, m) ∧ (s.strip n).bound = true ∧ (s.strip n).error = false ∧
      stripAvailable s n = true ∧ tailsOut s n < 4 ∧ s.readRoom = true ∧ dmaTurn s (tailClass s n) = true) :=
  ⟨⟨{ W with sp := { making := [(3, rec1)] } }, 3, rec1, [], rfl, rfl, rfl, rfl, fun _ => rfl, next_none, by decide, rfl, ⟨fun _ => ⟨rfl, rfl⟩, fun _
      => ⟨rfl, rfl⟩, fun _ => rfl⟩, rfl⟩,
    ⟨{ W with doms := doms.put 4 {}, sp := { making := [(3, rec1)] } }, 3, rec1, [], rfl, rfl, rfl⟩,
    ⟨W, 3, 9, rfl, rfl, rfl, rfl, rfl⟩,
    ⟨W, 3, 9, rfl, rfl, rfl, rfl, rfl⟩,
    ⟨{ W with sp := { sp := [(0, { q := [gran [1]] })] } }, 0, 1, gran [1], [], [], rfl, rfl, rfl, rfl, by decide, by decide, rfl, ⟨fun _ => ⟨rfl, rfl⟩,
      fun _ => ⟨rfl, rfl⟩, fun m => get_one _ m _ _ (fun x : Spool => x.episode = false) rfl rfl⟩⟩,
    ⟨{ W with sp := { sp := [(0, { q := [gran [1]] })] } }, 0, 1, gran [1], [], [], rfl, rfl, rfl, rfl, by decide, by decide, ⟨fun _ => ⟨rfl, rfl⟩, fun
      _ => ⟨rfl, rfl⟩, fun m => get_one _ m _ _ (fun x : Spool => x.episode = false) rfl rfl⟩⟩,
    ⟨{ W with hl := { W.hl with inbox := [({ tag := 0, fn := 0, addr := 0, len := 8, issuer := .tail 7 63 }, bytesOf 8 0)] }, sp := { ns := [(7, { bound := true, slots := 64, next := 62, looks := [.free, .read] })] } },
      7, 63, { tag := 0, fn := 0, addr := 0, len := 8, issuer := .tail 7 63 }, bytesOf 8 0, 1, rfl, rfl, rfl, rfl, rfl, rfl, by decide, by decide,
      by decide, rfl⟩,
    ⟨{ W with sp := { sp := [(0, { q := [gran []] })], ns := [(1, { bound := true, slots := 64, kinds := 31, spools := 0xFFFF, looks := .free :: List.replicate 31 .read })] } },
      0, gran [], [], 1, List.replicate 31 .read, rfl, rfl, rfl, rfl, rfl, rfl, rfl, rfl, rfl, rfl, rfl⟩,
    ⟨{ W with sp := { sp := [(15, { q := [gran []] })] } }, 15, gran [], [], rfl, rfl, rfl, rfl, ⟨fun _ => ⟨rfl, rfl⟩, fun _ => ⟨rfl, rfl⟩, fun m =>
      get_one _ m _ _ (fun x : Spool => x.episode = false) rfl rfl⟩⟩,
    ⟨{ W with sp := { ns := [(7, { bound := true, slots := 64, looks := [.owned 999000] })] } }, 7, 999000, [], rfl, rfl, rfl, rfl, rfl, rfl, by decide,
      rfl⟩,
    ⟨{ W with sp := { ns := [(7, { bound := true, slots := 64, stall := some 5 })] } }, 7, 5, rfl, rfl, rfl⟩,
    ⟨{ W with sp := { ns := [(7, { bound := true, slots := 64, lastWrite := some (999000, 5) })] } }, 7, 999000, 5, rfl, rfl, rfl, rfl, rfl, by decide,
      rfl, rfl⟩⟩

theorem witness_PowerPathCommandsComplete :
    (∃ (s : State) (n : _), s.power = .on ∧ s.present n = true ∧ s.isOn (ciDom n) = true ∧ (s.ch n).st = .dark ∧ (s.ch n).cmds.start = none) ∧
    (∃ (s : State) (n : _), s.power = .on ∧ s.present n = true ∧ s.isOn (ciDom n) = true ∧ (s.ch n).st = .running ∧ (s.ch n).cmds.hold = true ∧ (s.ch
      n).cmds.abort = false ∧ (s.ch n).cmds.hostFade = false ∧ (inService s n).isEmpty = false ∧ s.regs.pend.has (dvKey n 0x20) = false ∧ s.mm.bad =
      [] ∧ (∀ j, ((s.ch n).phase j).found = 0 ∧ ((s.ch n).phase j).runRail < 7 ∧ ∀ w ∈ ((s.ch n).phase j).stuck, w.2 < 7) ∧ (s.ch n).limRun.get 2 0
      < 3 ∧ (s.ch n).limRun.get 3 0 < 3) ∧
    (∃ (s : State) (n j : _) (ua : Int) (at_ : _), s.power = .on ∧ s.present n = true ∧ s.isOn (ciDom n) = true ∧ (s.ch n).phaseList.contains j = true ∧
      phEn s n j = true ∧ ((s.ch n).phase j).st = .inService ∧ ((s.ch n).phase j).tripped = false ∧ ((s.ch n).phase j).runTrip < 15 ∧ tripUa s n <
      ua.natAbs ∧ at_ < 8 * fld (dvPwm s n) 0 13 ∧ (∀ e ∈ ((s.ch n).phase j).allEdges, (at_ : Int) < e ∨ e + blankUnits s n ≤ at_)) ∧
    (∃ (s : State) (n j : _) (ua : Int) (at_ lasts : Nat) (e : Int), s.power = .on ∧ s.present n = true ∧ s.isOn (ciDom n) = true ∧ (s.ch
      n).phaseList.contains j = true ∧ phEn s n j = true ∧ ((s.ch n).phase j).st = .inService ∧ ((s.ch n).phase j).tripNext = false ∧ ((s.ch
      n).phase j).runTrip < 15 ∧ tripUa s n < ua.natAbs ∧ e ∈ ((s.ch n).phase j).allEdges ∧ (∀ x ∈ ((s.ch n).phase j).allEdges, x ≤ e) ∧ e ≤ at_ ∧
      (at_ : Int) < e + blankUnits s n ∧ e + blankUnits s n ≤ at_ + lasts ∧ 8 * fld (dvPwm s n) 0 13 ≤ e + blankUnits s n ∧ e + blankUnits s n < 8 *
      fld (dvPwm s n) 0 13 + 8) ∧
    (∃ (s : State) (n j : _) (ua : Int) (at_ lasts : Nat) (e : Int), s.power = .on ∧ s.present n = true ∧ s.isOn (ciDom n) = true ∧ (tripUa s n <
      ua.natAbs → e ∈ ((s.ch n).phase j).allEdges ∧ (∀ x ∈ ((s.ch n).phase j).allEdges, x ≤ e) ∧ e ≤ at_ ∧ (at_ : Int) < e + blankUnits s n ∧ (at_ :
      Int) + lasts < e + blankUnits s n)) ∧
    (∃ (s : State) (n j : _) (ua : Int), s.power = .on ∧ s.present n = true ∧ s.isOn (ciDom n) = true ∧ (s.ch n).phaseList.contains j = true ∧ phEn s n
      j = true ∧ 2 * tripUa s n < ua.natAbs ∧ ((s.ch n).phase j).st = .inService ∧ ((s.ch n).phase j).history = [] ∧ (∀ k, k ≠ j → ((s.ch n).phase
      k).history = [] ∧ ((s.ch n).phase k).st ≠ .retryWait ∧ ((s.ch n).phase k).back = false) ∧ fld (s.acting (dvKey n 0x28) 0x0A0A0090) 24 8 ≠ 0) ∧
    (∃ (s : State) (n j : _), s.power = .on ∧ s.present n = true ∧ (s.ch n).phaseList.contains j = true ∧ s.isOn (ciDom n) = true ∧ phEn s n j = true ∧
      ((s.ch n).phase j).st = .inService ∧ ((s.ch n).phase j).history = [] ∧ (∀ k, k ≠ j → ((s.ch n).phase k).history = [] ∧ ((s.ch n).phase k).st ≠
      .retryWait ∧ ((s.ch n).phase k).back = false) ∧ fld (s.acting (dvKey n 0x28) 0x0A0A0090) 24 8 = 0) ∧
    (∃ (s : State) (n j k : _) (ua : Int), s.power = .on ∧ s.present n = true ∧ s.isOn (ciDom n) = true ∧ (s.ch n).phaseList.contains j = true ∧ phEn s
      n j = true ∧ ((s.ch n).phase j).st = .inService ∧ (s.ch n).phaseList.contains k = true ∧ k ≠ j ∧ ((s.ch n).phase k).tripNear s.tk.clk = true ∧
      2 * tripUa s n < ua.natAbs) ∧
    (∃ (s : State) (n j : _), s.power = .on ∧ s.present n = true ∧ (s.ch n).phaseList.contains j = true) ∧
    (∃ (s : State) (n j : _), s.power = .on ∧ s.present n = true ∧ s.isOn (ciDom n) = true ∧ (s.ch n).phaseList.contains j = true ∧ ((s.ch n).phase
      j).st = .retryWait ∧ ((s.ch n).phase j).due = false ∧ (∀ k, k ≠ j → ((s.ch n).phase k).history = []) ∧ fld (s.acting (dvKey n 0x28)
      0x0A0A0090) 24 8 ≠ 0) ∧
    (∃ (s : State) (n j : _), s.power = .on ∧ s.present n = true ∧ s.isOn (ciDom n) = true ∧ (s.ch n).st = .dark ∧ (s.ch n).cmds.start = none ∧ (s.ch
      n).phaseList.contains j = true ∧ ((s.ch n).phase j).st = .retryWait ∧ ((s.ch n).phase j).due = true ∧ ((s.ch n).phase j).found = 0 ∧
      s.regs.pend.has (dvKey n 0x20) = false ∧ s.mm.bad = []) ∧
    (∃ (s : State) (n j : _), s.power = .on ∧ s.present n = true ∧ s.isOn (ciDom n) = true ∧ (s.ch n).phaseList.contains j = true ∧ ((s.ch n).phase
      j).st = .retryWait ∧ ((s.ch n).phase j).due = false ∧ fld (s.acting (dvKey n 0x28) 0x0A0A0090) 24 8 = 0) ∧
    (∃ (s : State) (n f t0 : _), s.power = .on ∧ (s.ch n).st = .fading ∧ (s.ch n).fade = some f ∧ f.lowAt = some t0 ∧ (s.ch n).queued = false) :=
  ⟨⟨W, 3, rfl, rfl, rfl, rfl, rfl⟩,
    ⟨Wc { st := .running, chen := true, cmds := { hold := true }, limRun := [(2, 2)] }, 0, rfl, rfl, rfl, rfl, rfl, rfl, rfl, rfl, rfl, rfl, fun _ =>
      ⟨rfl, (by decide : (0 : Nat) < 7), fun _ h => nomatch h⟩, by decide, by decide⟩,
    ⟨Wc { phases := [(1, { runTrip := 14, hi := some ⟨0, 100⟩ })] }, 0, 1, 100000000, 740, rfl, rfl, rfl, rfl, rfl, rfl, rfl, by decide, by decide, by
      decide, by decide⟩,
    ⟨Wc { phases := [(1, { lo := some ⟨10, 7360⟩ })] }, 0, 1, 100000000, 7990, 10, 7360, rfl, rfl, rfl, rfl, rfl, rfl, rfl, by decide, by decide, by
      decide, by decide, by decide, by decide, by decide, by decide, by decide⟩,
    ⟨Wc { phases := [(1, { lo := some ⟨10, 100⟩ })] }, 0, 1, 100000000, 100, 5, 100, rfl, rfl, rfl, by decide⟩,
    ⟨Wc { st := .running }, 0, 1, 200000000, rfl, rfl, rfl, rfl, rfl, by decide, rfl, rfl, fun _ _ => ⟨rfl, (by decide : PhState.inService ≠
      .retryWait), rfl⟩, by decide⟩,
    ⟨Wr [(dvKey 0 0x28, 0)] (Wc { st := .running }), 0, 1, rfl, rfl, rfl, rfl, rfl, rfl, rfl, fun _ _ => ⟨rfl, (by decide : PhState.inService ≠
      .retryWait), rfl⟩, rfl⟩,
    ⟨Wc { st := .running, gang := true, phases := [(3, { st := .outTrip, waitAt := 999500, history := [999500] })] }, 0, 1, 3, 200000000, rfl, rfl, rfl,
      rfl, rfl, rfl, rfl, by decide, rfl, by decide⟩,
    ⟨Wc { phases := [(1, { flt := true })] }, 0, 1, rfl, rfl, rfl⟩,
    ⟨Wc { phases := [(1, { st := .retryWait, waitAt := 999999 })] }, 0, 1, rfl, rfl, rfl, rfl, rfl, rfl, fun m _ => get_one 1 m
      ({ st := .retryWait, waitAt := 999999 } : Phase) {} (fun x : Phase => x.history = []) rfl rfl, by decide⟩,
    ⟨Wc { phases := [(1, { st := .retryWait, due := true })] }, 0, 1, rfl, rfl, rfl, rfl, rfl, rfl, rfl, rfl, rfl, rfl, rfl⟩,
    ⟨Wr [(dvKey 0 0x28, 0)] (Wc { phases := [(1, { st := .retryWait })] }), 0, 1, rfl, rfl, rfl, rfl, rfl, rfl, rfl⟩,
    ⟨Wc { st := .fading, armed := true, fade := some { cut := true, from_ := 0, start := 5, fadeNs := 0, dischNs := 200000, lowAt := some 999000 } }, 0,
      { cut := true, from_ := 0, start := 5, fadeNs := 0, dischNs := 200000, lowAt := some 999000 }, 999000, rfl, rfl, rfl, rfl, rfl⟩⟩

theorem witness_MeasurementCommandsComplete :
    (∃ (s : State) (n w : _), s.power = .on ∧ s.present n = true ∧ s.isOn (miDom n) = true ∧ (s.ch n).gang = false ∧ s.mm.bad = [] ∧ (s.mi n).onAt +
      250000 ≤ boundary 250000 (s.mi n).endAt s.tk.now ∧ boundary 250000 (s.mi n).endAt s.tk.now ≤ localTime (advanceTo (boundary 250000 (s.mi
      n).endAt s.tk.now) s) (miDom n) + 64 ∧ windowValues (boundary 250000 (s.mi n).endAt s.tk.now) ((s.mi n).dec ++ w) ≠ []) ∧
    (∃ (s : State) (n : _), s.power = .on ∧ s.present n = true ∧ s.isOn (miDom n) = true ∧ s.isOn (ciDom n) = true ∧ (s.ch n).gang = false ∧ (s.mi
      n).winAt = none ∧ (s.mi n).modFail / 2 % 2 = 0) ∧
    (∃ (s : State) (n : _), s.power = .on ∧ s.present n = true ∧ s.isOn (miDom n) = true ∧ s.isOn (ciDom n) = false) ∧
    (∃ (s : State) (n t0 : _), s.power = .on ∧ s.isOn (miDom n) = true ∧ (s.mi n).calAt = some t0 ∧ (s.mi n).cal = .notDue) ∧
    (∃ (s : State) (n t0 : _), s.power = .on ∧ s.isOn (miDom n) = true ∧ (s.mi n).calAt = some t0 ∧ (s.mi n).cal = .due) ∧
    (∃ (s : State) (n : _), s.power = .on ∧ (s.mi n).holdoff ≠ 0) ∧
    (∃ (s : State) (n : _), s.power = .on ∧ ((List.range' 1 64).map fun k => (s.ladder.last + k) % 64).find? (wants s) = some n ∧ (s.ch n).gang = false
      ∧ s.ladder.places.length < 4) ∧
    (∃ (s : State) (n t0 : _) (x : CalIn), s.power = .on ∧ (s.mi n).winAt = some t0 ∧ s.present n = true ∧ s.isOn (miDom n) = true ∧ (s.ch n).gang =
      false ∧ x.err.natAbs ≤ 500 ∧ calDeparture (s.mi n) x = none) ∧
    (∃ (s : State) (n t0 : _) (x : CalIn), s.power = .on ∧ (s.mi n).winAt = some t0 ∧ s.present n = true ∧ s.isOn (miDom n) = true ∧ (s.ch n).gang =
      false ∧ 5000 < x.err.natAbs) ∧
    (∃ (s : State) (n chain : _), s.power = .on ∧ s.isOn (miDom n) = true ∧ chain ≤ 2 ∧ (s.mi n).modFail / 2 ^ chain % 2 = 0) :=
  ⟨⟨Wm { endAt := 750000, modFail := 1 }, 0, [⟨750000, 3000000, 5000, 500000⟩, ⟨999999, -7, 5, 1⟩, ⟨1000000, 1, 1, 1⟩], rfl, rfl, rfl, rfl, rfl, by
      decide, by decide, by decide⟩,
    ⟨W, 3, rfl, rfl, rfl, rfl, rfl, rfl, rfl⟩,
    ⟨Wd 20 {}, 0, rfl, rfl, rfl, rfl⟩,
    ⟨Wm { calAt := some 0 }, 0, 0, rfl, rfl, rfl, rfl⟩,
    ⟨Wm { calAt := some 0, cal := .due }, 0, 0, rfl, rfl, rfl, rfl⟩,
    ⟨Wm { holdoff := 2000000 }, 0, rfl, by decide⟩,
    ⟨{ Wm { cal := .forced, calAt := some 0 } with ladder := { places := [3, 2, 1], last := 63 } }, 0, rfl, rfl, rfl, by decide⟩,
    ⟨{ Wm { winAt := some 900000 } with ladder := { places := [0] } }, 0, 900000,
      { err := -500, gv := 3, gs := -2, gt := 0, ov := 1, os := 2, ot := 3 }, rfl, rfl, rfl, rfl, rfl, by decide, rfl⟩,
    ⟨{ Wm { winAt := some 900000 } with ladder := { places := [0] } }, 0, 900000,
      { err := 5001, gv := 3, gs := -2, gt := 0, ov := 1, os := 2, ot := 3 }, rfl, rfl, rfl, rfl, rfl, by decide⟩,
    ⟨W, 3, 2, rfl, rfl, by decide, rfl⟩⟩

theorem witness_ShutterCommandsComplete :
    (∃ (s : State) (n : _), s.power = .on ∧ n < s.variant.channels ∧ s.isOn (ciDom n) = true ∧ s.isOn 8 = true ∧ s.gangOdd n = false ∧ s.tk.now ≠
      s.sh.roundAt) ∧
    (∃ (s : State) (n : _), s.power = .on ∧ n < s.variant.channels ∧ s.isOn (ciDom n) = true ∧ s.isOn 8 = false) ∧
    (∃ (s : State), s.power = .on ∧ s.isOn 8 = true ∧ s.sh.early = false) ∧
    (∃ (s : State), s.power = .on ∧ s.isOn 8 = true ∧ s.sh.early = true ∧ s.sh.roundAt = s.tk.now) ∧
    (∃ (s : State) (n e p r : _), s.power = .on ∧ n < s.variant.channels ∧ s.isOn (ciDom n) = true ∧ s.isOn 8 = true ∧ s.sh.early = false ∧ boundary
      1000 s.sh.roundAt s.tk.now % 4000 ≠ 0 ∧ s.sh.mode = .standalone ∧ s.sh.late = false ∧ (∀ m, m ≠ n → s.shc m = {}) ∧ (s.shc n).word = some (e,
      p, r) ∧ 0 < r ∧ r ≤ shCeil s ∧ (s.shc n).grant = 0 ∧ (s.shc n).lease = 0) ∧
    (∃ (s : State) (n : _), s.power = .on ∧ n < s.variant.channels ∧ s.isOn (ciDom n) = true ∧ s.isOn 8 = true ∧ s.sh.early = false ∧ boundary 1000
      s.sh.roundAt s.tk.now % 4000 ≠ 0 ∧ s.sh.late = false ∧ (s.shc n).word = none ∧ (s.shc n).lease = 1) ∧
    (∃ (s : State) (n g : _), s.power = .on ∧ (s.shc n).sent = some g ∧ s.isOn (ciDom n) = true) ∧
    (∃ (s : State) (n g : _), s.power = .on ∧ (s.shc n).sent = some g ∧ s.isOn (ciDom n) = false) ∧
    (∃ (s : State), s.power = .on ∧ s.sh.beatEarly = false) ∧
    (∃ (s : State), s.power = .on ∧ s.sh.beatEarly = true ∧ s.sh.beatAt = s.tk.now) ∧
    (∃ (s : State), s.power = .on ∧ s.sh.beatEarly = false ∧ s.sh.gotOne = true) ∧
    (∃ (s : State), s.power = .on ∧ s.sh.beatEarly = false ∧ s.sh.gotOne = false ∧ s.sh.joined = true ∧ s.sh.granted = true ∧ s.sh.mode ≠ .floor ∧
      s.sh.missed = 0) ∧
    (∃ (s : State), s.power = .on ∧ s.sh.beatEarly = false ∧ s.sh.gotOne = false ∧ s.sh.joined = true ∧ s.sh.granted = true ∧ s.sh.mode ≠ .floor ∧
      s.sh.missed = 2) ∧
    (∃ (s : State), s.power = .on ∧ s.sh.beatEarly = false ∧ s.sl.parking = some .beat) :=
  ⟨⟨W, 3, rfl, by decide, rfl, rfl, rfl, by decide⟩,
    ⟨{ W with doms := doms.put 8 {} }, 0, rfl, by decide, rfl, rfl⟩,
    ⟨W, rfl, rfl, rfl⟩,
    ⟨{ W with sh := { early := true, roundAt := 1000000 } }, rfl, rfl, rfl, rfl⟩,
    ⟨Wr [(0x46010, 200)] { W with sh := { roundAt := 1000000, ch := [(3, { word := some (60, 2, 200) })] } }, 3, 60, 2, 200, rfl, by decide, rfl, rfl,
      rfl, by decide, rfl, rfl, fun _ h => get_one_other _ _ _ _ h, rfl, by decide, by decide, rfl, rfl⟩,
    ⟨{ W with sh := { roundAt := 1000000, ch := [(3, { grant := 40, lease := 1 })] } }, 3, rfl, by decide, rfl, rfl, rfl, by decide, rfl, rfl, rfl⟩,
    ⟨{ W with sh := { ch := [(3, { sent := some (-40) })] } }, 3, -40, rfl, rfl, rfl⟩,
    ⟨{ W with sh := { ch := [(63, { sent := some (-40) })] } }, 63, -40, rfl, rfl, rfl⟩,
    ⟨W, rfl, rfl⟩,
    ⟨{ W with sh := { beatEarly := true, beatAt := 1000000 } }, rfl, rfl, rfl⟩,
    ⟨{ W with sh := { gotOne := true, joined := true, grantIn := 0x0000FFFF } }, rfl, rfl, rfl⟩,
    ⟨{ W with sh := { mode := .rack, joined := true, granted := true, net := 77 } }, rfl, rfl, rfl, rfl, rfl, by decide, rfl⟩,
    ⟨{ W with sh := { mode := .holding, joined := true, granted := true, missed := 2, ch := [(1, { grant := 9, lease := 4 })] } }, rfl, rfl, rfl, rfl,
      rfl, by decide, rfl⟩,
    ⟨{ W with sl := { parking := some .beat } }, rfl, rfl, rfl⟩⟩

theorem witness_JikanlinkCellsComplete :
    (∃ (s : State) (p h : _) (pl : List Byte), s.power = .on ∧ portState s p ≠ .off ∧ cType h = 1 ∧ s.jl.st = .masterless ∧ joinEn s = false ∧
      secondSync s (leAt pl 0 8 / 4000) (leAt pl 12 1 % 32) = false) ∧
    (∃ (s : State) (p h : _) (pl : List Byte), s.power = .on ∧ portState s p ≠ .off ∧ cType h = 1 ∧ s.jl.st = .joining ∧ s.jl.master = leAt pl 12 1 % 32
      ∧ secondSync s (leAt pl 0 8 / 4000) (leAt pl 12 1 % 32) = false ∧ leAt pl 13 1 / 64 = 2 ∧ leAt pl 13 1 % 32 = s.jl.idInUse) ∧
    (∃ (s : State) (p h : _), s.power = .on ∧ portState s p ≠ .off ∧ cType h = 2 ∧ s.jl.st = .member ∧ s.jl.idInUse / 4 = cCell h ∧ s.jl.wrote.find
      (cRing h) ≠ some (servedBeat s p h) ∧ h / 2 ^ (s.jl.idInUse % 4) % 2 = 0 ∧ portUp s (1 - p) = true ∧ (s.port (1 - p)).wrap = false ∧
      roundFirst s = s) ∧
    (∃ (s : State) (p h g : _), s.power = .on ∧ portState s p ≠ .off ∧ cType h = 2 ∧ s.jl.st = .master ∧ roundFirst s = s ∧ g < 4 ∧ h / 2 ^ g % 2 = 1 ∧
      collects s (h / 16 % 16) = true ∧ s.jl.reports.has (repKey (h / 16 % 16) (4 * cCell h + g)) = false) ∧
    (∃ (s : State) (p h : _) (pl : List Byte), s.power = .on ∧ portState s p ≠ .off ∧ cType h = 3 ∧ s.jl.st = .member ∧ s.jl.idInUse / 4 = cCell h ∧ (∀
      k, s.sh.gotBeat = some k → k < arrivalBeat s p) ∧ fld (w32 (leAt pl (4 * (s.jl.idInUse % 4)) 4)) 16 8 = arrivalBeat s p % 256) ∧
    (∃ (s : State) (p h : _) (pl : List Byte), s.power = .on ∧ portState s p ≠ .off ∧ cType h = 4 ∧ delivers s h = true ∧ cSrc h ≠ s.jl.idInUse ∧ 1 ≤
      leAt pl 0 1 ∧ leAt pl 0 1 ≤ 3) ∧
    (∃ (s : State) (p h q : _), s.power = .on ∧ portState s p ≠ .off ∧ cType h = 5 ∧ delivers s h = true ∧ q < 2 ∧ s.isOn (11 + q) = true ∧ portUp s q =
      false) ∧
    (∃ (s : State) (p h : _), s.power = .on ∧ portState s p ≠ .off ∧ cType h = 6 ∧ s.jl.st = .master ∧ delivers s h = true) ∧
    (∃ (s : State) (p h : _), s.power = .on ∧ portState s p ≠ .off ∧ cType h = 7 ∧ s.jl.st = .master ∧ delivers s h = true) ∧
    (∃ (s : State) (p h : _), s.power = .on ∧ portState s p ≠ .off ∧ cType h = 8 ∧ delivers s h = true) ∧
    (∃ (s : State) (p h : _) (pl : List Byte), s.power = .on ∧ portState s p ≠ .off ∧ cType h = 9 ∧ (pl.getD 14 0).toNat % 2 = 1) ∧
    (∃ (s : State) (p h : _), s.power = .on ∧ portState s p ≠ .off ∧ cType h = 10 ∧ delivers s h = true) ∧
    (∃ (s : State) (p h : _) (pl : List Byte) (crc line : _), s.power = .on ∧ roundFirst s = s ∧ p < 2 ∧ portState s p ≠ .off ∧ (s.port p).bad + 1 < 4 ∧
      Reads s p line h pl crc ∧ crc16 (cellBytes h pl) ≠ crc) ∧
    (∃ (s : State) (p line idle : _), s.power = .on ∧ roundFirst s = s ∧ p < 2 ∧ portUp s p = true ∧ (s.port p).bad = 3 ∧ (readLine (!idle && (s.port
      p).rxRd) line).1 = false) ∧
    (∃ (s : State) (p h : _) (pl : List Byte) (crc line : _), s.power = .on ∧ roundFirst s = s ∧ p < 2 ∧ portState s p ≠ .off ∧ Reads s p line h pl crc
      ∧ crc16 (cellBytes h pl) = crc) ∧
    (∃ (s : State) (p h : _), s.power = .on ∧ portState s p ≠ .off ∧ cType h = 0 ∧ s.jl.st = .masterless ∧ portUp s (1 - p) = true ∧ (s.port (1 -
      p)).wrap = false) ∧
    (∃ (s : State) (p h : _), s.power = .on ∧ portState s p ≠ .off ∧ 11 ≤ cType h ∧ s.jl.st ≠ .master ∧ portUp s (1 - p) = true ∧ (s.port (1 - p)).wrap
      = false) ∧
    (∃ (s : State) (p : _), s.power = .on ∧ portState s p ≠ .off ∧ s.jl.st = .master) :=
  ⟨⟨Wj {}, 0, 0x1000, bytesOf 16 4000000, rfl, by decide, rfl, rfl, rfl, rfl⟩,
    ⟨Wj { st := .joining, idInUse := 5, master := 1 }, 0, 0x1000, bytesOf 16 (4000000 + 2 ^ 96 + 133 * 2 ^ 104), rfl, by decide, rfl, rfl, rfl, rfl,
      rfl, rfl⟩,
    ⟨{ Wj { st := .member, idInUse := 5 } with sh := { roundAt := 1000000 } }, 0, 0x2000 + hdrFor 1, rfl, by decide, rfl, rfl, rfl, by decide, rfl, rfl,
      rfl, rfl⟩,
    ⟨{ Wj { st := .master, idInUse := 5 } with sh := { roundAt := 1000000 } }, 0, 0x2000 + hdrFor 1 + 180, 2, rfl, by decide, rfl, rfl, rfl, by decide,
      rfl, rfl, rfl⟩,
    ⟨Wj { st := .member, idInUse := 5 }, 0, 0x3000 + hdrFor 1, bytesOf 16 (arrivalBeat (Wj { st := .member, idInUse := 5 }) 0 % 256 * 2 ^ 48), rfl, by
      decide, rfl, rfl, rfl, (by intro k h; cases h), rfl⟩,
    ⟨Wj { st := .member, idInUse := 5 }, 0, 0x4000 + toAll 9, bytesOf 16 3, rfl, by decide, rfl, rfl, by decide, by decide, by decide⟩,
    ⟨{ Wj {} with jl := { port := [(0, { st := .up })] } }, 0, 0x5000 + toAll 9, 1, rfl, by decide, rfl, rfl, by decide, rfl, rfl⟩,
    ⟨Wj { st := .master, idInUse := 5 }, 1, 0x6000 + toAll 9, rfl, by decide, rfl, rfl, rfl⟩,
    ⟨Wj { st := .master, idInUse := 5 }, 1, 0x7000 + toAll 9, rfl, by decide, rfl, rfl, rfl⟩,
    ⟨Wj { idInUse := 9, claim := some true }, 1, 0x8000 + toAll 5, rfl, by decide, rfl, rfl⟩,
    ⟨Wj {}, 1, 0x9000 + toAll 5, bytesOf 16 (900000 + 1000 * 2 ^ 64 + 2 ^ 112), rfl, by decide, rfl, rfl⟩,
    ⟨Wj { st := .member, idInUse := 5 }, 1, 0xA000 + toAll 6, rfl, by decide, rfl, rfl⟩,
    ⟨{ W with sh := { roundAt := 1000000 }, jl := { port := [(1, { st := .up, bad := 2 })] } }, 1, 0, bytesOf 16 0, 1, (cellLine false 0 (bytesOf 16 0)
      1).1, rfl, rfl, by decide, by decide, by decide, ⟨by decide, by decide, by decide, rfl, by decide⟩, by decide⟩,
    ⟨{ W with sh := { roundAt := 1000000 }, jl := { port := [(1, { st := .up, bad := 3 })] } }, 1, [], false, rfl, rfl, by decide, rfl, rfl, rfl⟩,
    ⟨{ W with sh := { roundAt := 1000000 }, jl := { port := [(1, { st := .up, bad := 2 })] } }, 1, 0, bytesOf 16 0, crc16 (cellBytes 0 (bytesOf 16 0)),
      (cellLine false 0 (bytesOf 16 0) (crc16 (cellBytes 0 (bytesOf 16 0)))).1, rfl, rfl, by decide, by decide, ⟨by decide, by decide, by decide,
      rfl, by decide⟩, rfl⟩,
    ⟨Wj { st := .masterless }, 1, 0, rfl, by decide, rfl, rfl, rfl, rfl⟩,
    ⟨Wj {}, 1, 0xB000, rfl, by decide, by decide, by decide, rfl, rfl⟩,
    ⟨Wj { st := .master }, 1, rfl, by decide, rfl⟩⟩

theorem witness_JikanlinkNodeComplete :
    (∃ (s : State) (p : _), s.power = .on ∧ portState s p = .notReady) ∧
    (∃ (s : State) (p : _), s.power = .on ∧ (portState s p = .seeking ∨ portState s p = .down) ∧ (s.port p).pll = true ∧ (s.port p).clean s.tk.clk =
      true) ∧
    (∃ (s : State) (p : _), s.power = .on ∧ portUp s p = true) ∧
    (∃ (s : State) (p b arrived : _), s.power = .on ∧ (s.port p).wrap = true ∧ portUp s p = true ∧ framed s = true ∧ (s.port p).agreed = some b ∧ b ≤
      beatNow s + 1 ∧ (arrived = true ∨ (s.port p).confirms = false)) ∧
    (∃ (s : State) (p b : _), s.power = .on ∧ framed s = true ∧ (s.port p).agreed = some b ∧ b ≤ beatNow s + 1 ∧ (s.port p).confirms = true) ∧
    (∃ (s : State) (p : _), s.power = .on ∧ portUp s p = true ∧ s.sheet.hold = false ∧ framed s = true ∧ (s.port p).wrap = false) ∧
    (∃ (s : State), s.power = .on ∧ follows s = true ∧ s.jl.miss < 2 ∧ s.jl.beat ≠ some (beatNow (advanceTo (boundary 4000 (s.jl.checkAt - 2000)
      (s.tk.now - 2000) + 2000) s))) ∧
    (∃ (s : State), s.power = .on ∧ follows s = true ∧ s.jl.miss = 2 ∧ s.jl.st ≠ .member ∧ s.jl.beat ≠ some (beatNow (advanceTo (boundary 4000
      (s.jl.checkAt - 2000) (s.tk.now - 2000) + 2000) s))) ∧
    (∃ (s : State), s.power = .on ∧ s.jl.st = .master) ∧
    (∃ (s : State) (n : _), s.power = .on ∧ s.jl.st = .master ∧ n ≠ s.jl.idInUse ∧ s.jl.members.has n = true ∧ s.jl.first = none ∧ s.jl.reports = [] ∧
      s.sh.gotBeat = none) :=
  ⟨⟨W, 1, rfl, rfl⟩,
    ⟨{ W with jl := { port := [(1, { st := .down, pll := true })] } }, 1, rfl, by decide, rfl, rfl⟩,
    ⟨Wj {}, 1, rfl, rfl⟩,
    ⟨{ Wj {} with jl := { st := .member, port := [(1, { st := .up, pll := true, wrap := true, agreed := some 250 })] } }, 1, 250, false, rfl, rfl, rfl,
      rfl, rfl, by decide, by decide⟩,
    ⟨{ Wj {} with jl := { st := .member, port := [(1, { st := .up, pll := true, wrap := true, agreed := some 250, confirms := true })] } }, 1, 250, rfl,
      rfl, rfl, by decide, rfl⟩,
    ⟨Wj { st := .member }, 1, rfl, rfl, rfl, rfl, rfl⟩,
    ⟨Wj { st := .member, miss := 1 }, rfl, rfl, by decide, by decide⟩,
    ⟨Wj { st := .joining, miss := 2 }, rfl, rfl, rfl, by decide, by decide⟩,
    ⟨Wj { st := .master }, rfl, rfl⟩,
    ⟨Wj { st := .master, idInUse := 5, members := [(31, ())], missing := [(31, 15)] }, 31, rfl, rfl, by decide, rfl, rfl, rfl, rfl⟩⟩

theorem witness_PrintCommandsComplete :
    (∃ (s : State) (i rest : _), s.power = .on ∧ s.pe.coming = i :: rest ∧ peLate s i = false) ∧
    (∃ (s : State) (i rest : _), s.power = .on ∧ s.pe.coming = i :: rest ∧ peLate s i = true) ∧
    (∃ (s : State) (e rest : _), s.power = .on ∧ s.pe.epochs = e :: rest) :=
  ⟨⟨{ W with pe := { coming := [{ src := 0, ch := 0, stamp := 5 }] } }, { src := 0, ch := 0, stamp := 5 }, [], rfl, rfl, rfl⟩,
    ⟨{ W with pe := { printed := 9, coming := [{ src := 0, ch := 0, stamp := 5 }] } }, { src := 0, ch := 0, stamp := 5 }, [], rfl, rfl, rfl⟩,
    ⟨{ W with pe := { epochs := [epoch1] }, fx := { ended := [(0, { endAt := 1000000 }), (1, { endAt := 1000001 })] } }, epoch1, [], rfl, rfl⟩⟩

theorem witness_EaselLinkCommandsComplete :
    (∃ (s : State) (b : _), s.power = .on ∧ s.isOn 18 = true ∧ s.ez.link ≠ .powering ∧ s.ez.cur = some b) ∧
    (∃ (s : State), s.power = .on ∧ s.isOn 18 = true ∧ s.ez.link = .powering ∧ 2 ≤ s.ez.hellos) ∧
    (∃ (s : State) (d flip : _), s.power = .on ∧ s.field.powered = true ∧ s.ez.down.bind (DownFrame.received flip) = some d ∧ d.first = true ∧ d.commit
      = false ∧ d.safeNow = false) ∧
    (∃ (s : State) (d flip : _), s.power = .on ∧ s.field.powered = true ∧ s.ez.down.bind (DownFrame.received flip) = some d ∧ d.first = true ∧ d.commit
      = true ∧ d.safeNow = false ∧ d.addr = 1) ∧
    (∃ (s : State) (d flip : _), s.power = .on ∧ s.field.powered = true ∧ s.field.safe = false ∧ s.ez.down.bind (DownFrame.received flip) = some d ∧
      d.commit = false ∧ d.safeNow = true) ∧
    (∃ (s : State) (line : Option Nat), s.power = .on ∧ s.field.powered = true ∧ s.field.joined = true ∧ line.bind (fun flip => s.ez.down.bind
      (DownFrame.received flip)) = none) ∧
    (∃ (sync head : _), head / 2 ^ 104 = sync) ∧
    (∃ (s : State) (u flip : _), s.power = .on ∧ s.isOn 18 = true ∧ s.ez.link = .ready ∧ s.ez.up.bind (UpFrame.received flip) = some u) ∧
    (∃ (s : State) (line : Option Nat), s.power = .on ∧ s.isOn 18 = true ∧ s.ez.link ≠ .powering ∧ line.bind (fun flip => s.ez.up.bind (UpFrame.received
      flip)) = none) ∧
    (∃ (s : State), s.power = .on ∧ s.field.powered = true ∧ s.field.joined = false ∧ fieldOn s 149 = false) ∧
    (∃ (s : State), s.power = .on ∧ s.field.joined = false ∧ fieldOn s 149 = true) ∧
    (∃ (s : State) (b : _), s.power = .on ∧ s.isOn 18 = true ∧ s.ez.sent.find? (fun b => decide (b.age ≥ 4)) = some b) ∧
    (∃ (s : State), s.power = .on ∧ s.field.powered = true ∧ s.field.safe = false ∧ 5 ≤ s.field.missed) ∧
    (∃ (s : State), s.power = .on ∧ s.isOn 18 = true ∧ 5 ≤ s.ez.missed ∧ s.ez.link = .ready) ∧
    (∃ (s : State), s.power = .on ∧ s.isOn 18 = true ∧ s.variant.hasField = true ∧ s.field.powered = false) ∧
    (∃ (s : State), s.power = .on ∧ s.field.powered = true) :=
  ⟨⟨{ W with ez := { link := .ready, cur := some { id := 1, slots := [(1, 5), (2, 6)], done := 1 } } },
      { id := 1, slots := [(1, 5), (2, 6)], done := 1 }, rfl, rfl, by decide, rfl⟩,
    ⟨{ W with ez := { hellos := 2 } }, rfl, rfl, rfl, by decide⟩,
    ⟨Wdown {} (down false false), down false false, 0, rfl, rfl, rfl, rfl, rfl, rfl⟩,
    ⟨Wdown {} (down true false), down true false, 0, rfl, rfl, rfl, rfl, rfl, rfl, rfl⟩,
    ⟨Wdown {} (down false true), down false true, 0, rfl, rfl, rfl, rfl, rfl, rfl⟩,
    ⟨Wf { joined := true, missed := 4 }, none, rfl, rfl, rfl, rfl⟩,
    ⟨165, 165 * 2 ^ 104, rfl⟩,
    ⟨{ W with ez := { link := .ready, up := some up1 } }, up1, 0, rfl, rfl, rfl, rfl⟩,
    ⟨Wf {}, none, rfl, rfl, by decide, rfl⟩,
    ⟨{ Wf {} with doms := doms.put 149 {} }, rfl, rfl, rfl, rfl⟩,
    ⟨Wf {}, rfl, rfl, rfl⟩,
    ⟨{ W with ez := { sent := [{ id := 1, slots := [], seq := 3, age := 4 }] } }, { id := 1, slots := [], seq := 3, age := 4 }, rfl, rfl, rfl⟩,
    ⟨Wf { missed := 5 }, rfl, rfl, rfl, by decide⟩,
    ⟨{ W with ez := { link := .ready, missed := 5 } }, rfl, rfl, by decide, rfl⟩,
    ⟨W, rfl, rfl, rfl, rfl⟩,
    ⟨Wf {}, rfl, rfl⟩⟩

theorem witness_FieldCommandsComplete :
    (∃ (s : State) (n mv ua samples b : _), s.power = .on ∧ n < 24 ∧ inOn s n = true ∧ s.field.broken / 2 ^ n % 2 = 0 ∧ s.field.supply / 2 % 2 = 0 ∧ b =
      judgeInput (bitOf s.field.inType n) (s.inputOf n).level mv ua ∧ filterLength s ≤ (if b = (s.inputOf n).level then (s.inputOf n).run + samples
      else samples)) ∧
    (∃ (s : State) (n mv ua samples b : _), s.power = .on ∧ n < 24 ∧ inOn s n = true ∧ b = judgeInput (bitOf s.field.inType n) (s.inputOf n).level mv ua
      ∧ (if b = (s.inputOf n).level then (s.inputOf n).run + samples else samples) < filterLength s) ∧
    (∃ (s : State) (n : _), s.power = .on ∧ n < 24 ∧ inOn s n = true ∧ bitOf s.field.inWb n = true ∧ s.field.broken / 2 ^ n % 2 = 0) ∧
    (∃ (s : State) (n : _), s.power = .on ∧ n < 24 ∧ inOn s n = true ∧ s.field.broken / 2 ^ n % 2 = 1) ∧
    (∃ (s : State), s.power = .on ∧ s.field.powered = true ∧ s.field.supply % 2 = 0) ∧
    (∃ (s : State), s.power = .on ∧ s.field.powered = true ∧ s.field.supply / 2 % 2 = 0) ∧
    (∃ (s : State), s.power = .on ∧ s.field.powered = true ∧ s.field.supply / 4 % 2 = 0) ∧
    (∃ (s : State), s.power = .on ∧ s.field.powered = true ∧ s.field.supply / 8 % 2 = 0) ∧
    (∃ (s : State) (k : _), s.power = .on ∧ s.field.powered = true ∧ k < 4 ∧ s.field.supply / 2 ^ k % 2 = 1) ∧
    (∃ (s : State) (n : _), s.power = .on ∧ n < 16 ∧ swDomOn s n = true ∧ s.field.supply = 0 ∧ (s.sw n).on = true ∧ bitOf s.field.swConfig n = true) ∧
    (∃ (s : State) (n : _), s.power = .on ∧ n < 16 ∧ swDomOn s n = true ∧ s.field.supply = 0 ∧ (s.sw n).on = true ∧ bitOf s.field.swConfig n = false) ∧
    (∃ (s : State) (n : _), s.power = .on ∧ n < 16 ∧ swDomOn s n = true ∧ (s.sw n).hot = true ∧ (s.sw n).thermal = true ∧ swRestarts s n < 16 ∧ swWanted
      (s.setSw n { s.sw n with thermal := false }) n = true) ∧
    (∃ (s : State) (n : _), s.power = .on ∧ n < 16 ∧ swDomOn s n = true ∧ (s.sw n).on = true) ∧
    (∃ (s : State) (n : _), s.power = .on ∧ n < 16 ∧ swDomOn s n = true ∧ (s.sw n).on = true ∧ (s.sw n).openLoad = false) ∧
    (∃ (s : State) (n : _), s.power = .on ∧ n < 16 ∧ swDomOn s n = true) ∧
    (∃ (s : State) (n : _), s.power = .on ∧ n < 16 ∧ swDomOn s n = true ∧ (s.sw n).on = false ∧ swClamping s n = false ∧ (s.sw n).shortSup = false) ∧
    (∃ (s : State) (n : _), s.power = .on ∧ n < 16 ∧ swDomOn s n = true) ∧
    (∃ (s : State) (n t0 c : _), s.power = .on ∧ n < 16 ∧ swDomOn s n = true ∧ (s.sw n).clampAt = some c ∧ (s.sw n).on = false ∧ (s.sw n).heldAt = some
      t0 ∧ swWanted s n = true) :=
  ⟨⟨Wf {}, 23, 24000, 3000, 3000, true, rfl, by decide, rfl, rfl, rfl, rfl, by decide⟩,
    ⟨Wf {}, 23, 24000, 3000, 2, true, rfl, by decide, rfl, rfl, by decide⟩,
    ⟨Wf { inWb := 0x800000, level := 0x800000 }, 23, rfl, by decide, rfl, rfl, rfl⟩,
    ⟨Wf { broken := 0x800000 }, 23, rfl, by decide, rfl, rfl⟩,
    ⟨Wf {}, rfl, rfl, rfl⟩,
    ⟨Wf {}, rfl, rfl, rfl⟩,
    ⟨Wf { supply := 8 }, rfl, rfl, rfl⟩,
    ⟨Wf { supply := 7 }, rfl, rfl, rfl⟩,
    ⟨Wf { supply := 8 }, 3, rfl, rfl, by decide, rfl⟩,
    ⟨Wsw { on := true }, 0, rfl, by decide, rfl, rfl, rfl, rfl⟩,
    ⟨Wf { pushed := true, switches := [(15, { on := true })] }, 15, rfl, by decide, rfl, rfl, rfl, rfl⟩,
    ⟨Wsw { thermal := true, hot := true }, 0, rfl, by decide, rfl, rfl, rfl, by decide, rfl⟩,
    ⟨Wsw { on := true }, 0, rfl, by decide, rfl, rfl⟩,
    ⟨Wsw { on := true }, 0, rfl, by decide, rfl, rfl, rfl⟩,
    ⟨Wf {}, 15, rfl, by decide, rfl⟩,
    ⟨Wf {}, 15, rfl, by decide, rfl, rfl, rfl, rfl⟩,
    ⟨Wf {}, 15, rfl, by decide, rfl⟩,
    ⟨Wsw { clampAt := some 900000, heldAt := some 5 }, 0, 5, 900000, rfl, by decide, rfl, rfl, rfl, rfl, rfl⟩⟩

theorem witness_WandWordsComplete :
    (∃ (s : State) (n w : _), WandAt s n 1 w) ∧
    (∃ (s : State) (n w : _), WandAt s n 2 w) ∧
    (∃ (s : State) (n w : _), WandAt s n 3 w) ∧
    (∃ (s : State) (n w : _), WandAt s n 4 w) ∧
    (∃ (s : State) (n w : _), WandAt s n 5 w ∧ (inLevel s (wf w 22 5) == bitOf w 27) = true) ∧
    (∃ (s : State) (n w : _), WandAt s n 5 w ∧ (inLevel s (wf w 22 5) == bitOf w 27) = false) ∧
    (∃ (s : State) (n w : _), WandAt s n 6 w) ∧
    (∃ (s : State) (n w : _), WandAt s n 7 w) ∧
    (∃ (s : State) (n w : _), WandAt s n 8 w) ∧
    (∃ (s : State) (n w : _), WandAt s n 9 w) ∧
    (∃ (s : State) (n w : _), WandAt s n 10 w) ∧
    (∃ (s : State) (n : _), s.power = .on ∧ valveOn s n = true ∧ (s.valve n).running = true ∧ (s.valve n).wait = none ∧ wandLegal ((s.valve n).prog.get
      (s.valve n).pc 0) = false) :=
  ⟨⟨Ww 0x10001F38, 0, 0x10001F38, ⟨rfl, rfl, rfl, rfl, by decide, rfl, rfl, rfl⟩⟩,
    ⟨Ww 0x20FFE001, 0, 0x20FFE001, ⟨rfl, rfl, rfl, rfl, by decide, rfl, rfl, rfl⟩⟩,
    ⟨Ww 0x30000001, 0, 0x30000001, ⟨rfl, rfl, rfl, rfl, by decide, rfl, rfl, rfl⟩⟩,
    ⟨Ww 0x48002010, 0, 0x48002010, ⟨rfl, rfl, rfl, rfl, by decide, rfl, rfl, rfl⟩⟩,
    ⟨Ww 0x55C00000, 0, 0x55C00000, ⟨rfl, rfl, rfl, rfl, by decide, rfl, rfl, rfl⟩, rfl⟩,
    ⟨Ww 0x5DC00001, 0, 0x5DC00001, ⟨rfl, rfl, rfl, rfl, by decide, rfl, rfl, rfl⟩, rfl⟩,
    ⟨Ww 0x60100A00, 0, 0x60100A00, ⟨rfl, rfl, rfl, rfl, by decide, rfl, rfl, rfl⟩⟩,
    ⟨Ww 0x70200005, 0, 0x70200005, ⟨rfl, rfl, rfl, rfl, by decide, rfl, rfl, rfl⟩⟩,
    ⟨Ww 0x82000005, 0, 0x82000005, ⟨rfl, rfl, rfl, rfl, by decide, rfl, rfl, rfl⟩⟩,
    ⟨Ww 0x98000000, 0, 0x98000000, ⟨rfl, rfl, rfl, rfl, by decide, rfl, rfl, rfl⟩⟩,
    ⟨Ww 0xA00000FF, 0, 0xA00000FF, ⟨rfl, rfl, rfl, rfl, by decide, rfl, rfl, rfl⟩⟩,
    ⟨Ww 0, 0, rfl, rfl, rfl, rfl, rfl⟩⟩

theorem witness_ValveCommandsComplete :
    (∃ (s : State) (n : _), s.power = .on ∧ valveOn s n = true ∧ (s.valve n).running = false) ∧
    (∃ (s : State) (n : _), s.power = .on ∧ valveOn s n = true ∧ (s.valve n).running = true ∧ bitOf (s.valve n).cfg 0 = false) ∧
    (∃ (s : State) (n t1 : _), s.power = .on ∧ valveOn s n = true ∧ (s.valve n).regAt = some t1) ∧
    (∃ (s : State) (n mean le i t0 : _), s.power = .on ∧ valveOn s n = true ∧ (s.valve n).running = true ∧ bitOf (s.valve n).cfg 0 = false ∧ (s.valve
      n).wait = some (.level le i t0) ∧ (match (s.valve n).regAt with | some u => advanceClk (u + regPeriod (s.valve n).cfg) s | none => s).tk.clk <
      t0 ∧ (if le then mean ≤ i else i ≤ mean)) ∧
    (∃ (s : State) (n : _), s.power = .on ∧ valveOn s n = true ∧ (s.valve n).ending = true) ∧
    (∃ (s : State) (n leg ma since lasts kind d : _), s.power = .on ∧ valveOn s n = true ∧ leg ≤ 1 ∧ (s.valve n).running = true ∧ (s.valve n).tripAt =
      none ∧ tripKind (s.valve n).cfg ma since lasts = some (kind, d)) ∧
    (∃ (s : State) (n ma since lasts : _), s.power = .on ∧ valveOn s n = true ∧ tripKind (s.valve n).cfg ma since lasts = none) ∧
    (∃ (s : State) (n leg ma since lasts kind d t1 k : _), s.power = .on ∧ valveOn s n = true ∧ leg ≤ 1 ∧ tripKind (s.valve n).cfg ma since lasts = some
      (kind, d) ∧ (s.valve n).tripAt = some (t1, k) ∧ k ≠ 2 * (n % 2) + leg ∧ s.tk.clk + d ≤ t1 + 1000) ∧
    (∃ (s : State) (n t0 : _), s.power = .on ∧ valveOn s n = true ∧ (s.valve n).running = true ∧ (s.valve n).capped = false ∧ (s.valve n).highAt = some
      t0) ∧
    (∃ (s : State) (n : _), s.power = .on ∧ valveOn s n = true ∧ s.field.pushed = true ∧ bitOf (s.valve n).cfg 1 = true ∧ (s.valve n).running = false ∧
      (s.valve n).ending = false ∧ (s.valve n).inSafe = false ∧ (s.valve n).latched = false ∧ s.field.supply = 0) :=
  ⟨⟨Wv {}, 0, rfl, rfl, rfl⟩,
    ⟨Wv { running := true, cfg := 0, goal := 4000 }, 0, rfl, rfl, rfl, rfl⟩,
    ⟨Wv { regAt := some 990000 }, 0, 990000, rfl, rfl, rfl⟩,
    ⟨Wv { running := true, cfg := 0, wait := some (.level true 100 1000001) }, 0, 100, true, 100, 1000001, rfl, rfl, rfl, rfl, rfl, by decide, by
      decide⟩,
    ⟨Wv { ending := true, cause := 3, code := 4, mean := 20 }, 0, rfl, rfl, rfl⟩,
    ⟨Wv { running := true }, 0, 1, 7000, 500, 1500, 1, 1500, rfl, rfl, by decide, rfl, rfl, rfl⟩,
    ⟨Wv {}, 0, 7000, 500, 1499, rfl, rfl, rfl⟩,
    ⟨Wv { tripAt := some (999900, 1) }, 0, 0, 12000, 0, 0, 2, 0, 999900, 1, rfl, rfl, by decide, rfl, rfl, by decide, by decide⟩,
    ⟨Wv { running := true, target := 4000, highAt := some 900000 }, 0, 900000, rfl, rfl, rfl, rfl, rfl⟩,
    ⟨Wv { cfg := 2 }, 0, rfl, rfl, rfl, rfl, rfl, rfl, rfl, rfl, rfl⟩⟩

theorem witness_CanCommandsComplete :
    (∃ (s : State) (b f k : _), s.power = .on ∧ b < 2 ∧ s.isOn 13 = true ∧ (s.can b).depth ≠ .asleep ∧ canLive (s.can b) = true ∧ canTaker (s.can
      b).filters 1 f = some k ∧ canPlaces s b < 16) ∧
    (∃ (s : State) (b f : _), s.power = .on ∧ b < 2 ∧ s.isOn 13 = true ∧ (s.can b).depth ≠ .asleep ∧ canLive (s.can b) = true ∧ canTaker (s.can
      b).filters 1 f = none) ∧
    (∃ (s : State) (b r e : _), s.power = .on ∧ s.isOn 13 = true ∧ (s.can b).sending = true ∧ (s.can b).tryAt ≠ none ∧ execOf s 0x58 b = some (r, e)) ∧
    (∃ (s : State) (b r e : _), s.power = .on ∧ s.isOn 13 = true ∧ (s.can b).sending = true ∧ (s.can b).tryAt ≠ none ∧ canLive (s.can b) = true ∧ (s.can
      b).mode = 1 ∧ (s.can b).txdStop = false ∧ execOf s 0x58 b = some (r, e)) ∧
    (∃ (s : State) (b t0 r e : _), s.power = .on ∧ s.isOn 13 = true ∧ (s.can b).sending = true ∧ (s.can b).tryAt = some t0 ∧ execOf s 0x58 b = some (r,
      e)) ∧
    (∃ (s : State) (b tec : _), s.power = .on ∧ s.isOn 13 = true ∧ canLive (s.can b) = true ∧ 256 ≤ tec) ∧
    (∃ (s : State) (b tec : _), s.power = .on ∧ s.isOn 13 = true ∧ (s.can b).st = .active ∧ 128 ≤ tec ∧ tec < 256) ∧
    (∃ (s : State) (b tec rec_ : _), s.power = .on ∧ s.isOn 13 = true ∧ (s.can b).st = .passive ∧ tec < 128 ∧ rec_ < 128) ∧
    (∃ (s : State) (b : _), s.power = .on ∧ s.isOn 13 = true ∧ (s.can b).st = .busOff ∧ (s.can b).depth ≠ .asleep) ∧
    (∃ (s : State) (b : _), s.power = .on ∧ b < 2 ∧ s.isOn 13 = true) ∧
    (∃ (s : State) (b : _), s.power = .on ∧ s.isOn 13 = true ∧ (s.can b).st = .integrating ∧ (s.can b).depth ≠ .asleep) ∧
    (∃ (s : State) (b : _), s.power = .on ∧ b < 2 ∧ s.isOn 13 = true ∧ (s.can b).txdStop = false) ∧
    (∃ (s : State) (b : _), s.power = .on ∧ b < 2 ∧ s.isOn 13 = true ∧ (s.can b).dominant = false) :=
  ⟨⟨Wb { st := .active, filters := [(31, { action := 1 })] }, 0, { id := 5, dlc := 15, data := bytesOf 64 (2 ^ 400) }, 31, rfl, by decide, rfl, by
      decide, rfl, rfl, by decide⟩,
    ⟨Wb { st := .active }, 0, { id := 5, dlc := 2 }, rfl, by decide, rfl, by decide, rfl, rfl⟩,
    ⟨Wx (dsc 0x58 0 [(0x10, 5)]) .waiting (Wb { st := .active, sending := true, tryAt := some 5 }), 0, 0, { d := dsc 0x58 0 [(0x10, 5)], count := 0 },
      rfl, rfl, rfl, by decide, rfl⟩,
    ⟨Wx (dsc 0x58 0 [(0x10, 5)]) .waiting (Wb { st := .active, sending := true, mode := 1, tryAt := some 5 }), 0, 0,
      { d := dsc 0x58 0 [(0x10, 5)], count := 0 }, rfl, rfl, rfl, by decide, rfl, rfl, rfl, rfl⟩,
    ⟨Wx (dsc 0x58 0 [(0x10, 5)]) .waiting (Wb { st := .active, sending := true, tryAt := some 5 }), 0, 5, 0,
      { d := dsc 0x58 0 [(0x10, 5)], count := 0 }, rfl, rfl, rfl, rfl, rfl⟩,
    ⟨Wb { st := .passive }, 0, 256, rfl, rfl, rfl, by decide⟩,
    ⟨Wb { st := .active }, 0, 255, rfl, rfl, rfl, by decide, by decide⟩,
    ⟨Wb { st := .passive }, 0, 127, 127, rfl, rfl, rfl, by decide, by decide⟩,
    ⟨Wb { st := .busOff, tec := 256 }, 0, rfl, rfl, rfl, by decide⟩,
    ⟨Wr [(0x4C000, 1)] W, 1, rfl, by decide, rfl⟩,
    ⟨Wb { st := .integrating, rec_ := 128 }, 0, rfl, rfl, rfl, by decide⟩,
    ⟨W, 1, rfl, by decide, rfl, rfl⟩,
    ⟨W, 1, rfl, by decide, rfl, rfl⟩⟩

theorem witness_CanWakeCommandsComplete :
    (∃ (s : State) (b : _), s.power = .on ∧ s.isOn 13 = true ∧ (s.can b).depth = .entry ∧ (s.can b).sending = false) ∧
    (∃ (s : State) (b : _) (ph : List (Bool × Nat)), canWatched s b = true ∧ wakeMode s b = 1 ∧ (ph.foldl (scanPhase (tFog s b)) ({}, s)).1.hit = true) ∧
    (∃ (s : State) (b d1 r d2 : _), canWatched s b = true ∧ wakeMode s b = 1 ∧ 0 < tFog s b ∧ 11 * tFog s b ≤ 10 * min d1 (min r d2) ∧ d1 + r + tFog s b
      ≤ 1000000) ∧
    (∃ (s : State) (b d1 r d2 : _), (10 * d2 ≤ 9 * tFog s b ∨ 1000000 < d1 + r + min (tFog s b) d2)) ∧
    (∃ (s : State) (b : _) (ph : List (Bool × Nat)), canWatched s b = true ∧ wakeMode s b = 2 ∧ (ph.foldl (scanPhase (tFog s b)) ({}, s)).1.hit = true) ∧
    (∃ (s : State) (b : _), canWatched s b = true ∧ (s.can b).armed = true ∧ wakeMode s b = 2) ∧
    (∃ (s : State) (b f k l : _), canWatched s b = true ∧ (s.can b).armed = true ∧ wakeMode s b = 2 ∧ (s.can b).inFrame = some l ∧ canTaker l 2 f = some
      k) ∧
    (∃ (s : State) (b f l : _), canWatched s b = true ∧ (s.can b).armed = true ∧ wakeMode s b = 2 ∧ (s.can b).inFrame = some l ∧ canTaker l 2 f = none) ∧
    (∃ (s : State) (b l : _), canWatched s b = true ∧ (s.can b).armed = true ∧ wakeMode s b = 2 ∧ (s.can b).inFrame = some l ∧ (s.can b).fec + 1 ≤ fld
      (wakeConfig s b) 16 5) ∧
    (∃ (s : State) (b l : _), canWatched s b = true ∧ (s.can b).armed = true ∧ wakeMode s b = 2 ∧ (s.can b).inFrame = some l ∧ fld (wakeConfig s b) 16 5
      < (s.can b).fec + 1) ∧
    (∃ (s : State) (b : _), (s.can b).armed = true) :=
  ⟨⟨Wb { st := .active, sleep := true, depth := .entry }, 0, rfl, rfl, rfl, rfl⟩,
    ⟨Wr [(0x4C014, 0x4000000A)] { Wk {} with cn := [(0, { sleep := true, depth := .asleep, heard := some { id := 1, dlc := 0 } })] }, 0, [(true, 1100),
      (false, 1100), (true, 1100)], rfl, rfl, rfl⟩,
    ⟨Wr [(0x4C014, 0x4000000A)] (Wb { depth := .asleep }), 0, 1100, 1100, 1100, rfl, rfl, by decide, by decide, by decide⟩,
    ⟨Wr [(0x4C014, 0x4000000A)] (Wb { depth := .asleep }), 0, 1100, 1100, 900, by decide⟩,
    ⟨Wr [(0x4C814, 0x8000000A)] (Wk {}), 1, [(true, 1100), (false, 1100), (true, 1100)], rfl, rfl, rfl⟩,
    ⟨Wr [(0x4C014, 0x8000000A)] (Wb { depth := .asleep, armed := true }), 0, rfl, rfl, rfl⟩,
    ⟨Wr [(0x4C014, 0x80000000)] (Wb { depth := .asleep, armed := true, inFrame := some [(3, { action := 2 })] }), 0, { id := 5, dlc := 0 }, 3, [(3,
      { action := 2 })], rfl, rfl, rfl, rfl, rfl⟩,
    ⟨Wr [(0x4C014, 0x8000000A)] (Wb { depth := .asleep, armed := true, inFrame := some [] }), 0, { id := 5, dlc := 0 }, [], rfl, rfl, rfl, rfl, rfl⟩,
    ⟨Wr [(0x4C014, 0x801F0000)] (Wb { depth := .asleep, armed := true, inFrame := some [], fec := 30 }), 0, [], rfl, rfl, rfl, rfl, by decide⟩,
    ⟨Wr [(0x4C014, 0x801F0000)] (Wb { depth := .asleep, armed := true, inFrame := some [], fec := 31 }), 0, [], rfl, rfl, rfl, rfl, by decide⟩,
    ⟨Wb { armed := true, fec := 3 }, 0, rfl⟩⟩

theorem witness_EncoderCommandsComplete :
    (∃ (s : State) (n a b held : _), s.power = .on ∧ enOn s n = true ∧ (s.enc n).filterN ≤ held ∧ ((s.enc n).mode = 1 ∨ (s.enc n).mode = 2) ∧ (s.enc
      n).fault % 4 = 0 ∧ (s.enc n).a ≠ a ∧ (s.enc n).b ≠ b) ∧
    (∃ (s : State) (n a b held : _), s.power = .on ∧ enOn s n = true ∧ (s.enc n).filterN ≤ held ∧ (s.enc n).mode = 2 ∧ (s.enc n).fault % 4 = 0 ∧ quadDir
      (s.enc n).a (s.enc n).b a b ≠ 0) ∧
    (∃ (s : State) (n a b held : _), s.power = .on ∧ enOn s n = true ∧ (s.enc n).filterN ≤ held ∧ (s.enc n).mode = 1 ∧ (s.enc n).fault % 4 = 0 ∧ quadDir
      (s.enc n).a (s.enc n).b a b ≠ 0) ∧
    (∃ (s : State) (n held : _), s.power = .on ∧ enOn s n = true ∧ (s.enc n).filterN ≤ held ∧ ((s.enc n).mode = 1 ∨ (s.enc n).mode = 2) ∧ (s.enc
      n).fault / 4 % 2 = 0) ∧
    (∃ (s : State) (n held : _), s.power = .on ∧ enOn s n = true ∧ (s.enc n).filterN ≤ held ∧ ((s.enc n).mode = 1 ∨ (s.enc n).mode = 2) ∧ (s.enc
      n).fault / 4 % 2 = 0 ∧ bitOf (enConfig s n) 3 = true ∧ fld (enConfig s n) 26 2 = 1 ∧ fld (enConfig s n) 24 2 ≠ 1 ∧ (s.enc n).started = none ∧
      (s.enc n).stopAt = none) ∧
    (∃ (s : State) (n held : _), s.power = .on ∧ held < (s.enc n).filterN) ∧
    (∃ (s : State) (n : _), s.power = .on ∧ (s.enc n).latchEarly = true ∧ (s.enc n).latchAt = s.tk.now) ∧
    (∃ (s : State) (n : _), s.power = .on ∧ enOn s n = true ∧ (s.enc n).latchEarly = false) ∧
    (∃ (s : State) (n f : _), s.power = .on ∧ enOn s n = true ∧ ((s.enc n).mode = 3 ∨ (s.enc n).mode = 4) ∧ frameFault (s.enc n).mode (enSerial s n) f =
      none) ∧
    (∃ (s : State) (n f k : _), s.power = .on ∧ enOn s n = true ∧ ((s.enc n).mode = 3 ∨ (s.enc n).mode = 4) ∧ frameFault (s.enc n).mode (enSerial s n) f
      = some k) ∧
    (∃ (s : State) (n l : _), s.power = .on ∧ enOn s n = true ∧ l < 3 ∧ (s.enc n).fault / 2 ^ l % 2 = 0) ∧
    (∃ (s : State) (n l : _), s.power = .on ∧ enOn s n = true ∧ l < 3 ∧ (s.enc n).fault / 2 ^ l % 2 = 1) ∧
    (∃ (s : State) (k : _), s.power = .on ∧ snRuns s = true ∧ snLive s = [k] ∧ s.en.sn.waiting = [] ∧ s.en.sn.busy = none) ∧
    (∃ (s : State) (k d at0 : _), s.power = .on ∧ s.isOn 14 = true ∧ s.en.sn.busy = some (k, d, at0) ∧ s.en.sn.waiting = []) :=
  ⟨⟨We { mode := 2, count := 9 }, 0, true, true, 1, rfl, rfl, by decide, by decide, rfl, by decide, by decide⟩,
    ⟨We { mode := 2, count := 2147483647 }, 0, true, false, 1, rfl, rfl, by decide, rfl, rfl, by decide⟩,
    ⟨We { mode := 1, lo := -1, hi := 1, count := 1 }, 0, true, false, 1, rfl, rfl, by decide, rfl, rfl, by decide⟩,
    ⟨We { mode := 1, lo := -1, hi := 1, count := 1 }, 0, 1, rfl, rfl, by decide, by decide, rfl⟩,
    ⟨Wr [(0x4D000, 0x06140108)] (We { mode := 2, count := 7 }), 0, 1, rfl, rfl, by decide, by decide, rfl, rfl, rfl, by decide, rfl, rfl⟩,
    ⟨We { filterN := 9 }, 0, 3, rfl, by decide⟩,
    ⟨We { latchEarly := true, latchAt := 1000000 }, 0, rfl, rfl, rfl⟩,
    ⟨We { mode := 2, count := 7, edgeAt := some 990000, dir := 1, ref := some (1, 800000), used := some (7, 990000) }, 0, rfl, rfl, rfl⟩,
    ⟨Wr [(0x4D004, 0x04193259)] (We { mode := 3 }), 0, ⟨true, 0, 0x1234567, true, 100, true, true, 0⟩, rfl, rfl, by decide, rfl⟩,
    ⟨We { mode := 3, fails := 7 }, 0, ⟨false, 0, 5, true, 100, true, true, 0⟩, 1, rfl, rfl, by decide, rfl⟩,
    ⟨We { mode := 1, count := 3 }, 0, 2, rfl, rfl, by decide, rfl⟩,
    ⟨We { mode := 1, fault := 4, stale := true }, 0, 2, rfl, rfl, by decide, rfl⟩,
    ⟨Wr [(0x4E000, 1)] { W with en := { sn := { entries := [snE], valid := 1 } } }, 0, rfl, rfl, rfl, rfl, rfl⟩,
    ⟨{ W with en := { sn := { entries := [snE], valid := 1, busy := some (0, snE, 990000) } } }, 0, snE, 990000, rfl, rfl, rfl, rfl⟩⟩

theorem witness_SheetCommandsComplete :
    (∃ (s : State), s.power = .on ∧ s.sheet.checking = true ∧ s.sheet.checked = false) ∧
    (∃ (s : State), s.power = .on ∧ s.sheet.checking = true ∧ s.sheet.checked = true) ∧
    (∃ (s : State), s.power = .on ∧ s.sheet.checked = true) ∧
    (∃ (s : State), s.power = .on ∧ s.sheet.checked = false) :=
  ⟨⟨{ W with sheet := { checking := true, checked := false } }, rfl, rfl, rfl⟩,
    ⟨{ W with sheet := { checking := true } }, rfl, rfl, rfl⟩,
    ⟨W, rfl, rfl⟩,
    ⟨{ W with sheet := { checked := false } }, rfl, rfl⟩⟩

theorem witness_WithoutMainPowerTheMainDieStands :
    (∃ (c : _) (s : State), ofMainDie c = true ∧ s.power ≠ .on) :=
  ⟨Instr.beacon, Wk {}, rfl, by decide⟩

theorem witness_SheetStandsUntilReset :
    (∃ (c : _) (s t : State), exec c s = .next t ∧ t.power = .on ∧ s.sheet.checked = true ∧ t.sheet.checked = true) ∧
    (∃ (c : _) (s t : State), exec c s = .next t ∧ t.power = .on ∧ t.sheet.checked = true) ∧
    (∃ (s : State) (damage f : _), f = checkSheet (damagedBy damage (sheetImage s)) ∧ s.power = .on ∧ s.sheet.checking = true ∧ s.sheet.checked = true) :=
  ⟨⟨Instr.l1Exit, W, after .l1Exit W, rfl, rfl, rfl, rfl⟩,
    ⟨Instr.l1Exit, W, after .l1Exit W, rfl, rfl, rfl⟩,
    ⟨{ W with sheet := { checking := true } }, [], checkSheet (damagedBy [] (sheetImage { W with sheet := { checking := true } })), rfl, rfl, rfl, rfl⟩⟩

theorem witness_OnlyAPressOpensTheWindow :
    (∃ (c : _) (s t : State) (w : _), exec c s = .next t ∧ t.pres.window = some w) :=
  ⟨Instr.pressAccepted 5, W, after (.pressAccepted 5) W, 5, rfl, rfl⟩

theorem witness_ACiThatLeavesOnReleasesItsGrant :
    (∃ (c : _) (s t : State) (n : _), n < s.variant.channels ∧ exec c s = .next t ∧ s.isOn (ciDom n) = true ∧ t.isOn (ciDom n) = false) :=
  ⟨Instr.fllUnlock 20 0, { W with sh := { ch := [(0, { grant := 9, lease := 3 })] } }, after (.fllUnlock 20 0)
    { W with sh := { ch := [(0, { grant := 9, lease := 3 })] } }, 0, by decide, rfl, rfl, rfl⟩

theorem witness_StopCellsEnterAndCutsReplaceFades :
    (∃ (s : State) (p h : _), s.power = .on ∧ portState s p ≠ .off ∧ cType h = 4 ∧ delivers s h = true ∧ cSrc h ≠ s.jl.idInUse) ∧
    (∃ (s : State) (p h : _), s.power = .on ∧ portState s p ≠ .off ∧ cType h = 4 ∧ delivers s h = true ∧ cSrc h = s.jl.idInUse) ∧
    (∃ (s : State) (p h n f : _), s.power = .on ∧ portState s p ≠ .off ∧ cType h = 4 ∧ delivers s h = true ∧ cSrc h ≠ s.jl.idInUse ∧ s.present n = true
      ∧ (s.ch n).st = .fading ∧ (s.ch n).fade = some f) :=
  ⟨⟨Wj { st := .member, idInUse := 5 }, 0, 0x4000 + toAll 9, rfl, by decide, rfl, rfl, by decide⟩,
    ⟨Wj { st := .member, idInUse := 9 }, 0, 0x4000 + toAll 9, rfl, by decide, rfl, rfl, rfl⟩,
    ⟨{ Wj { st := .member, idInUse := 5 } with chs := [(0, { st := .fading, chen := true, fade := some { cut := false, from_ := 5, start := 1, fadeNs := 400000, dischNs := 200000, lowAt := none } })] },
      0, 0x4000 + toAll 9, 0, { cut := false, from_ := 5, start := 1, fadeNs := 400000, dischNs := 200000, lowAt := none }, rfl, by decide, rfl,
      rfl, by decide, rfl, rfl, rfl⟩⟩

theorem witness_FaultsFenceOrStop :
    (∃ (s : State) (a b : _) (rose : Bool) (d : _), s.variant = .xf6408 ∧ s.power = .on ∧ s.isOn a = true ∧ s.isOn b = true ∧ d = (if rose then a else
      b)) :=
  ⟨W, 8, 9, true, 8, rfl, rfl, rfl, rfl, rfl⟩

theorem witness_Xf6400HasNoFieldCommands :
    (∃ (s : State) (r d : _) (t : State), s.variant = .xf6400 ∧ (Begins s r d 0x50 ∧ exec (.valveLoad r) s = .next t ∨ Begins s r d 0x51 ∧ exec
      (.valveRun r) s = .next t ∨ Begins s r d 0x52 ∧ exec (.switchSet r) s = .next t ∨ Begins s r d 0x53 ∧ exec (.fieldSet r) s = .next t)) :=
  ⟨Wh (dsc 0x52 0 [(0x10, 1)]) { W with variant := .xf6400 }, 0, dsc 0x52 0 [(0x10, 1)], after (.switchSet 0) (Wh (dsc 0x52 0 [(0x10, 1)])
    { W with variant := .xf6400 }), rfl, .inr (.inr (.inl ⟨⟨⟨rfl, rfl, rfl⟩, rfl, rfl⟩, rfl⟩))⟩

theorem witness_SleepAtBusOffAndSleepCancelled :
    (∃ (s : State) (b : _), HostReaches s 0 ∧ s.sheet.hold = false ∧ b < 2 ∧ s.isOn 13 = true ∧ (s.can b).sleep = false ∧ (s.can b).st = .busOff) ∧
    (∃ (s : State) (b : _), HostReaches s 0 ∧ s.sheet.hold = false ∧ b < 2 ∧ (s.can b).sleep = true ∧ (s.can b).depth = .entry) :=
  ⟨⟨Wb { st := .busOff }, 0, ⟨rfl, rfl, rfl, rfl, rfl, rfl⟩, rfl, by decide, rfl, rfl, rfl⟩,
    ⟨Wb { st := .active, sleep := true, depth := .entry }, 0, ⟨rfl, rfl, rfl, rfl, rfl, rfl⟩, rfl, by decide, rfl, rfl⟩⟩

theorem witness_QuadratureCountsAndCoincidentCaptures :
    (∃ (s : State) (n a b held : _), s.power = .on ∧ enOn s n = true ∧ (s.enc n).filterN ≤ held ∧ ((s.enc n).mode = 2 ∧ -2147483648 < (s.enc n).count ∧
      (s.enc n).count < 2147483647 ∨ (s.enc n).mode = 1 ∧ (s.enc n).lo < (s.enc n).count ∧ (s.enc n).count < (s.enc n).hi) ∧ (s.enc n).fault % 4 = 0
      ∧ (s.enc n).a = a ∧ (s.enc n).b = b) ∧
    (∃ (s : State) (n held : _), s.power = .on ∧ enOn s n = true ∧ (s.enc n).filterN ≤ held ∧ ((s.enc n).mode = 1 ∨ (s.enc n).mode = 2) ∧ (s.enc
      n).fault / 4 % 2 = 0 ∧ bitOf (enConfig s n) 3 = true ∧ ((fld (enConfig s n) 26 2 = 0 ∧ fld (enConfig s n) 24 2 = 0 ∧ (s.enc n).started = none)
      ∨ (fld (enConfig s n) 24 2 = 0 ∧ ∃ t0 c0, (s.enc n).started = some (t0, c0) ∧ t0 / 5 = s.tk.now / 5) ∨ (fld (enConfig s n) 26 2 = 0 ∧ fld
      (enConfig s n) 24 2 ≠ 0 ∧ (s.enc n).started = none ∧ ∃ u, (s.enc n).stopAt = some u ∧ u / 5 = s.tk.now / 5))) :=
  ⟨⟨We { mode := 2 }, 0, false, false, 1, rfl, rfl, by decide, by decide, rfl, rfl, rfl⟩,
    ⟨Wr [(0x4D000, 0x00140108)] (We { mode := 2 }), 0, 1, rfl, rfl, by decide, by decide, rfl, rfl, .inl ⟨rfl, rfl, rfl⟩⟩⟩

theorem witness_RefusedSettingsLeaveTheirRegisters :
    (∃ (s : State) (n v w i r : _), HostReaches s 0 ∧ n < 16 ∧ RegAt s (0x44004 + 0x100 * n) .sp i r ∧ w = (merge .sp 4 (fieldsOf s.variant .sp i r)
      (s.wr (0x44004 + 0x100 * n) 0x01C00040) v).1 ∧ (fld w 16 12 ≤ fld w 0 12 ∨ fld w 16 12 = 0)) ∧
    (∃ (s : State) (v : _), HostReaches s 0 ∧ s.sheet.hold = false ∧ (2046 < fld v 16 11 ∨ fld v 16 11 < fld v 0 11)) ∧
    (∃ (s : State) (b v w i r : _), HostReaches s 0 ∧ b < 2 ∧ RegAt s (cnKey b 4) .cn i r ∧ w = (merge .cn 4 (fieldsOf s.variant .cn i r) (s.wr (cnKey b
      4) 0x021F0808) v).1 ∧ 25 * fld w 24 8 * (1 + fld w 16 8 + fld w 8 8) < 1000) ∧
    (∃ (s : State) (b v w i r : _), HostReaches s 0 ∧ b < 2 ∧ RegAt s (cnKey b 8) .cn i r ∧ w = (merge .cn 8 (fieldsOf s.variant .cn i r) (s.wr (cnKey b
      8) 0x010E0505) v).1 ∧ 25 * fld w 24 8 * (1 + fld w 16 8 + fld w 8 8) < 200) ∧
    (∃ (s : State), HostReaches s 0 ∧ s.sheet.hold = false ∧ s.allDark = false) :=
  ⟨⟨W, 15, 0x00400040, (merge .sp 4 (fieldsOf .xf6408 .sp 15 (regOf 0x44F04)) 0x01C00040 0x00400040).1, 15, regOf 0x44F04, ⟨rfl, rfl, rfl, rfl, rfl,
      rfl⟩, by decide, ⟨by decide, rfl, .inl rfl⟩, rfl, by decide⟩,
    ⟨W, 0x07FF0000, ⟨rfl, rfl, rfl, rfl, rfl, rfl⟩, rfl, by decide⟩,
    ⟨W, 1, 0x01100808, (merge .cn 4 (fieldsOf .xf6408 .cn 1 (regOf 0x4C804)) 0x021F0808 0x01100808).1, 1, regOf 0x4C804, ⟨rfl, rfl, rfl, rfl, rfl, rfl⟩,
      by decide, ⟨by decide, rfl, .inl rfl⟩, rfl, by decide⟩,
    ⟨W, 1, 0x01030202, (merge .cn 8 (fieldsOf .xf6408 .cn 1 (regOf 0x4C808)) 0x010E0505 0x01030202).1, 1, regOf 0x4C808, ⟨rfl, rfl, rfl, rfl, rfl, rfl⟩,
      by decide, ⟨by decide, rfl, .inl rfl⟩, rfl, by decide⟩,
    ⟨Wc { st := .running }, ⟨rfl, rfl, rfl, rfl, rfl, rfl⟩, rfl, rfl⟩⟩

theorem witness_GenerationsAdvanceAtStarts :
    (∃ (t : State), FromReset t) ∧
    (∃ (s : State) (n a : _), s.power = .on ∧ s.present n = true ∧ s.isOn (ciDom n) = true ∧ (s.ch n).st = .dark ∧ (s.ch n).cmds.start = some a ∧
      s.mm.bad = []) ∧
    (∃ (c : _) (s t : State), exec c s = .next t) :=
  ⟨⟨State.reset, reset_from_reset⟩,
    ⟨Wc { cmds := { start := some { entry := 0, prio := 0, vars := [] } }, gen := 0xFFFF }, 0, { entry := 0, prio := 0, vars := [] }, rfl, rfl, rfl,
      rfl, rfl, rfl⟩,
    ⟨Instr.pwmPeriodBoundary 0 [], Wc { cmds := { start := some { entry := 0, prio := 0, vars := [] } }, gen := 0xFFFF }, after (.pwmPeriodBoundary 0
      []) (Wc { cmds := { start := some { entry := 0, prio := 0, vars := [] } }, gen := 0xFFFF }), rfl⟩⟩

/-! ### Witnesses of the general statements and of the frames -/

theorem witness_StepRunsTheFrontCommand :
    (∃ (s : State) (c : Instr) (rest : List Instr), s.pending = c :: rest) ∧ (∃ s : State, s.pending = []) :=
  ⟨⟨{ W with pending := [.beacon, .l1Exit] }, .beacon, [.l1Exit], rfl⟩, W, rfl⟩

theorem witness_EveryStepKeepsTheInvariant : ∃ s t : State, Machine.Inv s ∧ step s = .next t :=
  ⟨{ W with pending := [.beacon] }, after .beacon W,
    { mem := by decide, doms := by decide, chs := by decide, mis := by decide, cnt := by decide, sq := by decide, tag := by decide,
      log := by decide, logAt := by decide, ladder := by decide }, rfl⟩

theorem witness_EveryStepKeepsMainLost : ∃ s t : State, PowerInv s ∧ step s = .next t ∧ t.power ≠ .on :=
  ⟨{ Wk {} with pending := [.beacon] }, after .beacon (Wk {}),
    fun _ => ⟨rfl, rfl, rfl, rfl, rfl, rfl, rfl, rfl, rfl, rfl, rfl, rfl, rfl, rfl, rfl, rfl, rfl, rfl, rfl⟩, rfl, by decide⟩

theorem witness_EveryStepGoesOnward : ∃ s t : State, step s = .next t := ⟨{ W with pending := [.beacon] }, after .beacon W, rfl⟩

/-! One command of each clause of the frames, at a state where it acts. -/

theorem witness_FieldDieCommandsFrame :
    (∃ (s t : State) (n m : Nat), exec (.seti n) s = .next t ∧ m / 2 ≠ n / 2 ∧ (t.valve n).goal ≠ (s.valve n).goal) ∧
    (∃ (s t : State) (n : Nat), exec (.wireBreak n) s = .next t ∧ t.field.broken ≠ s.field.broken) ∧
    (∃ (s t : State) (n m : Nat), m ≠ n ∧ exec (.swOverload n) s = .next t ∧ (t.sw n).limiting ≠ (s.sw n).limiting) :=
  ⟨⟨Ww 0x10000005, after (.seti 0) (Ww 0x10000005), 0, 2, rfl, by decide, by decide⟩,
    ⟨Wf { inWb := 0x800000, level := 0x800000 }, after (.wireBreak 23) (Wf { inWb := 0x800000, level := 0x800000 }), 23, rfl, by decide⟩,
    ⟨Wsw { on := true }, after (.swOverload 0) (Wsw { on := true }), 0, 15, by decide, rfl, by decide⟩⟩

theorem witness_FixtureCommandsFrame :
    (∃ (s t : State) (n m : Nat), exec (.quadratureEdge n true false 1) s = .next t ∧ m ≠ n ∧ (t.enc n).count ≠ (s.enc n).count) ∧
    (∃ (s t : State) (rx : List Byte), exec (.sensorTransferDone rx) s = .next t) ∧
    (∃ (s t : State) (b m : Nat), exec (.txdDominant b) s = .next t ∧ m ≠ b ∧ (t.can b).txdStop ≠ (s.can b).txdStop) :=
  ⟨⟨We { mode := 2 }, after (.quadratureEdge 0 true false 1) (We { mode := 2 }), 0, 7, rfl, by decide, by decide⟩,
    ⟨W, after (.sensorTransferDone [1]) W, [1], rfl⟩,
    ⟨Wb {}, after (.txdDominant 0) (Wb {}), 0, 1, rfl, by decide, by decide⟩⟩

theorem witness_RackCommandsFrame :
    (∃ (s t : State) (p : Nat), exec (.portDown p 3) s = .next t ∧ (t.port p).st ≠ (s.port p).st) ∧
    (∃ (s t : State) (p : Nat), exec (.echoRequestDue p) s = .next t ∧ (t.port p).echoAt ≠ (s.port p).echoAt) ∧
    (∃ (s t : State) (p h : Nat) (pl : List Byte), exec (.sync p h pl) s = .next t ∧ t.tk.now = s.tk.now) ∧
    (∃ (s t : State) (p h : Nat) (pl : List Byte), exec (.report p h pl) s = .next t ∧ s.sl.parking ≠ some .beat ∧
      s.tk.now % 1000 ≠ 0) ∧
    (∃ s t : State, exec .collectionClose s = .next t ∧ t.jl.closeAt ≠ s.jl.closeAt) ∧
    (∃ (s t : State) (vbus : Nat), exec (.roundBoundary vbus) s = .next t ∧ s.sl.parking ≠ some .beat ∧
      boundary 1000 s.sh.roundAt s.tk.now % 4000 ≠ 0 ∧ t.sb.vbus ≠ s.sb.vbus) ∧
    (∃ (s t : State) (n : Nat), exec (.requestWord n) s = .next t ∧ (t.shc n).seen ≠ (s.shc n).seen) :=
  ⟨⟨Wj {}, after (.portDown 0 3) (Wj {}), 0, rfl, by decide⟩,
    ⟨Wj {}, after (.echoRequestDue 0) (Wj {}), 0, rfl, by decide⟩,
    ⟨{ W with jl := {} }, after (.sync 0 0x1000 (bytesOf 16 0)) { W with jl := {} }, 0, 0x1000, bytesOf 16 0, rfl, rfl⟩,
    ⟨{ Wj {} with tk := { W.tk with now := 1000001 } }, after (.report 0 0x2010 (bytesOf 16 0)) { Wj {} with tk := { W.tk with now := 1000001 } },
      0, 0x2010, bytesOf 16 0, rfl, by decide, by decide⟩,
    ⟨Wj { st := .master }, after .collectionClose (Wj { st := .master }), rfl, by decide⟩,
    ⟨{ W with tk := { W.tk with now := 1001500 }, sh := { roundAt := 1001000 } },
      after (.roundBoundary 48000) { W with tk := { W.tk with now := 1001500 }, sh := { roundAt := 1001000 } }, 48000, rfl, by decide,
      by decide, by decide⟩,
    ⟨W, after (.requestWord 0) W, 0, rfl, by decide⟩⟩

theorem witness_ChannelCommandsFrame :
    (∃ (s t : State) (n m : Nat), exec (.pwmPeriodBoundary n []) s = .next t ∧ m ≠ n) ∧
    (∃ (s t : State) (n : Nat), exec (.modFault n 1) s = .next t ∧ (t.mi n).modFail ≠ (s.mi n).modFail) :=
  ⟨⟨W, after (.pwmPeriodBoundary 0 []) W, 0, 63, rfl, by decide⟩,
    ⟨W, after (.modFault 0 1) W, 0, rfl, by decide⟩⟩

theorem witness_HostAndArchiveCommandsFrame :
    (∃ s t : State, exec (.l1Entry false) s = .next t ∧ t.hl.inL1 ≠ s.hl.inL1) ∧
    (∃ (s t : State) (o b : Nat), exec (.cxlMemWrite 0 0x10000040 [1] false) s = .next t ∧ hdmHit s 0 0x10000040 = some o ∧
      (b < o / 64 * 64 ∨ o / 64 * 64 + 64 ≤ b)) ∧
    (∃ s t : State, exec (.cxlMemWrite 0 64 [1] false) s = .next t ∧ hdmHit s 0 64 = none) ∧
    (∃ (s t : State) (b : Nat), exec (.clearPoison 0 64 []) s = .next t ∧ (b < 64 ∨ 64 + 64 ≤ b)) ∧
    (∃ s t : State, exec .heartbeatSample s = .next t ∧ t.ar.sampleAt ≠ s.ar.sampleAt) :=
  ⟨⟨W, after (.l1Entry false) W, rfl, by decide⟩, ⟨Wl, after (.cxlMemWrite 0 0x10000040 [1] false) Wl, 64, 128, rfl, rfl, by decide⟩,
    ⟨W, after (.cxlMemWrite 0 64 [1] false) W, rfl, rfl⟩,
    ⟨W, after (.clearPoison 0 64 []) W, 63, rfl, by decide⟩, ⟨W, after .heartbeatSample W, rfl, by decide⟩⟩

theorem witness_RecordCommandsFrame :
    (∃ (s t : State) (n : Nat), exec (.slotWrite n true) s = .next t ∧ (t.spool n).q ≠ (s.spool n).q) ∧
    (∃ s t : State, exec .printInputArrival s = .next t) ∧
    (∃ s t : State, exec (.scrubAccess 0) s = .next t) ∧
    (∃ (s t : State) (k : Nat), exec (.buttonStuck k) s = .next t ∧ t.pres.stuck ≠ s.pres.stuck) :=
  ⟨⟨{ W with sp := { sp := [(15, { q := [gran []] })] } }, after (.slotWrite 15 true) { W with sp := { sp := [(15, { q := [gran []] })] } },
      15, rfl, by decide⟩,
    ⟨W, after .printInputArrival W, rfl⟩, ⟨W, after (.scrubAccess 0) W, rfl⟩, ⟨W, after (.buttonStuck 5) W, 5, rfl, by decide⟩⟩

end Sys2Proof.Tests
end

section
/-!
SUPPORT. What the completion of a ring command leaves unchanged, and how a command ends whose resource the variant lacks (R15, R16, R259).
-/
namespace Sys2Proof.Machine

@[simp] theorem sqRecord_pend (k b : Nat) (s : State) : (sqRecord k b s).regs.pend = s.regs.pend := rfl

@[simp] theorem raiseAs_pend (b : Blk) (i num cls : Nat) (args : List Int) (src prod : Nat) (s : State) :
    (raiseAs b i num cls args src prod s).regs.pend = s.regs.pend := by
  unfold raiseAs
  split
  · dsimp only
    split <;> split <;> simp
  · rfl

@[simp] theorem raise_pend (b : Blk) (i num cls : Nat) (args : List Int) (s : State) :
    (raise b i num cls args s).regs.pend = s.regs.pend := raiseAs_pend ..

/-! ### What a completion keeps

A completion changes the rings, makes records and raises the rings' own events.  A part `p` of the state that none of these changes is the
same after it. -/

section Keep
variable {γ : Type} (p : State → γ) (hrg : ∀ s x, p { s with rg := x } = p s)
include hrg

theorem ringSettle_keep (r : Nat) (s : State) : p (ringSettle r s) = p s := by
  unfold ringSettle
  dsimp only
  split
  · split
    · exact (hrg _ _).trans (hrg _ _)
    · exact hrg _ _
  · rfl

variable (hev : ∀ s num, p (raise .rg 0 num 1 [] s) = p s)
include hev

theorem cqCheck_keep (r : Nat) (s : State) : p (cqCheck r s) = p s := by
  unfold cqCheck
  dsimp only
  split
  · exact (hev _ _).trans (hrg _ _)
  · rfl

variable (hrec : ∀ s prod m, p (pushRec prod m s) = p s)
include hrec

theorem loseCompletion_keep (r : Nat) (s : State) : p (loseCompletion r s) = p s := by
  unfold loseCompletion
  dsimp only
  split
  · rfl
  · rw [ringSettle_keep p hrg, makeEcho, hrec, hev, hrg]
    exact hrg _ _

theorem waits_or_lost_keep (r : Nat) (s : State) : p (if s.hl.link = .up then cqCheck r s else loseCompletion r s) = p s := by
  split
  · exact cqCheck_keep p hrg hev r s
  · exact loseCompletion_keep p hrg hev hrec r s

theorem complete_keep (r : Nat) (st : Status) (result detail : Nat) (s : State) : p (complete r st result detail s) = p s := by
  unfold complete
  dsimp only
  split
  · rfl
  · split
    · rw [ringSettle_keep p hrg, makeEcho, hrec]
      exact hrg _ _
    · exact (waits_or_lost_keep p hrg hev hrec _ _).trans (hrg _ _)

end Keep

@[simp] theorem complete_ez (r : Nat) (st : Status) (result detail : Nat) (s : State) : (complete r st result detail s).ez = s.ez :=
  complete_keep State.ez (fun _ _ => rfl) (fun _ _ => raise_ez ..) (fun _ _ _ => rfl) ..

@[simp] theorem complete_val (r : Nat) (st : Status) (result detail : Nat) (s : State) :
    (complete r st result detail s).regs.val = s.regs.val :=
  complete_keep (·.regs.val) (fun _ _ => rfl) (fun _ _ => raise_val ..) (fun _ _ _ => rfl) ..

@[simp] theorem complete_pend (r : Nat) (st : Status) (result detail : Nat) (s : State) :
    (complete r st result detail s).regs.pend = s.regs.pend :=
  complete_keep (·.regs.pend) (fun _ _ => rfl) (fun _ _ => raise_pend ..) (fun _ _ _ => rfl) ..

@[simp] theorem complete_chs (r : Nat) (st : Status) (result detail : Nat) (s : State) : (complete r st result detail s).chs = s.chs :=
  complete_keep State.chs (fun _ _ => rfl) (fun _ _ => raise_chs ..) (fun _ _ _ => rfl) ..

@[simp] theorem complete_ar (r : Nat) (st : Status) (result detail : Nat) (s : State) : (complete r st result detail s).ar = s.ar :=
  complete_keep State.ar (fun _ _ => rfl) (fun _ _ => raise_ar ..) (fun _ _ _ => rfl) ..

/-! ### A command whose resource is missing (R15, R259) -/

theorem mainOn_of_on {s : State} (t : State) (h : s.power = .on) : mainOn s t = t := if_pos h

/-- The rings are no part of what the descriptor checks look at. -/
theorem badDesc_rg (s : State) (x : Rings) (d : List Byte) : badDesc { s with rg := x } d = badDesc s d := rfl

/-- A command that begins is carried out with its descriptor in execution and nothing but the rings changed. -/
theorem begin_changes_rg {s : State} {r op : Nat} {d : List Byte} (k : List Byte → State → State) (h : Begins s r d op) :
    ∃ x c, begin_ r op k s = k d { s with rg := x } ∧ (State.ring { s with rg := x } r).exec = some { d, count := c } := by
  obtain ⟨c, rest, -, hk⟩ := begin_of_begins r op d k s h
  exact ⟨_, c, hk, congrArg Ring.exec (setRing_same s r _)⟩

/-- The resource check follows the descriptor checks and comes before all else (R259). -/
theorem checked_of_missing {s : State} {d : List Byte} {missing : State → Option Nat} {o : Nat} (r : Nat) (usesGen : Bool)
    (k : State → State) (hd : badDesc s d = none) (hm : missing s = some o) :
    checked r d missing usesGen k s = complete r .noResource 0 o s := by
  simp [checked, hd, hm]

/-- A command that begins where its resource is missing ends NO_RESOURCE, with nothing of its effect. -/
theorem begin_of_missing {c : Instr} {s t : State} {r op o : Nat} {d : List Byte} {run : List Byte → State → State}
    {missing : State → Option Nat} {usesGen : Bool} {k : State → State} (h : Begins s r d op)
    (hc : exec c s = .next (mainOn s (begin_ r op run s))) (hrun : ∀ u, run d u = checked r d missing usesGen k u)
    (hm : ∀ x, missing { s with rg := x } = some o) (ht : exec c s = .next t) :
    Done t r d .noResource 0 ∧ t.ez = s.ez ∧ t.regs.val = s.regs.val ∧ t.regs.pend = s.regs.pend ∧ t.chs = s.chs ∧ t.ar = s.ar := by
  obtain ⟨x, n, hk, hx⟩ := begin_changes_rg run h
  have hend : t = complete r .noResource 0 o { s with rg := x } := by
    rw [← Host.Outcome.next.inj (hc.symm.trans ht), mainOn_of_on _ h.turn.power, hk, hrun]
    exact checked_of_missing r usesGen k ((badDesc_rg s x d).trans h.good) (hm x)
  subst hend
  exact ⟨complete_done _ _ _ _ _ _ hx, by simp⟩

/-! ### The field commands of an XF-6400 (R15, R16) -/

theorem needField_xf6400 {s : State} (h : s.variant = .xf6400) : needField s = some 4 := by
  simp [needField, h, Variant.hasField]

theorem needValve_xf6400 {s : State} (d : List Byte) (h : s.variant = .xf6400) : needValve d s = some 4 := by
  simp [needValve, h, Variant.hasField]

theorem exec_valveLoad (r : Nat) (s : State) : exec (.valveLoad r) s = .next (mainOn s (begin_ r 0x50 (valveLoad r) s)) := rfl
theorem exec_valveRun (r : Nat) (s : State) : exec (.valveRun r) s = .next (mainOn s (begin_ r 0x51 (valveRun r) s)) := rfl
theorem exec_switchSet (r : Nat) (s : State) : exec (.switchSet r) s = .next (mainOn s (begin_ r 0x52 (switchSet r) s)) := rfl
theorem exec_fieldSet (r : Nat) (s : State) : exec (.fieldSet r) s = .next (mainOn s (begin_ r 0x53 (fieldSet r) s)) := rfl

/-- Settles O49: each of the four commands passes the descriptor checks and then finds no field die, so that it completes before its own
effect. -/
theorem xf6400HasNoFieldCommands : Obligations.Xf6400HasNoFieldCommands := by
  intro s r d t hv hcmd
  rcases hcmd with ⟨hb, ht⟩ | ⟨hb, ht⟩ | ⟨hb, ht⟩ | ⟨hb, ht⟩
  · exact begin_of_missing hb (exec_valveLoad r s) (fun _ => rfl) (fun _ => needValve_xf6400 d hv) ht
  · exact begin_of_missing hb (exec_valveRun r s) (fun _ => rfl) (fun _ => needValve_xf6400 d hv) ht
  · exact begin_of_missing hb (exec_switchSet r s) (fun _ => rfl) (fun _ => needField_xf6400 hv) ht
  · exact begin_of_missing hb (exec_fieldSet r s) (fun _ => rfl) (fun _ => needField_xf6400 hv) ht

end Sys2Proof.Machine
end

section
/-!
SUPPORT. What a command leaves of the contact sheet (R38, R61, R67).  Only main power, a device reset, the two checks, the loupe and a register
write reach the sheet's block.  That the rest of the model leaves it alone is said function by function, in the model's order, so that each
proof cites the lemmas of the functions called.
-/
namespace Sys2Proof.Machine

/-- What CS_STATUS and the sheet's contents are read from: the variant that the fuses select, and the sheet's own block. -/
def State.contact (s : State) : Variant × Sheet := (s.variant, s.sheet)

/-- An update of any other field.  Proved `by rfl`, as are the lemmas like it below: a lemma whose proof is the bare term `rfl` would be used
by definition alone, and simp could not use it for a step of a fold. -/
@[simp] theorem contact_update (s : State) {dbgen power regs pres doms xings tk hl rg sp ar chs mis streams ladder sh jl pe fx en cn ez sb mm
    sl th tx free pending} :
    (State.mk s.variant dbgen power regs s.sheet pres doms xings tk hl rg sp ar chs mis streams ladder sh jl pe fx en cn ez sb mm sl th tx
      free pending).contact = s.contact := by rfl

@[simp] theorem contact_ite (c : Prop) [Decidable c] (a b : State) : (if c then a else b).contact = if c then a.contact else b.contact :=
  apply_ite State.contact ..

@[simp] theorem contact_foldl {α : Type} (f : State → α → State) (l : List α) (s : State) (h : ∀ s a, (f s a).contact = s.contact) :
    (l.foldl f s).contact = s.contact := foldl_keep State.contact f h l s

@[simp] theorem contact_foldr {α : Type} (f : α → State → State) (l : List α) (s : State) (h : ∀ a s, (f a s).contact = s.contact) :
    (l.foldr f s).contact = s.contact := by
  induction l with
  | nil => rfl
  | cons a l ih => rw [List.foldr_cons, h, ih]

@[simp] theorem mainOn_contact (s t : State) (h : t.contact = s.contact) : (mainOn s t).contact = s.contact := by
  simp [mainOn, h]

/-! ### Shared operations -/

@[simp] theorem advance_contact (d : Nat) (s : State) : (advance d s).contact = s.contact := by simp [advance]
@[simp] theorem advanceTo_contact (t : Nat) (s : State) : (advanceTo t s).contact = s.contact := by rfl
@[simp] theorem advanceClk_contact (t : Nat) (s : State) : (advanceClk t s).contact = s.contact := by simp [advanceClk]
@[simp] theorem spend_contact (s : State) : (spend s).contact = s.contact := by rfl
@[simp] theorem State.setCh_contact (s : State) (n : Nat) (c : Chan) : (s.setCh n c).contact = s.contact := by rfl
@[simp] theorem State.setMi_contact (s : State) (n : Nat) (m : Meas) : (s.setMi n m).contact = s.contact := by rfl
@[simp] theorem State.setDom_contact (s : State) (d : Nat) (x : Dom) : (s.setDom d x).contact = s.contact := by rfl
@[simp] theorem State.setRing_contact (s : State) (r : Nat) (x : Ring) : (s.setRing r x).contact = s.contact := by rfl
@[simp] theorem State.setFn_contact (s : State) (f : Nat) (x : Fn) : (s.setFn f x).contact = s.contact := by rfl
@[simp] theorem State.setLd_contact (s : State) (l : Nat) (x : Ld) : (s.setLd l x).contact = s.contact := by rfl
@[simp] theorem State.setSpool_contact (s : State) (n : Nat) (x : Spool) : (s.setSpool n x).contact = s.contact := by rfl
@[simp] theorem State.setStrip_contact (s : State) (n : Nat) (x : Strip) : (s.setStrip n x).contact = s.contact := by rfl
@[simp] theorem State.setExt_contact (s : State) (x : Nat) (e : Extent) : (s.setExt x e).contact = s.contact := by rfl
@[simp] theorem State.setLease_contact (s : State) (l : Nat) (x : Lease) : (s.setLease l x).contact = s.contact := by rfl
@[simp] theorem putNow_contact (key : Nat) (w : Word) (s : State) : (putNow key w s).contact = s.contact := by rfl
@[simp] theorem putLater_contact (key : Nat) (d w : Word) (s : State) : (putLater key d w s).contact = s.contact := by simp [putLater]
@[simp] theorem putOver_contact (key : Nat) (d w : Word) (s : State) : (putOver key d w s).contact = s.contact := by simp [putOver]

@[simp] theorem dropLater_contact (key : Nat) (w : Word) (s : State) : (dropLater key w s).contact = s.contact := by
  simp only [dropLater]
  (repeat' split) <;> simp

@[simp] theorem takeNear_contact (p : Nat → Bool) (s : State) : (takeNear p s).2.contact = s.contact := by
  unfold takeNear
  split <;> simp

@[simp] theorem actTaken_contact (p : Nat → Bool) (take : Bool) (s : State) : (actTaken p take s).contact = s.contact := by simp [actTaken]
@[simp] theorem actDue_contact (p : Nat → Bool) (s : State) : (actDue p s).contact = s.contact := by simp [actDue]
@[simp] theorem bumpBy_contact (key lim n : Nat) (s : State) : (bumpBy key lim n s).contact = s.contact := by rfl
@[simp] theorem bump_contact (key : Nat) (s : State) : (bump key s).contact = s.contact := by rfl
@[simp] theorem sqRecord_contact (key bit : Nat) (s : State) : (sqRecord key bit s).contact = s.contact := by rfl
@[simp] theorem rcSet_contact (key : Nat) (bits : Word) (s : State) : (rcSet key bits s).contact = s.contact := by rfl
@[simp] theorem State.setXing_contact (s : State) (i j : Nat) (x : Crossing) : (s.setXing i j x).contact = s.contact := by rfl
@[simp] theorem offer_contact (i j : Nat) (ws : List (Nat × Word)) (s : State) : (offer i j ws s).contact = s.contact := by simp [offer]
@[simp] theorem offerWords_contact (i j : Nat) (ws : List Word) (s : State) : (offerWords i j ws s).contact = s.contact := by simp [offerWords]
@[simp] theorem discarded_contact (s : State) : (discarded s).contact = s.contact := by rfl
@[simp] theorem offerOpen_contact (i j : Nat) (s : State) : (offerOpen i j s).contact = s.contact := by simp [offerOpen]
@[simp] theorem crossOpen_contact (i j : Nat) (s : State) : (crossOpen i j s).contact = s.contact := by simp [crossOpen]
@[simp] theorem traffic_contact (s : State) : (traffic s).contact = s.contact := by rfl
@[simp] theorem send_contact (t : Tx) (s : State) : (send t s).contact = s.contact := by rfl
@[simp] theorem signal_contact (f v : Nat) (s : State) : (signal f v s).contact = s.contact := by simp [signal]
@[simp] theorem signalSpaced_contact (v : Nat) (s : State) : (signalSpaced v s).contact = s.contact := by simp [signalSpaced]
@[simp] theorem pushRec_contact (prod : Nat) (r : Rec) (s : State) : (pushRec prod r s).contact = s.contact := by rfl

@[simp] theorem raiseAs_contact (b : Blk) (i num cls : Nat) (args : List Int) (src prod : Nat) (s : State) :
    (raiseAs b i num cls args src prod s).contact = s.contact := by
  simp only [raiseAs]
  (repeat' split) <;> simp

@[simp] theorem raise_contact (b : Blk) (i num cls : Nat) (args : List Int) (s : State) : (raise b i num cls args s).contact = s.contact := by
  simp [raise]

@[simp] theorem raiseTimed_contact (b : Blk) (i num cls : Nat) (args : List Int) (time : Nat) (s : State) :
    (raiseTimed b i num cls args time s).contact = s.contact := by
  simp only [raiseTimed]
  (repeat' split) <;> simp

@[simp] theorem recordWake_contact (k : Nat) (s : State) : (recordWake k s).contact = s.contact := by simp [recordWake]

@[simp] theorem wakeSource_contact (k : Nat) (s : State) : (wakeSource k s).contact = s.contact := by
  simp only [wakeSource]
  (repeat' split) <;> simp

/-! ### Ring commands and the DMA engine -/

@[simp] theorem makeEcho_contact (r : Nat) (c : Cpl) (phase : Bool) (s : State) : (makeEcho r c phase s).contact = s.contact := by rfl
@[simp] theorem ringEnable_contact (r : Nat) (s : State) : (ringEnable r s).contact = s.contact := by rfl
@[simp] theorem ringSettle_contact (r : Nat) (s : State) : (ringSettle r s).contact = s.contact := by simp [ringSettle]

@[simp] theorem loseCompletion_contact (r : Nat) (s : State) : (loseCompletion r s).contact = s.contact := by
  simp only [loseCompletion]
  split <;> simp

@[simp] theorem cqCheck_contact (r : Nat) (s : State) : (cqCheck r s).contact = s.contact := by simp [cqCheck]

@[simp] theorem complete_contact (r : Nat) (st : Status) (result detail : Nat) (s : State) : (complete r st result detail s).contact = s.contact := by
  simp only [complete]
  (repeat' split) <;> simp

@[simp] theorem begin_contact {k : List Byte → State → State} (h : ∀ d s, (k d s).contact = s.contact) (r op : Nat) (s : State) :
    (begin_ r op k s).contact = s.contact := by
  unfold begin_
  split
  · split
    · rfl
    · split
      · simp [h]
      · rfl
  · rfl

@[simp] theorem setStage_contact (r : Nat) (g : Stage) (s : State) : (setStage r g s).contact = s.contact := by
  simp only [setStage]
  split <;> simp

@[simp] theorem crossCommand_contact (d : List Byte) (s : State) : (crossCommand d s).contact = s.contact := by
  simp only [crossCommand]
  split <;> simp

@[simp] theorem checked_contact {k : State → State} (h : ∀ s, (k s).contact = s.contact) (r : Nat) (d : List Byte) (missing : State → Option Nat)
    (usesGen : Bool) (s : State) : (checked r d missing usesGen k s).contact = s.contact := by
  unfold checked
  split
  · simp
  · split
    · simp
    · simp [h]

@[simp] theorem dmaCount_contact (c k : Nat) (s : State) : (dmaCount c k s).contact = s.contact := by simp [dmaCount]
@[simp] theorem dmaOut_contact (by_ : Issuer) (s : State) : (dmaOut by_ s).contact = s.contact := by simp [dmaOut]
@[simp] theorem dmaBack_contact (by_ : Issuer) (s : State) : (dmaBack by_ s).contact = s.contact := by simp [dmaBack]

@[simp] theorem issueRead_contact (c f addr len : Nat) (by_ : Issuer) (s : State) : (issueRead c f addr len by_ s).contact = s.contact := by
  simp [issueRead]

@[simp] theorem issueWrite_contact (c f addr : Nat) (bytes : List Byte) (by_ : Issuer) (s : State) :
    (issueWrite c f addr bytes by_ s).contact = s.contact := by
  simp [issueWrite]

/-! ### Channels -/

@[simp] theorem latchUnexposed_contact (m word : Nat) (src : Option Nat) (s : State) :
    (latchUnexposed m word src s).contact = s.contact := by
  simp [latchUnexposed]

@[simp] theorem unexposedRead_contact (m word : Nat) (src : Option Nat) (s : State) : (unexposedRead m word src s).contact = s.contact := by
  simp only [unexposedRead]
  split <;> simp

@[simp] theorem latchUncorrectable_contact (m word : Nat) (src : Option Nat) (scrub : Bool) (s : State) :
    (latchUncorrectable m word src scrub s).contact = s.contact := by
  simp [latchUncorrectable]

@[simp] theorem uncorrectableRead_contact (m word : Nat) (src : Option Nat) (scrub : Bool) (s : State) :
    (uncorrectableRead m word src scrub s).contact = s.contact := by
  simp only [uncorrectableRead]
  split <;> simp

@[simp] theorem cutChannel_contact (n : Nat) (s : State) : (cutChannel n s).contact = s.contact := by simp [cutChannel]
@[simp] theorem fadeChannel_contact (n : Nat) (s : State) : (fadeChannel n s).contact = s.contact := by simp [fadeChannel]

@[simp] theorem fxRun_contact (n : Nat) (f : FxRun → FxRun) (s : State) : (fxRun n f s).contact = s.contact := by
  simp only [fxRun]
  (repeat' split) <;> simp

@[simp] theorem fxRunStart_contact (n gen : Nat) (s : State) : (fxRunStart n gen s).contact = s.contact := by simp [fxRunStart]
@[simp] theorem fxRunEnd_contact (n : Nat) (why : EndReason) (s : State) : (fxRunEnd n why s).contact = s.contact := by simp [fxRunEnd]
@[simp] theorem fxStepStart_contact (n : Nat) (rest : Bool) (s : State) : (fxStepStart n rest s).contact = s.contact := by simp [fxStepStart]
@[simp] theorem fxStepEnd_contact (n t : Nat) (dq de : Int) (s : State) : (fxStepEnd n t dq de s).contact = s.contact := by simp [fxStepEnd]

@[simp] theorem stepEnd_contact (n : Nat) (term : Option Nat) (short overrun : Bool) (s : State) :
    (stepEnd n term short overrun s).contact = s.contact := by
  simp only [stepEnd]
  split <;> simp

@[simp] theorem settleCmds_contact (n : Nat) (st : Status) (detail : Nat) (s : State) : (settleCmds n st detail s).contact = s.contact := by
  refine contact_foldl _ _ _ fun s op => ?_
  split <;> simp

@[simp] theorem endRun_contact (n : Nat) (why : EndReason) (arg : Int) (byHub : Bool) (s : State) :
    (endRun n why arg byHub s).contact = s.contact := by
  simp [endRun]

@[simp] theorem cancelQueued_contact (n : Nat) (st : Status) (detail : Nat) (s : State) : (cancelQueued n st detail s).contact = s.contact := by
  simp only [cancelQueued]
  (repeat' split) <;> simp

@[simp] theorem cancelStart_contact (n : Nat) (st : Status) (detail : Nat) (s : State) : (cancelStart n st detail s).contact = s.contact := by
  simp only [cancelStart]
  (repeat' split) <;> simp

@[simp] theorem latchFault_contact (bit cause n : Nat) (s : State) : (latchFault bit cause n s).contact = s.contact := by simp [latchFault]
@[simp] theorem progFault_contact (n cause word : Nat) (s : State) : (progFault n cause word s).contact = s.contact := by simp [progFault]
@[simp] theorem limitTrip_contact (n item : Nat) (value : Int) (s : State) : (limitTrip n item value s).contact = s.contact := by simp [limitTrip]
@[simp] theorem noPhase_contact (n : Nat) (s : State) : (noPhase n s).contact = s.contact := by simp [noPhase]

@[simp] theorem stateReads_contact (base n : Nat) (ks : List Nat) (s : State) : (stateReads base n ks s).contact = s.contact := by
  simp only [stateReads]
  split <;> simp

@[simp] theorem limitTest_contact (n item need : Nat) (bad : Bool) (value : Int) (s : State) :
    (limitTest n item need bad value s).contact = s.contact := by
  simp [limitTest]

@[simp] theorem swapBank_contact (n mark : Nat) (s : State) : (swapBank n mark s).contact = s.contact := by simp [swapBank]

@[simp] theorem channelShort_contact (n j k : Nat) (avg share : Int) (s : State) : (channelShort n j k avg share s).contact = s.contact := by
  simp [channelShort]

@[simp] theorem tripOut_contact (n j ev : Nat) (s : State) : (tripOut n j ev s).contact = s.contact := by
  simp only [tripOut]
  split <;> simp

/-! ### Developer -/

theorem fetchWord_contact {n pc k : Nat} {s t : State} (h : fetchWord n pc s = .error (k, t)) : t.contact = s.contact := by
  simp only [fetchWord] at h
  split at h
  · cases h; rfl
  · split at h
    · split at h
      · cases h; simp
      · cases h
    · cases h; simp

theorem readTerms_contact {n pc m k : Nat} {s t : State} (h : readTerms n pc m s = .error (k, t)) : t.contact = s.contact := by
  induction m generalizing pc with
  | zero => cases h
  | succ m ih =>
    simp only [readTerms] at h
    split at h
    · next hf => cases h; exact fetchWord_contact hf
    · next hf => cases h; exact fetchWord_contact hf
    · split at h
      · cases h; rfl
      · split at h
        · cases h; rfl
        · split at h
          · next hr => cases h; exact ih hr
          · cases h

@[simp] theorem actStep_contact (n : Nat) (s : State) : (actStep n s).contact = s.contact := by simp [actStep]

theorem beginStep_error_contact {n pc k : Nat} {w : BitVec 64} {s t : State} (h : beginStep n pc w s = .error (k, t)) :
    t.contact = s.contact := by
  simp only [beginStep] at h
  split at h
  · cases h; simp
  · split at h
    · cases h; simp
    · split at h
      · next hr => cases h; simpa using readTerms_contact hr
      · cases h

theorem beginStep_contact {n pc : Nat} {w : BitVec 64} {s t : State} (h : beginStep n pc w s = .ok t) : t.contact = s.contact := by
  simp only [beginStep] at h
  split at h
  · cases h
  · split at h
    · cases h
    · split at h
      · cases h
      · cases h; simp

theorem setv_contact {n : Nat} {w : BitVec 64} {s t : State} (h : setv n w s = some t) : t.contact = s.contact := by
  simp only [setv] at h
  (repeat' split at h) <;> cases h <;> simp

theorem flowInstr_contact {n pc : Nat} {w : BitVec 64} {s t : State} {f : Flow} (h : flowInstr n pc w s = (f, t)) : t.contact = s.contact := by
  simp only [flowInstr] at h
  split at h
  case h_10 =>
    split at h
    · next hv => cases h; exact setv_contact hv
    · cases h; rfl
  all_goals (repeat' split at h) <;> cases h
  all_goals simp

@[simp] theorem execFlow_contact (n fuel pc : Nat) (s : State) : (execFlow n fuel pc s).contact = s.contact := by
  induction fuel using Nat.strong_induction_on generalizing pc s with
  | _ fuel ih =>
    unfold execFlow
    split
    · next h => simp [fetchWord_contact h]
    · dsimp only
      split
      · simp
      · split
        · split
          · next h => simp [beginStep_error_contact h]
          · next h => exact beginStep_contact h
        · split
          · simp
          · split
            · split
              · split
                · next h => simp [flowInstr_contact h]
                · exact flowInstr_contact rfl
              · simp
            · split
              · next h => rw [ih _ (Nat.lt_succ_self _), flowInstr_contact h]
              · next h => simp [flowInstr_contact h]
              · next h => exact flowInstr_contact h
              · next h => simp [flowInstr_contact h]

@[simp] theorem endStep_contact (n k : Nat) (st : StepSt) (s : State) : (endStep n k st s).contact = s.contact := by
  unfold endStep
  split
  · rfl
  · dsimp only
    split <;> simp only [execFlow_contact, fadeChannel_contact, endRun_contact, stepEnd_contact]
    all_goals
      refine (contact_foldl _ _ _ fun s i => ?_).trans (by simp only [contact_ite, raise_contact, ite_self])
      split <;> simp only [raise_contact, State.setCh_contact]

@[simp] theorem stepPeriod_contact (n : Nat) (s : State) : (stepPeriod n s).contact = s.contact := by simp [stepPeriod]

@[simp] theorem developerTurn_contact (n : Nat) (s : State) : (developerTurn n s).contact = s.contact := by
  unfold developerTurn
  dsimp only
  split
  · split
    on_goal 2 => rw [endStep_contact]
    all_goals
      refine (contact_foldl _ _ _ fun s i => ?_).trans (State.setCh_contact ..)
      split <;> simp only [raise_contact]
  · simp
  · rfl

@[simp] theorem beginRun_contact (n : Nat) (a : StartArgs) (s : State) : (beginRun n a s).contact = s.contact := by
  simp only [beginRun]
  split <;> simp

/-! ### Power path -/

@[simp] theorem integrate_contact (n : Nat) (s : State) : (integrate n s).contact = s.contact := by
  unfold integrate
  dsimp only
  generalize execOf _ 0x16 n = o
  cases o <;> simp only [contact_ite, raise_contact, State.setCh_contact, complete_contact, ite_self]

@[simp] theorem setCommand_contact (n : Nat) (raw integ : Rat) (s : State) : (setCommand n raw integ s).contact = s.contact := by simp [setCommand]

@[simp] theorem loopCommand_contact (n : Nat) (s : State) : (loopCommand n s).contact = s.contact := by
  simp only [loopCommand]
  split <;> simp

@[simp] theorem setDuties_contact (n : Nat) (s : State) : (setDuties n s).contact = s.contact := by simp [setDuties]
@[simp] theorem actFound_contact (which : Nat → Bool) (n : Nat) (s : State) : (actFound which n s).contact = s.contact := by simp [actFound]

@[simp] theorem testPhases_contact (n : Nat) (codes : List (List Int)) (s : State) : (testPhases n codes s).contact = s.contact := by
  simp [testPhases]

@[simp] theorem fadeStep_contact (n : Nat) (s : State) : (fadeStep n s).contact = s.contact := by
  simp only [fadeStep]
  split <;> simp

@[simp] theorem commandsAndTurn_contact (n : Nat) (s : State) : (commandsAndTurn n s).contact = s.contact := by
  simp only [commandsAndTurn]
  (repeat' split) <;> simp

@[simp] theorem stageVolts_contact (n : Nat) (s : State) : (stageVolts n s).contact = s.contact := by simp [stageVolts]

@[simp] theorem fxCurrentStep_contact (n : Nat) (was : Rat) (s : State) : (fxCurrentStep n was s).contact = s.contact := by
  simp only [fxCurrentStep]
  split <;> simp

@[simp] theorem ciStateReads_contact (n : Nat) (s : State) : (ciStateReads n s).contact = s.contact := by simp [ciStateReads]
@[simp] theorem retryReturns_contact (n : Nat) (s : State) : (retryReturns n s).contact = s.contact := by simp [retryReturns]
@[simp] theorem gangCross_contact (n : Nat) (s : State) : (gangCross n s).contact = s.contact := by simp [gangCross]

@[simp] theorem pwmBoundary_contact (n : Nat) (codes : List (List Int)) (s : State) : (pwmBoundary n codes s).contact = s.contact := by
  simp [pwmBoundary]

@[simp] theorem normalTrip_contact (n j : Nat) (ua : Int) (at_ lasts : Nat) (s : State) : (normalTrip n j ua at_ lasts s).contact = s.contact := by
  simp [normalTrip]

@[simp] theorem hardTrip_contact (n j : Nat) (ua : Int) (s : State) : (hardTrip n j ua s).contact = s.contact := by simp [hardTrip]
@[simp] theorem driverFault_contact (n j : Nat) (low : Bool) (s : State) : (driverFault n j low s).contact = s.contact := by simp [driverFault]

@[simp] theorem phRetry_contact (n j : Nat) (s : State) : (phRetry n j s).contact = s.contact := by
  simp only [phRetry]
  (repeat' split) <;> simp

/-! ### Shutter -/

@[simp] theorem State.setShc_contact (s : State) (n : Nat) (x : ShCh) : (s.setShc n x).contact = s.contact := by rfl
@[simp] theorem rangeEnds_contact (s : State) : (rangeEnds s).contact = s.contact := by rfl
@[simp] theorem requestWord_contact (n : Nat) (s : State) : (requestWord n s).contact = s.contact := by simp [requestWord]
@[simp] theorem leaseTurn_contact (n : Nat) (s : State) : (leaseTurn n s).contact = s.contact := by simp [leaseTurn]
@[simp] theorem ageTurn_contact (n : Nat) (s : State) : (ageTurn n s).contact = s.contact := by simp [ageTurn]
@[simp] theorem rackGrant_contact (s : State) : (rackGrant s).contact = s.contact := by simp [rackGrant]
@[simp] theorem lateGrant_contact (s : State) : (lateGrant s).contact = s.contact := by simp [lateGrant]
@[simp] theorem decideRound_contact (s : State) : (decideRound s).contact = s.contact := by simp [decideRound]

@[simp] theorem grantWord_contact (n : Nat) (s : State) : (grantWord n s).contact = s.contact := by
  simp only [grantWord]
  split <;> simp

@[simp] theorem actBeat_contact (s : State) : (actBeat s).contact = s.contact := by simp [actBeat]
@[simp] theorem shutterBeat_contact (old s : State) : (shutterBeat old s).contact = s.contact := by simp [shutterBeat]
@[simp] theorem shutterJoin_contact (s : State) : (shutterJoin s).contact = s.contact := by rfl
@[simp] theorem releaseGrant_contact (n : Nat) (s : State) : (releaseGrant n s).contact = s.contact := by rfl
@[simp] theorem budgetSet_contact (r : Nat) (d : List Byte) (s : State) : (budgetSet r d s).contact = s.contact := by simp [budgetSet]

@[simp] theorem budgetDone_contact (s : State) : (budgetDone s).contact = s.contact := by
  simp only [budgetDone]
  split <;> simp

@[simp] theorem prioritySet_contact (r : Nat) (d : List Byte) (s : State) : (prioritySet r d s).contact = s.contact := by simp [prioritySet]

/-! ### Jikanlink -/

@[simp] theorem State.setPort_contact (s : State) (p : Nat) (x : Port) : (s.setPort p x).contact = s.contact := by rfl
@[simp] theorem sendCell_contact (q : Nat) (c : Cell) (s : State) : (sendCell q c s).contact = s.contact := by rfl

@[simp] theorem txDirect_contact (q : Nat) (c : Cell) (s : State) : (txDirect q c s).contact = s.contact := by
  simp only [txDirect]
  split <;> simp

@[simp] theorem txCell_contact (p : Nat) (c : Cell) (s : State) : (txCell p c s).contact = s.contact := by simp [txCell]
@[simp] theorem forward_contact (p : Nat) (c : Cell) (s : State) : (forward p c s).contact = s.contact := by simp [forward]
@[simp] theorem goodCell_contact (p h : Nat) (pl : List Byte) (s : State) : (goodCell p h pl s).contact = s.contact := by rfl

@[simp] theorem cellTaken_contact {act : State → State} (h : ∀ s, (act s).contact = s.contact) (ty p h' : Nat) (pl : List Byte) (s : State) :
    (cellTaken ty p h' pl act s).contact = s.contact := by
  simp [cellTaken, h]

@[simp] theorem sendGuard_contact (n q : Nat) (s : State) : (sendGuard n q s).contact = s.contact := by
  simp only [sendGuard]
  split <;> simp

@[simp] theorem passGuard_contact (p : Nat) (s : State) : (passGuard p s).contact = s.contact := by simp [passGuard]
@[simp] theorem queueNew_contact (m : OutMsg) (s : State) : (queueNew m s).contact = s.contact := by rfl
@[simp] theorem queueMsg_contact (ty dst times : Nat) (pl : List Byte) (s : State) : (queueMsg ty dst times pl s).contact = s.contact := by rfl

@[simp] theorem userSent_contact (r : Nat) (s : State) : (userSent r s).contact = s.contact := by
  simp only [userSent]
  split <;> simp

theorem takeOut_contact {i ring : Nat} {s : State} {r : Cell × State} (h : takeOut i ring s = some r) : r.2.contact = s.contact := by
  simp only [takeOut] at h
  split at h
  · cases h
  · cases h
    dsimp only
    split
    · split <;> simp
    · rfl

theorem fillFrom_contact {ring : Nat} {echo : Bool} {s : State} {r : Cell × State} (h : fillFrom ring echo s = some r) :
    r.2.contact = s.contact := by
  unfold fillFrom at h
  split at h
  · cases h
  · obtain ⟨i, -, hi⟩ := Option.bind_eq_some_iff.mp h
    exact takeOut_contact hi

@[simp] theorem fillEmpty_contact (ring : Nat) (c : Cell) (s : State) : (fillEmpty ring c s).2.contact = s.contact := by
  unfold fillEmpty
  split
  · next h => exact fillFrom_contact h
  · split
    · cases h : fillFrom (1 - ring) false s with
      | none => rfl
      | some r => exact fillFrom_contact h
    · rfl

@[simp] theorem flushIdle_contact (s : State) : (flushIdle s).contact = s.contact := by
  unfold flushIdle
  split
  · rfl
  · refine contact_foldl _ _ _ fun s _ => ?_
    dsimp only
    split
    · rfl
    · split
      · next h => simpa using takeOut_contact h
      · rfl

@[simp] theorem sendMsg_contact (ty dst times : Nat) (pl : List Byte) (s : State) : (sendMsg ty dst times pl s).contact = s.contact := by
  simp [sendMsg]

@[simp] theorem sendStop_contact (cls : Nat) (s : State) : (sendStop cls s).2.contact = s.contact := by
  unfold sendStop
  split <;> simp

@[simp] theorem noteDelivered_contact (h : Nat) (s : State) : (noteDelivered h s).contact = s.contact := by rfl
@[simp] theorem forwardMsg_contact (p : Nat) (c : Cell) (s : State) : (forwardMsg p c s).contact = s.contact := by simp [forwardMsg]
@[simp] theorem userRx_contact (src : Nat) (all : Bool) (pl : List Byte) (s : State) : (userRx src all pl s).contact = s.contact := by simp [userRx]
@[simp] theorem userMessage_contact (p h : Nat) (pl : List Byte) (s : State) : (userMessage p h pl s).contact = s.contact := by simp [userMessage]
@[simp] theorem sendTone_contact (p : Nat) (s : State) : (sendTone p s).contact = s.contact := by simp [sendTone]
@[simp] theorem wakeCell_contact (p h : Nat) (pl : List Byte) (s : State) : (wakeCell p h pl s).contact = s.contact := by simp [wakeCell]
@[simp] theorem joinCell_contact (p h : Nat) (pl : List Byte) (s : State) : (joinCell p h pl s).contact = s.contact := by simp [joinCell]
@[simp] theorem leaveCell_contact (p h : Nat) (pl : List Byte) (s : State) : (leaveCell p h pl s).contact = s.contact := by simp [leaveCell]
@[simp] theorem claimCell_contact (p h : Nat) (pl : List Byte) (s : State) : (claimCell p h pl s).contact = s.contact := by simp [claimCell]

@[simp] theorem passEmpty_contact (p h : Nat) (room : Bool) (s : State) : (passEmpty p h room s).contact = s.contact := by
  simp only [passEmpty]
  (repeat' split) <;> simp

@[simp] theorem emptyCell_contact (p h : Nat) (pl : List Byte) (room : Bool) (s : State) : (emptyCell p h pl room s).contact = s.contact := by
  simp [emptyCell]

@[simp] theorem sendEcho_contact (p : Nat) (pl : List Byte) (at_ : Option Nat) (s : State) : (sendEcho p pl at_ s).contact = s.contact := by
  simp only [sendEcho]
  split
  · split
    · next h => simpa using takeOut_contact h
    · simp
  · simp

@[simp] theorem echoRequest_contact (p : Nat) (s : State) : (echoRequest p s).contact = s.contact := by
  simp only [echoRequest]
  (repeat' split) <;> simp

@[simp] theorem echoCell_contact (p h : Nat) (pl : List Byte) (s : State) : (echoCell p h pl s).contact = s.contact := by simp [echoCell]
@[simp] theorem unwrapPort_contact (p : Nat) (arrived : Bool) (s : State) : (unwrapPort p arrived s).contact = s.contact := by simp [unwrapPort]
@[simp] theorem wrapIfAlone_contact (p : Nat) (s : State) : (wrapIfAlone p s).contact = s.contact := by simp [wrapIfAlone]
@[simp] theorem sendHeld_contact (p : Nat) (e : Nat × Cell) (s : State) : (sendHeld p e s).contact = s.contact := by simp [sendHeld]
@[simp] theorem portPllLock_contact (p : Nat) (s : State) : (portPllLock p s).contact = s.contact := by simp [portPllLock]

@[simp] theorem portUpEvent_contact (p : Nat) (s : State) : (portUpEvent p s).contact = s.contact := by
  simp only [portUpEvent]
  split <;> simp

@[simp] theorem portDown_contact (p cause : Nat) (s : State) : (portDown p cause s).contact = s.contact := by simp [portDown]
@[simp] theorem portOff_contact (p : Nat) (s : State) : (portOff p s).contact = s.contact := by simp [portOff]

@[simp] theorem readBytes_contact (l : List (Option Byte)) (s : State) : (readBytes l s).2.contact = s.contact := by
  refine foldl_keep (fun a : List Byte × State => a.2.contact) _ (fun a b => ?_) l ([], s)
  split <;> simp

@[simp] theorem noteWritten_contact (p h : Nat) (s : State) : (noteWritten p h s).contact = s.contact := by rfl
@[simp] theorem forwardBad_contact (p : Nat) (c : Cell) (s : State) : (forwardBad p c s).contact = s.contact := by simp [forwardBad]

@[simp] theorem badCell_contact (p : Nat) (line : List CodeGroup) (afterIdle inSlot : Bool) (s : State) :
    (badCell p line afterIdle inSlot s).contact = s.contact := by
  simp [badCell]

/-! ### The ring of Jikanlink -/

@[simp] theorem loadTime_contact (t : Nat) (s : State) : (loadTime t s).contact = s.contact := by simp [loadTime]
@[simp] theorem setSource_contact (s : State) : (setSource s).contact = s.contact := by rfl
@[simp] theorem followTime_contact (t : Nat) (e : Int) (s : State) : (followTime t e s).contact = s.contact := by simp [followTime]
@[simp] theorem sendJoin_contact (s : State) : (sendJoin s).contact = s.contact := by simp [sendJoin]
@[simp] theorem leftRing_contact (why : Nat) (dst : NodeState) (s : State) : (leftRing why dst s).contact = s.contact := by simp [leftRing]
@[simp] theorem resignRing_contact (s : State) : (resignRing s).contact = s.contact := by rfl
@[simp] theorem sendLeave_contact (reason : Nat) (s : State) : (sendLeave reason s).contact = s.contact := by simp [sendLeave]

@[simp] theorem betterMaster_contact (s : State) (id : Nat) : (betterMaster s id).2.contact = s.contact := by
  unfold betterMaster
  split <;> simp

@[simp] theorem followSync_contact (b t master joined admission : Nat) (wrapped : Bool) (s : State) :
    (followSync b t master joined admission wrapped s).contact = s.contact := by
  simp [followSync]

@[simp] theorem syncCell_contact (p h : Nat) (pl : List Byte) (s : State) : (syncCell p h pl s).contact = s.contact := by
  refine cellTaken_contact (fun s => ?_) ..
  simp

@[simp] theorem reportCell_contact (p h : Nat) (pl : List Byte) (s : State) : (reportCell p h pl s).contact = s.contact := by
  refine cellTaken_contact (fun s => ?_) ..
  simp

@[simp] theorem takeGrant_contact (b : Nat) (g : Word) (s : State) : (takeGrant b g s).contact = s.contact := by simp [takeGrant]

@[simp] theorem grantCell_contact (p h : Nat) (pl : List Byte) (s : State) : (grantCell p h pl s).contact = s.contact := by
  refine cellTaken_contact (fun s => ?_) ..
  simp

@[simp] theorem bothRings_contact (h : Nat) (pl : List Byte) (s : State) : (bothRings h pl s).contact = s.contact := by simp [bothRings]
@[simp] theorem masterSlots_contact (s : State) : (masterSlots s).contact = s.contact := by simp [masterSlots]

@[simp] theorem collectionClose_contact (s : State) : (collectionClose s).contact = s.contact := by
  simp only [collectionClose, contact_ite, contact_foldl, raise_contact, masterSlots_contact, bothRings_contact, takeGrant_contact,
    contact_update, advanceTo_contact, ite_self, implies_true]

@[simp] theorem decideJoins_contact (s : State) : (decideJoins s).contact = s.contact := by
  simp only [decideJoins]
  split <;> simp

@[simp] theorem masterFrame_contact (s : State) : (masterFrame s).contact = s.contact := by simp [masterFrame]
@[simp] theorem becomeMaster_contact (cold : Bool) (s : State) : (becomeMaster cold s).contact = s.contact := by simp [becomeMaster]
@[simp] theorem claimNow_contact (cold : Bool) (s : State) : (claimNow cold s).contact = s.contact := by simp [claimNow]

@[simp] theorem syncMissCheck_contact (s : State) : (syncMissCheck s).contact = s.contact := by
  simp only [syncMissCheck]
  (repeat' split) <;> simp

@[simp] theorem countBeats_contact (s : State) : (countBeats s).contact = s.contact := by simp [countBeats]

@[simp] theorem stateBeat_contact (gone : Bool) (s : State) : (stateBeat gone s).contact = s.contact := by
  simp only [stateBeat]
  split <;> simp

@[simp] theorem nodeBeat_contact (s : State) : (nodeBeat s).contact = s.contact := by
  simp only [nodeBeat]
  split <;> simp

@[simp] theorem beatBoundary_contact (s : State) : (beatBoundary s).contact = s.contact := by simp [beatBoundary]
@[simp] theorem jlUser_contact (r : Nat) (d : List Byte) (s : State) : (jlUser r d s).contact = s.contact := by simp [jlUser]

/-! ### Archive -/

@[simp] theorem arPut_contact (a : Nat) (l : List Byte) (s : State) : (arPut a l s).contact = s.contact := by rfl

@[simp] theorem zeroNext_contact (s : State) : (zeroNext s).contact = s.contact := by
  simp only [zeroNext]
  split <;> simp

@[simp] theorem zeroAsk_contact (first : Bool) (x : Nat) (s : State) : (zeroAsk first x s).contact = s.contact := by simp [zeroAsk]
@[simp] theorem toZeroing_contact (x : Nat) (s : State) : (toZeroing x s).contact = s.contact := by simp [toZeroing]
@[simp] theorem arLine_contact (line : Nat) (bytes : List Byte) (s : State) : (arLine line bytes s).contact = s.contact := by rfl
@[simp] theorem fillBlock_contact (s : State) : (fillBlock s).contact = s.contact := by simp [fillBlock]

@[simp] theorem fillZero_contact (x : Nat) (s : State) : (fillZero x s).contact = s.contact := by
  simp only [fillZero]
  split <;> simp

@[simp] theorem fillTake_contact (x : Nat) (s : State) : (fillTake x s).contact = s.contact := by
  simp only [fillTake]
  split <;> simp

@[simp] theorem fillOpen_contact (s : State) : (fillOpen s).contact = s.contact := by
  simp only [fillOpen]
  (repeat' split) <;> simp

@[simp] theorem fillSeal_contact (s : State) : (fillSeal s).contact = s.contact := by
  simp only [fillSeal]
  split <;> simp

@[simp] theorem fillCopy_contact (sp : Nat) (r : Rec) (s : State) : (fillCopy sp r s).contact = s.contact := by
  simp only [fillCopy]
  (repeat' split) <;> simp

@[simp] theorem fillRangeActs_contact (old s : State) : (fillRangeActs old s).contact = s.contact := by simp [fillRangeActs]

@[simp] theorem releaseExt_contact (x : Nat) (s : State) : (releaseExt x s).contact = s.contact := by
  simp only [releaseExt]
  (repeat' split) <;> simp

@[simp] theorem leaseTake_contact (r : Nat) (d : List Byte) (s : State) : (leaseTake r d s).contact = s.contact := by simp [leaseTake]
@[simp] theorem leaseRenew_contact (r : Nat) (d : List Byte) (s : State) : (leaseRenew r d s).contact = s.contact := by simp [leaseRenew]
@[simp] theorem leaseDrop_contact (r : Nat) (d : List Byte) (s : State) : (leaseDrop r d s).contact = s.contact := by simp [leaseDrop]

@[simp] theorem heartbeatSample_contact (s : State) : (heartbeatSample s).contact = s.contact := by
  simp only [heartbeatSample, contact_foldl, contact_ite, raise_contact, State.setLease_contact, releaseExt_contact, advanceTo_contact,
    contact_update, ite_self, implies_true]

@[simp] theorem extentZeroed_contact (s : State) : (extentZeroed s).contact = s.contact := by
  simp only [extentZeroed]
  split <;> simp

@[simp] theorem trainingBegins_contact (s : State) : (trainingBegins s).contact = s.contact := by simp [trainingBegins]

@[simp] theorem archiveTrainingDone_contact (failed : Option Nat) (s : State) : (archiveTrainingDone failed s).contact = s.contact := by
  simp only [archiveTrainingDone]
  (repeat' split) <;> simp

@[simp] theorem poisonAdd_contact (line : Nat) (s : State) : (poisonAdd line s).contact = s.contact := by simp [poisonAdd]
@[simp] theorem lineError_contact (line : Nat) (s : State) : (lineError line s).contact = s.contact := by simp [lineError]
@[simp] theorem unleased_contact (l : Nat) (write : Bool) (s : State) : (unleased l write s).contact = s.contact := by simp [unleased]
@[simp] theorem corrected_contact (k : Nat) (s : State) : (corrected k s).contact = s.contact := by rfl

@[simp] theorem cxlMemRead_contact (l a words : Nat) (ue : Bool) (s : State) : (cxlMemRead l a words ue s).contact = s.contact := by
  simp only [cxlMemRead]
  (repeat' split) <;> simp

@[simp] theorem cxlMemWrite_contact (l a : Nat) (bytes : List Byte) (poison : Bool) (s : State) :
    (cxlMemWrite l a bytes poison s).contact = s.contact := by
  simp only [cxlMemWrite]
  (repeat' split) <;> simp

@[simp] theorem archiveCopy_contact (r : Nat) (d : List Byte) (s : State) : (archiveCopy r d s).contact = s.contact := by simp [archiveCopy]

@[simp] theorem archiveCopyDone_contact (r words : Nat) (ue : Option Nat) (s : State) : (archiveCopyDone r words ue s).contact = s.contact := by
  simp only [archiveCopyDone]
  (repeat' split) <;> simp

/-! ### Spools and strips -/

@[simp] theorem spDrop_contact (n reason : Nat) (r : Rec) (s : State) : (spDrop n reason r s).contact = s.contact := by simp [spDrop]
@[simp] theorem levelFell_contact (n : Nat) (s : State) : (levelFell n s).contact = s.contact := by simp [levelFell]
@[simp] theorem levelRose_contact (n : Nat) (s : State) : (levelRose n s).contact = s.contact := by simp [levelRose]
@[simp] theorem levels_contact (s : State) : (levels s).contact = s.contact := by simp [levels]

@[simp] theorem takeHead_contact (n : Nat) (s : State) : (takeHead n s).contact = s.contact := by
  simp only [takeHead]
  split <;> simp

@[simp] theorem markHead_contact (n strip k : Nat) (s : State) : (markHead n strip k s).contact = s.contact := by
  simp only [markHead]
  split <;> simp

@[simp] theorem stallEnds_contact (n : Nat) (s : State) : (stallEnds n s).contact = s.contact := by
  simp only [stallEnds]
  split <;> simp

@[simp] theorem stallSync_contact (n : Nat) (s : State) : (stallSync n s).contact = s.contact := by simp [stallSync]
@[simp] theorem stripLook_contact (n : Nat) (s : State) : (stripLook n s).contact = s.contact := by simp [stripLook]
@[simp] theorem endBinding_contact (n : Nat) (drop : Bool) (s : State) : (endBinding n drop s).contact = s.contact := by simp [endBinding]

@[simp] theorem releaseDone_contact (n : Nat) (s : State) : (releaseDone n s).contact = s.contact := by
  simp only [releaseDone]
  (repeat' split) <;> simp

@[simp] theorem settleSpool_contact (n fuel : Nat) (s : State) : (settleSpool n fuel s).contact = s.contact := by
  induction fuel generalizing s with
  | zero => rfl
  | succ fuel ih =>
    simp only [settleSpool]
    (repeat' split) <;> simp [ih]

@[simp] theorem settleAll_contact (s : State) : (settleAll s).contact = s.contact := by simp [settleAll]

@[simp] theorem forwardOne_contact (n : Nat) (s : State) : (forwardOne n s).contact = s.contact := by
  simp only [forwardOne]
  (repeat' split) <;> simp

@[simp] theorem makeRoom_contact (h : Nat) (s : State) : (makeRoom h s).contact = s.contact := by simp [makeRoom]
@[simp] theorem commitRec_contact (r : Rec) (s : State) : (commitRec r s).contact = s.contact := by simp [commitRec]

@[simp] theorem State.setStaged_contact (s : State) (prod h : Nat) (ws : List Word) : (s.setStaged prod h ws).contact = s.contact := by
  simp [State.setStaged]

@[simp] theorem granuleLost_contact (ev prod h n : Nat) (ws : List Word) (s : State) : (granuleLost ev prod h n ws s).contact = s.contact := by
  simp [granuleLost]

@[simp] theorem commitCycle_contact (prod : Nat) (s : State) : (commitCycle prod s).contact = s.contact := by
  simp only [commitCycle]
  split <;> simp

@[simp] theorem stageWord_contact (prod h tag : Nat) (w : Word) (s : State) : (stageWord prod h tag w s).contact = s.contact := by
  simp only [stageWord]
  split <;> simp

@[simp] theorem snapshotIn_contact (r : Rec) (s : State) : (snapshotIn r s).contact = s.contact := by
  simp only [snapshotIn]
  (repeat' split) <;> simp

@[simp] theorem recordCommit_contact (prod spool : Nat) (words : List (Nat × Word)) (s : State) :
    (recordCommit prod spool words s).contact = s.contact := by
  simp only [recordCommit]
  (repeat' split) <;> simp

@[simp] theorem rollback_contact (prod : Nat) (s : State) : (rollback prod s).contact = s.contact := by
  simp only [rollback]
  split <;> simp

@[simp] theorem stripItem_contact (n : Nat) (s : State) : (stripItem n s).contact = s.contact := by simp [stripItem]

theorem granuleBad_contact {n : Nat} {ue : Bool} {g : Granule} {s t : State} (h : granuleBad n ue g s = some t) : t.contact = s.contact := by
  unfold granuleBad at h
  split at h
  · rw [← Option.some.inj h]
    split <;> simp
  · cases h

@[simp] theorem cascadeForward_contact (n : Nat) (ue : Bool) (s : State) : (cascadeForward n ue s).contact = s.contact := by
  unfold cascadeForward
  split
  · split
    · split
      · split
        · next h => exact granuleBad_contact h
        · simp
      · rfl
    · rfl
  · rfl

@[simp] theorem slotWrite_contact (n : Nat) (ue : Bool) (s : State) : (slotWrite n ue s).contact = s.contact := by
  unfold slotWrite
  split
  · rfl
  · split
    · next h => exact granuleBad_contact h
    · split <;> simp

@[simp] theorem passMark_contact (mark : Nat) (s : State) : (passMark mark s).contact = s.contact := by simp [passMark]
@[simp] theorem ownerRead_contact (n slot : Nat) (owner : Nat) (s : State) : (ownerRead n slot owner s).contact = s.contact := by simp [ownerRead]

@[simp] theorem tailReadComplete_contact (s : State) : (tailReadComplete s).contact = s.contact := by
  simp only [tailReadComplete]
  (repeat' split) <;> simp

@[simp] theorem stallReread_contact (n : Nat) (s : State) : (stallReread n s).contact = s.contact := by
  simp only [stallReread]
  split <;> simp

@[simp] theorem stripStall_contact (n : Nat) (s : State) : (stripStall n s).contact = s.contact := by
  simp only [stripStall]
  split <;> simp

@[simp] theorem rewindTailRead_contact (n : Nat) (s : State) : (rewindTailRead n s).contact = s.contact := by
  simp only [rewindTailRead]
  split <;> simp

@[simp] theorem rewindStrips_contact (p : Nat → Bool) (s : State) : (rewindStrips p s).contact = s.contact := by simp [rewindStrips]
@[simp] theorem stripError_contact (n kind : Nat) (s : State) : (stripError n kind s).contact = s.contact := by simp [stripError]
@[simp] theorem stripBind_contact (r : Nat) (d : List Byte) (s : State) : (stripBind r d s).contact = s.contact := by simp [stripBind]
@[simp] theorem spoolEpoch_contact (s : State) : (spoolEpoch s).contact = s.contact := by simp [spoolEpoch]

/-! ### Rings -/

@[simp] theorem fetchKick_contact (r k : Nat) (s : State) : (fetchKick r k s).contact = s.contact := by
  induction k generalizing s with
  | zero => rfl
  | succ k ih => simp [fetchKick, ih]

@[simp] theorem voidFetches_contact (r : Nat) (s : State) : (voidFetches r s).contact = s.contact := by simp [voidFetches]

@[simp] theorem tableKick_contact (r : Nat) (s : State) : (tableKick r s).contact = s.contact := by
  simp only [tableKick]
  split <;> simp

@[simp] theorem startFetch_contact (r : Nat) (s : State) : (startFetch r s).contact = s.contact := by simp [startFetch]
@[simp] theorem kickDma_contact (s : State) : (kickDma s).contact = s.contact := by simp [kickDma]

@[simp] theorem ringStop_contact (r : Nat) (s : State) : (ringStop r s).contact = s.contact := by
  simp only [ringStop]
  (repeat' split) <;> simp

@[simp] theorem ringFault_contact (r : Nat) (s : State) : (ringFault r s).contact = s.contact := by simp [ringFault]
@[simp] theorem ringsDown_contact (s : State) : (ringsDown s).contact = s.contact := by simp [ringsDown]
@[simp] theorem enableGoes1_contact (r : Nat) (s : State) : (enableGoes1 r s).contact = s.contact := by simp [enableGoes1]
@[simp] theorem enableGoes0_contact (r : Nat) (s : State) : (enableGoes0 r s).contact = s.contact := by simp [enableGoes0]
@[simp] theorem pollGoes1_contact (s : State) : (pollGoes1 s).contact = s.contact := by rfl
@[simp] theorem ringItem_contact (r : Nat) (now : Bool) (s : State) : (ringItem r now s).contact = s.contact := by simp [ringItem]

@[simp] theorem completionWrite_contact (r : Nat) (s : State) : (completionWrite r s).contact = s.contact := by
  simp only [completionWrite]
  split <;> simp

@[simp] theorem completionWaitExpiry_contact (r : Nat) (s : State) : (completionWaitExpiry r s).contact = s.contact := by
  simp only [completionWaitExpiry]
  split <;> simp

@[simp] theorem moderationTimeout_contact (v : Nat) (s : State) : (moderationTimeout v s).contact = s.contact := by simp [moderationTimeout]
@[simp] theorem doorbellPoll_contact (s : State) : (doorbellPoll s).contact = s.contact := by simp [doorbellPoll]
@[simp] theorem takeCounts_contact (line : List Byte) (r : Nat) (s : State) : (takeCounts line r s).contact = s.contact := by simp [takeCounts]

@[simp] theorem takeDescs_contact (r n : Nat) (bytes : List Byte) (c : Nat) (s : State) : (takeDescs r n bytes c s).contact = s.contact := by
  induction n generalizing bytes c s with
  | zero => rfl
  | succ n ih => simp [takeDescs, ih]

@[simp] theorem descriptorArrival_contact (s : State) : (descriptorArrival s).contact = s.contact := by
  unfold descriptorArrival
  split
  · rfl
  · dsimp only
    split
    · split <;> simp
    · rfl

@[simp] theorem badDescriptor_contact (r : Nat) (s : State) : (badDescriptor r s).contact = s.contact := by
  simp only [badDescriptor]
  (repeat' split) <;> simp

@[simp] theorem nop_contact (r : Nat) (d : List Byte) (s : State) : (nop r d s).contact = s.contact := by simp [nop]

@[simp] theorem notePolicy_contact (off : Nat) (old : Word) (s : State) : (notePolicy off old s).contact = s.contact := by
  simp only [notePolicy]
  split <;> simp

@[simp] theorem applyPolicy_contact (n : Nat) (s : State) : (applyPolicy n s).contact = s.contact := by
  simp only [applyPolicy]
  (repeat' split) <;> simp

@[simp] theorem declareLoss_contact (s : State) : (declareLoss s).contact = s.contact := by simp [declareLoss]

@[simp] theorem hostLoss_contact (s : State) : (hostLoss s).contact = s.contact := by
  simp only [hostLoss]
  split <;> simp

@[simp] theorem lossIfDue_contact (s : State) : (lossIfDue s).contact = s.contact := by
  simp only [lossIfDue]
  split <;> simp

@[simp] theorem heartbeatSeen_contact (h : Word) (s : State) : (heartbeatSeen h s).contact = s.contact := by simp [heartbeatSeen]

@[simp] theorem doorbellLineArrival_contact (s : State) : (doorbellLineArrival s).contact = s.contact := by
  simp only [doorbellLineArrival]
  split <;> simp

/-! ### Host link -/

@[simp] theorem aerReport_contact (f e : Nat) (advisory : Bool) (s : State) : (aerReport f e advisory s).contact = s.contact := by rfl
@[simp] theorem cplLost_contact (r era kind : Nat) (s : State) : (cplLost r era kind s).contact = s.contact := by simp [cplLost]

@[simp] theorem issuerError_contact (i : Issuer) (kind : Nat) (s : State) : (issuerError i kind s).contact = s.contact := by
  simp only [issuerError]
  (repeat' split) <;> simp

@[simp] theorem badTlp_contact (kind fn : Nat) (s : State) : (badTlp kind fn s).contact = s.contact := by
  simp only [badTlp]
  split <;> simp

@[simp] theorem dmaError_contact (kind fn addr : Nat) (i : Issuer) (s : State) : (dmaError kind fn addr i s).contact = s.contact := by
  simp only [dmaError]
  split <;> simp

@[simp] theorem failReq_contact (kind : Nat) (q : Req) (s : State) : (failReq kind q s).contact = s.contact := by simp [failReq]

theorem takeReq_contact {tag : Nat} {s : State} {r : Req × State} (h : takeReq tag s = some r) : r.2.contact = s.contact := by
  obtain ⟨q, -, rfl⟩ := Option.map_eq_some_iff.mp h
  simp

@[simp] theorem dmaCompletion_contact (tag kind : Nat) (data : List Byte) (s : State) : (dmaCompletion tag kind data s).contact = s.contact := by
  unfold dmaCompletion
  split
  · rfl
  · next h => simp [takeReq_contact h]

@[simp] theorem completionTimeout_contact (tag : Nat) (s : State) : (completionTimeout tag s).contact = s.contact := by
  unfold completionTimeout
  split
  · rfl
  · next h => simp [takeReq_contact h]

@[simp] theorem ecrcError_contact (f : Nat) (tag : Option Nat) (s : State) : (ecrcError f tag s).contact = s.contact := by
  unfold ecrcError
  split
  · rfl
  · split
    · simp
    · split
      · simp
      · next h => simp [takeReq_contact h]

@[simp] theorem poisonedTlp_contact (s : State) : (poisonedTlp s).contact = s.contact := by simp [poisonedTlp]

@[simp] theorem linkError_contact (kind : Nat) (s : State) : (linkError kind s).contact = s.contact := by
  simp only [linkError]
  split <;> simp

@[simp] theorem flushVector_contact (f v : Nat) (s : State) : (flushVector f v s).contact = s.contact := by simp [flushVector]
@[simp] theorem flushPending_contact (f : Nat) (s : State) : (flushPending f s).contact = s.contact := by simp [flushPending]
@[simp] theorem fnResume_contact (f : Nat) (s : State) : (fnResume f s).contact = s.contact := by simp [fnResume]

@[simp] theorem cfgWrite_contact (f : Nat) (field : CfgField) (value : Nat) (s : State) : (cfgWrite f field value s).contact = s.contact := by
  simp only [cfgWrite]
  split <;> simp

@[simp] theorem fnReady_contact (f : Nat) (s : State) : (fnReady f s).2.contact = s.contact := by
  unfold fnReady
  dsimp only
  (repeat' split) <;> simp

@[simp] theorem configurationRequest_contact (f : Nat) (field : CfgField) (write : Option Nat) (s : State) :
    (configurationRequest f field write s).contact = s.contact := by
  simp only [configurationRequest]
  (repeat' split) <;> simp

@[simp] theorem d3hotEntry_contact (f : Nat) (s : State) : (d3hotEntry f s).contact = s.contact := by simp [d3hotEntry]
@[simp] theorem msixUnmask_contact (f v : Nat) (s : State) : (msixUnmask f v s).contact = s.contact := by simp [msixUnmask]

@[simp] theorem vectorIntervalEnd_contact (v : Nat) (s : State) : (vectorIntervalEnd v s).contact = s.contact := by
  simp only [vectorIntervalEnd]
  split <;> simp

@[simp] theorem bar2Write_contact (f i : Nat) (w : Word) (s : State) : (bar2Write f i w s).contact = s.contact := by simp [bar2Write]

@[simp] theorem barUse_contact {k : State → State} (h : ∀ s, (k s).contact = s.contact) (f : Nat) (isRead : Bool) (s : State) :
    (barUse f isRead k s).contact = s.contact := by
  simp [barUse, h]

@[simp] theorem bar2Access_contact (f off size : Nat) (write : Bool) (value : Nat) (s : State) :
    (bar2Access f off size write value s).contact = s.contact := by
  simp [bar2Access]

@[simp] theorem itemBack_contact (a : Nat) (i : Issuer) (s : State) : (itemBack a i s).contact = s.contact := by
  simp only [itemBack]
  split <;> simp

@[simp] theorem discardWrites_contact (p : Nat → Bool) (n kind : Nat) (s : State) : (discardWrites p n kind s).contact = s.contact := by
  simp [discardWrites]

@[simp] theorem copyStops_contact (k kind : Nat) (s : State) : (copyStops k kind s).contact = s.contact := by
  simp only [copyStops]
  split <;> simp

@[simp] theorem linkDown_contact (writes : Nat) (copied : Option Nat) (s : State) : (linkDown writes copied s).contact = s.contact := by
  simp only [linkDown]
  (repeat' split) <;> simp

@[simp] theorem fatalInternal_contact (writes : Nat) (copied : Option Nat) (s : State) : (fatalInternal writes copied s).contact = s.contact := by
  simp [fatalInternal]

@[simp] theorem linkUp_contact (speed width : Nat) (s : State) : (linkUp speed width s).contact = s.contact := by simp [linkUp]
@[simp] theorem speedChange_contact (v : Nat) (s : State) : (speedChange v s).contact = s.contact := by simp [speedChange]
@[simp] theorem widthChange_contact (v : Nat) (s : State) : (widthChange v s).contact = s.contact := by simp [widthChange]
@[simp] theorem l1Entry_contact (sub : Bool) (s : State) : (l1Entry sub s).contact = s.contact := by simp [l1Entry]
@[simp] theorem l1Exit_contact (s : State) : (l1Exit s).contact = s.contact := by simp [l1Exit]
@[simp] theorem cfgReset_contact (f : Nat) (flr : Bool) (s : State) : (cfgReset f flr s).contact = s.contact := by rfl
@[simp] theorem requesterReset_contact (f : Nat) (s : State) : (requesterReset f s).contact = s.contact := by simp [requesterReset]

@[simp] theorem perstAssert_contact (writes : Nat) (copied : Option Nat) (s : State) : (perstAssert writes copied s).contact = s.contact := by
  simp [perstAssert]

@[simp] theorem trainLink_contact (s : State) : (trainLink s).contact = s.contact := by simp [trainLink]
@[simp] theorem perstDeassert_contact (s : State) : (perstDeassert s).contact = s.contact := by simp [perstDeassert]

@[simp] theorem functionLevelReset_contact (f writes : Nat) (copied : Option Nat) (s : State) :
    (functionLevelReset f writes copied s).contact = s.contact := by
  simp only [functionLevelReset]
  (repeat' split) <;> simp

@[simp] theorem flrComplete_contact (f : Nat) (s : State) : (flrComplete f s).contact = s.contact := by simp [flrComplete]

@[simp] theorem ptmDialogStart_contact (s : State) : (ptmDialogStart s).contact = s.contact := by
  unfold ptmDialogStart
  split
  · dsimp only
    split <;> simp
  · rfl

@[simp] theorem ptmCapture_contact (t41 t2 prop : Nat) (s : State) : (ptmCapture t41 t2 prop s).contact = s.contact := by
  simp only [ptmCapture]
  split <;> simp

@[simp] theorem ptmMiss_contact (s : State) : (ptmMiss s).contact = s.contact := by
  simp only [ptmMiss]
  split <;> simp

@[simp] theorem hdmCommit_contact (l base size ways : Nat) (lock : Bool) (s : State) : (hdmCommit l base size ways lock s).contact = s.contact := by
  simp [hdmCommit]

@[simp] theorem mailbox_contact (l code : Nat) (payload : List Nat) (s : State) : (mailbox l code payload s).contact = s.contact := by simp [mailbox]
@[simp] theorem identifyMemoryDevice_contact (l : Nat) (s : State) : (identifyMemoryDevice l s).contact = s.contact := by simp [identifyMemoryDevice]
@[simp] theorem getHealthInfo_contact (l : Nat) (s : State) : (getHealthInfo l s).contact = s.contact := by simp [getHealthInfo]
@[simp] theorem getEventRecords_contact (l : Nat) (s : State) : (getEventRecords l s).contact = s.contact := by simp [getEventRecords]
@[simp] theorem clearEventRecords_contact (l n : Nat) (s : State) : (clearEventRecords l n s).contact = s.contact := by simp [clearEventRecords]
@[simp] theorem getPoisonList_contact (l : Nat) (s : State) : (getPoisonList l s).contact = s.contact := by simp [getPoisonList]
@[simp] theorem injectPoison_contact (l addr : Nat) (s : State) : (injectPoison l addr s).contact = s.contact := by simp [injectPoison]

@[simp] theorem clearPoison_contact (l addr : Nat) (data : List Byte) (s : State) : (clearPoison l addr data s).contact = s.contact := by
  simp [clearPoison]

@[simp] theorem unsupportedMailbox_contact (l : Nat) (s : State) : (unsupportedMailbox l s).contact = s.contact := by simp [unsupportedMailbox]

/-! ### Measurement -/

@[simp] theorem leaveLadder_contact (hold : Nat) (n : Nat) (s : State) : (leaveLadder hold n s).contact = s.contact := by simp [leaveLadder]

@[simp] theorem calAbandon_contact (n : Nat) (all : Bool) (s : State) : (calAbandon n all s).contact = s.contact := by
  unfold calAbandon
  rw [contact_foldl]
  · simp
  · intro s k
    split <;> simp

@[simp] theorem calCheck_contact (n : Nat) (s : State) : (calCheck n s).contact = s.contact := by simp [calCheck]
@[simp] theorem miUp_contact (n : Nat) (s : State) : (miUp n s).contact = s.contact := by rfl
@[simp] theorem miDown_contact (n : Nat) (s : State) : (miDown n s).contact = s.contact := by rfl

@[simp] theorem calState_contact (n : Nat) (s : State) : (calState n s).contact = s.contact := by
  simp only [calState]
  split <;> simp

@[simp] theorem calDue_contact (n : Nat) (s : State) : (calDue n s).contact = s.contact := by
  simp only [calDue]
  split <;> simp

@[simp] theorem calForced_contact (n : Nat) (s : State) : (calForced n s).contact = s.contact := by
  simp only [calForced]
  split <;> simp

@[simp] theorem calHoldoffEnd_contact (n : Nat) (s : State) : (calHoldoffEnd n s).contact = s.contact := by simp [calHoldoffEnd]

@[simp] theorem ladderGrant_contact (s : State) : (ladderGrant s).contact = s.contact := by
  simp only [ladderGrant]
  split <;> simp

@[simp] theorem judgeCal_contact (k : Nat) (x : CalIn) (s : State) : (judgeCal k x s).2.contact = s.contact := by
  unfold judgeCal
  dsimp only
  (repeat' split) <;> simp

@[simp] theorem endCal_contact (k : Nat) (pass : Bool) (x : CalIn) (s : State) : (endCal k pass x s).contact = s.contact := by simp [endCal]

@[simp] theorem calWindowEnd_contact (n : Nat) (x y : CalIn) (s : State) : (calWindowEnd n x y s).contact = s.contact := by
  simp only [calWindowEnd]
  (repeat' split) <;> simp

@[simp] theorem modFault_contact (n chain : Nat) (s : State) : (modFault n chain s).contact = s.contact := by simp [modFault]

@[simp] theorem ownSample_contact (s : State) (k t : Nat) (l : List DecVal) : (ownSample s k t l).2.contact = s.contact := by
  simp [ownSample]

@[simp] theorem pushNegative_contact (n : Nat) (p : Sample) (flags rate : Nat) (snap : Bool) (s : State) :
    (pushNegative n p flags rate snap s).contact = s.contact := by
  rfl

@[simp] theorem rateStep_contact (n : Nat) (p : Sample) (s : State) : (rateStep n p s).contact = s.contact := by simp [rateStep]

@[simp] theorem pathCheck_contact (n : Nat) (gap : Bool) (v fast : Int) (s : State) : (pathCheck n gap v fast s).contact = s.contact := by
  simp [pathCheck]

@[simp] theorem gangCheck_contact (n : Nat) (gap : Bool) (v v2 : Int) (s : State) : (gangCheck n gap v v2 s).contact = s.contact := by
  simp [gangCheck]

@[simp] theorem toCi_contact (n : Nat) (p : Sample) (s : State) : (toCi n p s).contact = s.contact := by simp [toCi]
@[simp] theorem toFixer_contact (n : Nat) (p : Sample) (s : State) : (toFixer n p s).contact = s.contact := by simp [toFixer]
@[simp] theorem toPe_contact (d : Nat) (i : PeInput) (s : State) : (toPe d i s).contact = s.contact := by simp [toPe]
@[simp] theorem takeValues_contact (k : Nat) (l : List DecVal) (s : State) : (takeValues k l s).contact = s.contact := by rfl
@[simp] theorem windowOver_contact (k t : Nat) (s : State) : (windowOver k t s).contact = s.contact := by rfl

@[simp] theorem sampleWindowEnd_contact (n : Nat) (w w2 : List DecVal) (delay : Nat) (s : State) :
    (sampleWindowEnd n w w2 delay s).contact = s.contact := by
  simp only [sampleWindowEnd, apply_ite Prod.snd, contact_ite, raise_contact, State.setMi_contact, ite_self, ownSample_contact,
    pathCheck_contact, gangCheck_contact, toCi_contact, toFixer_contact, toPe_contact, rateStep_contact, takeValues_contact,
    stateReads_contact, advanceTo_contact, pushNegative_contact, windowOver_contact]
  generalize execOf _ 0x17 n = o
  cases o <;> simp only [contact_ite, raise_contact, State.setMi_contact, ite_self, ownSample_contact, pathCheck_contact,
    gangCheck_contact, toCi_contact, toFixer_contact, toPe_contact, rateStep_contact, takeValues_contact, stateReads_contact,
    advanceTo_contact, setStage_contact, windowOver_contact]

@[simp] theorem fastTaken_contact (n : Nat) (v sh sh2 : Int) (s : State) : (fastTaken n v sh sh2 s).contact = s.contact := by simp [fastTaken]
@[simp] theorem fastValue_contact (n : Nat) (v sh sh2 : Int) (s : State) : (fastValue n v sh sh2 s).contact = s.contact := by simp [fastValue]

/-! ### Print engine and fixer -/

@[simp] theorem State.setPeCh_contact (s : State) (n : Nat) (x : PeCh) : (s.setPeCh n x).contact = s.contact := by rfl
@[simp] theorem peEpochEnd_contact (a b : Nat) (s : State) : (peEpochEnd a b s).contact = s.contact := by rfl
@[simp] theorem peDown_contact (s : State) : (peDown s).contact = s.contact := by rfl
@[simp] theorem fxDown_contact (s : State) : (fxDown s).contact = s.contact := by rfl

@[simp] theorem printInputArrival_contact (s : State) : (printInputArrival s).contact = s.contact := by
  simp only [printInputArrival]
  split <;> simp

@[simp] theorem fuseTemp_contact (n tol : Nat) (l : List Cand) (s : State) : (fuseTemp n tol l s).1.contact = s.contact := by
  simp [fuseTemp]

@[simp] theorem formPrint_contact (e : PeEpoch) (g : PeLedger) (l : List PeInput) (s : State) :
    (formPrint e g l s).2.contact = s.contact := by
  simp only [formPrint, contact_ite, raise_contact, State.setPeCh_contact, fuseTemp_contact, ite_self]

@[simp] theorem commitGrade_contact (n : Nat) (g : Grade) (ref : Option Nat) (s : State) : (commitGrade n g ref s).contact = s.contact := by
  simp [commitGrade]

@[simp] theorem gradeRuns_contact (endT : Nat) (s : State) : (gradeRuns endT s).contact = s.contact := by simp [gradeRuns]

@[simp] theorem regrade_contact (n : Nat) (s : State) : (regrade n s).contact = s.contact := by
  simp only [regrade]
  (repeat' split) <;> simp

@[simp] theorem loadTable_contact (entries : List (List Byte)) (crc : Word) (s : State) : (loadTable entries crc s).contact = s.contact := by
  simp [loadTable]

@[simp] theorem emitOne_contact (e : PeEpoch) (l : List PeInput) (g : PeLedger) (s : State) : (emitOne e l g s).contact = s.contact := by
  simp [emitOne]

@[simp] theorem quietEpoch_contact (g : PeLedger) (s : State) : (quietEpoch g s).contact = s.contact := by simp [quietEpoch]

@[simp] theorem judgeOcv_contact (e : PeEpoch) (s : State) : (judgeOcv e s).contact = s.contact := by
  simp only [judgeOcv]
  (repeat' split) <;> simp

@[simp] theorem printEmit_contact (s : State) : (printEmit s).contact = s.contact := by
  simp only [printEmit]
  split <;> simp

/-! ### Encoders and the sensor port -/

@[simp] theorem State.setEnc_contact (s : State) (n : Nat) (e : Encoder) : (s.setEnc n e).contact = s.contact := by rfl
@[simp] theorem State.setSn_contact (s : State) (x : SensorPort) : (s.setSn x).contact = s.contact := by rfl
@[simp] theorem capEnd_contact (n t0 : Nat) (c0 : Int) (s : State) : (capEnd n t0 c0 s).contact = s.contact := by simp [capEnd]

@[simp] theorem capEvent_contact (n k : Nat) (s : State) : (capEvent n k s).contact = s.contact := by
  simp only [capEvent]
  (repeat' split) <;> simp

@[simp] theorem setCount_contact (n : Nat) (v : Int) (s : State) : (setCount n v s).contact = s.contact := by simp [setCount]
@[simp] theorem countOne_contact (n : Nat) (d : Int) (s : State) : (countOne n d s).contact = s.contact := by simp [countOne]
@[simp] theorem quadratureEdge_contact (n : Nat) (a b : Bool) (s : State) : (quadratureEdge n a b s).contact = s.contact := by simp [quadratureEdge]
@[simp] theorem nextClock_contact (s : State) : (nextClock s).contact = s.contact := by rfl
@[simp] theorem indexEdge_contact (n held : Nat) (s : State) : (indexEdge n held s).contact = s.contact := by simp [indexEdge]
@[simp] theorem zFalling_contact (n held : Nat) (s : State) : (zFalling n held s).contact = s.contact := by simp [zFalling]
@[simp] theorem takeLatch_contact (n : Nat) (s : State) : (takeLatch n s).contact = s.contact := by simp [takeLatch]
@[simp] theorem speedLatch_contact (n : Nat) (s : State) : (speedLatch n s).contact = s.contact := by simp [speedLatch]
@[simp] theorem latchFirst_contact (n : Nat) (s : State) : (latchFirst n s).contact = s.contact := by simp [latchFirst]
@[simp] theorem abEdge_contact (n : Nat) (a b : Bool) (held : Nat) (s : State) : (abEdge n a b held s).contact = s.contact := by simp [abEdge]

@[simp] theorem serialFrame_contact (n : Nat) (f : FrameIn) (s : State) : (serialFrame n f s).contact = s.contact := by
  simp only [serialFrame]
  (repeat' split) <;> simp

@[simp] theorem lineFault_contact (n l : Nat) (s : State) : (lineFault n l s).contact = s.contact := by simp [lineFault]
@[simp] theorem lineFaultEnd_contact (n l : Nat) (s : State) : (lineFaultEnd n l s).contact = s.contact := by simp [lineFaultEnd]
@[simp] theorem encSetActs_contact (n : Nat) (d : List Byte) (s : State) : (encSetActs n d s).contact = s.contact := by simp [encSetActs]
@[simp] theorem encSet_contact (r : Nat) (d : List Byte) (s : State) : (encSet r d s).contact = s.contact := by simp [encSet]

@[simp] theorem snStart_contact (s : State) : (snStart s).contact = s.contact := by
  simp only [snStart]
  split <;> simp

@[simp] theorem sensorPollDue_contact (s : State) : (sensorPollDue s).contact = s.contact := by
  simp only [sensorPollDue]
  (repeat' split) <;> simp

@[simp] theorem sensorTransferDone_contact (rx : List Byte) (s : State) : (sensorTransferDone rx s).contact = s.contact := by
  simp only [sensorTransferDone]
  split <;> simp

@[simp] theorem loadSchedule_contact (entries : List (List Byte)) (crc : Word) (s : State) : (loadSchedule entries crc s).contact = s.contact := by
  simp [loadSchedule]

@[simp] theorem encodersUp_contact (s : State) : (encodersUp s).contact = s.contact := by rfl

/-! ### Fixture buses -/

@[simp] theorem State.setCan_contact (s : State) (b : Nat) (x : CanBus) : (s.setCan b x).contact = s.contact := by rfl

@[simp] theorem canAttempt_contact (b : Nat) (s : State) : (canAttempt b s).contact = s.contact := by
  simp only [canAttempt]
  split <;> simp

@[simp] theorem canAbandon_contact (b detail : Nat) (s : State) : (canAbandon b detail s).contact = s.contact := by
  simp only [canAbandon]
  (repeat' split) <;> simp

@[simp] theorem canSend_contact (r : Nat) (d : List Byte) (s : State) : (canSend r d s).contact = s.contact := by simp [canSend]

@[simp] theorem canAcked_contact (b tec rec_ tdc : Nat) (s : State) : (canAcked b tec rec_ tdc s).contact = s.contact := by
  simp only [canAcked]
  (repeat' split) <;> simp

@[simp] theorem canRetry_contact (b tec rec_ : Nat) (s : State) : (canRetry b tec rec_ s).contact = s.contact := by simp [canRetry]

@[simp] theorem canTimeout_contact (b : Nat) (s : State) : (canTimeout b s).contact = s.contact := by
  simp only [canTimeout]
  split <;> simp

@[simp] theorem canRecord_contact (b k : Nat) (f : CanFrame) (s : State) : (canRecord b k f s).contact = s.contact := by simp [canRecord]
@[simp] theorem canToPe_contact (b k : Nat) (f : CanFrame) (s : State) : (canToPe b k f s).contact = s.contact := by simp [canToPe]

@[simp] theorem canRx_contact (b : Nat) (f : CanFrame) (tec rec_ : Nat) (s : State) : (canRx b f tec rec_ s).contact = s.contact := by
  simp only [canRx]
  (repeat' split) <;> simp

@[simp] theorem canFilter_contact (r : Nat) (d : List Byte) (s : State) : (canFilter r d s).contact = s.contact := by simp [canFilter]
@[simp] theorem busIdle_contact (b : Nat) (s : State) : (busIdle b s).contact = s.contact := by simp [busIdle]
@[simp] theorem canIntegrated_contact (b : Nat) (s : State) : (canIntegrated b s).contact = s.contact := by simp [canIntegrated]

@[simp] theorem canErrors_contact (b tec rec_ : Nat) (s : State) : (canErrors b tec rec_ s).contact = s.contact := by
  simp only [canErrors]
  (repeat' split) <;> simp

@[simp] theorem busOn_contact (b : Nat) (s : State) : (busOn b s).contact = s.contact := by simp [busOn]
@[simp] theorem txdDominant_contact (b : Nat) (s : State) : (txdDominant b s).contact = s.contact := by simp [txdDominant]
@[simp] theorem busDominant_contact (b : Nat) (s : State) : (busDominant b s).contact = s.contact := by simp [busDominant]
@[simp] theorem canAsleep_contact (b : Nat) (s : State) : (canAsleep b s).contact = s.contact := by simp [canAsleep]
@[simp] theorem canSleep_contact (b : Nat) (s : State) : (canSleep b s).contact = s.contact := by simp [canSleep]
@[simp] theorem sleepEntry_contact (b : Nat) (s : State) : (sleepEntry b s).contact = s.contact := by simp [sleepEntry]
@[simp] theorem wakeRaise_contact (b : Nat) (s : State) : (wakeRaise b s).contact = s.contact := by simp [wakeRaise]

@[simp] theorem canWake_contact (b cause filter : Nat) (f : Option CanFrame) (s : State) : (canWake b cause filter f s).contact = s.contact := by
  simp [canWake]

@[simp] theorem canUnsleep_contact (b : Nat) (s : State) : (canUnsleep b s).contact = s.contact := by simp [canUnsleep]

@[simp] theorem phaseCounts_contact (fog ns : Nat) (s : State) : (phaseCounts fog ns s).2.contact = s.contact := by
  unfold phaseCounts
  (repeat' split) <;> simp

@[simp] theorem scanPhase_contact (fog : Nat) (a : PatternScan × State) (ph : Bool × Nat) : (scanPhase fog a ph).2.contact = a.2.contact := by
  unfold scanPhase
  dsimp only
  (repeat' split) <;> simp

theorem scanPhases_contact (fog : Nat) (l : List (Bool × Nat)) (a : PatternScan × State) :
    (l.foldl (scanPhase fog) a).2.contact = a.2.contact :=
  foldl_keep (fun a : PatternScan × State => a.2.contact) _ (scanPhase_contact fog) l a

@[simp] theorem wakePattern_contact (b : Nat) (phases : List (Bool × Nat)) (s : State) : (wakePattern b phases s).contact = s.contact := by
  simp [wakePattern, scanPhases_contact]

@[simp] theorem wakeFrame_contact (b : Nat) (f : CanFrame) (kind : Nat) (s : State) : (wakeFrame b f kind s).contact = s.contact := by
  simp only [wakeFrame]
  (repeat' split) <;> simp

@[simp] theorem decoderDisarm_contact (b : Nat) (s : State) : (decoderDisarm b s).contact = s.contact := by simp [decoderDisarm]
@[simp] theorem canUp_contact (s : State) : (canUp s).contact = s.contact := by simp [canUp]
@[simp] theorem canDown_contact (detail : Nat) (s : State) : (canDown detail s).contact = s.contact := by simp [canDown]

/-! ### Wand -/

@[simp] theorem State.setField_contact (s : State) (f : FieldDie) : (s.setField f).contact = s.contact := by rfl
@[simp] theorem State.setValve_contact (s : State) (n : Nat) (v : Valve) : (s.setValve n v).contact = s.contact := by rfl
@[simp] theorem legSettle_contact (n : Nat) (s : State) : (legSettle n s).contact = s.contact := by simp [legSettle]
@[simp] theorem legSettleAll_contact (s : State) : (legSettleAll s).contact = s.contact := by simp [legSettleAll]

@[simp] theorem pairSettle_contact (n : Nat) (s : State) : (pairSettle n s).contact = s.contact := by
  simp only [pairSettle]
  split <;> simp

@[simp] theorem finishRun_contact (n : Nat) (s : State) : (finishRun n s).contact = s.contact := by simp [finishRun]

@[simp] theorem stopRun_contact (n cause code : Nat) (fast : Bool) (s : State) : (stopRun n cause code fast s).contact = s.contact := by
  simp [stopRun]

@[simp] theorem decayComplete_contact (n : Nat) (s : State) : (decayComplete n s).contact = s.contact := by simp [decayComplete]
@[simp] theorem stopAllRuns_contact (cause : Nat) (s : State) : (stopAllRuns cause s).contact = s.contact := by simp [stopAllRuns]
@[simp] theorem decayFast_contact (n : Nat) (s : State) : (decayFast n s).contact = s.contact := by simp [decayFast]
@[simp] theorem valveConfig_contact (n : Nat) (w : Word) (s : State) : (valveConfig n w s).contact = s.contact := by simp [valveConfig]
@[simp] theorem wandStart_contact (n : Nat) (s : State) : (wandStart n s).contact = s.contact := by simp [wandStart]
@[simp] theorem wandRunBit_contact (n : Nat) (b : Bool) (s : State) : (wandRunBit n b s).contact = s.contact := by simp [wandRunBit]

@[simp] theorem wandStep_contact {k : Valve → Word → State → State} (h : ∀ v w s, (k v w s).contact = s.contact) (n : Nat)
    (p : Nat → Word → Bool) (s : State) : (wandStep n p k s).contact = s.contact := by
  unfold wandStep
  split
  · split
    · rfl
    · simp [h]
  · rfl

@[simp] theorem wandWord_contact {k : Valve → Word → State → State} (h : ∀ v w s, (k v w s).contact = s.contact) (n op : Nat) (s : State) :
    (wandWord n op k s).contact = s.contact := wandStep_contact h ..
@[simp] theorem wandNext_contact (n pc dur : Nat) (v : Valve) (s : State) : (wandNext n pc dur v s).contact = s.contact := by rfl
@[simp] theorem seti_contact (n : Nat) (s : State) : (seti n s).contact = s.contact := by simp [seti]
@[simp] theorem wandRamp_contact (n : Nat) (s : State) : (wandRamp n s).contact = s.contact := by simp [wandRamp]
@[simp] theorem waitt_contact (n : Nat) (s : State) : (waitt n s).contact = s.contact := by simp [waitt]
@[simp] theorem waiti_contact (n : Nat) (s : State) : (waiti n s).contact = s.contact := by simp [waiti]
@[simp] theorem waitin_contact (n : Nat) (s : State) : (waitin n s).contact = s.contact := by simp [waitin]
@[simp] theorem ditherW_contact (n : Nat) (s : State) : (ditherW n s).contact = s.contact := by simp [ditherW]
@[simp] theorem wandLoop_contact (n : Nat) (s : State) : (wandLoop n s).contact = s.contact := by simp [wandLoop]
@[simp] theorem wandJif_contact (n : Nat) (s : State) : (wandJif n s).contact = s.contact := by simp [wandJif]
@[simp] theorem decayW_contact (n : Nat) (s : State) : (decayW n s).contact = s.contact := by simp [decayW]
@[simp] theorem endW_contact (n : Nat) (s : State) : (endW n s).contact = s.contact := by simp [endW]
@[simp] theorem illegalWord_contact (n : Nat) (s : State) : (illegalWord n s).contact = s.contact := by simp [illegalWord]

@[simp] theorem meanSeen_contact (n : Nat) (mean : Int) (s : State) : (meanSeen n mean s).contact = s.contact := by
  simp only [meanSeen]
  (repeat' split) <;> simp

@[simp] theorem inputSeen_contact (i : Nat) (level : Bool) (s : State) : (inputSeen i level s).contact = s.contact := by
  refine contact_foldl _ _ _ fun s n => ?_
  dsimp only
  (repeat' split) <;> simp

@[simp] theorem diagOn_contact (n : Nat) (s : State) : (diagOn n s).contact = s.contact := by simp [diagOn]

@[simp] theorem regulationPeriod_contact (n : Nat) (mean : Int) (duty : Nat) (s : State) :
    (regulationPeriod n mean duty s).contact = s.contact := by
  rcases Option.eq_none_or_eq_some (s.valve n).regAt with h | ⟨t, h⟩
  · rcases Option.eq_none_or_eq_some (s.valve n).heldAt with held | ⟨u, held⟩ <;>
      simp only [regulationPeriod, h, held, contact_ite, State.setValve_contact, meanSeen_contact, diagOn_contact, raise_contact, ite_self]
  · rcases Option.eq_none_or_eq_some ((advanceClk (t + regPeriod (s.valve n).cfg) s).valve n).heldAt with held | ⟨u, held⟩ <;>
      simp only [regulationPeriod, h, held, contact_ite, State.setValve_contact, meanSeen_contact, diagOn_contact, raise_contact,
        advanceClk_contact, ite_self]

@[simp] theorem peakCapped_contact (n : Nat) (s : State) : (peakCapped n s).contact = s.contact := by
  simp only [peakCapped]
  split <;> simp

@[simp] theorem legTrip_contact (b leg k kind : Nat) (s : State) : (legTrip b leg k kind s).contact = s.contact := by simp [legTrip]

@[simp] theorem drvTrip_contact (n leg ma since lasts : Nat) (s : State) : (drvTrip n leg ma since lasts s).contact = s.contact := by
  simp only [drvTrip]
  (repeat' split) <;> simp

@[simp] theorem offStateTest_contact (n : Nat) (v1 v2 : Int) (pulse : Nat) (s : State) : (offStateTest n v1 v2 pulse s).contact = s.contact := by
  simp [offStateTest]

/-! ### Easel -/

@[simp] theorem State.setSw_contact (s : State) (n : Nat) (x : Switch) : (s.setSw n x).contact = s.contact := by rfl
@[simp] theorem swOff_contact (n : Nat) (s : State) : (swOff n s).contact = s.contact := by simp [swOff]
@[simp] theorem swSettle_contact (n : Nat) (s : State) : (swSettle n s).contact = s.contact := by simp [swSettle]
@[simp] theorem swSettleAll_contact (s : State) : (swSettleAll s).contact = s.contact := by simp [swSettleAll]
@[simp] theorem fieldSafe_contact (cause : Nat) (s : State) : (fieldSafe cause s).contact = s.contact := by simp [fieldSafe]
@[simp] theorem swEvent_contact (s : State) : (swEvent s).contact = s.contact := by rfl
@[simp] theorem heldCarried_contact (q addr : Nat) (s : State) : (heldCarried q addr s).contact = s.contact := by simp [heldCarried]
@[simp] theorem heldTold_contact (ack : Nat) (s : State) : (heldTold ack s).contact = s.contact := by simp [heldTold]
@[simp] theorem heldHeard_contact (addr : Nat) (w : Word) (s : State) : (heldHeard addr w s).contact = s.contact := by simp [heldHeard]
@[simp] theorem sendUplink_contact (t : Nat) (x : FieldIn) (s : State) : (sendUplink t x s).contact = s.contact := by simp [sendUplink]
@[simp] theorem State.setInput_contact (s : State) (n : Nat) (x : FieldInput) : (s.setInput n x).contact = s.contact := by rfl
@[simp] theorem refilter_contact (s : State) : (refilter s).contact = s.contact := by rfl
@[simp] theorem rejudge_contact (s : State) : (rejudge s).contact = s.contact := by simp [rejudge]

@[simp] theorem applySlot_contact (p : Option Nat × State) (slot : Nat × Word) : (applySlot p slot).2.contact = p.2.contact := by
  simp only [applySlot, apply_ite Prod.snd, contact_ite, State.setField_contact, rejudge_contact, refilter_contact, raise_contact,
    State.setValve_contact, valveConfig_contact, ite_self]
  cases p.1 <;> simp

theorem applySlots_contact (l : List (Nat × Word)) (p : Option Nat × State) : (l.foldl applySlot p).2.contact = p.2.contact :=
  foldl_keep (fun p : Option Nat × State => p.2.contact) _ applySlot_contact l p

@[simp] theorem applyBatch_contact (slots : List (Nat × Word)) (sw vd : Nat) (outputs : Bool) (s : State) :
    (applyBatch slots sw vd outputs s).contact = s.contact := by
  simp [applyBatch, applySlots_contact]

@[simp] theorem releaseOut_contact (id : Nat) (s : State) : (releaseOut id s).contact = s.contact := by simp [releaseOut]
@[simp] theorem releaseActed_contact (ack : Nat) (s : State) : (releaseActed ack s).contact = s.contact := by simp [releaseActed]

@[simp] theorem ezComplete_contact (p : Exec → Bool) (st : Status) (detail : Nat) (s : State) :
    (ezComplete p st detail s).contact = s.contact := by
  refine contact_foldl _ _ _ fun s r => ?_
  split
  · split
    · split <;> simp
    · rfl
  · rfl

@[simp] theorem ezFail_contact (s : State) : (ezFail s).contact = s.contact := by simp [ezFail]

@[simp] theorem bridgeSafe_contact (cause : Nat) (s : State) : (bridgeSafe cause s).contact = s.contact := by
  simp only [bridgeSafe]
  split <;> simp

@[simp] theorem enterNotReady_contact (s : State) : (enterNotReady s).contact = s.contact := by rfl

@[simp] theorem formBatch_contact (s : State) : (formBatch s).contact = s.contact := by
  unfold formBatch
  refine (contact_foldl _ _ _ fun s r => ?_).trans ?_
  · dsimp only
    split <;> simp
  · simp

@[simp] theorem sendDown_contact (s : State) : (sendDown s).contact = s.contact := by
  simp only [sendDown]
  (repeat' split) <;> simp

@[simp] theorem frameBoundary_contact (s : State) : (frameBoundary s).contact = s.contact := by simp [frameBoundary]

@[simp] theorem batchResend_contact (s : State) : (batchResend s).contact = s.contact := by
  simp only [batchResend]
  split <;> simp

@[simp] theorem downlinkFrame_contact (line : Option Nat) (x : FieldIn) (s : State) : (downlinkFrame line x s).contact = s.contact := by
  simp only [downlinkFrame]
  (repeat' split) <;> simp

@[simp] theorem downlinkWatchdog_contact (s : State) : (downlinkWatchdog s).contact = s.contact := by simp [downlinkWatchdog]

@[simp] theorem helloUplink_contact (x : FieldIn) (s : State) : (helloUplink x s).contact = s.contact := by
  simp only [helloUplink]
  (repeat' split) <;> simp

@[simp] theorem inChange_contact (u : UpFrame) (s : State) : (inChange u s).contact = s.contact := by
  simp only [inChange]
  split <;> simp

@[simp] theorem runReport_contact (u : UpFrame) (s : State) : (runReport u s).contact = s.contact := by simp [runReport]

@[simp] theorem takeAck_contact (ack : Nat) (s : State) : (takeAck ack s).contact = s.contact := by
  simp only [takeAck]
  split <;> simp

@[simp] theorem goodUplink_contact (u : UpFrame) (s : State) : (goodUplink u s).contact = s.contact := by
  simp only [goodUplink]
  split <;> simp

@[simp] theorem uplinkFrame_contact (line : Option Nat) (s : State) : (uplinkFrame line s).contact = s.contact := by
  simp only [uplinkFrame]
  (repeat' split) <;> simp

@[simp] theorem linkLost_contact (s : State) : (linkLost s).contact = s.contact := by simp [linkLost]
@[simp] theorem fieldDomUp_contact (d : Nat) (s : State) : (fieldDomUp d s).contact = s.contact := by simp [fieldDomUp]
@[simp] theorem fieldDiePowerUp_contact (s : State) : (fieldDiePowerUp s).contact = s.contact := by simp [fieldDiePowerUp]
@[simp] theorem barrierLoss_contact (reported : Bool) (s : State) : (barrierLoss reported s).contact = s.contact := by simp [barrierLoss]
@[simp] theorem easelUp_contact (s : State) : (easelUp s).contact = s.contact := by rfl
@[simp] theorem easelDown_contact (s : State) : (easelDown s).contact = s.contact := by simp [easelDown]
@[simp] theorem setLevel_contact (n : Nat) (b : Bool) (s : State) : (setLevel n b s).contact = s.contact := by simp [setLevel]
@[simp] theorem acceptLevel_contact (n : Nat) (s : State) : (acceptLevel n s).contact = s.contact := by simp [acceptLevel]

@[simp] theorem inputAccepted_contact (n : Nat) (mv : Int) (ua samples : Nat) (s : State) :
    (inputAccepted n mv ua samples s).contact = s.contact := by
  simp [inputAccepted]

@[simp] theorem wireBreak_contact (n : Nat) (s : State) : (wireBreak n s).contact = s.contact := by simp [wireBreak]
@[simp] theorem wireOk_contact (n : Nat) (s : State) : (wireOk n s).contact = s.contact := by simp [wireOk]
@[simp] theorem clearField_contact (s : State) : (clearField s).contact = s.contact := by simp [clearField]
@[simp] theorem supplyOnset_contact (k cls : Nat) (v : Option Int) (s : State) : (supplyOnset k cls v s).contact = s.contact := by simp [supplyOnset]
@[simp] theorem supplyEnd_contact (k : Nat) (s : State) : (supplyEnd k s).contact = s.contact := by simp [supplyEnd]
@[simp] theorem swLatch_contact (n : Nat) (s : State) : (swLatch n s).contact = s.contact := by simp [swLatch]
@[simp] theorem swThermalOff_contact (n : Nat) (s : State) : (swThermalOff n s).contact = s.contact := by simp [swThermalOff]
@[simp] theorem swThermalRestart_contact (n : Nat) (s : State) : (swThermalRestart n s).contact = s.contact := by simp [swThermalRestart]
@[simp] theorem swOverload_contact (n : Nat) (s : State) : (swOverload n s).contact = s.contact := by simp [swOverload]
@[simp] theorem swOpenLoad_contact (n : Nat) (s : State) : (swOpenLoad n s).contact = s.contact := by simp [swOpenLoad]
@[simp] theorem swOpenLoadClear_contact (n : Nat) (s : State) : (swOpenLoadClear n s).contact = s.contact := by simp [swOpenLoadClear]
@[simp] theorem swShortSupply_contact (n : Nat) (s : State) : (swShortSupply n s).contact = s.contact := by simp [swShortSupply]
@[simp] theorem swShortSupplyClear_contact (n : Nat) (s : State) : (swShortSupplyClear n s).contact = s.contact := by simp [swShortSupplyClear]

@[simp] theorem clampEnd_contact (n : Nat) (s : State) : (clampEnd n s).contact = s.contact := by
  simp only [clampEnd]
  (repeat' split) <;> simp

@[simp] theorem valveQueue_contact (r : Nat) (slots : List (Nat × Word)) (run : Option (Nat × Bool)) (s : State) :
    (valveQueue r slots run s).contact = s.contact := by
  simp [valveQueue]

@[simp] theorem valveRun_contact (r : Nat) (d : List Byte) (s : State) : (valveRun r d s).contact = s.contact := by simp [valveRun]
@[simp] theorem valveLoad_contact (r : Nat) (d : List Byte) (s : State) : (valveLoad r d s).contact = s.contact := by simp [valveLoad]
@[simp] theorem valveImage_contact (r n : Nat) (words : List Word) (s : State) : (valveImage r n words s).contact = s.contact := by simp [valveImage]
@[simp] theorem switchSet_contact (r : Nat) (d : List Byte) (s : State) : (switchSet r d s).contact = s.contact := by simp [switchSet]
@[simp] theorem fieldSet_contact (r : Nat) (d : List Byte) (s : State) : (fieldSet r d s).contact = s.contact := by simp [fieldSet]

/-! ### Domains -/

@[simp] theorem stopChannel_contact (cls n : Nat) (s : State) : (stopChannel cls n s).contact = s.contact := by simp [stopChannel]

@[simp] theorem enterStop_contact (cls : Nat) (src : StopSource) (x : Nat) (unsent : Bool) (s : State) :
    (enterStop cls src x unsent s).contact = s.contact := by
  simp [enterStop]

@[simp] theorem scrubDown_contact (s : State) : (scrubDown s).contact = s.contact := by rfl
@[simp] theorem domLeaves_contact (d : Nat) (fenced : Bool) (s : State) : (domLeaves d fenced s).contact = s.contact := by simp [domLeaves]
@[simp] theorem startUp_contact (d : Nat) (s : State) : (startUp d s).contact = s.contact := by rfl
@[simp] theorem startDown_contact (d : Nat) (s : State) : (startDown d s).contact = s.contact := by simp [startDown]
@[simp] theorem endTransition_contact (d : Nat) (st : DomState) (s : State) : (endTransition d st s).contact = s.contact := by rfl

@[simp] theorem followTarget_contact (d : Nat) (s : State) : (followTarget d s).contact = s.contact := by
  simp only [followTarget]
  split <;> simp

@[simp] theorem isolate_contact (d words : Nat) (s : State) : (isolate d words s).contact = s.contact := by rfl
@[simp] theorem setTarget_contact (d : Nat) (on : Bool) (s : State) : (setTarget d on s).contact = s.contact := by simp [setTarget]
@[simp] theorem voidTable_contact (r : Nat) (s : State) : (voidTable r s).contact = s.contact := by simp [voidTable]

@[simp] theorem fenceCommands_contact (n : Nat) (s : State) : (fenceCommands n s).contact = s.contact := by
  refine contact_foldl _ _ _ fun s r => ?_
  split
  · split <;> simp
  · rfl

@[simp] theorem fenceChannel_contact (d cause : Nat) (s : State) : (fenceChannel d cause s).contact = s.contact := by simp [fenceChannel]

@[simp] theorem fence_contact (d cause stopCause words : Nat) (s : State) : (fence d cause stopCause words s).contact = s.contact := by
  simp only [fence]
  (repeat' split) <;> simp

@[simp] theorem ciUp_contact (n : Nat) (s : State) : (ciUp n s).contact = s.contact := by simp [ciUp]
@[simp] theorem channelReadmitted_contact (n : Nat) (s : State) : (channelReadmitted n s).contact = s.contact := by rfl

@[simp] theorem domainDone_contact (op d result : Nat) (s : State) : (domainDone op d result s).contact = s.contact := by
  simp only [domainDone]
  (repeat' split) <;> simp

@[simp] theorem readmitFails_contact (d detail : Nat) (s : State) : (readmitFails d detail s).contact = s.contact := by
  simp only [readmitFails]
  split <;> simp

@[simp] theorem chPark_contact (r : Nat) (d : List Byte) (s : State) : (chPark r d s).contact = s.contact := by simp [chPark]
@[simp] theorem chReadmit_contact (r : Nat) (d : List Byte) (s : State) : (chReadmit r d s).contact = s.contact := by simp [chReadmit]

@[simp] theorem islandSelftestDone_contact (d mask words : Nat) (s : State) : (islandSelftestDone d mask words s).contact = s.contact := by
  simp [islandSelftestDone]

@[simp] theorem reopenPort_contact (d : Nat) (s : State) : (reopenPort d s).contact = s.contact := by simp [reopenPort]
@[simp] theorem hubReadmit_contact (bits : Word) (s : State) : (hubReadmit bits s).contact = s.contact := by simp [hubReadmit]

@[simp] theorem upPhaseEnd_contact (d : Nat) (s : State) : (upPhaseEnd d s).contact = s.contact := by
  simp only [upPhaseEnd]
  (repeat' split) <;> simp

@[simp] theorem domFail_contact (d : Nat) (s : State) : (domFail d s).contact = s.contact := by simp [domFail]
@[simp] theorem quiesceEnd_contact (d words : Nat) (s : State) : (quiesceEnd d words s).contact = s.contact := by simp [quiesceEnd]
@[simp] theorem downComplete_contact (d : Nat) (s : State) : (downComplete d s).contact = s.contact := by simp [downComplete]
@[simp] theorem scrubUp_contact (s : State) : (scrubUp s).contact = s.contact := by rfl
@[simp] theorem domComes_contact (d : Nat) (s : State) : (domComes d s).contact = s.contact := by simp [domComes]
@[simp] theorem becomesOn_contact (d : Nat) (s : State) : (becomesOn d s).contact = s.contact := by simp [becomesOn]

/-! ### On-chip memories -/

@[simp] theorem passBegin_contact (s : State) : (passBegin s).contact = s.contact := by rfl

/-- What a pass that falls due does; apart from `scrubPassStart`, in whose place the kernel would unfold the clock's literals. -/
theorem passDue_contact (s : State) :
    (let s := { s with mm := { s.mm with passAt := s.tk.now } }
      if s.mm.scrubbing then { s with mm := { s.mm with passDue := true } } else passBegin s).contact = s.contact := by
  dsimp only
  split <;> simp

@[simp] theorem scrubPassStart_contact (s : State) : (scrubPassStart s).contact = s.contact := by
  unfold scrubPassStart
  split
  · exact (passDue_contact _).trans (advanceTo_contact ..)
  · rfl

@[simp] theorem scrubStep_contact (s : State) : (scrubStep s).contact = s.contact := by
  simp only [scrubStep]
  (repeat' split) <;> simp

@[simp] theorem scrubTime_contact (s : State) : (scrubTime s).contact = s.contact := by simp [scrubTime]

@[simp] theorem scrubAccess_contact (kind : Nat) (s : State) : (scrubAccess kind s).contact = s.contact := by
  simp only [scrubAccess]
  (repeat' split) <;> simp

@[simp] theorem eccWriteBack_contact (s : State) : (eccWriteBack s).contact = s.contact := by rfl

@[simp] theorem clearUnexposed_contact (a : Nat) (s : State) : (clearUnexposed a s).contact = s.contact := by
  simp only [clearUnexposed]
  split <;> simp

@[simp] theorem clearUncorrectable_contact (a : Nat) (s : State) : (clearUncorrectable a s).contact = s.contact := by
  simp only [clearUncorrectable]
  split <;> simp

@[simp] theorem latchClear_contact (w : Word) (s : State) : (latchClear w s).contact = s.contact := by simp [latchClear]
@[simp] theorem march_contact (s : State) : (march s).contact = s.contact := by simp [march]

/-! ### Stop bath -/

@[simp] theorem fllUnlock_contact (d words : Nat) (s : State) : (fllUnlock d words s).contact = s.contact := by simp [fllUnlock]

@[simp] theorem xingTimeout_contact (sender receiver : Nat) (rose : Bool) (words : Nat) (s : State) :
    (xingTimeout sender receiver rose words s).contact = s.contact := by
  simp [xingTimeout]

@[simp] theorem refclkLoss_contact (s : State) : (refclkLoss s).contact = s.contact := by simp [refclkLoss]
@[simp] theorem refclkRestored_contact (s : State) : (refclkRestored s).contact = s.contact := by simp [refclkRestored]
@[simp] theorem ciWatchdog_contact (n words : Nat) (s : State) : (ciWatchdog n words s).contact = s.contact := by simp [ciWatchdog]
@[simp] theorem miWatchdog_contact (n words : Nat) (s : State) : (miWatchdog n words s).contact = s.contact := by simp [miWatchdog]
@[simp] theorem vbusOver_contact (v held : Nat) (s : State) : (vbusOver v held s).contact = s.contact := by simp [vbusOver]
@[simp] theorem vbusUnder_contact (v held : Nat) (s : State) : (vbusUnder v held s).contact = s.contact := by simp [vbusUnder]

@[simp] theorem pinStop_contact (s : State) : (pinStop s).contact = s.contact := by
  simp only [pinStop]
  split <;> simp

@[simp] theorem stopPinLow_contact (s : State) : (stopPinLow s).contact = s.contact := by simp [stopPinLow]
@[simp] theorem stopPinHigh_contact (s : State) : (stopPinHigh s).contact = s.contact := by rfl

@[simp] theorem stopCmd_contact (r : Nat) (d : List Byte) (s : State) : (stopCmd r d s).contact = s.contact := by
  refine checked_contact (fun s => ?_) ..
  dsimp only
  split <;> simp

@[simp] theorem stopCell_contact (p h : Nat) (pl : List Byte) (s : State) : (stopCell p h pl s).contact = s.contact := by simp [stopCell]
@[simp] theorem testGap_contact (n : Nat) (s : State) : (testGap n s).contact = s.contact := by simp [testGap]

@[simp] theorem selftest_contact (r : Nat) (d : List Byte) (s : State) : (selftest r d s).contact = s.contact := by
  refine checked_contact (fun s => ?_) ..
  split <;> simp

@[simp] theorem selftestFinished_contact (r mask : Nat) (failing : List Nat) (s : State) :
    (selftestFinished r mask failing s).contact = s.contact := by
  simp only [selftestFinished]
  split <;> simp

/-! ### Timekeeper -/

@[simp] theorem noteWas_contact (b : Nat) (old s : State) : (noteWas b old s).contact = s.contact := by simp [noteWas]
@[simp] theorem islandEpoch_contact (d : Nat) (s : State) : (islandEpoch d s).contact = s.contact := by simp [islandEpoch]

@[simp] theorem islandTime_contact (d : Nat) (rate : Int) (s : State) : (islandTime d rate s).contact = s.contact := by
  simp only [islandTime]
  split <;> simp

@[simp] theorem tsyncGivesUp_contact (s : State) : (tsyncGivesUp s).contact = s.contact := by simp [tsyncGivesUp]
@[simp] theorem tsyncEdge_contact (s : State) : (tsyncEdge s).contact = s.contact := by simp [tsyncEdge]
@[simp] theorem tsyncMissed_contact (s : State) : (tsyncMissed s).contact = s.contact := by simp [tsyncMissed]

@[simp] theorem timeRestored_contact (t : Nat) (s : State) : (timeRestored t s).contact = s.contact := by
  simp only [timeRestored]
  split <;> simp

/-! ### Presence -/

@[simp] theorem tickTo_contact (t : Nat) (s : State) : (tickTo t s).contact = s.contact := by rfl
@[simp] theorem sealLog_contact (kind : Nat) (s : State) : (sealLog kind s).contact = s.contact := by rfl
@[simp] theorem prEvent_contact (num cls : Nat) (s : State) : (prEvent num cls s).contact = s.contact := by simp [prEvent]
@[simp] theorem closeWindow_contact (s : State) : (closeWindow s).contact = s.contact := by simp [closeWindow]
@[simp] theorem pressAccepted_contact (t : Nat) (s : State) : (pressAccepted t s).contact = s.contact := by simp [pressAccepted]

@[simp] theorem windowClose_contact (s : State) : (windowClose s).contact = s.contact := by
  simp only [windowClose]
  split <;> simp

@[simp] theorem buttonStuck_contact (t : Nat) (s : State) : (buttonStuck t s).contact = s.contact := by simp [buttonStuck]
@[simp] theorem presReleased_contact (t : Nat) (s : State) : (presReleased t s).contact = s.contact := by simp [presReleased]
@[simp] theorem calenChange_contact (t : Nat) (fitted : Bool) (s : State) : (calenChange t fitted s).contact = s.contact := by simp [calenChange]
@[simp] theorem sealChange_contact (isOpen : Bool) (s : State) : (sealChange isOpen s).contact = s.contact := by simp [sealChange]
@[simp] theorem sealSample_contact (t : Nat) (isOpen : Bool) (s : State) : (sealSample t isOpen s).contact = s.contact := by simp [sealSample]

@[simp] theorem refusal_contact (src missing requester ring what : Nat) (s : State) :
    (refusal src missing requester ring what s).contact = s.contact := by
  rfl

@[simp] theorem denied_contact (r : Nat) (d : List Byte) (missing : Nat) (s : State) : (denied r d missing s).contact = s.contact := by simp [denied]

/-! ### Coming up -/

@[simp] theorem bootCheck_contact (s : State) : (bootCheck s).contact = s.contact := by simp [bootCheck]

/-! ### Ring commands of the channels -/

@[simp] theorem loadRecipe_contact (r : Nat) (d : List Byte) (s : State) : (loadRecipe r d s).contact = s.contact := by simp [loadRecipe]
@[simp] theorem wordWritten_contact (m w : Nat) (s : State) : (wordWritten m w s).contact = s.contact := by rfl

@[simp] theorem storeRecipe_contact (n first : Nat) (words : List (BitVec 64)) (s : State) : (storeRecipe n first words s).contact = s.contact := by
  simp [storeRecipe]

@[simp] theorem swapBankCmd_contact (r : Nat) (d : List Byte) (s : State) : (swapBankCmd r d s).contact = s.contact := by simp [swapBankCmd]

@[simp] theorem startActs_contact (r n : Nat) (d : List Byte) (s : State) : (startActs r n d s).contact = s.contact := by
  simp only [startActs]
  split <;> simp

@[simp] theorem start_contact (r : Nat) (d : List Byte) (s : State) : (start r d s).contact = s.contact := by
  refine checked_contact (fun s => ?_) ..
  dsimp only
  split <;> simp

@[simp] theorem reachesDark_contact (n : Nat) (s : State) : (reachesDark n s).contact = s.contact := by
  simp only [reachesDark]
  (repeat' split) <;> simp

@[simp] theorem dischargeEnd_contact (n : Nat) (s : State) : (dischargeEnd n s).contact = s.contact := by
  simp only [dischargeEnd]
  (repeat' split) <;> simp

@[simp] theorem holdResume_contact (r : Nat) (d : List Byte) (want : ChState) (ask : ChCmds → ChCmds) (s : State) :
    (holdResume r d want ask s).contact = s.contact := by
  simp [holdResume]

@[simp] theorem abort_contact (r : Nat) (d : List Byte) (s : State) : (abort r d s).contact = s.contact := by
  refine checked_contact (fun s => ?_) ..
  dsimp only
  split <;> simp

@[simp] theorem presetExposure_contact (r : Nat) (d : List Byte) (s : State) : (presetExposure r d s).contact = s.contact := by simp [presetExposure]

@[simp] theorem stateEvents_contact (n : Nat) (s : State) : (stateEvents n s).contact = s.contact := by
  simp only [stateEvents]
  split <;> simp

@[simp] theorem snapshotCmd_contact (r : Nat) (d : List Byte) (s : State) : (snapshotCmd r d s).contact = s.contact := by
  refine checked_contact (fun s => ?_) ..
  dsimp only
  (repeat' split) <;> simp

@[simp] theorem setGang_contact (n : Nat) (on : Bool) (s : State) : (setGang n on s).contact = s.contact := by simp [setGang]
@[simp] theorem gangCmd_contact (r : Nat) (d : List Byte) (s : State) : (gangCmd r d s).contact = s.contact := by simp [gangCmd]
@[simp] theorem setLimits_contact (r : Nat) (d : List Byte) (s : State) : (setLimits r d s).contact = s.contact := by simp [setLimits]
@[simp] theorem setCal_contact (r : Nat) (d : List Byte) (s : State) : (setCal r d s).contact = s.contact := by simp [setCal]
@[simp] theorem fusionSet_contact (r : Nat) (d : List Byte) (s : State) : (fusionSet r d s).contact = s.contact := by simp [fusionSet]

@[simp] theorem epochDone_contact (r : Nat) (s : State) : (epochDone r s).contact = s.contact := by
  simp only [epochDone]
  split <;> simp

@[simp] theorem gradeSet_contact (r : Nat) (d : List Byte) (s : State) : (gradeSet r d s).contact = s.contact := by simp [gradeSet]
@[simp] theorem sensorSchedule_contact (r : Nat) (d : List Byte) (s : State) : (sensorSchedule r d s).contact = s.contact := by simp [sensorSchedule]

@[simp] theorem storeTable_contact (r : Nat) (d bytes : List Byte) (crc : Nat) (s : State) : (storeTable r d bytes crc s).contact = s.contact := by
  simp only [storeTable]
  split <;> simp

@[simp] theorem tableFetchDone_contact (s : State) : (tableFetchDone s).contact = s.contact := by
  simp only [tableFetchDone]
  (repeat' split) <;> simp

@[simp] theorem clearChannel_contact (n : Nat) (s : State) : (clearChannel n s).contact = s.contact := by simp [clearChannel]
@[simp] theorem clearStop_contact (s : State) : (clearStop s).contact = s.contact := by simp [clearStop]
@[simp] theorem clearDevice_contact (r : Nat) (s : State) : (clearDevice r s).contact = s.contact := by simp [clearDevice]
@[simp] theorem clearFault_contact (r : Nat) (d : List Byte) (s : State) : (clearFault r d s).contact = s.contact := by simp [clearFault]

/-! ### Safelight -/

@[simp] theorem fuseCheck_contact (s : State) : (fuseCheck s).contact = s.contact := by simp [fuseCheck]
@[simp] theorem bathComes_contact (s : State) : (bathComes s).contact = s.contact := by simp [bathComes]
@[simp] theorem mainRail_contact (r mv : Nat) (s : State) : (mainRail r mv s).contact = s.contact := by simp [mainRail]
@[simp] theorem parkBeat_contact (s : State) : (parkBeat s).contact = s.contact := by simp [parkBeat]
@[simp] theorem parkDrainEnd_contact (s : State) : (parkDrainEnd s).contact = s.contact := by simp [parkDrainEnd]

@[simp] theorem alarmMatch_contact (s : State) : (alarmMatch s).contact = s.contact := by
  simp only [alarmMatch]
  split <;> simp

@[simp] theorem toneAccepted_contact (p t : Nat) (periods : List Nat) (s : State) : (toneAccepted p t periods s).contact = s.contact := by
  simp [toneAccepted]

@[simp] theorem tonePassOn_contact (d : Nat) (s : State) : (tonePassOn d s).contact = s.contact := by simp [tonePassOn]
@[simp] theorem xtalFail_contact (t : Nat) (s : State) : (xtalFail t s).contact = s.contact := by simp [xtalFail]
@[simp] theorem xtalMeasurement_contact (t dj : Nat) (s : State) : (xtalMeasurement t dj s).contact = s.contact := by simp [xtalMeasurement]
@[simp] theorem xtalRestored_contact (t : Nat) (s : State) : (xtalRestored t s).contact = s.contact := by simp [xtalRestored]

@[simp] theorem tempConversion_contact (t0 t1 t2 t3 t4 : Int) (s : State) : (tempConversion t0 t1 t2 t3 t4 s).contact = s.contact := by
  simp [tempConversion]

/-! ### Beacons, epochs, beats and rounds -/

@[simp] theorem beaconAt_contact (s : State) (d : Nat) : (beaconAt s d).contact = s.contact := by simp [beaconAt]
@[simp] theorem startOthers_contact (s : State) : (startOthers s).contact = s.contact := by simp [startOthers]
@[simp] theorem issueBeacon_contact (t : Nat) (s : State) : (issueBeacon t s).contact = s.contact := by simp [issueBeacon]
@[simp] theorem beacon_contact (s : State) : (beacon s).contact = s.contact := by simp [beacon]
@[simp] theorem epochActs_contact (late : List Nat) (s : State) : (epochActs late s).contact = s.contact := by simp [epochActs]
@[simp] theorem takeEpoch_contact (b : Nat) (s : State) : (takeEpoch b s).contact = s.contact := by simp [takeEpoch]
@[simp] theorem epochBoundary_contact (s : State) : (epochBoundary s).contact = s.contact := by simp [epochBoundary]

@[simp] theorem takePassed_contact (n : Nat) (s : State) : (takePassed n s).contact = s.contact := by
  induction n generalizing s with
  | zero => rfl
  | succ n ih => simp [takePassed, ih]

@[simp] theorem stepping_contact {act : State → State} (h : ∀ s, (act s).contact = s.contact) (s : State) :
    (stepping act s).contact = s.contact := by
  simp [stepping, h]

@[simp] theorem takeBeat_contact (s : State) : (takeBeat s).contact = s.contact := by simp [takeBeat]
@[simp] theorem beatCommand_contact (s : State) : (beatCommand s).contact = s.contact := by simp [beatCommand]

@[simp] theorem takeRound_contact (s : State) : (takeRound s).contact = s.contact := by
  simp only [takeRound]
  split <;> simp

@[simp] theorem roundBoundary_contact (vbus : Nat) (s : State) : (roundBoundary vbus s).contact = s.contact := by simp [roundBoundary]
@[simp] theorem roundFirst_contact (s : State) : (roundFirst s).contact = s.contact := by simp [roundFirst]

/-! ### Register accesses -/

@[simp] theorem readClears_contact (b : Blk) (i : Nat) (r : RegDef) (s : State) : (readClears b i r s).contact = s.contact := by
  simp only [readClears]
  split <;> simp

@[simp] theorem regRead_contact (q : Nat) (b : Blk) (i : Nat) (r : RegDef) (s : State) : (regRead q b i r s).2.contact = s.contact := by
  unfold regRead
  split
  · rfl
  · simp

@[simp] theorem busRead_contact (q off : Nat) (s : State) : (busRead q off s).2.contact = s.contact := by
  unfold busRead
  split
  · rfl
  · split
    · simp
    · split <;> simp

@[simp] theorem store_contact (b : Blk) (i : Nat) (te : Te) (key : Nat) (reset new : Word) (s : State) :
    (store b i te key reset new s).contact = s.contact := by
  simp only [store]
  split <;> simp

@[simp] theorem ringControl_contact (old new : Word) (s : State) : (ringControl old new s).contact = s.contact := by simp [ringControl]
@[simp] theorem domTargets_contact (old new : Word) (s : State) : (domTargets old new s).contact = s.contact := by simp [domTargets]
@[simp] theorem parkAsk_contact (s : State) : (parkAsk s).contact = s.contact := by simp [parkAsk]

@[simp] theorem commitLow_contact (q : Nat) (b : Blk) (i off : Nat) (s : State) : (commitLow q b i off s).contact = s.contact := by
  simp only [commitLow]
  (repeat' split) <;> simp

@[simp] theorem sqWrite_contact (q key : Nat) (v : Word) (s : State) : (sqWrite q key v s).contact = s.contact := by
  simp only [sqWrite]
  split <;> simp

@[simp] theorem hostRead_contact (f off : Nat) (s : State) : (hostRead f off s).contact = s.contact := by simp [hostRead]
@[simp] theorem unsupported_contact (f : Nat) (isRead : Bool) (s : State) : (unsupported f isRead s).contact = s.contact := by simp [unsupported]

end Sys2Proof.Machine
end

section
/-!
SUPPORT. The sheet between reset checks (R38, R61, R67): the commands that leave its block alone, what the others may do to it, and O44.
-/
namespace Sys2Proof.Machine

/-! ### Reading the sheet's block off `contact` -/

theorem variant_of_contact {s t : State} (h : t.contact = s.contact) : t.variant = s.variant := congrArg Prod.fst h
theorem sheet_of_contact {s t : State} (h : t.contact = s.contact) : t.sheet = s.sheet := congrArg Prod.snd h
theorem variant_of_contact_eq {t : State} {v : Variant} {x : Sheet} (h : t.contact = (v, x)) : t.variant = v := congrArg Prod.fst h
theorem sheet_of_contact_eq {t : State} {v : Variant} {x : Sheet} (h : t.contact = (v, x)) : t.sheet = x := congrArg Prod.snd h

/-! ### Commands that leave the sheet's block alone -/

/-- The command may change the sheet's block: it switches or resets the main power, ends a check, is the loupe's, or is a register write, which
may ask for a recheck (R63) or a reset (R827). -/
def mayTouchSheet : Instr → Bool
  | .vsafeApply | .vsafeLoss | .vcoreEnter | .powerLoss _ | .deviceWake | .parkEdge _ => true
  | .resetCheckDone _ | .recheckDone _ | .sheetRead _ | .loupeRegisterAccess _ _ _ => true
  | .reset _ | .park _ | .csRecheck _ _ | .sheetRegionWrite _ _ _ | .registerWrite _ _ _ | .sqAckWrite _ _ _ | .splitLoWrite _ _ _
  | .splitHiWrite _ _ _ | .undefinedOffsetAccess _ _ _ _ | .close _ | .hubDomEnable _ _ | .pollEnable _ | .ringEnable _ _ | .ringDisable _ _
  | .hostLossTimeoutWrite _ _ | .tone _ _ | .wakeRing _ | .regrade _ _ | .sleep _ _ | .sleepClear _ _ | .mmLatchClear _ _
  | .sbHubReadmit _ _ => true
  | _ => false

/-- A command outside `mayTouchSheet` answers a next state and leaves the sheet's block and the variant as they were. -/
theorem exec_contact {c : Instr} {s : State} (hc : mayTouchSheet c = false) : ∃ t, exec c s = .next t ∧ t.contact = s.contact := by
  cases c
  case vsafeApply | vsafeLoss | vcoreEnter | powerLoss | deviceWake | parkEdge | resetCheckDone | recheckDone | sheetRead |
      loupeRegisterAccess | reset | park | csRecheck | sheetRegionWrite | registerWrite | sqAckWrite | splitLoWrite | splitHiWrite |
      undefinedOffsetAccess | close | hubDomEnable | pollEnable | ringEnable | ringDisable | hostLossTimeoutWrite | tone | wakeRing |
      regrade | sleep | sleepClear | mmLatchClear | sbHubReadmit => cases hc
  all_goals exact ⟨_, rfl, by simp⟩

theorem contact_of_exec {c : Instr} {s t : State} (hc : mayTouchSheet c = false) (h : exec c s = .next t) : t.contact = s.contact := by
  obtain ⟨u, hu, hk⟩ := exec_contact (s := s) hc
  cases hu.symm.trans h
  exact hk

/-! ### What a command may do to the sheet's block -/

/-- The bad bits of `x` stand in `y`. -/
structure Sheet.BadKept (x y : Sheet) : Prop where
  magic  : x.magicBad = true → y.magicBad = true
  length : x.lengthBad = true → y.lengthBad = true
  crc    : x.crcBad = true → y.crcBad = true
  struct : x.structBad = true → y.structBad = true

theorem Sheet.BadKept.refl (x : Sheet) : x.BadKept x := ⟨id, id, id, id⟩

/-- What a command does to the sheet's block: it takes main power away, or it resets the device, so that the reset check has not ended, or the
bad bits stand and, once the reset check has ended, the contents too (R38, R67). -/
inductive SheetStep (s t : State) : Prop
  | off (h : t.power ≠ .on)
  | reset (h : t.sheet.checked = false)
  | stands (hv : t.variant = s.variant) (hd : s.sheet.checked = true → t.sheet.damage = s.sheet.damage) (hb : s.sheet.BadKept t.sheet)

namespace SheetStep

theorem of_sheet {s t : State} (hv : t.variant = s.variant) (hs : t.sheet = s.sheet) : SheetStep s t :=
  .stands hv (fun _ => by rw [hs]) (hs ▸ .refl _)

theorem of_contact {s t : State} (h : t.contact = s.contact) : SheetStep s t := of_sheet (variant_of_contact h) (sheet_of_contact h)

/-- What comes before the step and leaves the sheet's block alone makes no difference. -/
theorem after {s u t : State} (h : u.contact = s.contact) (hu : SheetStep u t) : SheetStep s t := by
  cases hu with
  | off h => exact .off h
  | reset h => exact .reset h
  | stands hv hd hb =>
    rw [variant_of_contact h] at hv
    rw [sheet_of_contact h] at hd hb
    exact .stands hv hd hb

theorem mainOn {s t : State} (h : SheetStep s t) : SheetStep s (mainOn s t) := by
  unfold Machine.mainOn
  split
  · exact h
  · exact of_contact rfl

theorem ite {c : Prop} [Decidable c] {s t u : State} (ht : SheetStep s t) (hu : SheetStep s u) : SheetStep s (if c then t else u) := by
  split
  · exact ht
  · exact hu

end SheetStep

/-! ### Power and reset -/

theorem deviceReset_contact (s : State) : (deviceReset s).contact = (s.variant, { checking := true, checked := false }) := by
  unfold deviceReset
  simp only [fuseCheck_contact]
  rw [contact_foldl _ _ _ fun s d => setTarget_contact d true s]
  rfl

theorem deviceReset_sheetStep (s t : State) : SheetStep s (deviceReset t) :=
  .reset (by rw [sheet_of_contact_eq (deviceReset_contact t)])

theorem vsafeApply_sheetStep (s : State) : SheetStep s (vsafeApply s) := by
  unfold vsafeApply
  exact .ite (.off nofun) (.of_contact rfl)

theorem vsafeLoss_sheetStep (s : State) : SheetStep s (vsafeLoss s) := .off nofun

theorem vcoreEnter_sheetStep (s : State) : SheetStep s (vcoreEnter s) := by
  unfold vcoreEnter
  exact .ite (deviceReset_sheetStep ..) (.of_contact rfl)

theorem deviceWake_sheetStep (s : State) : SheetStep s (deviceWake s) := by
  unfold deviceWake
  exact .ite (deviceReset_sheetStep ..) (.of_contact rfl)

theorem powerLoss_sheetStep (rails : List (Nat × Nat)) (s : State) : SheetStep s (powerLoss rails s) := by
  unfold powerLoss
  exact .ite (.off nofun) (.of_contact rfl)

theorem parkEdge_sheetStep (t : Nat) (s : State) : SheetStep s (parkEdge t s) := by
  unfold parkEdge
  refine .ite (.off ?_) (.of_contact rfl)
  rw [foldl_keep State.power _ fun s k => recordWake_power k s]
  nofun

/-! ### The checks and the loupe -/

theorem takeCheck_badKept (f : SheetFind) (s : State) : s.sheet.BadKept (takeCheck f s).sheet := by
  constructor <;> intro h <;> simp [takeCheck, h]

theorem resetCheckDone_contact {damage : List (Nat × Byte)} {s : State}
    (h : s.power = .on ∧ s.sheet.checking = true ∧ (!s.sheet.checked) = true) :
    (resetCheckDone damage s).contact =
      (s.variant, { (takeCheck (checkSheet (damagedBy damage (sheetRom s.variant))) s).sheet with
        damage, hold := (checkSheet (damagedBy damage (sheetRom s.variant))).bad }) := by
  rw [resetCheckDone, if_pos h, bootCheck_contact, trainLink_contact]
  rfl

theorem resetCheckDone_sheetStep (damage : List (Nat × Byte)) (s : State) : SheetStep s (resetCheckDone damage s) := by
  by_cases h : s.power = .on ∧ s.sheet.checking = true ∧ (!s.sheet.checked) = true
  · have hk := resetCheckDone_contact (damage := damage) h
    obtain ⟨magic, length, crc, struct⟩ := takeCheck_badKept (checkSheet (damagedBy damage (sheetRom s.variant))) s
    refine .stands (variant_of_contact_eq hk) (fun hc => by simp [hc] at h) ?_
    rw [sheet_of_contact_eq hk]
    exact ⟨magic, length, crc, struct⟩
  · exact .of_contact (by rw [resetCheckDone, if_neg h])

theorem recheckDone_contact (damage : List (Nat × Byte)) {s : State} (h : s.sheet.checking = true ∧ s.sheet.checked = true) :
    (recheckDone damage s).contact = (takeCheck (checkSheet (damagedBy damage (sheetImage s))) s).contact := by
  simp only [recheckDone, if_pos h, contact_ite, raise_contact, ite_self]

theorem recheckDone_sheetStep (damage : List (Nat × Byte)) (s : State) : SheetStep s (recheckDone damage s) := by
  by_cases h : s.sheet.checking = true ∧ s.sheet.checked = true
  · have hk := recheckDone_contact damage h
    exact .stands (variant_of_contact_eq hk) (fun _ => by rw [sheet_of_contact_eq hk]; rfl)
      (by rw [sheet_of_contact_eq hk]; exact takeCheck_badKept ..)
  · exact .of_contact (by rw [recheckDone, if_neg h])

theorem sheetRead_sheetStep (v : Nat) (s : State) : SheetStep s (sheetRead v s) := by
  unfold sheetRead
  exact .ite (.stands rfl (fun _ => rfl) ⟨id, id, id, id⟩) (.of_contact rfl)

/-! ### Register writes -/

/-- Only CS_RECHECK (the first case, R63) and SL_CONTROL's RESET (the twentieth, R827) act on the sheet's block. -/
theorem writeActs_sheetStep (b : Blk) (i off : Nat) (old new p : Word) (s : State) : SheetStep s (writeActs b i off old new p s) := by
  unfold writeActs
  split
  case h_1 => exact .ite (.stands rfl (fun _ => rfl) ⟨id, id, id, id⟩) (.of_contact rfl)
  case h_20 =>
    refine .ite ?_ (.of_contact (by simp))
    unfold hostReset
    exact deviceReset_sheetStep ..
  all_goals exact .of_contact (by simp)

theorem regWrite_sheetStep (q : Nat) (b : Blk) (i : Nat) (r : RegDef) (v : Word) (s : State) : SheetStep s (regWrite q b i r v s) := by
  unfold regWrite
  dsimp only
  refine .ite (.of_contact (by simp)) (.ite (.of_contact (by simp)) (.ite (.of_contact (by simp)) ?_))
  refine .after ?_ (writeActs_sheetStep ..)
  split <;> simp

theorem guardedWrite_sheetStep (q off : Nat) (b : Blk) (i : Nat) (r : RegDef) (v : Word) (s : State) :
    SheetStep s (guardedWrite q off b i r v s) := by
  unfold guardedWrite
  dsimp only
  refine .ite (.of_contact (by simp)) (.ite (.of_contact (by simp)) ?_)
  split
  case h_2 | h_3 => exact regWrite_sheetStep ..
  all_goals exact .of_contact (by simp)

theorem busWrite_sheetStep (q off : Nat) (v : Word) (s : State) : SheetStep s (busWrite q off v s) := by
  unfold busWrite
  refine .ite (.of_contact (by simp)) ?_
  split
  · exact .of_contact (by simp)
  · exact guardedWrite_sheetStep ..

theorem hostWrite_sheetStep (f off : Nat) (v : Word) (s : State) : SheetStep s (hostWrite f off v s) := by
  unfold hostWrite barUse
  refine .ite (.of_contact rfl) (.ite ?_ (.of_contact (by simp)))
  exact .after (traffic_contact s) (busWrite_sheetStep ..)

theorem loupeAccess_sheetStep (off : Nat) (write : Bool) (v : Word) (s : State) : SheetStep s (loupeAccess off write v s) := by
  unfold loupeAccess
  refine .ite (.of_contact rfl) (.ite (.of_contact (by simp)) (.ite (.of_contact (by simp)) (.ite (busWrite_sheetStep ..) ?_)))
  exact .of_contact (by simp)

/-! ### Every command -/

/-- The commands of `mayTouchSheet` one by one, each through the lemma of its meaning; the rest by `exec_contact`. -/
theorem exec_sheetStep {c : Instr} {s t : State} (h : exec c s = .next t) : SheetStep s t := by
  by_cases hc : mayTouchSheet c = false
  · exact .of_contact (contact_of_exec hc h)
  · cases c
    case vsafeApply => cases h; exact vsafeApply_sheetStep s
    case vsafeLoss => cases h; exact vsafeLoss_sheetStep s
    case vcoreEnter => cases h; exact vcoreEnter_sheetStep s
    case powerLoss => cases h; exact powerLoss_sheetStep ..
    case deviceWake => cases h; exact deviceWake_sheetStep s
    case parkEdge => cases h; exact (parkEdge_sheetStep ..).mainOn
    case resetCheckDone => cases h; exact (resetCheckDone_sheetStep ..).mainOn
    case recheckDone => cases h; exact (recheckDone_sheetStep ..).mainOn
    case sheetRead => cases h; exact (sheetRead_sheetStep ..).mainOn
    case loupeRegisterAccess => cases h; exact (loupeAccess_sheetStep ..).mainOn
    case sheetRegionWrite | sqAckWrite | splitLoWrite | splitHiWrite =>
      cases h; exact (SheetStep.ite (hostWrite_sheetStep ..) (.of_contact rfl)).mainOn
    case undefinedOffsetAccess =>
      cases h
      exact (SheetStep.ite (.of_contact rfl) (.ite (hostWrite_sheetStep ..) (.of_contact (hostRead_contact ..)))).mainOn
    case registerWrite | reset | park | csRecheck | close | hubDomEnable | pollEnable | ringEnable | ringDisable |
        hostLossTimeoutWrite | tone | wakeRing | regrade | sleep | sleepClear | mmLatchClear | sbHubReadmit =>
      cases h; exact (hostWrite_sheetStep ..).mainOn
    all_goals exact absurd rfl hc

/-! ### CS_STATUS -/

/-- CS_STATUS is read from the sheet's block alone. -/
theorem csStatus_of_sheet {s t : State} (h : t.sheet = s.sheet) : csStatus t = csStatus s := by
  unfold csStatus
  rw [h]

/-- SHEET_BAD is set where one of the four bad bits is (R67). -/
theorem csStatus_sheetBad (s : State) :
    bitOf (csStatus s) 2 = (s.sheet.structBad || s.sheet.crcBad || s.sheet.lengthBad || s.sheet.magicBad) := by
  have h : ∀ u v w x y z : Bool, bitOf (w32 (at_ 6 1 (b2n u) + at_ 5 1 (b2n v) + at_ 4 1 (b2n w) + at_ 3 1 (b2n x) +
      at_ 2 1 (b2n (u || v || w || x)) + at_ 1 1 (b2n y) + at_ 0 1 (b2n z))) 2 = (u || v || w || x) := by decide
  exact h ..

/-! ### The obligation -/

theorem sheetImage_of_sheetStep {s t : State} (h : SheetStep s t) (hp : t.power = .on) (hs : s.sheet.checked = true)
    (ht : t.sheet.checked = true) : sheetImage t = sheetImage s := by
  cases h with
  | off h => exact absurd hp h
  | reset h => rw [h] at ht; cases ht
  | stands hv hd _ => rw [sheetImage, sheetImage, hv, hd hs]

theorem badKept_of_sheetStep {s t : State} (h : SheetStep s t) (hp : t.power = .on) (ht : t.sheet.checked = true) :
    s.sheet.BadKept t.sheet := by
  cases h with
  | off h => exact absurd hp h
  | reset h => rw [h] at ht; cases ht
  | stands _ _ hb => exact hb

theorem Sheet.BadKept.sheetBad {s t : State} (h : s.sheet.BadKept t.sheet) (hs : bitOf (csStatus s) 2 = true) :
    bitOf (csStatus t) 2 = true := by
  obtain ⟨magic, length, crc, struct⟩ := h
  simp only [csStatus_sheetBad, Bool.or_eq_true] at hs ⊢
  tauto

/-- A recheck adds what it finds to the bad bits and takes none away. -/
theorem recheckDone_adds {s : State} {damage : List (Nat × Byte)} {f : SheetFind} (hf : f = checkSheet (damagedBy damage (sheetImage s)))
    (hg : s.sheet.checking = true) (hc : s.sheet.checked = true) :
    (recheckDone damage s).sheet = (takeCheck f s).sheet := by
  subst hf
  exact sheet_of_contact (recheckDone_contact damage ⟨hg, hc⟩)

/-- Settles O44: every command either takes main power away, or resets the device, or leaves the contents and the bad bits (`exec_sheetStep`);
the six commands named leave the whole block, and a recheck adds to the bad bits. -/
theorem sheetStandsUntilReset : Obligations.SheetStandsUntilReset := by
  refine ⟨fun c s t h => sheetImage_of_sheetStep (exec_sheetStep h), fun s t f w k x v l1 c hc h => ?_, fun c s t h hp ht => ?_,
    fun s damage f hf hp hg hc => ?_⟩
  · have hk : t.contact = s.contact := contact_of_exec (by fin_cases hc <;> rfl) h
    exact ⟨sheet_of_contact hk, csStatus_of_sheet (sheet_of_contact hk)⟩
  · have hb := badKept_of_sheetStep (exec_sheetStep h) hp ht
    exact ⟨hb.magic, hb.length, hb.crc, hb.struct, hb.sheetBad⟩
  · refine ⟨_, congrArg Host.Outcome.next (mainOn_of_on _ hp), ?_⟩
    simp only [csStatus_sheetBad, recheckDone_adds hf hg hc, takeCheck, SheetFind.bad, true_and]
    ac_rfl

end Sys2Proof.Machine
end

section
/-!
SUPPORT. What a command leaves of the presence window (R109–R114).  Only the button, the window's own close, a failed crystal, main power, a
device reset and a register write reach it.  That the rest of the model leaves it alone is said function by function, in the model's order; a
function with one caller is unfolded there.
-/
namespace Sys2Proof.Machine

/-- The presence window (R110, R111): the tick of its opening while it is open. -/
def State.window (s : State) : Option Nat := s.pres.window

theorem pres_window (s : State) : s.pres.window = s.window := rfl

theorem window_mk {variant dbgen power regs sheet pres doms xings tk hl rg sp ar chs mis streams ladder sh jl pe fx en cn ez sb mm sl th tx
    free pending} :
    (State.mk variant dbgen power regs sheet pres doms xings tk hl rg sp ar chs mis streams ladder sh jl pe fx en cn ez sb mm sl th tx
      free pending).window = pres.window := rfl

/-- An update of a field other than the presence block.  Proved `by rfl`, as are the lemmas like it below, so that simp uses it as a rewriting
rule inside a fold too. -/
@[simp] theorem window_update (s : State) {variant dbgen power regs sheet doms xings tk hl rg sp ar chs mis streams ladder sh jl pe fx en
    cn ez sb mm sl th tx free pending} :
    (State.mk variant dbgen power regs sheet s.pres doms xings tk hl rg sp ar chs mis streams ladder sh jl pe fx en cn ez sb mm sl th tx
      free pending).window = s.window := by rfl

@[simp] theorem window_ite (c : Prop) [Decidable c] (a b : State) : (if c then a else b).window = if c then a.window else b.window :=
  apply_ite State.window ..

@[simp] theorem window_foldl {α : Type} (f : State → α → State) (l : List α) (s : State) (h : ∀ s a, (f s a).window = s.window) :
    (l.foldl f s).window = s.window := foldl_keep State.window f h l s

@[simp] theorem window_foldr {α : Type} (f : α → State → State) (l : List α) (s : State) (h : ∀ a s, (f a s).window = s.window) :
    (l.foldr f s).window = s.window := by
  induction l with
  | nil => rfl
  | cons a l ih => rw [List.foldr_cons, h, ih]

@[simp] theorem mainOn_window (s t : State) (h : t.window = s.window) : (mainOn s t).window = s.window := by
  simp [mainOn, h]

/-! ### Shared operations -/

@[simp] theorem advance_window (d : Nat) (s : State) : (advance d s).window = s.window := by simp [advance]
@[simp] theorem advanceTo_window (t : Nat) (s : State) : (advanceTo t s).window = s.window := by rfl
@[simp] theorem advanceClk_window (t : Nat) (s : State) : (advanceClk t s).window = s.window := by simp [advanceClk]
@[simp] theorem spend_window (s : State) : (spend s).window = s.window := by rfl
@[simp] theorem State.setCh_window (s : State) (n : Nat) (c : Chan) : (s.setCh n c).window = s.window := by rfl
@[simp] theorem State.setMi_window (s : State) (n : Nat) (m : Meas) : (s.setMi n m).window = s.window := by rfl
@[simp] theorem State.setDom_window (s : State) (d : Nat) (x : Dom) : (s.setDom d x).window = s.window := by rfl
@[simp] theorem State.setRing_window (s : State) (r : Nat) (x : Ring) : (s.setRing r x).window = s.window := by rfl
@[simp] theorem State.setFn_window (s : State) (f : Nat) (x : Fn) : (s.setFn f x).window = s.window := by rfl
@[simp] theorem State.setLd_window (s : State) (l : Nat) (x : Ld) : (s.setLd l x).window = s.window := by rfl
@[simp] theorem State.setSpool_window (s : State) (n : Nat) (x : Spool) : (s.setSpool n x).window = s.window := by rfl
@[simp] theorem State.setStrip_window (s : State) (n : Nat) (x : Strip) : (s.setStrip n x).window = s.window := by rfl
@[simp] theorem State.setExt_window (s : State) (x : Nat) (e : Extent) : (s.setExt x e).window = s.window := by rfl
@[simp] theorem State.setLease_window (s : State) (l : Nat) (x : Lease) : (s.setLease l x).window = s.window := by rfl
@[simp] theorem putNow_window (key : Nat) (w : Word) (s : State) : (putNow key w s).window = s.window := by rfl
@[simp] theorem putLater_window (key : Nat) (d w : Word) (s : State) : (putLater key d w s).window = s.window := by simp [putLater]

@[simp] theorem dropLater_window (key : Nat) (w : Word) (s : State) : (dropLater key w s).window = s.window := by
  simp only [dropLater]
  (repeat' split) <;> simp

@[simp] theorem takeNear_window (p : Nat → Bool) (s : State) : (takeNear p s).2.window = s.window := by
  unfold takeNear
  split <;> simp

@[simp] theorem actTaken_window (p : Nat → Bool) (take : Bool) (s : State) : (actTaken p take s).window = s.window := by simp [actTaken]
@[simp] theorem actDue_window (p : Nat → Bool) (s : State) : (actDue p s).window = s.window := by simp [actDue]
@[simp] theorem bumpBy_window (key lim n : Nat) (s : State) : (bumpBy key lim n s).window = s.window := by rfl
@[simp] theorem bump_window (key : Nat) (s : State) : (bump key s).window = s.window := by rfl
@[simp] theorem sqRecord_window (key bit : Nat) (s : State) : (sqRecord key bit s).window = s.window := by rfl
@[simp] theorem rcSet_window (key : Nat) (bits : Word) (s : State) : (rcSet key bits s).window = s.window := by rfl
@[simp] theorem State.setXing_window (s : State) (i j : Nat) (x : Crossing) : (s.setXing i j x).window = s.window := by rfl
@[simp] theorem offer_window (i j : Nat) (ws : List (Nat × Word)) (s : State) : (offer i j ws s).window = s.window := by simp [offer]
@[simp] theorem offerWords_window (i j : Nat) (ws : List Word) (s : State) : (offerWords i j ws s).window = s.window := by simp [offerWords]
@[simp] theorem offerOpen_window (i j : Nat) (s : State) : (offerOpen i j s).window = s.window := by simp [offerOpen, discarded]
@[simp] theorem crossOpen_window (i j : Nat) (s : State) : (crossOpen i j s).window = s.window := by simp [crossOpen]
@[simp] theorem traffic_window (s : State) : (traffic s).window = s.window := by rfl
@[simp] theorem send_window (t : Tx) (s : State) : (send t s).window = s.window := by rfl
@[simp] theorem signal_window (f v : Nat) (s : State) : (signal f v s).window = s.window := by simp [signal]
@[simp] theorem signalSpaced_window (v : Nat) (s : State) : (signalSpaced v s).window = s.window := by simp [signalSpaced]
@[simp] theorem pushRec_window (prod : Nat) (r : Rec) (s : State) : (pushRec prod r s).window = s.window := by rfl

@[simp] theorem raiseAs_window (b : Blk) (i num cls : Nat) (args : List Int) (src prod : Nat) (s : State) :
    (raiseAs b i num cls args src prod s).window = s.window := by
  simp only [raiseAs]
  (repeat' split) <;> simp

@[simp] theorem raise_window (b : Blk) (i num cls : Nat) (args : List Int) (s : State) : (raise b i num cls args s).window = s.window := by
  simp [raise]

@[simp] theorem raiseTimed_window (b : Blk) (i num cls : Nat) (args : List Int) (time : Nat) (s : State) :
    (raiseTimed b i num cls args time s).window = s.window := by
  simp only [raiseTimed]
  (repeat' split) <;> simp

@[simp] theorem recordWake_window (k : Nat) (s : State) : (recordWake k s).window = s.window := by simp [recordWake]

@[simp] theorem wakeSource_window (k : Nat) (s : State) : (wakeSource k s).window = s.window := by
  simp only [wakeSource]
  (repeat' split) <;> simp

/-! ### Ring commands and the DMA engine -/

@[simp] theorem makeEcho_window (r : Nat) (c : Cpl) (phase : Bool) (s : State) : (makeEcho r c phase s).window = s.window := by rfl
@[simp] theorem ringEnable_window (r : Nat) (s : State) : (ringEnable r s).window = s.window := by rfl
@[simp] theorem ringSettle_window (r : Nat) (s : State) : (ringSettle r s).window = s.window := by simp [ringSettle]

@[simp] theorem loseCompletion_window (r : Nat) (s : State) : (loseCompletion r s).window = s.window := by
  simp only [loseCompletion]
  split <;> simp

@[simp] theorem cqCheck_window (r : Nat) (s : State) : (cqCheck r s).window = s.window := by simp [cqCheck]

@[simp] theorem complete_window (r : Nat) (st : Status) (result detail : Nat) (s : State) :
    (complete r st result detail s).window = s.window := by
  simp only [complete]
  (repeat' split) <;> simp

@[simp] theorem begin_window {k : List Byte → State → State} (h : ∀ d s, (k d s).window = s.window) (r op : Nat) (s : State) :
    (begin_ r op k s).window = s.window := by
  unfold begin_
  split
  · split
    · rfl
    · split
      · simp [h]
      · rfl
  · rfl

@[simp] theorem setStage_window (r : Nat) (g : Stage) (s : State) : (setStage r g s).window = s.window := by
  simp only [setStage]
  split <;> simp

@[simp] theorem crossCommand_window (d : List Byte) (s : State) : (crossCommand d s).window = s.window := by
  simp only [crossCommand]
  split <;> simp

@[simp] theorem checked_window {k : State → State} (h : ∀ s, (k s).window = s.window) (r : Nat) (d : List Byte) (missing : State → Option Nat)
    (usesGen : Bool) (s : State) : (checked r d missing usesGen k s).window = s.window := by
  unfold checked
  split
  · simp
  · split
    · simp
    · simp [h]

@[simp] theorem dmaCount_window (c k : Nat) (s : State) : (dmaCount c k s).window = s.window := by simp [dmaCount]
@[simp] theorem dmaOut_window (by_ : Issuer) (s : State) : (dmaOut by_ s).window = s.window := by simp [dmaOut]
@[simp] theorem dmaBack_window (by_ : Issuer) (s : State) : (dmaBack by_ s).window = s.window := by simp [dmaBack]

@[simp] theorem issueRead_window (c f addr len : Nat) (by_ : Issuer) (s : State) : (issueRead c f addr len by_ s).window = s.window := by
  simp [issueRead]

@[simp] theorem issueWrite_window (c f addr : Nat) (bytes : List Byte) (by_ : Issuer) (s : State) :
    (issueWrite c f addr bytes by_ s).window = s.window := by
  simp [issueWrite]

/-! ### Channels -/

@[simp] theorem latchUnexposed_window (m word : Nat) (src : Option Nat) (s : State) :
    (latchUnexposed m word src s).window = s.window := by
  simp [latchUnexposed]

@[simp] theorem unexposedRead_window (m word : Nat) (src : Option Nat) (s : State) : (unexposedRead m word src s).window = s.window := by
  simp only [unexposedRead]
  split <;> simp

@[simp] theorem latchUncorrectable_window (m word : Nat) (src : Option Nat) (scrub : Bool) (s : State) :
    (latchUncorrectable m word src scrub s).window = s.window := by
  simp [latchUncorrectable]

@[simp] theorem uncorrectableRead_window (m word : Nat) (src : Option Nat) (scrub : Bool) (s : State) :
    (uncorrectableRead m word src scrub s).window = s.window := by
  simp only [uncorrectableRead]
  split <;> simp

@[simp] theorem cutChannel_window (n : Nat) (s : State) : (cutChannel n s).window = s.window := by simp [cutChannel]
@[simp] theorem fadeChannel_window (n : Nat) (s : State) : (fadeChannel n s).window = s.window := by simp [fadeChannel]

@[simp] theorem fxRun_window (n : Nat) (f : FxRun → FxRun) (s : State) : (fxRun n f s).window = s.window := by
  simp only [fxRun]
  (repeat' split) <;> simp

@[simp] theorem fxStepStart_window (n : Nat) (rest : Bool) (s : State) : (fxStepStart n rest s).window = s.window := by simp [fxStepStart]

@[simp] theorem stepEnd_window (n : Nat) (term : Option Nat) (short overrun : Bool) (s : State) :
    (stepEnd n term short overrun s).window = s.window := by
  simp only [stepEnd]
  split <;> simp [fxStepEnd]

@[simp] theorem settleCmds_window (n : Nat) (st : Status) (detail : Nat) (s : State) : (settleCmds n st detail s).window = s.window := by
  refine window_foldl _ _ _ fun s op => ?_
  split <;> simp

@[simp] theorem endRun_window (n : Nat) (why : EndReason) (arg : Int) (byHub : Bool) (s : State) :
    (endRun n why arg byHub s).window = s.window := by
  simp [endRun, fxRunEnd]

@[simp] theorem cancelQueued_window (n : Nat) (st : Status) (detail : Nat) (s : State) :
    (cancelQueued n st detail s).window = s.window := by
  simp only [cancelQueued]
  (repeat' split) <;> simp

@[simp] theorem cancelStart_window (n : Nat) (st : Status) (detail : Nat) (s : State) : (cancelStart n st detail s).window = s.window := by
  simp only [cancelStart]
  (repeat' split) <;> simp

@[simp] theorem latchFault_window (bit cause n : Nat) (s : State) : (latchFault bit cause n s).window = s.window := by simp [latchFault]
@[simp] theorem progFault_window (n cause word : Nat) (s : State) : (progFault n cause word s).window = s.window := by simp [progFault]
@[simp] theorem noPhase_window (n : Nat) (s : State) : (noPhase n s).window = s.window := by simp [noPhase]

@[simp] theorem stateReads_window (base n : Nat) (ks : List Nat) (s : State) : (stateReads base n ks s).window = s.window := by
  simp only [stateReads]
  split <;> simp

@[simp] theorem limitTest_window (n item need : Nat) (bad : Bool) (value : Int) (s : State) :
    (limitTest n item need bad value s).window = s.window := by
  simp [limitTest, limitTrip]

@[simp] theorem swapBank_window (n mark : Nat) (s : State) : (swapBank n mark s).window = s.window := by simp [swapBank]

@[simp] theorem channelShort_window (n j k : Nat) (avg share : Int) (s : State) : (channelShort n j k avg share s).window = s.window := by
  simp [channelShort]

@[simp] theorem tripOut_window (n j ev : Nat) (s : State) : (tripOut n j ev s).window = s.window := by
  simp only [tripOut]
  split <;> simp

/-! ### Developer -/

theorem fetchWord_window {n pc k : Nat} {s t : State} (h : fetchWord n pc s = .error (k, t)) : t.window = s.window := by
  simp only [fetchWord] at h
  split at h
  · cases h; rfl
  · split at h
    · split at h
      · cases h; simp
      · cases h
    · cases h; simp

theorem readTerms_window {n pc m k : Nat} {s t : State} (h : readTerms n pc m s = .error (k, t)) : t.window = s.window := by
  induction m generalizing pc with
  | zero => cases h
  | succ m ih =>
    simp only [readTerms] at h
    split at h
    · next hf => cases h; exact fetchWord_window hf
    · next hf => cases h; exact fetchWord_window hf
    · split at h
      · cases h; rfl
      · split at h
        · cases h; rfl
        · split at h
          · next hr => cases h; exact ih hr
          · cases h

@[simp] theorem actStep_window (n : Nat) (s : State) : (actStep n s).window = s.window := by simp [actStep]

theorem beginStep_error_window {n pc k : Nat} {w : BitVec 64} {s t : State} (h : beginStep n pc w s = .error (k, t)) :
    t.window = s.window := by
  simp only [beginStep] at h
  split at h
  · cases h; simp
  · split at h
    · cases h; simp
    · split at h
      · next hr => cases h; simpa using readTerms_window hr
      · cases h

theorem beginStep_window {n pc : Nat} {w : BitVec 64} {s t : State} (h : beginStep n pc w s = .ok t) : t.window = s.window := by
  simp only [beginStep] at h
  split at h
  · cases h
  · split at h
    · cases h
    · split at h
      · cases h
      · cases h; simp

theorem setv_window {n : Nat} {w : BitVec 64} {s t : State} (h : setv n w s = some t) : t.window = s.window := by
  simp only [setv] at h
  (repeat' split at h) <;> cases h <;> simp

theorem flowInstr_window {n pc : Nat} {w : BitVec 64} {s t : State} {f : Flow} (h : flowInstr n pc w s = (f, t)) : t.window = s.window := by
  simp only [flowInstr] at h
  split at h
  case h_10 =>
    split at h
    · next hv => cases h; exact setv_window hv
    · cases h; rfl
  all_goals (repeat' split at h) <;> cases h
  all_goals simp

@[simp] theorem execFlow_window (n fuel pc : Nat) (s : State) : (execFlow n fuel pc s).window = s.window := by
  induction fuel using Nat.strong_induction_on generalizing pc s with
  | _ fuel ih =>
    unfold execFlow
    split
    · next h => simp [fetchWord_window h]
    · dsimp only
      split
      · simp
      · split
        · split
          · next h => simp [beginStep_error_window h]
          · next h => exact beginStep_window h
        · split
          · simp
          · split
            · split
              · split
                · next h => simp [flowInstr_window h]
                · exact flowInstr_window rfl
              · simp
            · split
              · next h => rw [ih _ (Nat.lt_succ_self _), flowInstr_window h]
              · next h => simp [flowInstr_window h]
              · next h => exact flowInstr_window h
              · next h => simp [flowInstr_window h]

@[simp] theorem endStep_window (n k : Nat) (st : StepSt) (s : State) : (endStep n k st s).window = s.window := by
  unfold endStep
  split
  · rfl
  · dsimp only
    split <;> simp only [execFlow_window, fadeChannel_window, endRun_window, stepEnd_window]
    all_goals
      refine (window_foldl _ _ _ fun s i => ?_).trans (by simp only [window_ite, raise_window, ite_self])
      split <;> simp only [raise_window, State.setCh_window]

@[simp] theorem stepPeriod_window (n : Nat) (s : State) : (stepPeriod n s).window = s.window := by simp [stepPeriod]

@[simp] theorem developerTurn_window (n : Nat) (s : State) : (developerTurn n s).window = s.window := by
  unfold developerTurn
  dsimp only
  split
  · split
    on_goal 2 => rw [endStep_window]
    all_goals
      refine (window_foldl _ _ _ fun s i => ?_).trans (State.setCh_window ..)
      split <;> simp only [raise_window]
  · simp
  · rfl

@[simp] theorem beginRun_window (n : Nat) (a : StartArgs) (s : State) : (beginRun n a s).window = s.window := by
  simp only [beginRun]
  split <;> simp [fxRunStart]

/-! ### Power path -/

@[simp] theorem integrate_window (n : Nat) (s : State) : (integrate n s).window = s.window := by
  unfold integrate
  dsimp only
  generalize execOf _ 0x16 n = o
  cases o <;> simp only [window_ite, raise_window, State.setCh_window, complete_window, ite_self]

@[simp] theorem loopCommand_window (n : Nat) (s : State) : (loopCommand n s).window = s.window := by
  simp only [loopCommand]
  split <;> simp [setCommand]

@[simp] theorem setDuties_window (n : Nat) (s : State) : (setDuties n s).window = s.window := by simp [setDuties]
@[simp] theorem actFound_window (which : Nat → Bool) (n : Nat) (s : State) : (actFound which n s).window = s.window := by simp [actFound]

@[simp] theorem testPhases_window (n : Nat) (codes : List (List Int)) (s : State) : (testPhases n codes s).window = s.window := by
  simp [testPhases]

@[simp] theorem fadeStep_window (n : Nat) (s : State) : (fadeStep n s).window = s.window := by
  simp only [fadeStep]
  split <;> simp

@[simp] theorem commandsAndTurn_window (n : Nat) (s : State) : (commandsAndTurn n s).window = s.window := by
  simp only [commandsAndTurn]
  (repeat' split) <;> simp

@[simp] theorem stageVolts_window (n : Nat) (s : State) : (stageVolts n s).window = s.window := by simp [stageVolts]

@[simp] theorem fxCurrentStep_window (n : Nat) (was : Rat) (s : State) : (fxCurrentStep n was s).window = s.window := by
  simp only [fxCurrentStep]
  split <;> simp

@[simp] theorem ciStateReads_window (n : Nat) (s : State) : (ciStateReads n s).window = s.window := by simp [ciStateReads]
@[simp] theorem retryReturns_window (n : Nat) (s : State) : (retryReturns n s).window = s.window := by simp [retryReturns]
@[simp] theorem gangCross_window (n : Nat) (s : State) : (gangCross n s).window = s.window := by simp [gangCross]

@[simp] theorem pwmBoundary_window (n : Nat) (codes : List (List Int)) (s : State) : (pwmBoundary n codes s).window = s.window := by
  simp [pwmBoundary]

@[simp] theorem phRetry_window (n j : Nat) (s : State) : (phRetry n j s).window = s.window := by
  simp only [phRetry]
  (repeat' split) <;> simp

/-! ### Shutter -/

@[simp] theorem State.setShc_window (s : State) (n : Nat) (x : ShCh) : (s.setShc n x).window = s.window := by rfl
@[simp] theorem rangeEnds_window (s : State) : (rangeEnds s).window = s.window := by rfl
@[simp] theorem leaseTurn_window (n : Nat) (s : State) : (leaseTurn n s).window = s.window := by simp [leaseTurn]
@[simp] theorem ageTurn_window (n : Nat) (s : State) : (ageTurn n s).window = s.window := by simp [ageTurn]
@[simp] theorem rackGrant_window (s : State) : (rackGrant s).window = s.window := by simp [rackGrant]
@[simp] theorem lateGrant_window (s : State) : (lateGrant s).window = s.window := by simp [lateGrant]
@[simp] theorem decideRound_window (s : State) : (decideRound s).window = s.window := by simp [decideRound]

@[simp] theorem grantWord_window (n : Nat) (s : State) : (grantWord n s).window = s.window := by
  simp only [grantWord]
  split <;> simp

@[simp] theorem actBeat_window (s : State) : (actBeat s).window = s.window := by simp [actBeat]
@[simp] theorem shutterBeat_window (old s : State) : (shutterBeat old s).window = s.window := by simp [shutterBeat]

@[simp] theorem budgetDone_window (s : State) : (budgetDone s).window = s.window := by
  simp only [budgetDone]
  split <;> simp

/-! ### Jikanlink -/

@[simp] theorem State.setPort_window (s : State) (p : Nat) (x : Port) : (s.setPort p x).window = s.window := by rfl

@[simp] theorem txDirect_window (q : Nat) (c : Cell) (s : State) : (txDirect q c s).window = s.window := by
  simp only [txDirect]
  split <;> simp [sendCell]

@[simp] theorem txCell_window (p : Nat) (c : Cell) (s : State) : (txCell p c s).window = s.window := by simp [txCell]
@[simp] theorem forward_window (p : Nat) (c : Cell) (s : State) : (forward p c s).window = s.window := by simp [forward]
@[simp] theorem goodCell_window (p h : Nat) (pl : List Byte) (s : State) : (goodCell p h pl s).window = s.window := by rfl

@[simp] theorem cellTaken_window {act : State → State} (h : ∀ s, (act s).window = s.window) (ty p h' : Nat) (pl : List Byte) (s : State) :
    (cellTaken ty p h' pl act s).window = s.window := by
  simp [cellTaken, h]

@[simp] theorem sendGuard_window (n q : Nat) (s : State) : (sendGuard n q s).window = s.window := by
  simp only [sendGuard]
  split <;> simp

@[simp] theorem passGuard_window (p : Nat) (s : State) : (passGuard p s).window = s.window := by simp [passGuard]
@[simp] theorem queueNew_window (m : OutMsg) (s : State) : (queueNew m s).window = s.window := by rfl

@[simp] theorem userSent_window (r : Nat) (s : State) : (userSent r s).window = s.window := by
  simp only [userSent]
  split <;> simp

theorem takeOut_window {i ring : Nat} {s : State} {r : Cell × State} (h : takeOut i ring s = some r) : r.2.window = s.window := by
  simp only [takeOut] at h
  split at h
  · cases h
  · cases h
    dsimp only
    split
    · split <;> simp
    · rfl

theorem fillFrom_window {ring : Nat} {echo : Bool} {s : State} {r : Cell × State} (h : fillFrom ring echo s = some r) :
    r.2.window = s.window := by
  unfold fillFrom at h
  split at h
  · cases h
  · obtain ⟨i, -, hi⟩ := Option.bind_eq_some_iff.mp h
    exact takeOut_window hi

@[simp] theorem fillEmpty_window (ring : Nat) (c : Cell) (s : State) : (fillEmpty ring c s).2.window = s.window := by
  unfold fillEmpty
  split
  · next h => exact fillFrom_window h
  · split
    · cases h : fillFrom (1 - ring) false s with
      | none => rfl
      | some r => exact fillFrom_window h
    · rfl

@[simp] theorem flushIdle_window (s : State) : (flushIdle s).window = s.window := by
  unfold flushIdle
  split
  · rfl
  · refine window_foldl _ _ _ fun s _ => ?_
    dsimp only
    split
    · rfl
    · split
      · next h => simpa using takeOut_window h
      · rfl

@[simp] theorem sendMsg_window (ty dst times : Nat) (pl : List Byte) (s : State) : (sendMsg ty dst times pl s).window = s.window := by
  simp [sendMsg, queueMsg]

@[simp] theorem sendStop_window (cls : Nat) (s : State) : (sendStop cls s).2.window = s.window := by
  unfold sendStop
  split <;> simp

@[simp] theorem noteDelivered_window (h : Nat) (s : State) : (noteDelivered h s).window = s.window := by rfl
@[simp] theorem forwardMsg_window (p : Nat) (c : Cell) (s : State) : (forwardMsg p c s).window = s.window := by simp [forwardMsg]

@[simp] theorem userRx_window (src : Nat) (all : Bool) (pl : List Byte) (s : State) : (userRx src all pl s).window = s.window := by
  simp [userRx]

@[simp] theorem sendTone_window (p : Nat) (s : State) : (sendTone p s).window = s.window := by simp [sendTone]

@[simp] theorem passEmpty_window (p h : Nat) (room : Bool) (s : State) : (passEmpty p h room s).window = s.window := by
  simp only [passEmpty]
  (repeat' split) <;> simp

@[simp] theorem sendEcho_window (p : Nat) (pl : List Byte) (at_ : Option Nat) (s : State) : (sendEcho p pl at_ s).window = s.window := by
  simp only [sendEcho]
  split
  · split
    · next h => simpa using takeOut_window h
    · simp
  · simp

@[simp] theorem echoRequest_window (p : Nat) (s : State) : (echoRequest p s).window = s.window := by
  unfold echoRequest
  split
  · simp only [sendEcho_window, window_ite, State.setPort_window, ite_self]
    split
    · exact advanceClk_window ..
    · rfl
  · rfl

@[simp] theorem wrapIfAlone_window (p : Nat) (s : State) : (wrapIfAlone p s).window = s.window := by simp [wrapIfAlone]

@[simp] theorem portUpEvent_window (p : Nat) (s : State) : (portUpEvent p s).window = s.window := by
  simp only [portUpEvent]
  split <;> simp

@[simp] theorem portDown_window (p cause : Nat) (s : State) : (portDown p cause s).window = s.window := by simp [portDown]
@[simp] theorem portOff_window (p : Nat) (s : State) : (portOff p s).window = s.window := by simp [portOff]

@[simp] theorem readBytes_window (l : List (Option Byte)) (s : State) : (readBytes l s).2.window = s.window := by
  refine foldl_keep (fun a : List Byte × State => a.2.window) _ (fun a b => ?_) l ([], s)
  split <;> simp

@[simp] theorem noteWritten_window (p h : Nat) (s : State) : (noteWritten p h s).window = s.window := by rfl

/-! ### The ring of Jikanlink -/

@[simp] theorem loadTime_window (t : Nat) (s : State) : (loadTime t s).window = s.window := by simp [loadTime]
@[simp] theorem setSource_window (s : State) : (setSource s).window = s.window := by rfl
@[simp] theorem sendJoin_window (s : State) : (sendJoin s).window = s.window := by simp [sendJoin, shutterJoin]
@[simp] theorem leftRing_window (why : Nat) (dst : NodeState) (s : State) : (leftRing why dst s).window = s.window := by simp [leftRing]
@[simp] theorem sendLeave_window (reason : Nat) (s : State) : (sendLeave reason s).window = s.window := by simp [sendLeave]

@[simp] theorem betterMaster_window (s : State) (id : Nat) : (betterMaster s id).2.window = s.window := by
  unfold betterMaster
  split <;> simp

@[simp] theorem followSync_window (b t master joined admission : Nat) (wrapped : Bool) (s : State) :
    (followSync b t master joined admission wrapped s).window = s.window := by
  simp [followSync, followTime]

@[simp] theorem syncCell_window (p h : Nat) (pl : List Byte) (s : State) : (syncCell p h pl s).window = s.window := by
  refine cellTaken_window (fun s => ?_) ..
  simp

@[simp] theorem reportCell_window (p h : Nat) (pl : List Byte) (s : State) : (reportCell p h pl s).window = s.window := by
  refine cellTaken_window (fun s => ?_) ..
  simp

@[simp] theorem takeGrant_window (b : Nat) (g : Word) (s : State) : (takeGrant b g s).window = s.window := by simp [takeGrant]

@[simp] theorem grantCell_window (p h : Nat) (pl : List Byte) (s : State) : (grantCell p h pl s).window = s.window := by
  refine cellTaken_window (fun s => ?_) ..
  simp

@[simp] theorem bothRings_window (h : Nat) (pl : List Byte) (s : State) : (bothRings h pl s).window = s.window := by simp [bothRings]
@[simp] theorem masterSlots_window (s : State) : (masterSlots s).window = s.window := by simp [masterSlots]

@[simp] theorem collectionClose_window (s : State) : (collectionClose s).window = s.window := by
  simp only [collectionClose, window_ite, window_foldl, raise_window, masterSlots_window, bothRings_window, takeGrant_window,
    window_update, advanceTo_window, ite_self, implies_true]

@[simp] theorem decideJoins_window (s : State) : (decideJoins s).window = s.window := by
  simp only [decideJoins]
  split <;> simp

@[simp] theorem claimNow_window (cold : Bool) (s : State) : (claimNow cold s).window = s.window := by simp [claimNow]

@[simp] theorem syncMissCheck_window (s : State) : (syncMissCheck s).window = s.window := by
  simp only [syncMissCheck]
  (repeat' split) <;> simp

@[simp] theorem stateBeat_window (gone : Bool) (s : State) : (stateBeat gone s).window = s.window := by
  simp only [stateBeat]
  split <;> simp [resignRing, masterFrame]

@[simp] theorem nodeBeat_window (s : State) : (nodeBeat s).window = s.window := by
  simp only [nodeBeat]
  split <;> simp [becomeMaster, countBeats]

@[simp] theorem beatBoundary_window (s : State) : (beatBoundary s).window = s.window := by simp [beatBoundary]

/-! ### Archive -/

@[simp] theorem arPut_window (a : Nat) (l : List Byte) (s : State) : (arPut a l s).window = s.window := by rfl

@[simp] theorem zeroNext_window (s : State) : (zeroNext s).window = s.window := by
  simp only [zeroNext]
  split <;> simp

@[simp] theorem zeroAsk_window (first : Bool) (x : Nat) (s : State) : (zeroAsk first x s).window = s.window := by simp [zeroAsk]
@[simp] theorem toZeroing_window (x : Nat) (s : State) : (toZeroing x s).window = s.window := by simp [toZeroing]
@[simp] theorem arLine_window (line : Nat) (bytes : List Byte) (s : State) : (arLine line bytes s).window = s.window := by rfl

@[simp] theorem fillZero_window (x : Nat) (s : State) : (fillZero x s).window = s.window := by
  simp only [fillZero]
  split <;> simp

@[simp] theorem fillTake_window (x : Nat) (s : State) : (fillTake x s).window = s.window := by
  simp only [fillTake]
  split <;> simp

@[simp] theorem fillOpen_window (s : State) : (fillOpen s).window = s.window := by
  simp only [fillOpen]
  (repeat' split) <;> simp [fillBlock]

@[simp] theorem fillSeal_window (s : State) : (fillSeal s).window = s.window := by
  simp only [fillSeal]
  split <;> simp

@[simp] theorem fillCopy_window (sp : Nat) (r : Rec) (s : State) : (fillCopy sp r s).window = s.window := by
  simp only [fillCopy]
  (repeat' split) <;> simp

@[simp] theorem releaseExt_window (x : Nat) (s : State) : (releaseExt x s).window = s.window := by
  simp only [releaseExt]
  (repeat' split) <;> simp

@[simp] theorem heartbeatSample_window (s : State) : (heartbeatSample s).window = s.window := by
  simp only [heartbeatSample, window_foldl, window_ite, raise_window, State.setLease_window, releaseExt_window, advanceTo_window,
    window_update, ite_self, implies_true]

@[simp] theorem extentZeroed_window (s : State) : (extentZeroed s).window = s.window := by
  simp only [extentZeroed]
  split <;> simp

@[simp] theorem archiveTrainingDone_window (failed : Option Nat) (s : State) : (archiveTrainingDone failed s).window = s.window := by
  simp only [archiveTrainingDone]
  (repeat' split) <;> simp

@[simp] theorem poisonAdd_window (line : Nat) (s : State) : (poisonAdd line s).window = s.window := by simp [poisonAdd]
@[simp] theorem lineError_window (line : Nat) (s : State) : (lineError line s).window = s.window := by simp [lineError]
@[simp] theorem unleased_window (l : Nat) (write : Bool) (s : State) : (unleased l write s).window = s.window := by simp [unleased]
@[simp] theorem corrected_window (k : Nat) (s : State) : (corrected k s).window = s.window := by rfl

@[simp] theorem cxlMemRead_window (l a words : Nat) (ue : Bool) (s : State) : (cxlMemRead l a words ue s).window = s.window := by
  simp only [cxlMemRead]
  (repeat' split) <;> simp

@[simp] theorem cxlMemWrite_window (l a : Nat) (bytes : List Byte) (poison : Bool) (s : State) :
    (cxlMemWrite l a bytes poison s).window = s.window := by
  simp only [cxlMemWrite]
  (repeat' split) <;> simp

@[simp] theorem archiveCopyDone_window (r words : Nat) (ue : Option Nat) (s : State) :
    (archiveCopyDone r words ue s).window = s.window := by
  simp only [archiveCopyDone]
  (repeat' split) <;> simp

/-! ### Spools and strips -/

@[simp] theorem spDrop_window (n reason : Nat) (r : Rec) (s : State) : (spDrop n reason r s).window = s.window := by simp [spDrop]
@[simp] theorem levelFell_window (n : Nat) (s : State) : (levelFell n s).window = s.window := by simp [levelFell]
@[simp] theorem levels_window (s : State) : (levels s).window = s.window := by simp [levels, levelRose]

@[simp] theorem takeHead_window (n : Nat) (s : State) : (takeHead n s).window = s.window := by
  simp only [takeHead]
  split <;> simp

@[simp] theorem markHead_window (n strip k : Nat) (s : State) : (markHead n strip k s).window = s.window := by
  simp only [markHead]
  split <;> simp

@[simp] theorem stallEnds_window (n : Nat) (s : State) : (stallEnds n s).window = s.window := by
  simp only [stallEnds]
  split <;> simp

@[simp] theorem releaseDone_window (n : Nat) (s : State) : (releaseDone n s).window = s.window := by
  simp only [releaseDone]
  (repeat' split) <;> simp [endBinding]

@[simp] theorem settleSpool_window (n fuel : Nat) (s : State) : (settleSpool n fuel s).window = s.window := by
  induction fuel generalizing s with
  | zero => rfl
  | succ fuel ih =>
    simp only [settleSpool]
    (repeat' split) <;> simp [ih]

@[simp] theorem settleAll_window (s : State) : (settleAll s).window = s.window := by simp [settleAll, stallSync, stripLook]

@[simp] theorem forwardOne_window (n : Nat) (s : State) : (forwardOne n s).window = s.window := by
  simp only [forwardOne]
  (repeat' split) <;> simp

@[simp] theorem commitRec_window (r : Rec) (s : State) : (commitRec r s).window = s.window := by simp [commitRec, makeRoom]

@[simp] theorem State.setStaged_window (s : State) (prod h : Nat) (ws : List Word) : (s.setStaged prod h ws).window = s.window := by
  simp [State.setStaged]

@[simp] theorem granuleLost_window (ev prod h n : Nat) (ws : List Word) (s : State) : (granuleLost ev prod h n ws s).window = s.window := by
  simp [granuleLost]

@[simp] theorem commitCycle_window (prod : Nat) (s : State) : (commitCycle prod s).window = s.window := by
  simp only [commitCycle]
  split <;> simp

@[simp] theorem stageWord_window (prod h tag : Nat) (w : Word) (s : State) : (stageWord prod h tag w s).window = s.window := by
  simp only [stageWord]
  split <;> simp

@[simp] theorem snapshotIn_window (r : Rec) (s : State) : (snapshotIn r s).window = s.window := by
  simp only [snapshotIn]
  (repeat' split) <;> simp

@[simp] theorem recordCommit_window (prod spool : Nat) (words : List (Nat × Word)) (s : State) :
    (recordCommit prod spool words s).window = s.window := by
  simp only [recordCommit]
  (repeat' split) <;> simp

@[simp] theorem rollback_window (prod : Nat) (s : State) : (rollback prod s).window = s.window := by
  simp only [rollback]
  split <;> simp

@[simp] theorem stripItem_window (n : Nat) (s : State) : (stripItem n s).window = s.window := by simp [stripItem]

theorem granuleBad_window {n : Nat} {ue : Bool} {g : Granule} {s t : State} (h : granuleBad n ue g s = some t) : t.window = s.window := by
  unfold granuleBad at h
  split at h
  · rw [← Option.some.inj h]
    split <;> simp
  · cases h

@[simp] theorem cascadeForward_window (n : Nat) (ue : Bool) (s : State) : (cascadeForward n ue s).window = s.window := by
  unfold cascadeForward
  split
  · split
    · split
      · split
        · next h => exact granuleBad_window h
        · simp
      · rfl
    · rfl
  · rfl

@[simp] theorem slotWrite_window (n : Nat) (ue : Bool) (s : State) : (slotWrite n ue s).window = s.window := by
  unfold slotWrite
  split
  · rfl
  · split
    · next h => exact granuleBad_window h
    · split <;> simp

@[simp] theorem passMark_window (mark : Nat) (s : State) : (passMark mark s).window = s.window := by simp [passMark]

@[simp] theorem tailReadComplete_window (s : State) : (tailReadComplete s).window = s.window := by
  simp only [tailReadComplete]
  (repeat' split) <;> simp [ownerRead]

@[simp] theorem stallReread_window (n : Nat) (s : State) : (stallReread n s).window = s.window := by
  simp only [stallReread]
  split <;> simp

@[simp] theorem stripStall_window (n : Nat) (s : State) : (stripStall n s).window = s.window := by
  simp only [stripStall]
  split <;> simp

@[simp] theorem rewindTailRead_window (n : Nat) (s : State) : (rewindTailRead n s).window = s.window := by
  simp only [rewindTailRead]
  split <;> simp

@[simp] theorem rewindStrips_window (p : Nat → Bool) (s : State) : (rewindStrips p s).window = s.window := by simp [rewindStrips]

/-! ### Rings -/

@[simp] theorem fetchKick_window (r k : Nat) (s : State) : (fetchKick r k s).window = s.window := by
  induction k generalizing s with
  | zero => rfl
  | succ k ih => simp [fetchKick, ih]

@[simp] theorem voidFetches_window (r : Nat) (s : State) : (voidFetches r s).window = s.window := by simp [voidFetches]

@[simp] theorem tableKick_window (r : Nat) (s : State) : (tableKick r s).window = s.window := by
  simp only [tableKick]
  split <;> simp

@[simp] theorem startFetch_window (r : Nat) (s : State) : (startFetch r s).window = s.window := by simp [startFetch]
@[simp] theorem kickDma_window (s : State) : (kickDma s).window = s.window := by simp [kickDma]

@[simp] theorem ringStop_window (r : Nat) (s : State) : (ringStop r s).window = s.window := by
  simp only [ringStop]
  (repeat' split) <;> simp

@[simp] theorem ringFault_window (r : Nat) (s : State) : (ringFault r s).window = s.window := by simp [ringFault]
@[simp] theorem ringsDown_window (s : State) : (ringsDown s).window = s.window := by simp [ringsDown]

@[simp] theorem completionWrite_window (r : Nat) (s : State) : (completionWrite r s).window = s.window := by
  simp only [completionWrite]
  split <;> simp [ringItem]

@[simp] theorem completionWaitExpiry_window (r : Nat) (s : State) : (completionWaitExpiry r s).window = s.window := by
  simp only [completionWaitExpiry]
  split <;> simp

@[simp] theorem takeDescs_window (r n : Nat) (bytes : List Byte) (c : Nat) (s : State) : (takeDescs r n bytes c s).window = s.window := by
  induction n generalizing bytes c s with
  | zero => rfl
  | succ n ih => simp [takeDescs, ih]

@[simp] theorem descriptorArrival_window (s : State) : (descriptorArrival s).window = s.window := by
  unfold descriptorArrival
  split
  · rfl
  · dsimp only
    split
    · split <;> simp
    · rfl

@[simp] theorem badDescriptor_window (r : Nat) (s : State) : (badDescriptor r s).window = s.window := by
  simp only [badDescriptor]
  (repeat' split) <;> simp

@[simp] theorem notePolicy_window (off : Nat) (old : Word) (s : State) : (notePolicy off old s).window = s.window := by
  simp only [notePolicy]
  split <;> simp

@[simp] theorem applyPolicy_window (n : Nat) (s : State) : (applyPolicy n s).window = s.window := by
  simp only [applyPolicy]
  (repeat' split) <;> simp

@[simp] theorem declareLoss_window (s : State) : (declareLoss s).window = s.window := by simp [declareLoss]

@[simp] theorem hostLoss_window (s : State) : (hostLoss s).window = s.window := by
  simp only [hostLoss]
  split <;> simp

@[simp] theorem lossIfDue_window (s : State) : (lossIfDue s).window = s.window := by
  simp only [lossIfDue]
  split <;> simp

@[simp] theorem doorbellLineArrival_window (s : State) : (doorbellLineArrival s).window = s.window := by
  simp only [doorbellLineArrival]
  split <;> simp [takeCounts, heartbeatSeen]

/-! ### Host link -/

@[simp] theorem aerReport_window (f e : Nat) (advisory : Bool) (s : State) : (aerReport f e advisory s).window = s.window := by rfl

@[simp] theorem issuerError_window (i : Issuer) (kind : Nat) (s : State) : (issuerError i kind s).window = s.window := by
  simp only [issuerError]
  (repeat' split) <;> simp [stripError, cplLost]

@[simp] theorem badTlp_window (kind fn : Nat) (s : State) : (badTlp kind fn s).window = s.window := by
  simp only [badTlp]
  split <;> simp

@[simp] theorem dmaError_window (kind fn addr : Nat) (i : Issuer) (s : State) : (dmaError kind fn addr i s).window = s.window := by
  simp only [dmaError]
  split <;> simp

@[simp] theorem failReq_window (kind : Nat) (q : Req) (s : State) : (failReq kind q s).window = s.window := by simp [failReq]

theorem takeReq_window {tag : Nat} {s : State} {r : Req × State} (h : takeReq tag s = some r) : r.2.window = s.window := by
  obtain ⟨q, -, rfl⟩ := Option.map_eq_some_iff.mp h
  simp

@[simp] theorem dmaCompletion_window (tag kind : Nat) (data : List Byte) (s : State) :
    (dmaCompletion tag kind data s).window = s.window := by
  unfold dmaCompletion
  split
  · rfl
  · next h => simp [takeReq_window h]

@[simp] theorem completionTimeout_window (tag : Nat) (s : State) : (completionTimeout tag s).window = s.window := by
  unfold completionTimeout
  split
  · rfl
  · next h => simp [takeReq_window h]

@[simp] theorem ecrcError_window (f : Nat) (tag : Option Nat) (s : State) : (ecrcError f tag s).window = s.window := by
  unfold ecrcError
  split
  · rfl
  · split
    · simp
    · split
      · simp
      · next h => simp [takeReq_window h]

@[simp] theorem linkError_window (kind : Nat) (s : State) : (linkError kind s).window = s.window := by
  simp only [linkError]
  split <;> simp

@[simp] theorem flushVector_window (f v : Nat) (s : State) : (flushVector f v s).window = s.window := by simp [flushVector]
@[simp] theorem fnResume_window (f : Nat) (s : State) : (fnResume f s).window = s.window := by simp [fnResume, flushPending]

@[simp] theorem cfgWrite_window (f : Nat) (field : CfgField) (value : Nat) (s : State) : (cfgWrite f field value s).window = s.window := by
  simp only [cfgWrite]
  split <;> simp

@[simp] theorem fnReady_window (f : Nat) (s : State) : (fnReady f s).2.window = s.window := by
  unfold fnReady
  dsimp only
  (repeat' split) <;> simp

@[simp] theorem configurationRequest_window (f : Nat) (field : CfgField) (write : Option Nat) (s : State) :
    (configurationRequest f field write s).window = s.window := by
  simp only [configurationRequest]
  (repeat' split) <;> simp

@[simp] theorem vectorIntervalEnd_window (v : Nat) (s : State) : (vectorIntervalEnd v s).window = s.window := by
  simp only [vectorIntervalEnd]
  split <;> simp

@[simp] theorem barUse_window {k : State → State} (h : ∀ s, (k s).window = s.window) (f : Nat) (isRead : Bool) (s : State) :
    (barUse f isRead k s).window = s.window := by
  simp [barUse, h]

@[simp] theorem itemBack_window (a : Nat) (i : Issuer) (s : State) : (itemBack a i s).window = s.window := by
  simp only [itemBack]
  split <;> simp

@[simp] theorem discardWrites_window (p : Nat → Bool) (n kind : Nat) (s : State) : (discardWrites p n kind s).window = s.window := by
  simp [discardWrites]

@[simp] theorem copyStops_window (k kind : Nat) (s : State) : (copyStops k kind s).window = s.window := by
  simp only [copyStops]
  split <;> simp

@[simp] theorem linkDown_window (writes : Nat) (copied : Option Nat) (s : State) : (linkDown writes copied s).window = s.window := by
  simp only [linkDown]
  (repeat' split) <;> simp

@[simp] theorem requesterReset_window (f : Nat) (s : State) : (requesterReset f s).window = s.window := by simp [requesterReset]
@[simp] theorem trainLink_window (s : State) : (trainLink s).window = s.window := by simp [trainLink]

@[simp] theorem functionLevelReset_window (f writes : Nat) (copied : Option Nat) (s : State) :
    (functionLevelReset f writes copied s).window = s.window := by
  simp only [functionLevelReset]
  (repeat' split) <;> simp [cfgReset]

@[simp] theorem ptmDialogStart_window (s : State) : (ptmDialogStart s).window = s.window := by
  unfold ptmDialogStart
  split
  · dsimp only
    split <;> simp
  · rfl

@[simp] theorem ptmCapture_window (t41 t2 prop : Nat) (s : State) : (ptmCapture t41 t2 prop s).window = s.window := by
  simp only [ptmCapture]
  split <;> simp

@[simp] theorem ptmMiss_window (s : State) : (ptmMiss s).window = s.window := by
  simp only [ptmMiss]
  split <;> simp

@[simp] theorem mailbox_window (l code : Nat) (payload : List Nat) (s : State) : (mailbox l code payload s).window = s.window := by
  simp [mailbox]

/-! ### Measurement -/

@[simp] theorem leaveLadder_window (hold : Nat) (n : Nat) (s : State) : (leaveLadder hold n s).window = s.window := by simp [leaveLadder]

@[simp] theorem calAbandon_window (n : Nat) (all : Bool) (s : State) : (calAbandon n all s).window = s.window := by
  unfold calAbandon
  rw [window_foldl]
  · simp
  · intro s k
    split <;> simp

@[simp] theorem calState_window (n : Nat) (s : State) : (calState n s).window = s.window := by
  simp only [calState]
  split <;> simp

@[simp] theorem calDue_window (n : Nat) (s : State) : (calDue n s).window = s.window := by
  simp only [calDue]
  split <;> simp

@[simp] theorem calForced_window (n : Nat) (s : State) : (calForced n s).window = s.window := by
  simp only [calForced]
  split <;> simp

@[simp] theorem ladderGrant_window (s : State) : (ladderGrant s).window = s.window := by
  simp only [ladderGrant]
  split <;> simp

@[simp] theorem judgeCal_window (k : Nat) (x : CalIn) (s : State) : (judgeCal k x s).2.window = s.window := by
  unfold judgeCal
  dsimp only
  (repeat' split) <;> simp

@[simp] theorem endCal_window (k : Nat) (pass : Bool) (x : CalIn) (s : State) : (endCal k pass x s).window = s.window := by simp [endCal]

@[simp] theorem calWindowEnd_window (n : Nat) (x y : CalIn) (s : State) : (calWindowEnd n x y s).window = s.window := by
  simp only [calWindowEnd]
  (repeat' split) <;> simp

@[simp] theorem ownSample_window (s : State) (k t : Nat) (l : List DecVal) : (ownSample s k t l).2.window = s.window := by
  simp [ownSample]

@[simp] theorem pushNegative_window (n : Nat) (p : Sample) (flags rate : Nat) (snap : Bool) (s : State) :
    (pushNegative n p flags rate snap s).window = s.window := by
  rfl

@[simp] theorem rateStep_window (n : Nat) (p : Sample) (s : State) : (rateStep n p s).window = s.window := by simp [rateStep]

@[simp] theorem pathCheck_window (n : Nat) (gap : Bool) (v fast : Int) (s : State) : (pathCheck n gap v fast s).window = s.window := by
  simp [pathCheck]

@[simp] theorem gangCheck_window (n : Nat) (gap : Bool) (v v2 : Int) (s : State) : (gangCheck n gap v v2 s).window = s.window := by
  simp [gangCheck]

@[simp] theorem toCi_window (n : Nat) (p : Sample) (s : State) : (toCi n p s).window = s.window := by simp [toCi]
@[simp] theorem toFixer_window (n : Nat) (p : Sample) (s : State) : (toFixer n p s).window = s.window := by simp [toFixer]
@[simp] theorem toPe_window (d : Nat) (i : PeInput) (s : State) : (toPe d i s).window = s.window := by simp [toPe]
@[simp] theorem takeValues_window (k : Nat) (l : List DecVal) (s : State) : (takeValues k l s).window = s.window := by rfl
@[simp] theorem windowOver_window (k t : Nat) (s : State) : (windowOver k t s).window = s.window := by rfl

@[simp] theorem sampleWindowEnd_window (n : Nat) (w w2 : List DecVal) (delay : Nat) (s : State) :
    (sampleWindowEnd n w w2 delay s).window = s.window := by
  simp only [sampleWindowEnd, apply_ite Prod.snd, window_ite, raise_window, State.setMi_window, ite_self, ownSample_window,
    pathCheck_window, gangCheck_window, toCi_window, toFixer_window, toPe_window, rateStep_window, takeValues_window,
    stateReads_window, advanceTo_window, pushNegative_window, windowOver_window]
  generalize execOf _ 0x17 n = o
  cases o <;> simp only [window_ite, raise_window, State.setMi_window, ite_self, ownSample_window, pathCheck_window,
    gangCheck_window, toCi_window, toFixer_window, toPe_window, rateStep_window, takeValues_window, stateReads_window,
    advanceTo_window, setStage_window, windowOver_window]

/-! ### Print engine and fixer -/

@[simp] theorem State.setPeCh_window (s : State) (n : Nat) (x : PeCh) : (s.setPeCh n x).window = s.window := by rfl

@[simp] theorem printInputArrival_window (s : State) : (printInputArrival s).window = s.window := by
  simp only [printInputArrival]
  split <;> simp

@[simp] theorem fuseTemp_window (n tol : Nat) (l : List Cand) (s : State) : (fuseTemp n tol l s).1.window = s.window := by
  simp [fuseTemp]

@[simp] theorem formPrint_window (e : PeEpoch) (g : PeLedger) (l : List PeInput) (s : State) :
    (formPrint e g l s).2.window = s.window := by
  simp only [formPrint, window_ite, raise_window, State.setPeCh_window, fuseTemp_window, ite_self]

@[simp] theorem commitGrade_window (n : Nat) (g : Grade) (ref : Option Nat) (s : State) : (commitGrade n g ref s).window = s.window := by
  simp [commitGrade]

@[simp] theorem regrade_window (n : Nat) (s : State) : (regrade n s).window = s.window := by
  simp only [regrade]
  (repeat' split) <;> simp

@[simp] theorem judgeOcv_window (e : PeEpoch) (s : State) : (judgeOcv e s).window = s.window := by
  simp only [judgeOcv]
  (repeat' split) <;> simp

@[simp] theorem printEmit_window (s : State) : (printEmit s).window = s.window := by
  simp only [printEmit]
  split <;> simp [gradeRuns, emitOne, quietEpoch]

/-! ### Encoders and the sensor port -/

@[simp] theorem State.setEnc_window (s : State) (n : Nat) (e : Encoder) : (s.setEnc n e).window = s.window := by rfl
@[simp] theorem State.setSn_window (s : State) (x : SensorPort) : (s.setSn x).window = s.window := by rfl

@[simp] theorem capEvent_window (n k : Nat) (s : State) : (capEvent n k s).window = s.window := by
  simp only [capEvent]
  (repeat' split) <;> simp [capEnd]

@[simp] theorem setCount_window (n : Nat) (v : Int) (s : State) : (setCount n v s).window = s.window := by simp [setCount]
@[simp] theorem nextClock_window (s : State) : (nextClock s).window = s.window := by rfl
@[simp] theorem takeLatch_window (n : Nat) (s : State) : (takeLatch n s).window = s.window := by simp [takeLatch]

@[simp] theorem serialFrame_window (n : Nat) (f : FrameIn) (s : State) : (serialFrame n f s).window = s.window := by
  simp only [serialFrame]
  (repeat' split) <;> simp

@[simp] theorem snStart_window (s : State) : (snStart s).window = s.window := by
  simp only [snStart]
  split <;> simp

@[simp] theorem sensorPollDue_window (s : State) : (sensorPollDue s).window = s.window := by
  simp only [sensorPollDue]
  (repeat' split) <;> simp

@[simp] theorem sensorTransferDone_window (rx : List Byte) (s : State) : (sensorTransferDone rx s).window = s.window := by
  simp only [sensorTransferDone]
  split <;> simp

/-! ### Fixture buses -/

@[simp] theorem State.setCan_window (s : State) (b : Nat) (x : CanBus) : (s.setCan b x).window = s.window := by rfl

@[simp] theorem canAttempt_window (b : Nat) (s : State) : (canAttempt b s).window = s.window := by
  simp only [canAttempt]
  split <;> simp

@[simp] theorem canAbandon_window (b detail : Nat) (s : State) : (canAbandon b detail s).window = s.window := by
  simp only [canAbandon]
  (repeat' split) <;> simp

@[simp] theorem canAcked_window (b tec rec_ tdc : Nat) (s : State) : (canAcked b tec rec_ tdc s).window = s.window := by
  simp only [canAcked]
  (repeat' split) <;> simp

@[simp] theorem canTimeout_window (b : Nat) (s : State) : (canTimeout b s).window = s.window := by
  simp only [canTimeout]
  split <;> simp

@[simp] theorem canRx_window (b : Nat) (f : CanFrame) (tec rec_ : Nat) (s : State) : (canRx b f tec rec_ s).window = s.window := by
  simp only [canRx]
  (repeat' split) <;> simp [canRecord, canToPe]

@[simp] theorem canErrors_window (b tec rec_ : Nat) (s : State) : (canErrors b tec rec_ s).window = s.window := by
  simp only [canErrors]
  (repeat' split) <;> simp

@[simp] theorem canAsleep_window (b : Nat) (s : State) : (canAsleep b s).window = s.window := by simp [canAsleep]
@[simp] theorem canSleep_window (b : Nat) (s : State) : (canSleep b s).window = s.window := by simp [canSleep]
@[simp] theorem wakeRaise_window (b : Nat) (s : State) : (wakeRaise b s).window = s.window := by simp [wakeRaise]

@[simp] theorem canWake_window (b cause filter : Nat) (f : Option CanFrame) (s : State) :
    (canWake b cause filter f s).window = s.window := by
  simp [canWake]

@[simp] theorem canUnsleep_window (b : Nat) (s : State) : (canUnsleep b s).window = s.window := by simp [canUnsleep]

@[simp] theorem phaseCounts_window (fog ns : Nat) (s : State) : (phaseCounts fog ns s).2.window = s.window := by
  unfold phaseCounts
  (repeat' split) <;> simp

@[simp] theorem scanPhase_window (fog : Nat) (a : PatternScan × State) (ph : Bool × Nat) : (scanPhase fog a ph).2.window = a.2.window := by
  unfold scanPhase
  dsimp only
  (repeat' split) <;> simp

theorem scanPhases_window (fog : Nat) (l : List (Bool × Nat)) (a : PatternScan × State) :
    (l.foldl (scanPhase fog) a).2.window = a.2.window :=
  foldl_keep (fun a : PatternScan × State => a.2.window) _ (scanPhase_window fog) l a

@[simp] theorem wakePattern_window (b : Nat) (phases : List (Bool × Nat)) (s : State) : (wakePattern b phases s).window = s.window := by
  simp [wakePattern, scanPhases_window]

@[simp] theorem wakeFrame_window (b : Nat) (f : CanFrame) (kind : Nat) (s : State) : (wakeFrame b f kind s).window = s.window := by
  simp only [wakeFrame]
  (repeat' split) <;> simp

/-! ### Wand -/

@[simp] theorem State.setField_window (s : State) (f : FieldDie) : (s.setField f).window = s.window := by rfl
@[simp] theorem State.setValve_window (s : State) (n : Nat) (v : Valve) : (s.setValve n v).window = s.window := by rfl
@[simp] theorem legSettle_window (n : Nat) (s : State) : (legSettle n s).window = s.window := by simp [legSettle]
@[simp] theorem legSettleAll_window (s : State) : (legSettleAll s).window = s.window := by simp [legSettleAll]

@[simp] theorem pairSettle_window (n : Nat) (s : State) : (pairSettle n s).window = s.window := by
  simp only [pairSettle]
  split <;> simp

@[simp] theorem finishRun_window (n : Nat) (s : State) : (finishRun n s).window = s.window := by simp [finishRun]

@[simp] theorem stopRun_window (n cause code : Nat) (fast : Bool) (s : State) : (stopRun n cause code fast s).window = s.window := by
  simp [stopRun]

@[simp] theorem stopAllRuns_window (cause : Nat) (s : State) : (stopAllRuns cause s).window = s.window := by simp [stopAllRuns]

@[simp] theorem valveConfig_window (n : Nat) (w : Word) (s : State) : (valveConfig n w s).window = s.window := by
  simp [valveConfig, decayFast]

@[simp] theorem wandRunBit_window (n : Nat) (b : Bool) (s : State) : (wandRunBit n b s).window = s.window := by simp [wandRunBit, wandStart]

@[simp] theorem wandStep_window {k : Valve → Word → State → State} (h : ∀ v w s, (k v w s).window = s.window) (n : Nat)
    (p : Nat → Word → Bool) (s : State) : (wandStep n p k s).window = s.window := by
  unfold wandStep
  split
  · split
    · rfl
    · simp [h]
  · rfl

@[simp] theorem wandWord_window {k : Valve → Word → State → State} (h : ∀ v w s, (k v w s).window = s.window) (n op : Nat) (s : State) :
    (wandWord n op k s).window = s.window := wandStep_window h ..

@[simp] theorem wandNext_window (n pc dur : Nat) (v : Valve) (s : State) : (wandNext n pc dur v s).window = s.window := by rfl

@[simp] theorem meanSeen_window (n : Nat) (mean : Int) (s : State) : (meanSeen n mean s).window = s.window := by
  simp only [meanSeen]
  (repeat' split) <;> simp

@[simp] theorem inputSeen_window (i : Nat) (level : Bool) (s : State) : (inputSeen i level s).window = s.window := by
  refine window_foldl _ _ _ fun s n => ?_
  dsimp only
  (repeat' split) <;> simp

@[simp] theorem diagOn_window (n : Nat) (s : State) : (diagOn n s).window = s.window := by simp [diagOn]

@[simp] theorem regulationPeriod_window (n : Nat) (mean : Int) (duty : Nat) (s : State) :
    (regulationPeriod n mean duty s).window = s.window := by
  rcases Option.eq_none_or_eq_some (s.valve n).regAt with h | ⟨t, h⟩
  · rcases Option.eq_none_or_eq_some (s.valve n).heldAt with held | ⟨u, held⟩ <;>
      simp only [regulationPeriod, h, held, window_ite, State.setValve_window, meanSeen_window, diagOn_window, raise_window, ite_self]
  · rcases Option.eq_none_or_eq_some ((advanceClk (t + regPeriod (s.valve n).cfg) s).valve n).heldAt with held | ⟨u, held⟩ <;>
      simp only [regulationPeriod, h, held, window_ite, State.setValve_window, meanSeen_window, diagOn_window, raise_window,
        advanceClk_window, ite_self]

@[simp] theorem peakCapped_window (n : Nat) (s : State) : (peakCapped n s).window = s.window := by
  simp only [peakCapped]
  split <;> simp

@[simp] theorem drvTrip_window (n leg ma since lasts : Nat) (s : State) : (drvTrip n leg ma since lasts s).window = s.window := by
  simp only [drvTrip]
  (repeat' split) <;> simp [legTrip]

/-! ### Easel -/

@[simp] theorem State.setSw_window (s : State) (n : Nat) (x : Switch) : (s.setSw n x).window = s.window := by rfl
@[simp] theorem swSettle_window (n : Nat) (s : State) : (swSettle n s).window = s.window := by simp [swSettle, swOff]
@[simp] theorem swSettleAll_window (s : State) : (swSettleAll s).window = s.window := by simp [swSettleAll]
@[simp] theorem fieldSafe_window (cause : Nat) (s : State) : (fieldSafe cause s).window = s.window := by simp [fieldSafe]
@[simp] theorem swEvent_window (s : State) : (swEvent s).window = s.window := by rfl

@[simp] theorem sendUplink_window (t : Nat) (x : FieldIn) (s : State) : (sendUplink t x s).window = s.window := by
  simp [sendUplink, heldCarried]

@[simp] theorem refilter_window (s : State) : (refilter s).window = s.window := by rfl
@[simp] theorem rejudge_window (s : State) : (rejudge s).window = s.window := by simp [rejudge]

@[simp] theorem applySlot_window (p : Option Nat × State) (slot : Nat × Word) : (applySlot p slot).2.window = p.2.window := by
  simp only [applySlot, apply_ite Prod.snd, window_ite, State.setField_window, rejudge_window, refilter_window, raise_window,
    State.setValve_window, valveConfig_window, ite_self]
  cases p.1 <;> simp

theorem applySlots_window (l : List (Nat × Word)) (p : Option Nat × State) : (l.foldl applySlot p).2.window = p.2.window :=
  foldl_keep (fun p : Option Nat × State => p.2.window) _ applySlot_window l p

@[simp] theorem applyBatch_window (slots : List (Nat × Word)) (sw vd : Nat) (outputs : Bool) (s : State) :
    (applyBatch slots sw vd outputs s).window = s.window := by
  simp [applyBatch, applySlots_window]

@[simp] theorem ezComplete_window (p : Exec → Bool) (st : Status) (detail : Nat) (s : State) :
    (ezComplete p st detail s).window = s.window := by
  refine window_foldl _ _ _ fun s r => ?_
  split
  · split
    · split <;> simp
    · rfl
  · rfl

@[simp] theorem ezFail_window (s : State) : (ezFail s).window = s.window := by simp [ezFail]

@[simp] theorem bridgeSafe_window (cause : Nat) (s : State) : (bridgeSafe cause s).window = s.window := by
  simp only [bridgeSafe]
  split <;> simp

@[simp] theorem enterNotReady_window (s : State) : (enterNotReady s).window = s.window := by rfl

@[simp] theorem formBatch_window (s : State) : (formBatch s).window = s.window := by
  unfold formBatch
  refine (window_foldl _ _ _ fun s r => ?_).trans ?_
  · dsimp only
    split <;> simp
  · simp

@[simp] theorem sendDown_window (s : State) : (sendDown s).window = s.window := by
  simp only [sendDown]
  (repeat' split) <;> simp [releaseOut]

@[simp] theorem batchResend_window (s : State) : (batchResend s).window = s.window := by
  simp only [batchResend]
  split <;> simp

@[simp] theorem downlinkFrame_window (line : Option Nat) (x : FieldIn) (s : State) : (downlinkFrame line x s).window = s.window := by
  simp only [downlinkFrame]
  (repeat' split) <;> simp [heldTold]

@[simp] theorem helloUplink_window (x : FieldIn) (s : State) : (helloUplink x s).window = s.window := by
  simp only [helloUplink]
  (repeat' split) <;> simp

@[simp] theorem inChange_window (u : UpFrame) (s : State) : (inChange u s).window = s.window := by
  simp only [inChange]
  split <;> simp

@[simp] theorem takeAck_window (ack : Nat) (s : State) : (takeAck ack s).window = s.window := by
  simp only [takeAck]
  split <;> simp

@[simp] theorem goodUplink_window (u : UpFrame) (s : State) : (goodUplink u s).window = s.window := by
  simp only [goodUplink]
  split <;> simp [heldHeard, releaseActed, runReport]

@[simp] theorem uplinkFrame_window (line : Option Nat) (s : State) : (uplinkFrame line s).window = s.window := by
  simp only [uplinkFrame]
  (repeat' split) <;> simp

@[simp] theorem barrierLoss_window (reported : Bool) (s : State) : (barrierLoss reported s).window = s.window := by simp [barrierLoss]
@[simp] theorem setLevel_window (n : Nat) (b : Bool) (s : State) : (setLevel n b s).window = s.window := by simp [setLevel]
@[simp] theorem acceptLevel_window (n : Nat) (s : State) : (acceptLevel n s).window = s.window := by simp [acceptLevel]

@[simp] theorem supplyOnset_window (k cls : Nat) (v : Option Int) (s : State) : (supplyOnset k cls v s).window = s.window := by
  simp [supplyOnset]

@[simp] theorem swLatch_window (n : Nat) (s : State) : (swLatch n s).window = s.window := by simp [swLatch]

@[simp] theorem clampEnd_window (n : Nat) (s : State) : (clampEnd n s).window = s.window := by
  simp only [clampEnd]
  (repeat' split) <;> simp

@[simp] theorem valveQueue_window (r : Nat) (slots : List (Nat × Word)) (run : Option (Nat × Bool)) (s : State) :
    (valveQueue r slots run s).window = s.window := by
  simp [valveQueue]

/-! ### Domains -/

@[simp] theorem enterStop_window (cls : Nat) (src : StopSource) (x : Nat) (unsent : Bool) (s : State) :
    (enterStop cls src x unsent s).window = s.window := by
  simp [enterStop, stopChannel]

@[simp] theorem scrubDown_window (s : State) : (scrubDown s).window = s.window := by rfl

@[simp] theorem domLeaves_window (d : Nat) (fenced : Bool) (s : State) : (domLeaves d fenced s).window = s.window := by
  simp [domLeaves, releaseGrant, miDown, peDown, fxDown, canDown, easelDown]

@[simp] theorem endTransition_window (d : Nat) (st : DomState) (s : State) : (endTransition d st s).window = s.window := by rfl

@[simp] theorem followTarget_window (d : Nat) (s : State) : (followTarget d s).window = s.window := by
  simp only [followTarget]
  split <;> simp [startUp, startDown]

@[simp] theorem isolate_window (d words : Nat) (s : State) : (isolate d words s).window = s.window := by rfl
@[simp] theorem setTarget_window (d : Nat) (on : Bool) (s : State) : (setTarget d on s).window = s.window := by simp [setTarget]
@[simp] theorem voidTable_window (r : Nat) (s : State) : (voidTable r s).window = s.window := by simp [voidTable]

@[simp] theorem fenceCommands_window (n : Nat) (s : State) : (fenceCommands n s).window = s.window := by
  refine window_foldl _ _ _ fun s r => ?_
  split
  · split <;> simp
  · rfl

@[simp] theorem fence_window (d cause stopCause words : Nat) (s : State) : (fence d cause stopCause words s).window = s.window := by
  simp only [fence]
  (repeat' split) <;> simp [fenceChannel]

@[simp] theorem domainDone_window (op d result : Nat) (s : State) : (domainDone op d result s).window = s.window := by
  simp only [domainDone]
  (repeat' split) <;> simp [channelReadmitted]

@[simp] theorem readmitFails_window (d detail : Nat) (s : State) : (readmitFails d detail s).window = s.window := by
  simp only [readmitFails]
  split <;> simp

@[simp] theorem hubReadmit_window (bits : Word) (s : State) : (hubReadmit bits s).window = s.window := by simp [hubReadmit]

@[simp] theorem upPhaseEnd_window (d : Nat) (s : State) : (upPhaseEnd d s).window = s.window := by
  simp only [upPhaseEnd]
  (repeat' split) <;> simp [fieldDomUp]

/-! ### On-chip memories -/

@[simp] theorem passBegin_window (s : State) : (passBegin s).window = s.window := by rfl

/-- What a pass that falls due does; apart from `scrubPassStart`, so that the kernel need not compare the clock's literals. -/
theorem passDue_window (s : State) :
    (let s := { s with mm := { s.mm with passAt := s.tk.now } }
      if s.mm.scrubbing then { s with mm := { s.mm with passDue := true } } else passBegin s).window = s.window := by
  dsimp only
  split <;> simp

@[simp] theorem scrubPassStart_window (s : State) : (scrubPassStart s).window = s.window := by
  unfold scrubPassStart
  split
  · exact (passDue_window _).trans (advanceTo_window ..)
  · rfl

@[simp] theorem scrubStep_window (s : State) : (scrubStep s).window = s.window := by
  simp only [scrubStep]
  (repeat' split) <;> simp

@[simp] theorem scrubAccess_window (kind : Nat) (s : State) : (scrubAccess kind s).window = s.window := by
  simp only [scrubAccess]
  (repeat' split) <;> simp [scrubTime]

@[simp] theorem clearUnexposed_window (a : Nat) (s : State) : (clearUnexposed a s).window = s.window := by
  simp only [clearUnexposed]
  split <;> simp

@[simp] theorem clearUncorrectable_window (a : Nat) (s : State) : (clearUncorrectable a s).window = s.window := by
  simp only [clearUncorrectable]
  split <;> simp

@[simp] theorem latchClear_window (w : Word) (s : State) : (latchClear w s).window = s.window := by simp [latchClear]

/-! ### Stop bath -/

@[simp] theorem pinStop_window (s : State) : (pinStop s).window = s.window := by
  simp only [pinStop]
  split <;> simp

@[simp] theorem stopCmd_window (r : Nat) (d : List Byte) (s : State) : (stopCmd r d s).window = s.window := by
  refine checked_window (fun s => ?_) ..
  dsimp only
  split <;> simp

@[simp] theorem testGap_window (n : Nat) (s : State) : (testGap n s).window = s.window := by simp [testGap]

@[simp] theorem selftest_window (r : Nat) (d : List Byte) (s : State) : (selftest r d s).window = s.window := by
  refine checked_window (fun s => ?_) ..
  split <;> simp

@[simp] theorem selftestFinished_window (r mask : Nat) (failing : List Nat) (s : State) :
    (selftestFinished r mask failing s).window = s.window := by
  simp only [selftestFinished]
  split <;> simp [march]

/-! ### Timekeeper -/

@[simp] theorem noteWas_window (b : Nat) (old s : State) : (noteWas b old s).window = s.window := by simp [noteWas]

@[simp] theorem islandTime_window (d : Nat) (rate : Int) (s : State) : (islandTime d rate s).window = s.window := by
  simp only [islandTime]
  split <;> simp [islandEpoch]

@[simp] theorem tsyncGivesUp_window (s : State) : (tsyncGivesUp s).window = s.window := by simp [tsyncGivesUp]

@[simp] theorem timeRestored_window (t : Nat) (s : State) : (timeRestored t s).window = s.window := by
  simp only [timeRestored]
  split <;> simp

/-! ### Presence -/

@[simp] theorem tickTo_window (t : Nat) (s : State) : (tickTo t s).window = s.window := by rfl
@[simp] theorem sealLog_window (kind : Nat) (s : State) : (sealLog kind s).window = s.window := by rfl
@[simp] theorem prEvent_window (num cls : Nat) (s : State) : (prEvent num cls s).window = s.window := by simp [prEvent]
@[simp] theorem sealChange_window (isOpen : Bool) (s : State) : (sealChange isOpen s).window = s.window := by simp [sealChange]

@[simp] theorem refusal_window (src missing requester ring what : Nat) (s : State) :
    (refusal src missing requester ring what s).window = s.window := by
  unfold refusal
  rw [bump_window, window_mk]
  rfl

@[simp] theorem denied_window (r : Nat) (d : List Byte) (missing : Nat) (s : State) : (denied r d missing s).window = s.window := by
  simp [denied]

/-! ### Coming up -/

@[simp] theorem bootCheck_window (s : State) : (bootCheck s).window = s.window := by simp [bootCheck]

/-! ### Ring commands of the channels -/

@[simp] theorem startActs_window (r n : Nat) (d : List Byte) (s : State) : (startActs r n d s).window = s.window := by
  simp only [startActs]
  split <;> simp

@[simp] theorem start_window (r : Nat) (d : List Byte) (s : State) : (start r d s).window = s.window := by
  refine checked_window (fun s => ?_) ..
  dsimp only
  split <;> simp

@[simp] theorem reachesDark_window (n : Nat) (s : State) : (reachesDark n s).window = s.window := by
  simp only [reachesDark]
  (repeat' split) <;> simp

@[simp] theorem dischargeEnd_window (n : Nat) (s : State) : (dischargeEnd n s).window = s.window := by
  simp only [dischargeEnd]
  (repeat' split) <;> simp

@[simp] theorem holdResume_window (r : Nat) (d : List Byte) (want : ChState) (ask : ChCmds → ChCmds) (s : State) :
    (holdResume r d want ask s).window = s.window := by
  simp [holdResume]

@[simp] theorem abort_window (r : Nat) (d : List Byte) (s : State) : (abort r d s).window = s.window := by
  refine checked_window (fun s => ?_) ..
  dsimp only
  split <;> simp

@[simp] theorem stateEvents_window (n : Nat) (s : State) : (stateEvents n s).window = s.window := by
  simp only [stateEvents]
  split <;> simp

@[simp] theorem snapshotCmd_window (r : Nat) (d : List Byte) (s : State) : (snapshotCmd r d s).window = s.window := by
  refine checked_window (fun s => ?_) ..
  dsimp only
  (repeat' split) <;> simp

@[simp] theorem epochDone_window (r : Nat) (s : State) : (epochDone r s).window = s.window := by
  simp only [epochDone]
  split <;> simp

@[simp] theorem storeTable_window (r : Nat) (d bytes : List Byte) (crc : Nat) (s : State) :
    (storeTable r d bytes crc s).window = s.window := by
  simp only [storeTable]
  split <;> simp [loadTable, loadSchedule, valveImage, storeRecipe, wordWritten]

@[simp] theorem tableFetchDone_window (s : State) : (tableFetchDone s).window = s.window := by
  simp only [tableFetchDone]
  (repeat' split) <;> simp

/-! ### Safelight -/

@[simp] theorem fuseCheck_window (s : State) : (fuseCheck s).window = s.window := by simp [fuseCheck]
@[simp] theorem parkBeat_window (s : State) : (parkBeat s).window = s.window := by simp [parkBeat]

@[simp] theorem alarmMatch_window (s : State) : (alarmMatch s).window = s.window := by
  simp only [alarmMatch]
  split <;> simp

/-! ### Beacons, epochs, beats and rounds -/

@[simp] theorem issueBeacon_window (t : Nat) (s : State) : (issueBeacon t s).window = s.window := by
  simp [issueBeacon, beaconAt, trainingBegins, reopenPort, becomesOn, domComes, miUp, encodersUp, canUp, easelUp, ciUp, scrubUp,
    bathComes, tonePassOn, startOthers]

@[simp] theorem takeEpoch_window (b : Nat) (s : State) : (takeEpoch b s).window = s.window := by
  simp [takeEpoch, peEpochEnd, epochActs, fillRangeActs, spoolEpoch]

@[simp] theorem takePassed_window (n : Nat) (s : State) : (takePassed n s).window = s.window := by
  induction n generalizing s with
  | zero => rfl
  | succ n ih => simp [takePassed, ih]

@[simp] theorem stepping_window {act : State → State} (h : ∀ s, (act s).window = s.window) (s : State) :
    (stepping act s).window = s.window := by
  simp [stepping, h]

@[simp] theorem takeBeat_window (s : State) : (takeBeat s).window = s.window := by simp [takeBeat]

@[simp] theorem takeRound_window (s : State) : (takeRound s).window = s.window := by
  simp only [takeRound]
  split <;> simp

@[simp] theorem roundFirst_window (s : State) : (roundFirst s).window = s.window := by simp [roundFirst]

/-! ### Register accesses -/

@[simp] theorem readClears_window (b : Blk) (i : Nat) (r : RegDef) (s : State) : (readClears b i r s).window = s.window := by
  simp only [readClears]
  split <;> simp

@[simp] theorem regRead_window (q : Nat) (b : Blk) (i : Nat) (r : RegDef) (s : State) : (regRead q b i r s).2.window = s.window := by
  unfold regRead
  split
  · rfl
  · simp

@[simp] theorem busRead_window (q off : Nat) (s : State) : (busRead q off s).2.window = s.window := by
  unfold busRead
  split
  · rfl
  · split
    · simp
    · split <;> simp

@[simp] theorem store_window (b : Blk) (i : Nat) (te : Te) (key : Nat) (reset new : Word) (s : State) :
    (store b i te key reset new s).window = s.window := by
  simp only [store]
  split <;> simp

@[simp] theorem ringControl_window (old new : Word) (s : State) : (ringControl old new s).window = s.window := by
  simp [ringControl, enableGoes1, enableGoes0, pollGoes1]

@[simp] theorem domTargets_window (old new : Word) (s : State) : (domTargets old new s).window = s.window := by simp [domTargets]
@[simp] theorem parkAsk_window (s : State) : (parkAsk s).window = s.window := by simp [parkAsk]

@[simp] theorem commitLow_window (q : Nat) (b : Blk) (i off : Nat) (s : State) : (commitLow q b i off s).window = s.window := by
  simp only [commitLow]
  (repeat' split) <;> simp

@[simp] theorem sqWrite_window (q key : Nat) (v : Word) (s : State) : (sqWrite q key v s).window = s.window := by
  simp only [sqWrite]
  split <;> simp

@[simp] theorem hostRead_window (f off : Nat) (s : State) : (hostRead f off s).window = s.window := by simp [hostRead]

@[simp] theorem takeCheck_window (f : SheetFind) (s : State) : (takeCheck f s).window = s.window := by rfl

/-! ### Updates of the presence block -/

theorem calenChange_window (t : Nat) (fitted : Bool) (s : State) : (calenChange t fitted s).window = s.window := by
  simp only [calenChange, window_ite, prEvent_window, window_mk, pres_window, tickTo_window, ite_self]

theorem sealSample_window (t : Nat) (isOpen : Bool) (s : State) : (sealSample t isOpen s).window = s.window := by
  simp only [sealSample, window_ite, sealChange_window, window_mk, pres_window, tickTo_window, ite_self]

theorem buttonStuck_window (t : Nat) (s : State) : (buttonStuck t s).window = s.window := by
  unfold buttonStuck
  split <;> rfl

theorem presReleased_window (t : Nat) (s : State) : (presReleased t s).window = s.window := by
  unfold presReleased
  split <;> rfl

end Sys2Proof.Machine
end

section
/-!
SUPPORT. What a command does to the presence window (R109–R114): a press apart, every command leaves it as it was or closes it; and O45.
-/
namespace Sys2Proof.Machine

/-- From `s` to `t` the window stands with its opening, or it is closed. -/
def KeptOrClosed (s t : State) : Prop := t.window = s.window ∨ t.window = none

namespace KeptOrClosed

/-- What comes before the step and leaves the window alone makes no difference. -/
theorem after {s u t : State} (h : u.window = s.window) (hu : KeptOrClosed u t) : KeptOrClosed s t := by
  rwa [KeptOrClosed, ← h]

theorem ite {c : Prop} [Decidable c] {s t u : State} (ht : KeptOrClosed s t) (hu : KeptOrClosed s u) :
    KeptOrClosed s (if c then t else u) := by
  split
  · exact ht
  · exact hu

theorem mainOn {s t : State} (h : KeptOrClosed s t) : KeptOrClosed s (mainOn s t) := .ite h (.inl rfl)

end KeptOrClosed

/-! ### What closes the window -/

theorem closeWindow_window (s : State) : (closeWindow s).window = none := by
  unfold closeWindow
  split
  · rw [prEvent_window, window_mk]
  · next h => exact Option.not_isSome_iff_eq_none.mp h

theorem mainOff_window (keep : List Nat) (s : State) : (mainOff keep s).window = none := rfl

theorem deviceReset_window (s : State) : (deviceReset s).window = none := by
  simp [deviceReset, mainOff_window]

theorem windowClose_keptOrClosed (s : State) : KeptOrClosed s (windowClose s) := by
  unfold windowClose
  split
  · exact .inr (closeWindow_window _)
  · exact .inl rfl

theorem xtalFail_keptOrClosed (t : Nat) (s : State) : KeptOrClosed s (xtalFail t s) := by
  unfold xtalFail
  exact .ite (.inl rfl) (.inr (closeWindow_window _))

theorem xtalMeasurement_keptOrClosed (t dj : Nat) (s : State) : KeptOrClosed s (xtalMeasurement t dj s) := by
  unfold xtalMeasurement
  exact .ite (.ite (.after (by simp) (xtalFail_keptOrClosed ..)) (.inl (by simp))) (.inl rfl)

theorem vsafeApply_keptOrClosed (s : State) : KeptOrClosed s (vsafeApply s) := by
  unfold vsafeApply
  exact .ite (.inr rfl) (.inl rfl)

theorem vcoreEnter_keptOrClosed (s : State) : KeptOrClosed s (vcoreEnter s) := by
  unfold vcoreEnter
  exact .ite (.inr (deviceReset_window _)) (.inl rfl)

theorem deviceWake_keptOrClosed (s : State) : KeptOrClosed s (deviceWake s) := by
  unfold deviceWake
  exact .ite (.inr (deviceReset_window _)) (.inl rfl)

theorem powerLoss_keptOrClosed (rails : List (Nat × Nat)) (s : State) : KeptOrClosed s (powerLoss rails s) := by
  unfold powerLoss
  exact .ite (.inr rfl) (.inl rfl)

theorem parkEdge_keptOrClosed (t : Nat) (s : State) : KeptOrClosed s (parkEdge t s) := by
  unfold parkEdge
  exact .ite (.inr ((window_foldl _ _ _ fun s k => recordWake_window k s).trans rfl)) (.inl rfl)

/-! ### Register writes -/

/-- Only SL_CONTROL's RESET (the twentieth case, R827) and PR_CONTROL's CLOSE (the twenty-second, R112) act on the window. -/
theorem writeActs_keptOrClosed (b : Blk) (i off : Nat) (old new p : Word) (s : State) : KeptOrClosed s (writeActs b i off old new p s) := by
  unfold writeActs
  split
  case h_20 => exact .ite (.inr (deviceReset_window _)) (.inl (by simp))
  case h_22 => exact .ite (.inr (closeWindow_window s)) (.inl rfl)
  all_goals exact .inl (by simp)

theorem regWrite_keptOrClosed (q : Nat) (b : Blk) (i : Nat) (r : RegDef) (v : Word) (s : State) : KeptOrClosed s (regWrite q b i r v s) := by
  unfold regWrite
  dsimp only
  refine .ite (.inl (by simp)) (.ite (.inl (by simp)) (.ite (.inl (by simp)) ?_))
  refine .after ?_ (writeActs_keptOrClosed ..)
  split <;> simp

theorem guardedWrite_keptOrClosed (q off : Nat) (b : Blk) (i : Nat) (r : RegDef) (v : Word) (s : State) :
    KeptOrClosed s (guardedWrite q off b i r v s) := by
  unfold guardedWrite
  dsimp only
  refine .ite (.inl (by simp)) (.ite (.inl (by simp)) ?_)
  split
  case h_2 | h_3 => exact regWrite_keptOrClosed ..
  all_goals exact .inl (by simp)

theorem busWrite_keptOrClosed (q off : Nat) (v : Word) (s : State) : KeptOrClosed s (busWrite q off v s) := by
  unfold busWrite
  refine .ite (.inl (by simp)) ?_
  split
  · exact .inl (by simp)
  · exact guardedWrite_keptOrClosed ..

theorem hostWrite_keptOrClosed (f off : Nat) (v : Word) (s : State) : KeptOrClosed s (hostWrite f off v s) := by
  unfold hostWrite barUse
  exact .ite (.inl rfl) (.ite (.after (traffic_window s) (busWrite_keptOrClosed ..)) (.inl (by simp)))

theorem loupeAccess_keptOrClosed (off : Nat) (write : Bool) (v : Word) (s : State) : KeptOrClosed s (loupeAccess off write v s) := by
  unfold loupeAccess
  refine .ite (.inl rfl) (.ite (.inl (by simp)) (.ite (.inl (by simp)) (.ite (busWrite_keptOrClosed ..) ?_)))
  exact .inl (by simp)

/-! ### Every command -/

/-- The commands that reach the window, each through the lemma of its meaning; then those that leave it alone: those whose own function has no
lemma above, by the model's files; the ring commands, which begin through `begin_`; those that act without main power; and the rest. -/
theorem exec_keptOrClosed {c : Instr} {s t : State} (hc : ∀ k, c ≠ .pressAccepted k) (h : exec c s = .next t) : KeptOrClosed s t := by
  cases c
  case pressAccepted k => exact absurd rfl (hc k)
  case windowClose => cases h; exact (windowClose_keptOrClosed s).mainOn
  case xtalFail => cases h; exact xtalFail_keptOrClosed ..
  case xtalMeasurement => cases h; exact (xtalMeasurement_keptOrClosed ..).mainOn
  case vsafeApply => cases h; exact vsafeApply_keptOrClosed s
  case vsafeLoss => cases h; exact .inr rfl
  case vcoreEnter => cases h; exact vcoreEnter_keptOrClosed s
  case powerLoss => cases h; exact powerLoss_keptOrClosed ..
  case deviceWake => cases h; exact deviceWake_keptOrClosed s
  case parkEdge => cases h; exact (parkEdge_keptOrClosed ..).mainOn
  case loupeRegisterAccess => cases h; exact (loupeAccess_keptOrClosed ..).mainOn
  case sheetRegionWrite | sqAckWrite | splitLoWrite | splitHiWrite =>
    cases h; exact (KeptOrClosed.ite (hostWrite_keptOrClosed ..) (.inl rfl)).mainOn
  case undefinedOffsetAccess =>
    cases h; exact (KeptOrClosed.ite (.inl rfl) (.ite (hostWrite_keptOrClosed ..) (.inl (hostRead_window ..)))).mainOn
  case registerWrite | reset | park | csRecheck | close | hubDomEnable | pollEnable | ringEnable | ringDisable | hostLossTimeoutWrite | tone |
      wakeRing | regrade | sleep | sleepClear | mmLatchClear | sbHubReadmit =>
    cases h; exact (hostWrite_keptOrClosed ..).mainOn
  case calenChange => cases h; exact .inl (mainOn_window _ _ (calenChange_window ..))
  case sealSample => cases h; exact .inl (sealSample_window ..)
  case buttonStuck => cases h; exact .inl (mainOn_window _ _ (buttonStuck_window ..))
  case presReleased => cases h; exact .inl (presReleased_window ..)
  case resetCheckDone | recheckDone | sheetRead | unsupportedRequest =>
    cases h
    exact .inl (mainOn_window _ _ (by simp [unsupported, resetCheckDone, recheckDone, sheetRead]))
  case domFail | quiesceEnd | domainDownComplete | islandSelftestDone =>
    cases h
    exact .inl (mainOn_window _ _ (by simp [domFail, quiesceEnd, downComplete, islandSelftestDone]))
  case beacon | epochBoundary | roundBoundary | beatBoundary | badCell =>
    cases h
    exact .inl (mainOn_window _ _ (by simp [beacon, epochBoundary, roundBoundary, beatCommand, badCell, forwardBad]))
  case xingTimeout | fllUnlock | refclkLoss | refclkRestored | stopCell | ciWatchdog | miWatchdog | vbusOver | vbusUnder =>
    cases h
    exact .inl (mainOn_window _ _ (by simp [xingTimeout, fllUnlock, refclkLoss, refclkRestored, stopCell, ciWatchdog, miWatchdog,
        vbusOver, vbusUnder]))
  case tsyncEdge | tsyncMissing =>
    cases h
    exact .inl (mainOn_window _ _ (by simp [tsyncEdge, tsyncMissed]))
  case linkUp | flrComplete | d3hotEntry | msixUnmask | poisonedTlpReceived | fatalInternal | speedChange | widthChange | l1Entry |
      l1Exit | bar2Access | hdmCommit | identifyMemoryDevice | getHealthInfo | getEventRecords | clearEventRecords | getPoisonList |
      injectPoison | clearPoison | unsupportedMailboxCommand =>
    cases h
    exact .inl (mainOn_window _ _ (by simp [linkUp, flrComplete, d3hotEntry, msixUnmask, poisonedTlp, fatalInternal, speedChange,
        widthChange, l1Entry, l1Exit, bar2Access, hdmCommit, identifyMemoryDevice, getHealthInfo, getEventRecords, clearEventRecords,
        getPoisonList, injectPoison, clearPoison, unsupportedMailbox, bar2Write]))
  case doorbellPoll | moderationTimeout =>
    cases h
    exact .inl (mainOn_window _ _ (by simp [doorbellPoll, moderationTimeout]))
  case pwmPeriodBoundary | fastValue | calRequestHoldoffEnd | modFault =>
    cases h
    exact .inl (mainOn_window _ _ (by simp [calCheck, fastValue, calHoldoffEnd, modFault, fastTaken]))
  case normalTrip | hardTrip | driverFault =>
    cases h
    exact .inl (mainOn_window _ _ (by simp [normalTrip, hardTrip, driverFault]))
  case requestWord =>
    cases h
    exact .inl (mainOn_window _ _ (by simp [requestWord]))
  case wakeCell | join | leave | claim | echo | userMessage | portPllLock | unwrap | emptyCell =>
    cases h
    exact .inl (mainOn_window _ _ (by simp [wakeCell, joinCell, leaveCell, claimCell, echoCell, userMessage, portPllLock, unwrapPort,
        emptyCell, sendHeld]))
  case frameBoundary | downlinkWatchdog | linkLost | fieldDiePowerUp | inputAccepted | wireBreak | wireOk | supplyConditionEnd |
      swThermalOff | swThermalRestart | swOverload | swOpenLoad | swShortSupply | swOpenLoadClear | swShortSupplyClear =>
    cases h
    exact .inl (mainOn_window _ _ (by simp [frameBoundary, downlinkWatchdog, linkLost, fieldDiePowerUp, inputAccepted, wireBreak,
        wireOk, supplyEnd, swThermalOff, swThermalRestart, swOverload, swOpenLoad, swShortSupply, swOpenLoadClear, swShortSupplyClear,
        State.setInput]))
  case seti | wandRamp | waitt | waiti | waitin | dither | wandLoop | wandJif | decay | endWord | decayComplete | offStateTest |
      illegalWord =>
    cases h
    exact .inl (mainOn_window _ _ (by simp [seti, wandRamp, waitt, waiti, waitin, ditherW, wandLoop, wandJif, decayW, endW,
        decayComplete, offStateTest, illegalWord]))
  case canTxRetry | busOn | busIdleSettings | sleepEntry | txdDominant | busDominant | canIntegrated =>
    cases h
    exact .inl (mainOn_window _ _ (by simp [canRetry, busOn, busIdle, sleepEntry, txdDominant, busDominant, canIntegrated]))
  case quadratureEdge | index | speedLatch | lineFault | lineFaultEnd | zFallingEdge =>
    cases h
    exact .inl (mainOn_window _ _ (by simp [abEdge, indexEdge, speedLatch, lineFault, lineFaultEnd, zFalling, quadratureEdge, countOne,
        latchFirst]))
  case eccWriteBack =>
    cases h
    exact .inl (mainOn_window _ _ (by simp [eccWriteBack]))
  case parkDrainEnd | tempConversion =>
    cases h
    exact .inl (mainOn_window _ _ (by simp [parkDrainEnd, tempConversion]))
  case nop | loadRecipe | swapBank | start | hold | resume | abort | presetExposure | snapshot | gang | chPark | chReadmit | setLimits |
      setCal | budgetSet | prioritySet | stripBind | fusionSet | gradeSet | leaseTake | leaseRenew | leaseDrop | archiveCopy |
      valveLoad | valveRun | switchSet | fieldSet | canSend | canFilter | encSet | sensorSchedule | jlUser | stop | clearFault |
      selftest =>
    cases h
    refine .inl (mainOn_window _ _ (begin_window (fun d s => ?_) ..))
    simp [nop, loadRecipe, swapBankCmd, presetExposure, gangCmd, chPark, chReadmit, setLimits, setCal, budgetSet, prioritySet,
        stripBind, fusionSet, gradeSet, leaseTake, leaseRenew, leaseDrop, archiveCopy, valveLoad, valveRun, switchSet, fieldSet,
        canSend, canFilter, encSet, sensorSchedule, jlUser, clearFault, setGang, putOver, encSetActs, clearChannel, clearDevice,
        clearField, clearStop]
  case perstAssert | perstDeassert | toneAccepted | wakePattern | wakeFrame | decoderDisarm | stopPinLow | stopPinHigh | alarmMatch |
      xtalOk | mainRailBelowMinimum =>
    cases h
    exact .inl (by simp [perstAssert, perstDeassert, toneAccepted, decoderDisarm, stopPinLow, stopPinHigh, xtalRestored, mainRail])
  all_goals
    cases h
    exact .inl (mainOn_window _ _ (by simp))

/-! ### The obligation -/

/-- Settles O45: every command but an accepted press leaves the window as it was or closes it (`exec_keptOrClosed`), so a window that stands
after it stood before with the same opening. -/
theorem onlyAPressOpensTheWindow : Obligations.OnlyAPressOpensTheWindow := by
  intro c s t w h hw
  by_cases hp : ∃ k, c = .pressAccepted k
  · exact .inr hp
  · rcases exec_keptOrClosed (not_exists.mp hp) h with hkept | hclosed
    · exact .inl (hkept.symm.trans hw)
    · cases hclosed.symm.trans hw

end Sys2Proof.Machine
end

section
/-!
SUPPORT. What a command leaves of the channels' generations (R286).  Only a START's first step, a device reset and the loss of main power change
them.  That the rest of the model leaves them alone is said function by function, in the model's order; a function with one caller is unfolded
there.
-/
namespace Sys2Proof.Machine

/-- The generation of each channel (R286). -/
def State.gens (s : State) : Nat → Nat := fun n => (s.ch n).gen

theorem ch_gen (s : State) (n : Nat) : (s.ch n).gen = s.gens n := rfl

/-- What is to show of an update that copies a generation; so stated, `(s.ch n).gen` stays as simp's form of one. -/
@[simp] theorem ch_gen_iff (s t : State) (n : Nat) : (s.ch n).gen = t.gens n ↔ s.gens n = t.gens n := by rfl

/-- An update of a field other than the channels.  Proved `by rfl`, as are the lemmas like it below, so that simp uses it as a rewriting rule
inside a fold too. -/
@[simp] theorem gens_update (s : State) {variant dbgen power regs sheet pres doms xings tk hl rg sp ar mis streams ladder sh jl pe fx en
    cn ez sb mm sl th tx free pending} :
    (State.mk variant dbgen power regs sheet pres doms xings tk hl rg sp ar s.chs mis streams ladder sh jl pe fx en cn ez sb mm sl th tx
      free pending).gens = s.gens := by rfl

@[simp] theorem gens_ite (c : Prop) [Decidable c] (a b : State) : (if c then a else b).gens = if c then a.gens else b.gens :=
  apply_ite State.gens ..

@[simp] theorem gens_foldl {α : Type} (f : State → α → State) (l : List α) (s : State) (h : ∀ s a, (f s a).gens = s.gens) :
    (l.foldl f s).gens = s.gens := foldl_keep State.gens f h l s

@[simp] theorem gens_foldr {α : Type} (f : α → State → State) (l : List α) (s : State) (h : ∀ a s, (f a s).gens = s.gens) :
    (l.foldr f s).gens = s.gens := by
  induction l with
  | nil => rfl
  | cons a l ih => rw [List.foldr_cons, h, ih]

@[simp] theorem mainOn_gens (s t : State) (h : t.gens = s.gens) : (mainOn s t).gens = s.gens := by
  simp [mainOn, h]

theorem State.setCh_gens_update (s : State) (n : Nat) (c : Chan) : (s.setCh n c).gens = Function.update s.gens n c.gen := by
  funext k
  rw [Function.update_apply, State.gens, State.setCh_ch]
  split <;> rfl

/-- An update of a channel that leaves its generation alone. -/
@[simp] theorem State.setCh_gens (s : State) (n : Nat) (c : Chan) (h : c.gen = s.gens n) : (s.setCh n c).gens = s.gens := by
  rw [State.setCh_gens_update, h, Function.update_eq_self]

/-- An update of every listed channel that leaves the generations alone. -/
theorem gens_map {s t : State} {f : Nat × Chan → Nat × Chan} (h : t.chs = s.chs.map f) (hkey : ∀ e, (f e).1 = e.1)
    (hgen : ∀ e, (f e).2.gen = e.2.gen) : t.gens = s.gens := by
  have hget : ∀ (l : Tab Chan) (n : Nat), (Tab.get (l.map f) n {}).gen = (Tab.get l n {}).gen := by
    intro l n
    induction l with
    | nil => rfl
    | cons e l ih =>
      simp only [Tab.get, List.map_cons, Tab.find, hkey] at ih ⊢
      split
      · exact hgen e
      · exact ih
  funext n
  rw [State.gens, State.ch, h, hget]
  rfl

/-- From `s` to `t` every generation stands, or channel `n`'s alone goes on by one, and from 0xFFFF to 1 (R286). -/
def GensNext (n : Nat) (s t : State) : Prop := t.gens = s.gens ∨ t.gens = Function.update s.gens n (nextGen (s.gens n))

theorem GensNext.ite {n : Nat} {c : Prop} [Decidable c] {s t u : State} (ht : GensNext n s t) (hu : GensNext n s u) :
    GensNext n s (if c then t else u) := by
  split
  · exact ht
  · exact hu

/-! ### Updates of a channel -/

@[simp] theorem foldl_gen {α : Type} (f : Chan → α → Chan) (l : List α) (c : Chan) (h : ∀ c a, (f c a).gen = c.gen) :
    (l.foldl f c).gen = c.gen := foldl_keep Chan.gen f h l c

@[simp] theorem setPhase_gen (c : Chan) (j : Nat) (p : Phase) : (c.setPhase j p).gen = c.gen := by rfl
@[simp] theorem setVar_gen (c : Chan) (k : Nat) (v : Int) : (c.setVar k v).gen = c.gen := by rfl
@[simp] theorem restartCounts_gen (c : Chan) : (restartCounts c).gen = c.gen := by rfl
@[simp] theorem phasesLow_gen (c : Chan) : (phasesLow c).gen = c.gen := by rfl
@[simp] theorem takeAverages_gen (codes : List (List Int)) (c : Chan) : (takeAverages codes c).gen = c.gen := foldl_gen _ _ _ fun _ _ => rfl
@[simp] theorem readmitPhases_gen (js : List Nat) (c : Chan) : (readmitPhases js c).gen = c.gen := foldl_gen _ _ _ fun _ _ => rfl
@[simp] theorem movePhases_gen (c k : Chan) (a b : Nat) : (movePhases c k a b).gen = k.gen := by rfl

@[simp] theorem trimStep_gen (clk : Nat) (c : Chan) : (trimStep clk c).gen = c.gen := by
  cases h : c.iShunt <;> simp only [trimStep, h, apply_ite Chan.gen, ite_self]

@[simp] theorem chargeSum_gen (c : Chan) (live : List Nat) : (chargeSum c live).gen = c.gen := by
  unfold chargeSum
  dsimp only
  (repeat' split) <;> rfl

@[simp] theorem newPeriod_gen (len : Nat) (old c : Chan) : (newPeriod len old c).gen = c.gen := foldl_gen _ _ _ fun _ _ => rfl

/-! ### Shared operations -/

@[simp] theorem advance_gens (d : Nat) (s : State) : (advance d s).gens = s.gens := by simp [advance]
@[simp] theorem advanceTo_gens (t : Nat) (s : State) : (advanceTo t s).gens = s.gens := by rfl
@[simp] theorem advanceClk_gens (t : Nat) (s : State) : (advanceClk t s).gens = s.gens := by simp [advanceClk]
@[simp] theorem spend_gens (s : State) : (spend s).gens = s.gens := by rfl
@[simp] theorem State.setMi_gens (s : State) (n : Nat) (m : Meas) : (s.setMi n m).gens = s.gens := by rfl
@[simp] theorem State.setDom_gens (s : State) (d : Nat) (x : Dom) : (s.setDom d x).gens = s.gens := by rfl
@[simp] theorem State.setRing_gens (s : State) (r : Nat) (x : Ring) : (s.setRing r x).gens = s.gens := by rfl
@[simp] theorem State.setFn_gens (s : State) (f : Nat) (x : Fn) : (s.setFn f x).gens = s.gens := by rfl
@[simp] theorem State.setLd_gens (s : State) (l : Nat) (x : Ld) : (s.setLd l x).gens = s.gens := by rfl
@[simp] theorem State.setSpool_gens (s : State) (n : Nat) (x : Spool) : (s.setSpool n x).gens = s.gens := by rfl
@[simp] theorem State.setStrip_gens (s : State) (n : Nat) (x : Strip) : (s.setStrip n x).gens = s.gens := by rfl
@[simp] theorem State.setExt_gens (s : State) (x : Nat) (e : Extent) : (s.setExt x e).gens = s.gens := by rfl
@[simp] theorem State.setLease_gens (s : State) (l : Nat) (x : Lease) : (s.setLease l x).gens = s.gens := by rfl
@[simp] theorem putNow_gens (key : Nat) (w : Word) (s : State) : (putNow key w s).gens = s.gens := by rfl
@[simp] theorem putLater_gens (key : Nat) (d w : Word) (s : State) : (putLater key d w s).gens = s.gens := by simp [putLater]

@[simp] theorem dropLater_gens (key : Nat) (w : Word) (s : State) : (dropLater key w s).gens = s.gens := by
  simp only [dropLater]
  (repeat' split) <;> simp

@[simp] theorem takeNear_gens (p : Nat → Bool) (s : State) : (takeNear p s).2.gens = s.gens := by
  unfold takeNear
  split <;> simp

@[simp] theorem actTaken_gens (p : Nat → Bool) (take : Bool) (s : State) : (actTaken p take s).gens = s.gens := by simp [actTaken]
@[simp] theorem actDue_gens (p : Nat → Bool) (s : State) : (actDue p s).gens = s.gens := by simp [actDue]
@[simp] theorem bumpBy_gens (key lim n : Nat) (s : State) : (bumpBy key lim n s).gens = s.gens := by rfl
@[simp] theorem bump_gens (key : Nat) (s : State) : (bump key s).gens = s.gens := by rfl
@[simp] theorem sqRecord_gens (key bit : Nat) (s : State) : (sqRecord key bit s).gens = s.gens := by rfl
@[simp] theorem rcSet_gens (key : Nat) (bits : Word) (s : State) : (rcSet key bits s).gens = s.gens := by rfl
@[simp] theorem State.setXing_gens (s : State) (i j : Nat) (x : Crossing) : (s.setXing i j x).gens = s.gens := by rfl
@[simp] theorem offer_gens (i j : Nat) (ws : List (Nat × Word)) (s : State) : (offer i j ws s).gens = s.gens := by simp [offer]
@[simp] theorem offerWords_gens (i j : Nat) (ws : List Word) (s : State) : (offerWords i j ws s).gens = s.gens := by simp [offerWords]
@[simp] theorem offerOpen_gens (i j : Nat) (s : State) : (offerOpen i j s).gens = s.gens := by simp [offerOpen, discarded]
@[simp] theorem crossOpen_gens (i j : Nat) (s : State) : (crossOpen i j s).gens = s.gens := by simp [crossOpen]
@[simp] theorem traffic_gens (s : State) : (traffic s).gens = s.gens := by rfl
@[simp] theorem send_gens (t : Tx) (s : State) : (send t s).gens = s.gens := by rfl
@[simp] theorem signal_gens (f v : Nat) (s : State) : (signal f v s).gens = s.gens := by simp [signal]
@[simp] theorem signalSpaced_gens (v : Nat) (s : State) : (signalSpaced v s).gens = s.gens := by simp [signalSpaced]
@[simp] theorem pushRec_gens (prod : Nat) (r : Rec) (s : State) : (pushRec prod r s).gens = s.gens := by rfl

@[simp] theorem raiseAs_gens (b : Blk) (i num cls : Nat) (args : List Int) (src prod : Nat) (s : State) :
    (raiseAs b i num cls args src prod s).gens = s.gens := by
  simp only [raiseAs]
  (repeat' split) <;> simp

@[simp] theorem raise_gens (b : Blk) (i num cls : Nat) (args : List Int) (s : State) : (raise b i num cls args s).gens = s.gens := by
  simp [raise]

@[simp] theorem raiseTimed_gens (b : Blk) (i num cls : Nat) (args : List Int) (time : Nat) (s : State) :
    (raiseTimed b i num cls args time s).gens = s.gens := by
  simp only [raiseTimed]
  (repeat' split) <;> simp

@[simp] theorem recordWake_gens (k : Nat) (s : State) : (recordWake k s).gens = s.gens := by simp [recordWake]

@[simp] theorem wakeSource_gens (k : Nat) (s : State) : (wakeSource k s).gens = s.gens := by
  simp only [wakeSource]
  (repeat' split) <;> simp

/-! ### Ring commands and the DMA engine -/

@[simp] theorem makeEcho_gens (r : Nat) (c : Cpl) (phase : Bool) (s : State) : (makeEcho r c phase s).gens = s.gens := by rfl
@[simp] theorem ringEnable_gens (r : Nat) (s : State) : (ringEnable r s).gens = s.gens := by rfl
@[simp] theorem ringSettle_gens (r : Nat) (s : State) : (ringSettle r s).gens = s.gens := by simp [ringSettle]

@[simp] theorem loseCompletion_gens (r : Nat) (s : State) : (loseCompletion r s).gens = s.gens := by
  simp only [loseCompletion]
  split <;> simp

@[simp] theorem cqCheck_gens (r : Nat) (s : State) : (cqCheck r s).gens = s.gens := by simp [cqCheck]

@[simp] theorem complete_gens (r : Nat) (st : Status) (result detail : Nat) (s : State) :
    (complete r st result detail s).gens = s.gens := by
  simp only [complete]
  (repeat' split) <;> simp

@[simp] theorem begin_gens {k : List Byte → State → State} (h : ∀ d s, (k d s).gens = s.gens) (r op : Nat) (s : State) :
    (begin_ r op k s).gens = s.gens := by
  unfold begin_
  split
  · split
    · rfl
    · split
      · simp [h]
      · rfl
  · rfl

@[simp] theorem setStage_gens (r : Nat) (g : Stage) (s : State) : (setStage r g s).gens = s.gens := by
  simp only [setStage]
  split <;> simp

@[simp] theorem crossCommand_gens (d : List Byte) (s : State) : (crossCommand d s).gens = s.gens := by
  simp only [crossCommand]
  split <;> simp

@[simp] theorem checked_gens {k : State → State} (h : ∀ s, (k s).gens = s.gens) (r : Nat) (d : List Byte) (missing : State → Option Nat)
    (usesGen : Bool) (s : State) : (checked r d missing usesGen k s).gens = s.gens := by
  unfold checked
  split
  · simp
  · split
    · simp
    · simp [h]

@[simp] theorem dmaCount_gens (c k : Nat) (s : State) : (dmaCount c k s).gens = s.gens := by simp [dmaCount]
@[simp] theorem dmaOut_gens (by_ : Issuer) (s : State) : (dmaOut by_ s).gens = s.gens := by simp [dmaOut]
@[simp] theorem dmaBack_gens (by_ : Issuer) (s : State) : (dmaBack by_ s).gens = s.gens := by simp [dmaBack]

@[simp] theorem issueRead_gens (c f addr len : Nat) (by_ : Issuer) (s : State) : (issueRead c f addr len by_ s).gens = s.gens := by
  simp [issueRead]

@[simp] theorem issueWrite_gens (c f addr : Nat) (bytes : List Byte) (by_ : Issuer) (s : State) :
    (issueWrite c f addr bytes by_ s).gens = s.gens := by
  simp [issueWrite]

/-! ### Channels -/

@[simp] theorem latchUnexposed_gens (m word : Nat) (src : Option Nat) (s : State) :
    (latchUnexposed m word src s).gens = s.gens := by
  simp [latchUnexposed]

@[simp] theorem unexposedRead_gens (m word : Nat) (src : Option Nat) (s : State) : (unexposedRead m word src s).gens = s.gens := by
  simp only [unexposedRead]
  split <;> simp

@[simp] theorem latchUncorrectable_gens (m word : Nat) (src : Option Nat) (scrub : Bool) (s : State) :
    (latchUncorrectable m word src scrub s).gens = s.gens := by
  simp [latchUncorrectable]

@[simp] theorem uncorrectableRead_gens (m word : Nat) (src : Option Nat) (scrub : Bool) (s : State) :
    (uncorrectableRead m word src scrub s).gens = s.gens := by
  simp only [uncorrectableRead]
  split <;> simp

@[simp] theorem cutChannel_gens (n : Nat) (s : State) : (cutChannel n s).gens = s.gens := by simp [cutChannel]
@[simp] theorem fadeChannel_gens (n : Nat) (s : State) : (fadeChannel n s).gens = s.gens := by simp [fadeChannel]

@[simp] theorem fxRun_gens (n : Nat) (f : FxRun → FxRun) (s : State) : (fxRun n f s).gens = s.gens := by
  simp only [fxRun]
  (repeat' split) <;> simp

@[simp] theorem fxStepStart_gens (n : Nat) (rest : Bool) (s : State) : (fxStepStart n rest s).gens = s.gens := by simp [fxStepStart]

@[simp] theorem stepEnd_gens (n : Nat) (term : Option Nat) (short overrun : Bool) (s : State) :
    (stepEnd n term short overrun s).gens = s.gens := by
  simp only [stepEnd]
  split <;> simp [fxStepEnd]

@[simp] theorem settleCmds_gens (n : Nat) (st : Status) (detail : Nat) (s : State) : (settleCmds n st detail s).gens = s.gens := by
  refine gens_foldl _ _ _ fun s op => ?_
  split <;> simp

@[simp] theorem endRun_gens (n : Nat) (why : EndReason) (arg : Int) (byHub : Bool) (s : State) :
    (endRun n why arg byHub s).gens = s.gens := by
  simp [endRun, fxRunEnd]

@[simp] theorem cancelQueued_gens (n : Nat) (st : Status) (detail : Nat) (s : State) :
    (cancelQueued n st detail s).gens = s.gens := by
  simp only [cancelQueued]
  (repeat' split) <;> simp

@[simp] theorem cancelStart_gens (n : Nat) (st : Status) (detail : Nat) (s : State) : (cancelStart n st detail s).gens = s.gens := by
  simp only [cancelStart]
  (repeat' split) <;> simp

@[simp] theorem latchFault_gens (bit cause n : Nat) (s : State) : (latchFault bit cause n s).gens = s.gens := by simp [latchFault]
@[simp] theorem progFault_gens (n cause word : Nat) (s : State) : (progFault n cause word s).gens = s.gens := by simp [progFault]
@[simp] theorem noPhase_gens (n : Nat) (s : State) : (noPhase n s).gens = s.gens := by simp [noPhase]

@[simp] theorem stateReads_gens (base n : Nat) (ks : List Nat) (s : State) : (stateReads base n ks s).gens = s.gens := by
  simp only [stateReads]
  split <;> simp

@[simp] theorem limitTest_gens (n item need : Nat) (bad : Bool) (value : Int) (s : State) :
    (limitTest n item need bad value s).gens = s.gens := by
  simp [limitTest, limitTrip]

@[simp] theorem swapBank_gens (n mark : Nat) (s : State) : (swapBank n mark s).gens = s.gens := by simp [swapBank]

@[simp] theorem channelShort_gens (n j k : Nat) (avg share : Int) (s : State) : (channelShort n j k avg share s).gens = s.gens := by
  simp [channelShort]

@[simp] theorem tripOut_gens (n j ev : Nat) (s : State) : (tripOut n j ev s).gens = s.gens := by
  simp only [tripOut]
  split <;> simp

/-! ### Developer -/

theorem fetchWord_gens {n pc k : Nat} {s t : State} (h : fetchWord n pc s = .error (k, t)) : t.gens = s.gens := by
  simp only [fetchWord] at h
  split at h
  · cases h; rfl
  · split at h
    · split at h
      · cases h; simp
      · cases h
    · cases h; simp

theorem readTerms_gens {n pc m k : Nat} {s t : State} (h : readTerms n pc m s = .error (k, t)) : t.gens = s.gens := by
  induction m generalizing pc with
  | zero => cases h
  | succ m ih =>
    simp only [readTerms] at h
    split at h
    · next hf => cases h; exact fetchWord_gens hf
    · next hf => cases h; exact fetchWord_gens hf
    · split at h
      · cases h; rfl
      · split at h
        · cases h; rfl
        · split at h
          · next hr => cases h; exact ih hr
          · cases h

@[simp] theorem actStep_gens (n : Nat) (s : State) : (actStep n s).gens = s.gens := by simp [actStep]

theorem beginStep_error_gens {n pc k : Nat} {w : BitVec 64} {s t : State} (h : beginStep n pc w s = .error (k, t)) :
    t.gens = s.gens := by
  simp only [beginStep] at h
  split at h
  · cases h; simp
  · split at h
    · cases h; simp
    · split at h
      · next hr => cases h; simpa using readTerms_gens hr
      · cases h

theorem beginStep_gens {n pc : Nat} {w : BitVec 64} {s t : State} (h : beginStep n pc w s = .ok t) : t.gens = s.gens := by
  simp only [beginStep] at h
  split at h
  · cases h
  · split at h
    · cases h
    · split at h
      · cases h
      · cases h; simp

theorem setv_gens {n : Nat} {w : BitVec 64} {s t : State} (h : setv n w s = some t) : t.gens = s.gens := by
  simp only [setv] at h
  (repeat' split at h) <;> cases h <;> simp

theorem flowInstr_gens {n pc : Nat} {w : BitVec 64} {s t : State} {f : Flow} (h : flowInstr n pc w s = (f, t)) : t.gens = s.gens := by
  simp only [flowInstr] at h
  split at h
  case h_10 =>
    split at h
    · next hv => cases h; exact setv_gens hv
    · cases h; rfl
  all_goals (repeat' split at h) <;> cases h
  all_goals simp

@[simp] theorem execFlow_gens (n fuel pc : Nat) (s : State) : (execFlow n fuel pc s).gens = s.gens := by
  induction fuel using Nat.strong_induction_on generalizing pc s with
  | _ fuel ih =>
    unfold execFlow
    split
    · next h => simp [fetchWord_gens h]
    · dsimp only
      split
      · simp
      · split
        · split
          · next h => simp [beginStep_error_gens h]
          · next h => exact beginStep_gens h
        · split
          · simp
          · split
            · split
              · split
                · next h => simp [flowInstr_gens h]
                · exact flowInstr_gens rfl
              · simp
            · split
              · next h => rw [ih _ (Nat.lt_succ_self _), flowInstr_gens h]
              · next h => simp [flowInstr_gens h]
              · next h => exact flowInstr_gens h
              · next h => simp [flowInstr_gens h]

@[simp] theorem endStep_gens (n k : Nat) (st : StepSt) (s : State) : (endStep n k st s).gens = s.gens := by
  unfold endStep
  split
  · rfl
  · dsimp only
    split <;> simp only [execFlow_gens, fadeChannel_gens, endRun_gens, stepEnd_gens]
    all_goals
      refine (gens_foldl _ _ _ fun s i => ?_).trans (by simp only [gens_ite, raise_gens, ite_self])
      split <;> simp only [raise_gens, State.setCh_gens, ch_gen_iff]

@[simp] theorem stepPeriod_gens (n : Nat) (s : State) : (stepPeriod n s).gens = s.gens := by simp [stepPeriod]

@[simp] theorem developerTurn_gens (n : Nat) (s : State) : (developerTurn n s).gens = s.gens := by
  unfold developerTurn
  dsimp only
  split
  · split
    on_goal 2 => rw [endStep_gens]
    all_goals
      refine (gens_foldl _ _ _ fun s i => ?_).trans (State.setCh_gens _ _ _ rfl)
      split <;> simp only [raise_gens]
  · simp
  · rfl

/-- A START's run takes its channel's generation on by one, and from 0xFFFF to 1 (R286). -/
theorem beginRun_gens (n : Nat) (a : StartArgs) (s : State) : (beginRun n a s).gens = Function.update s.gens n (nextGen (s.gens n)) := by
  rw [← ch_gen, beginRun]
  dsimp only
  split <;> simp [fxRunStart]
  all_goals rw [State.setCh_gens_update]

/-! ### Power path -/

@[simp] theorem integrate_gens (n : Nat) (s : State) : (integrate n s).gens = s.gens := by
  unfold integrate
  dsimp only
  generalize execOf _ 0x16 n = o
  cases o <;> simp only [gens_ite, raise_gens, State.setCh_gens, ch_gen_iff, complete_gens, ite_self]

@[simp] theorem loopCommand_gens (n : Nat) (s : State) : (loopCommand n s).gens = s.gens := by
  simp only [loopCommand]
  split <;> simp [setCommand]

@[simp] theorem setDuties_gens (n : Nat) (s : State) : (setDuties n s).gens = s.gens := by simp [setDuties]
@[simp] theorem actFound_gens (which : Nat → Bool) (n : Nat) (s : State) : (actFound which n s).gens = s.gens := by simp [actFound]

@[simp] theorem testPhases_gens (n : Nat) (codes : List (List Int)) (s : State) : (testPhases n codes s).gens = s.gens := by
  refine State.setCh_gens _ _ _ ?_
  dsimp only
  (repeat' split) <;> simp

@[simp] theorem fadeStep_gens (n : Nat) (s : State) : (fadeStep n s).gens = s.gens := by
  simp only [fadeStep]
  split <;> simp

/-- An ABORT or host-loss FADE, a HOLD, a RESUME and the developer's turn keep the generations; a START's run does not. -/
theorem commandsAndTurn_gensNext (n : Nat) (s : State) : GensNext n s (commandsAndTurn n s) := by
  unfold commandsAndTurn
  dsimp only
  refine .ite (.inl ?abort) (.ite (.inl ?hold) (.ite (.inl ?resume) (.ite (.inl (developerTurn_gens ..)) (.ite ?start (.inl rfl)))))
  case abort => (repeat' split) <;> simp
  case hold => split <;> simp
  case resume => split <;> simp
  case start =>
    split
    · exact .inr (beginRun_gens ..)
    · exact .inl rfl

@[simp] theorem stageVolts_gens (n : Nat) (s : State) : (stageVolts n s).gens = s.gens := by simp [stageVolts]

@[simp] theorem fxCurrentStep_gens (n : Nat) (was : Rat) (s : State) : (fxCurrentStep n was s).gens = s.gens := by
  simp only [fxCurrentStep]
  split <;> simp

@[simp] theorem ciStateReads_gens (n : Nat) (s : State) : (ciStateReads n s).gens = s.gens := by simp [ciStateReads]
@[simp] theorem retryReturns_gens (n : Nat) (s : State) : (retryReturns n s).gens = s.gens := by simp [retryReturns]
@[simp] theorem gangCross_gens (n : Nat) (s : State) : (gangCross n s).gens = s.gens := by simp [gangCross]

/-- What a control-period boundary does before the pending commands: the words that act, the averages, the tests of the period that ended,
exposure and energy, and the limits (R385, R394, R475). -/
def boundaryHead (n : Nat) (codes : List (List Int)) (s : State) : State :=
  let c := takeAverages codes (s.ch n)
  let c := { c with iFast := fastSum c + c.trim }
  let s := s.setCh n (trimStep s.tk.clk c)
  let s := testPhases n codes (actFound (fun k => k != 0) n s)
  let s := actFound (fun k => k == 2 || k == 3) n s
  let s := stepPeriod n (integrate n (retryReturns n s))
  let i := (s.ch n).iFast
  let fifty : Int := fullScale (s.ch n) / 50
  let s := limitTest n 2 4 (decide (i > ((limitVal s n 2 + fifty : Int) : Rat))) i.floor s
  limitTest n 3 4 (decide (i < ((-(limitVal s n 3 + fifty) : Int) : Rat))) i.floor s

/-- What it does after them: the fade, the loop and the duties of the coming period (R390, R401). -/
def boundaryTail (n len : Nat) (old : Chan) (s : State) : State :=
  let s := fadeStep n s
  let s := if (s.ch n).st = .running then s else actStep n s
  let s := if (s.ch n).chen then noPhase n s else s
  let was := (s.ch n).icReq
  let s := stageVolts n (fxCurrentStep n was (setDuties n (loopCommand n s)))
  let c := newPeriod len old (s.ch n)
  s.setCh n { c with freshSample := false, freshPrint := false, iShunt := none, periods := c.periods + 1 }

/-- The state that a boundary of channel `n` begins from: pending words act, and its state words are read. -/
def boundaryStart (n : Nat) (s : State) : State := gangCross n (ciStateReads n (actDue (isPwmKey n) s))

/-- A boundary in its three parts. -/
theorem pwmBoundary_eq (n : Nat) (codes : List (List Int)) (s : State) :
    pwmBoundary n codes s =
      if s.present n && s.isOn (ciDom n) then
        boundaryTail n (8 * fld (dvPwm s n) 0 13) ((boundaryStart n s).ch n) (commandsAndTurn n (boundaryHead n codes (boundaryStart n s)))
      else s := rfl

@[simp] theorem boundaryStart_gens (n : Nat) (s : State) : (boundaryStart n s).gens = s.gens := by simp [boundaryStart]

@[simp] theorem boundaryHead_gens (n : Nat) (codes : List (List Int)) (s : State) : (boundaryHead n codes s).gens = s.gens := by
  simp [boundaryHead]

@[simp] theorem boundaryTail_gens (n len : Nat) (old : Chan) (s : State) : (boundaryTail n len old s).gens = s.gens := by
  simp [boundaryTail]

theorem pwmBoundary_gensNext (n : Nat) (codes : List (List Int)) (s : State) : GensNext n s (pwmBoundary n codes s) := by
  rw [pwmBoundary_eq]
  split
  · simpa [GensNext] using commandsAndTurn_gensNext n (boundaryHead n codes (boundaryStart n s))
  · exact .inl rfl

@[simp] theorem phRetry_gens (n j : Nat) (s : State) : (phRetry n j s).gens = s.gens := by
  simp only [phRetry]
  (repeat' split) <;> simp

/-! ### Shutter -/

@[simp] theorem State.setShc_gens (s : State) (n : Nat) (x : ShCh) : (s.setShc n x).gens = s.gens := by rfl
@[simp] theorem rangeEnds_gens (s : State) : (rangeEnds s).gens = s.gens := by rfl
@[simp] theorem leaseTurn_gens (n : Nat) (s : State) : (leaseTurn n s).gens = s.gens := by simp [leaseTurn]
@[simp] theorem ageTurn_gens (n : Nat) (s : State) : (ageTurn n s).gens = s.gens := by simp [ageTurn]
@[simp] theorem rackGrant_gens (s : State) : (rackGrant s).gens = s.gens := by simp [rackGrant]
@[simp] theorem lateGrant_gens (s : State) : (lateGrant s).gens = s.gens := by simp [lateGrant]
@[simp] theorem decideRound_gens (s : State) : (decideRound s).gens = s.gens := by simp [decideRound]

@[simp] theorem grantWord_gens (n : Nat) (s : State) : (grantWord n s).gens = s.gens := by
  simp only [grantWord]
  split <;> simp

@[simp] theorem actBeat_gens (s : State) : (actBeat s).gens = s.gens := by simp [actBeat]
@[simp] theorem shutterBeat_gens (old s : State) : (shutterBeat old s).gens = s.gens := by simp [shutterBeat]

@[simp] theorem budgetDone_gens (s : State) : (budgetDone s).gens = s.gens := by
  simp only [budgetDone]
  split <;> simp

/-! ### Jikanlink -/

@[simp] theorem State.setPort_gens (s : State) (p : Nat) (x : Port) : (s.setPort p x).gens = s.gens := by rfl

@[simp] theorem txDirect_gens (q : Nat) (c : Cell) (s : State) : (txDirect q c s).gens = s.gens := by
  simp only [txDirect]
  split <;> simp [sendCell]

@[simp] theorem txCell_gens (p : Nat) (c : Cell) (s : State) : (txCell p c s).gens = s.gens := by simp [txCell]
@[simp] theorem forward_gens (p : Nat) (c : Cell) (s : State) : (forward p c s).gens = s.gens := by simp [forward]
@[simp] theorem goodCell_gens (p h : Nat) (pl : List Byte) (s : State) : (goodCell p h pl s).gens = s.gens := by rfl

@[simp] theorem cellTaken_gens {act : State → State} (h : ∀ s, (act s).gens = s.gens) (ty p h' : Nat) (pl : List Byte) (s : State) :
    (cellTaken ty p h' pl act s).gens = s.gens := by
  simp [cellTaken, h]

@[simp] theorem sendGuard_gens (n q : Nat) (s : State) : (sendGuard n q s).gens = s.gens := by
  simp only [sendGuard]
  split <;> simp

@[simp] theorem passGuard_gens (p : Nat) (s : State) : (passGuard p s).gens = s.gens := by simp [passGuard]
@[simp] theorem queueNew_gens (m : OutMsg) (s : State) : (queueNew m s).gens = s.gens := by rfl

@[simp] theorem userSent_gens (r : Nat) (s : State) : (userSent r s).gens = s.gens := by
  simp only [userSent]
  split <;> simp

theorem takeOut_gens {i ring : Nat} {s : State} {r : Cell × State} (h : takeOut i ring s = some r) : r.2.gens = s.gens := by
  simp only [takeOut] at h
  split at h
  · cases h
  · cases h
    dsimp only
    split
    · split <;> simp
    · rfl

theorem fillFrom_gens {ring : Nat} {echo : Bool} {s : State} {r : Cell × State} (h : fillFrom ring echo s = some r) :
    r.2.gens = s.gens := by
  unfold fillFrom at h
  split at h
  · cases h
  · obtain ⟨i, -, hi⟩ := Option.bind_eq_some_iff.mp h
    exact takeOut_gens hi

@[simp] theorem fillEmpty_gens (ring : Nat) (c : Cell) (s : State) : (fillEmpty ring c s).2.gens = s.gens := by
  unfold fillEmpty
  split
  · next h => exact fillFrom_gens h
  · split
    · cases h : fillFrom (1 - ring) false s with
      | none => rfl
      | some r => exact fillFrom_gens h
    · rfl

@[simp] theorem flushIdle_gens (s : State) : (flushIdle s).gens = s.gens := by
  unfold flushIdle
  split
  · rfl
  · refine gens_foldl _ _ _ fun s _ => ?_
    dsimp only
    split
    · rfl
    · split
      · next h => simpa using takeOut_gens h
      · rfl

@[simp] theorem sendMsg_gens (ty dst times : Nat) (pl : List Byte) (s : State) : (sendMsg ty dst times pl s).gens = s.gens := by
  simp [sendMsg, queueMsg]

@[simp] theorem sendStop_gens (cls : Nat) (s : State) : (sendStop cls s).2.gens = s.gens := by
  unfold sendStop
  split <;> simp

@[simp] theorem noteDelivered_gens (h : Nat) (s : State) : (noteDelivered h s).gens = s.gens := by rfl
@[simp] theorem forwardMsg_gens (p : Nat) (c : Cell) (s : State) : (forwardMsg p c s).gens = s.gens := by simp [forwardMsg]

@[simp] theorem userRx_gens (src : Nat) (all : Bool) (pl : List Byte) (s : State) : (userRx src all pl s).gens = s.gens := by
  simp [userRx]

@[simp] theorem sendTone_gens (p : Nat) (s : State) : (sendTone p s).gens = s.gens := by simp [sendTone]

@[simp] theorem passEmpty_gens (p h : Nat) (room : Bool) (s : State) : (passEmpty p h room s).gens = s.gens := by
  simp only [passEmpty]
  (repeat' split) <;> simp

@[simp] theorem sendEcho_gens (p : Nat) (pl : List Byte) (at_ : Option Nat) (s : State) : (sendEcho p pl at_ s).gens = s.gens := by
  simp only [sendEcho]
  split
  · split
    · next h => simpa using takeOut_gens h
    · simp
  · simp

@[simp] theorem echoRequest_gens (p : Nat) (s : State) : (echoRequest p s).gens = s.gens := by
  unfold echoRequest
  split
  · simp only [sendEcho_gens, gens_ite, State.setPort_gens, ite_self]
    split
    · exact advanceClk_gens ..
    · rfl
  · rfl

@[simp] theorem wrapIfAlone_gens (p : Nat) (s : State) : (wrapIfAlone p s).gens = s.gens := by simp [wrapIfAlone]

@[simp] theorem portUpEvent_gens (p : Nat) (s : State) : (portUpEvent p s).gens = s.gens := by
  simp only [portUpEvent]
  split <;> simp

@[simp] theorem portDown_gens (p cause : Nat) (s : State) : (portDown p cause s).gens = s.gens := by simp [portDown]
@[simp] theorem portOff_gens (p : Nat) (s : State) : (portOff p s).gens = s.gens := by simp [portOff]

@[simp] theorem readBytes_gens (l : List (Option Byte)) (s : State) : (readBytes l s).2.gens = s.gens := by
  refine foldl_keep (fun a : List Byte × State => a.2.gens) _ (fun a b => ?_) l ([], s)
  split <;> simp

@[simp] theorem noteWritten_gens (p h : Nat) (s : State) : (noteWritten p h s).gens = s.gens := by rfl

/-! ### The ring of Jikanlink -/

@[simp] theorem loadTime_gens (t : Nat) (s : State) : (loadTime t s).gens = s.gens := by simp [loadTime]
@[simp] theorem setSource_gens (s : State) : (setSource s).gens = s.gens := by rfl
@[simp] theorem sendJoin_gens (s : State) : (sendJoin s).gens = s.gens := by simp [sendJoin, shutterJoin]
@[simp] theorem leftRing_gens (why : Nat) (dst : NodeState) (s : State) : (leftRing why dst s).gens = s.gens := by simp [leftRing]
@[simp] theorem sendLeave_gens (reason : Nat) (s : State) : (sendLeave reason s).gens = s.gens := by simp [sendLeave]

@[simp] theorem betterMaster_gens (s : State) (id : Nat) : (betterMaster s id).2.gens = s.gens := by
  unfold betterMaster
  split <;> simp

@[simp] theorem followSync_gens (b t master joined admission : Nat) (wrapped : Bool) (s : State) :
    (followSync b t master joined admission wrapped s).gens = s.gens := by
  simp [followSync, followTime]

@[simp] theorem syncCell_gens (p h : Nat) (pl : List Byte) (s : State) : (syncCell p h pl s).gens = s.gens := by
  refine cellTaken_gens (fun s => ?_) ..
  simp

@[simp] theorem reportCell_gens (p h : Nat) (pl : List Byte) (s : State) : (reportCell p h pl s).gens = s.gens := by
  refine cellTaken_gens (fun s => ?_) ..
  simp

@[simp] theorem takeGrant_gens (b : Nat) (g : Word) (s : State) : (takeGrant b g s).gens = s.gens := by simp [takeGrant]

@[simp] theorem grantCell_gens (p h : Nat) (pl : List Byte) (s : State) : (grantCell p h pl s).gens = s.gens := by
  refine cellTaken_gens (fun s => ?_) ..
  simp

@[simp] theorem bothRings_gens (h : Nat) (pl : List Byte) (s : State) : (bothRings h pl s).gens = s.gens := by simp [bothRings]
@[simp] theorem masterSlots_gens (s : State) : (masterSlots s).gens = s.gens := by simp [masterSlots]

@[simp] theorem collectionClose_gens (s : State) : (collectionClose s).gens = s.gens := by
  simp only [collectionClose, gens_ite, gens_foldl, raise_gens, masterSlots_gens, bothRings_gens, takeGrant_gens,
    gens_update, advanceTo_gens, ite_self, implies_true]

@[simp] theorem decideJoins_gens (s : State) : (decideJoins s).gens = s.gens := by
  simp only [decideJoins]
  split <;> simp

@[simp] theorem claimNow_gens (cold : Bool) (s : State) : (claimNow cold s).gens = s.gens := by simp [claimNow]

@[simp] theorem syncMissCheck_gens (s : State) : (syncMissCheck s).gens = s.gens := by
  simp only [syncMissCheck]
  (repeat' split) <;> simp

@[simp] theorem stateBeat_gens (gone : Bool) (s : State) : (stateBeat gone s).gens = s.gens := by
  simp only [stateBeat]
  split <;> simp [resignRing, masterFrame]

@[simp] theorem nodeBeat_gens (s : State) : (nodeBeat s).gens = s.gens := by
  simp only [nodeBeat]
  split <;> simp [becomeMaster, countBeats]

@[simp] theorem beatBoundary_gens (s : State) : (beatBoundary s).gens = s.gens := by simp [beatBoundary]

/-! ### Archive -/

@[simp] theorem arPut_gens (a : Nat) (l : List Byte) (s : State) : (arPut a l s).gens = s.gens := by rfl

@[simp] theorem zeroNext_gens (s : State) : (zeroNext s).gens = s.gens := by
  simp only [zeroNext]
  split <;> simp

@[simp] theorem zeroAsk_gens (first : Bool) (x : Nat) (s : State) : (zeroAsk first x s).gens = s.gens := by simp [zeroAsk]
@[simp] theorem toZeroing_gens (x : Nat) (s : State) : (toZeroing x s).gens = s.gens := by simp [toZeroing]
@[simp] theorem arLine_gens (line : Nat) (bytes : List Byte) (s : State) : (arLine line bytes s).gens = s.gens := by rfl

@[simp] theorem fillZero_gens (x : Nat) (s : State) : (fillZero x s).gens = s.gens := by
  simp only [fillZero]
  split <;> simp

@[simp] theorem fillTake_gens (x : Nat) (s : State) : (fillTake x s).gens = s.gens := by
  simp only [fillTake]
  split <;> simp

@[simp] theorem fillOpen_gens (s : State) : (fillOpen s).gens = s.gens := by
  simp only [fillOpen]
  (repeat' split) <;> simp [fillBlock]

@[simp] theorem fillSeal_gens (s : State) : (fillSeal s).gens = s.gens := by
  simp only [fillSeal]
  split <;> simp

@[simp] theorem fillCopy_gens (sp : Nat) (r : Rec) (s : State) : (fillCopy sp r s).gens = s.gens := by
  simp only [fillCopy]
  (repeat' split) <;> simp

@[simp] theorem releaseExt_gens (x : Nat) (s : State) : (releaseExt x s).gens = s.gens := by
  simp only [releaseExt]
  (repeat' split) <;> simp

@[simp] theorem heartbeatSample_gens (s : State) : (heartbeatSample s).gens = s.gens := by
  simp only [heartbeatSample, gens_foldl, gens_ite, raise_gens, State.setLease_gens, releaseExt_gens, advanceTo_gens,
    gens_update, ite_self, implies_true]

@[simp] theorem extentZeroed_gens (s : State) : (extentZeroed s).gens = s.gens := by
  simp only [extentZeroed]
  split <;> simp

@[simp] theorem archiveTrainingDone_gens (failed : Option Nat) (s : State) : (archiveTrainingDone failed s).gens = s.gens := by
  simp only [archiveTrainingDone]
  (repeat' split) <;> simp

@[simp] theorem poisonAdd_gens (line : Nat) (s : State) : (poisonAdd line s).gens = s.gens := by simp [poisonAdd]
@[simp] theorem lineError_gens (line : Nat) (s : State) : (lineError line s).gens = s.gens := by simp [lineError]
@[simp] theorem unleased_gens (l : Nat) (write : Bool) (s : State) : (unleased l write s).gens = s.gens := by simp [unleased]
@[simp] theorem corrected_gens (k : Nat) (s : State) : (corrected k s).gens = s.gens := by rfl

@[simp] theorem cxlMemRead_gens (l a words : Nat) (ue : Bool) (s : State) : (cxlMemRead l a words ue s).gens = s.gens := by
  simp only [cxlMemRead]
  (repeat' split) <;> simp

@[simp] theorem cxlMemWrite_gens (l a : Nat) (bytes : List Byte) (poison : Bool) (s : State) :
    (cxlMemWrite l a bytes poison s).gens = s.gens := by
  simp only [cxlMemWrite]
  (repeat' split) <;> simp

@[simp] theorem archiveCopyDone_gens (r words : Nat) (ue : Option Nat) (s : State) :
    (archiveCopyDone r words ue s).gens = s.gens := by
  simp only [archiveCopyDone]
  (repeat' split) <;> simp

/-! ### Spools and strips -/

@[simp] theorem spDrop_gens (n reason : Nat) (r : Rec) (s : State) : (spDrop n reason r s).gens = s.gens := by simp [spDrop]
@[simp] theorem levelFell_gens (n : Nat) (s : State) : (levelFell n s).gens = s.gens := by simp [levelFell]
@[simp] theorem levels_gens (s : State) : (levels s).gens = s.gens := by simp [levels, levelRose]

@[simp] theorem takeHead_gens (n : Nat) (s : State) : (takeHead n s).gens = s.gens := by
  simp only [takeHead]
  split <;> simp

@[simp] theorem markHead_gens (n strip k : Nat) (s : State) : (markHead n strip k s).gens = s.gens := by
  simp only [markHead]
  split <;> simp

@[simp] theorem stallEnds_gens (n : Nat) (s : State) : (stallEnds n s).gens = s.gens := by
  simp only [stallEnds]
  split <;> simp

@[simp] theorem releaseDone_gens (n : Nat) (s : State) : (releaseDone n s).gens = s.gens := by
  simp only [releaseDone]
  (repeat' split) <;> simp [endBinding]

@[simp] theorem settleSpool_gens (n fuel : Nat) (s : State) : (settleSpool n fuel s).gens = s.gens := by
  induction fuel generalizing s with
  | zero => rfl
  | succ fuel ih =>
    simp only [settleSpool]
    (repeat' split) <;> simp [ih]

@[simp] theorem settleAll_gens (s : State) : (settleAll s).gens = s.gens := by simp [settleAll, stallSync, stripLook]

@[simp] theorem forwardOne_gens (n : Nat) (s : State) : (forwardOne n s).gens = s.gens := by
  simp only [forwardOne]
  (repeat' split) <;> simp

@[simp] theorem commitRec_gens (r : Rec) (s : State) : (commitRec r s).gens = s.gens := by simp [commitRec, makeRoom]

@[simp] theorem State.setStaged_gens (s : State) (prod h : Nat) (ws : List Word) : (s.setStaged prod h ws).gens = s.gens := by
  simp [State.setStaged]

@[simp] theorem granuleLost_gens (ev prod h n : Nat) (ws : List Word) (s : State) : (granuleLost ev prod h n ws s).gens = s.gens := by
  simp [granuleLost]

@[simp] theorem commitCycle_gens (prod : Nat) (s : State) : (commitCycle prod s).gens = s.gens := by
  simp only [commitCycle]
  split <;> simp

@[simp] theorem stageWord_gens (prod h tag : Nat) (w : Word) (s : State) : (stageWord prod h tag w s).gens = s.gens := by
  simp only [stageWord]
  split <;> simp

@[simp] theorem snapshotIn_gens (r : Rec) (s : State) : (snapshotIn r s).gens = s.gens := by
  simp only [snapshotIn]
  (repeat' split) <;> simp

@[simp] theorem recordCommit_gens (prod spool : Nat) (words : List (Nat × Word)) (s : State) :
    (recordCommit prod spool words s).gens = s.gens := by
  simp only [recordCommit]
  (repeat' split) <;> simp

@[simp] theorem rollback_gens (prod : Nat) (s : State) : (rollback prod s).gens = s.gens := by
  simp only [rollback]
  split <;> simp

@[simp] theorem stripItem_gens (n : Nat) (s : State) : (stripItem n s).gens = s.gens := by simp [stripItem]

theorem granuleBad_gens {n : Nat} {ue : Bool} {g : Granule} {s t : State} (h : granuleBad n ue g s = some t) : t.gens = s.gens := by
  unfold granuleBad at h
  split at h
  · rw [← Option.some.inj h]
    split <;> simp
  · cases h

@[simp] theorem cascadeForward_gens (n : Nat) (ue : Bool) (s : State) : (cascadeForward n ue s).gens = s.gens := by
  unfold cascadeForward
  split
  · split
    · split
      · split
        · next h => exact granuleBad_gens h
        · simp
      · rfl
    · rfl
  · rfl

@[simp] theorem slotWrite_gens (n : Nat) (ue : Bool) (s : State) : (slotWrite n ue s).gens = s.gens := by
  unfold slotWrite
  split
  · rfl
  · split
    · next h => exact granuleBad_gens h
    · split <;> simp

@[simp] theorem passMark_gens (mark : Nat) (s : State) : (passMark mark s).gens = s.gens := by simp [passMark]

@[simp] theorem tailReadComplete_gens (s : State) : (tailReadComplete s).gens = s.gens := by
  simp only [tailReadComplete]
  (repeat' split) <;> simp [ownerRead]

@[simp] theorem stallReread_gens (n : Nat) (s : State) : (stallReread n s).gens = s.gens := by
  simp only [stallReread]
  split <;> simp

@[simp] theorem stripStall_gens (n : Nat) (s : State) : (stripStall n s).gens = s.gens := by
  simp only [stripStall]
  split <;> simp

@[simp] theorem rewindTailRead_gens (n : Nat) (s : State) : (rewindTailRead n s).gens = s.gens := by
  simp only [rewindTailRead]
  split <;> simp

@[simp] theorem rewindStrips_gens (p : Nat → Bool) (s : State) : (rewindStrips p s).gens = s.gens := by simp [rewindStrips]

/-! ### Rings -/

@[simp] theorem fetchKick_gens (r k : Nat) (s : State) : (fetchKick r k s).gens = s.gens := by
  induction k generalizing s with
  | zero => rfl
  | succ k ih => simp [fetchKick, ih]

@[simp] theorem voidFetches_gens (r : Nat) (s : State) : (voidFetches r s).gens = s.gens := by simp [voidFetches]

@[simp] theorem tableKick_gens (r : Nat) (s : State) : (tableKick r s).gens = s.gens := by
  simp only [tableKick]
  split <;> simp

@[simp] theorem startFetch_gens (r : Nat) (s : State) : (startFetch r s).gens = s.gens := by simp [startFetch]
@[simp] theorem kickDma_gens (s : State) : (kickDma s).gens = s.gens := by simp [kickDma]

@[simp] theorem ringStop_gens (r : Nat) (s : State) : (ringStop r s).gens = s.gens := by
  simp only [ringStop]
  (repeat' split) <;> simp

@[simp] theorem ringFault_gens (r : Nat) (s : State) : (ringFault r s).gens = s.gens := by simp [ringFault]
@[simp] theorem ringsDown_gens (s : State) : (ringsDown s).gens = s.gens := by simp [ringsDown]

@[simp] theorem completionWrite_gens (r : Nat) (s : State) : (completionWrite r s).gens = s.gens := by
  simp only [completionWrite]
  split <;> simp [ringItem]

@[simp] theorem completionWaitExpiry_gens (r : Nat) (s : State) : (completionWaitExpiry r s).gens = s.gens := by
  simp only [completionWaitExpiry]
  split <;> simp

@[simp] theorem takeDescs_gens (r n : Nat) (bytes : List Byte) (c : Nat) (s : State) : (takeDescs r n bytes c s).gens = s.gens := by
  induction n generalizing bytes c s with
  | zero => rfl
  | succ n ih => simp [takeDescs, ih]

@[simp] theorem descriptorArrival_gens (s : State) : (descriptorArrival s).gens = s.gens := by
  unfold descriptorArrival
  split
  · rfl
  · dsimp only
    split
    · split <;> simp
    · rfl

@[simp] theorem badDescriptor_gens (r : Nat) (s : State) : (badDescriptor r s).gens = s.gens := by
  simp only [badDescriptor]
  (repeat' split) <;> simp

@[simp] theorem notePolicy_gens (off : Nat) (old : Word) (s : State) : (notePolicy off old s).gens = s.gens := by
  simp only [notePolicy]
  split <;> simp

@[simp] theorem applyPolicy_gens (n : Nat) (s : State) : (applyPolicy n s).gens = s.gens := by
  simp only [applyPolicy]
  (repeat' split) <;> simp

@[simp] theorem declareLoss_gens (s : State) : (declareLoss s).gens = s.gens := by simp [declareLoss]

@[simp] theorem hostLoss_gens (s : State) : (hostLoss s).gens = s.gens := by
  simp only [hostLoss]
  split <;> simp

@[simp] theorem lossIfDue_gens (s : State) : (lossIfDue s).gens = s.gens := by
  simp only [lossIfDue]
  split <;> simp

@[simp] theorem doorbellLineArrival_gens (s : State) : (doorbellLineArrival s).gens = s.gens := by
  simp only [doorbellLineArrival]
  split <;> simp [takeCounts, heartbeatSeen]

/-! ### Host link -/

@[simp] theorem aerReport_gens (f e : Nat) (advisory : Bool) (s : State) : (aerReport f e advisory s).gens = s.gens := by rfl

@[simp] theorem issuerError_gens (i : Issuer) (kind : Nat) (s : State) : (issuerError i kind s).gens = s.gens := by
  simp only [issuerError]
  (repeat' split) <;> simp [stripError, cplLost]

@[simp] theorem badTlp_gens (kind fn : Nat) (s : State) : (badTlp kind fn s).gens = s.gens := by
  simp only [badTlp]
  split <;> simp

@[simp] theorem dmaError_gens (kind fn addr : Nat) (i : Issuer) (s : State) : (dmaError kind fn addr i s).gens = s.gens := by
  simp only [dmaError]
  split <;> simp

@[simp] theorem failReq_gens (kind : Nat) (q : Req) (s : State) : (failReq kind q s).gens = s.gens := by simp [failReq]

theorem takeReq_gens {tag : Nat} {s : State} {r : Req × State} (h : takeReq tag s = some r) : r.2.gens = s.gens := by
  obtain ⟨q, -, rfl⟩ := Option.map_eq_some_iff.mp h
  simp

@[simp] theorem dmaCompletion_gens (tag kind : Nat) (data : List Byte) (s : State) :
    (dmaCompletion tag kind data s).gens = s.gens := by
  unfold dmaCompletion
  split
  · rfl
  · next h => simp [takeReq_gens h]

@[simp] theorem completionTimeout_gens (tag : Nat) (s : State) : (completionTimeout tag s).gens = s.gens := by
  unfold completionTimeout
  split
  · rfl
  · next h => simp [takeReq_gens h]

@[simp] theorem ecrcError_gens (f : Nat) (tag : Option Nat) (s : State) : (ecrcError f tag s).gens = s.gens := by
  unfold ecrcError
  split
  · rfl
  · split
    · simp
    · split
      · simp
      · next h => simp [takeReq_gens h]

@[simp] theorem linkError_gens (kind : Nat) (s : State) : (linkError kind s).gens = s.gens := by
  simp only [linkError]
  split <;> simp

@[simp] theorem flushVector_gens (f v : Nat) (s : State) : (flushVector f v s).gens = s.gens := by simp [flushVector]
@[simp] theorem fnResume_gens (f : Nat) (s : State) : (fnResume f s).gens = s.gens := by simp [fnResume, flushPending]

@[simp] theorem cfgWrite_gens (f : Nat) (field : CfgField) (value : Nat) (s : State) : (cfgWrite f field value s).gens = s.gens := by
  simp only [cfgWrite]
  split <;> simp

@[simp] theorem fnReady_gens (f : Nat) (s : State) : (fnReady f s).2.gens = s.gens := by
  unfold fnReady
  dsimp only
  (repeat' split) <;> simp

@[simp] theorem configurationRequest_gens (f : Nat) (field : CfgField) (write : Option Nat) (s : State) :
    (configurationRequest f field write s).gens = s.gens := by
  simp only [configurationRequest]
  (repeat' split) <;> simp

@[simp] theorem vectorIntervalEnd_gens (v : Nat) (s : State) : (vectorIntervalEnd v s).gens = s.gens := by
  simp only [vectorIntervalEnd]
  split <;> simp

@[simp] theorem barUse_gens {k : State → State} (h : ∀ s, (k s).gens = s.gens) (f : Nat) (isRead : Bool) (s : State) :
    (barUse f isRead k s).gens = s.gens := by
  simp [barUse, h]

@[simp] theorem itemBack_gens (a : Nat) (i : Issuer) (s : State) : (itemBack a i s).gens = s.gens := by
  simp only [itemBack]
  split <;> simp

@[simp] theorem discardWrites_gens (p : Nat → Bool) (n kind : Nat) (s : State) : (discardWrites p n kind s).gens = s.gens := by
  simp [discardWrites]

@[simp] theorem copyStops_gens (k kind : Nat) (s : State) : (copyStops k kind s).gens = s.gens := by
  simp only [copyStops]
  split <;> simp

@[simp] theorem linkDown_gens (writes : Nat) (copied : Option Nat) (s : State) : (linkDown writes copied s).gens = s.gens := by
  simp only [linkDown]
  (repeat' split) <;> simp

@[simp] theorem requesterReset_gens (f : Nat) (s : State) : (requesterReset f s).gens = s.gens := by simp [requesterReset]
@[simp] theorem trainLink_gens (s : State) : (trainLink s).gens = s.gens := by simp [trainLink]

@[simp] theorem functionLevelReset_gens (f writes : Nat) (copied : Option Nat) (s : State) :
    (functionLevelReset f writes copied s).gens = s.gens := by
  simp only [functionLevelReset]
  (repeat' split) <;> simp [cfgReset]

@[simp] theorem ptmDialogStart_gens (s : State) : (ptmDialogStart s).gens = s.gens := by
  unfold ptmDialogStart
  split
  · dsimp only
    split <;> simp
  · rfl

@[simp] theorem ptmCapture_gens (t41 t2 prop : Nat) (s : State) : (ptmCapture t41 t2 prop s).gens = s.gens := by
  simp only [ptmCapture]
  split <;> simp

@[simp] theorem ptmMiss_gens (s : State) : (ptmMiss s).gens = s.gens := by
  simp only [ptmMiss]
  split <;> simp

@[simp] theorem mailbox_gens (l code : Nat) (payload : List Nat) (s : State) : (mailbox l code payload s).gens = s.gens := by
  simp [mailbox]

/-! ### Measurement -/

@[simp] theorem leaveLadder_gens (hold : Nat) (n : Nat) (s : State) : (leaveLadder hold n s).gens = s.gens := by simp [leaveLadder]

@[simp] theorem calAbandon_gens (n : Nat) (all : Bool) (s : State) : (calAbandon n all s).gens = s.gens := by
  unfold calAbandon
  rw [gens_foldl]
  · simp
  · intro s k
    split <;> simp

@[simp] theorem calState_gens (n : Nat) (s : State) : (calState n s).gens = s.gens := by
  simp only [calState]
  split <;> simp

@[simp] theorem calDue_gens (n : Nat) (s : State) : (calDue n s).gens = s.gens := by
  simp only [calDue]
  split <;> simp

@[simp] theorem calForced_gens (n : Nat) (s : State) : (calForced n s).gens = s.gens := by
  simp only [calForced]
  split <;> simp

@[simp] theorem ladderGrant_gens (s : State) : (ladderGrant s).gens = s.gens := by
  simp only [ladderGrant]
  split <;> simp

@[simp] theorem judgeCal_gens (k : Nat) (x : CalIn) (s : State) : (judgeCal k x s).2.gens = s.gens := by
  unfold judgeCal
  dsimp only
  (repeat' split) <;> simp

@[simp] theorem endCal_gens (k : Nat) (pass : Bool) (x : CalIn) (s : State) : (endCal k pass x s).gens = s.gens := by simp [endCal]

@[simp] theorem calWindowEnd_gens (n : Nat) (x y : CalIn) (s : State) : (calWindowEnd n x y s).gens = s.gens := by
  simp only [calWindowEnd]
  (repeat' split) <;> simp

@[simp] theorem ownSample_gens (s : State) (k t : Nat) (l : List DecVal) : (ownSample s k t l).2.gens = s.gens := by
  simp [ownSample]

@[simp] theorem pushNegative_gens (n : Nat) (p : Sample) (flags rate : Nat) (snap : Bool) (s : State) :
    (pushNegative n p flags rate snap s).gens = s.gens := by
  rfl

@[simp] theorem rateStep_gens (n : Nat) (p : Sample) (s : State) : (rateStep n p s).gens = s.gens := by simp [rateStep]

@[simp] theorem pathCheck_gens (n : Nat) (gap : Bool) (v fast : Int) (s : State) : (pathCheck n gap v fast s).gens = s.gens := by
  simp [pathCheck]

@[simp] theorem gangCheck_gens (n : Nat) (gap : Bool) (v v2 : Int) (s : State) : (gangCheck n gap v v2 s).gens = s.gens := by
  simp [gangCheck]

@[simp] theorem toCi_gens (n : Nat) (p : Sample) (s : State) : (toCi n p s).gens = s.gens := by simp [toCi]
@[simp] theorem toFixer_gens (n : Nat) (p : Sample) (s : State) : (toFixer n p s).gens = s.gens := by simp [toFixer]
@[simp] theorem toPe_gens (d : Nat) (i : PeInput) (s : State) : (toPe d i s).gens = s.gens := by simp [toPe]
@[simp] theorem takeValues_gens (k : Nat) (l : List DecVal) (s : State) : (takeValues k l s).gens = s.gens := by rfl
@[simp] theorem windowOver_gens (k t : Nat) (s : State) : (windowOver k t s).gens = s.gens := by rfl

@[simp] theorem sampleWindowEnd_gens (n : Nat) (w w2 : List DecVal) (delay : Nat) (s : State) :
    (sampleWindowEnd n w w2 delay s).gens = s.gens := by
  simp only [sampleWindowEnd, apply_ite Prod.snd, gens_ite, raise_gens, State.setMi_gens, ite_self, ownSample_gens,
    pathCheck_gens, gangCheck_gens, toCi_gens, toFixer_gens, toPe_gens, rateStep_gens, takeValues_gens,
    stateReads_gens, advanceTo_gens, pushNegative_gens, windowOver_gens]
  generalize execOf _ 0x17 n = o
  cases o <;> simp only [gens_ite, raise_gens, State.setMi_gens, ite_self, ownSample_gens, pathCheck_gens,
    gangCheck_gens, toCi_gens, toFixer_gens, toPe_gens, rateStep_gens, takeValues_gens, stateReads_gens,
    advanceTo_gens, setStage_gens, windowOver_gens]

/-! ### Print engine and fixer -/

@[simp] theorem State.setPeCh_gens (s : State) (n : Nat) (x : PeCh) : (s.setPeCh n x).gens = s.gens := by rfl

@[simp] theorem printInputArrival_gens (s : State) : (printInputArrival s).gens = s.gens := by
  simp only [printInputArrival]
  split <;> simp

@[simp] theorem fuseTemp_gens (n tol : Nat) (l : List Cand) (s : State) : (fuseTemp n tol l s).1.gens = s.gens := by
  simp [fuseTemp]

@[simp] theorem formPrint_gens (e : PeEpoch) (g : PeLedger) (l : List PeInput) (s : State) :
    (formPrint e g l s).2.gens = s.gens := by
  simp only [formPrint, gens_ite, raise_gens, State.setPeCh_gens, fuseTemp_gens, ite_self]

@[simp] theorem commitGrade_gens (n : Nat) (g : Grade) (ref : Option Nat) (s : State) : (commitGrade n g ref s).gens = s.gens := by
  simp [commitGrade]

@[simp] theorem regrade_gens (n : Nat) (s : State) : (regrade n s).gens = s.gens := by
  simp only [regrade]
  (repeat' split) <;> simp

@[simp] theorem judgeOcv_gens (e : PeEpoch) (s : State) : (judgeOcv e s).gens = s.gens := by
  simp only [judgeOcv]
  (repeat' split) <;> simp

@[simp] theorem printEmit_gens (s : State) : (printEmit s).gens = s.gens := by
  simp only [printEmit]
  split <;> simp [gradeRuns, emitOne, quietEpoch]

/-! ### Encoders and the sensor port -/

@[simp] theorem State.setEnc_gens (s : State) (n : Nat) (e : Encoder) : (s.setEnc n e).gens = s.gens := by rfl
@[simp] theorem State.setSn_gens (s : State) (x : SensorPort) : (s.setSn x).gens = s.gens := by rfl

@[simp] theorem capEvent_gens (n k : Nat) (s : State) : (capEvent n k s).gens = s.gens := by
  simp only [capEvent]
  (repeat' split) <;> simp [capEnd]

@[simp] theorem setCount_gens (n : Nat) (v : Int) (s : State) : (setCount n v s).gens = s.gens := by simp [setCount]
@[simp] theorem nextClock_gens (s : State) : (nextClock s).gens = s.gens := by rfl
@[simp] theorem takeLatch_gens (n : Nat) (s : State) : (takeLatch n s).gens = s.gens := by simp [takeLatch]

@[simp] theorem serialFrame_gens (n : Nat) (f : FrameIn) (s : State) : (serialFrame n f s).gens = s.gens := by
  simp only [serialFrame]
  (repeat' split) <;> simp

@[simp] theorem snStart_gens (s : State) : (snStart s).gens = s.gens := by
  simp only [snStart]
  split <;> simp

@[simp] theorem sensorPollDue_gens (s : State) : (sensorPollDue s).gens = s.gens := by
  simp only [sensorPollDue]
  (repeat' split) <;> simp

@[simp] theorem sensorTransferDone_gens (rx : List Byte) (s : State) : (sensorTransferDone rx s).gens = s.gens := by
  simp only [sensorTransferDone]
  split <;> simp

/-! ### Fixture buses -/

@[simp] theorem State.setCan_gens (s : State) (b : Nat) (x : CanBus) : (s.setCan b x).gens = s.gens := by rfl

@[simp] theorem canAttempt_gens (b : Nat) (s : State) : (canAttempt b s).gens = s.gens := by
  simp only [canAttempt]
  split <;> simp

@[simp] theorem canAbandon_gens (b detail : Nat) (s : State) : (canAbandon b detail s).gens = s.gens := by
  simp only [canAbandon]
  (repeat' split) <;> simp

@[simp] theorem canAcked_gens (b tec rec_ tdc : Nat) (s : State) : (canAcked b tec rec_ tdc s).gens = s.gens := by
  simp only [canAcked]
  (repeat' split) <;> simp

@[simp] theorem canTimeout_gens (b : Nat) (s : State) : (canTimeout b s).gens = s.gens := by
  simp only [canTimeout]
  split <;> simp

@[simp] theorem canRx_gens (b : Nat) (f : CanFrame) (tec rec_ : Nat) (s : State) : (canRx b f tec rec_ s).gens = s.gens := by
  simp only [canRx]
  (repeat' split) <;> simp [canRecord, canToPe]

@[simp] theorem canErrors_gens (b tec rec_ : Nat) (s : State) : (canErrors b tec rec_ s).gens = s.gens := by
  simp only [canErrors]
  (repeat' split) <;> simp

@[simp] theorem canAsleep_gens (b : Nat) (s : State) : (canAsleep b s).gens = s.gens := by simp [canAsleep]
@[simp] theorem canSleep_gens (b : Nat) (s : State) : (canSleep b s).gens = s.gens := by simp [canSleep]
@[simp] theorem wakeRaise_gens (b : Nat) (s : State) : (wakeRaise b s).gens = s.gens := by simp [wakeRaise]

@[simp] theorem canWake_gens (b cause filter : Nat) (f : Option CanFrame) (s : State) :
    (canWake b cause filter f s).gens = s.gens := by
  simp [canWake]

@[simp] theorem canUnsleep_gens (b : Nat) (s : State) : (canUnsleep b s).gens = s.gens := by simp [canUnsleep]

@[simp] theorem phaseCounts_gens (fog ns : Nat) (s : State) : (phaseCounts fog ns s).2.gens = s.gens := by
  unfold phaseCounts
  (repeat' split) <;> simp

@[simp] theorem scanPhase_gens (fog : Nat) (a : PatternScan × State) (ph : Bool × Nat) : (scanPhase fog a ph).2.gens = a.2.gens := by
  unfold scanPhase
  dsimp only
  (repeat' split) <;> simp

theorem scanPhases_gens (fog : Nat) (l : List (Bool × Nat)) (a : PatternScan × State) :
    (l.foldl (scanPhase fog) a).2.gens = a.2.gens :=
  foldl_keep (fun a : PatternScan × State => a.2.gens) _ (scanPhase_gens fog) l a

@[simp] theorem wakePattern_gens (b : Nat) (phases : List (Bool × Nat)) (s : State) : (wakePattern b phases s).gens = s.gens := by
  simp [wakePattern, scanPhases_gens]

@[simp] theorem wakeFrame_gens (b : Nat) (f : CanFrame) (kind : Nat) (s : State) : (wakeFrame b f kind s).gens = s.gens := by
  simp only [wakeFrame]
  (repeat' split) <;> simp

/-! ### Wand -/

@[simp] theorem State.setField_gens (s : State) (f : FieldDie) : (s.setField f).gens = s.gens := by rfl
@[simp] theorem State.setValve_gens (s : State) (n : Nat) (v : Valve) : (s.setValve n v).gens = s.gens := by rfl
@[simp] theorem legSettle_gens (n : Nat) (s : State) : (legSettle n s).gens = s.gens := by simp [legSettle]
@[simp] theorem legSettleAll_gens (s : State) : (legSettleAll s).gens = s.gens := by simp [legSettleAll]

@[simp] theorem pairSettle_gens (n : Nat) (s : State) : (pairSettle n s).gens = s.gens := by
  simp only [pairSettle]
  split <;> simp

@[simp] theorem finishRun_gens (n : Nat) (s : State) : (finishRun n s).gens = s.gens := by simp [finishRun]

@[simp] theorem stopRun_gens (n cause code : Nat) (fast : Bool) (s : State) : (stopRun n cause code fast s).gens = s.gens := by
  simp [stopRun]

@[simp] theorem stopAllRuns_gens (cause : Nat) (s : State) : (stopAllRuns cause s).gens = s.gens := by simp [stopAllRuns]

@[simp] theorem valveConfig_gens (n : Nat) (w : Word) (s : State) : (valveConfig n w s).gens = s.gens := by
  simp [valveConfig, decayFast]

@[simp] theorem wandRunBit_gens (n : Nat) (b : Bool) (s : State) : (wandRunBit n b s).gens = s.gens := by simp [wandRunBit, wandStart]

@[simp] theorem wandStep_gens {k : Valve → Word → State → State} (h : ∀ v w s, (k v w s).gens = s.gens) (n : Nat)
    (p : Nat → Word → Bool) (s : State) : (wandStep n p k s).gens = s.gens := by
  unfold wandStep
  split
  · split
    · rfl
    · simp [h]
  · rfl

@[simp] theorem wandWord_gens {k : Valve → Word → State → State} (h : ∀ v w s, (k v w s).gens = s.gens) (n op : Nat) (s : State) :
    (wandWord n op k s).gens = s.gens := wandStep_gens h ..

@[simp] theorem wandNext_gens (n pc dur : Nat) (v : Valve) (s : State) : (wandNext n pc dur v s).gens = s.gens := by rfl

@[simp] theorem meanSeen_gens (n : Nat) (mean : Int) (s : State) : (meanSeen n mean s).gens = s.gens := by
  simp only [meanSeen]
  (repeat' split) <;> simp

@[simp] theorem inputSeen_gens (i : Nat) (level : Bool) (s : State) : (inputSeen i level s).gens = s.gens := by
  refine gens_foldl _ _ _ fun s n => ?_
  dsimp only
  (repeat' split) <;> simp

@[simp] theorem diagOn_gens (n : Nat) (s : State) : (diagOn n s).gens = s.gens := by simp [diagOn]

@[simp] theorem regulationPeriod_gens (n : Nat) (mean : Int) (duty : Nat) (s : State) :
    (regulationPeriod n mean duty s).gens = s.gens := by
  rcases Option.eq_none_or_eq_some (s.valve n).regAt with h | ⟨t, h⟩
  · rcases Option.eq_none_or_eq_some (s.valve n).heldAt with held | ⟨u, held⟩ <;>
      simp only [regulationPeriod, h, held, gens_ite, State.setValve_gens, meanSeen_gens, diagOn_gens, raise_gens, ite_self]
  · rcases Option.eq_none_or_eq_some ((advanceClk (t + regPeriod (s.valve n).cfg) s).valve n).heldAt with held | ⟨u, held⟩ <;>
      simp only [regulationPeriod, h, held, gens_ite, State.setValve_gens, meanSeen_gens, diagOn_gens, raise_gens,
        advanceClk_gens, ite_self]

@[simp] theorem peakCapped_gens (n : Nat) (s : State) : (peakCapped n s).gens = s.gens := by
  simp only [peakCapped]
  split <;> simp

@[simp] theorem drvTrip_gens (n leg ma since lasts : Nat) (s : State) : (drvTrip n leg ma since lasts s).gens = s.gens := by
  simp only [drvTrip]
  (repeat' split) <;> simp [legTrip]

/-! ### Easel -/

@[simp] theorem State.setSw_gens (s : State) (n : Nat) (x : Switch) : (s.setSw n x).gens = s.gens := by rfl
@[simp] theorem swSettle_gens (n : Nat) (s : State) : (swSettle n s).gens = s.gens := by simp [swSettle, swOff]
@[simp] theorem swSettleAll_gens (s : State) : (swSettleAll s).gens = s.gens := by simp [swSettleAll]
@[simp] theorem fieldSafe_gens (cause : Nat) (s : State) : (fieldSafe cause s).gens = s.gens := by simp [fieldSafe]
@[simp] theorem swEvent_gens (s : State) : (swEvent s).gens = s.gens := by rfl

@[simp] theorem sendUplink_gens (t : Nat) (x : FieldIn) (s : State) : (sendUplink t x s).gens = s.gens := by
  simp [sendUplink, heldCarried]

@[simp] theorem refilter_gens (s : State) : (refilter s).gens = s.gens := by rfl
@[simp] theorem rejudge_gens (s : State) : (rejudge s).gens = s.gens := by simp [rejudge]

@[simp] theorem applySlot_gens (p : Option Nat × State) (slot : Nat × Word) : (applySlot p slot).2.gens = p.2.gens := by
  simp only [applySlot, apply_ite Prod.snd, gens_ite, State.setField_gens, rejudge_gens, refilter_gens, raise_gens,
    State.setValve_gens, valveConfig_gens, ite_self]
  cases p.1 <;> simp

theorem applySlots_gens (l : List (Nat × Word)) (p : Option Nat × State) : (l.foldl applySlot p).2.gens = p.2.gens :=
  foldl_keep (fun p : Option Nat × State => p.2.gens) _ applySlot_gens l p

@[simp] theorem applyBatch_gens (slots : List (Nat × Word)) (sw vd : Nat) (outputs : Bool) (s : State) :
    (applyBatch slots sw vd outputs s).gens = s.gens := by
  simp [applyBatch, applySlots_gens]

@[simp] theorem ezComplete_gens (p : Exec → Bool) (st : Status) (detail : Nat) (s : State) :
    (ezComplete p st detail s).gens = s.gens := by
  refine gens_foldl _ _ _ fun s r => ?_
  split
  · split
    · split <;> simp
    · rfl
  · rfl

@[simp] theorem ezFail_gens (s : State) : (ezFail s).gens = s.gens := by simp [ezFail]

@[simp] theorem bridgeSafe_gens (cause : Nat) (s : State) : (bridgeSafe cause s).gens = s.gens := by
  simp only [bridgeSafe]
  split <;> simp

@[simp] theorem enterNotReady_gens (s : State) : (enterNotReady s).gens = s.gens := by rfl

@[simp] theorem formBatch_gens (s : State) : (formBatch s).gens = s.gens := by
  unfold formBatch
  refine (gens_foldl _ _ _ fun s r => ?_).trans ?_
  · dsimp only
    split <;> simp
  · simp

@[simp] theorem sendDown_gens (s : State) : (sendDown s).gens = s.gens := by
  simp only [sendDown]
  (repeat' split) <;> simp [releaseOut]

@[simp] theorem batchResend_gens (s : State) : (batchResend s).gens = s.gens := by
  simp only [batchResend]
  split <;> simp

@[simp] theorem downlinkFrame_gens (line : Option Nat) (x : FieldIn) (s : State) : (downlinkFrame line x s).gens = s.gens := by
  simp only [downlinkFrame]
  (repeat' split) <;> simp [heldTold]

@[simp] theorem helloUplink_gens (x : FieldIn) (s : State) : (helloUplink x s).gens = s.gens := by
  simp only [helloUplink]
  (repeat' split) <;> simp

@[simp] theorem inChange_gens (u : UpFrame) (s : State) : (inChange u s).gens = s.gens := by
  simp only [inChange]
  split <;> simp

@[simp] theorem takeAck_gens (ack : Nat) (s : State) : (takeAck ack s).gens = s.gens := by
  simp only [takeAck]
  split <;> simp

@[simp] theorem goodUplink_gens (u : UpFrame) (s : State) : (goodUplink u s).gens = s.gens := by
  simp only [goodUplink]
  split <;> simp [heldHeard, releaseActed, runReport]

@[simp] theorem uplinkFrame_gens (line : Option Nat) (s : State) : (uplinkFrame line s).gens = s.gens := by
  simp only [uplinkFrame]
  (repeat' split) <;> simp

@[simp] theorem barrierLoss_gens (reported : Bool) (s : State) : (barrierLoss reported s).gens = s.gens := by simp [barrierLoss]
@[simp] theorem setLevel_gens (n : Nat) (b : Bool) (s : State) : (setLevel n b s).gens = s.gens := by simp [setLevel]
@[simp] theorem acceptLevel_gens (n : Nat) (s : State) : (acceptLevel n s).gens = s.gens := by simp [acceptLevel]

@[simp] theorem supplyOnset_gens (k cls : Nat) (v : Option Int) (s : State) : (supplyOnset k cls v s).gens = s.gens := by
  simp [supplyOnset]

@[simp] theorem swLatch_gens (n : Nat) (s : State) : (swLatch n s).gens = s.gens := by simp [swLatch]

@[simp] theorem clampEnd_gens (n : Nat) (s : State) : (clampEnd n s).gens = s.gens := by
  simp only [clampEnd]
  (repeat' split) <;> simp

@[simp] theorem valveQueue_gens (r : Nat) (slots : List (Nat × Word)) (run : Option (Nat × Bool)) (s : State) :
    (valveQueue r slots run s).gens = s.gens := by
  simp [valveQueue]

/-! ### Domains -/

@[simp] theorem enterStop_gens (cls : Nat) (src : StopSource) (x : Nat) (unsent : Bool) (s : State) :
    (enterStop cls src x unsent s).gens = s.gens := by
  simp [enterStop, stopChannel]

@[simp] theorem scrubDown_gens (s : State) : (scrubDown s).gens = s.gens := by rfl

@[simp] theorem domLeaves_gens (d : Nat) (fenced : Bool) (s : State) : (domLeaves d fenced s).gens = s.gens := by
  simp [domLeaves, releaseGrant, miDown, peDown, fxDown, canDown, easelDown]

@[simp] theorem endTransition_gens (d : Nat) (st : DomState) (s : State) : (endTransition d st s).gens = s.gens := by rfl

@[simp] theorem followTarget_gens (d : Nat) (s : State) : (followTarget d s).gens = s.gens := by
  simp only [followTarget]
  split <;> simp [startUp, startDown]

@[simp] theorem isolate_gens (d words : Nat) (s : State) : (isolate d words s).gens = s.gens := by rfl
@[simp] theorem setTarget_gens (d : Nat) (on : Bool) (s : State) : (setTarget d on s).gens = s.gens := by simp [setTarget]
@[simp] theorem voidTable_gens (r : Nat) (s : State) : (voidTable r s).gens = s.gens := by simp [voidTable]

@[simp] theorem fenceCommands_gens (n : Nat) (s : State) : (fenceCommands n s).gens = s.gens := by
  refine gens_foldl _ _ _ fun s r => ?_
  split
  · split <;> simp
  · rfl

@[simp] theorem fenceChannel_gens (d cause : Nat) (s : State) : (fenceChannel d cause s).gens = s.gens := by
  simp [fenceChannel, ch_gen]

@[simp] theorem fence_gens (d cause stopCause words : Nat) (s : State) : (fence d cause stopCause words s).gens = s.gens := by
  simp only [fence]
  (repeat' split) <;> simp

@[simp] theorem domainDone_gens (op d result : Nat) (s : State) : (domainDone op d result s).gens = s.gens := by
  simp only [domainDone]
  (repeat' split) <;> simp [channelReadmitted]

@[simp] theorem readmitFails_gens (d detail : Nat) (s : State) : (readmitFails d detail s).gens = s.gens := by
  simp only [readmitFails]
  split <;> simp

@[simp] theorem hubReadmit_gens (bits : Word) (s : State) : (hubReadmit bits s).gens = s.gens := by simp [hubReadmit]

@[simp] theorem upPhaseEnd_gens (d : Nat) (s : State) : (upPhaseEnd d s).gens = s.gens := by
  simp only [upPhaseEnd]
  (repeat' split) <;> simp [fieldDomUp]

/-! ### On-chip memories -/

@[simp] theorem passBegin_gens (s : State) : (passBegin s).gens = s.gens := by rfl

/-- What a pass that falls due does; apart from `scrubPassStart`, so that the kernel need not compare the clock's literals. -/
theorem passDue_gens (s : State) :
    (let s := { s with mm := { s.mm with passAt := s.tk.now } }
      if s.mm.scrubbing then { s with mm := { s.mm with passDue := true } } else passBegin s).gens = s.gens := by
  dsimp only
  split <;> simp

@[simp] theorem scrubPassStart_gens (s : State) : (scrubPassStart s).gens = s.gens := by
  unfold scrubPassStart
  split
  · exact (passDue_gens _).trans (advanceTo_gens ..)
  · rfl

@[simp] theorem scrubStep_gens (s : State) : (scrubStep s).gens = s.gens := by
  simp only [scrubStep]
  (repeat' split) <;> simp

@[simp] theorem scrubAccess_gens (kind : Nat) (s : State) : (scrubAccess kind s).gens = s.gens := by
  simp only [scrubAccess]
  (repeat' split) <;> simp [scrubTime]

@[simp] theorem clearUnexposed_gens (a : Nat) (s : State) : (clearUnexposed a s).gens = s.gens := by
  simp only [clearUnexposed]
  split <;> simp

@[simp] theorem clearUncorrectable_gens (a : Nat) (s : State) : (clearUncorrectable a s).gens = s.gens := by
  simp only [clearUncorrectable]
  split <;> simp

@[simp] theorem latchClear_gens (w : Word) (s : State) : (latchClear w s).gens = s.gens := by simp [latchClear]

/-! ### Stop bath -/

@[simp] theorem pinStop_gens (s : State) : (pinStop s).gens = s.gens := by
  simp only [pinStop]
  split <;> simp

@[simp] theorem stopCmd_gens (r : Nat) (d : List Byte) (s : State) : (stopCmd r d s).gens = s.gens := by
  refine checked_gens (fun s => ?_) ..
  dsimp only
  split <;> simp

@[simp] theorem testGap_gens (n : Nat) (s : State) : (testGap n s).gens = s.gens := by simp [testGap]

@[simp] theorem selftest_gens (r : Nat) (d : List Byte) (s : State) : (selftest r d s).gens = s.gens := by
  refine checked_gens (fun s => ?_) ..
  split <;> simp

@[simp] theorem march_gens (s : State) : (march s).gens = s.gens := by
  unfold march
  dsimp only
  split
  · rw [zeroNext_gens]
    exact gens_map rfl (fun _ => rfl) fun _ => rfl
  · exact gens_map rfl (fun _ => rfl) fun _ => rfl

@[simp] theorem selftestFinished_gens (r mask : Nat) (failing : List Nat) (s : State) :
    (selftestFinished r mask failing s).gens = s.gens := by
  simp only [selftestFinished]
  split <;> simp

/-! ### Timekeeper -/

@[simp] theorem noteWas_gens (b : Nat) (old s : State) : (noteWas b old s).gens = s.gens := by simp [noteWas]

@[simp] theorem islandTime_gens (d : Nat) (rate : Int) (s : State) : (islandTime d rate s).gens = s.gens := by
  simp only [islandTime]
  split <;> simp [islandEpoch]

@[simp] theorem tsyncGivesUp_gens (s : State) : (tsyncGivesUp s).gens = s.gens := by simp [tsyncGivesUp]

@[simp] theorem timeRestored_gens (t : Nat) (s : State) : (timeRestored t s).gens = s.gens := by
  simp only [timeRestored]
  split <;> simp

/-! ### Presence -/

@[simp] theorem tickTo_gens (t : Nat) (s : State) : (tickTo t s).gens = s.gens := by rfl
@[simp] theorem sealLog_gens (kind : Nat) (s : State) : (sealLog kind s).gens = s.gens := by rfl
@[simp] theorem prEvent_gens (num cls : Nat) (s : State) : (prEvent num cls s).gens = s.gens := by simp [prEvent]
@[simp] theorem sealChange_gens (isOpen : Bool) (s : State) : (sealChange isOpen s).gens = s.gens := by simp [sealChange]

@[simp] theorem refusal_gens (src missing requester ring what : Nat) (s : State) :
    (refusal src missing requester ring what s).gens = s.gens := by
  simp [refusal]

@[simp] theorem denied_gens (r : Nat) (d : List Byte) (missing : Nat) (s : State) : (denied r d missing s).gens = s.gens := by
  simp [denied]

/-! ### Coming up -/

@[simp] theorem bootCheck_gens (s : State) : (bootCheck s).gens = s.gens := by simp [bootCheck]

/-! ### Ring commands of the channels -/

@[simp] theorem startActs_gens (r n : Nat) (d : List Byte) (s : State) : (startActs r n d s).gens = s.gens := by
  simp only [startActs]
  split <;> simp

@[simp] theorem start_gens (r : Nat) (d : List Byte) (s : State) : (start r d s).gens = s.gens := by
  refine checked_gens (fun s => ?_) ..
  dsimp only
  split <;> simp

@[simp] theorem reachesDark_gens (n : Nat) (s : State) : (reachesDark n s).gens = s.gens := by
  simp only [reachesDark]
  (repeat' split) <;> simp

@[simp] theorem dischargeEnd_gens (n : Nat) (s : State) : (dischargeEnd n s).gens = s.gens := by
  simp only [dischargeEnd]
  (repeat' split) <;> simp

@[simp] theorem holdResume_gens (r : Nat) (d : List Byte) (want : ChState) (ask : ChCmds → ChCmds) (s : State) :
    (holdResume r d want ask s).gens = s.gens := by
  simp [holdResume]

@[simp] theorem abort_gens (r : Nat) (d : List Byte) (s : State) : (abort r d s).gens = s.gens := by
  refine checked_gens (fun s => ?_) ..
  dsimp only
  split <;> simp

@[simp] theorem stateEvents_gens (n : Nat) (s : State) : (stateEvents n s).gens = s.gens := by
  simp only [stateEvents]
  split <;> simp

@[simp] theorem snapshotCmd_gens (r : Nat) (d : List Byte) (s : State) : (snapshotCmd r d s).gens = s.gens := by
  refine checked_gens (fun s => ?_) ..
  dsimp only
  (repeat' split) <;> simp

@[simp] theorem epochDone_gens (r : Nat) (s : State) : (epochDone r s).gens = s.gens := by
  simp only [epochDone]
  split <;> simp

@[simp] theorem storeTable_gens (r : Nat) (d bytes : List Byte) (crc : Nat) (s : State) :
    (storeTable r d bytes crc s).gens = s.gens := by
  simp only [storeTable]
  split <;> simp [loadTable, loadSchedule, valveImage, storeRecipe, wordWritten]

@[simp] theorem tableFetchDone_gens (s : State) : (tableFetchDone s).gens = s.gens := by
  simp only [tableFetchDone]
  (repeat' split) <;> simp

/-! ### Safelight -/

@[simp] theorem parkBeat_gens (s : State) : (parkBeat s).gens = s.gens := by simp [parkBeat]

@[simp] theorem alarmMatch_gens (s : State) : (alarmMatch s).gens = s.gens := by
  simp only [alarmMatch]
  split <;> simp

/-! ### Beacons, epochs, beats and rounds -/

@[simp] theorem ciUp_gens (n : Nat) (s : State) : (ciUp n s).gens = s.gens := by
  unfold ciUp
  by_cases h : s.gangOdd n <;> simp [h]

@[simp] theorem issueBeacon_gens (t : Nat) (s : State) : (issueBeacon t s).gens = s.gens := by
  simp [issueBeacon, beaconAt, trainingBegins, reopenPort, becomesOn, domComes, miUp, encodersUp, canUp, easelUp, scrubUp,
    bathComes, tonePassOn, startOthers]

@[simp] theorem peEpochEnd_gens (a b : Nat) (s : State) : (peEpochEnd a b s).gens = s.gens :=
  gens_map rfl (fun _ => rfl) fun _ => rfl

@[simp] theorem takeEpoch_gens (b : Nat) (s : State) : (takeEpoch b s).gens = s.gens := by
  simp [takeEpoch, epochActs, fillRangeActs, spoolEpoch]

@[simp] theorem takePassed_gens (n : Nat) (s : State) : (takePassed n s).gens = s.gens := by
  induction n generalizing s with
  | zero => rfl
  | succ n ih => simp [takePassed, ih]

@[simp] theorem stepping_gens {act : State → State} (h : ∀ s, (act s).gens = s.gens) (s : State) :
    (stepping act s).gens = s.gens := by
  simp [stepping, h]

@[simp] theorem takeBeat_gens (s : State) : (takeBeat s).gens = s.gens := by simp [takeBeat]

@[simp] theorem takeRound_gens (s : State) : (takeRound s).gens = s.gens := by
  simp only [takeRound]
  split <;> simp

@[simp] theorem roundFirst_gens (s : State) : (roundFirst s).gens = s.gens := by simp [roundFirst]

/-! ### Register accesses -/

@[simp] theorem readClears_gens (b : Blk) (i : Nat) (r : RegDef) (s : State) : (readClears b i r s).gens = s.gens := by
  simp only [readClears]
  split <;> simp

@[simp] theorem regRead_gens (q : Nat) (b : Blk) (i : Nat) (r : RegDef) (s : State) : (regRead q b i r s).2.gens = s.gens := by
  unfold regRead
  split
  · rfl
  · simp

@[simp] theorem busRead_gens (q off : Nat) (s : State) : (busRead q off s).2.gens = s.gens := by
  unfold busRead
  split
  · rfl
  · split
    · simp
    · split <;> simp

@[simp] theorem store_gens (b : Blk) (i : Nat) (te : Te) (key : Nat) (reset new : Word) (s : State) :
    (store b i te key reset new s).gens = s.gens := by
  simp only [store]
  split <;> simp

@[simp] theorem ringControl_gens (old new : Word) (s : State) : (ringControl old new s).gens = s.gens := by
  simp [ringControl, enableGoes1, enableGoes0, pollGoes1]

@[simp] theorem domTargets_gens (old new : Word) (s : State) : (domTargets old new s).gens = s.gens := by simp [domTargets]
@[simp] theorem parkAsk_gens (s : State) : (parkAsk s).gens = s.gens := by simp [parkAsk]

@[simp] theorem commitLow_gens (q : Nat) (b : Blk) (i off : Nat) (s : State) : (commitLow q b i off s).gens = s.gens := by
  simp only [commitLow]
  (repeat' split) <;> simp

@[simp] theorem sqWrite_gens (q key : Nat) (v : Word) (s : State) : (sqWrite q key v s).gens = s.gens := by
  simp only [sqWrite]
  split <;> simp

@[simp] theorem hostRead_gens (f off : Nat) (s : State) : (hostRead f off s).gens = s.gens := by simp [hostRead]

@[simp] theorem takeCheck_gens (f : SheetFind) (s : State) : (takeCheck f s).gens = s.gens := by rfl


end Sys2Proof.Machine
end

section
/-!
SUPPORT. How a command changes the channels' generations (R286): a control-period boundary may take its channel's on, a device reset and the loss
of main power leave no channel standing, and nothing else changes one; and O53.
-/
namespace Sys2Proof.Machine

/-- From `s` to `t` every generation stands, or no channel's state does. -/
def KeptOrCleared (s t : State) : Prop := t.gens = s.gens ∨ t.chs = []

namespace KeptOrCleared

/-- What comes before the step and leaves the generations alone makes no difference. -/
theorem after {s u t : State} (h : u.gens = s.gens) (hu : KeptOrCleared u t) : KeptOrCleared s t := by
  rwa [KeptOrCleared, ← h]

theorem ite {c : Prop} [Decidable c] {s t u : State} (ht : KeptOrCleared s t) (hu : KeptOrCleared s u) :
    KeptOrCleared s (if c then t else u) := by
  split
  · exact ht
  · exact hu

theorem mainOn {s t : State} (h : KeptOrCleared s t) : KeptOrCleared s (mainOn s t) := .ite h (.inl rfl)

end KeptOrCleared

/-! ### The presence window and the gangs -/

@[simp] theorem closeWindow_gens (s : State) : (closeWindow s).gens = s.gens := by simp [closeWindow]

@[simp] theorem windowClose_gens (s : State) : (windowClose s).gens = s.gens := by
  simp only [windowClose]
  split <;> simp

@[simp] theorem setGang_gens (n : Nat) (on : Bool) (s : State) : (setGang n on s).gens = s.gens := by
  unfold setGang
  dsimp only
  split <;> simp

/-! ### What clears the channels -/

theorem mainOff_chs (keep : List Nat) (s : State) : (mainOff keep s).chs = [] := rfl

/-- A target that becomes ON begins at most a power-up, which leaves the channels alone (R168). -/
theorem setTarget_on_chs (d : Nat) (s : State) : (setTarget d true s).chs = s.chs := by
  unfold setTarget followTarget startUp
  dsimp only
  split <;> simp [apply_ite State.chs]

theorem fuseCheck_chs (s : State) : (fuseCheck s).chs = s.chs := by
  refine foldl_keep State.chs _ (fun s e => ?_) _ _
  split
  · exact raiseAs_chs ..
  · rfl

theorem deviceReset_chs (s : State) : (deviceReset s).chs = [] := by
  unfold deviceReset
  dsimp only
  rw [fuseCheck_chs, foldl_keep State.chs _ fun s d => setTarget_on_chs d s]
  exact mainOff_chs resetKeys s

theorem vsafeApply_keptOrCleared (s : State) : KeptOrCleared s (vsafeApply s) := by
  unfold vsafeApply
  exact .ite (.inr rfl) (.inl rfl)

theorem vcoreEnter_keptOrCleared (s : State) : KeptOrCleared s (vcoreEnter s) := by
  unfold vcoreEnter
  exact .ite (.inr (deviceReset_chs _)) (.inl rfl)

theorem deviceWake_keptOrCleared (s : State) : KeptOrCleared s (deviceWake s) := by
  unfold deviceWake
  exact .ite (.inr (deviceReset_chs _)) (.inl rfl)

theorem powerLoss_keptOrCleared (rails : List (Nat × Nat)) (s : State) : KeptOrCleared s (powerLoss rails s) := by
  unfold powerLoss
  exact .ite (.inr rfl) (.inl rfl)

theorem parkEdge_keptOrCleared (t : Nat) (s : State) : KeptOrCleared s (parkEdge t s) := by
  unfold parkEdge
  exact .ite (.inr ((foldl_keep State.chs _ (fun s k => recordWake_chs k s) _ _).trans rfl)) (.inl rfl)

/-! ### Register writes -/

/-- Only SL_CONTROL's RESET (the twentieth case, R827) acts on the generations. -/
theorem writeActs_keptOrCleared (b : Blk) (i off : Nat) (old new p : Word) (s : State) : KeptOrCleared s (writeActs b i off old new p s) := by
  unfold writeActs
  split
  case h_20 => exact .ite (.inr (deviceReset_chs _)) (.inl (by simp))
  all_goals exact .inl (by simp)

theorem regWrite_keptOrCleared (q : Nat) (b : Blk) (i : Nat) (r : RegDef) (v : Word) (s : State) : KeptOrCleared s (regWrite q b i r v s) := by
  unfold regWrite
  dsimp only
  refine .ite (.inl (by simp)) (.ite (.inl (by simp)) (.ite (.inl (by simp)) ?_))
  refine .after ?_ (writeActs_keptOrCleared ..)
  split <;> simp

theorem guardedWrite_keptOrCleared (q off : Nat) (b : Blk) (i : Nat) (r : RegDef) (v : Word) (s : State) :
    KeptOrCleared s (guardedWrite q off b i r v s) := by
  unfold guardedWrite
  dsimp only
  refine .ite (.inl (by simp)) (.ite (.inl (by simp)) ?_)
  split
  case h_2 | h_3 => exact regWrite_keptOrCleared ..
  all_goals exact .inl (by simp)

theorem busWrite_keptOrCleared (q off : Nat) (v : Word) (s : State) : KeptOrCleared s (busWrite q off v s) := by
  unfold busWrite
  refine .ite (.inl (by simp)) ?_
  split
  · exact .inl (by simp)
  · exact guardedWrite_keptOrCleared ..

theorem hostWrite_keptOrCleared (f off : Nat) (v : Word) (s : State) : KeptOrCleared s (hostWrite f off v s) := by
  unfold hostWrite barUse
  exact .ite (.inl rfl) (.ite (.after (traffic_gens s) (busWrite_keptOrCleared ..)) (.inl (by simp)))

theorem loupeAccess_keptOrCleared (off : Nat) (write : Bool) (v : Word) (s : State) : KeptOrCleared s (loupeAccess off write v s) := by
  unfold loupeAccess
  refine .ite (.inl rfl) (.ite (.inl (by simp)) (.ite (.inl (by simp)) (.ite (busWrite_keptOrCleared ..) ?_)))
  exact .inl (by simp)

/-! ### Every command -/

/-- The commands that clear the channels, each through the lemma of its meaning; then those that leave the generations alone: those whose own
function has no lemma above, by the model's files; the ring commands, which begin through `begin_`; those that act without main power; and the
rest. -/
theorem exec_keptOrCleared {c : Instr} {s t : State} (hc : ∀ n codes, c ≠ .pwmPeriodBoundary n codes) (h : exec c s = .next t) :
    KeptOrCleared s t := by
  cases c
  case pwmPeriodBoundary n codes => exact absurd rfl (hc n codes)
  case vsafeApply => cases h; exact vsafeApply_keptOrCleared s
  case vsafeLoss => cases h; exact .inr rfl
  case vcoreEnter => cases h; exact vcoreEnter_keptOrCleared s
  case powerLoss => cases h; exact powerLoss_keptOrCleared ..
  case deviceWake => cases h; exact deviceWake_keptOrCleared s
  case parkEdge => cases h; exact (parkEdge_keptOrCleared ..).mainOn
  case loupeRegisterAccess => cases h; exact (loupeAccess_keptOrCleared ..).mainOn
  case sheetRegionWrite | sqAckWrite | splitLoWrite | splitHiWrite =>
    cases h; exact (KeptOrCleared.ite (hostWrite_keptOrCleared ..) (.inl rfl)).mainOn
  case undefinedOffsetAccess =>
    cases h; exact (KeptOrCleared.ite (.inl rfl) (.ite (hostWrite_keptOrCleared ..) (.inl (hostRead_gens ..)))).mainOn
  case registerWrite | reset | park | csRecheck | close | hubDomEnable | pollEnable | ringEnable | ringDisable | hostLossTimeoutWrite | tone |
      wakeRing | regrade | sleep | sleepClear | mmLatchClear | sbHubReadmit =>
    cases h; exact (hostWrite_keptOrCleared ..).mainOn
  case calenChange | buttonStuck | windowClose | xtalMeasurement =>
    cases h
    exact .inl (mainOn_gens _ _ (by simp [calenChange, buttonStuck, xtalMeasurement, xtalFail]))
  case sealSample | presReleased | pressAccepted | xtalFail =>
    cases h
    exact .inl (by simp [sealSample, presReleased, pressAccepted, xtalFail])
  case resetCheckDone | recheckDone | sheetRead | unsupportedRequest =>
    cases h
    exact .inl (mainOn_gens _ _ (by simp [unsupported, resetCheckDone, recheckDone, sheetRead]))
  case domFail | quiesceEnd | domainDownComplete | islandSelftestDone =>
    cases h
    exact .inl (mainOn_gens _ _ (by simp [domFail, quiesceEnd, downComplete, islandSelftestDone]))
  case beacon | epochBoundary | roundBoundary | beatBoundary | badCell =>
    cases h
    exact .inl (mainOn_gens _ _ (by simp [beacon, epochBoundary, roundBoundary, beatCommand, badCell, forwardBad]))
  case xingTimeout | fllUnlock | refclkLoss | refclkRestored | stopCell | ciWatchdog | miWatchdog | vbusOver | vbusUnder =>
    cases h
    exact .inl (mainOn_gens _ _ (by simp [xingTimeout, fllUnlock, refclkLoss, refclkRestored, stopCell, ciWatchdog, miWatchdog,
        vbusOver, vbusUnder]))
  case tsyncEdge | tsyncMissing =>
    cases h
    exact .inl (mainOn_gens _ _ (by simp [tsyncEdge, tsyncMissed]))
  case linkUp | flrComplete | d3hotEntry | msixUnmask | poisonedTlpReceived | fatalInternal | speedChange | widthChange | l1Entry |
      l1Exit | bar2Access | hdmCommit | identifyMemoryDevice | getHealthInfo | getEventRecords | clearEventRecords | getPoisonList |
      injectPoison | clearPoison | unsupportedMailboxCommand =>
    cases h
    exact .inl (mainOn_gens _ _ (by simp [linkUp, flrComplete, d3hotEntry, msixUnmask, poisonedTlp, fatalInternal, speedChange,
        widthChange, l1Entry, l1Exit, bar2Access, hdmCommit, identifyMemoryDevice, getHealthInfo, getEventRecords, clearEventRecords,
        getPoisonList, injectPoison, clearPoison, unsupportedMailbox, bar2Write]))
  case doorbellPoll | moderationTimeout =>
    cases h
    exact .inl (mainOn_gens _ _ (by simp [doorbellPoll, moderationTimeout]))
  case fastValue | calRequestHoldoffEnd | modFault =>
    cases h
    exact .inl (mainOn_gens _ _ (by simp [fastValue, calHoldoffEnd, modFault, fastTaken]))
  case normalTrip | hardTrip | driverFault =>
    cases h
    exact .inl (mainOn_gens _ _ (by simp [normalTrip, hardTrip, driverFault]))
  case requestWord =>
    cases h
    exact .inl (mainOn_gens _ _ (by simp [requestWord]))
  case wakeCell | join | leave | claim | echo | userMessage | portPllLock | unwrap | emptyCell =>
    cases h
    exact .inl (mainOn_gens _ _ (by simp [wakeCell, joinCell, leaveCell, claimCell, echoCell, userMessage, portPllLock, unwrapPort,
        emptyCell, sendHeld]))
  case frameBoundary | downlinkWatchdog | linkLost | fieldDiePowerUp | inputAccepted | wireBreak | wireOk | supplyConditionEnd |
      swThermalOff | swThermalRestart | swOverload | swOpenLoad | swShortSupply | swOpenLoadClear | swShortSupplyClear =>
    cases h
    exact .inl (mainOn_gens _ _ (by simp [frameBoundary, downlinkWatchdog, linkLost, fieldDiePowerUp, inputAccepted, wireBreak,
        wireOk, supplyEnd, swThermalOff, swThermalRestart, swOverload, swOpenLoad, swShortSupply, swOpenLoadClear, swShortSupplyClear,
        State.setInput]))
  case seti | wandRamp | waitt | waiti | waitin | dither | wandLoop | wandJif | decay | endWord | decayComplete | offStateTest |
      illegalWord =>
    cases h
    exact .inl (mainOn_gens _ _ (by simp [seti, wandRamp, waitt, waiti, waitin, ditherW, wandLoop, wandJif, decayW, endW,
        decayComplete, offStateTest, illegalWord]))
  case canTxRetry | busOn | busIdleSettings | sleepEntry | txdDominant | busDominant | canIntegrated =>
    cases h
    exact .inl (mainOn_gens _ _ (by simp [canRetry, busOn, busIdle, sleepEntry, txdDominant, busDominant, canIntegrated]))
  case quadratureEdge | index | speedLatch | lineFault | lineFaultEnd | zFallingEdge =>
    cases h
    exact .inl (mainOn_gens _ _ (by simp [abEdge, indexEdge, speedLatch, lineFault, lineFaultEnd, zFalling, quadratureEdge, countOne,
        latchFirst]))
  case eccWriteBack =>
    cases h
    exact .inl (mainOn_gens _ _ (by simp [eccWriteBack]))
  case parkDrainEnd | tempConversion =>
    cases h
    exact .inl (mainOn_gens _ _ (by simp [parkDrainEnd, tempConversion]))
  case nop | loadRecipe | swapBank | start | hold | resume | abort | presetExposure | snapshot | gang | chPark | chReadmit | setLimits |
      setCal | budgetSet | prioritySet | stripBind | fusionSet | gradeSet | leaseTake | leaseRenew | leaseDrop | archiveCopy |
      valveLoad | valveRun | switchSet | fieldSet | canSend | canFilter | encSet | sensorSchedule | jlUser | stop | clearFault |
      selftest =>
    cases h
    refine .inl (mainOn_gens _ _ (begin_gens (fun d s => ?_) ..))
    simp [nop, loadRecipe, swapBankCmd, presetExposure, gangCmd, chPark, chReadmit, setLimits, setCal, budgetSet, prioritySet,
        stripBind, fusionSet, gradeSet, leaseTake, leaseRenew, leaseDrop, archiveCopy, valveLoad, valveRun, switchSet, fieldSet,
        canSend, canFilter, encSet, sensorSchedule, jlUser, clearFault, putOver, encSetActs, clearChannel, clearDevice,
        clearField, clearStop]
  case perstAssert | perstDeassert | toneAccepted | wakePattern | wakeFrame | decoderDisarm | stopPinLow | stopPinHigh | alarmMatch |
      xtalOk | mainRailBelowMinimum =>
    cases h
    exact .inl (by simp [perstAssert, perstDeassert, toneAccepted, decoderDisarm, stopPinLow, stopPinHigh, xtalRestored, mainRail])
  all_goals
    cases h
    exact .inl (mainOn_gens _ _ (by simp))

end Sys2Proof.Machine
end

section
/-!
SUPPORT. A START's first step (R286, R488): a dark channel with a START waiting comes through the first part of its control-period boundary as it
is, and its run begins.
-/
namespace Sys2Proof.Machine

/-- What tells a boundary whether a run begins: the channel's state and the commands that wait for it (R475). -/
def Chan.asked (c : Chan) : ChState × ChCmds := (c.st, c.cmds)

/-- An update of a channel's other fields.  Proved `by rfl`, for the reason given at `gens_update`. -/
@[simp] theorem asked_update (c : Chan) {gang gen phases short limited chen fade bank active armed queued vars flag pc stack lastTerm ended step
    wait expo energy expoRes energyRes expoSat winQ winE lastQ lastE freshSample freshPrint sample preset presetAt limRun ic vInteg trim trimSum
    trimN trimAt iFast winI winN vFast vFeed iShunt runSum evalV evalI evalT lastEval evaled overrun cleared anchor ganged stageSum stageN print
    prio cap grant grantEnd icReq periods faults cause} :
    (Chan.mk c.st gang gen phases short limited chen fade bank active armed queued vars flag pc stack lastTerm ended step wait c.cmds expo energy
      expoRes energyRes expoSat winQ winE lastQ lastE freshSample freshPrint sample preset presetAt limRun ic vInteg trim trimSum trimN trimAt
      iFast winI winN vFast vFeed iShunt runSum evalV evalI evalT lastEval evaled overrun cleared anchor ganged stageSum stageN print prio cap
      grant grantEnd icReq periods faults cause).asked = c.asked := by rfl

@[simp] theorem setPhase_asked (c : Chan) (j : Nat) (p : Phase) : (c.setPhase j p).asked = c.asked := by rfl

@[simp] theorem foldl_asked {α : Type} (f : Chan → α → Chan) (l : List α) (c : Chan) (h : ∀ c a, (f c a).asked = c.asked) :
    (l.foldl f c).asked = c.asked := foldl_keep Chan.asked f h l c

@[simp] theorem takeAverages_asked (codes : List (List Int)) (c : Chan) : (takeAverages codes c).asked = c.asked :=
  foldl_asked _ _ _ fun _ _ => rfl

@[simp] theorem trimStep_asked (clk : Nat) (c : Chan) : (trimStep clk c).asked = c.asked := by
  cases h : c.iShunt <;> simp only [trimStep, h, apply_ite Chan.asked, asked_update, ite_self]

@[simp] theorem chargeSum_asked (c : Chan) (live : List Nat) : (chargeSum c live).asked = c.asked := by
  unfold chargeSum
  dsimp only
  (repeat' split) <;> rfl

/-! ### Operations on any channel -/

@[simp] theorem complete_ch (r : Nat) (st : Status) (result detail : Nat) (s : State) (k : Nat) :
    (complete r st result detail s).ch k = s.ch k := by simp [State.ch]

@[simp] theorem cancelQueued_asked (n : Nat) (st : Status) (detail : Nat) (s : State) :
    ((cancelQueued n st detail s).ch n).asked = (s.ch n).asked := by
  simp only [cancelQueued]
  (repeat' split) <;> simp

@[simp] theorem latchFault_asked (bit cause n : Nat) (s : State) : ((latchFault bit cause n s).ch n).asked = (s.ch n).asked := by
  simp [latchFault]

@[simp] theorem testPhases_asked (n : Nat) (codes : List (List Int)) (s : State) : ((testPhases n codes s).ch n).asked = (s.ch n).asked := by
  unfold testPhases
  dsimp only
  rw [State.setCh_same]
  (repeat' split) <;> simp

@[simp] theorem retryReturns_asked (n : Nat) (s : State) : ((retryReturns n s).ch n).asked = (s.ch n).asked :=
  foldl_keep (fun s => (s.ch n).asked) _ (fun s j => by simp) _ s

@[simp] theorem integrate_asked (n : Nat) (s : State) : ((integrate n s).ch n).asked = (s.ch n).asked := by
  unfold integrate
  dsimp only
  generalize execOf _ 0x16 n = o
  cases o <;> simp only [apply_ite (fun s : State => (s.ch n).asked), raise_ch, complete_ch, State.setCh_same, asked_update, ite_self]

@[simp] theorem stepPeriod_asked (n : Nat) (s : State) : ((stepPeriod n s).ch n).asked = (s.ch n).asked := by simp [stepPeriod]

/-! ### Operations on a dark channel -/

section
variable {n : Nat} {k : ChCmds} {s : State}

/-- A dark channel has no run to end, nothing to cut and no phase to lose. -/
theorem endRun_of_dark (why : EndReason) (arg : Int) (byHub : Bool) (h : (s.ch n).st = .dark) : endRun n why arg byHub s = s := by
  simp [endRun, h]

theorem cutChannel_of_dark (h : (s.ch n).st = .dark) : cutChannel n s = s := if_pos h

theorem noPhase_of_dark (h : (s.ch n).st = .dark) : noPhase n s = s := by simp [noPhase, h]

theorem limitTrip_asked (item : Nat) (value : Int) (h : (s.ch n).asked = (.dark, k)) :
    ((limitTrip n item value s).ch n).asked = (.dark, k) := by
  unfold limitTrip
  dsimp only
  generalize hl : latchFault 0 0x20 n _ = t
  have ht : (t.ch n).asked = (.dark, k) := by rw [← hl, latchFault_asked, raise_ch, h]
  have hdark : (t.ch n).st = .dark := congrArg Prod.fst ht
  rw [endRun_of_dark _ _ _ hdark, cutChannel_of_dark hdark, ht]

theorem limitTest_asked (item need : Nat) (bad : Bool) (value : Int) (h : (s.ch n).asked = (.dark, k)) :
    ((limitTest n item need bad value s).ch n).asked = (.dark, k) := by
  unfold limitTest
  dsimp only
  generalize hc : s.setCh n _ = t
  have ht : (t.ch n).asked = (.dark, k) := by rw [← hc, State.setCh_same, asked_update, h]
  simp only [apply_ite fun s : State => (s.ch n).asked, limitTrip_asked item value ht, ht, h, ite_self]

theorem actFound_asked (which : Nat → Bool) (h : (s.ch n).asked = (.dark, k)) : ((actFound which n s).ch n).asked = (.dark, k) := by
  unfold actFound
  dsimp only
  generalize hf : List.foldl _ s _ = t
  have ht : (t.ch n).asked = (.dark, k) := by
    rw [← hf, ← h]
    refine foldl_keep (fun s => (s.ch n).asked) _ (fun s j => ?_) _ s
    split <;> simp
  split
  · exact ht
  · rw [noPhase_of_dark (congrArg Prod.fst ht), ht]

theorem boundaryHead_asked (codes : List (List Int)) (h : (s.ch n).asked = (.dark, k)) :
    ((boundaryHead n codes s).ch n).asked = (.dark, k) := by
  unfold boundaryHead
  dsimp only
  refine limitTest_asked _ _ _ _ (limitTest_asked _ _ _ _ ?_)
  rw [stepPeriod_asked, integrate_asked, retryReturns_asked]
  refine actFound_asked _ ?_
  rw [testPhases_asked]
  refine actFound_asked _ ?_
  simpa using h

/-- The words that act and the crossings of a gang are no part of a channel, and with no bad word nothing is cut. -/
theorem boundaryStart_ch (hbad : s.mm.bad = []) : (boundaryStart n s).ch n = s.ch n := by
  simp [boundaryStart, gangCross, crossOpen, ciStateReads, stateReads, badState, hbad, State.ch, apply_ite State.chs]

/-- At the boundary of a dark channel with a START waiting the run begins (R488). -/
theorem commandsAndTurn_of_start {a : StartArgs} (h : (s.ch n).asked = (.dark, k)) (hk : k.start = some a) :
    commandsAndTurn n s = beginRun n a s := by
  have hst : (s.ch n).st = .dark := congrArg Prod.fst h
  have hcmds : (s.ch n).cmds = k := congrArg Prod.snd h
  simp [commandsAndTurn, hst, hcmds, hk]

end

/-! ### The obligation -/

/-- A START that waits on a dark channel takes the generation on at the channel's next control-period boundary. -/
theorem pwmBoundary_gens_of_start {n : Nat} {a : StartArgs} {s : State} (codes : List (List Int)) (hn : s.present n = true)
    (hci : s.isOn (ciDom n) = true) (hdark : (s.ch n).st = .dark) (hstart : (s.ch n).cmds.start = some a) (hbad : s.mm.bad = []) :
    (pwmBoundary n codes s).gens = Function.update s.gens n (nextGen (s.gens n)) := by
  have hasked : ((boundaryStart n s).ch n).asked = (.dark, (s.ch n).cmds) := by
    rw [boundaryStart_ch hbad, Chan.asked, hdark]
  rw [pwmBoundary_eq, hn, hci, commandsAndTurn_of_start (boundaryHead_asked codes hasked) hstart]
  simp [beginRun_gens]

theorem gen_of_update {n : Nat} {s t : State} (h : t.gens = Function.update s.gens n (nextGen (s.gens n))) :
    (t.ch n).gen = if (s.ch n).gen ≥ 0xFFFF then 1 else (s.ch n).gen + 1 :=
  (congrFun h n).trans (Function.update_self ..)

theorem calCheck_gens (n : Nat) (s : State) : (calCheck n s).gens = s.gens := by simp [calCheck]

theorem exec_pwmPeriodBoundary (n : Nat) (codes : List (List Int)) (s : State) :
    exec (.pwmPeriodBoundary n codes) s = .next (mainOn s (calCheck n (pwmBoundary n codes s))) := rfl

/-- What a boundary of channel `m` does to the generation of channel `n`. -/
theorem gen_of_boundary {m : Nat} {codes : List (List Int)} {s t : State} (n : Nat) (h : exec (.pwmPeriodBoundary m codes) s = .next t) :
    (t.ch n).gen = (s.ch n).gen ∨ n = m ∧ (t.ch n).gen = if (s.ch n).gen ≥ 0xFFFF then 1 else (s.ch n).gen + 1 := by
  obtain rfl := Host.Outcome.next.inj ((exec_pwmPeriodBoundary m codes s).symm.trans h)
  unfold mainOn
  split
  · have hgens := calCheck_gens m (pwmBoundary m codes s)
    rcases pwmBoundary_gensNext m codes s with hkept | hnext
    · exact .inl (congrFun (hgens.trans hkept) n)
    · by_cases hn : n = m
      · subst hn
        exact .inr ⟨rfl, gen_of_update (hgens.trans hnext)⟩
      · exact .inl ((congrFun (hgens.trans hnext) n).trans (Function.update_of_ne hn ..))
  · exact .inl rfl

/-- Settles O53: after a reset no channel's state stands, so each generation is 0; a boundary at which a START waits begins its run
(`pwmBoundary_gens_of_start`); and every other command keeps the generations or clears the channels (`exec_keptOrCleared`). -/
theorem generationsAdvanceAtStarts : Obligations.GenerationsAdvanceAtStarts := by
  refine ⟨fun t n ht => ?_, fun n => rfl, fun s n codes a hon hn hci hdark hstart hbad => ?_, fun c s t n h => ?_⟩
  · rw [State.ch, ht.chs]
    rfl
  · refine ⟨_, exec_pwmPeriodBoundary n codes s, gen_of_update ?_⟩
    rw [mainOn_of_on _ hon, calCheck_gens]
    exact pwmBoundary_gens_of_start codes hn hci hdark hstart hbad
  · by_cases hc : ∃ m codes, c = .pwmPeriodBoundary m codes
    · obtain ⟨m, codes, rfl⟩ := hc
      rcases gen_of_boundary n h with hkept | ⟨rfl, hnext⟩
      · exact .inl hkept
      · exact .inr (.inr ⟨⟨codes, rfl⟩, hnext⟩)
    · rcases exec_keptOrCleared (fun m codes hm => hc ⟨m, codes, hm⟩) h with hkept | hcleared
      · exact .inl (congrFun hkept n)
      · exact .inr (.inl hcleared)

end Sys2Proof.Machine
end

section
/-!
SUPPORT. A host's write to a register that its definition lets function 0 write (R74-R76, R101, R102): which register it reaches, what it makes of
the register's fields, and what it leaves where the whole register does not take the value (R342, R375, R714) or HUB_DOM_ENABLE may not change
(R143); and O52.
-/
namespace Sys2Proof.Machine

/-! ### Fields of a word -/

/-- A number of `a < m` and a remainder below `p` stays below `p * m`. -/
theorem mul_add_lt_mul {p a m r : Nat} (hr : r < p) (ha : a < m) : p * a + r < p * m :=
  calc p * a + r < p * (a + 1) := by rw [Nat.mul_succ]; omega
    _ ≤ p * m := Nat.mul_le_mul_left p ha

/-- `setFld` puts the new field between the bits above and the bits below, which stand. -/
theorem toNat_setFld (w : Word) {l k : Nat} (v : Nat) (h : l + k ≤ 32) :
    (setFld w l k v).toNat = 2 ^ l * (2 ^ k * (w.toNat / 2 ^ l / 2 ^ k) + v % 2 ^ k) + w.toNat % 2 ^ l := by
  have hsum : w.toNat - w.toNat / 2 ^ l % 2 ^ k * 2 ^ l + v % 2 ^ k * 2 ^ l =
      2 ^ l * (2 ^ k * (w.toNat / 2 ^ l / 2 ^ k) + v % 2 ^ k) + w.toNat % 2 ^ l := by
    have hw : 2 ^ l * (2 ^ k * (w.toNat / 2 ^ l / 2 ^ k) + w.toNat / 2 ^ l % 2 ^ k) + w.toNat % 2 ^ l = w.toNat := by
      rw [Nat.div_add_mod, Nat.div_add_mod]
    rw [Nat.mul_add] at hw ⊢
    rw [Nat.mul_comm _ (2 ^ l), Nat.mul_comm _ (2 ^ l)]
    omega
  have htop : w.toNat / 2 ^ l / 2 ^ k < 2 ^ (32 - (l + k)) := by
    rw [Nat.div_div_eq_div_mul, ← pow_add, Nat.div_lt_iff_lt_mul (by positivity), ← pow_add, Nat.sub_add_cancel h]
    exact w.isLt
  have hlt := mul_add_lt_mul (Nat.mod_lt w.toNat (Nat.two_pow_pos l)) (mul_add_lt_mul (Nat.mod_lt v (Nat.two_pow_pos k)) htop)
  rw [← pow_add, ← pow_add, ← Nat.add_assoc, Nat.add_sub_cancel' h] at hlt
  rw [setFld, fld, Nat.shiftRight_eq_div_pow, BitVec.toNat_ofNat, hsum, Nat.mod_eq_of_lt hlt]

theorem fld_setFld_same (w : Word) {l k : Nat} (v : Nat) (h : l + k ≤ 32) : fld (setFld w l k v) l k = v % 2 ^ k := by
  rw [fld, Nat.shiftRight_eq_div_pow, toNat_setFld w v h, Nat.mul_add_div (by positivity), Nat.div_eq_of_lt (Nat.mod_lt _ (by positivity)),
    Nat.add_zero, Nat.mul_add_mod, Nat.mod_mod]

/-- A field above the one that is set stands. -/
theorem fld_setFld_above (w : Word) {l k l' : Nat} (k' v : Nat) (h : l + k ≤ 32) (hl : l + k ≤ l') :
    fld (setFld w l k v) l' k' = fld w l' k' := by
  obtain ⟨d, rfl⟩ := Nat.exists_eq_add_of_le hl
  have hrest : (setFld w l k v).toNat / 2 ^ l / 2 ^ k = w.toNat / 2 ^ l / 2 ^ k := by
    rw [toNat_setFld w v h, Nat.mul_add_div (by positivity), Nat.div_eq_of_lt (Nat.mod_lt _ (by positivity)), Nat.add_zero,
      Nat.mul_add_div (by positivity), Nat.div_eq_of_lt (Nat.mod_lt _ (by positivity)), Nat.add_zero]
  simp only [fld, Nat.shiftRight_eq_div_pow, pow_add, ← Nat.div_div_eq_div_mul, hrest]

/-! ### The register an offset reaches -/

/-- A register found at an offset is one of its block's, and stands there. -/
theorem findReg_place {v : Variant} {a i : Nat} {b : Blk} {r : RegDef} (h : findReg v a = some (b, i, r)) :
    r ∈ b.regs ∧ a = b.addr i r.off ∧ r.off < b.stride := by
  obtain ⟨b', -, hb⟩ := List.exists_of_findSome?_eq_some h
  split at hb
  case isFalse => cases hb
  case isTrue hin =>
    obtain ⟨r', hfind, heq⟩ := Option.map_eq_some_iff.mp hb
    cases heq
    have hoff : r.off = (a - b.base) % b.stride := by simpa using List.find?_some hfind
    refine ⟨List.mem_of_find?_eq_some hfind, ?_, hoff ▸ Nat.mod_lt _ ?_⟩
    · have := Nat.div_add_mod' (a - b.base) b.stride
      rw [Blk.addr, hoff]
      omega
    · cases b <;> decide

/-- A spool's SP_LEVELS stands at 0x44004 + 0x100·n. -/
theorem RegAt.spLevels {s : State} {n i : Nat} {r : RegDef} (h : RegAt s (0x44004 + 0x100 * n) .sp i r) : i = n ∧ r = regsSP[1] := by
  obtain ⟨hmem, haddr, hoff⟩ := findReg_place h.found
  have hrow : ∀ r ∈ regsSP, r.off = 4 → r = regsSP[1] := by decide
  simp only [Blk.addr, Blk.base, Blk.stride] at haddr hoff
  exact ⟨by omega, hrow r hmem (by omega)⟩

/-- A register of a fixture bus's place stands at `cnKey`. -/
theorem RegAt.cn_place {s : State} {c off i : Nat} {r : RegDef} (hoff : off < 0x800) (h : RegAt s (cnKey c off) .cn i r) :
    i = c ∧ r.off = off ∧ r ∈ regsCN := by
  obtain ⟨hmem, haddr, hlt⟩ := findReg_place h.found
  simp only [Blk.addr, Blk.base, Blk.stride, cnKey] at haddr hlt
  exact ⟨by omega, by omega, hmem⟩

theorem RegAt.cnNbt {s : State} {c i : Nat} {r : RegDef} (h : RegAt s (cnKey c 4) .cn i r) : i = c ∧ r = regsCN[1] := by
  obtain ⟨hi, hoff, hmem⟩ := h.cn_place (by decide)
  exact ⟨hi, (by decide : ∀ r ∈ regsCN, r.off = 4 → r = regsCN[1]) r hmem hoff⟩

theorem RegAt.cnDbt {s : State} {c i : Nat} {r : RegDef} (h : RegAt s (cnKey c 8) .cn i r) : i = c ∧ r = regsCN[2] := by
  obtain ⟨hi, hoff, hmem⟩ := h.cn_place (by decide)
  exact ⟨hi, (by decide : ∀ r ∈ regsCN, r.off = 8 → r = regsCN[2]) r hmem hoff⟩

theorem regAt_fillRange {s : State} (h : s.sheet.hold = false) : RegAt s 0x45008 .ar 0 regsAR[2] :=
  ⟨by decide, by cases s.variant <;> rfl, .inl h⟩

theorem regAt_domEnable {s : State} (h : s.sheet.hold = false) : RegAt s 0x41044 .hub 0 regsHUB[9] :=
  ⟨by decide, by cases s.variant <;> rfl, .inl h⟩

/-! ### A host's write -/

theorem RegAt.traffic {s : State} {off i : Nat} {b : Blk} {r : RegDef} (h : RegAt s off b i r) : RegAt (traffic s) off b i r :=
  ⟨h.high, h.found, h.stood⟩

theorem hostWrite_of_reaches {s : State} {f : Nat} (off : Nat) (v : Word) (h : HostReaches s f) :
    hostWrite f off v s = busWrite f off v (traffic s) := by
  simp [hostWrite, barUse, h.power, h.link, h.there, h.mse, h.awake, h.flr]

theorem reachReg_of_regAt {s : State} {off i : Nat} {b : Blk} {r : RegDef} (h : RegAt s off b i r) : reachReg s off = some (b, i, r) := by
  have hstood : (s.sheet.hold && b != .cs) = false := by
    rcases h.stood with hhold | rfl
    · simp [hhold]
    · simp
  simp [reachReg, h.found, hstood]

theorem busWrite_of_regAt {s : State} {off i : Nat} {b : Blk} {r : RegDef} (q : Nat) (v : Word) (h : RegAt s off b i r) :
    busWrite q off v s = guardedWrite q off b i r v s := by
  have hsheet : inSheet off = false := decide_eq_false (Nat.not_lt.mpr h.high)
  simp [busWrite, hsheet, reachReg_of_regAt h]

/-- Function 0 writes a register of privilege P with no guard before it (R74). -/
theorem guardedWrite_rw {i : Nat} {b : Blk} {r : RegDef} (off : Nat) (v : Word) (s : State) (hacc : r.acc = .rw) (hpriv : r.priv = .p) :
    guardedWrite 0 off b i r v s = regWrite 0 b i r v s := by
  simp [guardedWrite, hacc, hpriv, privileged]

theorem exec_registerWrite_rw {s : State} {off i : Nat} {b : Blk} {r : RegDef} (v : Word) (hs : HostReaches s 0) (hr : RegAt s off b i r)
    (hacc : r.acc = .rw) (hpriv : r.priv = .p) : exec (.registerWrite 0 off v) s = .next (regWrite 0 b i r v (traffic s)) := by
  have hexec : exec (.registerWrite 0 off v) s = .next (mainOn s (hostWrite 0 off v s)) := rfl
  rw [hexec, mainOn_of_on _ hs.power, hostWrite_of_reaches off v hs, busWrite_of_regAt 0 v hr.traffic, guardedWrite_rw off v _ hacc hpriv]

/-- HUB_DOM_ENABLE is a write of the register. -/
theorem exec_hubDomEnable (f : Nat) (v : Word) (s : State) : exec (.hubDomEnable f v) s = exec (.registerWrite f 0x41044 v) s := rfl

/-! ### A value refused -/

/-- What a write of `v` makes of the register's stored value, field by field (R101, R102). -/
def wordAfter (s : State) (b : Blk) (i : Nat) (r : RegDef) (v : Word) : Word :=
  (merge b r.off (fieldsOf s.variant b i r) (s.wr (keyOf s b i r.off) (resetOf s b i r)) v).1

/-- A value that the whole register does not take is counted and nothing else (R342, R375, R714).  The LO word of an RW pair is held first. -/
theorem regWrite_of_not_taken {s : State} {b : Blk} {i : Nat} {r : RegDef} {v : Word} (q : Nat) (hlow : isRwLow b r.off = false)
    (h : wholeTakes s b i r.off (wordAfter s b i r v) = false) : regWrite q b i r v s = bump cntBadValues s := by
  unfold regWrite
  dsimp only
  rw [if_neg (by simp [hlow])]
  exact if_pos (by simpa [wordAfter] using h)

theorem regWrite_domEnable_of_lit {s : State} (q i : Nat) (v : Word) (h : s.allDark = false) :
    regWrite q .hub i regsHUB[9] v s = rcSet 0x4104C 0x80000000 s :=
  if_pos ⟨rfl, rfl, by simp [h]⟩

/-- A value that the whole register does not take changes nothing but HUB_BAD_VALUES (and the time of the link's last traffic). -/
theorem registerWrite_refused {s : State} {off i : Nat} {b : Blk} {r : RegDef} {v : Word} {P : State → Prop} (hs : HostReaches s 0)
    (hr : RegAt s off b i r) (hacc : r.acc = .rw) (hpriv : r.priv = .p) (hlow : isRwLow b r.off = false)
    (h : wholeTakes (traffic s) b i r.off (wordAfter (traffic s) b i r v) = false) (hP : P (bump cntBadValues (traffic s))) :
    Runs (.registerWrite 0 off v) s P :=
  ⟨_, by rw [exec_registerWrite_rw v hs hr hacc hpriv, regWrite_of_not_taken 0 hlow h], hP⟩

theorem counted_bump (key : Nat) (s : State) : Counted s (bump key s) key := bumpBy_cnt ..

/-! ### The four registers -/

theorem spLevels_not_taken {s : State} {i : Nat} {w : Word} (h : fld w 16 12 ≤ fld w 0 12 ∨ fld w 16 12 = 0) :
    wholeTakes s .sp i 4 w = false :=
  decide_eq_false (by omega)

theorem fillRange_not_taken {s : State} {i : Nat} {w : Word} (h : 2046 < fld w 16 11 ∨ fld w 16 11 < fld w 0 11) :
    wholeTakes s .ar i 8 w = false := by
  simp only [wholeTakes, Bool.and_eq_false_iff, decide_eq_false_iff_not]
  omega

theorem cnNbt_not_taken {s : State} {i : Nat} {w : Word} (h : bitTime w < 1000) : wholeTakes s .cn i 4 w = false :=
  decide_eq_false (Nat.not_le.mpr h)

theorem cnDbt_not_taken {s : State} {i : Nat} {w : Word} (h : bitTime w < 200) : wholeTakes s .cn i 8 w = false :=
  decide_eq_false (Nat.not_le.mpr h)

/-- AR_FILL_RANGE's fields list every value, so that both take what is written. -/
theorem wordAfter_fillRange (s : State) (v : Word) :
    fld (wordAfter s .ar 0 regsAR[2] v) 16 11 = fld v 16 11 ∧ fld (wordAfter s .ar 0 regsAR[2] v) 0 11 = fld v 0 11 := by
  have hword : wordAfter s .ar 0 regsAR[2] v = setFld (setFld (s.wr 0x45008 0x07FE0000) 16 11 (fld v 16 11)) 0 11 (fld v 0 11) := rfl
  rw [hword, fld_setFld_above _ _ _ (by decide) (by decide), fld_setFld_same _ _ (by decide), fld_setFld_same _ _ (by decide)]
  simp [fld]

theorem keyOf_spLevels (s : State) (n : Nat) : keyOf s .sp n 4 = 0x44004 + 0x100 * n := by
  show 0x44000 + n * 0x100 + 4 + 0x100000 * 0 = _
  omega

theorem keyOf_cn (s : State) (c off : Nat) : keyOf s .cn c off = cnKey c off := by
  show 0x4C000 + c * 0x800 + off + 0x100000 * 0 = 0x4C000 + 0x800 * c + off
  omega

/-- Settles O52: each of the first four writes reaches its register, whose whole value is then refused (`registerWrite_refused`); the fifth is
refused while a channel is lit (`regWrite_domEnable_of_lit`). -/
theorem refusedSettingsLeaveTheirRegisters : Obligations.RefusedSettingsLeaveTheirRegisters := by
  refine ⟨fun s n v w i r hs _ hr hw hbad => ?_, fun s v hs hhold hbad => ?_, fun s c v w i r hs _ hr hw hbad => ?_,
    fun s c v w i r hs _ hr hw hbad => ?_, fun s v hs hhold hlit => ?_⟩
  · obtain ⟨rfl, rfl⟩ := hr.spLevels
    rw [← keyOf_spLevels s] at hw
    subst hw
    exact registerWrite_refused hs hr rfl rfl rfl (spLevels_not_taken hbad) ⟨rfl, counted_bump ..⟩
  · obtain ⟨hlast, hfirst⟩ := wordAfter_fillRange (traffic s) v
    rw [← hlast, ← hfirst] at hbad
    exact registerWrite_refused hs (regAt_fillRange hhold) rfl rfl rfl (fillRange_not_taken hbad) ⟨rfl, rfl, rfl, counted_bump ..⟩
  · obtain ⟨rfl, rfl⟩ := hr.cnNbt
    rw [← keyOf_cn s] at hw
    subst hw
    exact registerWrite_refused hs hr rfl rfl rfl (cnNbt_not_taken hbad) ⟨rfl, counted_bump ..⟩
  · obtain ⟨rfl, rfl⟩ := hr.cnDbt
    rw [← keyOf_cn s] at hw
    subst hw
    exact registerWrite_refused hs hr rfl rfl rfl (cnDbt_not_taken hbad) ⟨rfl, counted_bump ..⟩
  · refine ⟨rcSet 0x4104C 0x80000000 (traffic s), ?_, rfl, rfl, ?_⟩
    · rw [exec_hubDomEnable, exec_registerWrite_rw v hs (regAt_domEnable hhold) rfl rfl,
        regWrite_domEnable_of_lit (s := traffic s) 0 0 v hlit]
    · simp [rcSet, bitOf]

end Sys2Proof.Machine
end

section
/-!
SUPPORT. A round boundary that takes its beat (R528) also takes step 3 of a park sequence (R830), so that a CI leaves ON and the contest is held
in one command; and O46.
-/
namespace Sys2Proof.Machine

/-- A park sequence waits for its beat, at 4000 ns. The CI of channel 0 is ON, holds a grant of 40 W, and has sent a request of 50 W in the running
round; the ceiling is 200 W. -/
def parkAwaitingBeat : State :=
  { variant := .xf3208
    doms := [(8, { st := .on, target := true }), (20, { st := .on, target := true })]
    regs := { val := [(0x46010, 200)] }
    sl := { parking := some .beat }
    tk := { now := 4000, clk := 4000, run := 4000 }
    sh := { ch := [(0, { word := some (60, 2, 50), grant := 40, lease := 3 })] } }

theorem exec_roundBoundary {s : State} (vbus : Nat) (h : s.power = .on) : exec (.roundBoundary vbus) s = .next (roundBoundary vbus s) :=
  congrArg Host.Outcome.next (mainOn_of_on _ h)

/-- The beat powers the CI down and releases its 40 W (R530); the contest of the same command still decides the word that the CI had sent, and
grants it anew (log 124). -/
theorem roundBoundary_grants_parkAwaitingBeat :
    (roundBoundary 48000 parkAwaitingBeat).isOn (ciDom 0) = false ∧ ((roundBoundary 48000 parkAwaitingBeat).shc 0).grant = 50 ∧
      ((roundBoundary 48000 parkAwaitingBeat).shc 0).lease = 4 := by
  decide +kernel

/-- Refutes O46: at a ROUND_BOUNDARY that takes the beat of a park sequence, the CI leaves ON and its grant is released, and the contest that
follows in the same command still counts the request word of the ended round, so that a grant of 50 W stands for a CI that is not ON. -/
theorem not_aCiThatLeavesOnReleasesItsGrant : ¬ Obligations.ACiThatLeavesOnReleasesItsGrant := by
  unfold Obligations.ACiThatLeavesOnReleasesItsGrant
  intro h
  obtain ⟨hoff, hgrant, -⟩ := roundBoundary_grants_parkAwaitingBeat
  have hreleased := (h _ _ _ 0 (by decide) (exec_roundBoundary 48000 (s := parkAwaitingBeat) rfl) rfl hoff).1
  rw [hgrant] at hreleased
  exact absurd hreleased (by decide)

end Sys2Proof.Machine
end

section
/-!
SUPPORT. SLEEP and SLEEP_CLEAR as writes of CN_CONFIG (R725, R735): the write leaves the fixture buses, the domains, main power and the records as
they were until SLEEP acts, and then SLEEP goes as bit 9 of the written word says; and O50.
-/
namespace Sys2Proof.Machine

/-! ### The write of CN_CONFIG -/

theorem bitOf_eq_fld (w : Word) (k : Nat) : bitOf w k = decide (fld w k 1 = 1) := by
  rw [bitOf, fld, pow_one, ← BitVec.testBit_toNat, Nat.testBit_eq_decide_div_mod_eq, Nat.shiftRight_eq_div_pow]

/-- A bit above a field that is set stands. -/
theorem bitOf_setFld_above (w : Word) {l k j : Nat} (v : Nat) (h : l + k ≤ 32) (hj : l + k ≤ j) : bitOf (setFld w l k v) j = bitOf w j := by
  rw [bitOf_eq_fld, bitOf_eq_fld, fld_setFld_above w 1 v h hj]

/-- CN_CONFIG's SLEEP takes every value, and MODE the listed ones (R101). -/
theorem wordAfter_cnConfig (s : State) (i : Nat) (v : Word) :
    wordAfter s .cn i regsCN[0] v =
      (if fieldTakes .cn 0 ⟨0, 2, .rw, .range 0 2⟩ (fld v 0 2) then
        (setFld (setFld (s.wr (keyOf s .cn i 0) 0) 9 1 (fld v 9 1)) 0 2 (fld v 0 2), false)
      else (setFld (s.wr (keyOf s .cn i 0) 0) 9 1 (fld v 9 1), true)).1 := rfl

/-- SLEEP stands as written, whether or not MODE takes its part. -/
theorem bitOf_wordAfter_cnConfig (s : State) (i : Nat) (v : Word) : bitOf (wordAfter s .cn i regsCN[0] v) 9 = bitOf v 9 := by
  have hset : bitOf (setFld (s.wr (keyOf s .cn i 0) 0) 9 1 (fld v 9 1)) 9 = bitOf v 9 := by
    rw [bitOf_eq_fld, fld_setFld_same _ _ (by decide), bitOf_eq_fld]
    simp [fld]
  rw [wordAfter_cnConfig]
  split
  · exact (bitOf_setFld_above _ _ (by decide) (by decide)).trans hset
  · exact hset

/-- The fixture buses, what they act by (main power and the domains), and the records are the same in `s` and `u`. -/
structure SameFixture (s u : State) : Prop where
  cn    : u.cn = s.cn
  doms  : u.doms = s.doms
  power : u.power = s.power
  sp    : u.sp = s.sp

theorem SameFixture.can {s u : State} (h : SameFixture s u) (b : Nat) : u.can b = s.can b := by simp [State.can, h.cn]

theorem SameFixture.isOn {s u : State} (h : SameFixture s u) (d : Nat) : u.isOn d = s.isOn d := by simp [State.isOn, State.dom, h.doms]

theorem SameFixture.trans {s t u : State} (h : SameFixture s t) (h' : SameFixture t u) : SameFixture s u :=
  ⟨h'.cn.trans h.cn, h'.doms.trans h.doms, h'.power.trans h.power, h'.sp.trans h.sp⟩

theorem sameFixture_traffic (s : State) : SameFixture s (traffic s) := ⟨rfl, rfl, rfl, rfl⟩

theorem sameFixture_bump (key : Nat) (s : State) : SameFixture s (bump key s) := ⟨rfl, rfl, rfl, rfl⟩

theorem sameFixture_storeImm (b : Blk) (i key : Nat) (reset new : Word) (s : State) : SameFixture s (store b i .imm key reset new s) :=
  ⟨rfl, rfl, rfl, rfl⟩

theorem sameFixture_crossOpen (i j : Nat) (s : State) : SameFixture s (crossOpen i j s) := by
  unfold crossOpen
  split
  · exact ⟨offerOpen_cn .., offerOpen_doms .., offerOpen_power .., offerOpen_sp ..⟩
  · exact ⟨rfl, rfl, rfl, rfl⟩

/-- An accepted write of `v` to CN_CONFIG before SLEEP acts: a MODE that is not listed is counted, the rest is stored, and the register crosses to
domain 13 (R101, R147). -/
def cnConfigStored (i : Nat) (v : Word) (s : State) : State :=
  let m := merge .cn 0 (fieldsOf s.variant .cn i regsCN[0]) (s.wr (keyOf s .cn i 0) 0) v
  crossOpen 1 13 (store .cn i .imm (keyOf s .cn i 0) 0 m.1 (if m.2 then bump cntBadValues s else s))

theorem sameFixture_cnConfigStored (i : Nat) (v : Word) (s : State) : SameFixture s (cnConfigStored i v s) := by
  refine .trans ?_ ((sameFixture_storeImm ..).trans (sameFixture_crossOpen ..))
  split
  · exact sameFixture_bump ..
  · exact ⟨rfl, rfl, rfl, rfl⟩

/-- Once the write is stored, SLEEP goes as its bit says (R725, R735). -/
theorem regWrite_cnConfig (q i : Nat) (v : Word) (s : State) :
    regWrite q .cn i regsCN[0] v s =
      if bitOf v 9 then canSleep i (cnConfigStored i v s) else canUnsleep i (cnConfigStored i v s) := by
  rw [← bitOf_wordAfter_cnConfig s i v]
  rfl

theorem regAt_cnConfig {s : State} {b : Nat} (hb : b < 2) (h : s.sheet.hold = false) : RegAt s (cnKey b 0) .cn b regsCN[0] := by
  refine ⟨by simp only [cnKey]; omega, ?_, .inl h⟩
  interval_cases b <;> cases s.variant <;> rfl

/-- A host's write of CN_CONFIG: SLEEP goes as bit 9 says. -/
theorem exec_registerWrite_cnConfig {s : State} {b : Nat} (v : Word) (hs : HostReaches s 0) (hhold : s.sheet.hold = false) (hb : b < 2) :
    ∃ u, SameFixture s u ∧
      exec (.registerWrite 0 (cnKey b 0) v) s = .next (if bitOf v 9 then canSleep b u else canUnsleep b u) :=
  ⟨_, (sameFixture_traffic s).trans (sameFixture_cnConfigStored b v _), by
    rw [exec_registerWrite_rw v hs (regAt_cnConfig hb hhold) rfl rfl, regWrite_cnConfig]⟩

/-- SLEEP is a write of CN_CONFIG with SLEEP 1. -/
theorem exec_sleep {s : State} {b : Nat} (hs : HostReaches s 0) (hhold : s.sheet.hold = false) (hb : b < 2) :
    ∃ u, SameFixture s u ∧ exec (.sleep 0 b) s = .next (canSleep b u) := by
  obtain ⟨u, hu, hw⟩ := exec_registerWrite_cnConfig (cnConfig s b ||| 0x200) hs hhold hb
  have hexec : exec (.sleep 0 b) s = exec (.registerWrite 0 (cnKey (b % 2) 0) (cnConfig s (b % 2) ||| 0x200)) s := rfl
  have hbit : bitOf (cnConfig s b ||| 0x200) 9 = true := by simp [bitOf]
  exact ⟨u, hu, by rw [hexec, Nat.mod_eq_of_lt hb, hw, hbit, if_pos rfl]⟩

/-- SLEEP_CLEAR is a write of CN_CONFIG with SLEEP 0. -/
theorem exec_sleepClear {s : State} {b : Nat} (hs : HostReaches s 0) (hhold : s.sheet.hold = false) (hb : b < 2) :
    ∃ u, SameFixture s u ∧ exec (.sleepClear 0 b) s = .next (canUnsleep b u) := by
  obtain ⟨u, hu, hw⟩ := exec_registerWrite_cnConfig (cnConfig s b &&& 0xFFFFFDFF) hs hhold hb
  have hexec : exec (.sleepClear 0 b) s = exec (.registerWrite 0 (cnKey (b % 2) 0) (cnConfig s (b % 2) &&& 0xFFFFFDFF)) s := rfl
  have hbit : bitOf (cnConfig s b &&& 0xFFFFFDFF) 9 = false := by simp [bitOf]
  exact ⟨u, hu, by rw [hexec, Nat.mod_eq_of_lt hb, hw, hbit, if_neg Bool.false_ne_true]⟩

/-! ### SLEEP going to 1 and to 0 -/

@[simp] theorem State.setCan_isOn (s : State) (b : Nat) (x : CanBus) (d : Nat) : (s.setCan b x).isOn d = s.isOn d := rfl

@[simp] theorem raise_can (b : Blk) (i num cls : Nat) (args : List Int) (s : State) (k : Nat) : (raise b i num cls args s).can k = s.can k := by
  simp [State.can]

/-- An event raised with main power on is raised as of every state with the same records under way. -/
theorem raised_raise {s u : State} (b : Blk) (i num cls : Nat) (args : List Int) (hpower : u.power = .on)
    (hmaking : u.sp.making = s.sp.making) : Raised s (raise b i num cls args u) b i num cls args := by
  have hrec := raiseAs_making b i num cls args (b.source i) (b.producer i) u hpower
  rw [hmaking] at hrec
  exact ⟨mkRec u (b.producer i) 3 (b.source i) (b.stamp u i) (eventBody b num cls args 0 0), by simp [raise, hrec], rfl, rfl, rfl⟩

/-- The bus falls asleep with its controller off, and SLEEP_ENTERED is raised (R725). -/
theorem canAsleep_spec {s u : State} (b : Nat) (hpower : u.power = .on) (hmaking : u.sp.making = s.sp.making) :
    ((canAsleep b u).can b).depth = .asleep ∧ ((canAsleep b u).can b).st = .off ∧ Raised s (canAsleep b u) .cn b 1 0 [] :=
  ⟨by simp [canAsleep], by simp [canAsleep], raised_raise _ _ _ _ _ hpower hmaking⟩

/-- SLEEP going to 1 at bus-off does not wait for an idle bus (R735). -/
theorem canSleep_of_busOff {s : State} {b : Nat} (hon : s.isOn 13 = true) (hsleep : (s.can b).sleep = false) (hst : (s.can b).st = .busOff) :
    canSleep b s = canAsleep b (s.setCan b { s.can b with sleep := true, depth := .entry }) := by
  simp [canSleep, hon, hsleep, hst]

/-- SLEEP going to 0 before SLEEP_ENTERED takes back the sleep and does nothing else (R735). -/
theorem canUnsleep_of_entry {s : State} {b : Nat} (hsleep : (s.can b).sleep = true) (hdepth : (s.can b).depth = .entry) :
    canUnsleep b s = s.setCan b { s.can b with sleep := false, depth := .awake } := by
  simp [canUnsleep, hsleep, hdepth]

/-- Settles O50: the write reaches CN_CONFIG and SLEEP goes as it says (`exec_sleep`, `exec_sleepClear`); at bus-off the bus is asleep at once
(`canSleep_of_busOff`), and before SLEEP_ENTERED only the sleep is taken back (`canUnsleep_of_entry`). -/
theorem sleepAtBusOffAndSleepCancelled : Obligations.SleepAtBusOffAndSleepCancelled := by
  refine ⟨fun s b hs hhold hb hon hsleep hst => ?_, fun s b hs hhold hb hsleep hdepth => ?_⟩
  · obtain ⟨u, hu, hexec⟩ := exec_sleep hs hhold hb
    rw [canSleep_of_busOff ((hu.isOn 13).trans hon) (by rw [hu.can, hsleep]) (by rw [hu.can, hst])] at hexec
    exact ⟨_, hexec, canAsleep_spec b (hu.power.trans hs.power) (by simp [hu.sp])⟩
  · obtain ⟨u, hu, hexec⟩ := exec_sleepClear hs hhold hb
    rw [canUnsleep_of_entry (by rw [hu.can, hsleep]) (by rw [hu.can, hdepth])] at hexec
    exact ⟨_, hexec, by simp [hu.can, hu.sp]⟩

end Sys2Proof.Machine
end

section
/-!
SUPPORT. Quadrature counting and captures (R743, R744, R746, R752, R753): a capture whose start and stop fall in one filter clock, what a capture
leaves of the count, the count of one edge, and what a QUADRATURE_EDGE leaves as it was before the edge itself acts; and O51.
-/
namespace Sys2Proof.Machine

@[simp] theorem raise_enc (b : Blk) (i num cls : Nat) (args : List Int) (s : State) (k : Nat) : (raise b i num cls args s).enc k = s.enc k := by
  simp [State.enc]

@[simp] theorem raiseTimed_enc (b : Blk) (i num cls : Nat) (args : List Int) (time : Nat) (s : State) (k : Nat) :
    (raiseTimed b i num cls args time s).enc k = s.enc k := by
  simp [State.enc]

@[simp] theorem bump_enc (key : Nat) (s : State) (k : Nat) : (bump key s).enc k = s.enc k := by simp [State.enc]

@[simp] theorem enConfig_setEnc (s : State) (n k : Nat) (e : Encoder) : enConfig (s.setEnc n e) k = enConfig s k := rfl

@[simp] theorem enConfig_raise (b : Blk) (i num cls : Nat) (args : List Int) (s : State) (n : Nat) :
    enConfig (raise b i num cls args s) n = enConfig s n := by
  simp [enConfig]

/-! ### Captures (R752, R753) -/

/-- What a capture that ends leaves of its encoder. -/
theorem capEnd_enc (n t0 : Nat) (c0 : Int) (s : State) :
    (capEnd n t0 c0 s).enc n =
      let co := t0 / 5 == s.tk.now / 5
      { s.enc n with started := none, stopAt := none, coincident := co,
                     capture := min (if co then 0 else (s.tk.now - t0) / 5) 0xFFFFFFFF } := by
  simp [capEnd]

/-- The last capture of encoder `n` took no time: EN_CAPTURE shows 0 and COINCIDENT (R753). -/
def NoDuration (n : Nat) (s : State) : Prop := (s.enc n).capture = 0 ∧ (s.enc n).coincident = true

theorem capEnd_noDuration {n t0 : Nat} (c0 : Int) {s : State} (h : t0 / 5 = s.tk.now / 5) : NoDuration n (capEnd n t0 c0 s) := by
  simp [NoDuration, capEnd_enc, h]

/-- One event is both start and stop. -/
theorem capEvent_startAndStop {n k : Nat} {s : State} (hen : bitOf (enConfig s n) 3 = true) (hstart : fld (enConfig s n) 26 2 = k)
    (hstop : fld (enConfig s n) 24 2 = k) (hidle : (s.enc n).started = none) : NoDuration n (capEvent n k s) := by
  simp only [capEvent, hen, hstart, hstop, hidle, if_true, decide_true, Option.isNone_none, Bool.and_true]
  exact capEnd_noDuration _ rfl

/-- The stop comes in the filter clock of the start. -/
theorem capEvent_stopAfterStart {n k t0 : Nat} {c0 : Int} {s : State} (hen : bitOf (enConfig s n) 3 = true)
    (hstop : fld (enConfig s n) 24 2 = k) (hbegun : (s.enc n).started = some (t0, c0)) (hclock : t0 / 5 = s.tk.now / 5) :
    NoDuration n (capEvent n k s) := by
  simp only [capEvent, hen, hstop, hbegun, if_true, decide_true, Option.isNone_some, Bool.and_false, Bool.false_eq_true, if_false]
  exact capEnd_noDuration _ hclock

/-- The start comes in the filter clock of a stop that had no start. -/
theorem capEvent_startAfterStop {n k u : Nat} {s : State} (hen : bitOf (enConfig s n) 3 = true) (hstart : fld (enConfig s n) 26 2 = k)
    (hstop : fld (enConfig s n) 24 2 ≠ k) (hidle : (s.enc n).started = none) (hlast : (s.enc n).stopAt = some u)
    (hclock : u / 5 = s.tk.now / 5) : NoDuration n (capEvent n k s) := by
  simp only [capEvent, hen, hstart, hstop, hidle, hlast, hclock, if_true, decide_true, decide_false, Option.isNone_none, Bool.and_true,
    Bool.false_eq_true, if_false, Option.map_some, beq_self_eq_true]
  exact capEnd_noDuration _ rfl

/-- The state in which INDEX's capture event occurs: the count is latched, and the event raised (R747). -/
def indexState (n : Nat) (s : State) : State :=
  raise .en n 2 0 [(s.enc n).count] (s.setEnc n { s.enc n with index := (s.enc n).count, zAt := some (filterClock s) })

@[simp] theorem indexState_tk (n : Nat) (s : State) : (indexState n s).tk = s.tk := by simp [indexState]

@[simp] theorem enConfig_indexState (n : Nat) (s : State) : enConfig (indexState n s) n = enConfig s n := by simp [indexState]

@[simp] theorem indexState_started (n : Nat) (s : State) : ((indexState n s).enc n).started = (s.enc n).started := by simp [indexState]

@[simp] theorem indexState_stopAt (n : Nat) (s : State) : ((indexState n s).enc n).stopAt = (s.enc n).stopAt := by simp [indexState]

/-- INDEX with an accepted level is capture event 0 in that state (R747, R752). -/
theorem exec_index {s : State} {n held : Nat} (hpower : s.power = .on) (hon : enOn s n = true) (hheld : (s.enc n).filterN ≤ held)
    (hmode : (s.enc n).mode = 1 ∨ (s.enc n).mode = 2) (hline : (s.enc n).fault / 4 % 2 = 0) :
    exec (.index n held) s = .next (capEvent n 0 (indexState n s)) := by
  have hexec : exec (.index n held) s = .next (mainOn s (indexEdge n held s)) := rfl
  rw [hexec, mainOn_of_on _ hpower, indexEdge, if_pos ⟨hon, hmode, hline, decide_eq_true hheld⟩, indexState]

/-! ### Counting (R744, R746) -/

@[simp] theorem capEvent_count (n k : Nat) (s : State) : ((capEvent n k s).enc n).count = (s.enc n).count := by
  simp only [capEvent]
  (repeat' split) <;> simp_all [capEnd_enc]

@[simp] theorem setCount_count (n : Nat) (v : Int) (s : State) : ((setCount n v s).enc n).count = v := by
  simp only [setCount]
  (repeat' split) <;> simp

/-- A value of 32 signed bits is itself in FREE's arithmetic (R746). -/
theorem signed_unsigned_of_inRange {v : Int} (hlo : -2147483648 ≤ v) (hhi : v < 2147483648) : signed 32 (unsigned 32 v) = v := by
  simp only [signed, unsigned]
  omega

/-- The count of an encoder is away from the ends of its range: the ends of 32 bits in FREE, the limits in LIMIT (R746). -/
def InsideRange (e : Encoder) : Prop :=
  e.mode = 2 ∧ -2147483648 < e.count ∧ e.count < 2147483647 ∨ e.mode = 1 ∧ e.lo < e.count ∧ e.count < e.hi

/-- Inside the range one count goes by one in its direction: it neither wraps nor stops at a limit. -/
theorem countOne_count {n : Nat} {d : Int} {s : State} (h : InsideRange (s.enc n)) (hd : d = 1 ∨ d = -1) :
    ((countOne n d s).enc n).count = (s.enc n).count + d := by
  simp only [countOne]
  obtain ⟨hfree, hmin, hmax⟩ | ⟨hlimit, hlo, hhi⟩ := h
  · have hwrap : signed 32 (unsigned 32 ((s.enc n).count + d)) = (s.enc n).count + d :=
      signed_unsigned_of_inRange (by omega) (by omega)
    simp [hfree, hwrap]
  · have hclamp : max (s.enc n).lo (min (s.enc n).hi ((s.enc n).count + d)) = (s.enc n).count + d := by omega
    rw [if_pos hlimit]
    simp only [hclamp]
    split <;> simp

/-- The four transitions in which A leads B, each with the levels of A and B before and after it (R744). -/
def aLeadsB : List ((Bool × Bool) × (Bool × Bool)) :=
  [((false, false), (true, false)), ((true, false), (true, true)), ((true, true), (false, true)), ((false, true), (false, false))]

theorem quadDir_of_aLeadsB : ∀ {a b a' b' : Bool}, ((a, b), (a', b')) ∈ aLeadsB → quadDir a b a' b' = 1 := by decide

/-- The reverse of a transition counts the other way. -/
theorem quadDir_reverse : ∀ a b a' b' : Bool, quadDir a b a' b' = -quadDir a' b' a b := by decide

/-! ### What an edge acts by -/

/-- What a change of A or B of an encoder acts by, and the records under way. -/
structure EdgeView where
  power  : Power
  doms   : Tab Dom
  making : List (Nat × Rec)
  mode   : Nat
  lo     : Int
  hi     : Int
  count  : Int
  a      : Bool
  b      : Bool
  fault  : Nat

def State.edgeView (s : State) (n : Nat) : EdgeView where
  power := s.power
  doms := s.doms
  making := s.sp.making
  mode := (s.enc n).mode
  lo := (s.enc n).lo
  hi := (s.enc n).hi
  count := (s.enc n).count
  a := (s.enc n).a
  b := (s.enc n).b
  fault := (s.enc n).fault

theorem advanceTo_edgeView (t : Nat) (s : State) (n : Nat) : (advanceTo t s).edgeView n = s.edgeView n := rfl

theorem nextClock_edgeView (s : State) (n : Nat) : (nextClock s).edgeView n = s.edgeView n := rfl

theorem toPe_edgeView (d : Nat) (i : PeInput) (s : State) (n : Nat) : (toPe d i s).edgeView n = s.edgeView n := by
  simp only [toPe]
  split <;> simp [State.edgeView, State.enc]

/-- An encoder whose counting settings, count, lines and faults stand is seen as before. -/
theorem setEnc_edgeView {n : Nat} {s : State} {e : Encoder} (hmode : e.mode = (s.enc n).mode) (hlo : e.lo = (s.enc n).lo)
    (hhi : e.hi = (s.enc n).hi) (hcount : e.count = (s.enc n).count) (ha : e.a = (s.enc n).a) (hb : e.b = (s.enc n).b)
    (hfault : e.fault = (s.enc n).fault) : (s.setEnc n e).edgeView n = s.edgeView n := by
  simp [State.edgeView, hmode, hlo, hhi, hcount, ha, hb, hfault]

/-- A latch of the speed changes nothing that an edge acts by. -/
theorem takeLatch_edgeView (n : Nat) (s : State) : (takeLatch n s).edgeView n = s.edgeView n := by
  simp only [takeLatch]
  split
  · split
    · rw [setEnc_edgeView, advanceTo_edgeView] <;> rfl
    · rw [foldl_keep (State.edgeView · n) _ fun _ _ => toPe_edgeView .., setEnc_edgeView, advanceTo_edgeView] <;> rfl
  · rfl

theorem latchFirst_edgeView (n : Nat) (s : State) : (latchFirst n s).edgeView n = s.edgeView n := by
  simp only [latchFirst]
  split
  · rw [setEnc_edgeView, takeLatch_edgeView] <;> rfl
  · rfl

/-- The state in which an accepted edge acts: a latch of the same instant has been taken, the edge waits for the next filter clock where Z has
changed in this one, and its filter clock is noted (R765). -/
def edgeState (n : Nat) (s : State) : State :=
  let u := latchFirst n s
  let u := if (u.enc n).zAt = some (filterClock u) then nextClock u else u
  u.setEnc n { u.enc n with abAt := some (filterClock u) }

theorem edgeState_edgeView (n : Nat) (s : State) : (edgeState n s).edgeView n = s.edgeView n := by
  simp only [edgeState]
  split
  · rw [setEnc_edgeView, nextClock_edgeView, latchFirst_edgeView] <;> rfl
  · rw [setEnc_edgeView, latchFirst_edgeView] <;> rfl

@[simp] theorem edgeState_making (n : Nat) (s : State) : (edgeState n s).sp.making = s.sp.making :=
  congrArg EdgeView.making (edgeState_edgeView n s)

@[simp] theorem edgeState_count (n : Nat) (s : State) : ((edgeState n s).enc n).count = (s.enc n).count :=
  congrArg EdgeView.count (edgeState_edgeView n s)

@[simp] theorem edgeState_a (n : Nat) (s : State) : ((edgeState n s).enc n).a = (s.enc n).a := congrArg EdgeView.a (edgeState_edgeView n s)

@[simp] theorem edgeState_b (n : Nat) (s : State) : ((edgeState n s).enc n).b = (s.enc n).b := congrArg EdgeView.b (edgeState_edgeView n s)

/-- QUADRATURE_EDGE with accepted levels is the edge in that state. -/
theorem exec_quadratureEdge {s : State} {n held : Nat} (a b : Bool) (hpower : s.power = .on) (hon : enOn s n = true)
    (hheld : (s.enc n).filterN ≤ held) : exec (.quadratureEdge n a b held) s = .next (quadratureEdge n a b (edgeState n s)) := by
  have hexec : exec (.quadratureEdge n a b held) s = .next (mainOn s (abEdge n a b held s)) := rfl
  rw [hexec, mainOn_of_on _ hpower, abEdge, if_pos ⟨hon, decide_eq_true hheld⟩, edgeState]

/-- Encoder `n` counts: its domain is ON, its count is inside the range, and neither A nor B is in fault. -/
structure Counts (n : Nat) (s : State) : Prop where
  power : s.power = .on
  on    : enOn s n = true
  range : InsideRange (s.enc n)
  lines : (s.enc n).fault % 4 = 0

theorem InsideRange.counting {e : Encoder} (h : InsideRange e) : e.mode = 1 ∨ e.mode = 2 :=
  h.elim (.inr ·.1) (.inl ·.1)

theorem Counts.edgeState {n : Nat} {s : State} (h : Counts n s) : Counts n (edgeState n s) := by
  obtain ⟨hpower, hon, hrange, hlines⟩ := h
  have hview := edgeState_edgeView n s
  simp only [State.edgeView, EdgeView.mk.injEq] at hview
  obtain ⟨hp, hd, -, hm, hl, hh, hc, -, -, hf⟩ := hview
  exact ⟨hp ▸ hpower, by simpa [enOn, State.isOn, State.dom, hd] using hon, by simpa only [InsideRange, hm, hl, hh, hc] using hrange,
    hf ▸ hlines⟩

/-- An edge that moves the levels to an adjacent state counts one in its direction (R744). -/
theorem quadratureEdge_count {n : Nat} {s : State} {a b : Bool} {d : Int} (h : Counts n s)
    (hdir : quadDir (s.enc n).a (s.enc n).b a b = d) (hd : d = 1 ∨ d = -1) :
    ((quadratureEdge n a b s).enc n).count = (s.enc n).count + d := by
  have hone : ¬ ((s.enc n).a ≠ a ∧ (s.enc n).b ≠ b) := by
    rintro ⟨ha, hb⟩
    have hzero : quadDir (s.enc n).a (s.enc n).b a b = 0 := by simp [quadDir, ha, hb]
    omega
  have hcount := countOne_count (n := n) (s := s.setEnc n { s.enc n with a, b }) (d := d) (by simpa [InsideRange] using h.range) hd
  have hmode := h.range.counting
  have hd0 : d ≠ 0 := by omega
  simp only [State.setEnc_same] at hcount
  simp only [quadratureEdge, h.on, hmode, h.lines, hdir, hd0]
  (repeat' split) <;> simp_all

/-- A change of both levels leaves the count and raises QUAD_ERR with it (R744). -/
theorem quadratureEdge_both {n : Nat} {s : State} {a b : Bool} (h : Counts n s) (ha : (s.enc n).a ≠ a) (hb : (s.enc n).b ≠ b) :
    ((quadratureEdge n a b s).enc n).count = (s.enc n).count ∧ Raised s (quadratureEdge n a b s) .en n 3 1 [(s.enc n).count] := by
  have hboth : quadratureEdge n a b s =
      let u := bump (enKey n 0x18) (s.setEnc n { s.enc n with a, b })
      raise .en n 3 1 [(s.enc n).count] (u.setEnc n { u.enc n with fresh := true, used := none }) := by
    simp [quadratureEdge, h.on, h.range.counting, h.lines, ha, hb]
  rw [hboth]
  exact ⟨by simp, raised_raise _ _ _ _ _ (by simpa using h.power) (by simp)⟩

/-! ### O51 -/

/-- A QUADRATURE_EDGE to an adjacent state counts one in its direction. -/
theorem runs_quadratureEdge_count {s : State} {n held : Nat} {a b : Bool} {d : Int} (h : Counts n s) (hheld : (s.enc n).filterN ≤ held)
    (hdir : quadDir (s.enc n).a (s.enc n).b a b = d) (hd : d = 1 ∨ d = -1) :
    Runs (.quadratureEdge n a b held) s fun t => (t.enc n).count = (s.enc n).count + d := by
  have hcount := quadratureEdge_count (a := a) (b := b) h.edgeState (by simpa using hdir) hd
  exact ⟨_, exec_quadratureEdge a b h.power h.on hheld, by simpa using hcount⟩

/-- A QUADRATURE_EDGE of both levels leaves the count and raises QUAD_ERR. -/
theorem runs_quadratureEdge_both {s : State} {n held : Nat} {a b : Bool} (h : Counts n s) (hheld : (s.enc n).filterN ≤ held)
    (ha : (s.enc n).a ≠ a) (hb : (s.enc n).b ≠ b) :
    Runs (.quadratureEdge n a b held) s fun t =>
      (t.enc n).count = (s.enc n).count ∧ Raised s t .en n 3 1 [(s.enc n).count] := by
  have hedge := quadratureEdge_both (a := a) (b := b) h.edgeState (by simpa using ha) (by simpa using hb)
  simp only [Raised, edgeState_count, edgeState_making] at hedge
  exact ⟨_, exec_quadratureEdge a b h.power h.on hheld, hedge⟩

/-- Settles O51: an edge acts on the levels and the count that it finds (`edgeState_edgeView`), and counts by the direction of its transition
(`quadratureEdge_count`) or raises QUAD_ERR (`quadratureEdge_both`); INDEX ends a capture that began in its filter clock, whichever of start and
stop it is (`capEvent_startAndStop`, `capEvent_stopAfterStart`, `capEvent_startAfterStop`). -/
theorem quadratureCountsAndCoincidentCaptures : Obligations.QuadratureCountsAndCoincidentCaptures := by
  refine ⟨fun s n a b a' b' held hpower hon hheld hrange hlines ha hb => ?_, fun s n held hpower hon hheld hmode hline hen hcases => ?_⟩
  · have hcounts : Counts n s := ⟨hpower, hon, hrange, hlines⟩
    subst ha hb
    refine ⟨fun hup => ?_, fun hdown => ?_, fun hna hnb => runs_quadratureEdge_both hcounts hheld hna hnb⟩
    · exact runs_quadratureEdge_count hcounts hheld (quadDir_of_aLeadsB hup) (.inl rfl)
    · have hdir : quadDir (s.enc n).a (s.enc n).b a' b' = -1 := by rw [quadDir_reverse, quadDir_of_aLeadsB hdown]
      exact runs_quadratureEdge_count hcounts hheld hdir (.inr rfl)
  · refine ⟨_, exec_index hpower hon hheld hmode hline, ?_⟩
    have hen' : bitOf (enConfig (indexState n s) n) 3 = true := by simpa using hen
    obtain ⟨hstart, hstop, hidle⟩ | ⟨hstop, t0, c0, hbegun, hclock⟩ | ⟨hstart, hstop, hidle, u, hlast, hclock⟩ := hcases
    · exact capEvent_startAndStop hen' (by simpa using hstart) (by simpa using hstop) (by simpa using hidle)
    · exact capEvent_stopAfterStart hen' (by simpa using hstop) (by simpa using hbegun) (by simpa using hclock)
    · exact capEvent_startAfterStop hen' (by simpa using hstart) (by simpa using hstop) (by simpa using hidle) (by simpa using hlast)
        (by simpa using hclock)

end Sys2Proof.Machine
end

section
/-!
SUPPORT. A STOP cell (R797): what a cell that passes a node leaves of the stop bath and of the channels, which class stands once a stop has
entered (R798), and what a stop does to a channel that is already on its way to dark (R412); and O47.
-/
namespace Sys2Proof.Machine

/-! ### What a passing cell and a completion leave alone -/

/-- What a stop acts by and acts on: the variant, the stops in force, the clock count, the written registers and the channels. -/
structure StopView where
  variant : Variant
  sb      : StopBath
  clk     : Nat
  val     : Tab Word
  chs     : Tab Chan

def State.stopView (s : State) : StopView where
  variant := s.variant
  sb := s.sb
  clk := s.tk.clk
  val := s.regs.val
  chs := s.chs

theorem stopView_ite (c : Prop) [Decidable c] (a b : State) : (if c then a else b).stopView = if c then a.stopView else b.stopView :=
  apply_ite State.stopView ..

@[simp] theorem bump_stopView (key : Nat) (s : State) : (bump key s).stopView = s.stopView := rfl
@[simp] theorem send_stopView (t : Tx) (s : State) : (send t s).stopView = s.stopView := rfl
@[simp] theorem State.setPort_stopView (s : State) (p : Nat) (x : Port) : (s.setPort p x).stopView = s.stopView := rfl
@[simp] theorem goodCell_stopView (p h : Nat) (pl : List Byte) (s : State) : (goodCell p h pl s).stopView = s.stopView := rfl
@[simp] theorem noteDelivered_stopView (h : Nat) (s : State) : (noteDelivered h s).stopView = s.stopView := rfl

@[simp] theorem raiseAs_stopView (b : Blk) (i num cls : Nat) (args : List Int) (src prod : Nat) (s : State) :
    (raiseAs b i num cls args src prod s).stopView = s.stopView := by simp [State.stopView]

@[simp] theorem raise_stopView (b : Blk) (i num cls : Nat) (args : List Int) (s : State) : (raise b i num cls args s).stopView = s.stopView :=
  raiseAs_stopView ..

@[simp] theorem complete_stopView (r : Nat) (st : Status) (result detail : Nat) (s : State) :
    (complete r st result detail s).stopView = s.stopView :=
  complete_keep State.stopView (fun _ _ => rfl) (fun _ _ => raise_stopView ..) (fun _ _ _ => rfl) ..

@[simp] theorem offerOpen_stopView (i j : Nat) (s : State) : (offerOpen i j s).stopView = s.stopView := by
  unfold offerOpen
  split <;> rfl

@[simp] theorem crossOpen_stopView (i j : Nat) (s : State) : (crossOpen i j s).stopView = s.stopView := by
  simp [crossOpen, stopView_ite]

@[simp] theorem txDirect_stopView (q : Nat) (c : Cell) (s : State) : (txDirect q c s).stopView = s.stopView := by
  unfold txDirect
  split
  · simp [stopView_ite]
  · rfl
  · simp [sendCell]

@[simp] theorem forward_stopView (p : Nat) (c : Cell) (s : State) : (forward p c s).stopView = s.stopView := by
  simp [forward, txCell, stopView_ite]

@[simp] theorem userSent_stopView (r : Nat) (s : State) : (userSent r s).stopView = s.stopView := by
  unfold userSent
  split
  · simp [stopView_ite]
  · rfl

theorem takeOut_stopView {i ring : Nat} {s : State} {r : Cell × State} (h : takeOut i ring s = some r) : r.2.stopView = s.stopView := by
  unfold takeOut at h
  split at h
  · cases h
  · cases h
    dsimp only
    split
    · rw [stopView_ite, userSent_stopView]
      exact ite_self _
    · rfl

theorem fillFrom_stopView {ring : Nat} {echo : Bool} {s : State} {r : Cell × State} (h : fillFrom ring echo s = some r) :
    r.2.stopView = s.stopView := by
  unfold fillFrom at h
  split at h
  · cases h
  · obtain ⟨i, -, hi⟩ := Option.bind_eq_some_iff.mp h
    exact takeOut_stopView hi

@[simp] theorem fillEmpty_stopView (ring : Nat) (c : Cell) (s : State) : (fillEmpty ring c s).2.stopView = s.stopView := by
  unfold fillEmpty
  split
  · next h => exact fillFrom_stopView h
  · split
    · cases h : fillFrom (1 - ring) false s with
      | none => rfl
      | some r => exact fillFrom_stopView h
    · rfl

/-- The message goes on its way round the ring, and the stop bath and the channels stand (R545, R557, R558). -/
@[simp] theorem forwardMsg_stopView (p : Nat) (c : Cell) (s : State) : (forwardMsg p c s).stopView = s.stopView := by
  simp [forwardMsg, stopView_ite]

@[simp] theorem settleCmds_stopView (n : Nat) (st : Status) (detail : Nat) (s : State) : (settleCmds n st detail s).stopView = s.stopView := by
  refine foldl_keep State.stopView _ (fun s op => ?_) _ s
  split
  · exact complete_stopView ..
  · rfl

@[simp] theorem fxRun_stopView (n : Nat) (f : FxRun → FxRun) (s : State) : (fxRun n f s).stopView = s.stopView := by
  unfold fxRun
  split
  · split
    · exact crossOpen_stopView ..
    · rfl
  · rfl

@[simp] theorem fxRunEnd_stopView (n : Nat) (why : EndReason) (s : State) : (fxRunEnd n why s).stopView = s.stopView := by
  unfold fxRunEnd
  dsimp only
  split <;> rfl

/-! ### Operations on listed channels -/

/-- From `s` to `t` only the channels of `l` have changed, and of these no gang; the rest of what a stop goes by stands. -/
structure ChangesOnly (l : List Nat) (s t : State) : Prop where
  variant : t.variant = s.variant
  sb      : t.sb = s.sb
  clk     : t.tk.clk = s.tk.clk
  val     : t.regs.val = s.regs.val
  gang    : ∀ m, (t.ch m).gang = (s.ch m).gang
  other   : ∀ m, m ∉ l → t.ch m = s.ch m

namespace ChangesOnly

theorem of_stopView (l : List Nat) {s t : State} (h : t.stopView = s.stopView) : ChangesOnly l s t where
  variant := congrArg StopView.variant h
  sb := congrArg StopView.sb h
  clk := congrArg StopView.clk h
  val := congrArg StopView.val h
  gang m := congrArg (fun v : StopView => (v.chs.get m {}).gang) h
  other m _ := congrArg (fun v : StopView => v.chs.get m {}) h

theorem refl (l : List Nat) (s : State) : ChangesOnly l s s := of_stopView l rfl

theorem trans {l : List Nat} {s t u : State} (h : ChangesOnly l s t) (h' : ChangesOnly l t u) : ChangesOnly l s u where
  variant := h'.variant.trans h.variant
  sb := h'.sb.trans h.sb
  clk := h'.clk.trans h.clk
  val := h'.val.trans h.val
  gang m := (h'.gang m).trans (h.gang m)
  other m hm := (h'.other m hm).trans (h.other m hm)

theorem mono {l k : List Nat} {s t : State} (h : ChangesOnly l s t) (hl : l ⊆ k) : ChangesOnly k s t where
  __ := h
  other m hm := h.other m fun hml => hm (hl hml)

theorem setCh {n : Nat} {s : State} {c : Chan} (h : c.gang = (s.ch n).gang) : ChangesOnly [n] s (s.setCh n c) where
  variant := rfl
  sb := rfl
  clk := rfl
  val := rfl
  gang m := by
    rw [State.setCh_ch]
    split
    · next hm => rw [h, hm]
    · rfl
  other m hm := State.setCh_other s n c m (by simpa using hm)

theorem ite {l : List Nat} {c : Prop} [Decidable c] {s t u : State} (ht : c → ChangesOnly l s t) (hu : ¬c → ChangesOnly l s u) :
    ChangesOnly l s (if c then t else u) := by
  split
  · next h => exact ht h
  · next h => exact hu h

/-- Operations on one channel each, made one after another on the channels of `l`. -/
theorem foldl {f : State → Nat → State} (hf : ∀ s n, ChangesOnly [n] s (f s n)) (l : List Nat) (s : State) :
    ChangesOnly l s (l.foldl f s) := by
  induction l generalizing s with
  | nil => exact refl [] s
  | cons n l ih => exact ((hf s n).mono (by simp)).trans ((ih (f s n)).mono (List.subset_cons_self n l))

/-- Whether a channel is present goes by the variant and the gangs (R10). -/
theorem present {l : List Nat} {s t : State} (h : ChangesOnly l s t) (m : Nat) : t.present m = s.present m := by
  simp [State.present, State.gangOdd, h.variant, h.gang]

theorem dischNs {l : List Nat} {s t : State} (h : ChangesOnly l s t) (m : Nat) : Machine.dischNs t m = Machine.dischNs s m := by
  simp [Machine.dischNs, State.wr, h.val]

end ChangesOnly

theorem stepEnd_changesOnly (n : Nat) (term : Option Nat) (short overrun : Bool) (s : State) :
    ChangesOnly [n] s (stepEnd n term short overrun s) := by
  unfold stepEnd
  dsimp only
  split
  · exact .refl _ s
  · exact .trans (.setCh (by rfl)) (.of_stopView _ ((raise_stopView ..).trans (fxRun_stopView ..)))

theorem endRun_changesOnly (n : Nat) (why : EndReason) (arg : Int) (byHub : Bool) (s : State) :
    ChangesOnly [n] s (endRun n why arg byHub s) := by
  unfold endRun
  dsimp only
  refine .ite (fun _ => ?_) fun _ => .refl _ s
  refine .trans (.trans ?_ (.setCh (by rfl))) (.of_stopView _ (settleCmds_stopView ..))
  refine .trans (stepEnd_changesOnly n none false false s) ?_
  exact .of_stopView _ ((fxRunEnd_stopView ..).trans (raiseAs_stopView ..))

theorem cancelQueued_changesOnly (n : Nat) (st : Status) (detail : Nat) (s : State) : ChangesOnly [n] s (cancelQueued n st detail s) := by
  unfold cancelQueued
  dsimp only
  refine .ite (fun _ => ?_) fun _ => .refl _ s
  split
  · exact .trans (.setCh (by rfl)) (.of_stopView _ (complete_stopView ..))
  · exact .setCh (by rfl)

theorem cancelStart_changesOnly (n : Nat) (st : Status) (detail : Nat) (s : State) : ChangesOnly [n] s (cancelStart n st detail s) := by
  unfold cancelStart
  dsimp only
  refine .ite (fun _ => ?_) fun _ => .refl _ s
  split
  · exact .trans (.setCh (by rfl)) (.of_stopView _ (complete_stopView ..))
  · exact .setCh (by rfl)

theorem cutChannel_changesOnly (n : Nat) (s : State) : ChangesOnly [n] s (cutChannel n s) := by
  exact .ite (fun _ => .refl _ s) fun _ => .ite (fun _ => .refl _ s) fun _ => .setCh (by rfl)

theorem fadeChannel_changesOnly (n : Nat) (s : State) : ChangesOnly [n] s (fadeChannel n s) := by
  exact .ite (fun _ => .refl _ s) fun _ => .setCh (by rfl)

theorem stopChannel_changesOnly (cls n : Nat) (s : State) : ChangesOnly [n] s (stopChannel cls n s) := by
  unfold stopChannel
  dsimp only
  refine .ite (fun _ => ?_) fun _ => .refl _ s
  have hended : ChangesOnly [n] s (endRun n .stop 0 false (cancelStart n .fault 7 (cancelQueued n .superseded 0 s))) :=
    ((cancelQueued_changesOnly n _ _ s).trans (cancelStart_changesOnly n ..)).trans (endRun_changesOnly n ..)
  exact hended.trans (.ite (fun _ => fadeChannel_changesOnly n _) fun _ => cutChannel_changesOnly n _)

/-! ### A channel on its way to dark -/

/-- How a channel goes to dark: its state, CHEN, and the fade or cut under way (R401, R402). -/
def Chan.way (c : Chan) : ChState × Bool × Option Fade := (c.st, c.chen, c.fade)

@[simp] theorem cancelQueued_way (n : Nat) (st : Status) (detail : Nat) (s : State) :
    ((cancelQueued n st detail s).ch n).way = (s.ch n).way := by
  unfold cancelQueued
  dsimp only
  (repeat' split) <;> simp [Chan.way]

@[simp] theorem cancelStart_way (n : Nat) (st : Status) (detail : Nat) (s : State) :
    ((cancelStart n st detail s).ch n).way = (s.ch n).way := by
  unfold cancelStart
  dsimp only
  (repeat' split) <;> simp [Chan.way]

section
variable {n : Nat} {b : Bool} {f : Fade} {s : State}

/-- The run of a channel that fades or is cut has ended already. -/
theorem endRun_of_fading (why : EndReason) (arg : Int) (byHub : Bool) (h : (s.ch n).st = .fading) : endRun n why arg byHub s = s := by
  simp [endRun, h]

/-- A fade changes nothing of a cut or a fade under way (R412). -/
theorem fadeChannel_of_fade (h : (s.ch n).fade = some f) : fadeChannel n s = s := by
  simp [fadeChannel, h]

/-- A cut that begins during a fade replaces it from its own instant (R412). -/
theorem cutChannel_of_fade (h : (s.ch n).way = (.fading, b, some f)) (hf : f.cut = false) :
    ((cutChannel n s).ch n).chen = false ∧
      ((cutChannel n s).ch n).fade =
        some { cut := true, from_ := (s.ch n).ic, start := s.tk.clk, fadeNs := 0, dischNs := dischNs s n, lowAt := some s.tk.clk } := by
  obtain ⟨hst, -, hfade⟩ : (s.ch n).st = .fading ∧ (s.ch n).chen = b ∧ (s.ch n).fade = some f := by simpa [Chan.way] using h
  simp [cutChannel, hst, hfade, hf]

/-- A stop finds nothing to cancel or to end that bears on the way of a channel that fades: it only starts its own fade or cut. -/
theorem stopChannel_of_fading (cls : Nat) (hn : s.present n = true) (h : (s.ch n).way = (.fading, b, some f)) :
    ∃ u, ChangesOnly [n] s u ∧ (u.ch n).way = (.fading, b, some f) ∧
      stopChannel cls n s = if cls = 1 then fadeChannel n u else cutChannel n u := by
  have hway : ((cancelStart n .fault 7 (cancelQueued n .superseded 0 s)).ch n).way = (.fading, b, some f) := by simpa using h
  refine ⟨_, (cancelQueued_changesOnly n ..).trans (cancelStart_changesOnly n ..), hway, ?_⟩
  rw [stopChannel, if_pos hn]
  dsimp only
  rw [endRun_of_fading _ _ _ (congrArg Prod.fst hway)]

end

/-! ### A stop enters -/

/-- The class in force becomes the higher of the two, and then the stop takes the channels one after another (R798). -/
theorem enterStop_enters (cls : Nat) (src : StopSource) (x : Nat) (unsent : Bool) (s : State) :
    ∃ u : State, enterStop cls src x unsent s = u.channelList.foldl (fun s n => stopChannel cls n s) u ∧ u.sb.cls = max s.sb.cls cls ∧
      u.stopView = { s.stopView with sb := u.sb } := by
  have hnoting : (s.sb.noting s.tk.clk { cls, src, x, unsent }).cls = s.sb.cls := by
    unfold StopBath.noting
    split <;> rfl
  refine ⟨_, rfl, ?_⟩
  split
  case isTrue hnone => exact ⟨by simp; omega, by simp [State.stopView]⟩
  case isFalse hsome =>
    split
    case isTrue hrises => exact ⟨by simp; omega, by simp [State.stopView]⟩
    case isFalse hstays => split <;> exact ⟨by simp; omega, rfl⟩

theorem enterStop_cls (cls : Nat) (src : StopSource) (x : Nat) (unsent : Bool) (s : State) :
    (enterStop cls src x unsent s).sb.cls = max s.sb.cls cls := by
  obtain ⟨u, hstop, hcls, -⟩ := enterStop_enters cls src x unsent s
  rw [hstop, (ChangesOnly.foldl (fun s n => stopChannel_changesOnly cls n s) _ u).sb, hcls]

/-- Of channels that are stopped one after another each is stopped once, and the others' stops do not touch it. -/
theorem stopChannels_ch (cls : Nat) {n : Nat} {l : List Nat} (s : State) (hn : n ∈ l) (hl : l.Nodup) :
    ∃ u, ChangesOnly l s u ∧ u.ch n = s.ch n ∧ (l.foldl (fun s n => stopChannel cls n s) s).ch n = (stopChannel cls n u).ch n := by
  induction l generalizing s with
  | nil => cases hn
  | cons m l ih =>
    obtain ⟨hm, hl⟩ := List.nodup_cons.mp hl
    have hfirst := stopChannel_changesOnly cls m s
    rcases List.mem_cons.mp hn with rfl | hn
    · exact ⟨s, .refl _ s, rfl, (ChangesOnly.foldl (fun s n => stopChannel_changesOnly cls n s) l _).other n hm⟩
    · obtain ⟨u, hu, hch, hstop⟩ := ih (stopChannel cls m s) hn hl
      have hne : n ∉ [m] := by simpa using fun h : n = m => hm (h ▸ hn)
      exact ⟨u, (hfirst.mono (by simp)).trans (hu.mono (List.subset_cons_self m l)), hch.trans (hfirst.other n hne), hstop⟩

/-- A stop acts on a present channel that fades by its own fade or cut alone, at the instant at which the stop enters. -/
theorem enterStop_of_fading (cls : Nat) (src : StopSource) (x : Nat) (unsent : Bool) {s : State} {n : Nat} {b : Bool} {f : Fade}
    (hn : s.present n = true) (h : (s.ch n).way = (.fading, b, some f)) :
    ∃ u : State, u.tk.clk = s.tk.clk ∧ dischNs u n = dischNs s n ∧ (u.ch n).way = (.fading, b, some f) ∧
      (enterStop cls src x unsent s).ch n = (if cls = 1 then fadeChannel n u else cutChannel n u).ch n := by
  obtain ⟨e, hstop, -, hview⟩ := enterStop_enters cls src x unsent s
  have he : ChangesOnly [] { s with sb := e.sb } e := .of_stopView _ hview
  have hmem : n ∈ e.channelList := by
    have hlt : n < s.variant.channels := of_decide_eq_true (Bool.and_eq_true_iff.mp hn).1
    rw [State.channelList, he.variant]
    exact List.mem_range.mpr hlt
  obtain ⟨v, hv, hch, hfold⟩ := stopChannels_ch cls e hmem List.nodup_range
  have hway : (v.ch n).way = (.fading, b, some f) := by
    rw [hch, he.other n List.not_mem_nil]
    exact h
  obtain ⟨u, hu, huway, hself⟩ := stopChannel_of_fading cls ((hv.present n).trans ((he.present n).trans hn)) hway
  exact ⟨u, hu.clk.trans (hv.clk.trans he.clk), (hu.dischNs n).trans ((hv.dischNs n).trans (he.dischNs n)), huway,
    by rw [hstop, hfold, hself]⟩

/-! ### The STOP cell -/

/-- The class of the stop that a STOP cell enters (R797). -/
def cellClass (pl : List Byte) : Nat := if 1 ≤ leAt pl 0 1 ∧ leAt pl 0 1 ≤ 3 then leAt pl 0 1 else 3

theorem cellClass_eq_one_iff (pl : List Byte) : cellClass pl = 1 ↔ leAt pl 0 1 = 1 := by
  unfold cellClass
  split <;> omega

theorem exec_stopCell {s : State} (p h : Nat) (pl : List Byte) (hpower : s.power = .on) :
    exec (.stopCell p h pl) s = .next (stopCell p h pl s) :=
  congrArg Host.Outcome.next (mainOn_of_on _ hpower)

section
variable {s : State} {p h : Nat} (pl : List Byte)

/-- A node's own STOP cell only goes on its way (R797). -/
theorem stopCell_own (hport : portState s p ≠ .off) (htype : cType h = 4) (hdel : delivers s h = true) (hsrc : cSrc h = s.jl.idInUse) :
    (stopCell p h pl s).stopView = s.stopView := by
  have hdel' : delivers (goodCell p h pl s) h = true := hdel
  have hsrc' : cSrc h = (noteDelivered h (goodCell p h pl s)).jl.idInUse := hsrc
  simp [stopCell, cellTaken, hport, htype, hdel', ← hsrc']

/-- Another node's STOP cell enters the stop of its class, with nothing of the stop bath or the channels changed before or after. -/
theorem stopCell_enters (hport : portState s p ≠ .off) (htype : cType h = 4) (hdel : delivers s h = true) (hsrc : cSrc h ≠ s.jl.idInUse) :
    ∃ u : State, u.stopView = s.stopView ∧
      (stopCell p h pl s).stopView = (enterStop (cellClass pl) .ring (cSrc h) false u).stopView := by
  have hdel' : delivers (goodCell p h pl s) h = true := hdel
  have hsrc' : cSrc h ≠ (noteDelivered h (goodCell p h pl s)).jl.idInUse := hsrc
  refine ⟨raise .jl 0 0x21 1 [(leAt pl 0 1 : Nat), (cSrc h : Nat)] (noteDelivered h (goodCell p h pl s)), by simp, ?_⟩
  simp [stopCell, cellTaken, hport, htype, hdel', hsrc', cellClass]

/-- The class in force rises to the class of another node's cell (R797, R798). -/
theorem stopCell_cls (hport : portState s p ≠ .off) (htype : cType h = 4) (hdel : delivers s h = true) (hsrc : cSrc h ≠ s.jl.idInUse) :
    (stopCell p h pl s).sb.cls = max s.sb.cls (cellClass pl) := by
  obtain ⟨u, hu, hcell⟩ := stopCell_enters pl hport htype hdel hsrc
  rw [(ChangesOnly.of_stopView [] hcell).sb, enterStop_cls, (ChangesOnly.of_stopView [] hu).sb]

/-- A present channel that fades when another node's cell arrives sees the stop's own fade or cut alone, at the instant of the cell. -/
theorem stopCell_of_fading (hport : portState s p ≠ .off) (htype : cType h = 4) (hdel : delivers s h = true) (hsrc : cSrc h ≠ s.jl.idInUse)
    {n : Nat} {b : Bool} {f : Fade} (hn : s.present n = true) (hway : (s.ch n).way = (.fading, b, some f)) :
    ∃ v : State, v.tk.clk = s.tk.clk ∧ dischNs v n = dischNs s n ∧ (v.ch n).way = (.fading, b, some f) ∧
      (stopCell p h pl s).ch n = (if cellClass pl = 1 then fadeChannel n v else cutChannel n v).ch n := by
  obtain ⟨u, hu, hcell⟩ := stopCell_enters pl hport htype hdel hsrc
  have hbefore : ChangesOnly [] s u := .of_stopView _ hu
  have huway : (u.ch n).way = (.fading, b, some f) := by rw [hbefore.other n List.not_mem_nil, hway]
  obtain ⟨v, hclk, hdisch, hvway, hstop⟩ :=
    enterStop_of_fading (cellClass pl) .ring (cSrc h) false ((hbefore.present n).trans hn) huway
  exact ⟨v, hclk.trans hbefore.clk, hdisch.trans (hbefore.dischNs n), hvway,
    ((ChangesOnly.of_stopView [] hcell).other n List.not_mem_nil).trans hstop⟩

end

/-- Settles O47: a STOP cell of another node enters the stop of its class (`stopCell_cls`), the node's own leaves the stop bath and the channels
(`stopCell_own`), and to a channel that fades the stop does its own fade or cut alone (`stopCell_of_fading`): the fade changes nothing and the cut
replaces a fade. -/
theorem stopCellsEnterAndCutsReplaceFades : Obligations.StopCellsEnterAndCutsReplaceFades := by
  refine ⟨fun s p h pl hpower hport htype hdel hsrc => ?_, fun s p h pl hpower hport htype hdel hsrc => ?_,
    fun s p h pl n f hpower hport htype hdel hsrc hn hst hfade => ?_⟩
  · exact ⟨_, exec_stopCell p h pl hpower, stopCell_cls pl hport htype hdel hsrc⟩
  · have hown := stopCell_own pl hport htype hdel hsrc
    exact ⟨_, exec_stopCell p h pl hpower, congrArg StopView.sb hown, congrArg StopView.chs hown⟩
  · have hway : (s.ch n).way = (.fading, (s.ch n).chen, some f) := by rw [Chan.way, hst, hfade]
    obtain ⟨v, hclk, hdisch, hvway, hstop⟩ := stopCell_of_fading pl hport htype hdel hsrc hn hway
    refine ⟨_, exec_stopCell p h pl hpower, fun hclass _ => ?_, fun hclass hcut => ?_⟩
    · have hvfade : (v.ch n).fade = some f := congrArg (·.2.2) hvway
      rw [hstop, if_pos ((cellClass_eq_one_iff pl).mpr hclass), fadeChannel_of_fade hvfade, hvfade]
    · obtain ⟨hchen, hcutfade⟩ := cutChannel_of_fade hvway hcut
      rw [hstop, if_neg (mt (cellClass_eq_one_iff pl).mp hclass), hcutfade]
      exact ⟨hchen, _, rfl, rfl, hclk, congrArg some hclk, hdisch⟩

end Sys2Proof.Machine
end

section
/-!
SUPPORT. A loss of VSAFE (R846): `mainOff` takes every domain but 0, and the loss then empties what domain 0 holds; and O54.
-/
namespace Sys2Proof.Machine

theorem mainOff_doms (keep : List Nat) (s : State) : (mainOff keep s).doms = [] := rfl

/-- A domain that the table of domains does not list is off. -/
theorem State.dom_st_of_doms_nil {s : State} (h : s.doms = []) (d : Nat) : (s.dom d).st = .off := by
  rw [State.dom, h]
  rfl

theorem exec_vsafeLoss (s : State) : exec .vsafeLoss s = .next (vsafeLoss s) := rfl

@[simp] theorem vsafeLoss_power (s : State) : (vsafeLoss s).power = .off := rfl
@[simp] theorem vsafeLoss_doms (s : State) : (vsafeLoss s).doms = [] := mainOff_doms [] s
@[simp] theorem vsafeLoss_regs (s : State) : (vsafeLoss s).regs = {} := rfl
@[simp] theorem vsafeLoss_cn (s : State) : (vsafeLoss s).cn = [] := rfl

/-- The safelight starts empty; which rails are low is a level of the board and stands (R876, R888). -/
@[simp] theorem vsafeLoss_sl (s : State) : (vsafeLoss s).sl = { log := [], wake := 0, low := s.sl.low } := rfl

/-- Settles O54: the loss takes the main domains as every loss of main power does (`mainOff_doms`), and of domain 0 the held registers, the
receivers of the fixture buses and the safelight (`vsafeLoss_regs`, `vsafeLoss_cn`, `vsafeLoss_sl`). -/
theorem vsafeLossLosesDomainZero : Obligations.VsafeLossLosesDomainZero := by
  intro s
  have hdoms : (vsafeLoss s).doms = [] := vsafeLoss_doms s
  exact ⟨vsafeLoss s, exec_vsafeLoss s, vsafeLoss_power s, hdoms, State.dom_st_of_doms_nil hdoms, vsafeLoss_regs s, vsafeLoss_cn s,
    vsafeLoss_sl s⟩

end Sys2Proof.Machine
end

section
/-!
SUPPORT. A step and the command at its front, what every command answers, what a command of the main die does without main power, and the
state after reset.
-/
namespace Sys2Proof.Machine

/-- Settles O37: by the two equations of `step`. -/
theorem stepRunsTheFrontCommand : Obligations.StepRunsTheFrontCommand := by
  refine ⟨fun s c rest h => ?_, fun s h => ?_⟩
  · rw [step, h]
  · rw [step, h, idle]

/-- Settles O38: `exec` is total, and every one of its arms answers a next state. -/
theorem everyCommandAnswersANextState : Obligations.EveryCommandAnswersANextState := by
  intro c s
  cases c <;> exact ⟨_, rfl⟩

/-- The gate of the main die (log 4): without main power it gives back the state it was asked in. -/
theorem mainOn_of_not_on {s : State} (t : State) (h : s.power ≠ .on) : mainOn s t = s := if_neg h

/-- Settles O43: the twenty commands of the supplies, the safelight and the pins are no commands of the main die, and every other command
passes the gate (`mainOn_of_not_on`). -/
theorem withoutMainPowerTheMainDieStands : Obligations.WithoutMainPowerTheMainDieStands := by
  intro c s hc hp
  cases c
  case vsafeApply | vsafeLoss | vcoreEnter | powerLoss | mainRailBelowMinimum | deviceWake | alarmMatch | toneAccepted | xtalFail | xtalOk |
      pressAccepted | sealSample | wakePattern | wakeFrame | decoderDisarm | presReleased | perstAssert | perstDeassert | stopPinLow |
      stopPinHigh => cases hc
  all_goals exact congrArg Host.Outcome.next (mainOn_of_not_on _ hp)

/-- Settles O39: the tables of the state after reset are canonical (`wf_reset`), its counters stand at 0, its one entry of the log is the
power-on, and main power is on. -/
theorem resetMeetsTheInvariants : Obligations.ResetMeetsTheInvariants := by
  refine ⟨⟨wf_reset, by decide, rfl, rfl, nofun, nofun, by decide, rfl, ?_, by decide⟩, fun h => absurd rfl h⟩
  intro e he
  have he : e ∈ State.reset.sl.log := he
  simp only [State.reset, List.mem_singleton] at he
  rw [he]
  decide

end Sys2Proof.Machine
end

section
/-!
SUPPORT. What every command keeps: shared operations.  Each function of the model gives back a state that is `Kept`: the invariant
holds after it if it did before, the clock and what was sent go onward, the queue stands, and main power is not taken away.  Where a function
only calls others, `bound` chains their lemmas; where it binds states on its way, the proof names them.
-/
namespace Sys2Proof.Machine
/-- A change of the entries leaves the keys rising. -/
theorem rising_mapVals {α : Type} {t : Tab α} (f : Nat × α → α) (h : Tab.rising t = true) :
    Tab.rising (t.map fun e => (e.1, f e)) = true := by
  rw [Tab.rising_iff] at h ⊢
  exact h.map _ fun _ _ => id

/-- What every command makes of the invariant, the clock, what was sent and the queue. -/
structure Standing (s t : State) : Prop extends Onward s t where
  inv     : Inv s → Inv t
  pending : t.pending = s.pending

/-- None but the commands of the supplies and the end of a park sequence take main power away. -/
structure Carried (s t : State) : Prop extends Standing s t where
  power : s.power = .on → t.power = .on

theorem Carried.refl (s : State) : Carried s s where
  variant := rfl
  dbgen   := rfl
  fuses   := rfl
  clk     := le_rfl
  tx      := List.suffix_rfl
  inv     := id
  pending := rfl
  power   := id

theorem Carried.trans {s t u : State} (h : Carried s t) (k : Carried t u) : Carried s u where
  variant := k.variant.trans h.variant
  dbgen   := k.dbgen.trans h.dbgen
  fuses   := k.fuses.trans h.fuses
  clk     := h.clk.trans k.clk
  tx      := h.tx.trans k.tx
  inv     := k.inv ∘ h.inv
  pending := k.pending.trans h.pending
  power   := k.power ∘ h.power

/-- `Carried s t`, written as an inequality, so that `bound` finds the lemma of each function called, one after the other. -/
abbrev Kept (s t : State) : Prop := True ≤ Carried s t

section
variable {s t : State}

theorem Kept.carried (h : Kept s t) : Carried s t := h trivial

theorem Carried.kept (h : Carried s t) : Kept s t := fun _ => h

theorem Kept.step {u : State} (h : Kept s t) (k : Carried t u) : Kept s u := (h.carried.trans k).kept

/-- An update that leaves alone what `Carried` speaks of. -/
@[bound] theorem Kept.update {regs sheet pres xings tk hl rg sp ar streams sh jl pe fx en cn ez sb mm sl th free} (h : Kept s t)
    (hcnt : regs.cnt = t.regs.cnt := by rfl) (hsq : regs.sqN = t.regs.sqN := by rfl) (hclk : tk.clk = t.tk.clk := by rfl)
    (htag : hl.nextTag = t.hl.nextTag := by rfl) (hmem : ar.mem = t.ar.mem := by rfl) (hfuses : mm.fuses = t.mm.fuses := by rfl)
    (hlog : sl.log = t.sl.log := by rfl) :
    Kept s (State.mk t.variant t.dbgen t.power regs sheet pres t.doms xings tk hl rg sp ar t.chs t.mis streams t.ladder sh jl pe fx en cn
      ez sb mm sl th t.tx free t.pending) :=
  h.step
    { variant := rfl, dbgen := rfl, fuses := hfuses, clk := hclk.ge, tx := List.suffix_rfl, pending := rfl, power := id
      inv := fun i =>
        { mem := hmem ▸ i.mem, doms := i.doms, chs := i.chs, mis := i.mis, cnt := hcnt ▸ i.cnt, sq := hsq ▸ i.sq, tag := htag ▸ i.tag
          log := hlog ▸ i.log, logAt := hlog ▸ i.logAt, ladder := i.ladder } }

/-- A state that a proof starts from.  The mark keeps `bound` from comparing it with every state made of it. -/
def reached (t : State) : State := t

@[bound] theorem reached_kept (h : Carried s t) : Kept s (reached t) := h.kept

theorem Kept.of {f : State → State} (hf : ∀ t, Carried s t → Kept s (f (reached t))) (h : Kept s t) : Kept s (f t) := hf t h.carried

@[bound] theorem Kept.ite {c : Prop} [Decidable c] {u : State} (ht : Kept s t) (hu : Kept s u) : Kept s (if c then t else u) := by
  split
  · exact ht
  · exact hu

@[bound] theorem Kept.foldl {α : Type} {f : State → α → State} (h : ∀ t a, Carried s t → Kept s (f (reached t) a)) (l : List α)
    (ht : Kept s t) : Kept s (l.foldl f t) := by
  induction l generalizing t with
  | nil => exact ht
  | cons a l ih => exact ih (h t a ht.carried)

@[bound] theorem Kept.foldr {α : Type} {f : α → State → State} (h : ∀ a t, Carried s t → Kept s (f a (reached t))) (l : List α)
    (ht : Kept s t) : Kept s (l.foldr f t) := by
  induction l with
  | nil => exact ht
  | cons a l ih => exact h a _ ih.carried

@[bound] theorem mainOn_kept {u : State} (ht : Kept s t) (hu : Kept s u) : Kept s (mainOn t u) := by
  unfold mainOn
  exact hu.ite ht

/-! ### Updates of what `Carried` speaks of -/

@[bound] theorem setCh_kept (n : Nat) (c : Chan) (h : Kept s t) : Kept s (t.setCh n c) :=
  h.step { Carried.refl t with inv := fun i => { i with chs := Tab.rising_put _ _ _ i.chs } }

@[bound] theorem setMi_kept (n : Nat) (m : Meas) (h : Kept s t) : Kept s (t.setMi n m) :=
  h.step { Carried.refl t with inv := fun i => { i with mis := Tab.rising_put _ _ _ i.mis } }

@[bound] theorem setDom_kept (d : Nat) (x : Dom) (h : Kept s t) : Kept s (t.setDom d x) :=
  h.step { Carried.refl t with inv := fun i => { i with doms := Tab.rising_put _ _ _ i.doms } }

@[bound] theorem arPut_kept (a : Nat) (l : List Byte) (h : Kept s t) : Kept s (arPut a l t) :=
  h.step { Carried.refl t with inv := fun i => { i with mem := wf_arPut a l t i.mem } }

@[bound] theorem bumpBy_kept (key : Nat) {lim : Nat} (n : Nat) (hlim : lim ≤ 0xFFFFFFFF) (h : Kept s t) : Kept s (bumpBy key lim n t) :=
  h.step
    { Carried.refl t with
      inv := fun i =>
        { i with
          cnt := fun e he => by
            rcases Tab.mem_put _ _ _ _ he with rfl | he
            · exact (min_le_left _ _).trans hlim
            · exact i.cnt e he } }

@[bound] theorem bump_kept (key : Nat) (h : Kept s t) : Kept s (bump key t) := bumpBy_kept key 1 le_rfl h

@[bound] theorem sqRecord_kept (key bit : Nat) (h : Kept s t) : Kept s (sqRecord key bit t) :=
  h.step
    { Carried.refl t with
      inv := fun i =>
        { i with
          sq := fun e he => by
            rcases Tab.mem_put _ _ _ _ he with rfl | he
            · exact Nat.mod_lt _ (by decide)
            · exact i.sq e he } }

@[bound] theorem send_kept (m : Tx) (h : Kept s t) : Kept s (send m t) :=
  h.step { Carried.refl t with tx := List.IsSuffix.filter _ (List.suffix_cons m t.tx), inv := fun i => { i with } }

/-- DMA tags are of 8 bits. -/
theorem Kept.hl {x : HostLink} (h : Kept s t) (htag : x.nextTag < 256) : Kept s { t with hl := x } :=
  h.step { Carried.refl t with inv := fun i => { i with tag := htag } }

@[bound] theorem advance_kept (d : Nat) (h : Kept s t) : Kept s (advance d t) :=
  h.step { Carried.refl t with clk := Nat.le_add_right _ _, inv := fun i => { i with } }

end

section
variable {s t : State}

@[bound] theorem advanceTo_kept (t_ : Nat) : Kept s t → Kept s (advanceTo t_ t) :=
  .of fun t h => by unfold advanceTo; bound

@[bound] theorem advanceClk_kept (t_ : Nat) : Kept s t → Kept s (advanceClk t_ t) :=
  .of fun t h => by unfold advanceClk; dsimp only; bound

@[bound] theorem spend_kept : Kept s t → Kept s (spend t) :=
  .of fun t h => by unfold spend; bound

@[bound] theorem setRing_kept (r : Nat) (x : Ring) (h : Kept s t) : Kept s (t.setRing r x) := .update h

@[bound] theorem setFn_kept (f : Nat) (x : Fn) (h : Kept s t) : Kept s (t.setFn f x) := .update h

@[bound] theorem setLd_kept (l : Nat) (x : Ld) (h : Kept s t) : Kept s (t.setLd l x) := .update h

@[bound] theorem setSpool_kept (n : Nat) (x : Spool) (h : Kept s t) : Kept s (t.setSpool n x) := .update h

@[bound] theorem setStrip_kept (n : Nat) (x : Strip) (h : Kept s t) : Kept s (t.setStrip n x) := .update h

@[bound] theorem setExt_kept (x : Nat) (e : Extent) (h : Kept s t) : Kept s (t.setExt x e) := .update h

@[bound] theorem setLease_kept (l : Nat) (x : Lease) (h : Kept s t) : Kept s (t.setLease l x) := .update h

@[bound] theorem putNow_kept (key : Nat) (w : Word) : Kept s t → Kept s (putNow key w t) :=
  .of fun t h => by unfold putNow; bound

@[bound] theorem putLater_kept (key : Nat) (d w : Word) : Kept s t → Kept s (putLater key d w t) :=
  .of fun t h => by unfold putLater; bound

@[bound] theorem putOver_kept (key : Nat) (d w : Word) : Kept s t → Kept s (putOver key d w t) :=
  .of fun t h => by unfold putOver; dsimp only; bound

@[bound] theorem dropLater_kept (key : Nat) (w : Word) : Kept s t → Kept s (dropLater key w t) :=
  .of fun t h => by unfold dropLater; bound

@[bound] theorem actTaken_kept (p : Nat → Bool) (take : Bool) : Kept s t → Kept s (actTaken p take t) :=
  .of fun t h => by unfold actTaken; dsimp only; bound

@[bound] theorem takeNear_kept (p : Nat → Bool) (h : Kept s t) : Kept s (takeNear p t).2 := by
  unfold takeNear
  split
  · exact spend_kept h
  · exact h

@[bound] theorem actDue_kept (p : Nat → Bool) : Kept s t → Kept s (actDue p t) :=
  .of fun t h => by unfold actDue; dsimp only; bound

@[bound] theorem rcSet_kept (key : Nat) (bits : Word) : Kept s t → Kept s (rcSet key bits t) :=
  .of fun t h => by unfold rcSet; bound

@[bound] theorem setXing_kept (i j : Nat) (x : Crossing) (h : Kept s t) : Kept s (t.setXing i j x) := .update h

@[bound] theorem offer_kept (i j : Nat) (ws : List (Nat × Word)) : Kept s t → Kept s (offer i j ws t) :=
  .of fun t h => by unfold offer; bound

@[bound] theorem offerWords_kept (i j : Nat) (ws : List Word) : Kept s t → Kept s (offerWords i j ws t) :=
  .of fun t h => by unfold offerWords; bound

@[bound] theorem discarded_kept : Kept s t → Kept s (discarded t) :=
  .of fun t h => by unfold discarded; bound

@[bound] theorem offerOpen_kept (i j : Nat) : Kept s t → Kept s (offerOpen i j t) :=
  .of fun t h => by unfold offerOpen; dsimp only; bound

@[bound] theorem crossOpen_kept (i j : Nat) : Kept s t → Kept s (crossOpen i j t) :=
  .of fun t h => by unfold crossOpen; bound

@[bound] theorem traffic_kept : Kept s t → Kept s (traffic t) :=
  .of fun t h => by unfold traffic; bound

@[bound] theorem signal_kept (f v : Nat) : Kept s t → Kept s (signal f v t) :=
  .of fun t h => by unfold signal; dsimp only; bound

@[bound] theorem signalSpaced_kept (v : Nat) : Kept s t → Kept s (signalSpaced v t) :=
  .of fun t h => by unfold signalSpaced; dsimp only; bound

@[bound] theorem pushRec_kept (prod : Nat) (r : Rec) : Kept s t → Kept s (pushRec prod r t) :=
  .of fun t h => by unfold pushRec; bound

@[bound] theorem raiseAs_kept (b : Blk) (i num cls : Nat) (args : List Int) (src prod : Nat) :
    Kept s t → Kept s (raiseAs b i num cls args src prod t) :=
  .of fun t h => by unfold raiseAs; dsimp only; bound

@[bound] theorem raise_kept (b : Blk) (i num cls : Nat) (args : List Int) : Kept s t → Kept s (raise b i num cls args t) :=
  .of fun t h => by unfold raise; bound

@[bound] theorem raiseTimed_kept (b : Blk) (i num cls : Nat) (args : List Int) (time : Nat) :
    Kept s t → Kept s (raiseTimed b i num cls args time t) :=
  .of fun t h => by unfold raiseTimed; dsimp only; bound

@[bound] theorem recordWake_kept (k : Nat) : Kept s t → Kept s (recordWake k t) :=
  .of fun t h => by unfold recordWake; dsimp only; bound

@[bound] theorem wakeSource_kept (k : Nat) : Kept s t → Kept s (wakeSource k t) :=
  .of fun t h => by unfold wakeSource; bound

@[bound] theorem makeEcho_kept (r : Nat) (c : Cpl) (phase : Bool) : Kept s t → Kept s (makeEcho r c phase t) :=
  .of fun t h => by unfold makeEcho; bound

@[bound] theorem ringEnable_kept (r : Nat) : Kept s t → Kept s (ringEnable r t) :=
  .of fun t h => by unfold ringEnable; dsimp only; bound

@[bound] theorem ringSettle_kept (r : Nat) : Kept s t → Kept s (ringSettle r t) :=
  .of fun t h => by unfold ringSettle; dsimp only; bound

@[bound] theorem loseCompletion_kept (r : Nat) : Kept s t → Kept s (loseCompletion r t) :=
  .of fun t h => by unfold loseCompletion; dsimp only; bound

@[bound] theorem cqCheck_kept (r : Nat) : Kept s t → Kept s (cqCheck r t) :=
  .of fun t h => by unfold cqCheck; dsimp only; bound

@[bound] theorem complete_kept (r : Nat) (st : Status) (result detail : Nat) : Kept s t → Kept s (complete r st result detail t) :=
  .of fun t h => by unfold complete; dsimp only; bound

@[bound] theorem begin_kept {k : List Byte → State → State} (hk : ∀ d t, Carried s t → Kept s (k d (reached t))) (r op : Nat)
    (h : Kept s t) : Kept s (begin_ r op k t) := by
  unfold begin_
  split
  · split
    · exact h
    · exact .ite (hk _ _ (Kept.update (setRing_kept _ _ h)).carried) h
  · exact h

@[bound] theorem setStage_kept (r : Nat) (g : Stage) : Kept s t → Kept s (setStage r g t) :=
  .of fun t h => by unfold setStage; dsimp only; bound

@[bound] theorem crossCommand_kept (d : List Byte) : Kept s t → Kept s (crossCommand d t) :=
  .of fun t h => by unfold crossCommand; bound

@[bound] theorem checked_kept {k : State → State} (hk : ∀ t, Carried s t → Kept s (k (reached t))) (r : Nat) (d : List Byte)
    (missing : State → Option Nat) (usesGen : Bool) (h : Kept s t) : Kept s (checked r d missing usesGen k t) := by
  unfold checked
  split
  · exact complete_kept _ _ _ _ h
  · split
    · exact complete_kept _ _ _ _ h
    · exact .ite (complete_kept _ _ _ _ h) (hk _ (crossCommand_kept d h).carried)

@[bound] theorem dmaCount_kept (c k : Nat) : Kept s t → Kept s (dmaCount c k t) :=
  .of fun t h => by unfold dmaCount; bound

@[bound] theorem dmaOut_kept (by_ : Issuer) : Kept s t → Kept s (dmaOut by_ t) :=
  .of fun t h => by unfold dmaOut; bound

@[bound] theorem dmaBack_kept (by_ : Issuer) : Kept s t → Kept s (dmaBack by_ t) :=
  .of fun t h => by unfold dmaBack; bound

/-- A read request takes the next tag of 256 (R180). -/
@[bound] theorem issueRead_kept (c f addr len : Nat) (by_ : Issuer) (h : Kept s t) : Kept s (issueRead c f addr len by_ t) :=
  .foldl (fun _ _ h => send_kept _ h.kept) _ (.hl (dmaOut_kept _ (dmaCount_kept _ _ h)) (Nat.mod_lt _ (by decide)))

@[bound] theorem issueWrite_kept (c f addr : Nat) (bytes : List Byte) (by_ : Issuer) :
    Kept s t → Kept s (issueWrite c f addr bytes by_ t) :=
  .of fun t h => by unfold issueWrite; dsimp only; bound

end
end Sys2Proof.Machine
end

section
/-!
SUPPORT. What every command keeps: channels, the developer and the power path.
-/
namespace Sys2Proof.Machine
section
variable {s t : State}

@[bound] theorem latchUnexposed_kept (macro_ word : Nat) (src : Option Nat) : Kept s t → Kept s (latchUnexposed macro_ word src t) :=
  .of fun t h => by unfold latchUnexposed; bound

@[bound] theorem unexposedRead_kept (macro_ word : Nat) (src : Option Nat) : Kept s t → Kept s (unexposedRead macro_ word src t) :=
  .of fun t h => by unfold unexposedRead; dsimp only; bound

@[bound] theorem latchUncorrectable_kept (macro_ word : Nat) (src : Option Nat) (scrub : Bool) :
    Kept s t → Kept s (latchUncorrectable macro_ word src scrub t) :=
  .of fun t h => by unfold latchUncorrectable; bound

@[bound] theorem uncorrectableRead_kept (macro_ word : Nat) (src : Option Nat) (scrub : Bool) :
    Kept s t → Kept s (uncorrectableRead macro_ word src scrub t) :=
  .of fun t h => by unfold uncorrectableRead; dsimp only; bound

@[bound] theorem cutChannel_kept (n : Nat) : Kept s t → Kept s (cutChannel n t) :=
  .of fun t h => by unfold cutChannel; dsimp only; bound

@[bound] theorem fadeChannel_kept (n : Nat) : Kept s t → Kept s (fadeChannel n t) :=
  .of fun t h => by unfold fadeChannel; dsimp only; bound

@[bound] theorem fxRun_kept (n : Nat) (f : FxRun → FxRun) : Kept s t → Kept s (fxRun n f t) :=
  .of fun t h => by unfold fxRun; bound

@[bound] theorem fxRunStart_kept (n gen : Nat) : Kept s t → Kept s (fxRunStart n gen t) :=
  .of fun t h => by unfold fxRunStart; bound

@[bound] theorem fxRunEnd_kept (n : Nat) (why : EndReason) : Kept s t → Kept s (fxRunEnd n why t) :=
  .of fun t h => by unfold fxRunEnd; dsimp only; bound

@[bound] theorem fxStepStart_kept (n : Nat) (rest : Bool) : Kept s t → Kept s (fxStepStart n rest t) :=
  .of fun t h => by unfold fxStepStart; bound

@[bound] theorem fxStepEnd_kept (n t_ : Nat) (dq de : Int) : Kept s t → Kept s (fxStepEnd n t_ dq de t) :=
  .of fun t h => by unfold fxStepEnd; dsimp only; bound

@[bound] theorem stepEnd_kept (n : Nat) (term : Option Nat) (short overrun : Bool) : Kept s t → Kept s (stepEnd n term short overrun t) :=
  .of fun t h => by unfold stepEnd; dsimp only; bound

@[bound] theorem settleCmds_kept (n : Nat) (st : Status) (detail : Nat) : Kept s t → Kept s (settleCmds n st detail t) :=
  .of fun t h => by unfold settleCmds; bound

@[bound] theorem endRun_kept (n : Nat) (why : EndReason) (arg : Int) (byHub : Bool) : Kept s t → Kept s (endRun n why arg byHub t) :=
  .of fun t h => by unfold endRun; dsimp only; bound

@[bound] theorem cancelQueued_kept (n : Nat) (st : Status) (detail : Nat) : Kept s t → Kept s (cancelQueued n st detail t) :=
  .of fun t h => by unfold cancelQueued; dsimp only; bound

@[bound] theorem cancelStart_kept (n : Nat) (st : Status) (detail : Nat) : Kept s t → Kept s (cancelStart n st detail t) :=
  .of fun t h => by unfold cancelStart; dsimp only; bound

@[bound] theorem latchFault_kept (bit cause n : Nat) : Kept s t → Kept s (latchFault bit cause n t) :=
  .of fun t h => by unfold latchFault; dsimp only; bound

@[bound] theorem progFault_kept (n cause word : Nat) : Kept s t → Kept s (progFault n cause word t) :=
  .of fun t h => by unfold progFault; dsimp only; bound

@[bound] theorem limitTrip_kept (n item : Nat) (value : Int) : Kept s t → Kept s (limitTrip n item value t) :=
  .of fun t h => by unfold limitTrip; dsimp only; bound

@[bound] theorem noPhase_kept (n : Nat) : Kept s t → Kept s (noPhase n t) :=
  .of fun t h => by unfold noPhase; dsimp only; bound

@[bound] theorem stateReads_kept (base n : Nat) (ks : List Nat) : Kept s t → Kept s (stateReads base n ks t) :=
  .of fun t h => by unfold stateReads; dsimp only; bound

@[bound] theorem limitTest_kept (n item need : Nat) (bad : Bool) (value : Int) : Kept s t → Kept s (limitTest n item need bad value t) :=
  .of fun t h => by unfold limitTest; dsimp only; bound

@[bound] theorem swapBank_kept (n mark : Nat) : Kept s t → Kept s (swapBank n mark t) :=
  .of fun t h => by unfold swapBank; dsimp only; bound

@[bound] theorem channelShort_kept (n j k : Nat) (avg share : Int) : Kept s t → Kept s (channelShort n j k avg share t) :=
  .of fun t h => by unfold channelShort; dsimp only; bound

@[bound] theorem tripOut_kept (n j ev : Nat) (h : Kept s t) : Kept s (tripOut n j ev t) := by
  unfold tripOut
  extract_lets c p now retry args recent fourth due p' q u v w
  have hu : Kept s u := by bound
  split
  · exact channelShort_kept _ _ _ _ _ hu
  · bound

@[bound] theorem actStep_kept (n : Nat) : Kept s t → Kept s (actStep n t) :=
  .of fun t h => by unfold actStep; dsimp only; bound

theorem fetchWord_error_kept {n pc k : Nat} {u : State} (h : Kept s t) (hu : fetchWord n pc t = .error (k, u)) : Kept s u := by
  simp only [fetchWord] at hu
  (repeat' split at hu) <;> cases hu <;> bound

theorem readTerms_error_kept {n pc m k : Nat} {u : State} (h : Kept s t) (hu : readTerms n pc m t = .error (k, u)) : Kept s u := by
  induction m generalizing pc with
  | zero => cases hu
  | succ m ih =>
    simp only [readTerms] at hu
    split at hu
    · next hf => cases hu; exact fetchWord_error_kept h hf
    · next hf => cases hu; exact fetchWord_error_kept h hf
    · split at hu
      · cases hu; exact h
      · split at hu
        · cases hu; exact h
        · split at hu
          · next hr => cases hu; exact ih hr
          · cases hu

theorem beginStep_error_kept {n pc k : Nat} {w : BitVec 64} {u : State} (h : Kept s t) (hu : beginStep n pc w t = .error (k, u)) :
    Kept s u := by
  simp only [beginStep] at hu
  split at hu
  · cases hu; bound
  · split at hu
    · cases hu; bound
    · split at hu
      · next hr => cases hu; exact readTerms_error_kept (actStep_kept n h) hr
      · cases hu

theorem beginStep_kept {n pc : Nat} {w : BitVec 64} {u : State} (h : Kept s t) (hu : beginStep n pc w t = .ok u) : Kept s u := by
  simp only [beginStep] at hu
  split at hu
  · cases hu
  · split at hu
    · cases hu
    · split at hu
      · cases hu
      · cases hu; bound

theorem setv_kept {n : Nat} {w : BitVec 64} {u : State} (h : Kept s t) (hu : setv n w t = some u) : Kept s u := by
  simp only [setv] at hu
  (repeat' split at hu) <;> cases hu <;> bound

theorem flowInstr_kept {n pc : Nat} {w : BitVec 64} {u : State} {f : Flow} (h : Kept s t) (hu : flowInstr n pc w t = (f, u)) : Kept s u := by
  simp only [flowInstr] at hu
  split at hu
  case h_10 =>
    split at hu
    · next hv => cases hu; exact setv_kept h hv
    · cases hu; exact h
  all_goals (repeat' split at hu) <;> cases hu <;> bound

@[bound] theorem execFlow_kept (n fuel pc : Nat) (h : Kept s t) : Kept s (execFlow n fuel pc t) := by
  induction fuel using Nat.strong_induction_on generalizing pc t with
  | _ fuel ih =>
    unfold execFlow
    split
    · next hf => exact progFault_kept _ _ _ (setCh_kept _ _ (fetchWord_error_kept h hf))
    · dsimp only
      split
      · bound
      · split
        · split
          · next hb => exact progFault_kept _ _ _ (setCh_kept _ _ (beginStep_error_kept h hb))
          · next hb => exact beginStep_kept h hb
        · split
          · bound
          · split
            · split
              · split
                · next hf => exact progFault_kept _ _ _ (setCh_kept _ _ (flowInstr_kept h hf))
                · exact flowInstr_kept h rfl
              · bound
            · split
              · next hf => exact ih _ (Nat.lt_succ_self _) _ (flowInstr_kept h hf)
              · next hf => have := flowInstr_kept h hf; bound
              · next hf => exact flowInstr_kept h hf
              · next hf => exact progFault_kept _ _ _ (setCh_kept _ _ (flowInstr_kept h hf))

@[bound] theorem endStep_kept (n k : Nat) (st : StepSt) : Kept s t → Kept s (endStep n k st t) :=
  .of fun t h => by unfold endStep; dsimp only; bound

@[bound] theorem stepPeriod_kept (n : Nat) : Kept s t → Kept s (stepPeriod n t) :=
  .of fun t h => by unfold stepPeriod; dsimp only; bound

@[bound] theorem developerTurn_kept (n : Nat) : Kept s t → Kept s (developerTurn n t) :=
  .of fun t h => by unfold developerTurn; dsimp only; bound

@[bound] theorem beginRun_kept (n : Nat) (a : StartArgs) : Kept s t → Kept s (beginRun n a t) :=
  .of fun t h => by unfold beginRun; dsimp only; bound

@[bound] theorem integrate_kept (n : Nat) : Kept s t → Kept s (integrate n t) :=
  .of fun t h => by unfold integrate; dsimp only; bound

@[bound] theorem setCommand_kept (n : Nat) (raw integ : Rat) : Kept s t → Kept s (setCommand n raw integ t) :=
  .of fun t h => by unfold setCommand; dsimp only; bound

@[bound] theorem loopCommand_kept (n : Nat) : Kept s t → Kept s (loopCommand n t) :=
  .of fun t h => by unfold loopCommand; dsimp only; bound

@[bound] theorem setDuties_kept (n : Nat) : Kept s t → Kept s (setDuties n t) :=
  .of fun t h => by unfold setDuties; dsimp only; bound

@[bound] theorem actFound_kept (which : Nat → Bool) (n : Nat) : Kept s t → Kept s (actFound which n t) :=
  .of fun t h => by unfold actFound; dsimp only; bound

@[bound] theorem testPhases_kept (n : Nat) (codes : List (List Int)) : Kept s t → Kept s (testPhases n codes t) :=
  .of fun t h => by unfold testPhases; dsimp only; bound

@[bound] theorem fadeStep_kept (n : Nat) : Kept s t → Kept s (fadeStep n t) :=
  .of fun t h => by unfold fadeStep; dsimp only; bound

@[bound] theorem commandsAndTurn_kept (n : Nat) : Kept s t → Kept s (commandsAndTurn n t) :=
  .of fun t h => by unfold commandsAndTurn; dsimp only; bound

@[bound] theorem stageVolts_kept (n : Nat) : Kept s t → Kept s (stageVolts n t) :=
  .of fun t h => by unfold stageVolts; dsimp only; bound

@[bound] theorem fxCurrentStep_kept (n : Nat) (was : Rat) : Kept s t → Kept s (fxCurrentStep n was t) :=
  .of fun t h => by unfold fxCurrentStep; dsimp only; bound

@[bound] theorem ciStateReads_kept (n : Nat) : Kept s t → Kept s (ciStateReads n t) :=
  .of fun t h => by unfold ciStateReads; dsimp only; bound

@[bound] theorem retryReturns_kept (n : Nat) : Kept s t → Kept s (retryReturns n t) :=
  .of fun t h => by unfold retryReturns; dsimp only; bound

@[bound] theorem gangCross_kept (n : Nat) : Kept s t → Kept s (gangCross n t) :=
  .of fun t h => by unfold gangCross; bound

@[bound] theorem pwmBoundary_kept (n : Nat) (codes : List (List Int)) (h : Kept s t) : Kept s (pwmBoundary n codes t) := by
  unfold pwmBoundary
  extract_lets len t1 old c c' t2 t3 t4 t5 i fifty t6 t7 t8 t9 t10 was t11 c''
  have h1 : Kept s t1 := by bound
  have h3 : Kept s t3 := testPhases_kept _ _ (actFound_kept _ _ (setCh_kept _ _ h1))
  have h5 : Kept s t5 := stepPeriod_kept _ (integrate_kept _ (retryReturns_kept _ (actFound_kept _ _ h3)))
  have h7 : Kept s t7 := limitTest_kept _ _ _ _ _ (limitTest_kept _ _ _ _ _ h5)
  have h8 : Kept s t8 := fadeStep_kept _ (commandsAndTurn_kept _ h7)
  have h9 : Kept s t9 := .ite h8 (actStep_kept _ h8)
  have h10 : Kept s t10 := .ite (noPhase_kept _ h9) h9
  have h11 : Kept s t11 := stageVolts_kept _ (fxCurrentStep_kept _ _ (setDuties_kept _ (loopCommand_kept _ h10)))
  exact .ite (setCh_kept _ _ h11) h

@[bound] theorem normalTrip_kept (n j : Nat) (ua : Int) (at_ lasts : Nat) : Kept s t → Kept s (normalTrip n j ua at_ lasts t) :=
  .of fun t h => by unfold normalTrip; dsimp only; bound

@[bound] theorem hardTrip_kept (n j : Nat) (ua : Int) : Kept s t → Kept s (hardTrip n j ua t) :=
  .of fun t h => by unfold hardTrip; dsimp only; bound

@[bound] theorem driverFault_kept (n j : Nat) (low : Bool) : Kept s t → Kept s (driverFault n j low t) :=
  .of fun t h => by unfold driverFault; dsimp only; bound

@[bound] theorem phRetry_kept (n j : Nat) : Kept s t → Kept s (phRetry n j t) :=
  .of fun t h => by unfold phRetry; dsimp only; bound

end
end Sys2Proof.Machine
end

section
/-!
SUPPORT. What every command keeps: the shutter and Jikanlink.
-/
namespace Sys2Proof.Machine
section
variable {s t : State}

@[bound] theorem setShc_kept (n : Nat) (x : ShCh) (h : Kept s t) : Kept s (t.setShc n x) := .update h

@[bound] theorem rangeEnds_kept : Kept s t → Kept s (rangeEnds t) :=
  .of fun t h => by unfold rangeEnds; bound

@[bound] theorem requestWord_kept (n : Nat) : Kept s t → Kept s (requestWord n t) :=
  .of fun t h => by unfold requestWord; dsimp only; bound

@[bound] theorem leaseTurn_kept (n : Nat) (h : Kept s t) : Kept s (leaseTurn n t) :=
  .ite (raise_kept _ _ _ _ _ (bump_kept _ (setShc_kept _ _ h))) (setShc_kept _ _ h)

@[bound] theorem ageTurn_kept (n : Nat) : Kept s t → Kept s (ageTurn n t) :=
  .of fun t h => by unfold ageTurn; dsimp only; bound

@[bound] theorem rackGrant_kept : Kept s t → Kept s (rackGrant t) :=
  .of fun t h => by unfold rackGrant; dsimp only; bound

@[bound] theorem lateGrant_kept : Kept s t → Kept s (lateGrant t) :=
  .of fun t h => by unfold lateGrant; bound

@[bound] theorem decideRound_kept (h : Kept s t) : Kept s (decideRound t) := by
  unfold decideRound
  extract_lets gone _ t1 before t2 cont rank gifts give t3 part level req unmet t4 _ t5 t6
  have h1 : Kept s t1 := lateGrant_kept (.update h)
  have h2 : Kept s t2 := .foldl (fun _ _ h => leaseTurn_kept _ h.kept) _ h1
  have h3 : Kept s t3 := by
    refine Kept.foldl (fun u n hu => ?_) _ h2
    exact .ite (reached_kept hu) (setShc_kept _ _ (reached_kept hu))
  have h4 : Kept s t4 := .foldl (fun _ _ h => ageTurn_kept _ h.kept) _ h3
  have h5 : Kept s t5 := .update h4
  have h6 : Kept s t6 := .ite (bump_kept _ h5) h5
  exact rangeEnds_kept (.foldl (fun _ _ h => setShc_kept _ _ h.kept) _ h6)

@[bound] theorem grantWord_kept (n : Nat) : Kept s t → Kept s (grantWord n t) :=
  .of fun t h => by unfold grantWord; dsimp only; bound

@[bound] theorem actBeat_kept : Kept s t → Kept s (actBeat t) :=
  .of fun t h => by unfold actBeat; bound

@[bound] theorem shutterJoin_kept : Kept s t → Kept s (shutterJoin t) :=
  .of fun t h => by unfold shutterJoin; bound

@[bound] theorem releaseGrant_kept (n : Nat) : Kept s t → Kept s (releaseGrant n t) :=
  .of fun t h => by unfold releaseGrant; bound

@[bound] theorem budgetSet_kept (r : Nat) (d : List Byte) : Kept s t → Kept s (budgetSet r d t) :=
  .of fun t h => by unfold budgetSet; bound

@[bound] theorem budgetDone_kept : Kept s t → Kept s (budgetDone t) :=
  .of fun t h => by unfold budgetDone; bound

@[bound] theorem prioritySet_kept (r : Nat) (d : List Byte) : Kept s t → Kept s (prioritySet r d t) :=
  .of fun t h => by unfold prioritySet; dsimp only; bound

@[bound] theorem setPort_kept (p : Nat) (x : Port) (h : Kept s t) : Kept s (t.setPort p x) := .update h

@[bound] theorem sendCell_kept (q : Nat) (c : Cell) : Kept s t → Kept s (sendCell q c t) :=
  .of fun t h => by unfold sendCell; dsimp only; bound

@[bound] theorem txDirect_kept (q : Nat) (c : Cell) : Kept s t → Kept s (txDirect q c t) :=
  .of fun t h => by unfold txDirect; bound

@[bound] theorem txCell_kept (p : Nat) (c : Cell) : Kept s t → Kept s (txCell p c t) :=
  .of fun t h => by unfold txCell; bound

@[bound] theorem forward_kept (p : Nat) (c : Cell) : Kept s t → Kept s (forward p c t) :=
  .of fun t h => by unfold forward; bound

@[bound] theorem goodCell_kept (p h_ : Nat) (pl : List Byte) : Kept s t → Kept s (goodCell p h_ pl t) :=
  .of fun t h => by unfold goodCell; dsimp only; bound

@[bound] theorem cellTaken_kept {act : State → State} (ha : ∀ t, Carried s t → Kept s (act (reached t))) (ty p hd : Nat) (pl : List Byte)
    (h : Kept s t) : Kept s (cellTaken ty p hd pl act t) := by
  have hg : Kept s (goodCell p hd pl t) := goodCell_kept _ _ _ h
  exact .ite h (.ite (ha _ hg.carried) (.ite hg (forward_kept _ _ hg)))

@[bound] theorem sendGuard_kept (n q : Nat) : Kept s t → Kept s (sendGuard n q t) :=
  .of fun t h => by unfold sendGuard; dsimp only; bound

@[bound] theorem passGuard_kept (p : Nat) : Kept s t → Kept s (passGuard p t) :=
  .of fun t h => by unfold passGuard; bound

@[bound] theorem queueNew_kept (m : OutMsg) : Kept s t → Kept s (queueNew m t) :=
  .of fun t h => by unfold queueNew; dsimp only; bound

@[bound] theorem queueMsg_kept (ty dst times : Nat) (pl : List Byte) : Kept s t → Kept s (queueMsg ty dst times pl t) :=
  .of fun t h => by unfold queueMsg; bound

@[bound] theorem userSent_kept (r : Nat) : Kept s t → Kept s (userSent r t) :=
  .of fun t h => by unfold userSent; bound

theorem takeOut_kept {i ring : Nat} {r : Cell × State} (h : Kept s t) (hr : takeOut i ring t = some r) : Kept s r.2 := by
  simp only [takeOut] at hr
  split at hr <;> cases hr
  dsimp only
  bound

theorem fillFrom_kept {ring : Nat} {echo : Bool} {r : Cell × State} (h : Kept s t) (hr : fillFrom ring echo t = some r) : Kept s r.2 := by
  unfold fillFrom at hr
  split at hr
  · cases hr
  · obtain ⟨i, -, hi⟩ := Option.bind_eq_some_iff.mp hr
    exact takeOut_kept h hi

@[bound] theorem fillEmpty_kept (ring : Nat) (c : Cell) (h : Kept s t) : Kept s (fillEmpty ring c t).2 := by
  unfold fillEmpty
  split
  · next hr => exact fillFrom_kept h hr
  · split
    · cases hr : fillFrom (1 - ring) false t with
      | none => exact h
      | some r => exact fillFrom_kept h hr
    · exact h

@[bound] theorem flushIdle_kept (h : Kept s t) : Kept s (flushIdle t) := by
  unfold flushIdle
  refine .ite h (.foldl (fun t _ ht => ?_) _ h)
  dsimp only
  split
  · exact ht.kept
  · split
    · next hr => exact txCell_kept _ _ (takeOut_kept ht.kept hr)
    · exact ht.kept

@[bound] theorem sendMsg_kept (ty dst times : Nat) (pl : List Byte) : Kept s t → Kept s (sendMsg ty dst times pl t) :=
  .of fun t h => by unfold sendMsg; bound

@[bound] theorem noteDelivered_kept (h_ : Nat) : Kept s t → Kept s (noteDelivered h_ t) :=
  .of fun t h => by unfold noteDelivered; bound

@[bound] theorem forwardMsg_kept (p : Nat) (c : Cell) : Kept s t → Kept s (forwardMsg p c t) :=
  .of fun t h => by unfold forwardMsg; dsimp only; bound

@[bound] theorem userRx_kept (src : Nat) (all : Bool) (pl : List Byte) : Kept s t → Kept s (userRx src all pl t) :=
  .of fun t h => by unfold userRx; bound

@[bound] theorem userMessage_kept (p h_ : Nat) (pl : List Byte) : Kept s t → Kept s (userMessage p h_ pl t) :=
  .of fun t h => by unfold userMessage; dsimp only; bound

@[bound] theorem sendTone_kept (p : Nat) : Kept s t → Kept s (sendTone p t) :=
  .of fun t h => by unfold sendTone; bound

@[bound] theorem wakeCell_kept (p h_ : Nat) (pl : List Byte) : Kept s t → Kept s (wakeCell p h_ pl t) :=
  .of fun t h => by unfold wakeCell; dsimp only; bound

@[bound] theorem joinCell_kept (p h_ : Nat) (pl : List Byte) : Kept s t → Kept s (joinCell p h_ pl t) :=
  .of fun t h => by unfold joinCell; dsimp only; bound

@[bound] theorem leaveCell_kept (p h_ : Nat) (pl : List Byte) : Kept s t → Kept s (leaveCell p h_ pl t) :=
  .of fun t h => by unfold leaveCell; dsimp only; bound

@[bound] theorem claimCell_kept (p h_ : Nat) (pl : List Byte) : Kept s t → Kept s (claimCell p h_ pl t) :=
  .of fun t h => by unfold claimCell; dsimp only; bound

@[bound] theorem passEmpty_kept (p hd : Nat) (room : Bool) (h : Kept s t) : Kept s (passEmpty p hd room t) := by
  unfold passEmpty
  extract_lets e f
  have hf : Kept s f.2 := by
    unfold f
    split
    · exact fillEmpty_kept _ _ h
    · exact h
  exact .ite h (forward_kept _ _ hf)

@[bound] theorem emptyCell_kept (p h_ : Nat) (pl : List Byte) (room : Bool) : Kept s t → Kept s (emptyCell p h_ pl room t) :=
  .of fun t h => by unfold emptyCell; bound

@[bound] theorem sendEcho_kept (p : Nat) (pl : List Byte) (at_ : Option Nat) (h : Kept s t) : Kept s (sendEcho p pl at_ t) := by
  unfold sendEcho
  extract_lets f u
  have hu : Kept s u := by bound
  split
  · split
    · next hr => have := takeOut_kept hu hr; bound
    · exact hu
  · exact flushIdle_kept hu

@[bound] theorem echoRequest_kept (p : Nat) : Kept s t → Kept s (echoRequest p t) :=
  .of fun t h => by unfold echoRequest; dsimp only; bound

@[bound] theorem echoCell_kept (p h_ : Nat) (pl : List Byte) : Kept s t → Kept s (echoCell p h_ pl t) :=
  .of fun t h => by unfold echoCell; dsimp only; bound

@[bound] theorem unwrapPort_kept (p : Nat) (arrived : Bool) : Kept s t → Kept s (unwrapPort p arrived t) :=
  .of fun t h => by unfold unwrapPort; dsimp only; bound

@[bound] theorem wrapIfAlone_kept (p : Nat) : Kept s t → Kept s (wrapIfAlone p t) :=
  .of fun t h => by unfold wrapIfAlone; bound

@[bound] theorem sendHeld_kept (p : Nat) (e : Nat × Cell) : Kept s t → Kept s (sendHeld p e t) :=
  .of fun t h => by unfold sendHeld; dsimp only; bound

@[bound] theorem portPllLock_kept (p : Nat) : Kept s t → Kept s (portPllLock p t) :=
  .of fun t h => by unfold portPllLock; dsimp only; bound

@[bound] theorem portUpEvent_kept (p : Nat) : Kept s t → Kept s (portUpEvent p t) :=
  .of fun t h => by unfold portUpEvent; dsimp only; bound

@[bound] theorem portDown_kept (p cause : Nat) : Kept s t → Kept s (portDown p cause t) :=
  .of fun t h => by unfold portDown; dsimp only; bound

@[bound] theorem portOff_kept (p : Nat) : Kept s t → Kept s (portOff p t) :=
  .of fun t h => by unfold portOff; dsimp only; bound

@[bound] theorem noteWritten_kept (p h_ : Nat) : Kept s t → Kept s (noteWritten p h_ t) :=
  .of fun t h => by unfold noteWritten; bound

@[bound] theorem forwardBad_kept (p : Nat) (c : Cell) : Kept s t → Kept s (forwardBad p c t) :=
  .of fun t h => by unfold forwardBad; dsimp only; bound

@[bound] theorem readBytes_kept (l : List (Option Byte)) (h : Kept s t) : Kept s (readBytes l t).2 := by
  unfold readBytes
  refine List.foldlRecOn (motive := fun a : List Byte × State => Kept s a.2) l _ h fun a ha b _ => ?_
  split
  · exact ha
  · exact spend_kept ha

@[bound] theorem badCell_kept (p : Nat) (line : List CodeGroup) (afterIdle inSlot : Bool) : Kept s t →
    Kept s (badCell p line afterIdle inSlot t) :=
  .of fun t h => by unfold badCell; dsimp only; bound

@[bound] theorem loadTime_kept (now : Nat) (h : Kept s t) : Kept s (loadTime now t) :=
  h.step { Carried.refl t with inv := fun i => { i with mis := rising_mapVals _ i.mis } }

@[bound] theorem setSource_kept : Kept s t → Kept s (setSource t) :=
  .of fun t h => by unfold setSource; bound

@[bound] theorem followTime_kept (t_ : Nat) (e : Int) : Kept s t → Kept s (followTime t_ e t) :=
  .of fun t h => by unfold followTime; dsimp only; bound

@[bound] theorem sendJoin_kept : Kept s t → Kept s (sendJoin t) :=
  .of fun t h => by unfold sendJoin; dsimp only; bound

@[bound] theorem leftRing_kept (why : Nat) (dst : NodeState) : Kept s t → Kept s (leftRing why dst t) :=
  .of fun t h => by unfold leftRing; dsimp only; bound

@[bound] theorem resignRing_kept : Kept s t → Kept s (resignRing t) :=
  .of fun t h => by unfold resignRing; bound

@[bound] theorem sendLeave_kept (reason : Nat) : Kept s t → Kept s (sendLeave reason t) :=
  .of fun t h => by unfold sendLeave; bound

@[bound] theorem followSync_kept (b now master joined admission : Nat) (wrapped : Bool) (h : Kept s t) :
    Kept s (followSync b now master joined admission wrapped t) := by
  unfold followSync
  extract_lets e old changed t1 _ t2 near _ t3 t4 _ _ t5
  have h1 : Kept s t1 := by bound
  have h2 : Kept s t2 := setSource_kept (by bound)
  have h3 : Kept s t3 := .ite (.ite h2 (leftRing_kept _ _ h2)) (.ite (by bound) h2)
  have h4 : Kept s t4 := followTime_kept _ _ h3
  have h5 : Kept s t5 := .ite (.ite (raise_kept _ _ _ _ _ (by bound)) (.ite (.ite h4 (raise_kept _ _ _ _ _ (by bound))) h4)) h4
  exact .ite (sendJoin_kept h5) h5

@[bound] theorem betterMaster_kept (id : Nat) (h : Kept s t) : Kept s (betterMaster t id).2 := by
  unfold betterMaster
  split
  · exact h
  · exact spend_kept h

@[bound] theorem syncCell_kept (p hd : Nat) (pl : List Byte) : Kept s t → Kept s (syncCell p hd pl t) :=
  .of fun t h => by unfold syncCell; dsimp only; bound

@[bound] theorem reportCell_kept (p h_ : Nat) (pl : List Byte) : Kept s t → Kept s (reportCell p h_ pl t) :=
  .of fun t h => by unfold reportCell; dsimp only; bound

@[bound] theorem takeGrant_kept (b : Nat) (g : Word) : Kept s t → Kept s (takeGrant b g t) :=
  .of fun t h => by unfold takeGrant; dsimp only; bound

@[bound] theorem grantCell_kept (p h_ : Nat) (pl : List Byte) : Kept s t → Kept s (grantCell p h_ pl t) :=
  .of fun t h => by unfold grantCell; dsimp only; bound

@[bound] theorem bothRings_kept (h_ : Nat) (pl : List Byte) : Kept s t → Kept s (bothRings h_ pl t) :=
  .of fun t h => by unfold bothRings; bound

@[bound] theorem masterSlots_kept : Kept s t → Kept s (masterSlots t) :=
  .of fun t h => by unfold masterSlots; dsimp only; bound

@[bound] theorem collectionClose_kept (h : Kept s t) : Kept s (collectionClose t) := by
  unfold collectionClose
  extract_lets t1 b _ t2 me rep _ t3 mem gone t4 miss prev j e split scale bud reps _ _ out
  have h2 : Kept s t2 := .update (advanceTo_kept _ h)
  have h3 : Kept s t3 := .ite (.update h2) h2
  have h4 : Kept s t4 := .foldl (fun _ _ h => raise_kept _ _ _ _ _ h.kept) _ h3
  refine .ite h (.ite ?_ ?_)
  · exact masterSlots_kept (.foldl (fun _ _ h => bothRings_kept _ _ h.kept) _ h2)
  generalize divide _ _ _ _ = d
  obtain ⟨given, last⟩ := d
  dsimp -zeta only
  extract_lets grants t5 _ t6 t7 t8 t9
  have h6 : Kept s t6 := .update (.update h4)
  have h8 : Kept s t8 := .foldl (fun _ _ h => bothRings_kept _ _ h.kept) _ (takeGrant_kept _ _ h6)
  exact masterSlots_kept (.foldl (fun _ _ h => raise_kept _ _ _ _ _ (.update h.kept)) _ h8)

@[bound] theorem decideJoins_kept (h : Kept s t) : Kept s (decideJoins t) := by
  unfold decideJoins
  extract_lets t1 bad good _ t2
  have h1 : Kept s t1 := by
    refine Kept.foldl (fun u e hu => ?_) _ h
    exact .ite (raise_kept _ _ _ _ _ (.update (reached_kept hu))) (reached_kept hu)
  have h2 : Kept s t2 := by bound
  clear_value t2 good bad
  split
  · exact raise_kept _ _ _ _ _ (by bound)
  · bound
  · bound
  · bound

@[bound] theorem masterFrame_kept (h : Kept s t) : Kept s (masterFrame t) :=
  .foldl (fun _ _ h => bothRings_kept _ _ h.kept) _ (.update (bothRings_kept _ _ h))

@[bound] theorem becomeMaster_kept (cold : Bool) : Kept s t → Kept s (becomeMaster cold t) :=
  .of fun t h => by unfold becomeMaster; dsimp only; bound

@[bound] theorem claimNow_kept (cold : Bool) : Kept s t → Kept s (claimNow cold t) :=
  .of fun t h => by unfold claimNow; dsimp only; bound

@[bound] theorem syncMissCheck_kept (h : Kept s t) : Kept s (syncMissCheck t) := by
  unfold syncMissCheck
  extract_lets t1 b _ t2 _ t3 _ t4 t5
  have h1 : Kept s t1 := advanceTo_kept _ h
  have h2 : Kept s t2 := by bound
  have h3 : Kept s t3 := bump_kept _ (by bound)
  have h4 : Kept s t4 := setSource_kept (by bound)
  have h5 : Kept s t5 := .ite (raise_kept _ _ _ _ _ h4) h4
  clear_value t5 t2
  bound

@[bound] theorem countBeats_kept : Kept s t → Kept s (countBeats t) :=
  .of fun t h => by unfold countBeats; dsimp only; bound

@[bound] theorem stateBeat_kept (gone : Bool) (h : Kept s t) : Kept s (stateBeat gone t) := by
  have hj : Kept s { t with jl := { t.jl with joinAge := t.jl.joinAge + 1 } } := .update h
  unfold stateBeat
  split
  · exact .ite (leftRing_kept _ _ h) (.ite (resignRing_kept h) (masterFrame_kept (decideJoins_kept h)))
  · exact .ite (leftRing_kept _ _ h) (.ite (sendLeave_kept _ h) h)
  · exact .ite (.update h) (.ite (sendJoin_kept hj) hj)
  · exact .ite (.update h) (.ite (sendJoin_kept hj) hj)
  · exact h
  · exact .ite (claimNow_kept _ (.update h)) h

@[bound] theorem nodeBeat_kept (h : Kept s t) : Kept s (nodeBeat t) := by
  unfold nodeBeat
  extract_lets t1 _ t2 t3 gone new _
  have h1 : Kept s t1 := countBeats_kept h
  have h2 : Kept s t2 := .ite (sendMsg_kept _ _ _ _ (by bound)) h1
  have h3 : Kept s t3 := by
    unfold t3
    split
    · exact becomeMaster_kept _ h2
    · exact h2
  exact flushIdle_kept (stateBeat_kept _ (by bound))

@[bound] theorem shutterBeat_kept (old : State) (h : Kept s t) : Kept s (shutterBeat old t) := by
  unfold shutterBeat
  extract_lets _ t1 _ m t2 _ t3 g t4 t5 ranged _ t6
  have h1 : Kept s t1 := .ite (.update h) h
  have h2 : Kept s t2 := .update h1
  have h3 : Kept s t3 := .update h2
  have h4 : Kept s t4 := .update h2
  have h5 : Kept s t5 :=
    .ite (rackGrant_kept (.update h1))
      (.ite (.ite h2 (.ite (.ite (raise_kept _ _ _ _ _ h3) h3) (.ite (raise_kept _ _ _ _ _ h4) h4))) h1)
  have h6 : Kept s t6 := .update h5
  exact .ite (raise_kept _ _ _ _ _ h6) h6

@[bound] theorem beatBoundary_kept (h : Kept s t) : Kept s (beatBoundary t) :=
  nodeBeat_kept (shutterBeat_kept _ (budgetDone_kept (actBeat_kept (.update (advanceTo_kept _ h)))))

@[bound] theorem jlUser_kept (r : Nat) (d : List Byte) : Kept s t → Kept s (jlUser r d t) :=
  .of fun t h => by unfold jlUser; dsimp only; bound

end
end Sys2Proof.Machine
end

section
/-!
SUPPORT. What every command keeps: the archive, the spools and the rings.
-/
namespace Sys2Proof.Machine
section
variable {s t : State}

@[bound] theorem zeroNext_kept : Kept s t → Kept s (zeroNext t) :=
  .of fun t h => by unfold zeroNext; bound

@[bound] theorem zeroAsk_kept (first : Bool) (x : Nat) : Kept s t → Kept s (zeroAsk first x t) :=
  .of fun t h => by unfold zeroAsk; dsimp only; bound

@[bound] theorem toZeroing_kept (x : Nat) : Kept s t → Kept s (toZeroing x t) :=
  .of fun t h => by unfold toZeroing; bound

@[bound] theorem arLine_kept (line : Nat) (bytes : List Byte) : Kept s t → Kept s (arLine line bytes t) :=
  .of fun t h => by unfold arLine; bound

@[bound] theorem fillBlock_kept : Kept s t → Kept s (fillBlock t) :=
  .of fun t h => by unfold fillBlock; dsimp only; bound

@[bound] theorem fillZero_kept (x : Nat) : Kept s t → Kept s (fillZero x t) :=
  .of fun t h => by unfold fillZero; bound

@[bound] theorem fillTake_kept (x : Nat) (h : Kept s t) : Kept s (fillTake x t) := by
  unfold fillTake
  extract_lets _ _ _ u _ v w after _
  have hw : Kept s w := arLine_kept _ _ (.update (setExt_kept _ _ h))
  clear_value w
  split
  · exact .update hw
  · exact fillZero_kept _ (.update hw)

@[bound] theorem fillOpen_kept : Kept s t → Kept s (fillOpen t) :=
  .of fun t h => by unfold fillOpen; bound

@[bound] theorem fillSeal_kept : Kept s t → Kept s (fillSeal t) :=
  .of fun t h => by unfold fillSeal; dsimp only; bound

@[bound] theorem fillCopy_kept (sp : Nat) (r : Rec) : Kept s t → Kept s (fillCopy sp r t) :=
  .of fun t h => by unfold fillCopy; dsimp only; bound

@[bound] theorem releaseExt_kept (x : Nat) : Kept s t → Kept s (releaseExt x t) :=
  .of fun t h => by unfold releaseExt; dsimp only; bound

@[bound] theorem leaseTake_kept (r : Nat) (d : List Byte) : Kept s t → Kept s (leaseTake r d t) :=
  .of fun t h => by unfold leaseTake; dsimp only; bound

@[bound] theorem leaseRenew_kept (r : Nat) (d : List Byte) : Kept s t → Kept s (leaseRenew r d t) :=
  .of fun t h => by unfold leaseRenew; dsimp only; bound

@[bound] theorem leaseDrop_kept (r : Nat) (d : List Byte) : Kept s t → Kept s (leaseDrop r d t) :=
  .of fun t h => by unfold leaseDrop; dsimp only; bound

@[bound] theorem heartbeatSample_kept : Kept s t → Kept s (heartbeatSample t) :=
  .of fun t h => by unfold heartbeatSample; dsimp only; bound

@[bound] theorem extentZeroed_kept (h : Kept s t) : Kept s (extentZeroed t) := by
  unfold extentZeroed
  split
  · exact h
  · next x rest _ =>
    extract_lets _ u lo out a v w all a' w'
    have hu : Kept s u := setExt_kept _ _ h
    have hv : Kept s v := hu.step { Carried.refl u with inv := fun i => { i with mem := (wf_keep u.ar.mem (fun a => !out a) i.mem :) } }
    have hw : Kept s w := zeroNext_kept hv
    have hw' : Kept s w' := .ite (raise_kept _ _ _ _ _ (.update hw)) hw
    exact .ite hw' (fillOpen_kept hw')

@[bound] theorem trainingBegins_kept : Kept s t → Kept s (trainingBegins t) :=
  .of fun t h => by unfold trainingBegins; bound

@[bound] theorem archiveTrainingDone_kept (failed : Option Nat) : Kept s t → Kept s (archiveTrainingDone failed t) :=
  .of fun t h => by unfold archiveTrainingDone; dsimp only; bound

@[bound] theorem poisonAdd_kept (line : Nat) : Kept s t → Kept s (poisonAdd line t) :=
  .of fun t h => by unfold poisonAdd; dsimp only; bound

@[bound] theorem lineError_kept (line : Nat) : Kept s t → Kept s (lineError line t) :=
  .of fun t h => by unfold lineError; bound

@[bound] theorem unleased_kept (l : Nat) (write : Bool) : Kept s t → Kept s (unleased l write t) :=
  .of fun t h => by unfold unleased; bound

@[bound] theorem corrected_kept (k : Nat) : Kept s t → Kept s (corrected k t) :=
  .of fun t h => by unfold corrected; bound

@[bound] theorem cxlMemRead_kept (l a words : Nat) (ue : Bool) : Kept s t → Kept s (cxlMemRead l a words ue t) :=
  .of fun t h => by unfold cxlMemRead; dsimp only; bound

@[bound] theorem cxlMemWrite_kept (l a : Nat) (bytes : List Byte) (poison : Bool) : Kept s t → Kept s (cxlMemWrite l a bytes poison t) :=
  .of fun t h => by unfold cxlMemWrite; dsimp only; bound

@[bound] theorem archiveCopy_kept (r : Nat) (d : List Byte) : Kept s t → Kept s (archiveCopy r d t) :=
  .of fun t h => by unfold archiveCopy; bound

@[bound] theorem archiveCopyDone_kept (r words : Nat) (ue : Option Nat) : Kept s t → Kept s (archiveCopyDone r words ue t) :=
  .of fun t h => by unfold archiveCopyDone; dsimp only; bound

@[bound] theorem spDrop_kept (n reason : Nat) (r : Rec) : Kept s t → Kept s (spDrop n reason r t) :=
  .of fun t h => by unfold spDrop; dsimp only; bound

@[bound] theorem levelFell_kept (n : Nat) : Kept s t → Kept s (levelFell n t) :=
  .of fun t h => by unfold levelFell; dsimp only; bound

@[bound] theorem levelRose_kept (n : Nat) : Kept s t → Kept s (levelRose n t) :=
  .of fun t h => by unfold levelRose; dsimp only; bound

@[bound] theorem levels_kept : Kept s t → Kept s (levels t) :=
  .of fun t h => by unfold levels; bound

@[bound] theorem takeHead_kept (n : Nat) : Kept s t → Kept s (takeHead n t) :=
  .of fun t h => by unfold takeHead; dsimp only; bound

@[bound] theorem markHead_kept (n strip k : Nat) : Kept s t → Kept s (markHead n strip k t) :=
  .of fun t h => by unfold markHead; dsimp only; bound

@[bound] theorem stallEnds_kept (n : Nat) : Kept s t → Kept s (stallEnds n t) :=
  .of fun t h => by unfold stallEnds; dsimp only; bound

@[bound] theorem stallSync_kept (n : Nat) : Kept s t → Kept s (stallSync n t) :=
  .of fun t h => by unfold stallSync; dsimp only; bound

@[bound] theorem stripLook_kept (n : Nat) : Kept s t → Kept s (stripLook n t) :=
  .of fun t h => by unfold stripLook; dsimp only; bound

@[bound] theorem endBinding_kept (n : Nat) (drop : Bool) : Kept s t → Kept s (endBinding n drop t) :=
  .of fun t h => by unfold endBinding; dsimp only; bound

@[bound] theorem releaseDone_kept (n : Nat) : Kept s t → Kept s (releaseDone n t) :=
  .of fun t h => by unfold releaseDone; dsimp only; bound

@[bound] theorem settleSpool_kept (n fuel : Nat) (h : Kept s t) : Kept s (settleSpool n fuel t) := by
  induction fuel generalizing t with
  | zero => exact h
  | succ fuel ih =>
    have hgone (reason : Nat) (r : Rec) {u : State} (hu : Kept s u) :
        Kept s (settleSpool n fuel (levelFell n (spDrop n reason r (takeHead n u)))) :=
      ih (levelFell_kept _ (spDrop_kept _ _ _ (takeHead_kept _ hu)))
    unfold settleSpool
    split
    · exact h
    · dsimp only
      split
      · exact .ite (hgone _ _ h) h
      · exact .ite (hgone _ _ h) (.ite (hgone _ _ (setSpool_kept _ _ h)) h)

@[bound] theorem settleAll_kept (h : Kept s t) : Kept s (settleAll t) :=
  .foldl (fun _ _ h => stripLook_kept _ h.kept) _ (.foldl (fun _ _ h => releaseDone_kept _ h.kept) _ (.foldl (fun _ _ h => settleSpool_kept _ _ h.kept) _
    (.foldl (fun _ _ h => stallSync_kept _ h.kept) _ (levels_kept h))))

@[bound] theorem forwardOne_kept (n : Nat) : Kept s t → Kept s (forwardOne n t) :=
  .of fun t h => by unfold forwardOne; dsimp only; bound

@[bound] theorem makeRoom_kept (h_ : Nat) : Kept s t → Kept s (makeRoom h_ t) :=
  .of fun t h => by unfold makeRoom; bound

@[bound] theorem commitRec_kept (r : Rec) : Kept s t → Kept s (commitRec r t) :=
  .of fun t h => by unfold commitRec; dsimp only; bound

@[bound] theorem setStaged_kept (prod h_ : Nat) (ws : List Word) (h : Kept s t) : Kept s (t.setStaged prod h_ ws) := .update h

@[bound] theorem granuleLost_kept (ev prod h_ n : Nat) (ws : List Word) : Kept s t → Kept s (granuleLost ev prod h_ n ws t) :=
  .of fun t h => by unfold granuleLost; bound

@[bound] theorem commitCycle_kept (prod : Nat) : Kept s t → Kept s (commitCycle prod t) :=
  .of fun t h => by unfold commitCycle; dsimp only; bound

@[bound] theorem stageWord_kept (prod h_ tag : Nat) (w : Word) : Kept s t → Kept s (stageWord prod h_ tag w t) :=
  .of fun t h => by unfold stageWord; dsimp only; bound

@[bound] theorem snapshotIn_kept (r : Rec) : Kept s t → Kept s (snapshotIn r t) :=
  .of fun t h => by unfold snapshotIn; bound

@[bound] theorem recordCommit_kept (prod spool : Nat) (words : List (Nat × Word)) : Kept s t → Kept s (recordCommit prod spool words t) :=
  .of fun t h => by unfold recordCommit; dsimp only; bound

@[bound] theorem rollback_kept (prod : Nat) : Kept s t → Kept s (rollback prod t) :=
  .of fun t h => by unfold rollback; dsimp only; bound

@[bound] theorem stripItem_kept (n : Nat) : Kept s t → Kept s (stripItem n t) :=
  .of fun t h => by unfold stripItem; dsimp only; bound

theorem granuleBad_kept {n : Nat} {ue : Bool} {g : Granule} {u : State} (h : Kept s t) (hu : granuleBad n ue g t = some u) : Kept s u := by
  unfold granuleBad at hu
  split at hu
  · rw [← Option.some.inj hu]
    exact settleAll_kept (levelFell_kept _ (spDrop_kept _ _ _ (takeHead_kept _ (spend_kept
      (.ite (unexposedRead_kept _ _ _ h) (uncorrectableRead_kept _ _ _ _ h))))))
  · cases hu

@[bound] theorem cascadeForward_kept (n : Nat) (ue : Bool) (h : Kept s t) : Kept s (cascadeForward n ue t) := by
  unfold cascadeForward
  split
  · split
    · split
      · split
        · next hu => exact granuleBad_kept h hu
        · exact settleAll_kept (forwardOne_kept _ h)
      · exact h
    · exact h
  · exact h

@[bound] theorem slotWrite_kept (n : Nat) (ue : Bool) (h : Kept s t) : Kept s (slotWrite n ue t) := by
  unfold slotWrite
  split
  · exact h
  · split
    · next hu => exact granuleBad_kept h hu
    · split
      · exact settleAll_kept h
      · refine .ite (settleAll_kept h) (settleAll_kept (stripItem_kept _ (markHead_kept _ _ _ (setStrip_kept _ _ (.update ?_)))))
        exact issueWrite_kept _ _ _ _ _ (issueWrite_kept _ _ _ _ _ h)

@[bound] theorem passMark_kept (mark : Nat) : Kept s t → Kept s (passMark mark t) :=
  .of fun t h => by unfold passMark; dsimp only; bound

@[bound] theorem ownerRead_kept (n slot : Nat) (owner : Nat) : Kept s t → Kept s (ownerRead n slot owner t) :=
  .of fun t h => by unfold ownerRead; dsimp only; bound

@[bound] theorem tailReadComplete_kept : Kept s t → Kept s (tailReadComplete t) :=
  .of fun t h => by unfold tailReadComplete; dsimp only; bound

@[bound] theorem stallReread_kept (n : Nat) : Kept s t → Kept s (stallReread n t) :=
  .of fun t h => by unfold stallReread; dsimp only; bound

@[bound] theorem stripStall_kept (n : Nat) : Kept s t → Kept s (stripStall n t) :=
  .of fun t h => by unfold stripStall; dsimp only; bound

@[bound] theorem rewindTailRead_kept (n : Nat) : Kept s t → Kept s (rewindTailRead n t) :=
  .of fun t h => by unfold rewindTailRead; dsimp only; bound

@[bound] theorem rewindStrips_kept (p : Nat → Bool) : Kept s t → Kept s (rewindStrips p t) :=
  .of fun t h => by unfold rewindStrips; dsimp only; bound

@[bound] theorem stripError_kept (n kind : Nat) : Kept s t → Kept s (stripError n kind t) :=
  .of fun t h => by unfold stripError; dsimp only; bound

@[bound] theorem stripBind_kept (r : Nat) (d : List Byte) : Kept s t → Kept s (stripBind r d t) :=
  .of fun t h => by unfold stripBind; dsimp only; bound

theorem takeNear_regs (p : Nat → Bool) (t : State) : (takeNear p t).2.regs = t.regs := by
  unfold takeNear
  split <;> rfl

theorem actDue_cnt (p : Nat → Bool) (t : State) : (actDue p t).regs.cnt = t.regs.cnt := (congrArg Regs.cnt (takeNear_regs p t) :)

theorem actDue_sqN (p : Nat → Bool) (t : State) : (actDue p t).regs.sqN = t.regs.sqN := (congrArg Regs.sqN (takeNear_regs p t) :)

@[bound] theorem spoolEpoch_kept (h : Kept s t) : Kept s (spoolEpoch t) := by
  unfold spoolEpoch
  extract_lets u bad back
  have hu : Kept s u := actDue_kept _ h
  have hback : (back t.regs).cnt = t.regs.cnt ∧ (back t.regs).sqN = t.regs.sqN := by
    refine List.foldlRecOn (motive := fun r : Regs => r.cnt = t.regs.cnt ∧ r.sqN = t.regs.sqN) _ _ ⟨rfl, rfl⟩ fun r hr e _ => ?_
    split
    · exact hr
    · exact hr
  refine .ite (settleAll_kept (.foldl (fun v n hv => ?_) _ hu))
    (raise_kept _ _ _ _ _ (.update hu (hback.1.trans (actDue_cnt _ t).symm) (hback.2.trans (actDue_sqN _ t).symm)))
  exact .ite (reached_kept hv) (setSpool_kept _ _ (reached_kept hv))

@[bound] theorem voidFetches_kept (r : Nat) : Kept s t → Kept s (voidFetches r t) :=
  .of fun t h => by unfold voidFetches; dsimp only; bound

@[bound] theorem tableKick_kept (r : Nat) : Kept s t → Kept s (tableKick r t) :=
  .of fun t h => by unfold tableKick; bound

@[bound] theorem startFetch_kept (r : Nat) : Kept s t → Kept s (startFetch r t) :=
  .of fun t h => by unfold startFetch; bound

@[bound] theorem fetchKick_kept (r k : Nat) (h : Kept s t) : Kept s (fetchKick r k t) := by
  induction k generalizing t with
  | zero => exact h
  | succ k ih => exact .ite (ih (issueRead_kept _ _ _ _ _ (setRing_kept _ _ h))) h

@[bound] theorem kickDma_kept (h : Kept s t) : Kept s (kickDma t) :=
  settleAll_kept (.foldl (fun _ _ h => tableKick_kept _ (fetchKick_kept _ _ h.kept)) _ h)

@[bound] theorem ringStop_kept (r : Nat) : Kept s t → Kept s (ringStop r t) :=
  .of fun t h => by unfold ringStop; dsimp only; bound

@[bound] theorem ringFault_kept (r : Nat) : Kept s t → Kept s (ringFault r t) :=
  .of fun t h => by unfold ringFault; dsimp only; bound

@[bound] theorem ringsDown_kept : Kept s t → Kept s (ringsDown t) :=
  .of fun t h => by unfold ringsDown; dsimp only; bound

@[bound] theorem enableGoes1_kept (r : Nat) : Kept s t → Kept s (enableGoes1 r t) :=
  .of fun t h => by unfold enableGoes1; dsimp only; bound

@[bound] theorem enableGoes0_kept (r : Nat) : Kept s t → Kept s (enableGoes0 r t) :=
  .of fun t h => by unfold enableGoes0; bound

@[bound] theorem pollGoes1_kept : Kept s t → Kept s (pollGoes1 t) :=
  .of fun t h => by unfold pollGoes1; bound

@[bound] theorem ringItem_kept (r : Nat) (now : Bool) : Kept s t → Kept s (ringItem r now t) :=
  .of fun t h => by unfold ringItem; dsimp only; bound

@[bound] theorem completionWrite_kept (r : Nat) : Kept s t → Kept s (completionWrite r t) :=
  .of fun t h => by unfold completionWrite; dsimp only; bound

@[bound] theorem completionWaitExpiry_kept (r : Nat) : Kept s t → Kept s (completionWaitExpiry r t) :=
  .of fun t h => by unfold completionWaitExpiry; dsimp only; bound

@[bound] theorem moderationTimeout_kept (v : Nat) : Kept s t → Kept s (moderationTimeout v t) :=
  .of fun t h => by unfold moderationTimeout; dsimp only; bound

@[bound] theorem doorbellPoll_kept : Kept s t → Kept s (doorbellPoll t) :=
  .of fun t h => by unfold doorbellPoll; dsimp only; bound

@[bound] theorem takeDescs_kept (r n : Nat) (bytes : List Byte) (c : Nat) (h : Kept s t) : Kept s (takeDescs r n bytes c t) := by
  induction n generalizing bytes c t with
  | zero => exact h
  | succ n ih =>
    have hv (u : Ring) (gone : Nat) : Kept s (bumpBy 0x43048 0xFFFFFFFF gone (voidFetches r (t.setRing r u))) :=
      bumpBy_kept _ _ le_rfl (voidFetches_kept _ (setRing_kept _ _ h))
    exact .ite (ih _ _ (setRing_kept _ _ h)) (.ite (raise_kept _ _ _ _ _ (hv _ _)) (hv _ _))

@[bound] theorem takeCounts_kept (line : List Byte) (r : Nat) : Kept s t → Kept s (takeCounts line r t) :=
  .of fun t h => by unfold takeCounts; dsimp only; bound

@[bound] theorem descriptorArrival_kept : Kept s t → Kept s (descriptorArrival t) :=
  .of fun t h => by unfold descriptorArrival; dsimp only; bound

@[bound] theorem badDescriptor_kept (r : Nat) : Kept s t → Kept s (badDescriptor r t) :=
  .of fun t h => by unfold badDescriptor; bound

@[bound] theorem nop_kept (r : Nat) (d : List Byte) : Kept s t → Kept s (nop r d t) :=
  .of fun t h => by unfold nop; bound

@[bound] theorem notePolicy_kept (off : Nat) (old : Word) : Kept s t → Kept s (notePolicy off old t) :=
  .of fun t h => by unfold notePolicy; bound

@[bound] theorem applyPolicy_kept (n : Nat) : Kept s t → Kept s (applyPolicy n t) :=
  .of fun t h => by unfold applyPolicy; dsimp only; bound

@[bound] theorem declareLoss_kept : Kept s t → Kept s (declareLoss t) :=
  .of fun t h => by unfold declareLoss; dsimp only; bound

@[bound] theorem hostLoss_kept : Kept s t → Kept s (hostLoss t) :=
  .of fun t h => by unfold hostLoss; bound

@[bound] theorem lossIfDue_kept : Kept s t → Kept s (lossIfDue t) :=
  .of fun t h => by unfold lossIfDue; bound

@[bound] theorem heartbeatSeen_kept (h_ : Word) : Kept s t → Kept s (heartbeatSeen h_ t) :=
  .of fun t h => by unfold heartbeatSeen; dsimp only; bound

@[bound] theorem doorbellLineArrival_kept : Kept s t → Kept s (doorbellLineArrival t) :=
  .of fun t h => by unfold doorbellLineArrival; dsimp only; bound

end
end Sys2Proof.Machine
end

section
/-!
SUPPORT. What every command keeps: the host link, the measurement islands and the print engine.
-/
namespace Sys2Proof.Machine
section
variable {s t : State}

@[bound] theorem aerReport_kept (f e : Nat) (advisory : Bool) : Kept s t → Kept s (aerReport f e advisory t) :=
  .of fun t h => by unfold aerReport; bound

@[bound] theorem cplLost_kept (r era kind : Nat) : Kept s t → Kept s (cplLost r era kind t) :=
  .of fun t h => by unfold cplLost; dsimp only; bound

@[bound] theorem issuerError_kept (i : Issuer) (kind : Nat) : Kept s t → Kept s (issuerError i kind t) :=
  .of fun t h => by unfold issuerError; bound

@[bound] theorem badTlp_kept (kind fn : Nat) : Kept s t → Kept s (badTlp kind fn t) :=
  .of fun t h => by unfold badTlp; bound

@[bound] theorem dmaError_kept (kind fn addr : Nat) (i : Issuer) : Kept s t → Kept s (dmaError kind fn addr i t) :=
  .of fun t h => by unfold dmaError; dsimp only; bound

@[bound] theorem failReq_kept (kind : Nat) (q : Req) : Kept s t → Kept s (failReq kind q t) :=
  .of fun t h => by unfold failReq; bound

theorem takeReq_kept {tag : Nat} {r : Req × State} (h : Kept s t) (hr : takeReq tag t = some r) : Kept s r.2 := by
  obtain ⟨q, -, rfl⟩ := Option.map_eq_some_iff.mp hr
  exact traffic_kept (.update h)

@[bound] theorem dmaCompletion_kept (tag kind : Nat) (data : List Byte) (h : Kept s t) : Kept s (dmaCompletion tag kind data t) := by
  unfold dmaCompletion
  split
  · exact h
  · next q u hr =>
    extract_lets v bytes _
    have hv : Kept s v := dmaBack_kept _ (passMark_kept _ (takeReq_kept h hr))
    exact .ite (kickDma_kept (failReq_kept _ _ (badTlp_kept _ _ hv))) (.ite (kickDma_kept (.update hv)) (kickDma_kept (dmaError_kept _ _ _ _ hv)))

@[bound] theorem completionTimeout_kept (tag : Nat) (h : Kept s t) : Kept s (completionTimeout tag t) := by
  unfold completionTimeout
  split
  · exact h
  · next q u hr => exact .ite h (kickDma_kept (dmaError_kept _ _ _ _ (advanceClk_kept _ (takeReq_kept h hr))))

@[bound] theorem ecrcError_kept (f : Nat) (tag : Option Nat) (h : Kept s t) : Kept s (ecrcError f tag t) := by
  unfold ecrcError
  refine .ite h ?_
  split
  · exact badTlp_kept _ _ (traffic_kept h)
  · split
    · exact badTlp_kept _ _ (traffic_kept h)
    · next q u hr =>
      have hu : Kept s u := takeReq_kept h hr
      exact kickDma_kept (.ite (failReq_kept _ _ (badTlp_kept _ _ hu)) (dmaError_kept _ _ _ _ hu))

@[bound] theorem poisonedTlp_kept : Kept s t → Kept s (poisonedTlp t) :=
  .of fun t h => by unfold poisonedTlp; bound

@[bound] theorem linkError_kept (kind : Nat) : Kept s t → Kept s (linkError kind t) :=
  .of fun t h => by unfold linkError; dsimp only; bound

@[bound] theorem flushVector_kept (f v : Nat) : Kept s t → Kept s (flushVector f v t) :=
  .of fun t h => by unfold flushVector; dsimp only; bound

@[bound] theorem flushPending_kept (f : Nat) : Kept s t → Kept s (flushPending f t) :=
  .of fun t h => by unfold flushPending; bound

@[bound] theorem fnResume_kept (f : Nat) : Kept s t → Kept s (fnResume f t) :=
  .of fun t h => by unfold fnResume; bound

@[bound] theorem cfgWrite_kept (f : Nat) (field : CfgField) (value : Nat) : Kept s t → Kept s (cfgWrite f field value t) :=
  .of fun t h => by unfold cfgWrite; dsimp only; bound

@[bound] theorem fnReady_kept (f : Nat) (h : Kept s t) : Kept s (fnReady f t).2 := by
  unfold fnReady
  have hu (x : Fn) : Kept s (t.setFn f x) := setFn_kept _ _ h
  dsimp only
  split
  · exact h
  · split
    · exact h
    · split
      · exact hu _
      · exact .ite (spend_kept (hu _)) (spend_kept h)

@[bound] theorem configurationRequest_kept (f : Nat) (field : CfgField) (write : Option Nat) (h : Kept s t) :
    Kept s (configurationRequest f field write t) := by
  unfold configurationRequest
  extract_lets ready
  have hr : Kept s ready.2 := fnReady_kept _ (traffic_kept h)
  clear_value ready
  refine .ite h (.ite (aerReport_kept _ _ _ (send_kept _ (traffic_kept h))) (.ite (send_kept _ hr) ?_))
  split
  · exact fnResume_kept _ (cfgWrite_kept _ _ _ hr)
  · exact send_kept _ hr

@[bound] theorem d3hotEntry_kept (f : Nat) : Kept s t → Kept s (d3hotEntry f t) :=
  .of fun t h => by unfold d3hotEntry; bound

@[bound] theorem msixUnmask_kept (f v : Nat) : Kept s t → Kept s (msixUnmask f v t) :=
  .of fun t h => by unfold msixUnmask; dsimp only; bound

@[bound] theorem vectorIntervalEnd_kept (v : Nat) : Kept s t → Kept s (vectorIntervalEnd v t) :=
  .of fun t h => by unfold vectorIntervalEnd; dsimp only; bound

@[bound] theorem bar2Write_kept (f i : Nat) (w : Word) : Kept s t → Kept s (bar2Write f i w t) :=
  .of fun t h => by unfold bar2Write; dsimp only; bound

@[bound] theorem barUse_kept {k : State → State} (hk : ∀ t, Carried s t → Kept s (k (reached t))) (f : Nat) (isRead : Bool)
    (h : Kept s t) : Kept s (barUse f isRead k t) :=
  .ite h (.ite (hk _ (traffic_kept h).carried) (aerReport_kept _ _ _ (send_kept _ (traffic_kept h))))

@[bound] theorem bar2Access_kept (f off size : Nat) (write : Bool) (value : Nat) :
    Kept s t → Kept s (bar2Access f off size write value t) :=
  .of fun t h => by unfold bar2Access; dsimp only; bound

@[bound] theorem itemBack_kept (a : Nat) (i : Issuer) : Kept s t → Kept s (itemBack a i t) :=
  .of fun t h => by unfold itemBack; bound

/-- What link down takes back of what was sent are memory writes. -/
theorem unsent_filter (p : Nat → Bool) (n : Nat) (l : List Tx) :
    ((unsent p n l).2.filter fun m => !m.isWrite) = l.filter fun m => !m.isWrite := by
  induction l generalizing n with
  | nil => simp [unsent]
  | cons m l ih =>
    cases n with
    | zero => simp [unsent]
    | succ n =>
      cases m
      case memWrite f a b by_ c =>
        have hw : (Tx.memWrite f a b by_ c).isWrite = true := rfl
        by_cases hf : p f = true <;> simp [unsent, hf, hw, ih]
      all_goals simp only [unsent, List.filter_cons, ih]

@[bound] theorem discardWrites_kept (p : Nat → Bool) (n kind : Nat) (h : Kept s t) : Kept s (discardWrites p n kind t) :=
  .foldl (fun _ _ h => dmaError_kept _ _ _ _ (itemBack_kept _ _ h.kept)) _
    (h.step { Carried.refl t with tx := by rw [unsent_filter], inv := fun i => { i with } })

@[bound] theorem copyStops_kept (k kind : Nat) : Kept s t → Kept s (copyStops k kind t) :=
  .of fun t h => by unfold copyStops; dsimp only; bound

@[bound] theorem linkDown_kept (writes : Nat) (copied : Option Nat) : Kept s t → Kept s (linkDown writes copied t) :=
  .of fun t h => by unfold linkDown; dsimp only; bound

@[bound] theorem fatalInternal_kept (writes : Nat) (copied : Option Nat) : Kept s t → Kept s (fatalInternal writes copied t) :=
  .of fun t h => by unfold fatalInternal; bound

@[bound] theorem linkUp_kept (speed width : Nat) : Kept s t → Kept s (linkUp speed width t) :=
  .of fun t h => by unfold linkUp; bound

@[bound] theorem speedChange_kept (v : Nat) : Kept s t → Kept s (speedChange v t) :=
  .of fun t h => by unfold speedChange; bound

@[bound] theorem widthChange_kept (v : Nat) : Kept s t → Kept s (widthChange v t) :=
  .of fun t h => by unfold widthChange; bound

@[bound] theorem l1Entry_kept (sub : Bool) : Kept s t → Kept s (l1Entry sub t) :=
  .of fun t h => by unfold l1Entry; dsimp only; bound

@[bound] theorem l1Exit_kept : Kept s t → Kept s (l1Exit t) :=
  .of fun t h => by unfold l1Exit; bound

@[bound] theorem cfgReset_kept (f : Nat) (flr : Bool) : Kept s t → Kept s (cfgReset f flr t) :=
  .of fun t h => by unfold cfgReset; dsimp only; bound

@[bound] theorem requesterReset_kept (f : Nat) : Kept s t → Kept s (requesterReset f t) :=
  .of fun t h => by unfold requesterReset; dsimp only; bound

@[bound] theorem perstAssert_kept (writes : Nat) (copied : Option Nat) : Kept s t → Kept s (perstAssert writes copied t) :=
  .of fun t h => by unfold perstAssert; dsimp only; bound

@[bound] theorem trainLink_kept : Kept s t → Kept s (trainLink t) :=
  .of fun t h => by unfold trainLink; bound

@[bound] theorem perstDeassert_kept : Kept s t → Kept s (perstDeassert t) :=
  .of fun t h => by unfold perstDeassert; bound

@[bound] theorem functionLevelReset_kept (f writes : Nat) (copied : Option Nat) :
    Kept s t → Kept s (functionLevelReset f writes copied t) :=
  .of fun t h => by unfold functionLevelReset; dsimp only; bound

@[bound] theorem flrComplete_kept (f : Nat) : Kept s t → Kept s (flrComplete f t) :=
  .of fun t h => by unfold flrComplete; dsimp only; bound

@[bound] theorem ptmDialogStart_kept : Kept s t → Kept s (ptmDialogStart t) :=
  .of fun t h => by unfold ptmDialogStart; dsimp only; bound

@[bound] theorem ptmCapture_kept (t41 t2 prop : Nat) : Kept s t → Kept s (ptmCapture t41 t2 prop t) :=
  .of fun t h => by unfold ptmCapture; dsimp only; bound

@[bound] theorem ptmMiss_kept (h : Kept s t) : Kept s (ptmMiss t) := by
  unfold ptmMiss
  split
  · exact h
  · have closed {u : State} (hu : Kept s u) : Kept s (raise .hl 0 6 1 [] { u with hl := { u.hl with dialog := none } }) :=
      raise_kept _ _ _ _ _ (.update hu)
    exact closed (advanceClk_kept _ h)

@[bound] theorem hdmCommit_kept (l base size ways : Nat) (lock : Bool) : Kept s t → Kept s (hdmCommit l base size ways lock t) :=
  .of fun t h => by unfold hdmCommit; dsimp only; bound

@[bound] theorem mailbox_kept (l code : Nat) (payload : List Nat) : Kept s t → Kept s (mailbox l code payload t) :=
  .of fun t h => by unfold mailbox; dsimp only; bound

@[bound] theorem identifyMemoryDevice_kept (l : Nat) : Kept s t → Kept s (identifyMemoryDevice l t) :=
  .of fun t h => by unfold identifyMemoryDevice; bound

@[bound] theorem getHealthInfo_kept (l : Nat) : Kept s t → Kept s (getHealthInfo l t) :=
  .of fun t h => by unfold getHealthInfo; bound

@[bound] theorem getEventRecords_kept (l : Nat) : Kept s t → Kept s (getEventRecords l t) :=
  .of fun t h => by unfold getEventRecords; bound

@[bound] theorem clearEventRecords_kept (l n : Nat) : Kept s t → Kept s (clearEventRecords l n t) :=
  .of fun t h => by unfold clearEventRecords; bound

@[bound] theorem getPoisonList_kept (l : Nat) : Kept s t → Kept s (getPoisonList l t) :=
  .of fun t h => by unfold getPoisonList; bound

@[bound] theorem injectPoison_kept (l addr : Nat) : Kept s t → Kept s (injectPoison l addr t) :=
  .of fun t h => by unfold injectPoison; bound

@[bound] theorem clearPoison_kept (l addr : Nat) (data : List Byte) : Kept s t → Kept s (clearPoison l addr data t) :=
  .of fun t h => by unfold clearPoison; dsimp only; bound

@[bound] theorem unsupportedMailbox_kept (l : Nat) : Kept s t → Kept s (unsupportedMailbox l t) :=
  .of fun t h => by unfold unsupportedMailbox; bound

@[bound] theorem leaveLadder_kept (hold n : Nat) (h : Kept s t) : Kept s (leaveLadder hold n t) :=
  (setMi_kept n _ h).step
    { Carried.refl (t.setMi n _) with inv := fun i => { i with ladder := (List.length_filter_le _ _).trans i.ladder } }

@[bound] theorem calAbandon_kept (n : Nat) (all : Bool) : Kept s t → Kept s (calAbandon n all t) :=
  .of fun t h => by unfold calAbandon; dsimp only; bound

@[bound] theorem calCheck_kept (n : Nat) : Kept s t → Kept s (calCheck n t) :=
  .of fun t h => by unfold calCheck; dsimp only; bound

@[bound] theorem miUp_kept (n : Nat) : Kept s t → Kept s (miUp n t) :=
  .of fun t h => by unfold miUp; bound

@[bound] theorem miDown_kept (n : Nat) : Kept s t → Kept s (miDown n t) :=
  .of fun t h => by unfold miDown; dsimp only; bound

@[bound] theorem calState_kept (n : Nat) : Kept s t → Kept s (calState n t) :=
  .of fun t h => by unfold calState; dsimp only; bound

@[bound] theorem calDue_kept (n : Nat) : Kept s t → Kept s (calDue n t) :=
  .of fun t h => by unfold calDue; dsimp only; bound

@[bound] theorem calForced_kept (n : Nat) : Kept s t → Kept s (calForced n t) :=
  .of fun t h => by unfold calForced; dsimp only; bound

@[bound] theorem calHoldoffEnd_kept (n : Nat) : Kept s t → Kept s (calHoldoffEnd n t) :=
  .of fun t h => by unfold calHoldoffEnd; dsimp only; bound

/-- The reference ladder serves at most four islands at a time. -/
@[bound] theorem ladderGrant_kept (h : Kept s t) : Kept s (ladderGrant t) := by
  unfold ladderGrant
  split
  · exact h
  · next n _ =>
    extract_lets l _ u _
    have hu : Kept s u := .foldl (fun _ _ h => setMi_kept _ _ h.kept) _ h
    have hl : u.ladder = t.ladder :=
      List.foldlRecOn (motive := fun v : State => v.ladder = t.ladder) l _ rfl fun _ hv _ _ => hv
    split
    · next hfit =>
      refine hu.step { Carried.refl u with inv := fun i => { i with ladder := ?_ } }
      rw [List.length_append, hl]
      exact hfit
    · exact h

@[bound] theorem endCal_kept (k : Nat) (pass : Bool) (x : CalIn) : Kept s t → Kept s (endCal k pass x t) :=
  .of fun t h => by unfold endCal; dsimp only; bound

@[bound] theorem judgeCal_kept (k : Nat) (x : CalIn) (h : Kept s t) : Kept s (judgeCal k x t).2 := by
  unfold judgeCal
  extract_lets b _ m m' f
  have hm (m : Meas) : Kept s (t.setMi k m) := setMi_kept _ _ h
  split
  · exact raise_kept _ _ _ _ _ (hm _)
  split
  · exact raise_kept _ _ _ _ _ (hm _)
  split
  · exact hm _
  · exact Kept.ite (raise_kept _ _ _ _ _ (raise_kept _ _ _ _ _ (hm _))) (raise_kept _ _ _ _ _ (hm _))

@[bound] theorem calWindowEnd_kept (n : Nat) (x y : CalIn) (h : Kept s t) : Kept s (calWindowEnd n x y t) := by
  unfold calWindowEnd
  split
  · next at_ _ =>
    extract_lets forced old pair u
    have hu : Kept s u := advanceClk_kept _ h
    clear_value u
    have hj : Kept s (judgeCal n x u).2 := judgeCal_kept _ _ hu
    generalize judgeCal n x u = j at hj ⊢
    obtain ⟨p, v⟩ := j
    have hk : Kept s (if pair then judgeCal (n + 1) y v else (true, v)).2 := by
      split
      · exact judgeCal_kept _ _ hj
      · exact hj
    dsimp -zeta only
    generalize (if pair then judgeCal (n + 1) y v else (true, v)) = k at hk ⊢
    obtain ⟨q, w⟩ := k
    have hw : Kept s (endCal n p x (advanceClk (at_ + 2000000) w)) := endCal_kept _ _ _ (advanceClk_kept _ hk)
    exact .ite (raise_kept _ _ _ _ _ (.ite (endCal_kept _ _ _ hw) hw)) h
  · exact h

@[bound] theorem modFault_kept (n chain : Nat) : Kept s t → Kept s (modFault n chain t) :=
  .of fun t h => by unfold modFault; dsimp only; bound

@[bound] theorem pushNegative_kept (n : Nat) (p : Sample) (flags rate : Nat) (snap : Bool) :
    Kept s t → Kept s (pushNegative n p flags rate snap t) :=
  .of fun t h => by unfold pushNegative; dsimp only; bound

@[bound] theorem rateStep_kept (n : Nat) (p : Sample) : Kept s t → Kept s (rateStep n p t) :=
  .of fun t h => by unfold rateStep; dsimp only; bound

@[bound] theorem pathCheck_kept (n : Nat) (gap : Bool) (v fast : Int) : Kept s t → Kept s (pathCheck n gap v fast t) :=
  .of fun t h => by unfold pathCheck; dsimp only; bound

@[bound] theorem gangCheck_kept (n : Nat) (gap : Bool) (v v2 : Int) : Kept s t → Kept s (gangCheck n gap v v2 t) :=
  .of fun t h => by unfold gangCheck; dsimp only; bound

@[bound] theorem toCi_kept (n : Nat) (p : Sample) : Kept s t → Kept s (toCi n p t) :=
  .of fun t h => by unfold toCi; dsimp only; bound

@[bound] theorem toFixer_kept (n : Nat) (p : Sample) : Kept s t → Kept s (toFixer n p t) :=
  .of fun t h => by unfold toFixer; dsimp only; bound

@[bound] theorem toPe_kept (d : Nat) (i : PeInput) : Kept s t → Kept s (toPe d i t) :=
  .of fun t h => by unfold toPe; dsimp only; bound

@[bound] theorem takeValues_kept (k : Nat) (l : List DecVal) : Kept s t → Kept s (takeValues k l t) :=
  .of fun t h => by unfold takeValues; bound

@[bound] theorem windowOver_kept (k t_ : Nat) : Kept s t → Kept s (windowOver k t_ t) :=
  .of fun t h => by unfold windowOver; bound

@[bound] theorem ownSample_kept (k at_ : Nat) (l : List DecVal) (h : Kept s t) : Kept s (ownSample t k at_ l).2 := by
  unfold ownSample
  extract_lets m jl gap th range thBad formed ti t1 temp ov smp o hi t2 t3
  have h2 : Kept s t2 := setMi_kept _ _ (.ite (spend_kept h) h)
  have h3 : Kept s t3 := .ite (raise_kept _ _ _ _ _ h2) h2
  exact .ite (raise_kept _ _ _ _ _ h3) h3

@[bound] theorem sampleWindowEnd_kept (n : Nat) (w w2 : List DecVal) (delay : Nat) (h : Kept s t) :
    Kept s (sampleWindowEnd n w w2 delay t) := by
  unfold sampleWindowEnd
  extract_lets m at_ t1 pair t2 t3 l l2 final t4 _ was
  have h2 : Kept s t2 := takeValues_kept _ _ (stateReads_kept _ _ _ (advanceTo_kept _ h))
  have h3 : Kept s t3 := .ite (takeValues_kept _ _ h2) h2
  have hfin {u : State} (hu : Kept s u) : Kept s (final u) := .ite (windowOver_kept _ _ (windowOver_kept _ _ hu)) (windowOver_kept _ _ hu)
  refine .ite (.ite (setMi_kept _ _ (hfin h3)) ?_) h
  clear_value t3 final
  have h4 : Kept s (ownSample t3 n at_ l).2 := ownSample_kept _ _ _ h3
  generalize ownSample t3 n at_ l = r at h4 ⊢
  obtain ⟨p, u⟩ := r
  have h5 : Kept s (if pair then ownSample u (n + 1) at_ l2 else (p, u)).2 := by
    split
    · exact ownSample_kept _ _ _ h4
    · exact h4
  dsimp -zeta only
  generalize (if pair then ownSample u (n + 1) at_ l2 else (p, u)) = r at h5 ⊢
  obtain ⟨p2, v⟩ := r
  dsimp -zeta only
  extract_lets g names v1 gap fast ov late q _ v2 v3 v4 v5 v6 v7 v8 v9 v10 v11 v12 _
  have hv3 : Kept s v3 := .ite (raise_kept _ _ _ _ _ (setMi_kept _ _ (hfin h5))) (setMi_kept _ _ (hfin h5))
  have hv4 : Kept s v4 := pathCheck_kept _ _ _ _ hv3
  have hv5 : Kept s v5 := .ite (gangCheck_kept _ _ _ _ hv4) hv4
  have hv8 : Kept s v8 := toPe_kept _ _ (toFixer_kept _ _ (toCi_kept _ _ hv5))
  have hv9 : Kept s v9 := .ite hv8 (toPe_kept _ _ hv8)
  have hv10 : Kept s v10 := .ite (toPe_kept _ _ hv9) hv9
  have hv11 : Kept s v11 := rateStep_kept _ _ hv10
  have hv12 : Kept s v12 := by
    unfold v12
    split
    · exact setStage_kept _ _ hv11
    · exact hv11
  exact .ite (pushNegative_kept _ _ _ _ _ (setMi_kept _ _ hv12)) hv11

@[bound] theorem fastTaken_kept (n : Nat) (v sh sh2 : Int) : Kept s t → Kept s (fastTaken n v sh sh2 t) :=
  .of fun t h => by unfold fastTaken; dsimp only; bound

@[bound] theorem fastValue_kept (n : Nat) (v sh sh2 : Int) : Kept s t → Kept s (fastValue n v sh sh2 t) :=
  .of fun t h => by unfold fastValue; dsimp only; bound

@[bound] theorem setPeCh_kept (n : Nat) (x : PeCh) (h : Kept s t) : Kept s (t.setPeCh n x) := .update h

@[bound] theorem peEpochEnd_kept (a b : Nat) (h : Kept s t) : Kept s (peEpochEnd a b t) := by
  unfold peEpochEnd
  extract_lets chans e _ u
  have hu : Kept s u := .update h
  exact hu.step { Carried.refl u with inv := fun i => { i with chs := rising_mapVals _ i.chs } }

@[bound] theorem peDown_kept : Kept s t → Kept s (peDown t) :=
  .of fun t h => by unfold peDown; bound

@[bound] theorem fxDown_kept : Kept s t → Kept s (fxDown t) :=
  .of fun t h => by unfold fxDown; bound

@[bound] theorem printInputArrival_kept : Kept s t → Kept s (printInputArrival t) :=
  .of fun t h => by unfold printInputArrival; dsimp only; bound

@[bound] theorem commitGrade_kept (n : Nat) (g : Grade) (ref : Option Nat) : Kept s t → Kept s (commitGrade n g ref t) :=
  .of fun t h => by unfold commitGrade; dsimp only; bound

@[bound] theorem gradeRuns_kept (endT : Nat) : Kept s t → Kept s (gradeRuns endT t) :=
  .of fun t h => by unfold gradeRuns; dsimp only; bound

@[bound] theorem regrade_kept (n : Nat) : Kept s t → Kept s (regrade n t) :=
  .of fun t h => by unfold regrade; bound

@[bound] theorem loadTable_kept (entries : List (List Byte)) (crc : Word) : Kept s t → Kept s (loadTable entries crc t) :=
  .of fun t h => by unfold loadTable; dsimp only; bound

@[bound] theorem fuseTemp_kept (n tol : Nat) (l : List Cand) (h : Kept s t) : Kept s (fuseTemp n tol l t).1 := by
  refine Kept.ite (.foldl (fun u x hu => ?_) _ h) h
  have hv (p : PeCh) : Kept s ((reached u).setPeCh n p) := setPeCh_kept _ _ (reached_kept hu)
  exact .ite (raise_kept _ _ _ _ _ (hv _)) (.ite (raise_kept _ _ _ _ _ (hv _)) (hv _))

@[bound] theorem formPrint_kept (e : PeEpoch) (g : PeLedger) (l : List PeInput) (h : Kept s t) : Kept s (formPrint e g l t).2 :=
  .ite (raise_kept _ _ _ _ _ (setPeCh_kept _ _ (fuseTemp_kept _ _ _ h))) (setPeCh_kept _ _ (fuseTemp_kept _ _ _ h))

@[bound] theorem emitOne_kept (e : PeEpoch) (l : List PeInput) (g : PeLedger) (h : Kept s t) : Kept s (emitOne e l g t) := by
  unfold emitOne
  have hf : Kept s (formPrint e g (l.filter fun i => i.ch == g.ch) t).2 := formPrint_kept _ _ _ h
  generalize formPrint _ _ _ _ = r at hf ⊢
  obtain ⟨x, u⟩ := r
  dsimp -zeta only
  extract_lets v c w w' w'' _
  have hw : Kept s w := offerOpen_kept _ _ (pushRec_kept _ _ hf)
  have hw'' : Kept s w'' := offerOpen_kept _ _ (.ite (setCh_kept _ _ hw) hw)
  clear_value w''
  exact .ite (.update hw'') hw''

@[bound] theorem quietEpoch_kept (g : PeLedger) : Kept s t → Kept s (quietEpoch g t) :=
  .of fun t h => by unfold quietEpoch; dsimp only; bound

@[bound] theorem judgeOcv_kept (e : PeEpoch) : Kept s t → Kept s (judgeOcv e t) :=
  .of fun t h => by unfold judgeOcv; bound

@[bound] theorem printEmit_kept : Kept s t → Kept s (printEmit t) :=
  .of fun t h => by unfold printEmit; dsimp only; bound

end
end Sys2Proof.Machine
end

section
/-!
SUPPORT. What every command keeps: the encoders and the fixture buses.
-/
namespace Sys2Proof.Machine
section
variable {s t : State}

@[bound] theorem setEnc_kept (n : Nat) (e : Encoder) (h : Kept s t) : Kept s (t.setEnc n e) := .update h

@[bound] theorem setSn_kept (x : SensorPort) (h : Kept s t) : Kept s (t.setSn x) := .update h

@[bound] theorem capEnd_kept (n t0 : Nat) (c0 : Int) : Kept s t → Kept s (capEnd n t0 c0 t) :=
  .of fun t h => by unfold capEnd; dsimp only; bound

@[bound] theorem capEvent_kept (n k : Nat) : Kept s t → Kept s (capEvent n k t) :=
  .of fun t h => by unfold capEvent; dsimp only; bound

@[bound] theorem setCount_kept (n : Nat) (v : Int) : Kept s t → Kept s (setCount n v t) :=
  .of fun t h => by unfold setCount; dsimp only; bound

@[bound] theorem countOne_kept (n : Nat) (d : Int) : Kept s t → Kept s (countOne n d t) :=
  .of fun t h => by unfold countOne; dsimp only; bound

@[bound] theorem quadratureEdge_kept (n : Nat) (a b : Bool) (h : Kept s t) : Kept s (quadratureEdge n a b t) := by
  unfold quadratureEdge
  extract_lets e d both u v _ w
  have hu : Kept s u := setEnc_kept _ _ h
  have hw : Kept s w := countOne_kept _ _ hu
  exact .ite (.ite hu (.ite (raise_kept _ _ _ _ _ (setEnc_kept _ _ (bump_kept _ hu))) (.ite hu (setEnc_kept _ _ hw)))) (.ite hu h)

@[bound] theorem nextClock_kept : Kept s t → Kept s (nextClock t) :=
  .of fun t h => by unfold nextClock; bound

@[bound] theorem indexEdge_kept (n held : Nat) : Kept s t → Kept s (indexEdge n held t) :=
  .of fun t h => by unfold indexEdge; dsimp only; bound

@[bound] theorem zFalling_kept (n held : Nat) : Kept s t → Kept s (zFalling n held t) :=
  .of fun t h => by unfold zFalling; dsimp only; bound

@[bound] theorem takeLatch_kept (n : Nat) (h : Kept s t) : Kept s (takeLatch n t) := by
  unfold takeLatch
  extract_lets at_ u e v w
  have hw : Kept s w := setEnc_kept _ _ (advanceTo_kept _ h)
  exact .ite (.ite hw (.foldl (fun _ _ h => toPe_kept _ _ h.kept) _ hw)) h

@[bound] theorem speedLatch_kept (n : Nat) : Kept s t → Kept s (speedLatch n t) :=
  .of fun t h => by unfold speedLatch; dsimp only; bound

@[bound] theorem latchFirst_kept (n : Nat) : Kept s t → Kept s (latchFirst n t) :=
  .of fun t h => by unfold latchFirst; dsimp only; bound

@[bound] theorem abEdge_kept (n : Nat) (a b : Bool) (held : Nat) : Kept s t → Kept s (abEdge n a b held t) :=
  .of fun t h => by unfold abEdge; dsimp only; bound

@[bound] theorem serialFrame_kept (n : Nat) (f : FrameIn) : Kept s t → Kept s (serialFrame n f t) :=
  .of fun t h => by
    unfold serialFrame
    dsimp only
    refine .ite ?_ (by bound)
    split <;> bound

@[bound] theorem lineFault_kept (n l : Nat) (h : Kept s t) : Kept s (lineFault n l t) := by
  unfold lineFault
  extract_lets e fault now quad u v
  have hv : Kept s v := raise_kept _ _ _ _ _ (setEnc_kept _ _ h)
  exact .ite (.ite (raise_kept _ _ _ _ _ hv) hv) h

@[bound] theorem lineFaultEnd_kept (n l : Nat) : Kept s t → Kept s (lineFaultEnd n l t) :=
  .of fun t h => by unfold lineFaultEnd; dsimp only; bound

@[bound] theorem encSetActs_kept (n : Nat) (d : List Byte) : Kept s t → Kept s (encSetActs n d t) :=
  .of fun t h => by unfold encSetActs; dsimp only; bound

@[bound] theorem encSet_kept (r : Nat) (d : List Byte) : Kept s t → Kept s (encSet r d t) :=
  .of fun t h => by unfold encSet; dsimp only; bound

@[bound] theorem snStart_kept : Kept s t → Kept s (snStart t) :=
  .of fun t h => by unfold snStart; dsimp only; bound

@[bound] theorem sensorPollDue_kept : Kept s t → Kept s (sensorPollDue t) :=
  .of fun t h => by unfold sensorPollDue; dsimp only; bound

@[bound] theorem sensorTransferDone_kept (rx : List Byte) : Kept s t → Kept s (sensorTransferDone rx t) :=
  .of fun t h => by unfold sensorTransferDone; dsimp only; bound

@[bound] theorem loadSchedule_kept (entries : List (List Byte)) (crc : Word) : Kept s t → Kept s (loadSchedule entries crc t) :=
  .of fun t h => by unfold loadSchedule; dsimp only; bound

@[bound] theorem encodersUp_kept : Kept s t → Kept s (encodersUp t) :=
  .of fun t h => by unfold encodersUp; dsimp only; bound

@[bound] theorem setCan_kept (b : Nat) (x : CanBus) (h : Kept s t) : Kept s (t.setCan b x) := .update h

@[bound] theorem canAttempt_kept (b : Nat) : Kept s t → Kept s (canAttempt b t) :=
  .of fun t h => by unfold canAttempt; dsimp only; bound

@[bound] theorem canAbandon_kept (b detail : Nat) : Kept s t → Kept s (canAbandon b detail t) :=
  .of fun t h => by unfold canAbandon; dsimp only; bound

@[bound] theorem canSend_kept (r : Nat) (d : List Byte) : Kept s t → Kept s (canSend r d t) :=
  .of fun t h => by unfold canSend; dsimp only; bound

@[bound] theorem canAcked_kept (b tec rec_ tdc : Nat) : Kept s t → Kept s (canAcked b tec rec_ tdc t) :=
  .of fun t h => by unfold canAcked; dsimp only; bound

@[bound] theorem canRetry_kept (b tec rec_ : Nat) : Kept s t → Kept s (canRetry b tec rec_ t) :=
  .of fun t h => by unfold canRetry; dsimp only; bound

@[bound] theorem canTimeout_kept (b : Nat) : Kept s t → Kept s (canTimeout b t) :=
  .of fun t h => by unfold canTimeout; bound

@[bound] theorem canRecord_kept (b k : Nat) (f : CanFrame) : Kept s t → Kept s (canRecord b k f t) :=
  .of fun t h => by unfold canRecord; dsimp only; bound

@[bound] theorem canToPe_kept (b k : Nat) (f : CanFrame) : Kept s t → Kept s (canToPe b k f t) :=
  .of fun t h => by unfold canToPe; bound

@[bound] theorem canRx_kept (b : Nat) (f : CanFrame) (tec rec_ : Nat) : Kept s t → Kept s (canRx b f tec rec_ t) :=
  .of fun t h => by unfold canRx; dsimp only; bound

@[bound] theorem canFilter_kept (r : Nat) (d : List Byte) : Kept s t → Kept s (canFilter r d t) :=
  .of fun t h => by unfold canFilter; dsimp only; bound

@[bound] theorem busIdle_kept (b : Nat) : Kept s t → Kept s (busIdle b t) :=
  .of fun t h => by unfold busIdle; dsimp only; bound

@[bound] theorem canIntegrated_kept (b : Nat) : Kept s t → Kept s (canIntegrated b t) :=
  .of fun t h => by unfold canIntegrated; dsimp only; bound

@[bound] theorem canErrors_kept (b tec rec_ : Nat) : Kept s t → Kept s (canErrors b tec rec_ t) :=
  .of fun t h => by unfold canErrors; dsimp only; bound

@[bound] theorem busOn_kept (b : Nat) : Kept s t → Kept s (busOn b t) :=
  .of fun t h => by unfold busOn; dsimp only; bound

@[bound] theorem txdDominant_kept (b : Nat) : Kept s t → Kept s (txdDominant b t) :=
  .of fun t h => by unfold txdDominant; dsimp only; bound

@[bound] theorem busDominant_kept (b : Nat) : Kept s t → Kept s (busDominant b t) :=
  .of fun t h => by unfold busDominant; dsimp only; bound

@[bound] theorem canAsleep_kept (b : Nat) : Kept s t → Kept s (canAsleep b t) :=
  .of fun t h => by unfold canAsleep; bound

@[bound] theorem canSleep_kept (b : Nat) : Kept s t → Kept s (canSleep b t) :=
  .of fun t h => by unfold canSleep; dsimp only; bound

@[bound] theorem sleepEntry_kept (b : Nat) : Kept s t → Kept s (sleepEntry b t) :=
  .of fun t h => by unfold sleepEntry; dsimp only; bound

@[bound] theorem wakeRaise_kept (b : Nat) : Kept s t → Kept s (wakeRaise b t) :=
  .of fun t h => by unfold wakeRaise; dsimp only; bound

@[bound] theorem canWake_kept (b cause filter : Nat) (f : Option CanFrame) : Kept s t → Kept s (canWake b cause filter f t) :=
  .of fun t h => by unfold canWake; dsimp only; bound

@[bound] theorem canUnsleep_kept (b : Nat) : Kept s t → Kept s (canUnsleep b t) :=
  .of fun t h => by unfold canUnsleep; dsimp only; bound

@[bound] theorem phaseCounts_kept (fog ns : Nat) (h : Kept s t) : Kept s (phaseCounts fog ns t).2 := by
  unfold phaseCounts
  split
  · exact h
  · split
    · exact h
    · exact spend_kept h

theorem scanPhase_kept (fog : Nat) (x : PatternScan) (ph : Bool × Nat) (h : Kept s t) : Kept s (scanPhase fog (x, t) ph).2 := by
  have hp : Kept s (phaseCounts fog ph.2 t).2 := phaseCounts_kept _ _ h
  unfold scanPhase
  dsimp only
  split
  · exact hp
  · split <;> exact hp

@[bound] theorem wakePattern_kept (b : Nat) (phases : List (Bool × Nat)) (h : Kept s t) : Kept s (wakePattern b phases t) := by
  have hs : Kept s (phases.foldl (scanPhase (tFog t b)) ({}, t)).2 :=
    List.foldlRecOn (motive := fun a : PatternScan × State => Kept s a.2) phases _ h fun a ha ph _ => scanPhase_kept _ a.1 ph ha
  unfold wakePattern
  generalize phases.foldl (scanPhase (tFog t b)) ({}, t) = a at hs ⊢
  exact .ite (.ite hs (.ite (canWake_kept _ _ _ _ hs) (setCan_kept _ _ hs))) h

@[bound] theorem wakeFrame_kept (b : Nat) (f : CanFrame) (kind : Nat) : Kept s t → Kept s (wakeFrame b f kind t) :=
  .of fun t h => by unfold wakeFrame; dsimp only; bound

@[bound] theorem decoderDisarm_kept (b : Nat) : Kept s t → Kept s (decoderDisarm b t) :=
  .of fun t h => by unfold decoderDisarm; dsimp only; bound

@[bound] theorem canUp_kept : Kept s t → Kept s (canUp t) :=
  .of fun t h => by unfold canUp; dsimp only; bound

@[bound] theorem canDown_kept (detail : Nat) : Kept s t → Kept s (canDown detail t) :=
  .of fun t h => by unfold canDown; dsimp only; bound

end
end Sys2Proof.Machine
end

section
/-!
SUPPORT. What every command keeps: the valve drivers and the easel.
-/
namespace Sys2Proof.Machine
section
variable {s t : State}

@[bound] theorem setField_kept (f : FieldDie) (h : Kept s t) : Kept s (t.setField f) := .update h

@[bound] theorem setValve_kept (n : Nat) (v : Valve) (h : Kept s t) : Kept s (t.setValve n v) := .update h

@[bound] theorem legSettle_kept (n : Nat) (h : Kept s t) : Kept s (legSettle n t) := .ite h (setValve_kept _ _ h)

@[bound] theorem legSettleAll_kept : Kept s t → Kept s (legSettleAll t) :=
  .of fun t h => by unfold legSettleAll; bound

@[bound] theorem pairSettle_kept (n : Nat) (h : Kept s t) : Kept s (pairSettle n t) := by
  unfold pairSettle
  extract_lets b still
  split
  · exact .ite (setValve_kept _ _ h) h
  · exact h

@[bound] theorem finishRun_kept (n : Nat) (h : Kept s t) : Kept s (finishRun n t) :=
  .ite (pairSettle_kept _ (raise_kept _ _ _ _ _ (setValve_kept _ _ h))) h

@[bound] theorem stopRun_kept (n cause code : Nat) (fast : Bool) (h : Kept s t) : Kept s (stopRun n cause code fast t) := by
  unfold stopRun
  extract_lets v f u w
  have hw : Kept s w := legSettle_kept _ (setValve_kept _ _ h)
  exact .ite (.ite (finishRun_kept _ hw) hw) (.ite (legSettle_kept _ (setValve_kept _ _ h)) h)

@[bound] theorem decayComplete_kept (n : Nat) : Kept s t → Kept s (decayComplete n t) :=
  .of fun t h => by unfold decayComplete; bound

@[bound] theorem stopAllRuns_kept (cause : Nat) : Kept s t → Kept s (stopAllRuns cause t) :=
  .of fun t h => by unfold stopAllRuns; bound

@[bound] theorem decayFast_kept (n : Nat) (h : Kept s t) : Kept s (decayFast n t) := .ite (legSettle_kept _ (setValve_kept _ _ h)) h

@[bound] theorem valveConfig_kept (n : Nat) (w : Word) (h : Kept s t) : Kept s (valveConfig n w t) := by
  unfold valveConfig
  extract_lets _ u v u' _
  have hu : Kept s u := setValve_kept _ _ h
  have hu' : Kept s u' := decayFast_kept _ (decayFast_kept _ (stopRun_kept _ _ _ _ (stopRun_kept _ _ _ _ hu)))
  exact .ite (pairSettle_kept _ (setValve_kept _ _ hu')) hu

@[bound] theorem wandStart_kept (n : Nat) (h : Kept s t) : Kept s (wandStart n t) := by
  unfold wandStart
  extract_lets v u u' _ u''
  have hu' : Kept s u' := .ite (setValve_kept _ _ (setValve_kept _ _ h)) (setValve_kept _ _ h)
  exact .ite h (raise_kept _ _ _ _ _ (.ite (setValve_kept _ _ hu') hu'))

@[bound] theorem wandRunBit_kept (n : Nat) (b : Bool) (h : Kept s t) : Kept s (wandRunBit n b t) := by
  have hu : Kept s (t.setValve n { t.valve n with run := b }) := setValve_kept _ _ h
  exact .ite h (.ite (wandStart_kept _ hu) (.ite hu (stopRun_kept _ _ _ _ hu)))

@[bound] theorem wandStep_kept {k : Valve → Word → State → State} (hk : ∀ v w t, Carried s t → Kept s (k v w (reached t))) (n : Nat)
    (p : Nat → Word → Bool) (h : Kept s t) : Kept s (wandStep n p k t) := by
  unfold wandStep
  refine .ite ?_ h
  split
  · exact h
  · exact .ite (hk _ _ _ (advanceClk_kept _ h).carried) h

@[bound] theorem wandWord_kept {k : Valve → Word → State → State} (hk : ∀ v w t, Carried s t → Kept s (k v w (reached t))) (n op : Nat)
    (h : Kept s t) : Kept s (wandWord n op k t) := wandStep_kept hk _ _ h

@[bound] theorem wandNext_kept (n pc dur : Nat) (v : Valve) : Kept s t → Kept s (wandNext n pc dur v t) :=
  .of fun t h => by unfold wandNext; bound

@[bound] theorem seti_kept (n : Nat) : Kept s t → Kept s (seti n t) :=
  .of fun t h => by unfold seti; dsimp only; bound

@[bound] theorem wandRamp_kept (n : Nat) : Kept s t → Kept s (wandRamp n t) :=
  .of fun t h => by unfold wandRamp; dsimp only; bound

@[bound] theorem waitt_kept (n : Nat) : Kept s t → Kept s (waitt n t) :=
  .of fun t h => by unfold waitt; bound

@[bound] theorem waiti_kept (n : Nat) : Kept s t → Kept s (waiti n t) :=
  .of fun t h => by unfold waiti; bound

@[bound] theorem waitin_kept (n : Nat) : Kept s t → Kept s (waitin n t) :=
  .of fun t h => by unfold waitin; dsimp only; bound

@[bound] theorem ditherW_kept (n : Nat) : Kept s t → Kept s (ditherW n t) :=
  .of fun t h => by unfold ditherW; dsimp only; bound

@[bound] theorem wandLoop_kept (n : Nat) : Kept s t → Kept s (wandLoop n t) :=
  .of fun t h => by unfold wandLoop; dsimp only; bound

@[bound] theorem wandJif_kept (n : Nat) : Kept s t → Kept s (wandJif n t) :=
  .of fun t h => by unfold wandJif; dsimp only; bound

@[bound] theorem decayW_kept (n : Nat) : Kept s t → Kept s (decayW n t) :=
  .of fun t h => by unfold decayW; bound

@[bound] theorem endW_kept (n : Nat) : Kept s t → Kept s (endW n t) :=
  .of fun t h => by unfold endW; bound

@[bound] theorem illegalWord_kept (n : Nat) : Kept s t → Kept s (illegalWord n t) :=
  .of fun t h => by unfold illegalWord; bound

@[bound] theorem meanSeen_kept (n : Nat) (mean : Int) (h : Kept s t) : Kept s (meanSeen n mean t) := by
  unfold meanSeen
  extract_lets v
  split
  · refine .ite ?_ (.ite (setValve_kept _ _ h) h)
    split
    · exact setValve_kept _ _ h
    · exact h
  · exact h

@[bound] theorem inputSeen_kept (i : Nat) (level : Bool) (h : Kept s t) : Kept s (inputSeen i level t) := by
  refine Kept.foldl (fun u n hu => ?_) _ h
  have hu : Kept s (reached u) := reached_kept hu
  dsimp only
  split
  · refine .ite (.ite ?_ (.ite (setValve_kept _ _ hu) hu)) hu
    split
    · exact setValve_kept _ _ hu
    · exact hu
  · exact hu

@[bound] theorem diagOn_kept (n : Nat) : Kept s t → Kept s (diagOn n t) :=
  .of fun t h => by unfold diagOn; dsimp only; bound

@[bound] theorem regulationPeriod_kept (n : Nat) (mean : Int) (duty : Nat) (h : Kept s t) : Kept s (regulationPeriod n mean duty t) := by
  have settled {u : State} (hu : Kept s u) (c c' : Prop) [Decidable c] [Decidable c'] :
      Kept s (if c then meanSeen n mean (if c' then diagOn n u else u) else (if c' then diagOn n u else u)) := by
    have hd : Kept s (if c' then diagOn n u else u) := .ite (diagOn_kept _ hu) hu
    exact .ite (meanSeen_kept _ _ hd) hd
  rcases Option.eq_none_or_eq_some (t.valve n).regAt with ha | ⟨at_, ha⟩
  · rcases Option.eq_none_or_eq_some (t.valve n).heldAt with hh | ⟨x, hh⟩ <;> simp only [regulationPeriod, ha, hh]
    · exact .ite (.ite (setValve_kept _ _ h) (settled (setValve_kept _ _ h) _ _)) h
    · exact .ite (.ite (setValve_kept _ _ h) (settled (.ite (raise_kept _ _ _ _ _ (setValve_kept _ _ h)) (setValve_kept _ _ h)) _ _)) h
  · have hu := advanceClk_kept (at_ + regPeriod (t.valve n).cfg) h
    rcases Option.eq_none_or_eq_some ((advanceClk (at_ + regPeriod (t.valve n).cfg) t).valve n).heldAt with hh | ⟨x, hh⟩ <;>
      simp only [regulationPeriod, ha, hh]
    · exact .ite (.ite (setValve_kept _ _ hu) (settled (setValve_kept _ _ hu) _ _)) h
    · exact .ite (.ite (setValve_kept _ _ hu) (settled (.ite (raise_kept _ _ _ _ _ (setValve_kept _ _ hu)) (setValve_kept _ _ hu)) _ _)) h

@[bound] theorem peakCapped_kept (n : Nat) (h : Kept s t) : Kept s (peakCapped n t) := by
  unfold peakCapped
  extract_lets v
  split
  · exact .ite (raise_kept _ _ _ _ _ (setValve_kept _ _ (advanceClk_kept _ h))) h
  · exact h

@[bound] theorem legTrip_kept (b leg k kind : Nat) (h : Kept s t) : Kept s (legTrip b leg k kind t) :=
  stopRun_kept _ _ _ _ (raise_kept _ _ _ _ _ (setValve_kept _ _ h))

@[bound] theorem drvTrip_kept (n leg ma since lasts : Nat) (h : Kept s t) : Kept s (drvTrip n leg ma since lasts t) := by
  unfold drvTrip
  extract_lets b v k
  refine .ite ?_ h
  split
  · exact .ite (raise_kept _ _ _ _ _ (setValve_kept _ _ (advanceClk_kept _ h))) (legTrip_kept _ _ _ _ (advanceClk_kept _ h))
  · exact legTrip_kept _ _ _ _ (advanceClk_kept _ h)
  · exact h

@[bound] theorem offStateTest_kept (n : Nat) (v1 v2 : Int) (pulse : Nat) (h : Kept s t) : Kept s (offStateTest n v1 v2 pulse t) := by
  unfold offStateTest
  extract_lets v u r w
  have hw : Kept s w := setValve_kept _ _ (advanceClk_kept _ h)
  exact .ite (.ite (raise_kept _ _ _ _ _ hw) hw) h

@[bound] theorem setEz_kept (e : Easel) (h : Kept s t) : Kept s (t.setEz e) := .update h

@[bound] theorem setSw_kept (n : Nat) (x : Switch) (h : Kept s t) : Kept s (t.setSw n x) := .update h

@[bound] theorem swOff_kept (n : Nat) (h : Kept s t) : Kept s (swOff n t) :=
  .ite (spend_kept (setSw_kept _ _ (spend_kept h))) (setSw_kept _ _ h)

@[bound] theorem swSettle_kept (n : Nat) (h : Kept s t) : Kept s (swSettle n t) :=
  .ite (.ite h (.ite (.ite h (setSw_kept _ _ h)) (setSw_kept _ _ h))) (swOff_kept _ h)

@[bound] theorem swSettleAll_kept : Kept s t → Kept s (swSettleAll t) :=
  .of fun t h => by unfold swSettleAll; bound

@[bound] theorem fieldSafe_kept (cause : Nat) (h : Kept s t) : Kept s (fieldSafe cause t) :=
  .ite (swSettleAll_kept (legSettleAll_kept (.foldl (fun _ _ h => setValve_kept _ _ h.kept) _ (stopAllRuns_kept _ (setField_kept _ h))))) h

@[bound] theorem swEvent_kept : Kept s t → Kept s (swEvent t) :=
  .of fun t h => by unfold swEvent; bound

@[bound] theorem heldCarried_kept (q addr : Nat) (h : Kept s t) : Kept s (heldCarried q addr t) :=
  .ite (.ite (setSw_kept _ _ h) h) (.ite (.ite (setValve_kept _ _ h) h) h)

@[bound] theorem heldTold_kept (ack : Nat) : Kept s t → Kept s (heldTold ack t) :=
  .of fun t h => by unfold heldTold; dsimp only; bound

@[bound] theorem heldHeard_kept (addr : Nat) (w : Word) : Kept s t → Kept s (heldHeard addr w t) :=
  .of fun t h => by unfold heldHeard; bound

@[bound] theorem sendUplink_kept (at_ : Nat) (x : FieldIn) (h : Kept s t) : Kept s (sendUplink at_ x t) := by
  unfold sendUplink
  extract_lets f sup addr _ u _ v f' on up w _ w' _ _ 
  have hu : Kept s u := .ite (setSw_kept _ _ h) h
  have hw' : Kept s w' := setField_kept _ (heldCarried_kept _ _ (setField_kept _ hu))
  clear_value w'
  exact .ite (.update hw') (.update h)

@[bound] theorem setInput_kept (n : Nat) (x : FieldInput) (h : Kept s t) : Kept s (t.setInput n x) := .update h

@[bound] theorem refilter_kept : Kept s t → Kept s (refilter t) :=
  .of fun t h => by unfold refilter; bound

@[bound] theorem rejudge_kept : Kept s t → Kept s (rejudge t) :=
  .of fun t h => by unfold rejudge; dsimp only; bound

theorem Kept.iteSnd {α : Type} {c : Prop} [Decidable c] {x y : α × State} (hx : Kept s x.2) (hy : Kept s y.2) :
    Kept s (if c then x else y).2 := by
  split
  · exact hx
  · exact hy

theorem applySlot_kept (p : Option Nat) (e : Nat × Word) (h : Kept s t) : Kept s (applySlot (p, t) e).2 := by
  have hf (f : FieldDie) : Kept s (t.setField f) := setField_kept _ h
  have hv (n : Nat) (v : Valve) : Kept s (t.setValve n v) := setValve_kept _ _ h
  unfold applySlot
  refine .iteSnd (hf _) (.iteSnd (rejudge_kept (hf _)) (.iteSnd (hf _) (.iteSnd (.ite (hf _) (refilter_kept (hf _))) (.iteSnd (hf _)
    (.iteSnd (.ite (raise_kept _ _ _ _ _ (hf _)) h) (.iteSnd (hv _ _) (.iteSnd ?_ (.iteSnd (hv _ _) (.iteSnd (valveConfig_kept _ _ h) h)))))))))
  split
  · exact .ite (hv _ _) h
  · exact h

theorem applySlots_kept (l : List (Nat × Word)) (h : Kept s t) : Kept s (l.foldl applySlot (none, t)).2 :=
  List.foldlRecOn (motive := fun a : Option Nat × State => Kept s a.2) l _ h fun a ha e _ => applySlot_kept a.1 e ha

@[bound] theorem applyBatch_kept (slots : List (Nat × Word)) (sw vd : Nat) (outputs : Bool) (h : Kept s t) :
    Kept s (applyBatch slots sw vd outputs t) := by
  unfold applyBatch
  extract_lets u _ u'
  have hu' : Kept s u' := setField_kept _ (applySlots_kept _ h)
  clear_value u'
  exact .ite (swSettleAll_kept (.ite (.foldl (fun _ _ h => wandRunBit_kept _ _ h.kept) _ hu') hu')) (swSettleAll_kept (applySlots_kept _ h))

@[bound] theorem releaseOut_kept (id : Nat) : Kept s t → Kept s (releaseOut id t) :=
  .of fun t h => by unfold releaseOut; bound

@[bound] theorem releaseGone_kept : Kept s t → Kept s (releaseGone t) :=
  .of fun t h => by unfold releaseGone; bound

@[bound] theorem releaseActed_kept (ack : Nat) : Kept s t → Kept s (releaseActed ack t) :=
  .of fun t h => by unfold releaseActed; bound

@[bound] theorem ezComplete_kept (p : Exec → Bool) (st : Status) (detail : Nat) (h : Kept s t) : Kept s (ezComplete p st detail t) := by
  refine Kept.foldl (fun u r hu => ?_) _ h
  have hu : Kept s (reached u) := reached_kept hu
  split
  · exact .ite (complete_kept _ _ _ _ (.ite (.update hu) hu)) hu
  · exact hu

@[bound] theorem ezFail_kept : Kept s t → Kept s (ezFail t) :=
  .of fun t h => by unfold ezFail; bound

@[bound] theorem bridgeSafe_kept (cause : Nat) (h : Kept s t) : Kept s (bridgeSafe cause t) := by
  unfold bridgeSafe
  extract_lets u _ v w _
  have hu : Kept s u := bump_kept _ (raise_kept _ _ _ _ _ h)
  clear_value u
  have hv : Kept s v := putNow_kept _ _ (.update hu)
  have hw : Kept s w := by
    unfold w
    split
    · exact .ite (putLater_kept _ _ _ hv) hv
    · exact hv
  clear_value w
  exact .update hw

@[bound] theorem enterNotReady_kept : Kept s t → Kept s (enterNotReady t) :=
  .of fun t h => by unfold enterNotReady; dsimp only; bound

@[bound] theorem formBatch_kept (h : Kept s t) : Kept s (formBatch t) := by
  unfold formBatch
  extract_lets now ready near take u goes due v cmds id slots run off _ w w'
  have hv : Kept s v := actTaken_kept _ _ (.ite (spend_kept h) h)
  clear_value v
  have hw' : Kept s w' := .foldl (fun _ _ h => setStage_kept _ _ h.kept) _ (.update hv)
  refine .foldl (fun x r hx => ?_) _ hw'
  have hx : Kept s (reached x) := reached_kept hx
  split
  · exact .ite (setStage_kept _ _ hx) hx
  · exact hx

@[bound] theorem sendDown_kept (h : Kept s t) : Kept s (sendDown t) := by
  unfold sendDown
  extract_lets _ u
  have hu : Kept s u := by
    unfold u
    split
    · exact h
    · split
      · exact .update h
      · exact formBatch_kept h
  clear_value u
  split
  · exact hu
  · extract_lets _ v e _ _ _
    have hv : Kept s v := .ite (releaseOut_kept _ hu) hu
    clear_value v
    exact .update hv

@[bound] theorem frameBoundary_kept (h : Kept s t) : Kept s (frameBoundary t) := by
  unfold frameBoundary
  extract_lets at_ u _ v
  have hv : Kept s v := .update (advanceTo_kept _ h)
  exact .ite (.ite (.ite (sendDown_kept (enterNotReady_kept hv)) hv) (sendDown_kept hv)) h

@[bound] theorem batchResend_kept : Kept s t → Kept s (batchResend t) :=
  .of fun t h => by unfold batchResend; bound

@[bound] theorem downlinkFrame_kept (line : Option Nat) (x : FieldIn) (h : Kept s t) : Kept s (downlinkFrame line x t) := by
  unfold downlinkFrame
  extract_lets u d _ v f
  have hv : Kept s v := advanceTo_kept _ (.update (.ite (sendUplink_kept _ _ h) h))
  clear_value v
  refine .ite ?_ h
  split
  · extract_lets staged w w' enter w''
    have hw' : Kept s w' := heldTold_kept _ (setField_kept _ hv)
    have hw'' : Kept s w'' := .ite (fieldSafe_kept _ hw') hw'
    split
    · exact applyBatch_kept _ _ _ _ hw''
    · exact hw''
  · exact .ite (setField_kept _ hv) hv

@[bound] theorem downlinkWatchdog_kept : Kept s t → Kept s (downlinkWatchdog t) :=
  .of fun t h => by unfold downlinkWatchdog; bound

@[bound] theorem helloUplink_kept (x : FieldIn) : Kept s t → Kept s (helloUplink x t) :=
  .of fun t h => by unfold helloUplink; dsimp only; bound

@[bound] theorem inChange_kept (u : UpFrame) : Kept s t → Kept s (inChange u t) :=
  .of fun t h => by unfold inChange; dsimp only; bound

@[bound] theorem runReport_kept (u : UpFrame) : Kept s t → Kept s (runReport u t) :=
  .of fun t h => by unfold runReport; dsimp only; bound

@[bound] theorem takeAck_kept (ack : Nat) (h : Kept s t) : Kept s (takeAck ack t) := by
  unfold takeAck
  split
  · exact ezComplete_kept _ _ _ (.update h)
  · exact h

@[bound] theorem goodUplink_kept (u : UpFrame) (h : Kept s t) : Kept s (goodUplink u t) := by
  unfold goodUplink
  extract_lets hello v lag w safe enter _ w1 w2 w3 _ w4
  have hv : Kept s v := inChange_kept _ h
  have hw : Kept s w := heldHeard_kept _ _ (releaseActed_kept _ (.ite (bump_kept _ hv) hv))
  clear_value w
  have hw1 : Kept s w1 := .update hw
  have hw3 : Kept s w3 := takeAck_kept _ (runReport_kept _ (.ite (bridgeSafe_kept _ hw1) hw1))
  clear_value w3
  have hw4 : Kept s w4 := raise_kept _ _ _ _ _ (.update hw3)
  split
  · exact .ite (.ite (bridgeSafe_kept _ hw4) hw4) hw3
  · exact .ite (enterNotReady_kept hw3) hw3
  · exact hw3

@[bound] theorem uplinkFrame_kept (line : Option Nat) (h : Kept s t) : Kept s (uplinkFrame line t) := by
  unfold uplinkFrame
  extract_lets u _ v
  have hv : Kept s v := advanceTo_kept _ (.update h)
  clear_value v
  refine .ite ?_ h
  split
  · exact goodUplink_kept _ hv
  · exact .ite (.update hv) (bump_kept _ (.update hv))

@[bound] theorem linkLost_kept (h : Kept s t) : Kept s (linkLost t) :=
  .ite (ezFail_kept (raise_kept _ _ _ _ _ (.update h))) h

@[bound] theorem fieldDomUp_kept (d : Nat) (h : Kept s t) : Kept s (fieldDomUp d t) :=
  .ite (swSettleAll_kept (.ite (.foldl (fun _ _ h => setDom_kept _ _ h.kept) _ (setDom_kept _ _ h)) (setDom_kept _ _ h))) h

@[bound] theorem fieldDiePowerUp_kept (h : Kept s t) : Kept s (fieldDiePowerUp t) :=
  .ite (setField_kept _ (setDom_kept _ _ (setDom_kept _ _ h))) h

@[bound] theorem barrierLoss_kept (reported : Bool) (h : Kept s t) : Kept s (barrierLoss reported t) := by
  unfold barrierLoss
  extract_lets was u _ v due w
  have hu : Kept s u := fieldSafe_kept _ h
  clear_value u
  have hw : Kept s w := setField_kept _ (.ite (bridgeSafe_kept _ (.update hu)) hu)
  clear_value w
  refine .ite (hw.step ?_) h
  exact { Carried.refl w with inv := fun i => { i with doms := Tab.rising_keep w.doms (fun d => decide (d < 148)) i.doms } }

@[bound] theorem easelUp_kept : Kept s t → Kept s (easelUp t) :=
  .of fun t h => by unfold easelUp; dsimp only; bound

@[bound] theorem easelDown_kept (h : Kept s t) : Kept s (easelDown t) := by
  unfold easelDown
  extract_lets u _
  have hu : Kept s u := ezFail_kept (barrierLoss_kept _ h)
  clear_value u
  exact .update hu

@[bound] theorem setLevel_kept (n : Nat) (b : Bool) (h : Kept s t) : Kept s (setLevel n b t) :=
  .ite h (inputSeen_kept _ _ (setField_kept _ h))

@[bound] theorem acceptLevel_kept (n : Nat) (h : Kept s t) : Kept s (acceptLevel n t) := .ite (setLevel_kept _ _ h) h

@[bound] theorem inputAccepted_kept (n : Nat) (mv : Int) (ua samples : Nat) (h : Kept s t) : Kept s (inputAccepted n mv ua samples t) :=
  .ite (acceptLevel_kept _ (setInput_kept _ _ h)) h

@[bound] theorem wireBreak_kept (n : Nat) (h : Kept s t) : Kept s (wireBreak n t) :=
  .ite (raise_kept _ _ _ _ _ (.ite (setLevel_kept _ _ (setField_kept _ h)) (setField_kept _ h))) h

@[bound] theorem wireOk_kept (n : Nat) (h : Kept s t) : Kept s (wireOk n t) :=
  .ite (raise_kept _ _ _ _ _ (acceptLevel_kept _ (setField_kept _ h))) h

@[bound] theorem clearField_kept (h : Kept s t) : Kept s (clearField t) := by
  refine swSettleAll_kept (setField_kept _ (.foldl (fun u n hu => ?_) _ h))
  exact .ite (setValve_kept _ _ (reached_kept hu)) (reached_kept hu)

@[bound] theorem supplyOnset_kept (k cls : Nat) (v : Option Int) (h : Kept s t) : Kept s (supplyOnset k cls v t) :=
  .ite (swSettleAll_kept (legSettleAll_kept (stopAllRuns_kept _ (raise_kept _ _ _ _ _ (setField_kept _ h))))) h

@[bound] theorem supplyEnd_kept (k : Nat) (h : Kept s t) : Kept s (supplyEnd k t) := by
  unfold supplyEnd
  extract_lets f u v
  have hu : Kept s u := swSettleAll_kept (legSettleAll_kept (setField_kept _ h))
  have hv : Kept s v := by
    refine .ite (.foldl (fun w n hw => ?_) _ hu) hu
    exact .ite (setLevel_kept _ _ (reached_kept hw)) (acceptLevel_kept _ (reached_kept hw))
  exact .ite (.ite (raise_kept _ _ _ _ _ hv) hv) h

@[bound] theorem swLatch_kept (n : Nat) : Kept s t → Kept s (swLatch n t) :=
  .of fun t h => by unfold swLatch; dsimp only; bound

@[bound] theorem swThermalOff_kept (n : Nat) (h : Kept s t) : Kept s (swThermalOff n t) :=
  .ite (.ite (swEvent_kept (swSettle_kept _ (setSw_kept _ _ h))) (swLatch_kept _ (setSw_kept _ _ h))) h

@[bound] theorem swThermalRestart_kept (n : Nat) (h : Kept s t) : Kept s (swThermalRestart n t) := by
  unfold swThermalRestart
  extract_lets x cool l
  have hc : Kept s cool := setSw_kept _ _ h
  exact .ite (.ite (.ite (swLatch_kept _ hc) (swSettle_kept _ (setSw_kept _ _ hc))) hc) h

@[bound] theorem swOverload_kept (n : Nat) : Kept s t → Kept s (swOverload n t) :=
  .of fun t h => by unfold swOverload; dsimp only; bound

@[bound] theorem swOpenLoad_kept (n : Nat) : Kept s t → Kept s (swOpenLoad n t) :=
  .of fun t h => by unfold swOpenLoad; dsimp only; bound

@[bound] theorem swOpenLoadClear_kept (n : Nat) : Kept s t → Kept s (swOpenLoadClear n t) :=
  .of fun t h => by unfold swOpenLoadClear; bound

@[bound] theorem swShortSupply_kept (n : Nat) : Kept s t → Kept s (swShortSupply n t) :=
  .of fun t h => by unfold swShortSupply; dsimp only; bound

@[bound] theorem swShortSupplyClear_kept (n : Nat) : Kept s t → Kept s (swShortSupplyClear n t) :=
  .of fun t h => by unfold swShortSupplyClear; bound

@[bound] theorem clampEnd_kept (n : Nat) (h : Kept s t) : Kept s (clampEnd n t) := by
  unfold clampEnd
  extract_lets x
  split
  · extract_lets u v
    have hv : Kept s v := swSettle_kept _ (setSw_kept _ _ (advanceClk_kept _ h))
    refine .ite ?_ h
    split
    · exact .ite (swEvent_kept (raise_kept _ _ _ _ _ hv)) hv
    · exact hv
  · exact h

@[bound] theorem valveQueue_kept (r : Nat) (slots : List (Nat × Word)) (run : Option (Nat × Bool)) :
    Kept s t → Kept s (valveQueue r slots run t) :=
  .of fun t h => by unfold valveQueue; dsimp only; bound

@[bound] theorem valveRun_kept (r : Nat) (d : List Byte) : Kept s t → Kept s (valveRun r d t) :=
  .of fun t h => by unfold valveRun; dsimp only; bound

@[bound] theorem valveLoad_kept (r : Nat) (d : List Byte) : Kept s t → Kept s (valveLoad r d t) :=
  .of fun t h => by unfold valveLoad; bound

@[bound] theorem valveImage_kept (r n : Nat) (words : List Word) : Kept s t → Kept s (valveImage r n words t) :=
  .of fun t h => by unfold valveImage; bound

@[bound] theorem switchSet_kept (r : Nat) (d : List Byte) (h : Kept s t) : Kept s (switchSet r d t) :=
  checked_kept (fun u hu => by
    exact .ite (complete_kept _ _ _ _ (reached_kept hu)) (putLater_kept _ _ _ (setStage_kept _ _ (.update (reached_kept hu))))) _ _ _ _ h

@[bound] theorem fieldSet_kept (r : Nat) (d : List Byte) : Kept s t → Kept s (fieldSet r d t) :=
  .of fun t h => by unfold fieldSet; bound

end
end Sys2Proof.Machine
end

section
/-!
SUPPORT. What every command keeps: domains, memories, the stop bath and time.
-/
namespace Sys2Proof.Machine
section
variable {s t : State}

@[bound] theorem stopChannel_kept (cls n : Nat) (h : Kept s t) : Kept s (stopChannel cls n t) := by
  unfold stopChannel
  extract_lets u v
  have hv : Kept s v := endRun_kept _ _ _ _ (cancelStart_kept _ _ _ (cancelQueued_kept _ _ _ h))
  exact .ite (.ite (fadeChannel_kept _ hv) (cutChannel_kept _ hv)) h

@[bound] theorem enterStop_kept (cls : Nat) (src : StopSource) (x : Nat) (unsent : Bool) (h : Kept s t) :
    Kept s (enterStop cls src x unsent t) := by
  have hb (b : StopBath) : Kept s { t with sb := b } := .update h
  exact .foldl (fun _ _ h => stopChannel_kept _ _ h.kept) _
    (.ite (raise_kept _ _ _ _ _ (hb _)) (.ite (raise_kept _ _ _ _ _ (hb _)) (.ite (hb _) (hb _))))

@[bound] theorem scrubDown_kept : Kept s t → Kept s (scrubDown t) :=
  .of fun t h => by unfold scrubDown; bound

@[bound] theorem domLeaves_kept (d : Nat) (fenced : Bool) (h : Kept s t) : Kept s (domLeaves d fenced t) :=
  .ite (peDown_kept h) (.ite (fxDown_kept h) (.ite (portOff_kept _ h) (.ite (canDown_kept _ h) (.ite (scrubDown_kept h) (.ite (easelDown_kept h)
    (.ite (releaseGrant_kept _ h) (.ite (miDown_kept _ h) h)))))))

@[bound] theorem startUp_kept (d : Nat) : Kept s t → Kept s (startUp d t) :=
  .of fun t h => by unfold startUp; bound

@[bound] theorem startDown_kept (d : Nat) : Kept s t → Kept s (startDown d t) :=
  .of fun t h => by unfold startDown; dsimp only; bound

@[bound] theorem endTransition_kept (d : Nat) (st : DomState) : Kept s t → Kept s (endTransition d st t) :=
  .of fun t h => by unfold endTransition; dsimp only; bound

@[bound] theorem followTarget_kept (d : Nat) (h : Kept s t) : Kept s (followTarget d t) := by
  unfold followTarget
  extract_lets x
  split
  · exact .ite (startUp_kept _ h) h
  · exact .ite (startUp_kept _ h) h
  · exact .ite (startUp_kept _ h) h
  · exact .ite h (startDown_kept _ h)
  · exact h
  · exact h

@[bound] theorem isolate_kept (d words : Nat) (h : Kept s t) : Kept s (isolate d words t) := bumpBy_kept _ _ le_rfl (.update h)

@[bound] theorem setTarget_kept (d : Nat) (on : Bool) : Kept s t → Kept s (setTarget d on t) :=
  .of fun t h => by unfold setTarget; bound

@[bound] theorem voidTable_kept (r : Nat) : Kept s t → Kept s (voidTable r t) :=
  .of fun t h => by unfold voidTable; dsimp only; bound

@[bound] theorem fenceCommands_kept (n : Nat) (h : Kept s t) : Kept s (fenceCommands n t) := by
  refine Kept.foldl (fun u r hu => ?_) _ h
  have hu : Kept s (reached u) := reached_kept hu
  split
  · next e _ =>
    extract_lets mine cal acted v _ w _ x
    have hv : Kept s v := .ite (.foldl (fun _ _ h => dropLater_kept _ _ h.kept) _ hu) hu
    clear_value v
    have hx : Kept s x := setMi_kept _ _ (.update hv)
    exact .ite (complete_kept _ _ _ _ (.ite (voidTable_kept _ hx) hx)) hu
  · exact hu

@[bound] theorem fenceChannel_kept (d cause : Nat) (h : Kept s t) : Kept s (fenceChannel d cause t) := by
  unfold fenceChannel
  extract_lets n hub _ u v w _ x y _
  have hu : Kept s u := .ite (setCh_kept _ _ h) h
  have hw : Kept s w := endRun_kept _ _ _ _ (cancelStart_kept _ _ _ hu)
  have hx : Kept s x := .ite (setCh_kept _ _ hw) hw
  exact fenceCommands_kept _ (calAbandon_kept _ _ (setCh_kept _ _ (cutChannel_kept _ hx)))

@[bound] theorem fence_kept (d cause stopCause words : Nat) (h : Kept s t) : Kept s (fence d cause stopCause words t) := by
  unfold fence
  extract_lets u _ v w x y z
  have hv : Kept s v := setDom_kept _ _ (isolate_kept _ _ h)
  have hw : Kept s w := .ite (fenceChannel_kept _ _ hv) hv
  have hx : Kept s x := bump_kept _ (raise_kept _ _ _ _ _ hw)
  have hz : Kept s z := domLeaves_kept _ _ (.ite (latchFault_kept _ _ _ hx) hx)
  refine .ite (.ite ?_ h) (enterStop_kept _ _ _ _ h)
  split
  · exact rollback_kept _ hz
  · exact hz

/-- A counter that is cleared leaves the others as they were. -/
theorem Kept.clearCnt (key : Nat) (h : Kept s t) : Kept s { t with regs := { t.regs with cnt := t.regs.cnt.del key } } :=
  h.step { Carried.refl t with inv := fun i => { i with cnt := fun e he => i.cnt e ((Tab.del_sublist _ _).subset he) } }

@[bound] theorem ciUp_kept (n : Nat) (h : Kept s t) : Kept s (ciUp n t) :=
  .ite (setCh_kept _ _ h) (setCh_kept _ _ (h.clearCnt _))

@[bound] theorem channelReadmitted_kept (n : Nat) (h : Kept s t) : Kept s (channelReadmitted n t) := setCh_kept _ _ (h.clearCnt _)

@[bound] theorem domainDone_kept (op d result : Nat) (h : Kept s t) : Kept s (domainDone op d result t) := by
  unfold domainDone
  split
  · split
    · extract_lets l' u
      have hu : Kept s u := setStage_kept _ _ h
      exact .ite (complete_kept _ _ _ _ (.ite (channelReadmitted_kept _ hu) hu)) hu
    · exact h
  · exact h

@[bound] theorem readmitFails_kept (d detail : Nat) (h : Kept s t) : Kept s (readmitFails d detail t) := by
  unfold readmitFails
  split
  · exact complete_kept _ _ _ _ h
  · exact h

@[bound] theorem chPark_kept (r : Nat) (d : List Byte) (h : Kept s t) : Kept s (chPark r d t) := by
  refine checked_kept (fun u hu => ?_) _ _ _ _ h
  have hu : Kept s (reached u) := reached_kept hu
  exact .ite (complete_kept _ _ _ _ hu) (.ite (complete_kept _ _ _ _ hu)
    (.foldl (fun _ _ h => setTarget_kept _ _ h.kept) _ (setStage_kept _ _ (calAbandon_kept _ _ hu))))

@[bound] theorem chReadmit_kept (r : Nat) (d : List Byte) (h : Kept s t) : Kept s (chReadmit r d t) := by
  refine checked_kept (fun u hu => ?_) _ _ _ _ h
  have hu : Kept s (reached u) := reached_kept hu
  exact .ite (complete_kept _ _ _ _ hu) (.foldl (fun _ _ h => setTarget_kept _ _ (setDom_kept _ _ h.kept)) _ (setStage_kept _ _ hu))

@[bound] theorem islandSelftestDone_kept (d mask words : Nat) (h : Kept s t) : Kept s (islandSelftestDone d mask words t) :=
  .ite (.ite (setDom_kept _ _ h) (spend_kept (fence_kept _ _ _ _ (readmitFails_kept _ _ (raise_kept _ _ _ _ _ h))))) h

@[bound] theorem reopenPort_kept (d : Nat) (h : Kept s t) : Kept s (reopenPort d t) := by
  unfold reopenPort
  extract_lets x key g _ u
  have hv (y : Dom) : Kept s (t.setDom d y) := setDom_kept _ _ h
  exact .ite (domainDone_kept _ _ _ (raise_kept _ _ _ _ _ (.update (hv _)))) h

@[bound] theorem hubReadmit_kept (bits : Word) (h : Kept s t) : Kept s (hubReadmit bits t) := by
  refine Kept.foldl (fun u d hu => ?_) _ h
  exact .ite (setTarget_kept _ _ (setDom_kept _ _ (reached_kept hu))) (reached_kept hu)

@[bound] theorem upPhaseEnd_kept (d : Nat) (h : Kept s t) : Kept s (upPhaseEnd d t) := by
  refine .ite (fieldDomUp_kept _ h) (.ite ?_ h)
  split
  · exact setDom_kept _ _ h
  · exact setDom_kept _ _ h
  · exact setDom_kept _ _ h
  · exact h

@[bound] theorem domFail_kept (d : Nat) (h : Kept s t) : Kept s (domFail d t) :=
  .ite (readmitFails_kept _ _ (raise_kept _ _ _ _ _ (domainDone_kept _ _ _ (endTransition_kept _ _ (setDom_kept _ _ h))))) h

@[bound] theorem quiesceEnd_kept (d words : Nat) : Kept s t → Kept s (quiesceEnd d words t) :=
  .of fun t h => by unfold quiesceEnd; dsimp only; bound

@[bound] theorem downComplete_kept (d : Nat) (h : Kept s t) : Kept s (downComplete d t) := by
  unfold downComplete
  extract_lets x u v
  have hu : Kept s u := endTransition_kept _ _ h
  exact .ite (followTarget_kept _ (.ite (domainDone_kept _ _ _ hu) hu)) h

@[bound] theorem scrubUp_kept : Kept s t → Kept s (scrubUp t) :=
  .of fun t h => by unfold scrubUp; bound

@[bound] theorem domComes_kept (d : Nat) (h : Kept s t) : Kept s (domComes d t) :=
  .ite (canUp_kept h) (.ite (encodersUp_kept h) (.ite (scrubUp_kept h) (.ite (easelUp_kept h) (.ite (ciUp_kept _ h) (.ite (miUp_kept _ h) h)))))

@[bound] theorem becomesOn_kept (d : Nat) (h : Kept s t) : Kept s (becomesOn d t) := by
  unfold becomesOn
  extract_lets x u _ v w _ y
  have hu : Kept s u := endTransition_kept _ _ (setDom_kept _ _ h)
  have hv : Kept s v := .ite (.update hu) hu
  have hw : Kept s w := domComes_kept _ hv
  exact .ite (.ite (followTarget_kept _ (.ite (raise_kept _ _ _ _ _ (setDom_kept _ _ hw)) hw)) (followTarget_kept _ (setDom_kept _ _ hw))) h

@[bound] theorem passBegin_kept : Kept s t → Kept s (passBegin t) :=
  .of fun t h => by unfold passBegin; bound

@[bound] theorem scrubPassStart_kept (h : Kept s t) : Kept s (scrubPassStart t) := by
  unfold scrubPassStart
  extract_lets u _ v
  have hv : Kept s v := .update (advanceTo_kept _ h)
  clear_value v
  exact .ite (.ite (.update hv) (passBegin_kept hv)) h

@[bound] theorem scrubStep_kept (h : Kept s t) : Kept s (scrubStep t) := by
  unfold scrubStep
  extract_lets m u
  split
  · refine .ite (.update h) ?_
    split
    · exact .update h
    · have hu : Kept s u := raise_kept _ _ _ _ _ (.update h)
      exact .ite (passBegin_kept hu) hu
  · exact h

@[bound] theorem scrubTime_kept (h : Kept s t) : Kept s (scrubTime t) := by
  unfold scrubTime
  extract_lets u _
  have hu : Kept s u := .ite h (advanceClk_kept _ h)
  clear_value u
  exact .update hu

@[bound] theorem scrubAccess_kept (kind : Nat) (h : Kept s t) : Kept s (scrubAccess kind t) := by
  unfold scrubAccess
  extract_lets a w u v _ bad _ x
  have hu : Kept s u := scrubTime_kept h
  have hv : Kept s v := bump_kept _ hu
  clear_value u
  have hx : Kept s x := by
    unfold x
    split
    · clear_value v
      exact .update hv
    · exact uncorrectableRead_kept _ _ _ _ (.update hu)
    · exact hu
  exact .ite (scrubStep_kept hx) h

@[bound] theorem eccWriteBack_kept : Kept s t → Kept s (eccWriteBack t) :=
  .of fun t h => by unfold eccWriteBack; bound

@[bound] theorem clearUnexposed_kept (a : Nat) (h : Kept s t) : Kept s (clearUnexposed a t) := by
  unfold clearUnexposed
  split
  · exact .ite (.ite h (latchUnexposed_kept _ _ _ h)) (.update h)
  · exact .update h

@[bound] theorem clearUncorrectable_kept (a : Nat) (h : Kept s t) : Kept s (clearUncorrectable a t) := by
  unfold clearUncorrectable
  split
  · exact .ite (.ite h (latchUncorrectable_kept _ _ _ _ h)) (.update h)
  · exact .update h

@[bound] theorem latchClear_kept (w : Word) (h : Kept s t) : Kept s (latchClear w t) := by
  have hu (c : Prop) [Decidable c] : Kept s (if c then clearUnexposed (fld (t.wr 0x4F004 0) 0 8) t else t) := .ite (clearUnexposed_kept _ h) h
  exact .ite (clearUncorrectable_kept _ (hu _)) (hu _)

/-- The march writes every macro; what the tables of channels and measurement islands list is left rising. -/
@[bound] theorem march_kept (h : Kept s t) : Kept s (march t) := by
  unfold march
  extract_lets _ _ _ _ _ _ _ _ _ u v _
  have hv : Kept s v := h.step
    { Carried.refl t with
      inv := fun i =>
        { i with chs := rising_mapVals _ i.chs, mis := rising_mapVals _ i.mis } }
  clear_value v
  exact .ite (zeroNext_kept (.update hv)) hv

@[bound] theorem fllUnlock_kept (d words : Nat) (h : Kept s t) : Kept s (fllUnlock d words t) :=
  .ite (.ite (fence_kept _ _ _ _ (raise_kept _ _ _ _ _ h)) (enterStop_kept _ _ _ _ (raise_kept _ _ _ _ _ h))) h

@[bound] theorem xingTimeout_kept (sender receiver : Nat) (rose : Bool) (words : Nat) :
    Kept s t → Kept s (xingTimeout sender receiver rose words t) :=
  .of fun t h => by unfold xingTimeout; dsimp only; bound

@[bound] theorem refclkLoss_kept (h : Kept s t) : Kept s (refclkLoss t) :=
  .ite (enterStop_kept _ _ _ _ (raise_kept _ _ _ _ _ (setSource_kept (.update h)))) h

@[bound] theorem refclkRestored_kept : Kept s t → Kept s (refclkRestored t) :=
  .of fun t h => by unfold refclkRestored; bound

@[bound] theorem ciWatchdog_kept (n words : Nat) : Kept s t → Kept s (ciWatchdog n words t) :=
  .of fun t h => by unfold ciWatchdog; bound

@[bound] theorem miWatchdog_kept (n words : Nat) : Kept s t → Kept s (miWatchdog n words t) :=
  .of fun t h => by unfold miWatchdog; bound

@[bound] theorem vbusOver_kept (v held : Nat) : Kept s t → Kept s (vbusOver v held t) :=
  .of fun t h => by unfold vbusOver; bound

@[bound] theorem vbusUnder_kept (v held : Nat) : Kept s t → Kept s (vbusUnder v held t) :=
  .of fun t h => by unfold vbusUnder; bound

theorem sendStop_kept (cls : Nat) (h : Kept s t) : Kept s (sendStop cls t).2 := by
  unfold sendStop
  split
  · exact sendMsg_kept _ _ _ _ h
  · exact h

@[bound] theorem pinStop_kept (h : Kept s t) : Kept s (pinStop t) := by
  unfold pinStop
  extract_lets cls rack
  have hr : Kept s (if rack then sendStop cls t else (true, t)).2 := .iteSnd (sendStop_kept _ h) h
  generalize (if rack then sendStop cls t else (true, t)) = r at hr ⊢
  exact enterStop_kept _ _ _ _ hr

@[bound] theorem stopPinLow_kept (h : Kept s t) : Kept s (stopPinLow t) := by
  have hu : Kept s { t with sb := { t.sb with pinLow := true } } := .update h
  exact .ite h (.ite (pinStop_kept hu) hu)

@[bound] theorem stopPinHigh_kept : Kept s t → Kept s (stopPinHigh t) :=
  .of fun t h => by unfold stopPinHigh; bound

@[bound] theorem stopCmd_kept (r : Nat) (d : List Byte) (h : Kept s t) : Kept s (stopCmd r d t) := by
  refine checked_kept (fun u hu => ?_) _ _ _ _ h
  have hu : Kept s (reached u) := reached_kept hu
  have hr : Kept s (if dU8 d 0x11 = 1 then sendStop (dU8 d 0x10) (reached u) else (true, reached u)).2 := .iteSnd (sendStop_kept _ hu) hu
  dsimp -zeta only
  extract_lets cls
  generalize (if dU8 d 0x11 = 1 then sendStop cls (reached u) else (true, reached u)) = r at hr ⊢
  exact complete_kept _ _ _ _ (enterStop_kept _ _ _ _ hr)

@[bound] theorem stopCell_kept (p hd : Nat) (pl : List Byte) (h : Kept s t) : Kept s (stopCell p hd pl t) := by
  refine cellTaken_kept (fun u hu => ?_) _ _ _ _ h
  have hu : Kept s (reached u) := reached_kept hu
  have hn : Kept s (noteDelivered hd (reached u)) := noteDelivered_kept _ hu
  exact forwardMsg_kept _ _ (.ite (.ite hn (enterStop_kept _ _ _ _ (raise_kept _ _ _ _ _ hn))) hu)

@[bound] theorem testGap_kept (n : Nat) : Kept s t → Kept s (testGap n t) :=
  .of fun t h => by unfold testGap; bound

@[bound] theorem selftest_kept (r : Nat) (d : List Byte) (h : Kept s t) : Kept s (selftest r d t) := by
  refine checked_kept (fun u hu => ?_) _ _ _ _ h
  have hu : Kept s (reached u) := reached_kept hu
  split
  · exact complete_kept _ _ _ _ hu
  · exact .ite (testGap_kept _ hu) hu

@[bound] theorem selftestFinished_kept (r mask : Nat) (failing : List Nat) (h : Kept s t) : Kept s (selftestFinished r mask failing t) := by
  unfold selftestFinished
  split
  · exact h
  · next e _ =>
    extract_lets kind bad u m n v w
    have hu : Kept s u := .foldl (fun _ _ h => raise_kept _ _ _ _ _ h.kept) _ (march_kept h)
    have hv : Kept s v := .ite (testGap_kept _ h) h
    exact .ite (.ite (complete_kept _ _ _ _ hu) (complete_kept _ _ _ _ (.ite hv (raise_kept _ _ _ _ _ hv)))) h

theorem noteWas_kept (b : Nat) (old : State) (h : Kept s t) : Kept s (noteWas b old t) := .update h

@[bound] theorem islandEpoch_kept (d : Nat) (h : Kept s t) : Kept s (islandEpoch d t) :=
  .ite (noteWas_kept _ _ (actDue_kept _ (setDom_kept _ _ h))) h

@[bound] theorem islandTime_kept (d : Nat) (rate : Int) (h : Kept s t) : Kept s (islandTime d rate t) := by
  unfold islandTime
  extract_lets x
  split
  · extract_lets u e at_ _ v w
    have hv : Kept s v := setDom_kept _ _ (offerWords_kept _ _ _ h)
    exact islandEpoch_kept _ (.ite (raise_kept _ _ _ _ _ hv) (.ite (raise_kept _ _ _ _ _ hv) hv))
  · exact h

@[bound] theorem tsyncGivesUp_kept (h : Kept s t) : Kept s (tsyncGivesUp t) := by
  have given {u : State} (hu : Kept s u) : Kept s (raise .tk 0 4 1 [] { u with tk := { u.tk with waitTsync := false, tsyncMissing := true } }) :=
    raise_kept _ _ _ _ _ (.update hu)
  exact given (loadTime_kept _ h)

@[bound] theorem tsyncEdge_kept (h : Kept s t) : Kept s (tsyncEdge t) := by
  have hl : Kept s (loadTime 0 t) := loadTime_kept _ h
  exact .ite (.ite (tsyncGivesUp_kept h) (.ite (.update hl) (.ite (.update h) h))) h

@[bound] theorem tsyncMissed_kept (h : Kept s t) : Kept s (tsyncMissed t) := .ite (tsyncGivesUp_kept (advanceClk_kept _ h)) h

@[bound] theorem timeRestored_kept (at_ : Nat) (h : Kept s t) : Kept s (timeRestored at_ t) := by
  unfold timeRestored
  split
  · exact h
  · next p _ =>
    extract_lets j u _ _ _ v
    have hu : Kept s u := loadTime_kept _ h
    clear_value u
    exact .ite (raise_kept _ _ _ _ _ (.update hu)) h

end
end Sys2Proof.Machine
end

section
/-!
SUPPORT. What every command keeps: presence, the sheet and the ring commands.
-/
namespace Sys2Proof.Machine
section
variable {s t : State}

@[bound] theorem tickTo_kept (t_ : Nat) : Kept s t → Kept s (tickTo t_ t) :=
  .of fun t h => by unfold tickTo; bound

/-- The log has sixteen places (R848). -/
@[bound] theorem sealLog_kept (kind : Nat) (h : Kept s t) : Kept s (sealLog kind t) :=
  h.step
    { Carried.refl t with
      inv := fun i =>
        { i with
          log := Tab.rising_put _ _ _ i.log
          logAt := fun e he => by
            rcases Tab.mem_put _ _ _ _ he with rfl | he
            · exact Nat.mod_lt _ (by decide)
            · exact i.logAt e he } }

@[bound] theorem prEvent_kept (num cls : Nat) : Kept s t → Kept s (prEvent num cls t) :=
  .of fun t h => by unfold prEvent; bound

@[bound] theorem closeWindow_kept (h : Kept s t) : Kept s (closeWindow t) := .ite (prEvent_kept _ _ (.update h)) h

@[bound] theorem pressAccepted_kept (at_ : Nat) (h : Kept s t) : Kept s (pressAccepted at_ t) := by
  unfold pressAccepted
  extract_lets held u _ v go _ w _
  have hv : Kept s v := .update (tickTo_kept _ h)
  have hw : Kept s w := .update hv
  exact .ite h (.ite (.ite hv (wakeSource_kept _ hv)) (.ite (.ite (wakeSource_kept _ (prEvent_kept _ _ (.update hw))) hw) hv))

@[bound] theorem windowClose_kept (h : Kept s t) : Kept s (windowClose t) := by
  unfold windowClose
  split
  · exact closeWindow_kept (tickTo_kept _ h)
  · exact h

@[bound] theorem buttonStuck_kept (t_ : Nat) : Kept s t → Kept s (buttonStuck t_ t) :=
  .of fun t h => by unfold buttonStuck; dsimp only; bound

@[bound] theorem presReleased_kept (t_ : Nat) : Kept s t → Kept s (presReleased t_ t) :=
  .of fun t h => by unfold presReleased; dsimp only; bound

@[bound] theorem calenChange_kept (at_ : Nat) (fitted : Bool) (h : Kept s t) : Kept s (calenChange at_ fitted t) := by
  unfold calenChange
  extract_lets u old _ v
  have hv : Kept s v := .update (tickTo_kept _ h)
  exact .ite (.ite (prEvent_kept _ _ hv) hv) h

@[bound] theorem sealChange_kept (isOpen : Bool) (h : Kept s t) : Kept s (sealChange isOpen t) := by
  unfold sealChange
  extract_lets u e v
  have hv : Kept s v := raise_kept _ _ _ _ _ (sealLog_kept _ h)
  exact .ite (wakeSource_kept _ hv) hv

@[bound] theorem sealSample_kept (at_ : Nat) (isOpen : Bool) (h : Kept s t) : Kept s (sealSample at_ isOpen t) := by
  unfold sealSample
  extract_lets u p v l w
  have hu : Kept s u := tickTo_kept _ h
  have hv : Kept s v := .ite (.update hu) hu
  have hw : Kept s w := .update hv
  exact .ite h (.ite (sealChange_kept _ hw) hw)

@[bound] theorem refusal_kept (src missing requester ring what : Nat) : Kept s t → Kept s (refusal src missing requester ring what t) :=
  .of fun t h => by unfold refusal; dsimp only; bound

@[bound] theorem denied_kept (r : Nat) (d : List Byte) (missing : Nat) : Kept s t → Kept s (denied r d missing t) :=
  .of fun t h => by unfold denied; bound

@[bound] theorem takeCheck_kept (f : SheetFind) : Kept s t → Kept s (takeCheck f t) :=
  .of fun t h => by unfold takeCheck; dsimp only; bound

@[bound] theorem bootCheck_kept : Kept s t → Kept s (bootCheck t) :=
  .of fun t h => by unfold bootCheck; bound

@[bound] theorem resetCheckDone_kept (damage : List (Nat × Byte)) (h : Kept s t) : Kept s (resetCheckDone damage t) :=
  .ite (bootCheck_kept (trainLink_kept (.update (takeCheck_kept _ h)))) h

@[bound] theorem recheckDone_kept (damage : List (Nat × Byte)) (h : Kept s t) : Kept s (recheckDone damage t) := by
  have hu (f : SheetFind) : Kept s (takeCheck f t) := takeCheck_kept _ h
  exact .ite (.ite (raise_kept _ _ _ _ _ (hu _)) (hu _)) h

@[bound] theorem sheetRead_kept (v : Nat) : Kept s t → Kept s (sheetRead v t) :=
  .of fun t h => by unfold sheetRead; dsimp only; bound

@[bound] theorem loadRecipe_kept (r : Nat) (d : List Byte) : Kept s t → Kept s (loadRecipe r d t) :=
  .of fun t h => by unfold loadRecipe; bound

@[bound] theorem wordWritten_kept (m w : Nat) : Kept s t → Kept s (wordWritten m w t) :=
  .of fun t h => by unfold wordWritten; bound

@[bound] theorem storeRecipe_kept (n first : Nat) (words : List (BitVec 64)) : Kept s t → Kept s (storeRecipe n first words t) :=
  .of fun t h => by unfold storeRecipe; dsimp only; bound

@[bound] theorem swapBankCmd_kept (r : Nat) (d : List Byte) (h : Kept s t) : Kept s (swapBankCmd r d t) := by
  refine checked_kept (fun u hu => ?_) _ _ _ _ h
  have hu : Kept s (reached u) := reached_kept hu
  exact .ite (complete_kept _ _ _ _ hu) (.ite (complete_kept _ _ _ _ (swapBank_kept _ _ hu)) (.ite (complete_kept _ _ _ _ hu)
    (complete_kept _ _ _ _ (setCh_kept _ _ hu))))

@[bound] theorem startActs_kept (r n : Nat) (d : List Byte) (h : Kept s t) : Kept s (startActs r n d t) := by
  unfold startActs
  split
  · exact complete_kept _ _ _ _ h
  · exact setStage_kept _ _ (setCh_kept _ _ h)

@[bound] theorem start_kept (r : Nat) (d : List Byte) (h : Kept s t) : Kept s (start r d t) := by
  refine checked_kept (fun u hu => ?_) _ _ _ _ h
  have hu : Kept s (reached u) := reached_kept hu
  extract_lets n c
  split
  · exact complete_kept _ _ _ _ hu
  · exact complete_kept _ _ _ _ hu
  · exact raise_kept _ _ _ _ _ (setStage_kept _ _ (setCh_kept _ _ hu))
  · exact startActs_kept _ _ _ hu

@[bound] theorem reachesDark_kept (n : Nat) (h : Kept s t) : Kept s (reachesDark n t) := by
  unfold reachesDark
  extract_lets c _ u v _ w
  have hu : Kept s u := setCh_kept _ _ h
  have hv : Kept s v := .ite (swapBank_kept _ _ hu) hu
  have hw : Kept s w := setCh_kept _ _ hv
  refine .ite ?_ hv
  split
  · exact startActs_kept _ _ _ hw
  · exact hw

@[bound] theorem dischargeEnd_kept (n : Nat) (h : Kept s t) : Kept s (dischargeEnd n t) := by
  unfold dischargeEnd
  extract_lets c
  split
  · split
    · exact reachesDark_kept _ (advanceClk_kept _ h)
    · exact h
  · exact h

@[bound] theorem holdResume_kept (r : Nat) (d : List Byte) (want : ChState) (ask : ChCmds → ChCmds) (h : Kept s t) :
    Kept s (holdResume r d want ask t) := by
  refine checked_kept (fun u hu => ?_) _ _ _ _ h
  have hu : Kept s (reached u) := reached_kept hu
  exact .ite (complete_kept _ _ _ _ hu) (.ite (setCh_kept _ _ hu) (complete_kept _ _ _ _ hu))

@[bound] theorem abort_kept (r : Nat) (d : List Byte) (h : Kept s t) : Kept s (abort r d t) := by
  refine checked_kept (fun u hu => ?_) _ _ _ _ h
  have hu : Kept s (reached u) := reached_kept hu
  extract_lets n c
  split
  · exact setCh_kept _ _ hu
  · exact setCh_kept _ _ hu
  · exact .ite (complete_kept _ _ _ _ (cancelQueued_kept _ _ _ hu)) (complete_kept _ _ _ _ hu)
  · exact complete_kept _ _ _ _ hu

@[bound] theorem presetExposure_kept (r : Nat) (d : List Byte) (h : Kept s t) : Kept s (presetExposure r d t) := by
  refine checked_kept (fun u hu => ?_) _ _ _ _ h
  exact .ite (setCh_kept _ _ (reached_kept hu)) (complete_kept _ _ _ _ (reached_kept hu))

@[bound] theorem stateEvents_kept (n : Nat) (h : Kept s t) : Kept s (stateEvents n t) := by
  unfold stateEvents
  extract_lets c ms ev
  have hev {u : State} (num : Nat) (args : List Int) (hu : Kept s u) : Kept s (ev num args u) := by
    unfold ev
    exact pushRec_kept _ _ (signalSpaced_kept _ hu)
  exact hev _ _ (hev _ _ (hev _ _ h))

@[bound] theorem snapshotCmd_kept (r : Nat) (d : List Byte) (h : Kept s t) : Kept s (snapshotCmd r d t) := by
  refine checked_kept (fun u hu => ?_) _ _ _ _ h
  have hu : Kept s (reached u) := reached_kept hu
  extract_lets n kind v w
  have hv : Kept s v := setStage_kept _ _ hu
  have hw : Kept s w := .ite (stateEvents_kept _ hv) hv
  refine .ite (complete_kept _ _ _ _ hu) (.ite ?_ hw)
  split
  · exact pushNegative_kept _ _ _ _ _ (setStage_kept _ _ hw)
  · exact setMi_kept _ _ hw

@[bound] theorem setGang_kept (n : Nat) (on : Bool) (h : Kept s t) : Kept s (setGang n on t) := by
  have hu : Kept s (calAbandon n false (if on then calAbandon (n + 1) false t else t)) := calAbandon_kept _ _ (.ite (calAbandon_kept _ _ h) h)
  exact .ite (setCh_kept _ _ (setCh_kept _ _ hu)) (setCh_kept _ _ (setCh_kept _ _ hu))

@[bound] theorem gangCmd_kept (r : Nat) (d : List Byte) (h : Kept s t) : Kept s (gangCmd r d t) := by
  refine checked_kept (fun u hu => ?_) _ _ _ _ h
  have hc {v : State} (hv : Kept s v) (st : Status) (a b : Nat) : Kept s (complete r st a b v) := complete_kept _ _ _ _ hv
  have hu : Kept s (reached u) := reached_kept hu
  exact .ite (hc hu _ _ _) (.ite (hc hu _ _ _) (.ite (hc hu _ _ _) (.ite (hc hu _ _ _) (hc (setGang_kept _ _ hu) _ _ _))))

@[bound] theorem setLimits_kept (r : Nat) (d : List Byte) (h : Kept s t) : Kept s (setLimits r d t) := by
  refine checked_kept (fun u hu => ?_) _ _ _ _ h
  have hu : Kept s (reached u) := reached_kept hu
  exact .ite (denied_kept _ _ _ hu) (complete_kept _ _ _ _ (putLater_kept _ _ _ (putLater_kept _ _ _ (putLater_kept _ _ _
    (putLater_kept _ _ _ (putLater_kept _ _ _ (putLater_kept _ _ _ hu)))))))

@[bound] theorem setCal_kept (r : Nat) (d : List Byte) (h : Kept s t) : Kept s (setCal r d t) := by
  refine checked_kept (fun u hu => ?_) _ _ _ _ h
  exact .ite (denied_kept _ _ _ (reached_kept hu)) (.foldl (fun _ _ h => putOver_kept _ _ _ h.kept) _ (reached_kept hu))

@[bound] theorem fusionSet_kept (r : Nat) (d : List Byte) (h : Kept s t) : Kept s (fusionSet r d t) := by
  refine checked_kept (fun u hu => ?_) _ _ _ _ h
  exact putLater_kept _ _ _ (putLater_kept _ _ _ (reached_kept hu))

@[bound] theorem epochDone_kept (r : Nat) (h : Kept s t) : Kept s (epochDone r t) := by
  unfold epochDone
  split
  · exact .ite (complete_kept _ _ _ _ h) h
  · exact h

@[bound] theorem gradeSet_kept (r : Nat) (d : List Byte) : Kept s t → Kept s (gradeSet r d t) :=
  .of fun t h => by unfold gradeSet; bound

@[bound] theorem sensorSchedule_kept (r : Nat) (d : List Byte) : Kept s t → Kept s (sensorSchedule r d t) :=
  .of fun t h => by unfold sensorSchedule; bound

@[bound] theorem storeTable_kept (r : Nat) (d bytes : List Byte) (crc : Nat) (h : Kept s t) : Kept s (storeTable r d bytes crc t) := by
  unfold storeTable
  extract_lets n
  split
  · exact complete_kept _ _ _ _ (storeRecipe_kept _ _ _ h)
  · exact complete_kept _ _ _ _ (loadTable_kept _ _ h)
  · exact valveImage_kept _ _ _ h
  · exact complete_kept _ _ _ _ (loadSchedule_kept _ _ h)
  · exact h

@[bound] theorem tableFetchDone_kept (h : Kept s t) : Kept s (tableFetchDone t) := by
  unfold tableFetchDone
  extract_lets mine
  split
  · exact h
  · next q bytes _ =>
    have hu : Kept s { t with hl := { t.hl with inbox := t.hl.inbox.eraseP mine } } := .update h
    split
    · split
      · exact .ite (.ite (storeTable_kept _ _ _ _ hu) (complete_kept _ _ _ _ hu)) hu
      · exact hu
    · exact hu

@[bound] theorem clearChannel_kept (n : Nat) (h : Kept s t) : Kept s (clearChannel n t) := .ite (setCh_kept _ _ h) (setCh_kept _ _ h)

@[bound] theorem clearStop_kept : Kept s t → Kept s (clearStop t) :=
  .of fun t h => by unfold clearStop; dsimp only; bound

@[bound] theorem clearDevice_kept (r : Nat) (h : Kept s t) : Kept s (clearDevice r t) := by
  unfold clearDevice
  extract_lets stop safe field u _ v w
  have hu : Kept s u := .ite (clearStop_kept h) h
  clear_value u
  have hv : Kept s v := .ite (.update hu) hu
  exact .ite (complete_kept _ _ _ _ h) (.ite (complete_kept _ _ _ _ h) (spend_kept (complete_kept _ _ _ _ (.ite (clearField_kept hv) hv))))

@[bound] theorem clearFault_kept (r : Nat) (d : List Byte) (h : Kept s t) : Kept s (clearFault r d t) := by
  refine checked_kept (fun u hu => ?_) _ _ _ _ h
  have hu : Kept s (reached u) := reached_kept hu
  exact .ite (clearDevice_kept _ hu) (.ite (complete_kept _ _ _ _ (clearChannel_kept _ hu)) (complete_kept _ _ _ _ hu))

end
end Sys2Proof.Machine
end

section
/-!
SUPPORT. What every command keeps: supplies, the safelight, the boundaries of time and the bus.
-/
namespace Sys2Proof.Machine
section
variable {s t : State}

@[bound] theorem fuseCheck_kept (h : Kept s t) : Kept s (fuseCheck t) := by
  refine Kept.foldl (fun u e hu => ?_) _ h
  exact .ite (raiseAs_kept _ _ _ _ _ _ _ (reached_kept hu)) (reached_kept hu)

/-- Nothing of the main domains is left; the log and the clock stand (R845). -/
theorem mainOff_kept (keep : List Nat) (h : Kept s t) : Kept s (mainOff keep t) :=
  h.step
    { Carried.refl t with
      inv := fun i =>
        { mem := rfl, doms := rfl, chs := rfl, mis := rfl, cnt := nofun, sq := nofun, tag := Nat.zero_lt_succ _
          log := i.log, logAt := i.logAt, ladder := Nat.zero_le _ } }

/-- Power that comes on. -/
theorem Kept.powered {hl sheet tk sl} (h : Kept s t) (htag : hl.nextTag = t.hl.nextTag) (hclk : tk.clk = t.tk.clk) (hlog : sl.log = t.sl.log) :
    Kept s { t with power := .on, hl := hl, sheet := sheet, tk := tk, sl := sl } :=
  h.step
    { variant := rfl, dbgen := rfl, fuses := rfl, clk := hclk.ge, tx := List.suffix_rfl, pending := rfl, power := fun _ => rfl
      inv := fun i => { i with tag := htag ▸ i.tag, log := hlog ▸ i.log, logAt := hlog ▸ i.logAt } }

@[bound] theorem deviceReset_kept (h : Kept s t) : Kept s (deviceReset t) := by
  unfold deviceReset
  extract_lets woke u align restore _ _ _ v
  have hu : Kept s u := mainOff_kept _ h
  exact fuseCheck_kept (.foldl (fun _ _ h => setTarget_kept _ _ h.kept) _ (hu.powered rfl rfl rfl))

@[bound] theorem bathComes_kept (h : Kept s t) : Kept s (bathComes t) := by
  unfold bathComes
  extract_lets l cause u v w _ x
  have hu : Kept s u := raise_kept _ _ _ _ _ h
  have hv : Kept s v := .ite (raise_kept _ _ _ _ _ hu) hu
  have hw : Kept s w := .ite (raise_kept _ _ _ _ _ hv) hv
  clear_value w
  have hx : Kept s x := .update hw
  exact .ite (enterStop_kept _ _ _ _ hx) hx





@[bound] theorem mainRail_kept (r mv : Nat) : Kept s t → Kept s (mainRail r mv t) :=
  .of fun t h => by unfold mainRail; dsimp only; bound

@[bound] theorem vcoreEnter_kept (h : Kept s t) : Kept s (vcoreEnter t) := .ite (deviceReset_kept (advanceClk_kept _ h)) h



@[bound] theorem parkBeat_kept (h : Kept s t) : Kept s (parkBeat t) := by
  refine .ite (.foldl (fun u d hu => ?_) _ (.update h)) h
  exact .ite (reached_kept hu) (setTarget_kept _ _ (reached_kept hu))

@[bound] theorem parkDrainEnd_kept (h : Kept s t) : Kept s (parkDrainEnd t) := by
  refine .ite (.foldl (fun u d hu => ?_) _ (levels_kept (.update h))) h
  exact .ite (reached_kept hu) (setTarget_kept _ _ (reached_kept hu))



@[bound] theorem deviceWake_kept : Kept s t → Kept s (deviceWake t) :=
  .of fun t h => by unfold deviceWake; bound

@[bound] theorem alarmMatch_kept (h : Kept s t) : Kept s (alarmMatch t) := by
  unfold alarmMatch
  split
  · exact h
  · extract_lets u _ v
    have hv : Kept s v := .update (tickTo_kept _ h)
    exact .ite h (wakeSource_kept _ (raise_kept _ _ _ _ _ hv))

@[bound] theorem toneAccepted_kept (p at_ : Nat) (periods : List Nat) (h : Kept s t) : Kept s (toneAccepted p at_ periods t) := by
  have hu : Kept s (tickTo at_ t) := tickTo_kept _ h
  exact .ite h (wakeSource_kept _ (.ite (rcSet_kept _ _ hu) hu))

@[bound] theorem tonePassOn_kept (d : Nat) : Kept s t → Kept s (tonePassOn d t) :=
  .of fun t h => by unfold tonePassOn; dsimp only; bound

@[bound] theorem xtalFail_kept (at_ : Nat) (h : Kept s t) : Kept s (xtalFail at_ t) :=
  .ite h (closeWindow_kept (raise_kept _ _ _ _ _ (.update (tickTo_kept _ h))))

@[bound] theorem xtalMeasurement_kept (at_ dj : Nat) (h : Kept s t) : Kept s (xtalMeasurement at_ dj t) := by
  unfold xtalMeasurement
  extract_lets u m _ v
  have hv : Kept s v := .update (tickTo_kept _ h)
  exact .ite (.ite (xtalFail_kept _ hv) hv) h

@[bound] theorem xtalRestored_kept (t_ : Nat) : Kept s t → Kept s (xtalRestored t_ t) :=
  .of fun t h => by unfold xtalRestored; dsimp only; bound

@[bound] theorem tempConversion_kept (t0 t1 t2 t3 t4 : Int) (h : Kept s t) : Kept s (tempConversion t0 t1 t2 t3 t4 t) := by
  have counted {u : State} (th : Thermal) (a b : Nat) (hu : Kept s u) :
      Kept s (bumpBy 0x4100C 0xFFFFFFFF a (bumpBy 0x41008 0xFFFFFFFF b { u with th := th })) :=
    bumpBy_kept _ _ le_rfl (bumpBy_kept _ _ le_rfl (.update hu))
  exact .ite (counted _ _ _ (advanceClk_kept _ h)) h

@[bound] theorem beaconAt_kept (d : Nat) (h : Kept s t) : Kept s (beaconAt t d) := by
  unfold beaconAt
  extract_lets came u v
  have hu : Kept s u := becomesOn_kept _ h
  exact reopenPort_kept _ (.ite (tonePassOn_kept _ (.ite (bathComes_kept hu) (.ite (trainingBegins_kept hu) hu))) hu)

@[bound] theorem startOthers_kept (h : Kept s t) : Kept s (startOthers t) := by
  refine Kept.foldl (fun u d hu => ?_) _ h
  exact .ite (reached_kept hu) (.ite (reached_kept hu) (setTarget_kept _ _ (reached_kept hu)))

@[bound] theorem issueBeacon_kept (at_ : Nat) (h : Kept s t) : Kept s (issueBeacon at_ t) := by
  unfold issueBeacon
  extract_lets ds _ u before v _ w x
  have hu : Kept s u := h.step { Carried.refl t with inv := fun i => { i with doms := rising_mapVals _ i.doms } }
  have hv : Kept s v := .foldl (fun _ _ h => beaconAt_kept _ h.kept) _ hu
  clear_value v
  have hw : Kept s w := .ite (.update hv) hv
  exact bootCheck_kept (.ite (startOthers_kept hw) hw)

@[bound] theorem beacon_kept (h : Kept s t) : Kept s (beacon t) := .ite (issueBeacon_kept _ (advanceTo_kept _ h)) h

theorem fillRangeActs_kept (old : State) (h : Kept s t) : Kept s (fillRangeActs old t) := by
  unfold fillRangeActs
  extract_lets u _ v left w
  have hu : Kept s u := fillSeal_kept h
  clear_value u
  have hv : Kept s v := .update hu
  refine .ite h (fillOpen_kept (.foldl (fun x n hx => ?_) _ hv))
  exact .ite (reached_kept hx) (.ite (toZeroing_kept _ (reached_kept hx)) (setExt_kept _ _ (reached_kept hx)))

@[bound] theorem epochActs_kept (late : List Nat) (h : Kept s t) : Kept s (epochActs late t) :=
  fillRangeActs_kept _ (actDue_kept _ (spoolEpoch_kept h))

@[bound] theorem takeEpoch_kept (b : Nat) (h : Kept s t) : Kept s (takeEpoch b t) := by
  unfold takeEpoch
  extract_lets late _ u v w _
  have hw : Kept s w := .foldl (fun _ _ h => epochDone_kept _ h.kept) _ (noteWas_kept _ _ (epochActs_kept _ (peEpochEnd_kept _ _ (.update h))))
  clear_value w
  exact hw.step { Carried.refl w with inv := fun i => { i with doms := rising_mapVals _ i.doms } }

@[bound] theorem epochBoundary_kept (h : Kept s t) : Kept s (epochBoundary t) := .ite (takeEpoch_kept _ (advanceTo_kept _ h)) h

theorem takePassed_kept (n : Nat) (h : Kept s t) : Kept s (takePassed n t) := by
  induction n generalizing t with
  | zero => exact h
  | succ n ih => exact .ite h (ih (.ite (issueBeacon_kept _ h) (takeEpoch_kept _ h)))

@[bound] theorem stepping_kept {act : State → State} (ha : ∀ t, Carried s t → Kept s (act (reached t))) (h : Kept s t) :
    Kept s (stepping act t) :=
  .ite (ha _ h.carried) (takePassed_kept _ (ha _ (Kept.ite (issueBeacon_kept _ h) h).carried))

@[bound] theorem takeBeat_kept : Kept s t → Kept s (takeBeat t) :=
  .of fun t h => by unfold takeBeat; bound

@[bound] theorem beatCommand_kept (h : Kept s t) : Kept s (beatCommand t) := .ite (.update h) (takeBeat_kept h)

@[bound] theorem takeRound_kept (h : Kept s t) : Kept s (takeRound t) := by
  unfold takeRound
  extract_lets at_ u v _
  have hu : Kept s u := advanceTo_kept _ h
  have hv : Kept s v := takeBeat_kept hu
  clear_value v
  exact .ite (decideRound_kept (.update hv)) (decideRound_kept hu)

@[bound] theorem roundBoundary_kept (vbus : Nat) (h : Kept s t) : Kept s (roundBoundary vbus t) := by
  unfold roundBoundary
  extract_lets _ u _
  have hu : Kept s u := .ite (.update h) (takeRound_kept h)
  clear_value u
  exact .ite h (.update hu)

@[bound] theorem roundFirst_kept (h : Kept s t) : Kept s (roundFirst t) := by
  unfold roundFirst
  extract_lets u _
  have hu : Kept s u := takeRound_kept h
  clear_value u
  exact .ite (.update hu) h

@[bound] theorem readClears_kept (b : Blk) (i : Nat) (r : RegDef) (h : Kept s t) : Kept s (readClears b i r t) := by
  unfold readClears
  extract_lets key g
  split
  · exact .update h
  · refine h.step { Carried.refl t with inv := fun i => { i with cnt := ?_ } }
    intro e he
    dsimp only at he
    split at he
    · exact i.cnt e ((Tab.del_sublist _ _).subset ((Tab.del_sublist _ _).subset he))
    · exact i.cnt e ((Tab.del_sublist _ _).subset he)
  · exact .update h
  · exact .ite (h.clearCnt _) (.update h)
  · exact h
  · exact h

@[bound] theorem store_kept (b : Blk) (i : Nat) (te : Te) (key : Nat) (reset new : Word) (h : Kept s t) :
    Kept s (store b i te key reset new t) := by
  unfold store
  extract_lets now
  have hn : Kept s (now t) := putNow_kept _ _ (.update h)
  split
  · exact hn
  · exact .ite (putLater_kept _ _ _ h) hn
  · exact putLater_kept _ _ _ h

@[bound] theorem ringControl_kept (old new : Word) (h : Kept s t) : Kept s (ringControl old new t) := by
  refine Kept.foldl (fun u r hu => ?_) _ (.ite (pollGoes1_kept h) h)
  exact .ite (enableGoes1_kept _ (reached_kept hu)) (.ite (enableGoes0_kept _ (reached_kept hu)) (reached_kept hu))

@[bound] theorem domTargets_kept (old new : Word) (h : Kept s t) : Kept s (domTargets old new t) := by
  refine Kept.foldl (fun u d hu => ?_) _ h
  exact .ite (setTarget_kept _ _ (reached_kept hu)) (reached_kept hu)

@[bound] theorem parkAsk_kept (h : Kept s t) : Kept s (parkAsk t) := by
  unfold parkAsk
  extract_lets queued member _ u
  have hu : Kept s u := ringsDown_kept (.update h)
  exact .ite (.ite (sendLeave_kept _ hu) hu) (rcSet_kept _ _ h)

@[bound] theorem hostReset_kept : Kept s t → Kept s (hostReset t) :=
  .of fun t h => by unfold hostReset; bound

@[bound] theorem writeActs_kept (b : Blk) (i off : Nat) (old new p : Word) (h : Kept s t) : Kept s (writeActs b i off old new p t) := by
  unfold writeActs
  split
  · exact .ite (.update h) h
  · exact domTargets_kept _ _ h
  · exact ringControl_kept _ _ h
  · exact lossIfDue_kept h
  iterate 4 exact notePolicy_kept _ _ h
  · exact settleAll_kept h
  · exact fillOpen_kept h
  · extract_lets u
    have hu : Kept s u := .ite (portOff_kept _ h) h
    exact .ite (sendTone_kept _ hu) hu
  · exact .ite (.update h) h
  · exact .ite (regrade_kept _ h) h
  · exact .ite (canSleep_kept _ h) (canUnsleep_kept _ h)
  · exact .ite h (setEnc_kept _ _ h)
  · exact .ite (setSn_kept _ h) (.ite h (setSn_kept _ h))
  · exact latchClear_kept _ h
  · exact .ite (.update h) (scrubDown_kept h)
  · exact hubReadmit_kept _ h
  · exact .ite (hostReset_kept h) (.ite (parkAsk_kept h) h)
  · exact .update h
  · exact .ite (closeWindow_kept h) h
  · exact .ite (setCh_kept _ _ h) h
  · exact .ite (calState_kept _ h) h
  · exact h

@[bound] theorem commitLow_kept (q : Nat) (b : Blk) (i off : Nat) (h : Kept s t) : Kept s (commitLow q b i off t) := by
  unfold commitLow
  split
  · exact h
  · extract_lets k
    split
    · exact h
    · exact putNow_kept _ _ (.update h)

@[bound] theorem regWrite_kept (q : Nat) (b : Blk) (i : Nat) (r : RegDef) (v : Word) (h : Kept s t) : Kept s (regWrite q b i r v t) := by
  unfold regWrite
  extract_lets key reset fs old
  split
  next new bad _ =>
  extract_lets u v w x
  have hu : Kept s u := .ite (bump_kept _ h) h
  have hw : Kept s w := .ite (store_kept _ _ _ _ _ _ (commitLow_kept _ _ _ _ hu)) (commitLow_kept _ _ _ _ hu)
  have hx : Kept s x := by
    unfold x
    split
    · exact crossOpen_kept _ _ hw
    · exact hw
  exact .ite (.update h) (.ite (bump_kept _ h) (.ite (rcSet_kept _ _ h) (writeActs_kept _ _ _ _ _ _ hx)))

@[bound] theorem sqWrite_kept (q key : Nat) (v : Word) (h : Kept s t) : Kept s (sqWrite q key v t) := by
  unfold sqWrite
  split
  · exact bump_kept _ h
  · exact .ite (.update h) (bump_kept _ h)

@[bound] theorem guardedWrite_kept (q off : Nat) (b : Blk) (i : Nat) (r : RegDef) (v : Word) (h : Kept s t) :
    Kept s (guardedWrite q off b i r v t) := by
  refine .ite (bump_kept _ h) (.ite (refusal_kept _ _ _ _ _ h) ?_)
  split
  · exact sqWrite_kept _ _ _ h
  · exact regWrite_kept _ _ _ _ _ h
  · exact regWrite_kept _ _ _ _ _ h
  · exact h
  · exact h
  · exact h

@[bound] theorem busWrite_kept (q off : Nat) (v : Word) (h : Kept s t) : Kept s (busWrite q off v t) := by
  refine .ite (bump_kept _ h) ?_
  split
  · exact bump_kept _ h
  · exact guardedWrite_kept _ _ _ _ _ _ h

@[bound] theorem hostWrite_kept (f off : Nat) (v : Word) (h : Kept s t) : Kept s (hostWrite f off v t) :=
  barUse_kept (fun _ hu => busWrite_kept _ _ _ (reached_kept hu)) _ _ h

@[bound] theorem regRead_kept (q : Nat) (b : Blk) (i : Nat) (r : RegDef) (h : Kept s t) : Kept s (regRead q b i r t).2 := by
  refine .iteSnd h ?_
  have hu : Kept s ((shadowsOf t b i r.off).foldl (fun s (e : Nat × Word) =>
      { s with regs := { s.regs with shadow := s.regs.shadow.put (reqKey e.1 q) e.2 } }) t) := by
    refine Kept.foldl (fun u e hu => ?_) _ h
    exact .update (reached_kept hu)
  exact .ite hu (readClears_kept _ _ _ hu)

@[bound] theorem busRead_kept (q off : Nat) (h : Kept s t) : Kept s (busRead q off t).2 := by
  refine .iteSnd h ?_
  split
  · exact bump_kept _ h
  · exact .iteSnd h (regRead_kept _ _ _ _ h)

@[bound] theorem hostRead_kept (f off : Nat) (h : Kept s t) : Kept s (hostRead f off t) := by
  refine barUse_kept (fun u hu => ?_) _ _ h
  exact send_kept _ (busRead_kept _ _ (reached_kept hu))

@[bound] theorem unsupported_kept (f : Nat) (isRead : Bool) (h : Kept s t) : Kept s (unsupported f isRead t) := by
  refine barUse_kept (fun u hu => ?_) _ _ h
  exact bump_kept _ (aerReport_kept _ _ _ (send_kept _ (reached_kept hu)))

@[bound] theorem loupeAccess_kept (off : Nat) (write : Bool) (v : Word) (h : Kept s t) : Kept s (loupeAccess off write v t) :=
  .ite h (.ite (.ite h (send_kept _ h)) (.ite (.ite (refusal_kept _ _ _ _ _ h) (send_kept _ h)) (.ite (busWrite_kept _ _ _ h)
    (send_kept _ (busRead_kept _ _ h)))))

end
end Sys2Proof.Machine
end

section
/-!
SUPPORT. What every command keeps: all commands, those that can take main power away apart.
-/
namespace Sys2Proof.Machine
section
variable {s t : State}

/-- The commands that can take main power away: those of the supplies and the end of a park sequence. -/
def lowersPower : Instr → Bool
  | .vsafeApply | .vsafeLoss | .powerLoss _ | .parkEdge _ => true
  | _ => false

/-! ### The commands that can take main power away -/

theorem Standing.trans {u : State} (h : Standing s t) (k : Standing t u) : Standing s u where
  variant := k.variant.trans h.variant
  dbgen   := k.dbgen.trans h.dbgen
  fuses   := k.fuses.trans h.fuses
  clk     := h.clk.trans k.clk
  tx      := h.tx.trans k.tx
  inv     := k.inv ∘ h.inv
  pending := k.pending.trans h.pending

theorem mainOff_standing (keep : List Nat) (s : State) : Standing s (mainOff keep s) := (mainOff_kept keep (Carried.refl s).kept).carried.toStanding

/-- Power that goes, with a log that stays canonical. -/
theorem standing_unpowered (s : State) (p : Power) (regs : Regs) (cn : Tab CanBus) (sl : Safelight) (hcnt : regs.cnt = [] ∨ regs = s.regs)
    (hsq : regs.sqN = [] ∨ regs = s.regs) (hlog : Tab.rising s.sl.log = true → Tab.rising sl.log = true)
    (hat : (∀ e ∈ s.sl.log, e.1 < 16) → ∀ e ∈ sl.log, e.1 < 16) :
    Standing s { s with power := p, regs, cn, sl } where
  variant := rfl
  dbgen   := rfl
  fuses   := rfl
  clk     := le_rfl
  tx      := List.suffix_rfl
  pending := rfl
  inv     := fun i =>
    { i with
      cnt := by
        rcases hcnt with h | h
        · exact h ▸ nofun
        · exact h ▸ i.cnt
      sq := by
        rcases hsq with h | h
        · exact h ▸ nofun
        · exact h ▸ i.sq
      log := hlog i.log
      logAt := hat i.logAt }

theorem vsafeApply_standing (s : State) : Standing s (vsafeApply s) := by
  unfold vsafeApply
  split
  · exact (mainOff_standing [] s).trans (standing_unpowered _ _ _ _ _ (.inl rfl) (.inl rfl) (fun _ => rfl)
      fun _ e he => by rw [List.mem_singleton.mp he]; decide)
  · exact (Carried.refl s).toStanding

theorem vsafeLoss_standing (s : State) : Standing s (vsafeLoss s) :=
  (mainOff_standing [] s).trans (standing_unpowered _ _ _ _ _ (.inl rfl) (.inl rfl) (fun _ => rfl) fun _ => nofun)

theorem powerLoss_standing (rails : List (Nat × Nat)) (s : State) : Standing s (powerLoss rails s) := by
  unfold powerLoss
  dsimp only
  split
  · exact (mainOff_standing [] s).trans (standing_unpowered _ _ _ _ _ (.inr rfl) (.inr rfl) id id)
  · exact (Carried.refl s).toStanding

theorem parkEdge_standing (at_ : Nat) (s : State) : Standing s (parkEdge at_ s) := by
  unfold parkEdge
  extract_lets u held jt v _ w
  have hu : Standing s u := (tickTo_kept at_ (Carried.refl s).kept).carried.toStanding
  have hw : Standing s w := (hu.trans (mainOff_standing resetKeys u)).trans (standing_unpowered _ _ _ _ _ (.inr rfl) (.inr rfl) id id)
  split
  · exact hw.trans (Kept.foldl (fun _ _ h => recordWake_kept _ h.kept) _ (Carried.refl w).kept).carried.toStanding
  · exact (Carried.refl s).toStanding

/-! ### Every command -/

theorem exec_reached {c : Instr} {u : State} (hc : lowersPower c = false) (h0 : Carried s u) (h : exec c (reached u) = .next t) : Kept s t := by
  cases c <;> cases h
  case vsafeApply | vsafeLoss | powerLoss | parkEdge => cases hc
  case hold | resume =>
    refine mainOn_kept (reached_kept h0) (begin_kept (fun d v hv => ?_) _ _ (reached_kept h0))
    exact holdResume_kept _ _ _ _ (reached_kept hv)
  all_goals bound

theorem exec_carried {c : Instr} (hc : lowersPower c = false) (h : exec c s = .next t) : Carried s t :=
  (exec_reached hc (.refl s) h).carried

theorem exec_standing {c : Instr} (h : exec c s = .next t) : Standing s t := by
  cases hc : lowersPower c
  · exact (exec_carried hc h).toStanding
  · cases c <;> cases hc <;> cases h
    · exact vsafeApply_standing s
    · exact vsafeLoss_standing s
    · exact powerLoss_standing _ s
    · show Standing s (mainOn s _)
      unfold mainOn
      split
      · exact parkEdge_standing _ s
      · exact (Carried.refl s).toStanding
end
end Sys2Proof.Machine
end

section
/-!
SUPPORT. What stands with main power off, and what every step keeps.
-/
namespace Sys2Proof.Machine
section
variable {s t : State}
/-! ### With main power off -/

/-- Main power is off, and nothing of the main domains stands. -/
structure Dark (s : State) : Prop where
  off  : s.power ≠ .on
  lost : MainLost s

/-- What a state that is dark may change and stay dark: the registers, time, the pins, the fixture buses' receivers and the safelight. -/
theorem Dark.update {regs pres tk hl cn sb sl free pending} (h : Dark t) (hpres : pres = t.pres := by rfl)
    (hlink : hl.link = t.hl.link := by rfl) (hfns : hl.fns = t.hl.fns := by rfl) (hreqs : hl.reqs = t.hl.reqs := by rfl)
    (hcls : sb.cls = t.sb.cls := by rfl) :
    Dark { t with regs := regs, pres := pres, tk := tk, hl := hl, cn := cn, sb := sb, sl := sl, free := free, pending := pending } where
  off  := h.off
  lost :=
    { h.lost with
      pres := hpres.trans h.lost.pres, link := hlink.trans h.lost.link, fns := hfns.trans h.lost.fns, reqs := hreqs.trans h.lost.reqs
      stop := hcls.trans h.lost.stop }

theorem Dark.isOn (h : Dark t) (d : Nat) : t.isOn d = false := by
  rw [State.isOn, State.dom_st_of_doms_nil h.lost.doms]
  rfl

theorem Dark.raise (h : Dark t) (b : Blk) (i num cls : Nat) (args : List Int) : raise b i num cls args t = t := if_neg h.off

theorem Dark.ite {c : Prop} [Decidable c] {u : State} (ht : Dark t) (hu : Dark u) : Dark (if c then t else u) := by
  split
  · exact ht
  · exact hu

theorem tickTo_dark (at_ : Nat) (h : Dark t) : Dark (tickTo at_ t) := .update h

theorem wakeSource_dark (k : Nat) (h : Dark t) : Dark (wakeSource k t) := by
  unfold wakeSource
  split
  · exact h
  · split
    · exact .update h
    · next hp => exact absurd hp h.off
    · exact h

theorem setCan_dark (b : Nat) (c : CanBus) (h : Dark t) : Dark (t.setCan b c) := .update h

theorem closeWindow_of_dark (h : Dark t) : closeWindow t = t := by
  rw [closeWindow, h.lost.pres]
  rfl

theorem alarmMatch_dark (h : Dark t) : Dark (alarmMatch t) := by
  unfold alarmMatch
  split
  · exact h
  · next at_ _ =>
    have hu : Dark { tickTo at_ t with sl := { (tickTo at_ t).sl with alarmed := true } } := .update (tickTo_dark _ h)
    refine .ite h (wakeSource_dark _ ?_)
    rwa [hu.raise]

theorem toneAccepted_dark (p at_ : Nat) (periods : List Nat) (h : Dark t) : Dark (toneAccepted p at_ periods t) :=
  .ite h (wakeSource_dark _ (.ite (.update (tickTo_dark at_ h)) (tickTo_dark at_ h)))

theorem xtalFail_dark (at_ : Nat) (h : Dark t) : Dark (xtalFail at_ t) := by
  unfold xtalFail
  extract_lets u _ v
  have hv : Dark v := .update (tickTo_dark _ h)
  rw [hv.raise, closeWindow_of_dark hv]
  exact .ite h hv

theorem xtalRestored_dark (at_ : Nat) (h : Dark t) : Dark (xtalRestored at_ t) := by
  unfold xtalRestored
  extract_lets u _
  have hv : Dark { u with sl := { u.sl with xtalOk := true } } := .update (tickTo_dark _ h)
  rw [hv.raise]
  exact .ite h hv

theorem pressAccepted_dark (at_ : Nat) (h : Dark t) : Dark (pressAccepted at_ t) := by
  unfold pressAccepted
  extract_lets held u _ v go _ w _
  have hv : Dark v := .update (tickTo_dark _ h)
  rw [hv.isOn 19]
  exact .ite h (.ite (.ite hv (wakeSource_dark _ hv)) hv)

theorem sealChange_dark (isOpen : Bool) (h : Dark t) : Dark (sealChange isOpen t) := by
  have hu : Dark (sealLog (if isOpen then 2 else 3) t) := .update h
  unfold sealChange
  extract_lets u e v
  rw [show v = u from hu.raise ..]
  exact .ite (wakeSource_dark _ hu) hu

theorem sealSample_dark (at_ : Nat) (isOpen : Bool) (h : Dark t) : Dark (sealSample at_ isOpen t) := by
  unfold sealSample
  extract_lets u p v l w
  have hv : Dark v := by
    unfold v
    rw [if_neg (show u.power ≠ .on from h.off)]
    exact tickTo_dark _ h
  have hw : Dark w := .update hv
  exact .ite h (.ite (sealChange_dark _ hw) hw)

theorem presReleased_dark (at_ : Nat) (h : Dark t) : Dark (presReleased at_ t) :=
  .ite h (.update (tickTo_dark _ h) (by rw [show (tickTo at_ t).pres = {} from h.lost.pres]))

theorem canWake_dark (b cause filter : Nat) (f : Option CanFrame) (h : Dark t) : Dark (canWake b cause filter f t) := by
  unfold canWake
  extract_lets u c v
  have hv : Dark v := setCan_dark _ _ (.ite h (wakeSource_dark _ h))
  rw [hv.isOn 13]
  exact setCan_dark _ _ hv

theorem wakeFrame_dark (b : Nat) (f : CanFrame) (kind : Nat) (h : Dark t) : Dark (wakeFrame b f kind t) := by
  unfold wakeFrame
  extract_lets c u
  have hu (c : CanBus) : Dark (t.setCan b c) := setCan_dark _ _ h
  refine .ite ?_ h
  split
  · exact hu _
  · split
    · exact canWake_dark _ _ _ _ (hu _)
    · exact hu _
  · exact .ite (canWake_dark _ _ _ _ (hu _)) (hu _)
  · exact hu _
  · exact h

theorem scanPhase_dark (fog : Nat) (x : PatternScan) (ph : Bool × Nat) (h : Dark t) : Dark (scanPhase fog (x, t) ph).2 := by
  have hp : Dark (phaseCounts fog ph.2 t).2 := by
    unfold phaseCounts
    split
    · exact h
    · split
      · exact h
      · exact .update h
  unfold scanPhase
  dsimp only
  split
  · exact hp
  · split <;> exact hp

theorem wakePattern_dark (b : Nat) (phases : List (Bool × Nat)) (h : Dark t) : Dark (wakePattern b phases t) := by
  have hs : Dark (phases.foldl (scanPhase (tFog t b)) ({}, t)).2 :=
    List.foldlRecOn (motive := fun a : PatternScan × State => Dark a.2) phases _ h fun a ha ph _ => scanPhase_dark _ a.1 ph ha
  unfold wakePattern
  generalize phases.foldl (scanPhase (tFog t b)) ({}, t) = a at hs ⊢
  exact .ite (.ite hs (.ite (canWake_dark _ _ _ _ hs) (setCan_dark _ _ hs))) h

theorem decoderDisarm_dark (b : Nat) (h : Dark t) : Dark (decoderDisarm b t) := .ite (setCan_dark _ _ h) h

theorem requesterReset_dark (f : Nat) (h : Dark t) : Dark (requesterReset f t) := .update h

theorem perstAssert_dark (writes : Nat) (copied : Option Nat) (h : Dark t) : Dark (perstAssert writes copied t) := by
  have hu : Dark { t with hl := { t.hl with perst := true } } := .update h
  have hd : linkDown writes copied { t with hl := { t.hl with perst := true } } = { t with hl := { t.hl with perst := true } } := by
    rw [linkDown, hu.lost.link]
    rfl
  unfold perstAssert
  rw [hd]
  extract_lets _ u _ v
  have hv : Dark v := .update (t := u) hu (hlink := h.lost.link.symm) (hfns := h.lost.fns.symm)
  rw [if_neg hv.off]
  exact .ite h (requesterReset_dark _ (requesterReset_dark _ hv))

theorem perstDeassert_dark (h : Dark t) : Dark (perstDeassert t) := by
  have hu : Dark (if t.hl.perst then { t with hl := { t.hl with perst := false, perstHigh := t.tk.clk } } else t) := .ite (.update h) h
  unfold perstDeassert trainLink
  rw [if_neg fun hc => hu.off hc.1]
  exact hu

theorem stopPinLow_dark (h : Dark t) : Dark (stopPinLow t) := by
  have hu : Dark { t with sb := { t.sb with pinLow := true } } := .update h
  unfold stopPinLow
  extract_lets _ u
  rw [show bathOn u = false from hu.isOn 19]
  exact .ite h hu

theorem mainRail_dark (r mv : Nat) (h : Dark t) : Dark (mainRail r mv t) := .ite h (.ite (.update h) (.update h))

/-! ### Main power that goes and comes -/

theorem mainLost_mainOff (keep : List Nat) (s : State) : MainLost (mainOff keep s) := by
  constructor <;> rfl

theorem vsafeApply_lost (h : PowerInv s) : PowerInv (vsafeApply s) := by
  unfold vsafeApply
  extract_lets low u
  split
  · exact fun _ => { mainLost_mainOff [] s with }
  · exact h

theorem vsafeLoss_lost (s : State) : PowerInv (vsafeLoss s) := fun _ => { mainLost_mainOff [] s with }

theorem powerLoss_lost (rails : List (Nat × Nat)) (h : PowerInv s) : PowerInv (powerLoss rails s) := by
  unfold powerLoss
  extract_lets lost u
  split
  · exact fun _ => { mainLost_mainOff [] s with }
  · exact h

theorem parkEdge_lost (at_ : Nat) (h : PowerInv s) : PowerInv (parkEdge at_ s) := by
  unfold parkEdge
  extract_lets u held jt v _ w
  have hw : Dark w := ⟨nofun, { mainLost_mainOff resetKeys u with }⟩
  split
  · exact fun _ => (List.foldlRecOn (motive := Dark) _ _ hw fun x hx k _ => Dark.update hx).lost
  · exact h

theorem deviceReset_power (s : State) : (deviceReset s).power = .on := by
  unfold deviceReset
  extract_lets woke u align restore _ _ _ v
  have hv : Carried v v := .refl v
  exact (fuseCheck_kept (.foldl (fun _ _ h => setTarget_kept _ _ h.kept) _ hv.kept)).carried.power rfl

theorem vcoreEnter_lost (h : PowerInv s) : PowerInv (vcoreEnter s) := by
  unfold vcoreEnter
  split
  · exact fun hp => absurd (deviceReset_power _) hp
  · exact h

theorem deviceWake_lost (h : PowerInv s) : PowerInv (deviceWake s) := by
  unfold deviceWake
  split
  · exact fun hp => absurd (deviceReset_power _) hp
  · exact h

theorem powerInv_of_on (h : s.power = .on) : PowerInv s := fun hp => absurd h hp

/-- Commands outside the main die, from a state that is dark. -/
theorem exec_dark {c : Instr} (hc : ofMainDie c = false) (h : Dark s) (he : exec c s = .next t) : PowerInv t := by
  have held {u : State} (hu : Dark u) : PowerInv u := fun _ => hu.lost
  cases c <;> cases hc <;> cases he
  · exact vsafeApply_lost (held h)
  · exact vsafeLoss_lost s
  · exact vcoreEnter_lost (held h)
  · exact powerLoss_lost _ (held h)
  · exact held (pressAccepted_dark _ h)
  · exact held (sealSample_dark _ _ h)
  · exact held (perstAssert_dark _ _ h)
  · exact held (perstDeassert_dark h)
  · exact held (toneAccepted_dark _ _ _ h)
  · exact held (wakePattern_dark _ _ h)
  · exact held (wakeFrame_dark _ _ _ h)
  · exact held (decoderDisarm_dark _ h)
  · exact held (stopPinLow_dark h)
  · exact held (.update h)
  · exact deviceWake_lost (held h)
  · exact held (alarmMatch_dark h)
  · exact held (xtalFail_dark _ h)
  · exact held (xtalRestored_dark _ h)
  · exact held (presReleased_dark _ h)
  · exact held (mainRail_dark _ _ h)

/-- Commands that can take main power away, from a state that has it. -/
theorem exec_lowered {c : Instr} (hc : lowersPower c = true) (hp : s.power = .on) (he : exec c s = .next t) : PowerInv t := by
  have h := powerInv_of_on hp
  cases c <;> cases hc <;> cases he
  · exact vsafeApply_lost h
  · exact vsafeLoss_lost s
  · exact powerLoss_lost _ h
  · show PowerInv (mainOn s _)
    rw [mainOn_of_on _ hp]
    exact parkEdge_lost _ h

theorem exec_powerInv {c : Instr} (h : PowerInv s) (he : exec c s = .next t) : PowerInv t := by
  by_cases hp : s.power = .on
  · cases hc : lowersPower c
    · exact powerInv_of_on ((exec_carried hc he).power hp)
    · exact exec_lowered hc hp he
  · cases hc : ofMainDie c
    · exact exec_dark hc ⟨hp, h hp⟩ he
    · rw [withoutMainPowerTheMainDieStands c s hc hp] at he
      cases he
      exact h

/-! ### The obligations -/

/-- A step is the command at its front on the state without it; with nothing queued the clock goes on. -/
theorem step_cases (h : step s = .next t) :
    (∃ c rest, s.pending = c :: rest ∧ exec c { s with pending := rest } = .next t) ∨ (s.pending = [] ∧ t = idle s) := by
  unfold step at h
  split at h
  · next hp => exact .inr ⟨hp, by cases h; rfl⟩
  · next c rest hp => exact .inl ⟨c, rest, hp, h⟩

theorem idle_carried (s : State) : Carried s (idle s) := (mainOn_kept (Carried.refl s).kept (advance_kept 1 (Carried.refl s).kept)).carried

/-- Settles O40: a command keeps the invariant by `exec_standing`, taking it from the queue and the idle step by the fields they change. -/
theorem everyStepKeepsTheInvariant : Obligations.EveryStepKeepsTheInvariant := by
  intro s t hi h
  rcases step_cases h with ⟨c, rest, -, he⟩ | ⟨-, rfl⟩
  · exact (exec_standing he).inv { hi with }
  · exact (idle_carried s).inv hi

/-- Settles O41: with main power on, only the commands of the supplies and the end of a park sequence take it away, and they leave nothing
standing (`exec_lowered`); without it the main die does nothing, and the other commands keep what is dark dark (`exec_dark`). -/
theorem everyStepKeepsMainLost : Obligations.EveryStepKeepsMainLost := by
  intro s t hi h
  rcases step_cases h with ⟨c, rest, -, he⟩ | ⟨-, rfl⟩
  · exact exec_powerInv (s := { s with pending := rest }) (fun hp => { hi hp with }) he
  · by_cases hp : s.power = .on
    · exact powerInv_of_on ((idle_carried s).power hp)
    · rw [idle, mainOn_of_not_on _ hp]
      exact hi

/-- Settles O42: by `exec_standing`. -/
theorem everyStepGoesOnward : Obligations.EveryStepGoesOnward := by
  intro s t h
  rcases step_cases h with ⟨c, rest, hq, he⟩ | ⟨hq, rfl⟩
  · have hs := exec_standing he
    exact ⟨{ hs.toOnward with }, by rw [hs.pending, hq]; rfl⟩
  · have hs := idle_carried s
    exact ⟨hs.toOnward, by rw [hs.pending, hq]; rfl⟩
end
end Sys2Proof.Machine
end

section
/-!
SUPPORT. A device reset (R177, R827, R828), the supplies (chapters 23 and 25) and the contact sheet (chapter 02); O1 and O36.
-/
namespace Sys2Proof.Machine

/-! ### Commands that act -/

/-- A command of the main die with main power on. -/
theorem runs_mainOn {c : Instr} {s u : State} {P : State → Prop} (he : exec c s = .next (mainOn s u)) (hp : s.power = .on) (h : P u) :
    Runs c s P := ⟨u, by rw [he, mainOn_of_on _ hp], h⟩

/-! ### A device reset -/

/-- What of the host link no message changes: a message changes the functions and the vectors in their interval (R190, R201). -/
theorem raiseAs_hl {γ : Type} (p : HostLink → γ)
    (hp : ∀ (x : HostLink) fns spaced busyAt, p { x with fns, spaced, busyAt } = p x)
    (b : Blk) (i num cls : Nat) (args : List Int) (src prod : Nat) (s : State) : p (raiseAs b i num cls args src prod s).hl = p s.hl := by
  have hsig (v : Nat) (s : State) : p (signalSpaced v s).hl = p s.hl := by
    unfold signalSpaced signal
    dsimp only
    (repeat' split) <;> exact hp s.hl _ _ _
  unfold raiseAs
  split
  · dsimp only [pushRec]
    split <;> split <;> simp [hsig, sqRecord]
  · rfl

@[simp] theorem raiseAs_cxl (b : Blk) (i num cls : Nat) (args : List Int) (src prod : Nat) (s : State) :
    (raiseAs b i num cls args src prod s).hl.cxl = s.hl.cxl := raiseAs_hl HostLink.cxl (fun _ _ _ _ => rfl) ..

theorem fromReset_raiseAs {t : State} (h : FromReset t) (b : Blk) (i num cls : Nat) (args : List Int) (src prod : Nat) :
    FromReset (raiseAs b i num cls args src prod t) := by
  constructor <;> simp only [raiseAs_power, raiseAs_dom, raiseAs_sheet, raiseAs_sl, raiseAs_link, raiseAs_rg, raiseAs_ar, raiseAs_chs,
    raiseAs_mis, raiseAs_sb, raiseAs_pres, raiseAs_th]
  exacts [h.power, h.up, h.off, h.checking, h.standby, h.noWake, h.link, h.rings, h.ar, h.chs, h.mis, h.stop, h.pres, h.th]

/-- What a device reset leaves, whatever the fuses say. -/
structure ResetLeaves (v t : State) : Prop extends FromReset t where
  sl  : t.sl = v.sl
  cxl : t.hl.cxl = v.hl.cxl

theorem fuseCheck_leaves {v : State} (h : FromReset v) : ResetLeaves v (fuseCheck v) := by
  refine List.foldlRecOn (motive := ResetLeaves v) _ _ ⟨h, rfl, rfl⟩ fun u hu e _ => ?_
  split
  · exact ⟨fromReset_raiseAs hu.toFromReset .., by simp [hu.sl], by simp [hu.cxl]⟩
  · exact hu

theorem setTarget_of_off {s : State} {d : Nat} (h : (s.dom d).st = .off) :
    setTarget d true s =
      startUp d (s.setDom d { s.dom d with target := true }) := by
  simp [setTarget, followTarget, h]
/-- A domain that is off comes up with a target of 1 (R143); the others stand. -/
structure Rises (s t : State) (d : Nat) : Prop where
  st    : ∀ k, (t.dom k).st = if k = d then .up else (s.dom k).st
  same  : { t with doms := s.doms } = s

theorem setTarget_rises {s : State} {d : Nat} (h : (s.dom d).st = .off) : Rises s (setTarget d true s) d := by
  rw [setTarget_of_off h]
  refine ⟨fun k => ?_, rfl⟩
  simp only [startUp, State.setDom_dom]
  split <;> simp_all

/-- The three domains that a device reset brings up first (R828). -/
theorem firstTargets_rise {v : State} (h : v.doms = []) :
    ∃ ds, ([1, 16, 19].foldl (fun u d => setTarget d true u) v) = { v with doms := ds } ∧
      ∀ k, (({ v with doms := ds } : State).dom k).st = if k ∈ [1, 16, 19] then .up else .off := by
  have hoff (d : Nat) : (v.dom d).st = .off := State.dom_st_of_doms_nil h d
  have r1 := setTarget_rises (hoff 1)
  have r16 := setTarget_rises (d := 16) ((r1.st 16).trans (hoff 16))
  have r19 := setTarget_rises (d := 19) ((r16.st 19).trans ((r1.st 19).trans (hoff 19)))
  simp only [List.foldl_cons, List.foldl_nil]
  generalize setTarget 1 true v = u at r1 r16 r19 ⊢
  generalize setTarget 16 true u = w at r16 r19 ⊢
  generalize setTarget 19 true w = t at r19 ⊢
  have hsame : t = { v with doms := t.doms } := by rw [← r1.same, ← r16.same, ← r19.same]
  refine ⟨t.doms, hsame, fun k => ?_⟩
  rw [← hsame, r19.st, r16.st, r1.st, hoff]
  simp only [List.mem_cons, List.not_mem_nil, or_false]
  by_cases h1 : k = 1 <;> by_cases h16 : k = 16 <;> simp [h1, h16]

/-- A device reset leaves `FromReset`, with VCORE in range, the straps' mode and the wake kept (R177, R828). -/
structure AfterReset (s t : State) : Prop extends FromReset t where
  vcore : t.sl.vcore = true
  cxl   : t.hl.cxl = s.hl.strap
  wake  : t.sl.wake = s.sl.wake
  valid : t.sl.parkValid = true → s.sl.parkValid = true

theorem deviceReset_after (s : State) : AfterReset s (deviceReset s) := by
  unfold deviceReset
  extract_lets woke u align restore _ _ _ v
  obtain ⟨ds, hfold, hst⟩ := firstTargets_rise (v := v) rfl
  rw [hfold]
  have hw : FromReset { v with doms := ds } := by
    constructor
    case up => exact fun d hd => (hst d).trans (if_pos hd)
    case off => exact fun d hd => (hst d).trans (if_neg hd)
    all_goals rfl
  have hf := fuseCheck_leaves hw
  exact { hf.toFromReset with
    vcore := by rw [hf.sl]
    cxl := by rw [hf.cxl]; rfl
    wake := by rw [hf.sl]; rfl
    valid := fun h => (Bool.and_eq_true_iff.1 (Bool.and_eq_true_iff.1 (show v.sl.parkValid = true by rwa [hf.sl] at h)).1).1 }

/-! ### The supplies -/

theorem vsafeApply_runs {s : State} (h : s.power = .off) : Runs .vsafeApply s fun t =>
    t.power = .parked ∧ MainLost t ∧ t.sl.wake = 1 ∧ t.sl.pending = true ∧ t.sl.tick = 0 ∧
      t.sl.log = [(0, { ticks := 0, kind := 1, state := 0, seq := 0 })] := by
  refine ⟨vsafeApply s, rfl, ?_⟩
  rw [vsafeApply, if_pos h]
  exact ⟨rfl, { mainLost_mainOff [] s with }, rfl, rfl, rfl, rfl⟩

theorem vsafeLoss_runs (s : State) : Runs .vsafeLoss s fun t =>
    t.power = .off ∧ MainLost t ∧ t.regs = {} ∧ t.sl.log = [] ∧ t.sl.tick = 0 :=
  ⟨vsafeLoss s, rfl, rfl, { mainLost_mainOff [] s with }, rfl, rfl, rfl⟩

theorem vcoreEnter_runs {s : State} (hp : s.power = .parked) (hc : s.sl.counting = true) (hv : s.sl.vcore = false) : Runs .vcoreEnter s fun t =>
    FromReset t ∧ t.sl.vcore = true ∧ t.hl.cxl = s.hl.strap := by
  have h := deviceReset_after (advanceClk (s.sl.countAt + 1000000) s)
  refine ⟨vcoreEnter s, rfl, ?_⟩
  rw [vcoreEnter, if_pos ⟨hp, hc, by simp [hv]⟩]
  exact ⟨h.toFromReset, h.vcore, by rw [h.cxl]; simp⟩

/-- The codes of the rails below their loss threshold (R876). -/
theorem mem_lost {rails : List (Nat × Nat)} {k : Nat} :
    k ∈ (rails.filter fun e => railLost e.1 e.2).map (·.1) ↔ ∃ e ∈ rails, e.1 = k ∧ railLost e.1 e.2 = true := by
  simp only [List.mem_map, List.mem_filter]
  exact ⟨fun ⟨e, ⟨h, hl⟩, hk⟩ => ⟨e, h, hk, hl⟩, fun ⟨e, h, hk, hl⟩ => ⟨e, ⟨h, hl⟩, hk⟩⟩

theorem powerLoss_runs {s : State} {rails : List (Nat × Nat)} (hp : s.power = .on) (hr : ∃ e ∈ rails, railLost e.1 e.2 = true) :
    Runs (.powerLoss rails) s fun t =>
      t.power = .parked ∧ MainLost t ∧ t.sl.wake = 1 ∧ t.sl.first = 0 ∧ t.sl.parkCause = 2 ∧ t.sl.lossDue = true ∧
        ((∃ e ∈ rails, e.1 = 1 ∧ railLost 1 e.2 = true) → t.sl.lossRail = 1) ∧ (∀ e ∈ rails, railLost e.1 e.2 = true → e.1 ∈ t.sl.low) ∧
        t.sl.log = s.sl.log := by
  obtain ⟨e, he, hl⟩ := hr
  have hlost : ¬ ((rails.filter fun e => railLost e.1 e.2).map (·.1)).isEmpty = true := by
    rw [List.isEmpty_iff]
    exact List.ne_nil_of_mem (mem_lost.2 ⟨e, he, rfl, hl⟩)
  refine ⟨powerLoss rails s, rfl, ?_⟩
  rw [powerLoss, if_pos ⟨hp, by simp [hlost]⟩]
  refine ⟨rfl, { mainLost_mainOff [] s with }, rfl, rfl, rfl, rfl, fun ⟨k, hk, h1, hr1⟩ => ?_, fun k hk hrk => ?_, rfl⟩
  · exact if_pos (List.contains_iff_mem.2 (mem_lost.2 ⟨k, hk, h1, h1 ▸ hr1⟩))
  · have hm := mem_lost.2 ⟨k, hk, rfl, hrk⟩
    by_cases hc : s.sl.low.contains k.1 = true
    · exact List.mem_append_left _ (List.contains_iff_mem.1 hc)
    · exact List.mem_append_right _ (List.mem_filter.2 ⟨hm, Bool.not_eq_true' _ ▸ Bool.eq_false_iff.2 hc⟩)

theorem mainRail_low {s : State} {r mv : Nat} (h : railLow r mv = true) :
    (mainRail r mv s).sl.counting = false ∧ r ∈ (mainRail r mv s).sl.low := by
  have hr : ¬ (railLimits r).isNone = true := by
    intro hn
    simp [railLow, Option.isNone_iff_eq_none.1 hn] at h
  rw [mainRail, if_neg hr, if_pos h]
  refine ⟨rfl, ?_⟩
  dsimp only
  split
  case isTrue hc => exact List.contains_iff_mem.1 hc
  case isFalse => simp

/-- A rail back above its minimum is no longer low; where it was the last one, and VCORE is not yet up, the wait for VCORE starts (R827). -/
theorem mainRail_up {s : State} {r mv : Nat} (h1 : 1 ≤ r) (h8 : r ≤ 8) (h : railLow r mv = false) :
    r ∉ (mainRail r mv s).sl.low ∧
      (s.power ≠ .off → s.sl.vcore = false → r ∈ s.sl.low → (∀ k ∈ s.sl.low, k = r) →
        (mainRail r mv s).sl.counting = true ∧ (mainRail r mv s).sl.countAt = s.tk.clk) := by
  have hr : ¬ (railLimits r).isNone = true := by interval_cases r <;> decide
  rw [mainRail, if_neg hr, if_neg (by simp [h])]
  refine ⟨by simp, fun hp hv hm hall => ?_⟩
  have hnone : (s.sl.low.filter fun k => k != r) = [] := List.filter_eq_nil_iff.2 fun k hk => by simp [hall k hk]
  simp [hnone, hm, hv, hp]

/-- Settles O1: the cold start and its end, the device reset that VCORE brings, and the main rails that fall and return. -/
theorem supplyCommandsComplete : Obligations.SupplyCommandsComplete :=
  ⟨fun _ => vsafeApply_runs, vsafeLoss_runs, fun _ => vcoreEnter_runs, fun _ _ => powerLoss_runs,
    fun _ _ _ h => ⟨_, rfl, mainRail_low h⟩, fun _ _ _ h1 h8 h => ⟨_, rfl, mainRail_up h1 h8 h⟩⟩

/-! ### The contact sheet -/

@[simp] theorem trainLink_sheet (s : State) : (trainLink s).sheet = s.sheet := by
  unfold trainLink; split <;> rfl
@[simp] theorem bootCheck_sheet (s : State) : (bootCheck s).sheet = s.sheet := by
  unfold bootCheck; split <;> rfl

theorem resetCheckDone_of_checking {s : State} {damage : List (Nat × Byte)} (hp : s.power = .on) (hc : s.sheet.checking = true)
    (hd : s.sheet.checked = false) : (resetCheckDone damage s).sheet =
      { (takeCheck (checkSheet (damagedBy damage (sheetRom s.variant))) s).sheet with
        damage, hold := (checkSheet (damagedBy damage (sheetRom s.variant))).bad } := by
  rw [resetCheckDone, if_pos ⟨hp, hc, by simp [hd]⟩]
  simp

theorem recheckDone_of_checked {s : State} {damage : List (Nat × Byte)} (hc : s.sheet.checking = true) (hd : s.sheet.checked = true) :
    recheckDone damage s =
      if (checkSheet (damagedBy damage (sheetImage s))).bad = true then
        raise .cs 0 0x20 2 [(csStatus (takeCheck (checkSheet (damagedBy damage (sheetImage s))) s)).toNat]
          (takeCheck (checkSheet (damagedBy damage (sheetImage s))) s)
      else takeCheck (checkSheet (damagedBy damage (sheetImage s))) s := by
  rw [recheckDone, if_pos ⟨hc, hd⟩]

theorem recheckDone_sheet {s : State} {damage : List (Nat × Byte)} (hc : s.sheet.checking = true) (hd : s.sheet.checked = true) :
    (recheckDone damage s).sheet = (takeCheck (checkSheet (damagedBy damage (sheetImage s))) s).sheet := by
  rw [recheckDone_of_checked hc hd]
  split
  · exact raise_sheet ..
  · rfl

/-- A recheck that finds the sheet bad raises CS_BAD with the status it leaves (R67). -/
theorem recheckDone_raised {s : State} {damage : List (Nat × Byte)} (hp : s.power = .on) (hc : s.sheet.checking = true) (hd : s.sheet.checked = true)
    (hbad : (checkSheet (damagedBy damage (sheetImage s))).bad = true) :
    Raised s (recheckDone damage s) .cs 0 0x20 2 [((csStatus (recheckDone damage s)).toNat : Nat)] := by
  have hst : csStatus (recheckDone damage s) = csStatus (takeCheck (checkSheet (damagedBy damage (sheetImage s))) s) := by
    rw [csStatus, recheckDone_sheet hc hd, csStatus]
  rw [hst, recheckDone_of_checked hc hd, if_pos hbad]
  exact raised_raise _ _ _ _ _ hp rfl

/-- Settles O36: the reset check takes its image and its hold, a recheck leaves both, and SHEET_READ reads the image once it is checked. -/
theorem sheetCommandsComplete : Obligations.SheetCommandsComplete := by
  refine ⟨fun s damage hp hc hd => runs_mainOn rfl hp ?_, fun s damage hp hc hd => runs_mainOn rfl hp ?_,
    fun s v hp hd => runs_mainOn rfl hp ?_, fun s v hp hd => runs_mainOn rfl hp ?_⟩
  · rw [resetCheckDone_of_checking hp hc hd]
    exact ⟨rfl, rfl, rfl, rfl, rfl⟩
  · refine ⟨?_, ?_, ?_, ?_, recheckDone_raised hp hc hd⟩ <;> rw [recheckDone_sheet hc hd] <;> rfl
  · rw [sheetRead, if_pos hp]
    simp [sheetWord, hd, loupeSheetRead]
  · rw [sheetRead, if_pos hp]
    simp [sheetWord, hd]

end Sys2Proof.Machine
end

section
/-!
SUPPORT. What a host's request does at a register (chapters 03 and 04): what a guard refuses, what a write stores, what a read answers and clears; O5, O3
and O4.
-/
namespace Sys2Proof.Machine

/-! ### Requests that reach a register -/

theorem at_zero (l k : Nat) : at_ l k 0 = 0 := by simp [at_]

theorem mainOn_hostWrite {s : State} {f off i : Nat} {b : Blk} {r : RegDef} (v : Word) (hs : HostReaches s f) (hr : RegAt s off b i r) :
    mainOn s (hostWrite f off v s) = guardedWrite f off b i r v (traffic s) := by
  rw [mainOn_of_on _ hs.power, hostWrite_of_reaches off v hs, busWrite_of_regAt f v hr.traffic]

/-- A write that is only counted. -/
theorem counted_bump_traffic (key : Nat) (s : State) : Counted s (bump key (traffic s)) key := bumpBy_cnt ..

theorem counted_refusal (src missing requester ring what : Nat) (s : State) : Counted s (refusal src missing requester ring what (traffic s)) 0x52008 :=
  bumpBy_cnt ..

theorem refusal_record (src missing requester ring what : Nat) (s : State) : (refusal src missing requester ring what s).pres.lastRefusal =
    w32 (at_ 31 1 src + at_ 28 3 missing + at_ 26 2 requester + at_ 24 2 ring + at_ 0 20 what) := rfl

/-- A write through function 1 of a register that is not open to every function is counted and does nothing else (R74). -/
theorem guardedWrite_unprivileged {off i : Nat} {b : Blk} {r : RegDef} (v : Word) (s : State) (h : r.priv ≠ .any) :
    guardedWrite 1 off b i r v s = bump cntUnpriv s := by
  simp [guardedWrite, privileged, h]

/-- A PP or PS register whose conditions are not all met keeps the refusal record and does nothing else (R117, R122). -/
theorem guardedWrite_refused {q off i missing : Nat} {b : Blk} {r : RegDef} (v : Word) (s : State) (hq : privileged q = true)
    (h : r.priv = .pp ∧ missing = missingPp s ∨ r.priv = .ps ∧ missing = missingPs s) (hm : missing ≠ 0) :
    guardedWrite q off b i r v s = refusal 0 missing (requesterCode s q) 0 off s := by
  rcases h with ⟨hp, rfl⟩ | ⟨hp, rfl⟩ <;> simp [guardedWrite, hq, hp, hm]

/-- What a refused write of function 0 leaves. -/
theorem runs_registerWrite_refused {s : State} {off i missing : Nat} {b : Blk} {r : RegDef} (v : Word) (hs : HostReaches s 0)
    (hr : RegAt s off b i r) (h : r.priv = .pp ∧ missing = missingPp (traffic s) ∨ r.priv = .ps ∧ missing = missingPs (traffic s))
    (hm : missing ≠ 0) : Runs (.registerWrite 0 off v) s fun t =>
      Counted s t 0x52008 ∧ t.regs.val = s.regs.val ∧ t.regs.held = s.regs.held ∧ t.tx = s.tx ∧
        t.pres.lastRefusal = w32 (at_ 28 3 missing + at_ 26 2 (b2n s.hl.cxl) + at_ 0 20 off) := by
  have hreq : requesterCode (traffic s) 0 = b2n s.hl.cxl := rfl
  refine ⟨_, rfl, ?_⟩
  rw [mainOn_hostWrite v hs hr, guardedWrite_refused v (traffic s) rfl h hm, hreq]
  refine ⟨counted_refusal .., rfl, rfl, rfl, ?_⟩
  rw [refusal_record, at_zero, at_zero, Nat.zero_add, Nat.add_zero]

/-- Settles O5: function 1 is turned away by privilege (`guardedWrite_unprivileged`), function 0 by presence (`guardedWrite_refused`). -/
theorem refusedWritesChangeNoRegister : Obligations.RefusedWritesChangeNoRegister := by
  refine ⟨fun s off v b i r hs hr hp => ⟨_, rfl, ?_⟩, fun s off v b i r hs hr hmiss => ?_⟩
  · rw [mainOn_hostWrite v hs hr, guardedWrite_unprivileged v _ hp]
    exact ⟨counted_bump_traffic cntUnpriv s, rfl, rfl, rfl⟩
  · rcases hmiss with ⟨hp, hm⟩ | ⟨hp, hm⟩
    · simp only [hp, if_true]
      exact runs_registerWrite_refused v hs hr (.inl ⟨hp, rfl⟩) hm
    · simp only [hp, reduceCtorEq, if_false]
      exact runs_registerWrite_refused v hs hr (.inr ⟨hp, rfl⟩) hm

/-! ### What a write stores -/

theorem bump_wr (key : Nat) (s : State) (k : Nat) (d : Word) : (bump key s).wr k d = s.wr k d := rfl

theorem crossOpen_wr (i j : Nat) (s : State) (k : Nat) (d : Word) : (crossOpen i j s).wr k d = s.wr k d := by
  unfold crossOpen offerOpen
  split
  · split <;> rfl
  · rfl

theorem store_wr (b : Blk) (i : Nat) (te : Te) (key : Nat) (reset new : Word) (s : State) (k : Nat) (d : Word) :
    (store b i te key reset new s).wr k d = if k = key then new else s.wr k d := by
  have hnow : ∀ u : State, (putNow key new { u with regs := { u.regs with act := u.regs.act.del key, pend := u.regs.pend.del key } }).wr k d =
      if k = key then new else u.wr k d := fun u => Tab.get_put ..
  have hlater : ∀ u : State, (putLater key reset new u).wr k d = if k = key then new else u.wr k d := fun u => Tab.get_put ..
  unfold store
  dsimp only
  split
  · exact hnow s
  · split
    · exact hlater s
    · exact hnow s
  · exact hlater s

theorem ite_bump_wr (c : Bool) (key : Nat) (s : State) (k : Nat) (d : Word) : (if c = true then bump key s else s).wr k d = s.wr k d := by
  split <;> rfl

/-- HUB_DOM_ENABLE sets the domains' targets. -/
theorem not_quiet_domEnable : ¬ Quiet .hub 0x44 := fun h =>
  absurd (congrArg (fun t : State => (t.dom 9).target) (h 0 0 0x200 0 State.reset)) (by decide)

/-- The values after a write of an RW register that takes the value: the commit of its LO word, then its own. -/
theorem regWrite_wr {q i : Nat} {b : Blk} {r : RegDef} {v : Word} {s : State} (hacc : r.acc = .rw) (hlow : isRwLow b r.off = false)
    (hquiet : Quiet b r.off) (htakes : wholeTakes s b i r.off (wordAfter s b i r v) = true) (k : Nat) (d : Word) :
    (regWrite q b i r v s).wr k d =
      if k = keyOf s b i r.off then wordAfter s b i r v
      else (commitLow q b i r.off (if (merge b r.off (fieldsOf s.variant b i r) (s.wr (keyOf s b i r.off) (resetOf s b i r)) v).2 = true
        then bump cntBadValues s else s)).wr k d := by
  have hdom : ¬ (b = .hub ∧ r.off = 0x44 ∧ (!s.allDark) = true) := fun ⟨hb, ho, _⟩ => not_quiet_domEnable (hb ▸ ho ▸ hquiet)
  unfold regWrite
  dsimp only
  rw [if_neg (by simp [hlow]), if_neg (by simpa [wordAfter] using htakes), if_neg hdom, if_pos hacc, hquiet]
  cases statusDom b i r.off with
  | none => exact store_wr ..
  | some j => exact (crossOpen_wr ..).trans (store_wr ..)

theorem commitLow_of_none {q i : Nat} {b : Blk} {off : Nat} (h : rwLow b off = none) (s : State) : commitLow q b i off s = s := by
  simp [commitLow, h]

/-- A write without side effects stores the value under its key and no other. -/
theorem regWrite_wr_of_quiet {q i : Nat} {b : Blk} {r : RegDef} {v : Word} {s : State} (hacc : r.acc = .rw) (hlow : isRwLow b r.off = false)
    (hnone : rwLow b r.off = none) (hquiet : Quiet b r.off) (htakes : wholeTakes s b i r.off (wordAfter s b i r v) = true) (k : Nat) (d : Word) :
    (regWrite q b i r v s).wr k d = if k = keyOf s b i r.off then wordAfter s b i r v else s.wr k d := by
  rw [regWrite_wr hacc hlow hquiet htakes, commitLow_of_none hnone, ite_bump_wr]

/-- A requester that the register's privilege lets through reaches it. -/
theorem guardedWrite_through {q off i : Nat} {b : Blk} {r : RegDef} (v : Word) (s : State) (hacc : r.acc = .rw)
    (h : r.priv = .any ∨ r.priv = .p ∧ privileged q = true) : guardedWrite q off b i r v s = regWrite q b i r v s := by
  rcases h with hp | ⟨hp, hq⟩ <;> simp [guardedWrite, hp, hacc, *]

/-! ### The registers of the blocks -/

theorem priv_of_sq {b : Blk} {r : RegDef} (hr : r ∈ b.regs) (h : r.acc = .sq) : r.priv = .p ∨ r.priv = .any := by
  have hall : ∀ r ∈ b.regs, r.acc = .sq → r.priv = .p ∨ r.priv = .any := by cases b <;> decide
  exact hall r hr h

/-- A LO word of a pair is an RW register of privilege P that acts at once. -/
theorem row_of_isRwLow {b : Blk} {r : RegDef} (hr : r ∈ b.regs) (h : isRwLow b r.off = true) : r.acc = .rw ∧ r.priv = .p := by
  have hall : ∀ r ∈ b.regs, isRwLow b r.off = true → r.acc = .rw ∧ r.priv = .p := by cases b <;> decide
  exact hall r hr h

theorem row_of_rwLow {b : Blk} {r : RegDef} {lo : Nat} (hr : r ∈ b.regs) (h : rwLow b r.off = some lo) :
    b = .rg ∧ r.acc = .rw ∧ r.priv = .p ∧ isRwLow b r.off = false ∧ r.off = lo + 4 ∧ lo ∈ [0x8, 0x28, 0x30] := by
  have hall : ∀ r ∈ b.regs, ∀ lo, rwLow b r.off = some lo →
      b = .rg ∧ r.acc = .rw ∧ r.priv = .p ∧ isRwLow b r.off = false ∧ r.off = lo + 4 ∧ lo ∈ [0x8, 0x28, 0x30] := by
    intro r hr lo hlo
    have : ∀ r ∈ b.regs, (rwLow b r.off).all (fun lo => decide (b = .rg ∧ r.acc = .rw ∧ r.priv = .p ∧ isRwLow b r.off = false ∧ r.off = lo + 4 ∧
      lo ∈ [0x8, 0x28, 0x30])) = true := by cases b <;> decide
    simpa [hlo] using this r hr
  exact hall r hr lo h

/-! ### Writes of BAR0 -/

theorem barUse_of_reaches {s : State} {f : Nat} (rd : Bool) (k : State → State) (h : HostReaches s f) : barUse f rd k s = k (traffic s) := by
  simp [barUse, h.power, h.link, h.there, h.mse, h.awake, h.flr]

theorem wordAfter_traffic (s : State) (b : Blk) (i : Nat) (r : RegDef) (v : Word) : wordAfter (traffic s) b i r v = wordAfter s b i r v := rfl
theorem keyOf_traffic (s : State) (b : Blk) (i off : Nat) : keyOf (traffic s) b i off = keyOf s b i off := rfl
theorem resetOf_traffic (s : State) (b : Blk) (i : Nat) (r : RegDef) : resetOf (traffic s) b i r = resetOf s b i r := rfl

theorem regIs_of_regAt {s : State} {off i : Nat} {b : Blk} {r : RegDef} (hr : RegAt s off b i r) (p : Blk → RegDef → Bool) :
    regIs s off p = p b r := by
  simp [regIs, hr.found]

theorem RegAt.mem {s : State} {off i : Nat} {b : Blk} {r : RegDef} (hr : RegAt s off b i r) : r ∈ b.regs := (findReg_place hr.found).1

/-- A write of an RW register without side effects (R74, R92). -/
theorem runs_registerWrite_quiet {s : State} {f off i : Nat} {b : Blk} {r : RegDef} {v : Word} (hf : f < 2) (hs : HostReaches s f)
    (hr : RegAt s off b i r) (hacc : r.acc = .rw) (hpriv : r.priv = .any ∨ r.priv = .p ∧ f = 0) (hlow : isRwLow b r.off = false)
    (hnone : rwLow b r.off = none) (hquiet : Quiet b r.off) (htakes : wholeTakes s b i r.off (wordAfter s b i r v) = true) :
    Runs (.registerWrite f off v) s fun t => t.wr (keyOf s b i r.off) (resetOf s b i r) = wordAfter s b i r v ∧
      ∀ k d, k ≠ keyOf s b i r.off → t.wr k d = s.wr k d := by
  have hthrough : r.priv = .any ∨ r.priv = .p ∧ privileged f = true := hpriv.imp_right fun ⟨hp, h0⟩ => ⟨hp, by simp [h0, privileged]⟩
  refine ⟨_, rfl, ?_⟩
  have hwr := regWrite_wr_of_quiet (q := f) (s := traffic s) (v := v) hacc hlow hnone hquiet htakes
  rw [mainOn_hostWrite v hs hr, guardedWrite_through v _ hacc hthrough]
  exact ⟨(hwr _ _).trans (if_pos rfl), fun k d hk => (hwr k d).trans (if_neg hk)⟩

/-- A write of the loupe, where the window is open, of an RW register without side effects (R133). -/
theorem runs_loupeWrite_quiet {s : State} {off i : Nat} {b : Blk} {r : RegDef} {v : Word} (hp : s.power = .on) (h15 : s.isOn 15 = true)
    (hd : s.dbgen = true) (hw : s.pres.window ≠ none) (hr : RegAt s off b i r) (hacc : r.acc = .rw) (hpriv : r.priv = .p)
    (hlow : isRwLow b r.off = false) (hnone : rwLow b r.off = none) (hquiet : Quiet b r.off)
    (htakes : wholeTakes s b i r.off (wordAfter s b i r v) = true) :
    Runs (.loupeRegisterAccess off true v) s fun t => t.wr (keyOf s b i r.off) (resetOf s b i r) = wordAfter s b i r v := by
  have hwin : ¬ s.pres.window.isNone = true := by simpa using hw
  have hacts : loupeAccess off true v s = regWrite 2 b i r v s := by
    rw [← guardedWrite_through (q := 2) (off := off) v s hacc (.inr ⟨hpriv, rfl⟩), ← busWrite_of_regAt 2 v hr]
    simp [loupeAccess, hp, h15, hd, hw]
  refine runs_mainOn rfl hp ?_
  rw [hacts, regWrite_wr_of_quiet hacc hlow hnone hquiet htakes, if_pos rfl]

/-- The LO word of a pair is held until its HI word is written (R88). -/
theorem runs_splitLoWrite {s : State} {off i : Nat} {b : Blk} {r : RegDef} {v : Word} (hs : HostReaches s 0) (hr : RegAt s off b i r)
    (hlow : isRwLow b r.off = true) : Runs (.splitLoWrite 0 off v) s fun t =>
      t.regs.held.get (reqKey (keyOf s b i r.off) 0) 0 = wordAfter s b i r v ∧ t.regs.val = s.regs.val := by
  obtain ⟨hacc, hpriv⟩ := row_of_isRwLow hr.mem hlow
  refine ⟨_, rfl, ?_⟩
  rw [regIs_of_regAt hr, if_pos hlow, mainOn_hostWrite v hs hr, guardedWrite_through v _ hacc (.inr ⟨hpriv, rfl⟩)]
  unfold regWrite
  dsimp only
  rw [if_pos hlow]
  exact ⟨Tab.get_put_same .., rfl⟩

/-- The key of a pair's LO word is not that of its HI word. -/
theorem keyOf_lo_ne {s : State} {i lo hi : Nat} (hmem : lo ∈ [0x8, 0x28, 0x30]) (hhi : hi = lo + 4) : keyOf s .rg i lo ≠ keyOf s .rg i hi := by
  subst hhi
  have hsel : selOf s .rg i lo = selOf s .rg i (lo + 4) := by
    simp only [List.mem_cons, List.not_mem_nil, or_false] at hmem
    rcases hmem with rfl | rfl | rfl <;> rfl
  have hhome : homeOf .rg i (lo + 4) = homeOf .rg i lo + 4 := by simp [homeOf, Blk.addr, Nat.add_assoc]
  simp only [keyOf, selKey, hsel, hhome]
  omega

theorem commitLow_wr {q i lo : Nat} {b : Blk} {off : Nat} {u : State} {k : Nat} {w d : Word} (hlo : rwLow b off = some lo)
    (hheld : u.regs.held.find (reqKey k q) = some w) (hk : keyOf u b i lo = k) : (commitLow q b i off u).wr k d = w := by
  subst hk
  simp only [commitLow, hlo, hheld]
  exact putNow_wr_same ..

/-- The HI word of a pair commits the LO word that its requester holds, and its own value (R88). -/
theorem runs_splitHiWrite {s : State} {off i lo : Nat} {b : Blk} {r : RegDef} {v w : Word} (hs : HostReaches s 0) (hr : RegAt s off b i r)
    (hlo : rwLow b r.off = some lo) (hheld : s.regs.held.find (reqKey (keyOf s b i lo) 0) = some w) : Runs (.splitHiWrite 0 off v) s fun t =>
      t.wr (keyOf s b i lo) 0 = w ∧ t.wr (keyOf s b i r.off) (resetOf s b i r) = wordAfter s b i r v := by
  obtain ⟨rfl, hacc, hpriv, hlow, hoff, hmem⟩ := row_of_rwLow hr.mem hlo
  have hquiet : Quiet .rg r.off := by
    rw [hoff]
    simp only [List.mem_cons, List.not_mem_nil, or_false] at hmem
    rcases hmem with rfl | rfl | rfl <;> exact fun _ _ _ _ _ => rfl
  have htakes : wholeTakes (traffic s) .rg i r.off (wordAfter (traffic s) .rg i r v) = true := rfl
  have hwr := regWrite_wr (q := 0) hacc hlow hquiet htakes
  refine ⟨_, rfl, ?_⟩
  rw [regIs_of_regAt hr, if_pos (by simp [hlo]), mainOn_hostWrite v hs hr, guardedWrite_through v _ hacc (.inr ⟨hpriv, rfl⟩)]
  refine ⟨?_, (hwr _ _).trans (if_pos rfl)⟩
  rw [hwr, if_neg (by rw [keyOf_traffic]; exact keyOf_lo_ne hmem hoff)]
  exact commitLow_wr hlo (by split <;> exact hheld) (by split <;> rfl)

/-- An SQ acknowledge of the count that the snapshot holds clears the bits it names, up to that count (R83). -/
theorem runs_sqAckWrite {s : State} {off i n : Nat} {b : Blk} {r : RegDef} {v : Word} (hs : HostReaches s 0) (hr : RegAt s off b i r)
    (hacc : r.acc = .sq) (hsnap : s.regs.snap.find (keyOf s b i r.off) = some n) (hn : fld v 24 8 = n % 256) :
    Runs (.sqAckWrite 0 off v) s fun t =>
      (∀ e, e ∈ t.regs.sqBit ↔ e ∈ s.regs.sqBit ∧
        ¬ (e.1 / 32 = keyOf s b i r.off ∧ bitOf v (e.1 % 32) = true ∧ e.1 % 32 < 24 ∧ e.2 ≤ n)) ∧
      t.regs.snap.find (keyOf s b i r.off) = none ∧ t.regs.sqN = s.regs.sqN := by
  have hguard : guardedWrite 0 off b i r v (traffic s) = sqWrite 0 (keyOf s b i r.off) v (traffic s) := by
    rcases priv_of_sq hr.mem hacc with hp | hp <;> simp [guardedWrite, hp, hacc, privileged, keyOf_traffic]
  have hsq : sqWrite 0 (keyOf s b i r.off) v (traffic s) = { traffic s with regs := { s.regs with
      sqBit := s.regs.sqBit.filter fun e => !(e.1 / 32 == keyOf s b i r.off && bitOf v (e.1 % 32) && decide (e.1 % 32 < 24) && decide (e.2 ≤ n)),
      snap := s.regs.snap.del (keyOf s b i r.off) } } := by
    simp [sqWrite, hsnap, hn, privileged]
  refine ⟨_, rfl, ?_⟩
  rw [regIs_of_regAt hr, if_pos (by simp [hacc]), mainOn_hostWrite v hs hr, hguard, hsq]
  refine ⟨fun e => ?_, Tab.find_del_same .., rfl⟩
  rw [List.mem_filter]
  refine and_congr_right fun _ => ?_
  simp only [Bool.not_eq_true', ← Bool.not_eq_true, Bool.and_eq_true, beq_iff_eq, decide_eq_true_eq, and_assoc]

theorem runs_sheetRegionWrite {s : State} {f off : Nat} {v : Word} (hs : HostReaches s f) (ho : off < 0x40000) :
    Runs (.sheetRegionWrite f off v) s fun t => t.sheet = s.sheet ∧ Counted s t 0x40008 ∧ t.regs.val = s.regs.val := by
  have hin : inSheet off = true := decide_eq_true ho
  refine runs_mainOn rfl hs.power ?_
  rw [if_pos hin, hostWrite_of_reaches off v hs, busWrite, if_pos hin]
  exact ⟨rfl, counted_bump_traffic .., rfl⟩

theorem reachReg_of_none {s : State} {off : Nat} (h : findReg s.variant off = none) : reachReg s off = none := by
  simp [reachReg, h]

theorem runs_undefinedWrite {s : State} {f off : Nat} {v : Word} (hs : HostReaches s f) (ho : 0x40000 ≤ off) (hn : findReg s.variant off = none) :
    Runs (.undefinedOffsetAccess f off true v) s fun t => Counted s t 0x4103C ∧ t.regs.val = s.regs.val ∧ t.tx = s.tx := by
  have hin : inSheet off = false := decide_eq_false (by omega)
  have hbus : busWrite f off v (traffic s) = bump cntUndef (traffic s) := by
    simp [busWrite, hin, reachReg_of_none (s := traffic s) hn]
  refine runs_mainOn rfl hs.power ?_
  rw [if_neg (by simp [hin, reachReg_of_none hn]), if_pos rfl, hostWrite_of_reaches off v hs, hbus]
  exact ⟨counted_bump_traffic cntUndef s, rfl, rfl⟩

theorem runs_unsupportedRequest {s : State} {f : Nat} {isRead : Bool} (hs : HostReaches s f) : Runs (.unsupportedRequest f isRead) s fun t =>
    Counted s t 0x41040 ∧ t.tx = .aer f aerUr (aerSeverity s f aerUr isRead) :: .ur isRead :: s.tx ∧ t.regs.val = s.regs.val := by
  refine runs_mainOn rfl hs.power ?_
  rw [unsupported, barUse_of_reaches _ _ hs]
  exact ⟨bumpBy_cnt .., rfl, rfl⟩

/-- Settles O3: what each kind of write stores, clears, holds or only counts. -/
theorem registerWritesComplete : Obligations.RegisterWritesComplete :=
  ⟨fun _ _ _ _ _ _ _ hf hs hr hacc hpriv hlow hnone hquiet htakes => runs_registerWrite_quiet hf hs hr hacc hpriv hlow hnone hquiet htakes,
    fun _ _ _ _ hs ho => runs_sheetRegionWrite hs ho,
    fun _ _ _ _ _ _ _ hs hr hacc hsnap hn => runs_sqAckWrite hs hr hacc hsnap hn,
    fun _ _ _ _ _ _ hs hr hlow => runs_splitLoWrite hs hr hlow,
    fun _ _ _ _ _ _ _ _ hs hr hlo hheld => runs_splitHiWrite hs hr hlo hheld,
    fun _ _ _ _ hs ho hn => runs_undefinedWrite hs ho hn,
    fun _ _ _ hs => runs_unsupportedRequest hs,
    fun _ _ _ _ _ _ hp h15 hd hw hr hacc hpriv hlow hnone hquiet htakes => runs_loupeWrite_quiet hp h15 hd hw hr hacc hpriv hlow hnone hquiet htakes⟩

/-! ### Reads of BAR0 -/

theorem busRead_of_regAt {s : State} {q off i : Nat} {b : Blk} {r : RegDef} (hr : RegAt s off b i r) (hq : privileged q = true) :
    busRead q off s = regRead q b i r s := by
  have hsheet : inSheet off = false := decide_eq_false (Nat.not_lt.mpr hr.high)
  simp [busRead, hsheet, reachReg_of_regAt hr, hq]

theorem mainOn_hostRead {s : State} {off i : Nat} {b : Blk} {r : RegDef} (hs : HostReaches s 0) (hr : RegAt s off b i r) :
    mainOn s (hostRead 0 off s) = send (.reply off (regRead 0 b i r (traffic s)).1) (regRead 0 b i r (traffic s)).2 := by
  rw [mainOn_of_on _ hs.power, hostRead, barUse_of_reaches _ _ hs, busRead_of_regAt hr.traffic rfl]

/-- The shadows that a read of a register takes for requester `q` (R87). -/
def takeShadows (q : Nat) (b : Blk) (i off : Nat) (s : State) : State :=
  (shadowsOf s b i off).foldl (fun s (e : Nat × Word) =>
    { s with regs := { s.regs with shadow := s.regs.shadow.put (reqKey e.1 q) e.2 } }) s

/-- The shadows are all that it changes. -/
theorem takeShadows_same (q : Nat) (b : Blk) (i off : Nat) (s : State) :
    takeShadows q b i off s = { s with regs := { s.regs with shadow := (takeShadows q b i off s).regs.shadow } } := by
  unfold takeShadows
  generalize shadowsOf s b i off = l
  induction l generalizing s with
  | nil => rfl
  | cons e l ih => exact ih _

theorem regRead_privileged {s : State} {i q : Nat} {b : Blk} {r : RegDef} (hsh : isShadow b r.off = false) (hq : q ≠ 1) :
    regRead q b i r s = (regValue s b i r, readClears b i r (takeShadows q b i r.off s)) := by
  simp [regRead, hsh, hq, takeShadows]

@[simp] theorem readClears_tx (b : Blk) (i : Nat) (r : RegDef) (s : State) : (readClears b i r s).tx = s.tx := by
  unfold readClears
  dsimp only
  cases r.acc
  case ro => dsimp only; split <;> rfl
  all_goals rfl

@[simp] theorem readClears_shadow (b : Blk) (i : Nat) (r : RegDef) (s : State) : (readClears b i r s).regs.shadow = s.regs.shadow := by
  unfold readClears
  dsimp only
  cases r.acc
  case ro => dsimp only; split <;> rfl
  all_goals rfl

theorem rcBits_traffic (s : State) (b : Blk) (i off : Nat) : rcBits (traffic s) b i off = rcBits s b i off := rfl
theorem takeShadows_tx (q : Nat) (b : Blk) (i off : Nat) (s : State) : (takeShadows q b i off s).tx = s.tx := by rw [takeShadows_same]
theorem takeShadows_keyOf (q : Nat) (b : Blk) (i off k : Nat) (s : State) : keyOf (takeShadows q b i off s) b i k = keyOf s b i k := by
  rw [takeShadows_same]; rfl
theorem takeShadows_rcBits (q : Nat) (b : Blk) (i off k : Nat) (s : State) : rcBits (takeShadows q b i off s) b i k = rcBits s b i k := by
  rw [takeShadows_same]; rfl

/-- A privileged read answers the register's value and then clears what the read clears (R84-R87). -/
theorem mainOn_hostRead_value {s : State} {off i : Nat} {b : Blk} {r : RegDef} (hs : HostReaches s 0) (hr : RegAt s off b i r)
    (hsh : isShadow b r.off = false) :
    mainOn s (hostRead 0 off s) = send (.reply off (regValue s b i r)) (readClears b i r (takeShadows 0 b i r.off (traffic s))) := by
  rw [mainOn_hostRead hs hr, regRead_privileged hsh (by decide)]
  rfl

theorem send_tx (m : Tx) (s : State) : (send m s).tx = m :: s.tx := rfl

theorem read_tx (off i : Nat) (b : Blk) (r : RegDef) (w : Word) (s : State) :
    (send (.reply off w) (readClears b i r (takeShadows 0 b i r.off (traffic s)))).tx = .reply off w :: s.tx := by
  rw [send_tx, readClears_tx, takeShadows_tx]
  rfl

/-! ### The registers of the blocks that a read clears -/

theorem row_of_sq {b : Blk} {r : RegDef} (hr : r ∈ b.regs) (h : r.acc = .sq) : isShadow b r.off = false := by
  have hall : ∀ r ∈ b.regs, r.acc = .sq → isShadow b r.off = false := by cases b <;> decide
  exact hall r hr h

theorem row_of_hasRc {b : Blk} {r : RegDef} (hr : r ∈ b.regs) (h : hasRc b r = true) :
    isShadow b r.off = false ∧ (r.acc = .rc ∨ r.acc = .ro ∧ ¬ (b = .dv ∧ r.off = 0x30)) := by
  have hall : ∀ r ∈ b.regs, hasRc b r = true → isShadow b r.off = false ∧ (r.acc = .rc ∨ r.acc = .ro ∧ ¬ (b = .dv ∧ r.off = 0x30)) := by
    cases b <;> decide
  exact hall r hr h

theorem row_of_hasCnt {b : Blk} {r : RegDef} (hr : r ∈ b.regs) (h : hasCnt b r = true) :
    isShadow b r.off = false ∧ (r.acc = .cnt ∨ r.acc = .ro ∧ b = .dv ∧ r.off = 0x30) := by
  have hall : ∀ r ∈ b.regs, hasCnt b r = true → isShadow b r.off = false ∧ (r.acc = .cnt ∨ r.acc = .ro ∧ b = .dv ∧ r.off = 0x30) := by
    cases b <;> decide
  exact hall r hr h

theorem regValue_sq (s : State) {b : Blk} (i : Nat) {r : RegDef} (h : r.acc = .sq) : regValue s b i r = sqWord s (keyOf s b i r.off) := by
  simp [regValue, h]

/-- An SQ register answers its word and keeps a snapshot of its count (R83). -/
theorem runs_sqRead {s : State} {off i : Nat} {b : Blk} {r : RegDef} (hs : HostReaches s 0) (hr : RegAt s off b i r) (hacc : r.acc = .sq) :
    Runs (.sqRead 0 off) s fun t => t.tx = .reply off (sqWord s (keyOf s b i r.off)) :: s.tx ∧
      t.regs.snap.get (keyOf s b i r.off) 0 = s.regs.sqN.get (keyOf s b i r.off) 0 ∧ t.regs.sqBit = s.regs.sqBit := by
  refine ⟨_, rfl, ?_⟩
  rw [regIs_of_regAt hr, if_pos (by simp [hacc]), mainOn_hostRead_value hs hr (row_of_sq hr.mem hacc)]
  refine ⟨(read_tx ..).trans (by rw [regValue_sq s i hacc]), ?_, ?_⟩ <;>
    simp only [readClears, hacc, takeShadows_keyOf, keyOf_traffic, send] <;> rw [takeShadows_same]
  · exact Tab.get_put_same ..
  · rfl

theorem runs_rcRead {s : State} {off i : Nat} {b : Blk} {r : RegDef} (hs : HostReaches s 0) (hr : RegAt s off b i r) (hrc : hasRc b r = true) :
    Runs (.rcRead 0 off) s fun t => t.tx = .reply off (regValue s b i r) :: s.tx ∧
      t.regs.rc.get (keyOf s b i r.off) 0 &&& rcBits s b i r.off = 0 := by
  obtain ⟨hsh, hacc⟩ := row_of_hasRc hr.mem hrc
  have hplain : plainRead s off = true := by simp [plainRead, regIs_of_regAt hr, hrc]
  refine ⟨_, rfl, ?_⟩
  rw [if_pos hplain, mainOn_hostRead_value hs hr hsh]
  refine ⟨read_tx .., ?_⟩
  rcases hacc with hacc | ⟨hacc, hno⟩
  · simp only [readClears, hacc, takeShadows_keyOf, keyOf_traffic, send]
    simp [Tab.get]
  · simp only [readClears, hacc, if_neg hno, takeShadows_keyOf, takeShadows_rcBits, keyOf_traffic, send]
    rw [Tab.get_put_same, rcBits_traffic]
    exact BitVec.eq_of_getLsbD_eq fun k hk => by simp

theorem runs_cntRead {s : State} {off i : Nat} {b : Blk} {r : RegDef} (hs : HostReaches s 0) (hr : RegAt s off b i r) (hcnt : hasCnt b r = true) :
    Runs (.cntRead 0 off) s fun t => t.tx = .reply off (regValue s b i r) :: s.tx ∧ t.regs.cnt.get (keyOf s b i r.off) 0 = 0 := by
  obtain ⟨hsh, hacc⟩ := row_of_hasCnt hr.mem hcnt
  refine ⟨_, rfl, ?_⟩
  rw [regIs_of_regAt hr, if_pos hcnt, mainOn_hostRead_value hs hr hsh]
  refine ⟨read_tx .., ?_⟩
  rcases hacc with hacc | ⟨hacc, hdv, hoff⟩
  · simp only [readClears, hacc, takeShadows_keyOf, keyOf_traffic, send]
    split
    · have hne : keyOf s b i r.off ≠ selKey (keyOf s b i r.off) 1 := by simp [selKey]
      simp [Tab.get, Tab.find_del_other _ hne]
    · simp [Tab.get]
  · simp only [readClears, hacc, if_pos (And.intro hdv hoff), takeShadows_keyOf, keyOf_traffic, send]
    simp [Tab.get]

theorem findReg_lt {v : Variant} {a i : Nat} {b : Blk} {r : RegDef} (h : findReg v a = some (b, i, r)) : i < b.count v := by
  obtain ⟨b', -, hb⟩ := List.exists_of_findSome?_eq_some h
  split at hb
  case isFalse => cases hb
  case isTrue hin =>
    obtain ⟨r', -, heq⟩ := Option.map_eq_some_iff.mp hb
    cases heq
    exact Nat.div_lt_of_lt_mul (by omega)

/-- A read of a pair's low word shadows its high word (R87); PTM's first word shadows all four of the capture (R159). -/
theorem shadowsOf_of_pair {s : State} {b : Blk} {i off v : Nat} (hv : pairValue s b i off = some v) (hsh : isShadow b off = false) :
    shadowsOf s b i off = [(b.addr i (off + 4), w32 (v / 2 ^ 32))] ∨ b = .tk ∧ off = 0x20 ∧ v = s.tk.ptmJt := by
  unfold pairValue at hv
  split at hv <;> simp only [Option.some.injEq, reduceCtorEq] at hv <;> subst hv
  case h_7 => exact .inr ⟨rfl, rfl, rfl⟩
  case h_8 => cases hsh
  all_goals exact .inl rfl

theorem takeShadows_pair {s : State} {b : Blk} {i off v : Nat} (hv : pairValue s b i off = some v) (hsh : isShadow b off = false)
    (hi : b = .tk → i = 0) : (takeShadows 0 b i off s).regs.shadow.get (reqKey (b.addr i (off + 4)) 0) 0 = w32 (v / 2 ^ 32) := by
  rcases shadowsOf_of_pair hv hsh with hone | ⟨rfl, rfl, rfl⟩
  · simp [takeShadows, hone]
  · obtain rfl := hi rfl
    have hlist : shadowsOf s .tk 0 0x20 = [(0x53024, w32 (s.tk.ptmJt / 2 ^ 32)), (0x53028, w32 s.tk.ptmHost), (0x5302C, w32 (s.tk.ptmHost / 2 ^ 32))] := rfl
    have haddr : Blk.addr .tk 0 (0x20 + 4) = 0x53024 := rfl
    rw [takeShadows, hlist, haddr]
    simp only [List.foldl_cons, List.foldl_nil]
    rw [Tab.get_put_other _ _ _ (by decide), Tab.get_put_other _ _ _ (by decide), Tab.get_put_same]

theorem runs_pairRead {s : State} {off i v : Nat} {b : Blk} {r : RegDef} (hs : HostReaches s 0) (hr : RegAt s off b i r)
    (hsh : isShadow b r.off = false) (h0 : pairValue s b 0 r.off ≠ none) (hv : pairValue s b i r.off = some v) :
    Runs (.splitLoRead 0 off) s fun t =>
      t.tx = .reply off (regValue s b i r) :: s.tx ∧ t.regs.shadow.get (reqKey (b.addr i (r.off + 4)) 0) 0 = w32 (v / 2 ^ 32) := by
  obtain ⟨v0, hv0⟩ := Option.ne_none_iff_exists'.1 h0
  have hsplit : splitWord s b r = true := by
    rcases shadowsOf_of_pair hv0 hsh with hone | ⟨hb, ho, -⟩
    · simp [splitWord, hone]
    · simp [splitWord, hb, ho, shadowsOf]
  have hi : b = .tk → i = 0 := fun hb => by
    have hlt := findReg_lt hr.found
    rw [hb] at hlt
    exact Nat.lt_one_iff.1 hlt
  refine ⟨_, rfl, ?_⟩
  rw [regIs_of_regAt hr, if_pos hsplit, mainOn_hostRead_value hs hr hsh]
  refine ⟨read_tx .., ?_⟩
  simp only [send, readClears_shadow]
  exact takeShadows_pair (s := traffic s) hv hsh hi

theorem runs_rwLowRead {s : State} {off i : Nat} {b : Blk} {r : RegDef} (hs : HostReaches s 0) (hr : RegAt s off b i r)
    (hlow : isRwLow b r.off = true) : Runs (.splitLoRead 0 off) s fun t =>
      t.tx = .reply off (s.wr (keyOf s b i r.off) (resetOf s b i r)) :: s.tx ∧ t.regs = s.regs := by
  obtain ⟨hacc, -⟩ := row_of_isRwLow hr.mem hlow
  obtain ⟨hb, hmem⟩ : b = .rg ∧ r.off ∈ [0x8, 0x28, 0x30] := by
    unfold isRwLow at hlow
    split at hlow <;> simp_all
  subst hb
  have hsh : isShadow .rg r.off = false := rfl
  have hvalue : regValue s .rg i r = s.wr (keyOf s .rg i r.off) (resetOf s .rg i r) := by simp [regValue, hacc]
  have hnone : takeShadows 0 .rg i r.off (traffic s) = traffic s := rfl
  refine ⟨_, rfl, ?_⟩
  rw [regIs_of_regAt hr, if_pos (by simp [splitWord, hlow]), mainOn_hostRead_value hs hr hsh, hvalue, hnone]
  simp only [readClears, hacc]
  exact ⟨rfl, rfl⟩

theorem runs_undefinedRead {s : State} {f off : Nat} {v : Word} (hs : HostReaches s f) (ho : 0x40000 ≤ off) (hn : findReg s.variant off = none) :
    Runs (.undefinedOffsetAccess f off false v) s fun t => Counted s t 0x4103C ∧ t.tx = .reply off 0 :: s.tx := by
  have hin : inSheet off = false := decide_eq_false (by omega)
  have hbus : busRead f off (traffic s) = (0, bump cntUndef (traffic s)) := by
    simp [busRead, hin, reachReg_of_none (s := traffic s) hn]
  refine runs_mainOn rfl hs.power ?_
  rw [if_neg (by simp [hin, reachReg_of_none hn]), if_neg (by decide), hostRead, barUse_of_reaches _ _ hs, hbus]
  exact ⟨counted_bump_traffic cntUndef s, rfl⟩

theorem runs_loupeSqRead {s : State} {off i : Nat} {v : Word} {b : Blk} {r : RegDef} (hp : s.power = .on) (h15 : s.isOn 15 = true)
    (hd : s.dbgen = true) (hw : s.pres.window ≠ none) (hr : RegAt s off b i r) (hacc : r.acc = .sq) :
    Runs (.loupeRegisterAccess off false v) s fun t => t.tx = .reply off (sqWord s (keyOf s b i r.off)) :: s.tx := by
  have hacts : loupeAccess off false v s =
      send (.reply off (regValue s b i r)) (readClears b i r (takeShadows 2 b i r.off s)) := by
    have hread := (busRead_of_regAt (q := 2) hr rfl).trans (regRead_privileged (row_of_sq hr.mem hacc) (by decide))
    simp [loupeAccess, hp, h15, hd, hw, hread]
  refine runs_mainOn rfl hp ?_
  rw [hacts, send_tx, readClears_tx, takeShadows_tx, regValue_sq s i hacc]

/-- Settles O4: what each kind of read answers, and what a privileged one clears. -/
theorem registerReadsComplete : Obligations.RegisterReadsComplete :=
  ⟨fun _ _ _ _ _ hs hr hacc => runs_sqRead hs hr hacc, fun _ _ _ _ _ hs hr hrc => runs_rcRead hs hr hrc,
    fun _ _ _ _ _ hs hr hcnt => runs_cntRead hs hr hcnt, fun _ _ _ _ _ _ hs hr hsh h0 hv => runs_pairRead hs hr hsh h0 hv,
    fun _ _ _ _ _ hs hr hlow => runs_rwLowRead hs hr hlow, fun _ _ _ _ hs ho hn => runs_undefinedRead hs ho hn,
    fun _ _ _ _ _ _ hp h15 hd hw hr hacc => runs_loupeSqRead hp h15 hd hw hr hacc⟩

end Sys2Proof.Machine
end

section
/-!
SUPPORT. MSI-X, BAR2 and PTM (chapter 06); O12.
-/
namespace Sys2Proof.Machine

/-! ### MSI-X -/

@[simp] theorem traffic_fn (s : State) (f : Nat) : (traffic s).fn f = s.fn f := rfl
@[simp] theorem traffic_setFn_fn (s : State) (f : Nat) (x : Fn) : (traffic (s.setFn f x)).fn f = x := State.setFn_same ..
@[simp] theorem setFn_link (s : State) (f : Nat) (x : Fn) : (s.setFn f x).hl.link = s.hl.link := rfl

theorem flushVector_unpending {s : State} {f v : Nat} (h : (s.fn f).pba.has v = false) : flushVector f v s = s := by
  simp [flushVector, h]

/-- A pending vector that may be sent, and is not one of those spaced, is sent and no longer pending (R192, R194). -/
theorem flushVector_sent {s : State} {f v : Nat} (hp : (s.fn f).pba.has v = true) (hc : s.canSend f = true) (hm : (s.fn f).masked v = false)
    (hv : f ≠ 0 ∨ v < 12) : flushVector f v s =
      send (.msix f v (((s.fn f).table.get (4 * v) 0).toNat + 2 ^ 32 * ((s.fn f).table.get (4 * v + 1) 0).toNat) ((s.fn f).table.get (4 * v + 2) 0)
        (s.attr f)) (traffic (s.setFn f { s.fn f with pba := (s.fn f).pba.del v })) := by
  have hspaced : ¬ (f = 0 ∧ 12 ≤ v) := by omega
  simp [flushVector, signal, hp, hc, hm, hspaced]

/-- The state after an unmask of vector `v`, before what was pending goes (R192). -/
def unmasked (f v : Nat) (s : State) : State :=
  s.setFn f { s.fn f with table := (s.fn f).table.put (4 * v + 3) (((s.fn f).table.get (4 * v + 3) 1) &&& 0xFFFFFFFE) }

theorem msixUnmask_of_exists {s : State} {f v : Nat} (h : fnExists s f = true) : msixUnmask f v s = flushVector f v (unmasked f v s) := by
  simp [msixUnmask, h, unmasked]

theorem unmasked_masked (f v : Nat) (s : State) : ((unmasked f v s).fn f).masked v = false := by
  simp [unmasked, Fn.masked, bitOf]

theorem unmasked_canSend (f v : Nat) (s : State) : (unmasked f v s).canSend f = s.canSend f := by
  simp [unmasked, State.canSend]

theorem runs_msixUnmask_pending {s : State} {f v : Nat} (hp : s.power = .on) (he : fnExists s f = true) (hv : (s.fn f).pba.has v = true)
    (hc : s.canSend f = true) (hf : f ≠ 0 ∨ v < 12) : Runs (.msixUnmask f v) s fun t => (t.fn f).masked v = false ∧ (t.fn f).pba.has v = false ∧
      t.tx = .msix f v (((s.fn f).table.get (4 * v) 0).toNat + 2 ^ 32 * ((s.fn f).table.get (4 * v + 1) 0).toNat)
        ((s.fn f).table.get (4 * v + 2) 0) { tc := 0, relaxed := false, noSnoop := false, ecrc := (s.fn f).ecrcGen } :: s.tx := by
  have hmask := unmasked_masked f v s
  refine runs_mainOn rfl hp ?_
  rw [msixUnmask_of_exists he, flushVector_sent (by simpa [unmasked] using hv) ((unmasked_canSend f v s).trans hc) hmask hf]
  refine ⟨?_, ?_, ?_⟩
  · rw [send_fn, traffic_setFn_fn]
    exact hmask
  · simp [Tab.has]
  · rw [send_tx]
    simp [unmasked, State.attr, Tab.get_put]

theorem runs_msixUnmask_idle {s : State} {f v : Nat} (hp : s.power = .on) (he : fnExists s f = true) (hv : (s.fn f).pba.has v = false) :
    Runs (.msixUnmask f v) s fun t => (t.fn f).masked v = false ∧ t.tx = s.tx := by
  refine runs_mainOn rfl hp ?_
  rw [msixUnmask_of_exists he, flushVector_unpending (by simpa [unmasked] using hv)]
  exact ⟨unmasked_masked f v s, rfl⟩

theorem runs_vectorIntervalEnd {s : State} {v at_ : Nat} (hp : s.power = .on) (hs : s.hl.spaced.find v = some at_) (hv : (s.fn 0).pba.has v = false) :
    Runs (.vectorIntervalEnd v) s fun t => t.hl.spaced.find v = none ∧ t.tx = s.tx := by
  have hend : vectorIntervalEnd v s = { advanceClk (at_ + 10000) s with
      hl := { (advanceClk (at_ + 10000) s).hl with spaced := s.hl.spaced.del v } } := by
    simp only [vectorIntervalEnd, hs, advanceClk_hl]
    exact flushVector_unpending hv
  refine runs_mainOn rfl hp ?_
  rw [hend]
  exact ⟨Tab.find_del_same .., advanceClk_tx ..⟩

/-! ### BAR2 -/

theorem table_dword_aligned {f k : Nat} (h : k < 4 * msixEntries f) : 4 * k + 4 ≤ 16 * msixEntries f ∧ k < 1024 := by
  have : msixEntries f ≤ 64 := by unfold msixEntries; split <;> omega
  omega

theorem runs_bar2Write {s : State} {f k w : Nat} (hs : HostReaches s f) (hk : k < 4 * msixEntries f) (h3 : k % 4 ≠ 3) :
    Runs (.bar2Access f (4 * k) 4 true w) s fun t => (t.fn f).table.get k 0 = w32 w ∧ t.tx = s.tx := by
  have hin := (table_dword_aligned hk).1
  have hacts : bar2Access f (4 * k) 4 true w (traffic s) = (traffic s).setFn f { s.fn f with table := (s.fn f).table.put k (w32 w) } := by
    simp [bar2Access, hin, bar2Write, h3]
  refine runs_mainOn rfl hs.power ?_
  rw [barUse_of_reaches _ _ hs, hacts]
  exact ⟨by simp, rfl⟩

theorem runs_bar2Read {s : State} {f k v : Nat} (hs : HostReaches s f) (hk : k < 4 * msixEntries f) :
    Runs (.bar2Access f (4 * k) 4 false v) s fun t => t.tx = .reply (4 * k) ((s.fn f).table.get k (if k % 4 = 3 then 1 else 0)) :: s.tx := by
  obtain ⟨hin, hlow⟩ := table_dword_aligned hk
  have hacts : bar2Access f (4 * k) 4 false v (traffic s) =
      send (.reply (4 * k) ((s.fn f).table.get k (if k % 4 = 3 then 1 else 0))) (traffic s) := by
    simp [bar2Access, hin, bar2Read, show 4 * k < 0x2000 by omega]
  refine runs_mainOn rfl hs.power ?_
  rw [barUse_of_reaches _ _ hs, hacts]
  rfl

/-! ### PTM -/

theorem runs_ptmDialogStart_first {s : State} (hp : s.power = .on) (he : s.hl.ptmEn = true) (hl : s.hl.link = .up) (hd : s.hl.dialog = none)
    (ha : s.hl.ptmAt = none) : Runs .ptmDialogStart s fun t => t.hl.dialog = some (s.tk.clk, s.tk.now) ∧ t.hl.ptmAt = some s.tk.clk := by
  refine runs_mainOn rfl hp ?_
  simp [ptmDialogStart, he, hl, hd, ha]

/-- A PTM dialog that starts now (R158). -/
def dialogStarted (s : State) : State :=
  { s with hl := { s.hl with dialog := some (s.tk.clk, s.tk.now), ptmAt := some s.tk.clk, busyAt := s.tk.clk } }

theorem ptmDialogStart_of_at {s : State} {t0 : Nat} (he : s.hl.ptmEn = true) (hl : s.hl.link = .up) (hd : s.hl.dialog = none)
    (ha : s.hl.ptmAt = some t0) : ptmDialogStart s = dialogStarted (advanceClk (t0 + ptmPeriod s) s) := by
  unfold ptmDialogStart
  rw [if_pos ⟨he, hl, by rw [hd]; rfl⟩, ha]
  rfl

theorem dialogStarted_dialog (s : State) : (dialogStarted s).hl.dialog = some ((dialogStarted s).tk.clk, (dialogStarted s).tk.now) := rfl

theorem dialogStarted_clk (n : Nat) (s : State) : n ≤ (dialogStarted (advanceClk n s)).tk.clk := advanceClk_clk n s

theorem runs_ptmDialogStart_next {s : State} {t0 : Nat} (hp : s.power = .on) (he : s.hl.ptmEn = true) (hl : s.hl.link = .up)
    (hd : s.hl.dialog = none) (ha : s.hl.ptmAt = some t0) :
    Runs .ptmDialogStart s fun t => t.hl.dialog = some (t.tk.clk, t.tk.now) ∧ t0 + ptmPeriod s ≤ t.tk.clk := by
  refine runs_mainOn rfl hp ?_
  rw [ptmDialogStart_of_at he hl hd ha]
  exact ⟨dialogStarted_dialog _, dialogStarted_clk ..⟩

/-- Half of an even round trip is exact (R159). -/
theorem ptmHost_of_even {t41 t2 prop : Nat} (hp : prop ≤ t41) (he : (t41 - prop) % 2 = 0) (h2 : (t41 - prop) / 2 ≤ t2) (hb : t2 < 2 ^ 64) :
    unsigned 64 (((2 * t2 : Int) - ((t41 : Int) - prop)).fdiv 2) = t2 - (t41 - prop) / 2 := by
  have hhost : ((2 * t2 : Int) - ((t41 : Int) - prop)).fdiv 2 = ((t2 - (t41 - prop) / 2 : Nat) : Int) := by
    rw [Int.fdiv_eq_ediv_of_nonneg _ (by decide)]
    omega
  rw [hhost, unsigned, Int.emod_eq_of_lt (by omega) (by omega), Int.toNat_natCast]

theorem runs_ptmCapture {s : State} {t41 t2 prop c t1 : Nat} (hp : s.power = .on) (hd : s.hl.dialog = some (c, t1)) :
    Runs (.ptmCapture t41 t2 prop) s fun t =>
      t.hl.dialog = none ∧ t.hl.dialogs = (s.hl.dialogs + 1) % 2 ^ 32 ∧ t.tk.ptmJt = t1 ∧ t.tk.now = s.tk.now ∧
        (prop ≤ t41 → (t41 - prop) % 2 = 0 → (t41 - prop) / 2 ≤ t2 → t2 < 2 ^ 64 → t.tk.ptmHost = t2 - (t41 - prop) / 2) := by
  refine runs_mainOn rfl hp ?_
  simp only [ptmCapture, hd]
  exact ⟨trivial, rfl, trivial, rfl, fun h1 h2 h3 h4 => ptmHost_of_even h1 h2 h3 h4⟩

/-- The state at the miss of a dialog, before the miss is raised. -/
def dialogMissed (u : State) : State := { u with hl := { u.hl with dialog := none } }

theorem dialogMissed_clk (n : Nat) (s : State) : n ≤ (dialogMissed (advanceClk n s)).tk.clk := advanceClk_clk n s

theorem dialogMissed_power (u : State) : (dialogMissed u).power = u.power := rfl

theorem dialogMissed_sp (u : State) : (dialogMissed u).sp = u.sp := rfl

theorem raise_dialogMissed (u : State) : (raise .hl 0 6 1 [] (dialogMissed u)).hl.dialog = none := by
  rw [raise, raiseAs_hl HostLink.dialog fun _ _ _ _ => rfl]
  rfl

theorem ptmMiss_of_dialog {s : State} {c t1 : Nat} (hd : s.hl.dialog = some (c, t1)) :
    ptmMiss s = raise .hl 0 6 1 [] (dialogMissed (advanceClk (c + 1000000) s)) := by
  unfold ptmMiss
  rw [hd]
  rfl

theorem runs_ptmMiss {s : State} {c t1 : Nat} (hp : s.power = .on) (hd : s.hl.dialog = some (c, t1)) :
    Runs .ptmMiss s fun t => t.hl.dialog = none ∧ c + 1000000 ≤ t.tk.clk ∧ Raised s t .hl 0 6 1 [] := by
  have hpower := (dialogMissed_power _).trans ((advanceClk_power (c + 1000000) s).trans hp)
  have hmaking : (dialogMissed (advanceClk (c + 1000000) s)).sp.making = s.sp.making := by rw [dialogMissed_sp, advanceClk_sp]
  refine runs_mainOn rfl hp ?_
  rw [ptmMiss_of_dialog hd]
  refine ⟨raise_dialogMissed _, ?_, raised_raise _ _ _ _ _ hpower hmaking⟩
  rw [raise_tk]
  exact dialogMissed_clk ..

/-- Settles O12: unmasking and BAR2 act on the table and the pending bits, and a PTM dialog starts, is captured or is missed. -/
theorem messageCommandsComplete : Obligations.MessageCommandsComplete :=
  ⟨fun _ _ _ hp he hv hc hf => runs_msixUnmask_pending hp he hv hc hf, fun _ _ _ hp he hv => runs_msixUnmask_idle hp he hv,
    fun _ _ _ hp hs hv => runs_vectorIntervalEnd hp hs hv, fun _ _ _ _ hs hk h3 _ => runs_bar2Write hs hk h3,
    fun _ _ _ _ hs hk => runs_bar2Read hs hk, fun _ hp he hl hd ha => runs_ptmDialogStart_first hp he hl hd ha,
    fun _ _ hp he hl hd ha => runs_ptmDialogStart_next hp he hl hd ha, fun _ _ _ _ _ _ hp hd => runs_ptmCapture hp hd,
    fun _ _ _ hp hd => runs_ptmMiss hp hd⟩

end Sys2Proof.Machine
end

section
/-!
SUPPORT. A DMA request that was issued as more than one read (R203); O13.
-/
namespace Sys2Proof.Machine

/-- A command that completes leaves what `exec` answers. -/
theorem Runs.next {c : Instr} {s u : State} {P : State → Prop} (h : Runs c s P) (he : exec c s = .next u) : P u := by
  obtain ⟨t, ht, hP⟩ := h
  cases Host.Outcome.next.inj (he.symm.trans ht)
  exact hP

/-! ### A dead request of two reads -/

/-- A recipe fetch of 1,024 bytes, issued as two reads of 512, whose function was reset meanwhile. -/
def deadFetch : Req := { tag := 5, fn := 0, addr := 0x1000, len := 1024, issuer := .table 0, dead := true }

def awaitingDeadFetch : State := { variant := .xf6408, hl := { reqs := [deadFetch] } }

/-- Each of the two reads fails and is counted. -/
theorem dmaCompletion_counts_twice : (dmaCompletion 5 0 [] awaitingDeadFetch).regs.cnt.get 0x42014 0 = 2 := by
  decide +kernel

/-- Refutes O13: a completion of a dead request counts one error for each read that the request was issued as (R203), so that a fetch of 1,024 bytes,
two reads of 512, is counted twice. -/
theorem not_dmaAndErrorCommandsComplete : ¬ Obligations.DmaAndErrorCommandsComplete := by
  unfold Obligations.DmaAndErrorCommandsComplete
  rintro ⟨h, -⟩
  have hexec : exec (.dmaCompletion 5 0 []) awaitingDeadFetch = .next (dmaCompletion 5 0 [] awaitingDeadFetch) :=
    congrArg Host.Outcome.next (mainOn_of_on _ rfl)
  obtain ⟨hcount, -⟩ := (h awaitingDeadFetch 5 deadFetch [] rfl rfl rfl).next hexec
  rw [Counted, dmaCompletion_counts_twice] at hcount
  exact absurd hcount (by decide)

end Sys2Proof.Machine
end

section
/-!
SUPPORT. Records made and kept, and physical presence (chapter 04); O7.
-/
namespace Sys2Proof.Machine

/-! ### Records made and kept -/

/-- What was raised on the way stands raised where records have only been added since. -/
theorem Raised.mono {s u t : State} {b : Blk} {i num cls : Nat} {args : List Int} (h : Raised s u b i num cls args)
    (hut : u.sp.making <+: t.sp.making) : Raised s t b i num cls args := by
  obtain ⟨r, hr, hrest⟩ := h
  obtain ⟨l, hl⟩ := hut
  refine ⟨r, ?_, hrest⟩
  rw [← hl, List.drop_append]
  exact List.mem_append_left _ hr

/-- What was raised since `u` was raised since an earlier `s`. -/
theorem Raised.since {s u t : State} {b : Blk} {i num cls : Nat} {args : List Int} (h : Raised u t b i num cls args)
    (hsu : s.sp.making.length ≤ u.sp.making.length) : Raised s t b i num cls args := by
  obtain ⟨r, hr, hrest⟩ := h
  refine ⟨r, ?_, hrest⟩
  rw [← Nat.add_sub_cancel' hsu, ← List.drop_drop] at hr
  exact List.mem_of_mem_drop hr

/-- An event adds a record or, with main power off, nothing. -/
theorem raiseAs_making_prefix (b : Blk) (i num cls : Nat) (args : List Int) (src prod : Nat) (s : State) :
    s.sp.making <+: (raiseAs b i num cls args src prod s).sp.making := by
  by_cases hp : s.power = .on
  · rw [raiseAs_making b i num cls args src prod s hp]
    exact List.prefix_append ..
  · have hoff : raiseAs b i num cls args src prod s = s := by simp [raiseAs, hp]
    rw [hoff]

theorem raise_making_prefix (b : Blk) (i num cls : Nat) (args : List Int) (s : State) :
    s.sp.making <+: (raise b i num cls args s).sp.making := raiseAs_making_prefix ..

/-! ### The button, the window and the seal -/

/-- With main power on a wake source is at most held over for the park sequence (R831). -/
theorem wakeSource_of_on {s : State} (k : Nat) (hp : s.power = .on) :
    ∃ l, wakeSource k s = { s with sl := { s.sl with heldOver := l } } := by
  have hsame : s = { s with sl := { s.sl with heldOver := s.sl.heldOver } } := rfl
  unfold wakeSource
  split
  · exact ⟨_, hsame⟩
  · split
    case h_1 hpark => rw [hp] at hpark; cases hpark
    case h_2 =>
      split
      · exact ⟨_, rfl⟩
      · exact ⟨_, hsame⟩
    case h_3 => exact ⟨_, hsame⟩

theorem prStatus_heldOver (s : State) (l : List Nat) : prStatus { s with sl := { s.sl with heldOver := l } } = prStatus s := rfl

theorem prStatus_raise (b : Blk) (i num cls : Nat) (args : List Int) (s : State) : prStatus (raise b i num cls args s) = prStatus s := by
  simp [prStatus, sealNewest, missingPs, missingPp]

/-- A presence event carries the status it leaves. -/
theorem raised_prEvent {s u : State} (num cls : Nat) (hp : u.power = .on) (hm : u.sp.making = s.sp.making) :
    Raised s (prEvent num cls u) .pr 0 num cls [(prStatus (prEvent num cls u)).toNat] := by
  rw [prEvent, prStatus_raise]
  exact raised_raise _ _ _ _ _ hp hm

/-- The state in which a press on a running device opens the window, before its event. -/
def pressed (tick : Nat) (s : State) : State :=
  { s with sl := { s.sl with tick := max s.sl.tick (tick % 2 ^ 48), button := true }
           pres := { s.pres with pressed := true, window := some (max s.sl.tick (tick % 2 ^ 48)) } }

section
variable {s : State} {tick : Nat}

theorem pressAccepted_opens (hp : s.power = .on) (h19 : s.isOn 19 = true) (hx : s.sl.xtalOk = true) (hb : s.sl.button = false)
    (hst : s.pres.stuck = false) (hh : s.sheet.hold = false) : pressAccepted tick s = wakeSource 1 (prEvent 0x20 0 (pressed tick s)) := by
  have hpark : ¬ s.power = .parked := by simp [hp]
  refine Eq.trans (if_neg (by simp [hp, hx])) (Eq.trans (if_neg hpark) (Eq.trans (if_pos h19) (Eq.trans (if_pos ?_) rfl)))
  simp only [tickTo, hb, hst, hh, Bool.not_false, Bool.and_self]

theorem pressAccepted_held (hp : s.power = .on) (h19 : s.isOn 19 = true) (hx : s.sl.xtalOk = true) (hb : s.sl.button = true) :
    (pressAccepted tick s).pres = { s.pres with pressed := true } := by
  have hpark : ¬ s.power = .parked := by simp [hp]
  refine congrArg State.pres (Eq.trans (if_neg (by simp [hp, hx])) (Eq.trans (if_neg hpark) (Eq.trans (if_pos h19) (if_neg ?_))))
  simp [hb]

theorem pressAccepted_parked (hp : s.power = .parked) (hx : s.sl.xtalOk = true) (hb : s.sl.button = false)
    (he : bitOf (s.wr 0x51008 0xE) 1 = true) :
    pressAccepted tick s = recordWake 1 { s with sl := { s.sl with tick := max s.sl.tick (tick % 2 ^ 48), button := true } } := by
  have hen : ¬ (!wakeEnabled s 1) = true := by rw [wakeEnabled, he]; decide
  refine Eq.trans (if_neg (by simp [hp, hx])) (Eq.trans (if_pos hp) (Eq.trans (if_neg (by simp [hb])) ?_))
  refine Eq.trans (if_neg hen) ?_
  simp only [tickTo]
  rw [hp]

end

/-- A press on a running device opens the window now and raises WINDOW_OPEN with the status it leaves (R110, R111). -/
theorem runs_pressAccepted_opens {s : State} {tick : Nat} (hp : s.power = .on) (h19 : s.isOn 19 = true) (hx : s.sl.xtalOk = true)
    (hb : s.sl.button = false) (hst : s.pres.stuck = false) (hh : s.sheet.hold = false) : Runs (.pressAccepted tick) s fun t =>
      t.pres.window = some (max s.sl.tick (tick % 2 ^ 48)) ∧ t.pres.pressed = true ∧ t.sl.button = true ∧
        Raised s t .pr 0 0x20 0 [(prStatus t).toNat] := by
  obtain ⟨l, hl⟩ := wakeSource_of_on (s := prEvent 0x20 0 (pressed tick s)) 1 ((raise_power ..).trans hp)
  have hpres : (prEvent 0x20 0 (pressed tick s)).pres = (pressed tick s).pres := raise_pres ..
  have hsl : (prEvent 0x20 0 (pressed tick s)).sl = (pressed tick s).sl := raise_sl ..
  refine ⟨pressAccepted tick s, rfl, ?_⟩
  rw [pressAccepted_opens hp h19 hx hb hst hh, hl]
  refine ⟨congrArg Presence.window hpres, congrArg Presence.pressed hpres, congrArg Safelight.button hsl, ?_⟩
  rw [prStatus_heldOver]
  exact (raised_prEvent 0x20 0 (u := pressed tick s) hp rfl).mono List.prefix_rfl

theorem runs_pressAccepted_parked {s : State} {tick : Nat} (hp : s.power = .parked) (hx : s.sl.xtalOk = true) (hb : s.sl.button = false)
    (hn : s.sl.pending = false) (he : bitOf (s.wr 0x51008 0xE) 1 = true) :
    Runs (.pressAccepted tick) s fun t => t.sl.pending = true ∧ t.sl.first = 1 ∧ t.pres = s.pres := by
  refine ⟨pressAccepted tick s, rfl, ?_⟩
  rw [pressAccepted_parked hp hx hb he]
  simp [recordWake, hn]

theorem runs_windowClose {s : State} {w : Nat} (hp : s.power = .on) (hw : s.pres.window = some w) : Runs .windowClose s fun t =>
    t.pres.window = none ∧ t.sl.tick = max s.sl.tick ((w + 983040) % 2 ^ 48) ∧ Raised s t .pr 0 0x21 0 [(prStatus t).toNat] := by
  have hclose : windowClose s = prEvent 0x21 0 { tickTo (w + 983040) s with pres := { s.pres with window := none } } := by
    simp [windowClose, hw, closeWindow, tickTo]
  refine runs_mainOn rfl hp ?_
  rw [hclose]
  exact ⟨congrArg Presence.window (raise_pres ..), congrArg Safelight.tick (raise_sl ..), raised_prEvent _ _ hp rfl⟩

theorem runs_calenChange {s : State} {tick : Nat} {fitted : Bool} (hp : s.power = .on) : Runs (.calenChange tick fitted) s fun t =>
    t.pres.calen = some fitted ∧ (s.pres.calen = some (!fitted) → Raised s t .pr 0 0x22 1 [(prStatus t).toNat]) := by
  refine runs_mainOn rfl hp ?_
  rw [calenChange, if_pos hp]
  dsimp only
  by_cases hc : s.pres.calen = some (!fitted)
  · rw [if_pos (by exact hc)]
    exact ⟨congrArg Presence.calen (raise_pres ..), fun _ => raised_prEvent _ _ hp rfl⟩
  · rw [if_neg (by exact hc)]
    exact ⟨rfl, fun h => absurd h hc⟩

/-- The state that a seal sample leaves before its change is accepted. -/
def sealSampled (tick : Nat) (o : Bool) (s : State) : State :=
  { s with pres := { s.pres with sample := some o, sealOpen := some o }
           sl := { s.sl with tick := max s.sl.tick (tick % 2 ^ 48), sample := some o, seal_ := some o } }

theorem sealSample_changes {s : State} {tick : Nat} {o : Bool} (hp : s.power = .on) (hps : s.pres.sample = some o) (hss : s.sl.sample = some o)
    (hseal : s.sl.seal_ = some (!o)) : sealSample tick o s = sealChange o (sealSampled tick o s) := by
  have hoff : ¬ s.power = .off := by simp [hp]
  have hpres : (if (tickTo tick s).power = .on then { tickTo tick s with pres := { (tickTo tick s).pres with
      sample := some o, sealOpen := if (tickTo tick s).pres.sample = some o then some o else (tickTo tick s).pres.sealOpen } }
    else tickTo tick s) = { tickTo tick s with pres := { s.pres with sample := some o, sealOpen := some o } } := by
    refine Eq.trans (if_pos hp) ?_
    have hopen : (if (tickTo tick s).pres.sample = some o then some o else (tickTo tick s).pres.sealOpen) = some o := if_pos hps
    rw [hopen]
    rfl
  refine Eq.trans (if_neg hoff) ?_
  dsimp only
  rw [hpres]
  refine Eq.trans (if_pos ⟨hss, hseal⟩) (congrArg (sealChange o) ?_)
  have hseals : (if s.sl.sample = some o then some o else s.sl.seal_) = some o := if_pos hss
  exact congrArg (fun x => { sealSampled tick o s with sl := { (sealSampled tick o s).sl with seal_ := x } }) hseals

theorem sealLog_log (kind : Nat) (s : State) : ((sealLog kind s).sl.log.find (s.sl.logged % 16)) =
    some { ticks := s.sl.tick, kind, state := stateCode s, seq := s.sl.logged % 256 } := by
  unfold sealLog
  dsimp only
  rw [Tab.find_put_same]

/-- An accepted change of the seal logs its entry and raises its event; a break is also a wake source (R116, R123, R124). -/
theorem sealChange_eq {s : State} (o : Bool) (hp : s.power = .on) : ∃ u : State, u.power = .on ∧ u.pres = s.pres ∧
    u.sl = (sealLog (if o then 2 else 3) s).sl ∧ sealChange o s = if o then wakeSource 4 u else u := by
  unfold sealChange
  dsimp only
  refine ⟨_, ?_, ?_, ?_, rfl⟩
  · exact (raise_power ..).trans hp
  · exact raise_pres ..
  · exact raise_sl ..

theorem sealChange_on {s : State} (o : Bool) (hp : s.power = .on) : (sealChange o s).pres = s.pres ∧ (sealChange o s).sl.seal_ = s.sl.seal_ ∧
    (sealChange o s).sl.logged = s.sl.logged + 1 ∧ (sealChange o s).sl.log = (sealLog (if o then 2 else 3) s).sl.log := by
  obtain ⟨u, hu, hpres, hsl, heq⟩ := sealChange_eq o hp
  obtain ⟨l, hl⟩ := wakeSource_of_on 4 hu
  have hseal : u.sl.seal_ = s.sl.seal_ := by rw [hsl]; rfl
  have hlogged : u.sl.logged = s.sl.logged + 1 := by rw [hsl]; rfl
  have hlog := congrArg Safelight.log hsl
  rw [heq, hl]
  cases o
  · exact ⟨hpres, hseal, hlogged, hlog⟩
  · exact ⟨hpres, hseal, hlogged, hlog⟩

theorem runs_sealSample {s : State} {tick : Nat} {o : Bool} (hp : s.power = .on) (hps : s.pres.sample = some o) (hss : s.sl.sample = some o)
    (hseal : s.sl.seal_ = some (!o)) : Runs (.sealSample tick o) s fun t =>
      t.pres.sealOpen = some o ∧ t.sl.seal_ = some o ∧ t.sl.logged = s.sl.logged + 1 ∧
        ((t.sl.log.find (s.sl.logged % 16)).map fun e => (e.kind, e.ticks)) = some (if o then 2 else 3, max s.sl.tick (tick % 2 ^ 48)) := by
  obtain ⟨hpres, hsl, hlogged, hlog⟩ := sealChange_on (s := sealSampled tick o s) o hp
  refine ⟨sealSample tick o s, rfl, ?_⟩
  rw [sealSample_changes hp hps hss hseal]
  dsimp only
  rw [hpres, hsl, hlogged, hlog]
  refine ⟨rfl, rfl, rfl, ?_⟩
  have hlast := sealLog_log (if o = true then 2 else 3) (sealSampled tick o s)
  exact congrArg (Option.map fun e => (e.kind, e.ticks)) hlast

theorem runs_buttonStuck {s : State} {tick : Nat} (hp : s.power = .on) (h19 : s.isOn 19 = true) :
    Runs (.buttonStuck tick) s fun t => t.pres.stuck = true ∧ t.pres.pressed = true := by
  refine runs_mainOn rfl hp ?_
  rw [buttonStuck, if_pos h19]
  exact ⟨rfl, rfl⟩

theorem runs_presReleased {s : State} {tick : Nat} (hp : s.power ≠ .off) :
    Runs (.presReleased tick) s fun t => t.pres.stuck = false ∧ t.pres.pressed = false ∧ t.sl.button = false := by
  refine ⟨_, rfl, ?_⟩
  rw [presReleased, if_neg hp]
  exact ⟨rfl, rfl, rfl⟩

/-- Settles O7: what the button, the window, the jumper and the seal do. -/
theorem presenceCommandsComplete : Obligations.PresenceCommandsComplete :=
  ⟨fun _ _ hp h19 hx hb hst hh => runs_pressAccepted_opens hp h19 hx hb hst hh,
    fun _ _ hp h19 hx hb => ⟨_, rfl, pressAccepted_held hp h19 hx hb⟩,
    fun _ _ hp hx hb hn he => runs_pressAccepted_parked hp hx hb hn he, fun _ _ hp hw => runs_windowClose hp hw,
    fun _ _ _ hp => runs_calenChange hp, fun _ _ _ hp hps hss hseal => runs_sealSample hp hps hss hseal,
    fun _ _ hp h19 => runs_buttonStuck hp h19, fun _ _ hp => runs_presReleased hp⟩

end Sys2Proof.Machine
end

section
/-!
SUPPORT. What host loss asks of each channel (R238–R245); O18.
-/
namespace Sys2Proof.Machine

/-! ### Policies at host loss -/

/-- From `s` to `t` at most the channels of `l` have changed, and what says their policies stands (R240, R241). -/
structure PolicyKept (l : List Nat) (s t : State) : Prop extends ChangesOnly l s t where
  was : t.rg.policyWas = s.rg.policyWas

namespace PolicyKept
variable {l : List Nat} {s t u : State}

theorem trans (h : PolicyKept l s t) (h' : PolicyKept l t u) : PolicyKept l s u :=
  ⟨h.toChangesOnly.trans h'.toChangesOnly, h'.was.trans h.was⟩

theorem mono {k : List Nat} (h : PolicyKept l s t) (hl : l ⊆ k) : PolicyKept k s t := ⟨h.toChangesOnly.mono hl, h.was⟩

theorem hostPolicy (h : PolicyKept l s t) (n : Nat) : Machine.hostPolicy t n = Machine.hostPolicy s n := by
  simp [Machine.hostPolicy, State.wr, h.val, h.was, h.clk]

end PolicyKept

@[simp] theorem ringEnable_policyWas (r : Nat) (s : State) : (ringEnable r s).rg.policyWas = s.rg.policyWas := rfl

@[simp] theorem ringSettle_policyWas (r : Nat) (s : State) : (ringSettle r s).rg.policyWas = s.rg.policyWas := by
  unfold ringSettle
  dsimp only
  split
  · split <;> rfl
  · rfl

@[simp] theorem loseCompletion_policyWas (r : Nat) (s : State) : (loseCompletion r s).rg.policyWas = s.rg.policyWas := by
  unfold loseCompletion
  dsimp only
  split
  · rfl
  · rw [ringSettle_policyWas, makeEcho_rg, raise_rg]
    rfl

@[simp] theorem cqCheck_policyWas (r : Nat) (s : State) : (cqCheck r s).rg.policyWas = s.rg.policyWas := by
  unfold cqCheck
  dsimp only
  split
  · rw [raise_rg]
    rfl
  · rfl

@[simp] theorem complete_policyWas (r : Nat) (st : Status) (result detail : Nat) (s : State) :
    (complete r st result detail s).rg.policyWas = s.rg.policyWas := by
  have hlast (u : State) : (if u.hl.link = .up then cqCheck r u else loseCompletion r u).rg.policyWas = u.rg.policyWas := by
    split
    · exact cqCheck_policyWas r u
    · exact loseCompletion_policyWas r u
  unfold complete
  dsimp only
  split
  · rfl
  · split
    · rw [ringSettle_policyWas, makeEcho_rg]
      rfl
    · rw [hlast]
      rfl

theorem cancelQueued_policyKept (n : Nat) (st : Status) (detail : Nat) (s : State) : PolicyKept [n] s (cancelQueued n st detail s) := by
  refine ⟨cancelQueued_changesOnly n st detail s, ?_⟩
  unfold cancelQueued
  dsimp only
  split
  · split
    · rw [complete_policyWas]
      rfl
    · rfl
  · rfl

/-! What a policy asks of a channel that is present, by its state (R240). -/

section
variable {n : Nat} {s : State}

theorem applyPolicy_goOn (h : hostPolicy s n = 0) : applyPolicy n s = s := by
  simp [applyPolicy, h]

theorem applyPolicy_hold (hn : s.present n = true) (h : hostPolicy s n = 1) (hst : (s.ch n).st = .running) :
    applyPolicy n s = s.setCh n { s.ch n with cmds := { (s.ch n).cmds with hold := true } } := by
  simp [applyPolicy, hn, h, hst]

theorem applyPolicy_fade (hn : s.present n = true) (h : 2 ≤ hostPolicy s n) (hst : (s.ch n).st = .running ∨ (s.ch n).st = .held) :
    applyPolicy n s = s.setCh n { s.ch n with cmds := { (s.ch n).cmds with hostFade := true } } := by
  obtain ⟨k, hk⟩ := Nat.exists_eq_add_of_le' h
  rcases hst with hst | hst <;> simp [applyPolicy, hn, hk, hst]

theorem applyPolicy_dark (hst : (s.ch n).st = .dark) : applyPolicy n s = s := by
  unfold applyPolicy
  dsimp only
  split
  · rfl
  · split
    · rfl
    · exact if_neg (by simp [hst])
    · rw [hst]

end

theorem applyPolicy_policyKept (n : Nat) (s : State) : PolicyKept [n] s (applyPolicy n s) := by
  have hrefl : PolicyKept [n] s s := ⟨.refl _ s, rfl⟩
  have hset (k : ChCmds) : PolicyKept [n] s (s.setCh n { s.ch n with cmds := k }) := ⟨.setCh (by rfl), rfl⟩
  unfold applyPolicy
  dsimp only
  split
  · exact hrefl
  · split
    · exact hrefl
    · split
      · exact hset _
      · exact hrefl
    · split
      · exact hset _
      · exact hset _
      · exact cancelQueued_policyKept ..
      · exact hrefl

theorem applyPolicies_policyKept (l : List Nat) (s : State) : PolicyKept l s (l.foldl (fun s n => applyPolicy n s) s) := by
  induction l generalizing s with
  | nil => exact ⟨.refl _ s, rfl⟩
  | cons n l ih => exact ((applyPolicy_policyKept n s).mono (by simp)).trans ((ih _).mono (List.subset_cons_self n l))

/-- Of channels whose policies are applied one after another each is seen once, as it stood before. -/
theorem applyPolicies_ch {n : Nat} {l : List Nat} (s : State) (hn : n ∈ l) (hl : l.Nodup) :
    ∃ u, PolicyKept l s u ∧ u.ch n = s.ch n ∧ (l.foldl (fun s n => applyPolicy n s) s).ch n = (applyPolicy n u).ch n := by
  induction l generalizing s with
  | nil => cases hn
  | cons m l ih =>
    obtain ⟨hm, hl⟩ := List.nodup_cons.mp hl
    have hfirst := applyPolicy_policyKept m s
    rcases List.mem_cons.mp hn with rfl | hn
    · exact ⟨s, ⟨.refl _ s, rfl⟩, rfl, (applyPolicies_policyKept l _).other n hm⟩
    · obtain ⟨u, hu, hch, hlast⟩ := ih (applyPolicy m s) hn hl
      have hne : n ∉ [m] := by simpa using fun h : n = m => hm (h ▸ hn)
      exact ⟨u, (hfirst.mono (by simp)).trans (hu.mono (List.subset_cons_self m l)), hch.trans (hfirst.other n hne), hlast⟩

/-- At host loss each channel is asked what its policy says as of that instant (R240, R241). -/
theorem declareLoss_ch {v : State} {n : Nat} (hn : v.present n = true) :
    ∃ u : State, hostPolicy u n = hostPolicy v n ∧ u.present n = true ∧ u.ch n = v.ch n ∧ (declareLoss v).ch n = (applyPolicy n u).ch n := by
  let w : State := raise .rg 0 0 1 [] { v with rg := { v.rg with timer := none, hostLost := true } }
  have hvw : PolicyKept [] v w := ⟨.of_stopView _ (raise_stopView ..), by simp [w]⟩
  have hmem : n ∈ w.channelList := by
    rw [State.channelList, hvw.variant]
    exact List.mem_range.2 (of_decide_eq_true (Bool.and_eq_true_iff.1 hn).1)
  obtain ⟨u, hu, huch, hfold⟩ := applyPolicies_ch w hmem List.nodup_range
  exact ⟨u, (hu.hostPolicy n).trans (hvw.hostPolicy n), ((hu.present n).trans (hvw.present n)).trans hn,
    huch.trans (hvw.other n List.not_mem_nil), hfold⟩

theorem hostLoss_of_timer {s : State} {t0 : Nat} (ht : s.rg.timer = some t0) : hostLoss s = declareLoss (advanceClk (t0 + lossTime s) s) := by
  simp only [hostLoss, ht]

/-- Settles O18: each present channel sees its own policy alone (`declareLoss_ch`), which asks of it what its state allows. -/
theorem hostLossAppliesPolicies : Obligations.HostLossAppliesPolicies := by
  intro s t t0 n hp ht _ hn _ he
  have hexec : exec .hostLoss s = .next (hostLoss s) := congrArg Host.Outcome.next (mainOn_of_on _ hp)
  obtain rfl := Host.Outcome.next.inj (hexec.symm.trans he)
  rw [hostLoss_of_timer ht]
  have hvn : (advanceClk (t0 + lossTime s) s).present n = true := by simpa [State.present, State.gangOdd] using hn
  have hvch : (advanceClk (t0 + lossTime s) s).ch n = s.ch n := advanceClk_ch ..
  obtain ⟨u, hpol, hun, huch, hch⟩ := declareLoss_ch hvn
  rw [hvch] at huch
  rw [← hpol, hch, ← huch]
  refine ⟨fun h0 => by rw [applyPolicy_goOn h0], fun h1 hst => ?_, fun h2 hst => ?_, fun hdark => by rw [applyPolicy_dark hdark]⟩
  · rw [applyPolicy_hold hun h1 hst, State.setCh_same]
  · rw [applyPolicy_fade hun h2 hst, State.setCh_same]

end Sys2Proof.Machine
end

section
/-!
SUPPORT. CXL.mem, the decoders and the mailbox (chapters 06 and 10); O14 and O15.
-/
namespace Sys2Proof.Machine

/-! ### Messages and poison -/

/-- What of the host link no message changes (R190, R201). -/
theorem signal_hl {γ : Type} (p : HostLink → γ) (hp : ∀ (x : HostLink) fns spaced busyAt, p { x with fns, spaced, busyAt } = p x)
    (f v : Nat) (s : State) : p (signal f v s).hl = p s.hl := by
  unfold signal
  dsimp only
  split <;> exact hp s.hl _ _ _

theorem signalSpaced_hl {γ : Type} (p : HostLink → γ) (hp : ∀ (x : HostLink) fns spaced busyAt, p { x with fns, spaced, busyAt } = p x)
    (v : Nat) (s : State) : p (signalSpaced v s).hl = p s.hl := by
  unfold signalSpaced signal
  dsimp only
  (repeat' split) <;> exact hp s.hl _ _ _

/-- What a poisoned line leaves as it was, the host link's lists and the records apart (R199, R200). -/
structure PoisonNoted (line : Nat) (s t : State) : Prop where
  ar     : t.ar = s.ar
  cnt    : t.regs.cnt = s.regs.cnt
  listed : s.hl.poison.length < 64 → t.hl.poison = s.hl.poison ++ [line]
  raised : s.power = .on → Raised s t .hl 0 10 1 []

theorem PoisonNoted.signal {line f v : Nat} {s t : State} (h : PoisonNoted line s t) : PoisonNoted line s (Machine.signal f v t) where
  ar := (signal_ar ..).trans h.ar
  cnt := by rw [signal_regs, h.cnt]
  listed hl := (signal_hl HostLink.poison (fun _ _ _ _ => rfl) ..).trans (h.listed hl)
  raised hp := (h.raised hp).mono (by rw [signal_sp])

/-- The state once a poisoned line is listed, or counted as one too many (R199). -/
def poisonListed (line : Nat) (s : State) : State :=
  if s.hl.poison.length < 64 then { s with hl := { s.hl with poison := s.hl.poison ++ [line] } }
  else { s with hl := { s.hl with poisonOver := true } }

theorem poisonListed_noted (line : Nat) (s : State) : PoisonNoted line s (raise .hl 0 10 1 [] (poisonListed line s)) := by
  have hu : (poisonListed line s).ar = s.ar ∧ (poisonListed line s).regs = s.regs ∧ (poisonListed line s).power = s.power ∧
      (poisonListed line s).sp = s.sp := by
    unfold poisonListed
    split <;> exact ⟨rfl, rfl, rfl, rfl⟩
  obtain ⟨har, hregs, hpower, hsp⟩ := hu
  refine ⟨(raise_ar ..).trans har, by rw [raise_cnt, hregs], fun hl => ?_, fun hp => raised_raise _ _ _ _ _ (hpower.trans hp) (by rw [hsp])⟩
  rw [raise, raiseAs_hl HostLink.poison fun _ _ _ _ => rfl]
  simp [poisonListed, hl]

/-- The poisoned line in the CXL event log, with its message (R200). -/
def poisonLogged (line : Nat) (u : State) : State := signalSpaced 21 { u with hl := { u.hl with cxlLog := u.hl.cxlLog ++ [(line, 0)] } }

theorem PoisonNoted.logged {line : Nat} {s u : State} (h : PoisonNoted line s u) : PoisonNoted line s (poisonLogged line u) := by
  refine ⟨(signalSpaced_ar ..).trans h.ar, by rw [poisonLogged, signalSpaced_regs]; exact h.cnt, fun hl => ?_, fun hp => ?_⟩
  · exact (signalSpaced_hl HostLink.poison (fun _ _ _ _ => rfl) ..).trans (h.listed hl)
  · exact (h.raised hp).mono (by rw [poisonLogged, signalSpaced_sp])

theorem poisonAdd_eq (line : Nat) (s : State) : poisonAdd line s =
    if (raise .hl 0 10 1 [] (poisonListed line s)).hl.cxl then
      signal 4 1 (signal 3 1 (signal 2 1 (poisonLogged line (raise .hl 0 10 1 [] (poisonListed line s)))))
    else raise .hl 0 10 1 [] (poisonListed line s) := by
  simp only [poisonAdd, List.foldl_cons, List.foldl_nil, poisonLogged, poisonListed]

theorem poisonAdd_noted (line : Nat) (s : State) : PoisonNoted line s (poisonAdd line s) := by
  have hlisted := poisonListed_noted line s
  rw [poisonAdd_eq]
  split
  · exact hlisted.logged.signal.signal.signal
  · exact hlisted

/-! ### CXL.mem reads -/

section
variable {s : State} {l a o words : Nat} {ue : Bool} (hc : s.hl.cxl = true) (hl : s.hl.link = .up)
include hc hl

/-- What a read does on a CXL link that is up, by what its decoder finds (R199, R200, R206). -/
theorem cxlMemRead_of_hit (ho : hdmHit s l a = some o) : cxlMemRead l a words ue s =
    if o / 64 * 64 ≥ hbBase then
      (if s.ar.fail.isSome then send (.cxlData l [] true) (bump 0x4203C (traffic s))
        else send (.cxlData l (heartbeatLine (traffic s) ((o / 64 * 64 - hbBase) / 64)) false) (traffic s))
    else if !mayAccess s l (o / 64 * 64) false then send (.cxlData l [] true) (bump 0x4203C (unleased l false (traffic s)))
    else
      let u := if ue = true ∧ s.ar.fail.isNone = true then { traffic s with ar := { s.ar with ueLines := s.ar.ueLines.put (o / 64 * 64) () } } else traffic s
      let v := if u.ar.fail.isSome then u else corrected words u
      if v.ar.ueLines.has (o / 64 * 64) && v.ar.fail.isNone then send (.cxlData l [] true) (bump 0x4203C (lineError (o / 64 * 64) v))
      else if linePoison v (o / 64 * 64) then send (.cxlData l [] true) (bump 0x4203C v)
      else send (.cxlData l (memRead v.ar.mem (o / 64 * 64) 64) false) v := by
  have ho' : hdmHit (traffic s) l a = some o := ho
  unfold cxlMemRead
  rw [if_neg (by simp [hc, hl])]
  dsimp only
  rw [ho']
  rfl

/-- A read that the decoder and the lease let through, with the state `v` in which the line is looked at. -/
theorem cxlMemRead_leased {u v : State} (ho : hdmHit s l a = some o) (hb : o / 64 * 64 < hbBase)
    (hm : mayAccess s l (o / 64 * 64) false = true)
    (hu : (if ue = true ∧ s.ar.fail.isNone = true then { traffic s with ar := { s.ar with ueLines := s.ar.ueLines.put (o / 64 * 64) () } }
      else traffic s) = u)
    (hv : (if u.ar.fail.isSome then u else corrected words u) = v) : cxlMemRead l a words ue s =
      if v.ar.ueLines.has (o / 64 * 64) && v.ar.fail.isNone then send (.cxlData l [] true) (bump 0x4203C (lineError (o / 64 * 64) v))
      else if linePoison v (o / 64 * 64) then send (.cxlData l [] true) (bump 0x4203C v)
      else send (.cxlData l (memRead v.ar.mem (o / 64 * 64) 64) false) v := by
  rw [cxlMemRead_of_hit hc hl ho, if_neg (by omega), if_neg (by simp [hm])]
  dsimp only
  rw [hu, hv]

theorem cxlMemRead_of_miss (ho : hdmHit s l a = none) : cxlMemRead l a words ue s = send (.cxlData l [] true) (bump 0x4203C (traffic s)) := by
  have ho' : hdmHit (traffic s) l a = none := ho
  unfold cxlMemRead
  rw [if_neg (by simp [hc, hl])]
  dsimp only
  rw [ho']

end

/-- A line that is not poisoned lies in an archive that works, and is no line with an error (R200, R371). -/
theorem of_not_linePoison {s : State} {a : Nat} (h : linePoison s a = false) :
    s.ar.fail = none ∧ s.ar.poisoned.has (a / 64 * 64) = false ∧ s.ar.ueLines.has (a / 64 * 64) = false := by
  simp only [linePoison, Bool.or_eq_false_iff, Option.isSome_eq_false_iff, Option.isNone_iff_eq_none] at h
  obtain ⟨⟨⟨hf, hp⟩, hu⟩, -⟩ := h
  exact ⟨hf, hp, hu⟩

theorem line_line (o : Nat) : o / 64 * 64 / 64 * 64 = o / 64 * 64 := by omega

section
variable {s : State} {l a o words : Nat} {ue : Bool} (hp : s.power = .on) (hc : s.hl.cxl = true) (hl : s.hl.link = .up)
include hp hc hl

theorem runs_cxlMemRead_data (ho : hdmHit s l a = some o) (hb : o / 64 * 64 < hbBase) (hm : mayAccess s l (o / 64 * 64) false = true)
    (hq : linePoison s (o / 64 * 64) = false) : Runs (.cxlMemRead l a words false) s fun t =>
      t.tx = .cxlData l (memRead s.ar.mem (o / 64 * 64) 64) false :: s.tx ∧ t.ar = s.ar ∧
        t.regs.cnt.get 0x45040 0 = min 0xFFFFFFFF (s.regs.cnt.get 0x45040 0 + words) := by
  obtain ⟨hf, -, hu⟩ := of_not_linePoison hq
  rw [line_line] at hu
  have hq' : linePoison (corrected words (traffic s)) (o / 64 * 64) = false := hq
  have hread : cxlMemRead l a words false s =
      send (.cxlData l (memRead s.ar.mem (o / 64 * 64) 64) false) (corrected words (traffic s)) := by
    have hfail : ¬ (traffic s).ar.fail.isSome = true := by simp [hf]
    rw [cxlMemRead_leased hc hl ho hb hm (if_neg (by simp)) (if_neg hfail), hq']
    refine (if_neg ?_).trans (if_neg (by decide))
    simp [corrected, hu]
  refine runs_mainOn rfl hp ?_
  rw [hread]
  exact ⟨rfl, rfl, bumpBy_cnt ..⟩

theorem runs_cxlMemRead_error (ho : hdmHit s l a = some o) (hb : o / 64 * 64 < hbBase) (hm : mayAccess s l (o / 64 * 64) false = true)
    (hq : linePoison s (o / 64 * 64) = false) : Runs (.cxlMemRead l a words true) s fun t =>
      t.tx.head? = some (.cxlData l [] true) ∧ t.ar.ueLines.has (o / 64 * 64) = true ∧ Counted s t 0x45044 ∧ Raised s t .hl 0 10 1 [] ∧
        (s.hl.poison.length < 64 → t.hl.poison = s.hl.poison ++ [o / 64 * 64]) := by
  obtain ⟨hf, -, -⟩ := of_not_linePoison hq
  let u : State := { traffic s with ar := { s.ar with ueLines := s.ar.ueLines.put (o / 64 * 64) () } }
  let v : State := bump 0x45044 (corrected words u)
  have hnoted := poisonAdd_noted (o / 64 * 64) v
  have hread : cxlMemRead l a words true s = send (.cxlData l [] true) (bump 0x4203C (poisonAdd (o / 64 * 64) v)) := by
    have hfail : ¬ u.ar.fail.isSome = true := by simp [u, hf]
    rw [cxlMemRead_leased hc hl ho hb hm (if_pos ⟨rfl, by simp [hf]⟩) (if_neg hfail)]
    refine (if_pos ?_).trans rfl
    simp [corrected, hf]
  refine runs_mainOn rfl hp ?_
  rw [hread]
  refine ⟨rfl, ?_, ?_, (hnoted.raised hp).mono List.prefix_rfl, hnoted.listed⟩
  · have har : (poisonAdd (o / 64 * 64) v).ar = u.ar := hnoted.ar
    rw [send_ar, bump_ar, har]
    simp [u]
  · have hother : (send (.cxlData l [] true) (bump 0x4203C (poisonAdd (o / 64 * 64) v))).regs.cnt.get 0x45044 0 =
        (poisonAdd (o / 64 * 64) v).regs.cnt.get 0x45044 0 := bumpBy_cnt_other _ _ _ _ _ (by decide)
    have hcount : v.regs.cnt.get 0x45044 0 = min 0xFFFFFFFF ((corrected words u).regs.cnt.get 0x45044 0 + 1) := bumpBy_cnt ..
    have hcorr : (corrected words u).regs.cnt.get 0x45044 0 = s.regs.cnt.get 0x45044 0 := bumpBy_cnt_other _ _ _ _ _ (by decide)
    rw [Counted, hother, hnoted.cnt, hcount, hcorr]

theorem runs_cxlMemRead_heartbeat (ho : hdmHit s l a = some o) (hb : hbBase ≤ o / 64 * 64) (hf : s.ar.fail = none) :
    Runs (.cxlMemRead l a words ue) s fun t =>
      t.tx = .cxlData l (heartbeatLine s ((o / 64 * 64 - hbBase) / 64)) false :: s.tx ∧ t.ar = s.ar := by
  refine runs_mainOn rfl hp ?_
  rw [cxlMemRead_of_hit hc hl ho, if_pos hb, if_neg (by simp [hf])]
  exact ⟨rfl, rfl⟩

theorem runs_cxlMemRead_miss (ho : hdmHit s l a = none) : Runs (.cxlMemRead l a words ue) s fun t =>
    t.tx = .cxlData l [] true :: s.tx ∧ Counted s t 0x4203C ∧ t.ar = s.ar := by
  refine runs_mainOn rfl hp ?_
  rw [cxlMemRead_of_miss hc hl ho]
  exact ⟨rfl, counted_bump_traffic .., rfl⟩

theorem runs_cxlMemRead_unleased (ho : hdmHit s l a = some o) (hb : o / 64 * 64 < hbBase) (hm : mayAccess s l (o / 64 * 64) false = false) :
    Runs (.cxlMemRead l a words ue) s fun t =>
      t.tx = .cxlData l [] true :: s.tx ∧ Counted s t (selKey 0x45034 l) ∧ t.ar = s.ar := by
  refine runs_mainOn rfl hp ?_
  rw [cxlMemRead_of_hit hc hl ho, if_neg (by omega), if_pos (by simp [hm])]
  refine ⟨rfl, ?_, rfl⟩
  have hne : selKey 0x45034 l ≠ 0x4203C := by simp only [selKey]; omega
  exact (bumpBy_cnt_other _ _ _ _ _ hne).trans (counted_bump_traffic ..)

end

/-! ### CXL.mem writes -/

section
variable {s : State} {l a o : Nat} {bytes : List Byte} {poison : Bool} (hc : s.hl.cxl = true) (hl : s.hl.link = .up) (hb : bytes ≠ [])
include hc hl hb

/-- What a write does on a CXL link that is up, where its decoder finds a byte of a working archive (R199, R200, R206, R365). -/
theorem cxlMemWrite_of_hit (ho : hdmHit s l a = some o) (hf : s.ar.fail = none) : cxlMemWrite l a bytes poison s =
    if o / 64 * 64 ≥ hbBase then
      if o / 64 * 64 = hbBase + 64 * l ∧ o + bytes.length ≤ o / 64 * 64 + 12 ∧ (!poison) = true then
        (traffic s).setLease l { s.lease l with
          beat := leAt (plPut (bytesOf 8 (s.lease l).beat ++ bytesOf 4 (s.lease l).claimed) (o - o / 64 * 64) bytes) 0 8
          claimed := leAt (plPut (bytesOf 8 (s.lease l).beat ++ bytesOf 4 (s.lease l).claimed) (o - o / 64 * 64) bytes) 8 4 }
      else unleased l true (traffic s)
    else if !mayAccess s l o true then unleased l true (traffic s)
    else if poison then
      poisonAdd (o / 64 * 64) (arPut o (bytes.take (o / 64 * 64 + 64 - o))
        { traffic s with ar := { s.ar with poisoned := s.ar.poisoned.put (o / 64 * 64) () } })
    else if o = o / 64 * 64 ∧ bytes.length ≥ 64 then arLine (o / 64 * 64) (bytes.take 64) (traffic s)
    else arPut o (bytes.take (o / 64 * 64 + 64 - o)) (traffic s) := by
  have ho' : hdmHit (traffic s) l a = some o := ho
  have hfail : ¬ (traffic s).ar.fail.isSome = true := by simp [hf]
  unfold cxlMemWrite
  rw [if_neg (by simp [hc, hl, hb])]
  dsimp only
  rw [ho']
  exact if_neg hfail

end

theorem linePoison_of_poisoned {s : State} {a : Nat} (h : s.ar.poisoned.has (a / 64 * 64) = true) : linePoison s a = true := by
  simp [linePoison, h]

/-- A byte written stands where the write put it, and the others stand as they were. -/
theorem memGet_memWrite (l : List Byte) (m : List Host.Cell) (a k : Nat) :
    memGet (memWrite m a l) k = if a ≤ k ∧ k < a + l.length then l.getD (k - a) 0 else memGet m k := by
  split
  case isTrue h =>
    have hk : a + (k - a) = k := by omega
    conv_lhs => rw [← hk]
    exact memGet_write_inside l m a (k - a) (by omega)
  case isFalse h => exact memGet_write_outside l m a k (by omega)

section
variable {s : State} {l a o : Nat} {bytes : List Byte} {poison : Bool} (hp : s.power = .on) (hc : s.hl.cxl = true) (hl : s.hl.link = .up)
  (hb : bytes ≠ []) (ho : hdmHit s l a = some o) (hf : s.ar.fail = none)
include hp hc hl hb ho hf

theorem runs_cxlMemWrite_data (hlow : o / 64 * 64 < hbBase) (hm : mayAccess s l o true = true) (hfits : o + bytes.length ≤ o / 64 * 64 + 64)
    (k : Nat) : Runs (.cxlMemWrite l a bytes false) s fun t =>
      memGet t.ar.mem k = if o ≤ k ∧ k < o + bytes.length then bytes.getD (k - o) 0 else memGet s.ar.mem k := by
  refine runs_mainOn rfl hp ?_
  rw [cxlMemWrite_of_hit hc hl hb ho hf, if_neg (by omega), if_neg (by simp [hm]), if_neg (by simp)]
  split
  case isTrue h =>
    obtain ⟨hline, hlen⟩ := h
    rw [List.take_of_length_le (by omega), ← hline]
    exact memGet_memWrite ..
  case isFalse h =>
    rw [List.take_of_length_le (by omega)]
    exact memGet_memWrite ..

theorem runs_cxlMemWrite_poison (hlow : o / 64 * 64 < hbBase) (hm : mayAccess s l o true = true) :
    Runs (.cxlMemWrite l a bytes true) s fun t => linePoison t o = true ∧ Raised s t .hl 0 10 1 [] := by
  refine runs_mainOn rfl hp ?_
  rw [cxlMemWrite_of_hit hc hl hb ho hf, if_neg (by omega), if_neg (by simp [hm]), if_pos rfl]
  have hnoted := poisonAdd_noted (o / 64 * 64) (arPut o (bytes.take (o / 64 * 64 + 64 - o))
        { traffic s with ar := { s.ar with poisoned := s.ar.poisoned.put (o / 64 * 64) () } })
  refine ⟨?_, (hnoted.raised hp).mono List.prefix_rfl⟩
  refine linePoison_of_poisoned ?_
  rw [hnoted.ar]
  exact Tab.has_put_same ..

theorem runs_cxlMemWrite_unleased (hlow : o / 64 * 64 < hbBase) (hm : mayAccess s l o true = false) :
    Runs (.cxlMemWrite l a bytes poison) s fun t => Counted s t (selKey 0x45038 l) ∧ t.ar = s.ar := by
  refine runs_mainOn rfl hp ?_
  rw [cxlMemWrite_of_hit hc hl hb ho hf, if_neg (by omega), if_pos (by simp [hm])]
  exact ⟨counted_bump_traffic .., rfl⟩

end

@[simp] theorem length_bytesOf (n v : Nat) : (bytesOf n v).length = n := by
  induction n generalizing v with
  | zero => rfl
  | succ n ih => simp [bytesOf, ih]

/-- A write of a heartbeat line's first 12 bytes is the LD's beat and the session it claims (R365). -/
theorem runs_cxlMemWrite_beat {s : State} {l a : Nat} {bytes : List Byte} (hp : s.power = .on) (hc : s.hl.cxl = true) (hl : s.hl.link = .up)
    (ho : hdmHit s l a = some (hbBase + 64 * l)) (hf : s.ar.fail = none) (hlen : bytes.length = 12) :
    Runs (.cxlMemWrite l a bytes false) s fun t =>
      (t.lease l).beat = leAt bytes 0 8 ∧ (t.lease l).claimed = leAt bytes 8 4 ∧ (t.lease l).session = (s.lease l).session := by
  have hb : bytes ≠ [] := fun h => by simp [h] at hlen
  have hline : (hbBase + 64 * l) / 64 * 64 = hbBase + 64 * l := by simp only [hbBase]; omega
  have hput (old : List Byte) (hold : old.length = 12) : plPut old 0 bytes = bytes := by
    rw [plPut, List.drop_of_length_le (by omega)]
    simp
  refine runs_mainOn rfl hp ?_
  rw [cxlMemWrite_of_hit hc hl hb ho hf, hline, if_pos (by omega), if_pos ⟨rfl, by omega, rfl⟩, Nat.sub_self,
    hput _ (by simp), State.setLease_same]
  exact ⟨rfl, rfl, rfl⟩

/-! ### The decoders -/

theorem raise_ld (b : Blk) (i num cls : Nat) (args : List Int) (s : State) (k : Nat) : (raise b i num cls args s).ld k = s.ld k :=
  raiseAs_hl (fun x : HostLink => x.lds.get k {}) (fun _ _ _ _ => rfl) ..

section
variable {s : State} {l base size ways : Nat} {lock : Bool} (hp : s.power = .on) (ho : mailboxOpen s l = true) (hl : (s.ld l).locked = false)
include hp ho hl

theorem hdmCommit_of_open : hdmCommit l base size ways lock s =
    if base % 0x10000000 = 0 ∧ size = 2 ^ 32 ∧ ways = 1 then
      (traffic s).setLd l { s.ld l with committed := true, locked := lock, errNotCommitted := false, base }
    else raise .hl 0 9 1 [] ((traffic s).setLd l { s.ld l with committed := false, errNotCommitted := true }) := by
  have ho' : mailboxOpen (traffic s) l = true := ho
  unfold hdmCommit
  exact if_neg (by simp [ho', hl])

theorem runs_hdmCommit_legal (h : base % 0x10000000 = 0) : Runs (.hdmCommit l base (2 ^ 32) 1 true) s fun t =>
    (t.ld l).committed = true ∧ (t.ld l).locked = true ∧ (t.ld l).base = base := by
  refine runs_mainOn rfl hp ?_
  rw [hdmCommit_of_open hp ho hl, if_pos ⟨h, rfl, rfl⟩, State.setLd_same]
  exact ⟨rfl, rfl, rfl⟩

theorem runs_hdmCommit_illegal (h : ¬ (base % 0x10000000 = 0 ∧ size = 2 ^ 32 ∧ ways = 1)) : Runs (.hdmCommit l base size ways lock) s fun t =>
    (t.ld l).committed = false ∧ (t.ld l).errNotCommitted = true ∧ Raised s t .hl 0 9 1 [] := by
  refine runs_mainOn rfl hp ?_
  rw [hdmCommit_of_open hp ho hl, if_neg h, raise_ld, State.setLd_same]
  exact ⟨rfl, rfl, raised_raise _ _ _ _ _ hp rfl⟩

end

/-- Settles O14: a read answers by its decoder, its lease and the line (`cxlMemRead_of_hit`), a write changes its bytes or nothing
(`cxlMemWrite_of_hit`), and a decoder commits the one legal setting (`hdmCommit_of_open`). -/
theorem cxlMemCommandsComplete : Obligations.CxlMemCommandsComplete :=
  ⟨fun _ _ _ _ _ hp hc hl ho hb hm hq => runs_cxlMemRead_data hp hc hl ho hb hm hq,
    fun _ _ _ _ _ hp hc hl ho hb hm hq => runs_cxlMemRead_error hp hc hl ho hb hm hq,
    fun _ _ _ _ _ _ hp hc hl ho hb hf => runs_cxlMemRead_heartbeat hp hc hl ho hb hf,
    fun _ _ _ _ _ hp hc hl ho => runs_cxlMemRead_miss hp hc hl ho,
    fun _ _ _ _ _ _ hp hc hl ho hb hm => runs_cxlMemRead_unleased hp hc hl ho hb hm,
    fun _ _ _ _ _ k hp hc hl ho hf hlow hm hb hfits => runs_cxlMemWrite_data hp hc hl hb ho hf hlow hm hfits k,
    fun _ _ _ _ _ hp hc hl ho hf hlow hm hb => runs_cxlMemWrite_poison hp hc hl hb ho hf hlow hm,
    fun _ _ _ _ hp hc hl _ ho hf hlen => runs_cxlMemWrite_beat hp hc hl ho hf hlen,
    fun _ _ _ _ _ _ hp hc hl ho hf hlow hm hb => runs_cxlMemWrite_unleased hp hc hl hb ho hf hlow hm,
    fun _ _ _ hp ho hl h => runs_hdmCommit_legal hp ho hl h, fun _ _ _ _ _ _ hp ho hl h => runs_hdmCommit_illegal hp ho hl h⟩

/-! ### Answers of a mailbox -/

theorem signal_tx_suffix (f v : Nat) (s : State) : s.tx <:+ (signal f v s).tx := by
  unfold signal
  dsimp only
  split
  · exact List.suffix_cons ..
  · exact List.suffix_rfl

theorem signalSpaced_tx_suffix (v : Nat) (s : State) : s.tx <:+ (signalSpaced v s).tx := by
  unfold signalSpaced
  dsimp only
  split
  · exact List.suffix_rfl
  · split
    · exact signal_tx_suffix 0 v s
    · exact List.suffix_rfl

/-- A mailbox answers, and its message changes nothing else of what the commands speak of (R180). -/
structure Answers (l code : Nat) (payload : List Nat) (s t : State) : Prop where
  told   : .mailbox l code payload ∈ t.tx
  ar     : t.ar = s.ar
  poison : t.hl.poison = s.hl.poison
  log    : t.hl.cxlLog = s.hl.cxlLog

theorem mailbox_answers (l code : Nat) (payload : List Nat) (s : State) : Answers l code payload s (mailbox l code payload s) := by
  unfold mailbox
  dsimp only
  split
  · exact ⟨(signalSpaced_tx_suffix ..).subset List.mem_cons_self, signalSpaced_ar .., signalSpaced_hl HostLink.poison (fun _ _ _ _ => rfl) ..,
      signalSpaced_hl HostLink.cxlLog (fun _ _ _ _ => rfl) ..⟩
  · exact ⟨(signal_tx_suffix ..).subset List.mem_cons_self, signal_ar .., signal_hl HostLink.poison (fun _ _ _ _ => rfl) ..,
      signal_hl HostLink.cxlLog (fun _ _ _ _ => rfl) ..⟩

/-- The log as numbers, two for each of its entries. -/
theorem flatten_log (log : List (Nat × Nat)) (a : List Nat) :
    log.foldl (fun a e => a ++ [e.1, e.2]) a = a ++ log.flatMap fun e => [e.1, e.2] := by
  induction log generalizing a with
  | nil => simp
  | cons e log ih => simp [ih]

section
variable {s : State} {l : Nat} (hp : s.power = .on) (ho : mailboxOpen s l = true)
include hp ho

theorem runs_identifyMemoryDevice : Runs (.identifyMemoryDevice l) s fun t => ∃ x, .mailbox l cxlOk [2 ^ 32, 64, s.variant.deviceCode, x] ∈ t.tx := by
  refine runs_mainOn rfl hp ⟨openNat s, ?_⟩
  rw [identifyMemoryDevice, if_pos ho]
  exact (mailbox_answers ..).told

theorem runs_getHealthInfo : Runs (.getHealthInfo l) s fun t => ∃ x, .mailbox l cxlOk [x] ∈ t.tx := by
  refine runs_mainOn rfl hp ⟨openNat s, ?_⟩
  rw [getHealthInfo, if_pos ho]
  exact (mailbox_answers ..).told

theorem runs_getEventRecords : Runs (.getEventRecords l) s fun t => .mailbox l cxlOk (s.hl.cxlLog.flatMap fun e => [e.1, e.2]) ∈ t.tx := by
  refine runs_mainOn rfl hp ?_
  rw [getEventRecords, if_pos ho, flatten_log, List.nil_append]
  exact (mailbox_answers ..).told

theorem runs_clearEventRecords (n : Nat) : Runs (.clearEventRecords l n) s fun t =>
    t.hl.cxlLog = s.hl.cxlLog.drop n ∧ .mailbox l cxlOk [] ∈ t.tx := by
  refine runs_mainOn rfl hp ?_
  rw [clearEventRecords, if_pos ho]
  exact ⟨(mailbox_answers ..).log, (mailbox_answers ..).told⟩

theorem runs_getPoisonList : Runs (.getPoisonList l) s fun t => .mailbox l cxlOk (b2n s.hl.poisonOver :: s.hl.poison) ∈ t.tx := by
  refine runs_mainOn rfl hp ?_
  rw [getPoisonList, if_pos ho]
  exact (mailbox_answers ..).told

theorem runs_unsupportedMailbox : Runs (.unsupportedMailboxCommand l) s fun t => .mailbox l cxlUnsupported [] ∈ t.tx := by
  have hl : l ≠ fmLd := by
    simp only [mailboxOpen, Bool.and_eq_true, decide_eq_true_eq] at ho
    simp only [fmLd]
    omega
  refine runs_mainOn rfl hp ?_
  rw [unsupportedMailbox, if_neg hl, if_pos ho]
  exact (mailbox_answers ..).told

end

section
variable {s : State} {a : Nat} (hp : s.power = .on) (ho : mailboxOpen s 0 = true) (ha : a < 2 ^ 32) (hline : a % 64 = 0)
include hp ho ha hline

/-- INJECT POISON through LD0 lists the line and marks it (R198, R199). -/
theorem runs_injectPoison (hlen : s.hl.poison.length < 64) : Runs (.injectPoison 0 a) s fun t =>
    t.hl.poison = s.hl.poison ++ [a] ∧ linePoison t a = true ∧ .mailbox 0 cxlOk [] ∈ t.tx := by
  let u : State := { s with ar := { s.ar with poisoned := s.ar.poisoned.put a () } }
  have hinject : injectPoison 0 a s = mailbox 0 cxlOk [] (poisonAdd a u) := by
    unfold injectPoison
    rw [if_neg (by simp [ho]), if_neg (by simp), if_neg (by omega)]
  have hanswer := mailbox_answers 0 cxlOk [] (poisonAdd a u)
  have hnoted := poisonAdd_noted a u
  refine runs_mainOn rfl hp ?_
  rw [hinject]
  refine ⟨hanswer.poison.trans (hnoted.listed hlen), linePoison_of_poisoned ?_, hanswer.told⟩
  rw [hanswer.ar, hnoted.ar, show a / 64 * 64 = a by omega]
  exact Tab.has_put_same ..

/-- CLEAR POISON through LD0 takes the line off the list and writes it (R199). -/
theorem runs_clearPoison {data : List Byte} (hlen : data.length = 64) : Runs (.clearPoison 0 a data) s fun t =>
    t.hl.poison = s.hl.poison.filter (fun x => x != a) ∧ t.ar.poisoned.has a = false ∧
      (∀ k < 64, memGet t.ar.mem (a + k) = data.getD k 0) ∧ .mailbox 0 cxlOk [] ∈ t.tx := by
  let u : State := { s with
    hl := { s.hl with poison := s.hl.poison.filter fun x => x != a }
    ar := { s.ar with poisoned := s.ar.poisoned.del a, ueLines := s.ar.ueLines.del a } }
  have hdata : (data ++ List.replicate 64 0).take 64 = data := by rw [List.take_append_of_le_length (by omega), List.take_of_length_le (by omega)]
  have hclear : clearPoison 0 a data s = mailbox 0 cxlOk [] (arPut a data u) := by
    unfold clearPoison
    rw [if_neg (by simp [ho]), if_neg (by simp), if_neg (by omega)]
    dsimp only
    rw [hdata]
  have hanswer := mailbox_answers 0 cxlOk [] (arPut a data u)
  refine runs_mainOn rfl hp ?_
  rw [hclear]
  refine ⟨hanswer.poison, ?_, fun k hk => ?_, hanswer.told⟩
  · rw [hanswer.ar]
    simp [u, arPut, Tab.has]
  · rw [hanswer.ar]
    exact memGet_write_inside data u.ar.mem a k (by omega)

end

/-! ### The FM API -/

theorem Runs.imp {c : Instr} {s : State} {P Q : State → Prop} (h : Runs c s P) (hPQ : ∀ t, P t → Q t) : Runs c s Q := by
  obtain ⟨t, ht, hP⟩ := h
  exact ⟨t, ht, hPQ t hP⟩

theorem runs_fmApi {c : Instr} {s : State} {code : Nat} {payload : List Nat} (hp : s.power = .on) (hc : s.hl.cxl = true) (hl : s.hl.link = .up)
    (he : exec c s = .next (mainOn s (if s.hl.cxl = true ∧ s.hl.link = .up then send (.mailbox fmLd code payload) (traffic s) else s))) :
    Runs c s fun t => t = { traffic s with tx := .mailbox fmLd code payload :: s.tx } := by
  refine runs_mainOn he hp ?_
  rw [if_pos ⟨hc, hl⟩]
  rfl

theorem exec_setLdAllocations (sizes : List Nat) (s : State) : exec (.setLdAllocations sizes) s =
    .next (mainOn s (if s.hl.cxl = true ∧ s.hl.link = .up then
      send (.mailbox fmLd (if sizes = List.replicate 4 (2 ^ 32) then cxlOk else cxlInvalid) []) (traffic s) else s)) := rfl

/-- Settles O15: an open mailbox answers (`mailbox_answers`), poison and event records come and go, and the FM API answers (`runs_fmApi`). -/
theorem mailboxCommandsComplete : Obligations.MailboxCommandsComplete := by
  refine ⟨fun _ _ hp ho => runs_identifyMemoryDevice hp ho, fun _ _ hp ho => runs_getHealthInfo hp ho,
    fun _ _ hp ho => runs_getEventRecords hp ho, fun _ _ n hp ho => runs_clearEventRecords hp ho n,
    fun _ _ hp ho => runs_getPoisonList hp ho, fun _ _ hp ho ha hline hlen => runs_injectPoison hp ho ha hline hlen,
    fun _ _ _ hp ho ha hline hlen => runs_clearPoison hp ho ha hline hlen, fun _ _ hp ho => runs_unsupportedMailbox hp ho,
    fun s hp hc hl => ?_, fun s hp hc hl => ?_, fun s hp hc hl => ?_, fun s hp hc hl => ?_, fun s sizes hp hc hl hne => ?_⟩
  · exact (runs_fmApi hp hc hl rfl).imp fun t ht => congrArg State.tx ht
  · exact (runs_fmApi hp hc hl rfl).imp fun t ht => congrArg State.tx ht
  · exact (runs_fmApi hp hc hl rfl).imp fun t ht => congrArg State.tx ht
  · exact runs_fmApi hp hc hl rfl
  · refine runs_fmApi hp hc hl ((exec_setLdAllocations sizes s).trans ?_)
    rw [if_neg hne]

end Sys2Proof.Machine
end

section
/-!
SUPPORT. A driver trip while time is slewed back (R159, R684); O32.
-/
namespace Sys2Proof.Machine

/-! ### A leg of a valve driver trips while time is slewed back -/

/-- Driver 0 runs a program and blanks for 500 ns; rack time slews back one nanosecond in 64, with 19 ns of the next 64 gone. -/
def slewedDriver : State :=
  { variant := .xf6408, power := .on, doms := [(155, { st := .on })], tk := { slew := -1000, slewAcc := 19 },
    ez := { field := { powered := true, valves := [(0, { running := true, cfg := 0x100 })] } } }

/-- The trip comes 501 ns later, not 500: the slew takes one more nanosecond from the rack time that the 500 ns are converted to. -/
theorem drvTrip_overshoots : (drvTrip 0 0 7000 0 500 slewedDriver).tk.clk = 501 := by
  decide +kernel

/-- Refutes O32: while time is slewed back a driver trip can fall one nanosecond after the end of its blanking (R159), so that the model's clock does
not stand at `d` after it. -/
theorem not_valveCommandsComplete : ¬ Obligations.ValveCommandsComplete := by
  unfold Obligations.ValveCommandsComplete
  rintro ⟨-, -, -, -, -, h, -⟩
  have hexec : exec (.drvTrip 0 0 7000 0 500) slewedDriver = .next (drvTrip 0 0 7000 0 500 slewedDriver) :=
    congrArg Host.Outcome.next (mainOn_of_on _ rfl)
  obtain ⟨hclk, -⟩ := (h slewedDriver 0 0 7000 0 500 1 500 rfl (by decide) (Nat.zero_le 1) rfl rfl (by decide)).next hexec
  rw [drvTrip_overshoots] at hclk
  exact absurd hclk (by decide)

end Sys2Proof.Machine
end

section
/-!
SUPPORT. A SYNC that loads the time that stands already (R161); O57.
-/
namespace Sys2Proof.Machine

/-! ### A SYNC that loads the time that stands already -/

/-- A follower with every channel dark, JOIN_EN set and time not loaded yet, whose last heartbeat sample stands after the time that runs. -/
def unloadedFollower : State :=
  { variant := .xf6408, power := .on, doms := [(11, { st := .on })], regs := { val := [(0x47044, 0x1)] },
    jl := { port := [(0, { st := .up })], st := .follower }, ar := { sampleAt := 5 } }

/-- A SYNC cell of type 1 whose sixteen bytes are 0: time 0 and no delay. -/
def zeroSync : List Byte := List.replicate 16 0

/-- The load sets the time that stands, 0, and takes the sample's instant back to it. -/
theorem syncCell_loads_sampleAt :
    (stepping (syncCell 0 0x1000 zeroSync) unloadedFollower).tk.now = 0 ∧
      (stepping (syncCell 0 0x1000 zeroSync) unloadedFollower).ar.sampleAt = 0 := by
  decide +kernel

/-- Refutes O57: a follower's first SYNC loads its time (R161), and where it is the time that stands, the load still takes back the archive's sample
instant that stands after it. -/
theorem not_rackCommandsFrame : ¬ Obligations.RackCommandsFrame := by
  unfold Obligations.RackCommandsFrame
  rintro ⟨-, -, h, -⟩
  have hexec : exec (.sync 0 0x1000 zeroSync) unloadedFollower = .next (stepping (syncCell 0 0x1000 zeroSync) unloadedFollower) :=
    congrArg Host.Outcome.next (mainOn_of_on _ rfl)
  obtain ⟨hnow, hsample⟩ := syncCell_loads_sampleAt
  obtain ⟨-, har, -⟩ := h unloadedFollower _ 0 0x1000 zeroSync hexec hnow
  rw [har] at hsample
  exact absurd hsample (by decide)

end Sys2Proof.Machine
end

section
/-!
SUPPORT. A word that stands at a crossing of a domain being isolated (R142); O8.
-/
namespace Sys2Proof.Machine

/-! ### A word that stands at a crossing when its domain is isolated -/

/-- Domain 20 quiesces, and a word of domain 16 for it stands at their crossing, offered and not taken. -/
def wordStanding : State :=
  { variant := .xf6408, power := .on, doms := [(20, { st := .down, phase := .quiesce })], xings := [(256 * 16 + 20, { req := true })] }

/-- Its one word is counted though the command brings none. -/
theorem quiesceEnd_counts_standing : (quiesceEnd 20 0 wordStanding).regs.cnt.get 0x41050 0 = 1 := by
  decide +kernel

/-- Refutes O8: the end of a quiesce counts the words that stand at the domain's crossings too (R142), not only those the command brings. -/
theorem not_domainCommandsComplete : ¬ Obligations.DomainCommandsComplete := by
  unfold Obligations.DomainCommandsComplete
  rintro ⟨-, -, -, -, -, h, -⟩
  have hexec : exec (.quiesceEnd 20 0) wordStanding = .next (quiesceEnd 20 0 wordStanding) :=
    congrArg Host.Outcome.next (mainOn_of_on _ rfl)
  obtain ⟨-, hcount⟩ := (h wordStanding 20 0 rfl rfl rfl).next hexec
  rw [quiesceEnd_counts_standing] at hcount
  exact absurd hcount (by decide)

end Sys2Proof.Machine
end

section
/-!
SUPPORT. A strip release that D3hot entry lets end (R339); O11.
-/
namespace Sys2Proof.Machine

/-! ### A strip's release that can end -/

/-- Strip 0 has an error and is being released for the STRIP_BIND that ring 0 executes; the link is up. -/
def releaseOpen : State :=
  { variant := .xf6408, power := .on, hl := { link := .up },
    rg := { ring := [(0, { running := true, exec := some { d := [0x38], count := 0 } })] },
    sp := { ns := [(0, { releasing := true, error := true })] } }

/-- The settling of the spools that follows D3hot ends the release and with it the command. -/
theorem d3hotEntry_ends_release : ((d3hotEntry 0 releaseOpen).ring 0).exec = none := by
  decide +kernel

/-- Refutes O11: D3hot entry settles the spools (R339), and where a strip's release can end, its STRIP_BIND completes and the rings change. -/
theorem not_linkCommandsComplete : ¬ Obligations.LinkCommandsComplete := by
  unfold Obligations.LinkCommandsComplete
  rintro ⟨-, -, -, -, -, -, h, -⟩
  have hexec : exec (.d3hotEntry 0) releaseOpen = .next (d3hotEntry 0 releaseOpen) := congrArg Host.Outcome.next (mainOn_of_on _ rfl)
  obtain ⟨-, -, hrings, -⟩ := (h releaseOpen 0 rfl rfl rfl).next hexec
  have hexecutes : ((d3hotEntry 0 releaseOpen).ring 0).exec = (releaseOpen.ring 0).exec := congrArg (fun g => (g.ring.get 0 {}).exec) hrings
  rw [d3hotEntry_ends_release] at hexecutes
  exact absurd hexecutes (by decide)

end Sys2Proof.Machine
end

section
/-!
SUPPORT. A granule whose strip went before it was written (chapter 09); O22.
-/
namespace Sys2Proof.Machine

/-! ### A granule to be discarded reaches its read side -/

/-- A granule on its way from spool 0 to spool 1, whose strip went before it could be written. -/
def orphan : Granule := { r := { seq := 0, src := 0, kind := 1, time := 0, body := [] }, origin := 0, path := [1], seen := true }

def orphanInSpool : State := { variant := .xf6408, power := .on, sp := { sp := [(0, { q := [orphan] })] } }

theorem cascadeForward_discards : ((cascadeForward 0 false orphanInSpool).spool 1).q = [] := by
  decide +kernel

theorem orphanInSpool_still : SpoolsStill orphanInSpool where
  strips _ := ⟨rfl, rfl⟩
  idle _ := ⟨rfl, rfl⟩
  calm k := by
    have hspool : orphanInSpool.spool k = if k = 0 then { q := [orphan] } else {} := by
      by_cases hk : k = 0 <;> simp [State.spool, orphanInSpool, Tab.get, Tab.find, hk, eq_comm]
    rw [hspool]
    split <;> rfl

/-- Refutes O22: a granule whose strip was released reaches the read side of the spool it is forwarded to and is discarded there in the same command
(R317, R335), so that it does not stand in that spool. -/
theorem not_spoolCommandsComplete : ¬ Obligations.SpoolCommandsComplete := by
  unfold Obligations.SpoolCommandsComplete
  rintro ⟨-, -, -, -, h, -⟩
  have hexec : exec (.cascadeForward 0 false) orphanInSpool = .next (cascadeForward 0 false orphanInSpool) :=
    congrArg Host.Outcome.next (mainOn_of_on _ rfl)
  obtain ⟨-, hqueue⟩ :=
    (h orphanInSpool 0 1 orphan [] [] rfl rfl rfl rfl (by decide) (by decide) rfl orphanInSpool_still).next hexec
  rw [cascadeForward_discards] at hqueue
  exact absurd hqueue (by decide)

end Sys2Proof.Machine
end

section
/-!
SUPPORT. A step that begins in the period a hold is asked for (chapters 11 and 13); O23.
-/
namespace Sys2Proof.Machine

/-! ### A step of a channel that is held -/

/-- A step that has not begun to count its time. -/
def newStep : StepSt := { pc := 0, op := 0, a := 0, b := 0, va := 0, ledgerStop := false, terms := [], expo0 := 0, energy0 := 0 }

/-- Channel 0 runs a step, is asked to hold, and its CI is ON. -/
def heldNext : State :=
  { variant := .xf6408, power := .on, doms := [(20, { st := .on })], regs := { val := [(dvKey 0 0x20, 0x30000004)] },
    chs := [(0, { st := .running, cmds := { hold := true }, step := some newStep })] }

theorem pwmBoundary_steps : (((calCheck 0 (pwmBoundary 0 [] heldNext)).ch 0).step.map (·.t)) = some 20 := by
  decide +kernel

theorem heldNext_calm (j : Nat) :
    ((heldNext.ch 0).phase j).found = 0 ∧ ((heldNext.ch 0).phase j).runRail < 7 ∧ ∀ w ∈ ((heldNext.ch 0).phase j).stuck, w.2 < 7 :=
  ⟨rfl, show 0 < 7 from Nat.zero_lt_succ 6, fun _ hw => absurd hw List.not_mem_nil⟩

/-- Refutes O23: the boundary at which a channel is held still ends a period of its step, whose elapsed time goes on by it (R470), so that the step is
not the one before. -/
theorem not_powerPathCommandsComplete : ¬ Obligations.PowerPathCommandsComplete := by
  unfold Obligations.PowerPathCommandsComplete
  rintro ⟨-, h, -⟩
  have hexec : exec (.pwmPeriodBoundary 0 []) heldNext = .next (calCheck 0 (pwmBoundary 0 [] heldNext)) :=
    congrArg Host.Outcome.next (mainOn_of_on _ rfl)
  obtain ⟨-, -, -, hstep⟩ :=
    (h heldNext 0 [] rfl (by decide) (by decide) rfl rfl rfl rfl (by decide) (by decide) rfl heldNext_calm (by decide) (by decide)).next hexec
  have helapsed := pwmBoundary_steps
  rw [hstep] at helapsed
  exact absurd helapsed (by decide)

end Sys2Proof.Machine
end

section
/-!
SUPPORT. A late print input that no channel takes (R595, R601); O28.
-/
namespace Sys2Proof.Machine

/-! ### A late CAN temperature that no channel takes -/

/-- A late input of the CAN source, which no channel's map names. -/
def lateCan : PeInput := { src := 3, ch := 0, stamp := 0, late := true }

def lateCanComing : State := { variant := .xf6408, power := .on, pe := { coming := [lateCan] } }

theorem printInputArrival_counts_nothing : (printInputArrival lateCanComing).regs.cnt.get 0x48028 0 = 0 := by
  decide +kernel

/-- Refutes O28: a late input is counted once for each channel that it is for (R595, R601), and a CAN input that no channel's map names is for none. -/
theorem not_printCommandsComplete : ¬ Obligations.PrintCommandsComplete := by
  unfold Obligations.PrintCommandsComplete
  rintro ⟨-, h, -⟩
  have hexec : exec .printInputArrival lateCanComing = .next (printInputArrival lateCanComing) :=
    congrArg Host.Outcome.next (mainOn_of_on _ rfl)
  obtain ⟨-, -, hcount⟩ := (h lateCanComing lateCan [] rfl rfl rfl).next hexec
  rw [Counted, printInputArrival_counts_nothing] at hcount
  exact absurd hcount (by decide)

end Sys2Proof.Machine
end

section
/-!
SUPPORT. Encoders and the sensor port (chapter 20): edges, latches, serial frames, line faults and transfers; O35.
-/
namespace Sys2Proof.Machine

/-! ### What captures, counts and pushed inputs leave of an encoder -/

section
variable {α : Type} (g : Encoder → α)
  (hg : ∀ (e : Encoder) started stopAt capture coincident, g { e with started, stopAt, capture, coincident } = g e)
include hg

theorem capEnd_enc_keep (n t0 : Nat) (c0 : Int) (s : State) : g ((capEnd n t0 c0 s).enc n) = g (s.enc n) := by
  rw [capEnd_enc]
  exact hg ..

/-- What of an encoder no capture writes stands when a capture event occurs (R752). -/
theorem capEvent_enc_keep (n k : Nat) (s : State) : g ((capEvent n k s).enc n) = g (s.enc n) := by
  have hstart (e : Encoder) (o : Option (Nat × Int)) : g { e with started := o } = g e := hg e o e.stopAt e.capture e.coincident
  have hstop (e : Encoder) (o : Option Nat) : g { e with stopAt := o } = g e := hg e e.started o e.capture e.coincident
  have hboth (e : Encoder) (o : Option (Nat × Int)) (p : Option Nat) : g { e with started := o, stopAt := p } = g e :=
    hg e o p e.capture e.coincident
  unfold capEvent
  dsimp only
  (repeat' split) <;> simp only [capEnd_enc_keep g hg, State.setEnc_same, hstop, hstart, hboth]

/-- What of an encoder neither a count nor a capture writes stands when it counts (R746, R752). -/
theorem setCount_enc_keep (hcount : ∀ (e : Encoder) count, g { e with count } = g e) (n : Nat) (v : Int) (s : State) :
    g ((setCount n v s).enc n) = g (s.enc n) := by
  unfold setCount
  dsimp only
  (repeat' split) <;> simp only [capEvent_enc_keep g hg, State.setEnc_same, hcount]

end

@[simp] theorem toPe_enc (d : Nat) (i : PeInput) (s : State) (n : Nat) : (toPe d i s).enc n = s.enc n := by
  unfold toPe
  dsimp only
  split <;> simp [State.enc]

/-! ### Making records -/

theorem raiseTimed_making_prefix (b : Blk) (i num cls : Nat) (args : List Int) (time : Nat) (s : State) :
    s.sp.making <+: (raiseTimed b i num cls args time s).sp.making := by
  unfold raiseTimed
  split
  · simp only [pushRec]
    (repeat' split) <;> simp
  · exact List.prefix_rfl

theorem capEnd_making_prefix (n t0 : Nat) (c0 : Int) (s : State) : s.sp.making <+: (capEnd n t0 c0 s).sp.making := by
  have hsp (e : Encoder) : (s.setEnc n e).sp = s.sp := rfl
  unfold capEnd
  dsimp only
  rw [← hsp]
  exact raiseTimed_making_prefix ..

theorem capEvent_making_prefix (n k : Nat) (s : State) : s.sp.making <+: (capEvent n k s).sp.making := by
  have hend (t0 : Nat) (c0 : Int) (e : Encoder) : s.sp.making <+: (capEnd n t0 c0 (s.setEnc n e)).sp.making :=
    capEnd_making_prefix n t0 c0 (s.setEnc n e)
  unfold capEvent
  dsimp only
  (repeat' split) <;> simp [hend]

/-! ### Edges -/

/-- An edge to an adjacent state counts one in its direction and is noted (R744). -/
theorem quadratureEdge_adjacent {n : Nat} {s : State} {a b : Bool} (hon : enOn s n = true) (hmode : (s.enc n).mode = 1 ∨ (s.enc n).mode = 2)
    (hlines : (s.enc n).fault % 4 = 0) (hdir : quadDir (s.enc n).a (s.enc n).b a b ≠ 0) :
    ((quadratureEdge n a b s).enc n).count =
        ((countOne n (quadDir (s.enc n).a (s.enc n).b a b) (s.setEnc n { s.enc n with a, b })).enc n).count ∧
      ((quadratureEdge n a b s).enc n).dir = quadDir (s.enc n).a (s.enc n).b a b ∧
      ((quadratureEdge n a b s).enc n).edgeAt = some (quadratureEdge n a b s).tk.now := by
  have hone : ¬ ((s.enc n).a ≠ a ∧ (s.enc n).b ≠ b) := by
    rintro ⟨ha, hb⟩
    exact hdir (by simp [quadDir, ha, hb])
  have hboth : ((s.enc n).a != a && (s.enc n).b != b) = false := by
    simpa using hone
  unfold quadratureEdge
  rw [if_pos ⟨hon, hmode⟩]
  dsimp only
  rw [if_neg (by omega), hboth, if_neg (by decide), if_neg hdir]
  refine ⟨?_, ?_, ?_⟩ <;> simp only [State.setEnc_same] <;> (repeat' split) <;> rfl

theorem countOne_free_count {n : Nat} {d : Int} {s : State} (h : (s.enc n).mode = 2) :
    ((countOne n d s).enc n).count = signed 32 (unsigned 32 ((s.enc n).count + d)) := by
  unfold countOne
  dsimp only
  rw [if_neg (by omega)]
  split <;> simp

theorem countOne_limit_count {n : Nat} {d : Int} {s : State} (h : (s.enc n).mode = 1) :
    ((countOne n d s).enc n).count = max (s.enc n).lo (min (s.enc n).hi ((s.enc n).count + d)) := by
  unfold countOne
  dsimp only
  rw [if_pos h]
  split <;> simp

theorem edgeState_enOn (n : Nat) (s : State) : enOn (edgeState n s) n = enOn s n := by
  simp only [enOn, State.isOn, State.dom, show (edgeState n s).doms = s.doms from congrArg EdgeView.doms (edgeState_edgeView n s)]

theorem edgeState_mode (n : Nat) (s : State) : ((edgeState n s).enc n).mode = (s.enc n).mode := congrArg EdgeView.mode (edgeState_edgeView n s)

theorem edgeState_fault (n : Nat) (s : State) : ((edgeState n s).enc n).fault = (s.enc n).fault :=
  congrArg EdgeView.fault (edgeState_edgeView n s)

theorem edgeState_lo (n : Nat) (s : State) : ((edgeState n s).enc n).lo = (s.enc n).lo := congrArg EdgeView.lo (edgeState_edgeView n s)

theorem edgeState_hi (n : Nat) (s : State) : ((edgeState n s).enc n).hi = (s.enc n).hi := congrArg EdgeView.hi (edgeState_edgeView n s)

theorem toPe_cnt (d : Nat) (i : PeInput) (s : State) {k : Nat} (hk : k ≠ cntXing) : (toPe d i s).regs.cnt.get k 0 = s.regs.cnt.get k 0 := by
  have hoffer : (offerOpen d 9 s).regs.cnt.get k 0 = s.regs.cnt.get k 0 := by
    unfold offerOpen
    split
    · rfl
    · exact bumpBy_cnt_other _ _ _ _ _ hk
  unfold toPe
  dsimp only
  split
  · exact hoffer
  · exact hoffer

/-- The latch of the speed at `t` (R745). -/
def latchAt (n t : Nat) (s : State) : State :=
  let s := advanceTo t s
  let e := s.enc n
  let v := speedNow s n t
  let s := s.setEnc n { e with speed := v, latchAt := t, latchEarly := false, ref := if e.used.isSome then e.used else e.ref, used := none }
  if e.mode = 0 then s
  else
    (s.channelList.filter fun c => bitOf (peMap s c t) 17 && fld (peMap s c t) 15 2 == n).foldl
      (fun s c => toPe 14 { src := 6, ch := c, stamp := t, v, usable := !e.stale } s) s

theorem takeLatch_of_on {n : Nat} {s : State} (h : enOn s n = true) :
    takeLatch n s = latchAt n (boundary 250000 (s.enc n).latchAt s.tk.now) s := by
  simp only [takeLatch, h, if_true, latchAt]

/-- What neither the clock, the encoder nor an input to the print engine touches stands when a speed is latched. -/
theorem latchAt_keep {α : Type} (p : State → α) (hadv : ∀ t s, p (advanceTo t s) = p s) (henc : ∀ (s : State) n e, p (s.setEnc n e) = p s)
    (hpe : ∀ d i s, p (toPe d i s) = p s) (n t : Nat) (s : State) : p (latchAt n t s) = p s := by
  unfold latchAt
  dsimp only
  split
  · rw [henc, hadv]
  · rw [foldl_keep p _ fun _ _ => hpe .., henc, hadv]

theorem takeLatch_keep {α : Type} (p : State → α) (hadv : ∀ t s, p (advanceTo t s) = p s) (henc : ∀ (s : State) n e, p (s.setEnc n e) = p s)
    (hpe : ∀ d i s, p (toPe d i s) = p s) (n : Nat) (s : State) : p (takeLatch n s) = p s := by
  by_cases hon : enOn s n = true
  · rw [takeLatch_of_on hon, latchAt_keep p hadv henc hpe]
  · simp only [takeLatch, hon, if_false, Bool.false_eq_true]

theorem takeLatch_cnt (n : Nat) (s : State) {k : Nat} (hk : k ≠ cntXing) : (takeLatch n s).regs.cnt.get k 0 = s.regs.cnt.get k 0 :=
  takeLatch_keep (fun s : State => s.regs.cnt.get k 0) (fun _ _ => rfl) (fun _ _ _ => rfl) (fun d i s => toPe_cnt d i s hk) n s

/-- A latch of the speed on the way to an edge counts nothing but words discarded (R765). -/
theorem edgeState_cnt (n : Nat) (s : State) {k : Nat} (hk : k ≠ cntXing) : (edgeState n s).regs.cnt.get k 0 = s.regs.cnt.get k 0 := by
  have hlatch : (latchFirst n s).regs.cnt.get k 0 = s.regs.cnt.get k 0 := by
    unfold latchFirst
    split
    · exact takeLatch_cnt n s hk
    · rfl
  unfold edgeState
  dsimp only
  split
  · exact hlatch
  · exact hlatch

/-- The counter of an encoder's errors is not that of discarded words. -/
theorem enKey_ne_cntXing {n : Nat} {s : State} (hon : enOn s n = true) : enKey n 0x18 ≠ cntXing := by
  simp only [enOn, Bool.and_eq_true, decide_eq_true_eq] at hon
  simp only [enKey, cntXing]
  omega

/-- A QUADRATURE_EDGE to an adjacent state counts as one count does, in its direction, and is noted. -/
theorem runs_quadratureEdge_adjacent {s : State} {n held : Nat} {a b : Bool} (hp : s.power = .on) (hon : enOn s n = true)
    (hheld : (s.enc n).filterN ≤ held) (hmode : (s.enc n).mode = 1 ∨ (s.enc n).mode = 2) (hlines : (s.enc n).fault % 4 = 0)
    (hdir : quadDir (s.enc n).a (s.enc n).b a b ≠ 0) :
    Runs (.quadratureEdge n a b held) s fun t => ∃ u : State,
      (u.enc n).mode = (s.enc n).mode ∧ (u.enc n).lo = (s.enc n).lo ∧ (u.enc n).hi = (s.enc n).hi ∧ (u.enc n).count = (s.enc n).count ∧
        (t.enc n).count = ((countOne n (quadDir (s.enc n).a (s.enc n).b a b) u).enc n).count ∧
        (t.enc n).dir = quadDir (s.enc n).a (s.enc n).b a b ∧ (t.enc n).edgeAt = some t.tk.now := by
  obtain ⟨hcount, hdir', hat⟩ := quadratureEdge_adjacent (n := n) (s := edgeState n s) (a := a) (b := b) (by rwa [edgeState_enOn])
    (by rwa [edgeState_mode]) (by rwa [edgeState_fault]) (by simpa using hdir)
  refine ⟨_, exec_quadratureEdge a b hp hon hheld, (edgeState n s).setEnc n { (edgeState n s).enc n with a, b }, ?_⟩
  rw [edgeState_a, edgeState_b] at hcount hdir'
  refine ⟨?_, ?_, ?_, ?_, hcount, hdir', hat⟩ <;> simp [edgeState_mode, edgeState_lo, edgeState_hi]

/-- A change of both lines counts nothing, and is counted and raised (R744). -/
theorem quadratureEdge_bothLines {n : Nat} {s : State} {a b : Bool} (hp : s.power = .on) (hon : enOn s n = true)
    (hmode : (s.enc n).mode = 1 ∨ (s.enc n).mode = 2) (hlines : (s.enc n).fault % 4 = 0) (ha : (s.enc n).a ≠ a) (hb : (s.enc n).b ≠ b) :
    ((quadratureEdge n a b s).enc n).count = (s.enc n).count ∧ ((quadratureEdge n a b s).enc n).a = a ∧
      ((quadratureEdge n a b s).enc n).b = b ∧ Counted s (quadratureEdge n a b s) (enKey n 0x18) ∧
      Raised s (quadratureEdge n a b s) .en n 3 1 [(s.enc n).count] := by
  have hedge : quadratureEdge n a b s =
      let u := bump (enKey n 0x18) (s.setEnc n { s.enc n with a, b })
      raise .en n 3 1 [(s.enc n).count] (u.setEnc n { u.enc n with fresh := true, used := none }) := by
    simp [quadratureEdge, hon, hmode, hlines, ha, hb]
  rw [hedge]
  refine ⟨by simp, by simp, by simp, ?_, raised_raise _ _ _ _ _ (by simpa using hp) (by simp)⟩
  simp only [Counted, raise_cnt]
  exact bumpBy_cnt ..

theorem runs_quadratureEdge_bothLines {s : State} {n held : Nat} {a b : Bool} (hp : s.power = .on) (hon : enOn s n = true)
    (hheld : (s.enc n).filterN ≤ held) (hmode : (s.enc n).mode = 1 ∨ (s.enc n).mode = 2) (hlines : (s.enc n).fault % 4 = 0)
    (ha : (s.enc n).a ≠ a) (hb : (s.enc n).b ≠ b) :
    Runs (.quadratureEdge n a b held) s fun t =>
      (t.enc n).count = (s.enc n).count ∧ (t.enc n).a = a ∧ (t.enc n).b = b ∧ Counted s t (enKey n 0x18) ∧
        Raised s t .en n 3 1 [(s.enc n).count] := by
  have hpower : (edgeState n s).power = .on := (congrArg EdgeView.power (edgeState_edgeView n s)).trans hp
  obtain ⟨hcount, ha', hb', hkey, hraised⟩ := quadratureEdge_bothLines (n := n) (s := edgeState n s) (a := a) (b := b) hpower
    (by rwa [edgeState_enOn]) (by rwa [edgeState_mode]) (by rwa [edgeState_fault]) (by simpa using ha) (by simpa using hb)
  refine ⟨_, exec_quadratureEdge a b hp hon hheld, by simpa using hcount, ha', hb', ?_, ?_⟩
  · rw [Counted, edgeState_cnt _ _ (enKey_ne_cntXing hon)] at hkey
    exact hkey
  · simpa [Raised] using hraised

/-! ### INDEX, Z and levels held too short -/

theorem runs_index {s : State} {n held : Nat} (hp : s.power = .on) (hon : enOn s n = true) (hheld : (s.enc n).filterN ≤ held)
    (hmode : (s.enc n).mode = 1 ∨ (s.enc n).mode = 2) (hline : (s.enc n).fault / 4 % 2 = 0) :
    Runs (.index n held) s fun t => (t.enc n).index = (s.enc n).count ∧ (t.enc n).count = (s.enc n).count ∧
      Raised s t .en n 2 0 [(s.enc n).count] := by
  refine ⟨_, exec_index hp hon hheld hmode hline, ?_, ?_, ?_⟩
  · rw [capEvent_enc_keep Encoder.index (fun _ _ _ _ _ => rfl)]
    simp [indexState]
  · rw [capEvent_count]
    simp [indexState]
  · exact (raised_raise _ _ _ _ _ (by simpa using hp) (by simp)).mono (capEvent_making_prefix ..)

theorem capEvent_start {n k : Nat} {s : State} (hen : bitOf (enConfig s n) 3 = true) (hstart : fld (enConfig s n) 26 2 = k)
    (hstop : fld (enConfig s n) 24 2 ≠ k) (hidle : (s.enc n).started = none) (hlast : (s.enc n).stopAt = none) :
    ((capEvent n k s).enc n).started = some (s.tk.now, (s.enc n).count) := by
  simp [capEvent, hen, hstart, hstop, hidle, hlast]

theorem runs_zFallingEdge {s : State} {n held : Nat} (hp : s.power = .on) (hon : enOn s n = true) (hheld : (s.enc n).filterN ≤ held)
    (hmode : (s.enc n).mode = 1 ∨ (s.enc n).mode = 2) (hline : (s.enc n).fault / 4 % 2 = 0) (hen : bitOf (enConfig s n) 3 = true)
    (hstart : fld (enConfig s n) 26 2 = 1) (hstop : fld (enConfig s n) 24 2 ≠ 1) (hidle : (s.enc n).started = none)
    (hlast : (s.enc n).stopAt = none) :
    Runs (.zFallingEdge n held) s fun t => (t.enc n).started = some (s.tk.now, (s.enc n).count) := by
  refine runs_mainOn rfl hp ?_
  unfold zFalling
  dsimp only
  rw [if_pos ⟨hon, hmode, hline, decide_eq_true hheld⟩, capEvent_start] <;> simp [*]

theorem runs_heldShort {s : State} {n held : Nat} (a b : Bool) (hp : s.power = .on) (hheld : held < (s.enc n).filterN) :
    Runs (.quadratureEdge n a b held) s (· = s) ∧ Runs (.index n held) s (· = s) ∧ Runs (.zFallingEdge n held) s (· = s) := by
  have hshort : ¬ accepted s n held = true := by simp [accepted, hheld]
  refine ⟨runs_mainOn (u := abEdge n a b held s) rfl hp ?_, runs_mainOn (u := indexEdge n held s) rfl hp ?_,
    runs_mainOn (u := zFalling n held s) rfl hp ?_⟩
  · exact if_neg fun h => hshort h.2
  · exact if_neg fun h => hshort h.2.2.2
  · exact if_neg fun h => hshort h.2.2.2

/-! ### Speed -/

theorem runs_speedLatch_early {s : State} {n : Nat} (hp : s.power = .on) (hearly : (s.enc n).latchEarly = true)
    (hat : (s.enc n).latchAt = s.tk.now) :
    Runs (.speedLatch n) s fun t => (t.enc n).latchEarly = false ∧ (t.enc n).speed = (s.enc n).speed ∧ t.pe = s.pe := by
  refine runs_mainOn rfl hp ?_
  simp [speedLatch, hearly, hat]

theorem latchAt_enc (n t : Nat) (s : State) :
    (latchAt n t s).enc n = { s.enc n with
      speed := speedNow (advanceTo t s) n t, latchAt := t, latchEarly := false,
      ref := if (s.enc n).used.isSome then (s.enc n).used else (s.enc n).ref, used := none } := by
  unfold latchAt
  dsimp only
  split
  · rw [State.setEnc_same]; rfl
  · rw [foldl_keep (State.enc · n) _ fun _ _ => toPe_enc .., State.setEnc_same]; rfl

theorem runs_speedLatch {s : State} {n : Nat} (hp : s.power = .on) (hon : enOn s n = true) (hearly : (s.enc n).latchEarly = false) :
    Runs (.speedLatch n) s fun t =>
      (t.enc n).latchAt = boundary 250000 (s.enc n).latchAt s.tk.now ∧
        (t.enc n).speed = speedNow s n (boundary 250000 (s.enc n).latchAt s.tk.now) := by
  have hlatch : speedLatch n s = takeLatch n s := by simp [speedLatch, hearly]
  have hall (t : Nat) : ((latchAt n t s).enc n).latchAt = t ∧ ((latchAt n t s).enc n).speed = speedNow s n t := by
    rw [latchAt_enc]
    exact ⟨rfl, rfl⟩
  refine runs_mainOn (u := speedLatch n s) rfl hp ?_
  rw [hlatch, takeLatch_of_on hon]
  exact hall _

/-! ### Serial frames (R748) -/

/-- The state after the time and the clocks of a serial frame. -/
def frameState (n : Nat) (f : FrameIn) (s : State) : State :=
  let e := s.enc n
  let cfg := enSerial s n
  let u := advanceTo (boundary (max 1 (fld cfg 16 8) * 10000) e.frameAt s.tk.now) s
  if e.mode = 4 then send (.encClock n (10 * fld cfg 8 8) none) u
  else if f.ready then send (.encClock n (10 * fld cfg 8 8) (some (fld cfg 0 6 + 1))) u else u

theorem frameState_keep {α : Type} (g : State → α) (hadv : ∀ t u, g (advanceTo t u) = g u) (hsend : ∀ x u, g (send x u) = g u)
    (n : Nat) (f : FrameIn) (s : State) : g (frameState n f s) = g s := by
  unfold frameState
  dsimp only
  split
  · rw [hsend, hadv]
  · split
    · rw [hsend, hadv]
    · rw [hadv]

/-- The position that a good frame gives (R748). -/
def framePos (s : State) (n : Nat) (f : FrameIn) : Nat :=
  if (s.enc n).mode = 3 ∧ bitOf (enSerial s n) 6 then grayToBin (fld (enSerial s n) 0 6) 0 (f.data % 2 ^ fld (enSerial s n) 0 6)
  else f.data % 2 ^ fld (enSerial s n) 0 6

/-- The boundary at which a serial frame is read (R748). -/
def frameTime (s : State) (n : Nat) : Nat := boundary (max 1 (fld (enSerial s n) 16 8) * 10000) (s.enc n).frameAt s.tk.now

/-- The encoder once a good frame is taken, but for its count. -/
def goodFrameEnc (s : State) (n : Nat) (f : FrameIn) : Encoder :=
  let pair := match (s.enc n).pos with
    | some (q, tq) => some (serialChange (fld (enSerial s n) 0 6) (framePos s n f) q, frameTime s n - tq)
    | none => none
  let turn := (pair.map (·.1.sign)).getD 0
  { s.enc n with
    frameAt := frameTime s n, pos := some (framePos s n f, frameTime s n), pair := if turn * (s.enc n).dir < 0 then none else pair,
    dir := if turn = 0 then (s.enc n).dir else turn, fails := 0, stale := (s.enc n).fault % 2 != 0 }

/-- The events of a good frame: the error and the warning of a BiSS encoder (R749). -/
def goodFrameEvents (s : State) (n : Nat) (f : FrameIn) (u : State) : State :=
  let u := if (s.enc n).mode = 4 && !f.nE then raise .en n 5 2 [(framePos s n f : Nat)] u else u
  if (s.enc n).mode = 4 && !f.nW then raise .en n 6 1 [(framePos s n f : Nat)] u else u

/-- The encoder once a bad frame is taken. -/
def badFrameEnc (s : State) (n : Nat) : Encoder :=
  { s.enc n with
    frameAt := frameTime s n, fails := min 8 ((s.enc n).fails + 1), stale := (s.enc n).stale || min 8 ((s.enc n).fails + 1) == 8 }

/-- The state once a bad frame is taken and counted, before its events. -/
def badFrameState (s : State) (n : Nat) (f : FrameIn) : State := bump (enKey n 0x18) ((frameState n f s).setEnc n (badFrameEnc s n))

section
variable {s : State} {n : Nat} {f : FrameIn} (hon : enOn s n = true) (hmode : (s.enc n).mode = 3 ∨ (s.enc n).mode = 4)
include hon hmode

theorem serialFrame_enc_of_good (hgood : frameFault (s.enc n).mode (enSerial s n) f = none) :
    (serialFrame n f s).enc n =
      (setCount n (signed 32 (framePos s n f)) ((frameState n f s).setEnc n (goodFrameEnc s n f))).enc n := by
  have hevents : serialFrame n f s =
      goodFrameEvents s n f (setCount n (signed 32 (framePos s n f)) ((frameState n f s).setEnc n (goodFrameEnc s n f))) := by
    unfold serialFrame
    dsimp only
    rw [if_pos ⟨hon, hmode⟩, hgood]
    rfl
  rw [hevents]
  unfold goodFrameEvents
  dsimp only
  split <;> split <;> simp only [raise_enc]

theorem runs_serialFrame_good (hp : s.power = .on) (hgood : frameFault (s.enc n).mode (enSerial s n) f = none) :
    Runs (.serialFrame n f) s fun t =>
      (t.enc n).fails = 0 ∧ (t.enc n).pos = some (framePos s n f, (t.enc n).frameAt) ∧ (t.enc n).count = signed 32 (framePos s n f) := by
  refine runs_mainOn (u := serialFrame n f s) rfl hp ?_
  rw [serialFrame_enc_of_good hon hmode hgood, setCount_count,
    setCount_enc_keep Encoder.fails (fun _ _ _ _ _ => rfl) (fun _ _ => rfl),
    setCount_enc_keep Encoder.pos (fun _ _ _ _ _ => rfl) (fun _ _ => rfl),
    setCount_enc_keep Encoder.frameAt (fun _ _ _ _ _ => rfl) (fun _ _ => rfl), State.setEnc_same]
  exact ⟨rfl, rfl, rfl⟩

theorem serialFrame_of_bad {k : Nat} (hbad : frameFault (s.enc n).mode (enSerial s n) f = some k) :
    serialFrame n f s = raise .en n 4 1 [(k : Nat)] (badFrameState s n f) ∨
      serialFrame n f s = raise .en n 8 1 [] (raise .en n 4 1 [(k : Nat)] (badFrameState s n f)) := by
  unfold serialFrame
  dsimp only
  rw [if_pos ⟨hon, hmode⟩, hbad]
  dsimp only
  split
  · exact .inr rfl
  · exact .inl rfl

theorem runs_serialFrame_bad {k : Nat} (hp : s.power = .on) (hbad : frameFault (s.enc n).mode (enSerial s n) f = some k) :
    Runs (.serialFrame n f) s fun t =>
      (t.enc n).fails = min 8 ((s.enc n).fails + 1) ∧ (t.enc n).count = (s.enc n).count ∧ Counted s t (enKey n 0x18) ∧
        Raised s t .en n 4 1 [(k : Nat)] := by
  have hpower : (badFrameState s n f).power = .on := (frameState_keep State.power (fun _ _ => rfl) (fun _ _ => rfl) n f s).trans hp
  have hsp : (badFrameState s n f).sp = s.sp := frameState_keep State.sp (fun _ _ => rfl) (fun _ _ => rfl) n f s
  have hregs : (frameState n f s).regs = s.regs := frameState_keep State.regs (fun _ _ => rfl) (fun _ _ => rfl) n f s
  have henc : (badFrameState s n f).enc n = badFrameEnc s n := State.setEnc_same ..
  have hcount : Counted s (badFrameState s n f) (enKey n 0x18) := by
    have h := bumpBy_cnt (enKey n 0x18) 0xFFFFFFFF 1 ((frameState n f s).setEnc n (badFrameEnc s n))
    rwa [show ((frameState n f s).setEnc n (badFrameEnc s n)).regs = s.regs from hregs] at h
  have hraised : Raised s (raise .en n 4 1 [(k : Nat)] (badFrameState s n f)) .en n 4 1 [(k : Nat)] := raised_raise _ _ _ _ _ hpower (by rw [hsp])
  refine runs_mainOn (u := serialFrame n f s) rfl hp ?_
  obtain h | h := serialFrame_of_bad hon hmode hbad
  · rw [h]
    refine ⟨?_, ?_, ?_, hraised⟩
    · rw [raise_enc, henc]; rfl
    · rw [raise_enc, henc]; rfl
    · rw [Counted, raise_cnt]; exact hcount
  · rw [h]
    refine ⟨?_, ?_, ?_, hraised.mono (raise_making_prefix ..)⟩
    · rw [raise_enc, raise_enc, henc]; rfl
    · rw [raise_enc, raise_enc, henc]; rfl
    · rw [Counted, raise_cnt, raise_cnt]; exact hcount

end

/-! ### Line faults (R750) -/

section
variable {s : State} {n l : Nat} (hp : s.power = .on) (hon : enOn s n = true) (hl : l < 3)
include hp hon hl

theorem runs_lineFault (hnew : (s.enc n).fault / 2 ^ l % 2 = 0) :
    Runs (.lineFault n l) s fun t => (t.enc n).fault = (s.enc n).fault + 2 ^ l ∧ Raised s t .en n 7 2 [(l : Nat)] := by
  refine runs_mainOn (u := lineFault n l s) rfl hp ?_
  unfold lineFault
  dsimp only
  rw [if_pos ⟨hon, hl, hnew⟩]
  split
  · refine ⟨by simp, Raised.mono ?_ (raise_making_prefix ..)⟩
    exact raised_raise _ _ _ _ _ hp rfl
  · exact ⟨by simp, raised_raise _ _ _ _ _ hp rfl⟩

theorem runs_lineFaultEnd (hold : (s.enc n).fault / 2 ^ l % 2 = 1) :
    Runs (.lineFaultEnd n l) s fun t => (t.enc n).fault = (s.enc n).fault - 2 ^ l := by
  refine runs_mainOn (u := lineFaultEnd n l s) rfl hp ?_
  unfold lineFaultEnd
  dsimp only
  rw [if_pos ⟨hon, hl, hold⟩, State.setEnc_same]

end

/-! ### The sensor port (chapter 20) -/

theorem toPe_en (d : Nat) (i : PeInput) (s : State) : (toPe d i s).en = s.en := by
  unfold toPe
  dsimp only
  split <;> simp

theorem toPe_tk (d : Nat) (i : PeInput) (s : State) : (toPe d i s).tk = s.tk := by
  unfold toPe
  dsimp only
  split <;> simp

theorem snStart_of_idle {s : State} (h : s.en.sn.waiting = []) : snStart s = s := by
  unfold snStart
  simp [h]

/-- The transfer that a free sensor port starts (R754). -/
theorem snStart_of_waiting {s : State} {k : Nat} {rest : List Nat} (hb : s.en.sn.busy = none) (hw : s.en.sn.waiting = k :: rest)
    (hr : snRuns s = true) :
    (snStart s).en.sn = { s.en.sn with waiting := rest, busy := some (k, s.en.sn.entries.getD k [], max s.tk.now s.en.sn.freeAt) } ∧
      (snStart s).tk = s.tk := by
  unfold snStart
  simp only [hb, hw, hr]
  exact ⟨rfl, rfl⟩

/-- The sensor port at the due time `d` of its one entry `k`, which then waits (R755). -/
def sensorDue (k d : Nat) (s : State) : State := (advanceTo d s).setSn { s.en.sn with dueAt := d, waiting := [k] }

theorem sensorPollDue_of_one {s : State} {k : Nat} (hr : snRuns s = true) (hlive : snLive s = [k]) (hw : s.en.sn.waiting = []) :
    sensorPollDue s = snStart (sensorDue k (snNext (s.en.sn.entries.getD k []) s.en.sn.dueAt) s) := by
  have hlive' (t : Nat) : snLive (advanceTo t s) = [k] := hlive
  have hsn (t : Nat) : (advanceTo t s).en.sn = s.en.sn := rfl
  unfold sensorPollDue
  rw [if_pos hr]
  simp only [hlive, List.foldl_cons, List.foldl_nil, hlive', List.filter_cons, List.filter_nil, beq_self_eq_true, if_true, hsn, State.setSn, hw,
    List.contains_nil, Bool.false_eq_true, if_false, List.nil_append]
  rfl

theorem runs_sensorPollDue {s : State} {k : Nat} (hp : s.power = .on) (hr : snRuns s = true) (hlive : snLive s = [k])
    (hw : s.en.sn.waiting = []) (hb : s.en.sn.busy = none) :
    Runs .sensorPollDue s fun t =>
      t.en.sn.busy = some (k, s.en.sn.entries.getD k [], max t.tk.now s.en.sn.freeAt) ∧
        t.en.sn.dueAt = snNext (s.en.sn.entries.getD k []) s.en.sn.dueAt ∧ t.tk.now = max s.tk.now t.en.sn.dueAt := by
  refine runs_mainOn (u := sensorPollDue s) rfl hp ?_
  rw [sensorPollDue_of_one hr hlive hw]
  obtain ⟨hsn, htk⟩ := snStart_of_waiting (s := sensorDue k (snNext (s.en.sn.entries.getD k []) s.en.sn.dueAt) s) (rest := []) hb rfl hr
  rw [hsn, htk]
  exact ⟨rfl, rfl, advanceTo_now ..⟩

/-- The state after a sensor's transfer, before its value goes to the print engine and into a record (R756). -/
def sensorRead (k : Nat) (v : Int) (at0 d : Nat) (s : State) : State :=
  (advanceTo d s).setSn { s.en.sn with busy := none, freeAt := (advanceTo d s).tk.now + 100, value := s.en.sn.value.put k (v, at0) }

theorem runs_sensorTransferDone {s : State} {rx : List Byte} {k : Nat} {d : List Byte} {at0 : Nat} (hp : s.power = .on) (hon : s.isOn 14 = true)
    (hb : s.en.sn.busy = some (k, d, at0)) (hw : s.en.sn.waiting = []) :
    Runs (.sensorTransferDone rx) s fun t =>
      t.en.sn.busy = none ∧ t.en.sn.freeAt = t.tk.now + 100 ∧
        t.en.sn.value.find k = some (snResult d ((rx ++ List.replicate (dU8 d 3) 0).take (dU8 d 3)), at0) := by
  refine runs_mainOn (u := sensorTransferDone rx s) rfl hp ?_
  unfold sensorTransferDone
  rw [hb]
  dsimp only
  rw [if_pos hon]
  have hdone (u : State) (hen : u.en = (sensorRead k (snResult d ((rx ++ List.replicate (dU8 d 3) 0).take (dU8 d 3))) at0
      (at0 + (2 * 8 * dU8 d 3 + 1) * dU8 d 2 * 5) s).en) (htk : u.tk = (advanceTo (at0 + (2 * 8 * dU8 d 3 + 1) * dU8 d 2 * 5) s).tk) :
      (snStart u).en.sn.busy = none ∧ (snStart u).en.sn.freeAt = (snStart u).tk.now + 100 ∧
        (snStart u).en.sn.value.find k = some (snResult d ((rx ++ List.replicate (dU8 d 3) 0).take (dU8 d 3)), at0) := by
    rw [snStart_of_idle (by rw [hen]; exact hw), hen, htk]
    exact ⟨rfl, rfl, Tab.find_put_same ..⟩
  split
  · refine hdone _ ?_ ?_
    · rw [raiseTimed_en]
      exact foldl_keep State.en _ (fun _ _ => toPe_en ..) _ _
    · rw [raiseTimed_tk]
      exact foldl_keep State.tk _ (fun _ _ => toPe_tk ..) _ _
  · exact hdone _ (foldl_keep State.en _ (fun _ _ => toPe_en ..) _ _) (foldl_keep State.tk _ (fun _ _ => toPe_tk ..) _ _)

/-- Settles O35: levels held too short change nothing; an edge counts by its direction, or is raised where both lines change
(`runs_quadratureEdge_adjacent`, `runs_quadratureEdge_bothLines`); INDEX, a capture start, the speed latch, serial frames and line faults act on
their encoder, and the sensor port starts and ends its transfers. -/
theorem encoderCommandsComplete : Obligations.EncoderCommandsComplete := by
  refine ⟨fun s n a b held hp hon hh hm hf ha hb => runs_quadratureEdge_bothLines hp hon hh hm hf ha hb,
    fun s n a b held hp hon hh hm hf hd => ?_, fun s n a b held hp hon hh hm hf hd => ?_,
    fun s n held hp hon hh hm hf => runs_index hp hon hh hm hf,
    fun s n held hp hon hh hm hf he h1 h2 h3 h4 => runs_zFallingEdge hp hon hh hm hf he h1 h2 h3 h4,
    fun s n a b held hp hh => runs_heldShort a b hp hh, fun s n hp h1 h2 => runs_speedLatch_early hp h1 h2,
    fun s n hp h1 h2 => runs_speedLatch hp h1 h2, fun s n f hp hon hm hg => ?_, fun s n f k hp hon hm hb => runs_serialFrame_bad hon hm hp hb,
    fun s n l hp hon hl h => runs_lineFault hp hon hl h, fun s n l hp hon hl h => runs_lineFaultEnd hp hon hl h,
    fun s k hp hr hl hw hb => runs_sensorPollDue hp hr hl hw hb, fun s rx k d at0 hp hon hb hw => runs_sensorTransferDone hp hon hb hw⟩
  · refine (runs_quadratureEdge_adjacent hp hon hh (.inr hm) hf hd).imp ?_
    rintro t ⟨u, hmode, -, -, hcount, ht, hdir, hat⟩
    exact ⟨by rw [ht, countOne_free_count (hmode.trans hm), hcount], hdir, hat⟩
  · refine (runs_quadratureEdge_adjacent hp hon hh (.inl hm) hf hd).imp ?_
    rintro t ⟨u, hmode, hlo, hhi, hcount, ht, -, -⟩
    rw [ht, countOne_limit_count (hmode.trans hm), hlo, hhi, hcount]
  · exact (runs_serialFrame_good hon hm hp hg).imp fun t ⟨hfails, hpos, hcount⟩ => ⟨hfails, framePos s n f, hpos, hcount, rfl⟩

end Sys2Proof.Machine
end

section
/-!
SUPPORT. Completions, and the fixture buses (chapter 19): frames, errors, sleep and wake; O33 and O34.
-/
namespace Sys2Proof.Machine

/-! ### What a completion leaves alone (R269) -/

@[simp] theorem complete_power (r : Nat) (st : Status) (result detail : Nat) (s : State) : (complete r st result detail s).power = s.power :=
  complete_keep State.power (fun _ _ => rfl) (fun _ _ => raise_power ..) (fun _ _ _ => rfl) ..

@[simp] theorem complete_doms (r : Nat) (st : Status) (result detail : Nat) (s : State) : (complete r st result detail s).doms = s.doms :=
  complete_keep State.doms (fun _ _ => rfl) (fun _ _ => raise_doms ..) (fun _ _ _ => rfl) ..

@[simp] theorem complete_tk (r : Nat) (st : Status) (result detail : Nat) (s : State) : (complete r st result detail s).tk = s.tk :=
  complete_keep State.tk (fun _ _ => rfl) (fun _ _ => raise_tk ..) (fun _ _ _ => rfl) ..

@[simp] theorem complete_cn (r : Nat) (st : Status) (result detail : Nat) (s : State) : (complete r st result detail s).cn = s.cn :=
  complete_keep State.cn (fun _ _ => rfl) (fun _ _ => raise_cn ..) (fun _ _ _ => rfl) ..

@[simp] theorem complete_en (r : Nat) (st : Status) (result detail : Nat) (s : State) : (complete r st result detail s).en = s.en :=
  complete_keep State.en (fun _ _ => rfl) (fun _ _ => raise_en ..) (fun _ _ _ => rfl) ..

@[simp] theorem complete_can (r : Nat) (st : Status) (result detail : Nat) (s : State) (b : Nat) :
    (complete r st result detail s).can b = s.can b := by
  simp [State.can]

/-! ### A completion adds to the records under way and takes none away -/

section
variable {l : List (Nat × Rec)} {s : State} (h : l <+: s.sp.making)
include h

theorem raise_making_from (b : Blk) (i num cls : Nat) (args : List Int) : l <+: (raise b i num cls args s).sp.making :=
  h.trans (raise_making_prefix ..)

theorem makeEcho_making_from (r : Nat) (c : Cpl) (p : Bool) : l <+: (makeEcho r c p s).sp.making := h.trans (List.prefix_append ..)

theorem ringSettle_making_from (r : Nat) : l <+: (ringSettle r s).sp.making := by
  rwa [ringSettle_keep State.sp (fun _ _ => rfl)]

theorem cqCheck_making_from (r : Nat) : l <+: (cqCheck r s).sp.making := by
  unfold cqCheck
  dsimp only
  split
  · exact raise_making_from (s := s.setRing r _) h ..
  · exact h

theorem loseCompletion_making_from (r : Nat) : l <+: (loseCompletion r s).sp.making := by
  unfold loseCompletion
  dsimp only
  split
  · exact h
  · refine ringSettle_making_from (makeEcho_making_from (raise_making_from ?_ ..) ..) _
    exact h

theorem waits_making_from (r : Nat) : l <+: (if s.hl.link = .up then cqCheck r s else loseCompletion r s).sp.making := by
  split
  · exact cqCheck_making_from h r
  · exact loseCompletion_making_from h r

theorem complete_making_from (r : Nat) (st : Status) (result detail : Nat) : l <+: (complete r st result detail s).sp.making := by
  unfold complete
  dsimp only
  split
  · exact h
  · split
    · refine ringSettle_making_from (makeEcho_making_from ?_ ..) _
      exact h
    · refine waits_making_from ?_ _
      exact h

end

/-! ### The descriptor of a resource -/

/-- What is found in execution is in execution on its ring. -/
theorem exec_of_findExec {s : State} {p : Exec → Bool} {r : Nat} {e : Exec} (h : findExec s p = some (r, e)) : (s.ring r).exec = some e := by
  obtain ⟨q, -, hq⟩ := List.exists_of_findSome?_eq_some h
  split at hq
  · next e' he =>
    split at hq
    · cases hq
      exact he
    · cases hq
  · cases hq

theorem execOf_rg {s t : State} (h : t.rg = s.rg) (op n : Nat) : execOf t op n = execOf s op n := by
  simp only [execOf, findExec, State.ring, h]

theorem exec_of_execOf {s : State} {op n r : Nat} {e : Exec} (h : execOf s op n = some (r, e)) : (s.ring r).exec = some e := exec_of_findExec h

/-- The command that holds a resource completes, in a state with the rings of the one in which it was found. -/
theorem complete_done_of_execOf {s u : State} {op n r : Nat} {e : Exec} (h : execOf s op n = some (r, e)) (hrg : u.rg = s.rg) (st : Status)
    (result detail : Nat) : Done (complete r st result detail u) r e.d st result :=
  complete_done r st result detail u e ((congrArg Ring.exec (ring_of_rg hrg r)).trans (exec_of_execOf h))

/-! ### Frames received (R721–R724) -/

@[simp] theorem toPe_can (d : Nat) (i : PeInput) (s : State) (b : Nat) : (toPe d i s).can b = s.can b := by
  unfold toPe
  dsimp only
  split <;> simp [State.can]

theorem toPe_sp (d : Nat) (i : PeInput) (s : State) : (toPe d i s).sp = s.sp := by
  unfold toPe
  dsimp only
  split <;> simp

theorem toPe_power (d : Nat) (i : PeInput) (s : State) : (toPe d i s).power = s.power := by
  unfold toPe
  dsimp only
  split <;> simp

@[simp] theorem canRecord_can (b k : Nat) (f : CanFrame) (s : State) (n : Nat) : (canRecord b k f s).can n = s.can n := by
  unfold canRecord
  dsimp only
  split <;> simp [State.can]

/-- The record of a frame taken (R723). -/
theorem canRecord_raised {b k : Nat} {f : CanFrame} {s u : State} (hp : u.power = .on) (hmaking : u.sp.making = s.sp.making) :
    Raised s (canRecord b k f u) .cn b 0x20 0 ([(f.id : Int), ((at_ 0 4 f.dlc + at_ 4 1 (b2n f.esi) +
      at_ 5 1 (b2n (decide ((canBytes f).length > 32))) + at_ 8 5 k : Nat) : Int)] ++
        [0, 4, 8, 12, 16, 20].map fun o => ((leAt (canBytes f) o 4 : Nat) : Int)) := by
  unfold canRecord
  dsimp only
  split
  · refine Raised.mono (raised_raise _ _ _ _ _ hp hmaking) ?_
    simp [pushRec]
  · exact raised_raise _ _ _ _ _ hp hmaking

section
variable {s : State} {b : Nat} {f : CanFrame} (hp : s.power = .on) (hb : b < 2) (hon : s.isOn 13 = true) (hawake : (s.can b).depth ≠ .asleep)
  (hlive : canLive (s.can b) = true)
include hp hb hon hawake hlive

theorem runs_canFrameRx_taken {tec rec_ k : Nat} (hk : canTaker (s.can b).filters 1 f = some k) (hplaces : canPlaces s b < 16) :
    Runs (.canFrameRx b f tec rec_) s fun t =>
      (∃ x, (t.can b).boxes.find k = some x ∧ x.frame = { f with data := (canBytes f).take 32 } ∧ x.at_ = s.tk.now) ∧
      (t.can b).tec = tec ∧ (t.can b).rec_ = rec_ ∧
      Raised s t .cn b 0x20 0 ([(f.id : Int), ((at_ 0 4 f.dlc + at_ 4 1 (b2n f.esi) + at_ 5 1 (b2n (decide ((canBytes f).length > 32))) +
        at_ 8 5 k : Nat) : Int)] ++ [0, 4, 8, 12, 16, 20].map fun o => ((leAt (canBytes f) o 4 : Nat) : Int)) := by
  refine runs_mainOn (u := canRx b f tec rec_ s) rfl hp ?_
  unfold canRx
  dsimp only
  rw [if_pos ⟨hb, hon, hawake, hlive⟩, hk]
  dsimp only
  rw [if_pos hplaces]
  refine ⟨?_, ?_, ?_, ?_⟩
  · rw [canRecord_can, canToPe, toPe_can, State.setCan_same]
    exact ⟨_, Tab.find_put_same .., rfl, rfl⟩
  · rw [canRecord_can, canToPe, toPe_can, State.setCan_same]
  · rw [canRecord_can, canToPe, toPe_can, State.setCan_same]
  · exact canRecord_raised ((toPe_power ..).trans hp) (congrArg Spools.making (toPe_sp ..))

theorem runs_canFrameRx_untaken {tec rec_ : Nat} (hk : canTaker (s.can b).filters 1 f = none) :
    Runs (.canFrameRx b f tec rec_) s fun t => (t.can b).boxes = (s.can b).boxes ∧ (t.can b).tec = tec ∧ t.sp = s.sp := by
  refine runs_mainOn (u := canRx b f tec rec_ s) rfl hp ?_
  unfold canRx
  dsimp only
  rw [if_pos ⟨hb, hon, hawake, hlive⟩, hk]
  dsimp only
  rw [State.setCan_same]
  exact ⟨rfl, rfl, rfl⟩

end

/-! ### Frames sent (R282, R716) -/

@[simp] theorem execOf_setCan (s : State) (b : Nat) (x : CanBus) (op n : Nat) : execOf (s.setCan b x) op n = execOf s op n := rfl

/-- An attempt of a bus that has a frame to send and takes part in traffic (R716). -/
theorem canAttempt_of_live {s : State} {b r : Nat} {e : Exec} (he : execOf s 0x58 b = some (r, e)) (hsend : (s.can b).sending = true)
    (hlive : canLive (s.can b) = true) (hmode : (s.can b).mode = 1) (htxd : (s.can b).txdStop = false) :
    canAttempt b s = send (.can b (sendFrame (s.can b) e.d) (s.can b).timing)
      (s.setCan b { s.can b with tryAt := some ((s.can b).tryAt.getD s.tk.clk) }) := by
  simp [canAttempt, he, hsend, hlive, hmode, htxd]

section
variable {s : State} {b r : Nat} {e : Exec} (hp : s.power = .on) (hon : s.isOn 13 = true) (hsend : (s.can b).sending = true)
  (he : execOf s 0x58 b = some (r, e))
include hp hon hsend he

theorem runs_canFrameAcknowledged {tec rec_ tdc : Nat} (ht : (s.can b).tryAt ≠ none) :
    Runs (.canFrameAcknowledged b tec rec_ tdc) s fun t =>
      (t.can b).sending = false ∧ (t.can b).tec = tec ∧ (t.can b).tdc = tdc ∧ Done t r e.d .ok 0 := by
  have htry : (s.can b).tryAt.isSome = true := Option.isSome_iff_ne_none.mpr ht
  refine runs_mainOn (u := canAcked b tec rec_ tdc s) rfl hp ?_
  unfold canAcked
  dsimp only
  rw [hon, hsend, htry, if_pos (by decide), execOf_setCan, he]
  dsimp only
  refine ⟨?_, ?_, ?_, complete_done_of_execOf he (by rfl) ..⟩ <;> rw [complete_can, State.setCan_same]

theorem runs_canTxRetry {tec rec_ : Nat} (ht : (s.can b).tryAt ≠ none) (hlive : canLive (s.can b) = true) (hmode : (s.can b).mode = 1)
    (htxd : (s.can b).txdStop = false) :
    Runs (.canTxRetry b tec rec_) s fun t =>
      t.tx = .can b (sendFrame (s.can b) e.d) (s.can b).timing :: s.tx ∧ (t.can b).tec = tec ∧ (t.can b).tryAt = (s.can b).tryAt := by
  obtain ⟨t0, ht0⟩ := Option.ne_none_iff_exists'.mp ht
  have hretry : canRetry b tec rec_ s = canAttempt b (s.setCan b { s.can b with tec, rec_ }) := by
    simp [canRetry, hon, hsend, ht0]
  refine runs_mainOn (u := canRetry b tec rec_ s) rfl hp ?_
  rw [hretry, canAttempt_of_live (he := (execOf_setCan ..).trans he) (by rwa [State.setCan_same]) (by rwa [State.setCan_same])
    (by rwa [State.setCan_same]) (by rwa [State.setCan_same])]
  simp only [State.setCan_same, send_tx]
  refine ⟨rfl, ?_, ?_⟩
  · exact congrArg CanBus.tec (State.setCan_same ..)
  · refine (congrArg CanBus.tryAt (State.setCan_same ..)).trans ?_
    simp [ht0]

omit hp hon in
theorem canAbandon_of_sending {detail : Nat} : canAbandon b detail s =
    complete r .fault 0 detail (raise .cn b 6 1 [(dU32 e.d 0x10 : Nat), (detail : Nat)]
      (s.setCan b { s.can b with sending := false, tryAt := none })) := by
  unfold canAbandon
  dsimp only
  rw [hsend, if_pos rfl, execOf_setCan, he]

omit hp hon in
theorem canAbandon_after {u : State} {detail : Nat} (hcn : u.cn = s.cn) (hrg : u.rg = s.rg) (hpower : u.power = .on) (hsp : u.sp = s.sp) :
    ((canAbandon b detail u).can b).sending = false ∧ Done (canAbandon b detail u) r e.d .fault 0 ∧ (canAbandon b detail u).tk = u.tk ∧
      Raised s (canAbandon b detail u) .cn b 6 1 [(dU32 e.d 0x10 : Nat), (detail : Nat)] := by
  have hsend' : (u.can b).sending = true := by rwa [State.can, hcn]
  have he' : execOf u 0x58 b = some (r, e) := (execOf_rg hrg ..).trans he
  rw [canAbandon_of_sending hsend' he']
  refine ⟨?_, complete_done_of_execOf he' ?_ .., ?_, Raised.mono ?_ (complete_making_from List.prefix_rfl ..)⟩
  · rw [complete_can, raise_can, State.setCan_same]
  · rw [raise_rg, State.setCan_rg]
  · rw [complete_tk, raise_tk, State.setCan_tk]
  · exact raised_raise _ _ _ _ _ hpower (congrArg Spools.making hsp)

/-- The frame is abandoned 10 ms after its first attempt (R282). -/
theorem runs_canTxTimeout {t0 : Nat} (ht : (s.can b).tryAt = some t0) :
    Runs (.canTxTimeout b) s fun t =>
      (t.can b).sending = false ∧ Done t r e.d .fault 0 ∧ t0 + 10000000 ≤ t.tk.clk ∧ Raised s t .cn b 6 1 [(dU32 e.d 0x10 : Nat), 0xD] := by
  have htimeout : canTimeout b s = canAbandon b 0xD (advanceClk (t0 + 10000000) s) := by
    simp [canTimeout, ht, hon, hsend]
  obtain ⟨hidle, hdone, htk, hraised⟩ := canAbandon_after (u := advanceClk (t0 + 10000000) s) (detail := 0xD) hsend he (advanceClk_cn ..)
    (advanceClk_rg ..) ((advanceClk_power ..).trans hp) (advanceClk_sp ..)
  refine runs_mainOn (u := canTimeout b s) rfl hp ?_
  rw [htimeout]
  exact ⟨hidle, hdone, htk ▸ advanceClk_clk _ s, hraised⟩

end

/-! ### Error states (R739) -/

theorem canAttempt_st (b : Nat) (u : State) : ((canAttempt b u).can b).st = (u.can b).st := by
  have hsent (x : Tx) (c : CanBus) (hc : c.st = (u.can b).st) : ((send x (u.setCan b c)).can b).st = (u.can b).st :=
    (congrArg CanBus.st (State.setCan_same u b c)).trans hc
  unfold canAttempt
  dsimp only
  split
  · split
    · exact hsent _ _ rfl
    · rfl
  · rfl

theorem canAbandon_can (b detail : Nat) (s : State) :
    ((canAbandon b detail s).can b).sending = false ∧ ((canAbandon b detail s).can b).st = (s.can b).st := by
  unfold canAbandon
  dsimp only
  split
  · split
    · rw [complete_can, raise_can, State.setCan_same]
      exact ⟨rfl, rfl⟩
    · rw [State.setCan_same]
      exact ⟨rfl, rfl⟩
  · next h => exact ⟨by simpa using h, rfl⟩

theorem canAbandon_making_from {l : List (Nat × Rec)} {s : State} (h : l <+: s.sp.making) (b detail : Nat) :
    l <+: (canAbandon b detail s).sp.making := by
  unfold canAbandon
  dsimp only
  split
  · split
    · refine complete_making_from (raise_making_from ?_ ..) ..
      exact h
    · exact h
  · exact h

section
variable {s : State} {b tec rec_ : Nat} (hp : s.power = .on) (hon : s.isOn 13 = true)
include hp hon

theorem runs_canErrorStateChange_busOff (hlive : canLive (s.can b) = true) (htec : 256 ≤ tec) :
    Runs (.canErrorStateChange b tec rec_) s fun t =>
      (t.can b).st = .busOff ∧ (t.can b).sending = false ∧ Raised s t .cn b 4 2 [(tec : Nat)] := by
  have hst : (s.can b).st ≠ .busOff := by
    intro h
    simp [canLive, h] at hlive
  refine runs_mainOn (u := canErrors b tec rec_ s) rfl hp ?_
  have herrors : canErrors b tec rec_ s =
      canAbandon b 0xE (raise .cn b 4 2 [(tec : Nat)] (s.setCan b { s.can b with st := .busOff, tec, rec_ })) := by
    simp [canErrors, hon, hlive, htec, hst.symm]
  obtain ⟨hsend, hst'⟩ := canAbandon_can b 0xE (raise .cn b 4 2 [(tec : Nat)] (s.setCan b { s.can b with st := .busOff, tec, rec_ }))
  rw [herrors]
  refine ⟨hst'.trans ?_, hsend, Raised.mono ?_ (canAbandon_making_from List.prefix_rfl ..)⟩
  · rw [raise_can, State.setCan_same]
  · exact raised_raise _ _ _ _ _ hp rfl

theorem runs_canErrorStateChange_passive (hst : (s.can b).st = .active) (hlo : 128 ≤ tec) (hhi : tec < 256) :
    Runs (.canErrorStateChange b tec rec_) s fun t => (t.can b).st = .passive ∧ Raised s t .cn b 2 1 [(tec : Nat), (rec_ : Nat)] := by
  refine runs_mainOn (u := canErrors b tec rec_ s) rfl hp ?_
  have herrors : canErrors b tec rec_ s =
      raise .cn b 2 1 [(tec : Nat), (rec_ : Nat)] (s.setCan b { s.can b with st := .passive, tec, rec_ }) := by
    simp [canErrors, canLive, hon, hst, hlo, show ¬ 256 ≤ tec by omega]
  rw [herrors]
  exact ⟨by simp, raised_raise _ _ _ _ _ hp rfl⟩

theorem runs_canErrorStateChange_active (hst : (s.can b).st = .passive) (htec : tec < 128) (hrec : rec_ < 128) :
    Runs (.canErrorStateChange b tec rec_) s fun t => (t.can b).st = .active ∧ Raised s t .cn b 3 0 [(tec : Nat), (rec_ : Nat)] := by
  refine runs_mainOn (u := canErrors b tec rec_ s) rfl hp ?_
  have herrors : canErrors b tec rec_ s =
      raise .cn b 3 0 [(tec : Nat), (rec_ : Nat)] (s.setCan b { s.can b with st := .active, tec, rec_ }) := by
    simp [canErrors, canLive, hon, hst, show ¬ 256 ≤ tec by omega, show ¬ (128 ≤ tec ∨ 128 ≤ rec_) by omega]
  rw [herrors]
  exact ⟨by simp, raised_raise _ _ _ _ _ hp rfl⟩

theorem runs_busOn (hst : (s.can b).st = .busOff) (hawake : (s.can b).depth ≠ .asleep) :
    Runs (.busOn b) s fun t => (t.can b).st = .active ∧ (t.can b).tec = 0 ∧ (t.can b).rec_ = 0 ∧ Raised s t .cn b 5 0 [] := by
  refine runs_mainOn (u := busOn b s) rfl hp ?_
  unfold busOn
  dsimp only
  rw [if_pos ⟨hon, hst, hawake⟩]
  exact ⟨by simp, by simp, by simp, raised_raise _ _ _ _ _ hp rfl⟩

theorem runs_busIdleSettings (hb : b < 2) :
    Runs (.busIdleSettings b) s fun t =>
      (t.can b).mode = fld (cnConfig s b) 0 2 ∧ (t.can b).nbt = s.wr (cnKey b 4) 0x021F0808 ∧ (t.can b).dbt = s.wr (cnKey b 8) 0x010E0505 := by
  refine runs_mainOn (u := busIdle b s) rfl hp ?_
  unfold busIdle
  dsimp only
  rw [if_pos ⟨hb, hon⟩, State.setCan_same]
  split <;> exact ⟨rfl, rfl, rfl⟩

theorem runs_canIntegrated (hst : (s.can b).st = .integrating) (hawake : (s.can b).depth ≠ .asleep) :
    Runs (.canIntegrated b) s fun t => (t.can b).st = if (s.can b).tec ≥ 128 ∨ (s.can b).rec_ ≥ 128 then .passive else .active := by
  refine runs_mainOn (u := canIntegrated b s) rfl hp ?_
  unfold canIntegrated
  dsimp only
  rw [if_pos ⟨hon, hst, hawake⟩, canAttempt_st, State.setCan_same]

theorem runs_txdDominant (hb : b < 2) (htxd : (s.can b).txdStop = false) :
    Runs (.txdDominant b) s fun t => (t.can b).txdStop = true ∧ Raised s t .cn b 8 2 [] := by
  refine runs_mainOn (u := txdDominant b s) rfl hp ?_
  unfold txdDominant
  dsimp only
  rw [htxd, if_pos ⟨hb, hon, rfl⟩]
  exact ⟨by simp, raised_raise _ _ _ _ _ hp rfl⟩

theorem runs_busDominant (hb : b < 2) (hdom : (s.can b).dominant = false) :
    Runs (.busDominant b) s fun t => (t.can b).dominant = true ∧ Raised s t .cn b 9 1 [] := by
  refine runs_mainOn (u := busDominant b s) rfl hp ?_
  unfold busDominant
  dsimp only
  rw [hdom, if_pos ⟨hb, hon, rfl⟩]
  exact ⟨by simp, raised_raise _ _ _ _ _ hp rfl⟩

end

/-- Settles O33: a frame received goes to the mailbox of the filter that takes it, a frame sent ends or is tried again, the error states follow
the counters, and bus on, idle, integration and the dominant timeouts act. -/
theorem canCommandsComplete : Obligations.CanCommandsComplete :=
  ⟨fun _ _ _ _ _ _ hp hb hon ha hl hk hn => runs_canFrameRx_taken hp hb hon ha hl hk hn,
    fun _ _ _ _ _ hp hb hon ha hl hk => runs_canFrameRx_untaken hp hb hon ha hl hk,
    fun _ _ _ _ _ _ _ hp hon hs ht he => runs_canFrameAcknowledged hp hon hs he ht,
    fun _ _ _ _ _ _ hp hon hs ht hl hm hx he => runs_canTxRetry hp hon hs he ht hl hm hx,
    fun _ _ _ _ _ hp hon hs ht he => runs_canTxTimeout hp hon hs he ht, fun _ _ _ _ hp hon hl ht => runs_canErrorStateChange_busOff hp hon hl ht,
    fun _ _ _ _ hp hon hs hlo hhi => runs_canErrorStateChange_passive hp hon hs hlo hhi,
    fun _ _ _ _ hp hon hs ht hr => runs_canErrorStateChange_active hp hon hs ht hr, fun _ _ hp hon hs ha => runs_busOn hp hon hs ha,
    fun _ _ hp hb hon => runs_busIdleSettings hp hon hb, fun _ _ hp hon hs ha => runs_canIntegrated hp hon hs ha,
    fun _ _ hp hb hon h => runs_txdDominant hp hon hb h, fun _ _ hp hb hon h => runs_busDominant hp hon hb h⟩

/-! ### Wakes (R731, R732) -/

theorem recordWake_wakes (k : Nat) (s : State) : (recordWake k s).sl.pending = true := by
  unfold recordWake
  dsimp only
  split
  · next h => exact h
  · rfl

/-- A bus wake is always enabled: it is recorded on a parked device (R833). -/
theorem wakeSource_bus_pending {k : Nat} {s : State} (hk : 6 ≤ k) (hp : s.power = .parked) : (wakeSource k s).sl.pending = true := by
  have henabled : wakeEnabled s k = true := by simp [wakeEnabled, hk]
  unfold wakeSource
  rw [henabled, hp]
  exact recordWake_wakes k s

/-- What the raising of a wake leaves of the record of it. -/
theorem wakeRaise_can (b : Nat) (s : State) :
    let c := (wakeRaise b s).can b
    c.cause = (s.can b).cause ∧ c.wfilter = (s.can b).wfilter ∧ c.wframe = (s.can b).wframe ∧ c.wakes = (s.can b).wakes ∧
      c.armed = (s.can b).armed ∧ c.fec = (s.can b).fec ∧ c.depth = .awake ∧ c.sleep = false := by
  unfold wakeRaise
  dsimp only
  rw [raise_can, State.setCan_same]
  split <;> exact ⟨rfl, rfl, rfl, rfl, rfl, rfl, rfl, rfl⟩

/-- A wake is recorded with its cause, filter and frame, the decoder disarms, and where the bus has its domain it is awake. -/
structure Woken (b cause filter : Nat) (f : Option CanFrame) (s t : State) : Prop where
  cause   : (t.can b).cause = cause
  filter  : (t.can b).wfilter = filter
  frame   : (t.can b).wframe = f
  wakes   : (t.can b).wakes = ((s.can b).wakes + 1) % 65536
  armed   : (t.can b).armed = false
  fec     : (t.can b).fec = 0
  awake   : s.isOn 13 = true → (t.can b).depth = .awake ∧ (t.can b).sleep = false
  pending : s.power = .parked → t.sl.pending = true

/-- The wake as it is recorded, before it is raised or waits for its domain. -/
def wakeRecorded (b cause filter : Nat) (f : Option CanFrame) (s : State) : State :=
  s.setCan b { s.can b with cause, wfilter := filter, wframe := f, wakes := ((s.can b).wakes + 1) % 65536, armed := false,
                            inFrame := none, fec := 0 }

theorem canWake_of_source {b cause filter : Nat} {f : Option CanFrame} {s : State} (hc : cause ≠ 4) :
    canWake b cause filter f s =
      let u := wakeRecorded b cause filter f (wakeSource (6 + b) s)
      if u.isOn 13 then wakeRaise b u else u.setCan b { u.can b with wakeDue := true } := by
  simp only [canWake, hc, if_false]
  rfl

theorem canWake_woken {b cause filter : Nat} {f : Option CanFrame} {s : State} (hc : cause ≠ 4) :
    Woken b cause filter f s (canWake b cause filter f s) := by
  have hcan : (wakeSource (6 + b) s).can b = s.can b := by rw [State.can, wakeSource_cn]; rfl
  have hrec : (wakeRecorded b cause filter f (wakeSource (6 + b) s)).can b =
      { s.can b with cause, wfilter := filter, wframe := f, wakes := ((s.can b).wakes + 1) % 65536, armed := false, inFrame := none, fec := 0 } := by
    rw [wakeRecorded, State.setCan_same, hcan]
  have hisOn : (wakeRecorded b cause filter f (wakeSource (6 + b) s)).isOn 13 = s.isOn 13 := by
    rw [wakeRecorded, State.setCan_isOn, State.isOn, State.dom, wakeSource_doms]; rfl
  rw [canWake_of_source hc]
  dsimp only
  rw [hisOn]
  split
  · obtain ⟨h1, h2, h3, h4, h5, h6, h7, h8⟩ := wakeRaise_can b (wakeRecorded b cause filter f (wakeSource (6 + b) s))
    rw [hrec] at h1 h2 h3 h4 h5 h6
    refine ⟨h1, h2, h3, h4, h5, h6, fun _ => ⟨h7, h8⟩, fun hp => ?_⟩
    rw [wakeRaise, raise_sl]
    exact wakeSource_bus_pending (by omega) hp
  · next hoff =>
    rw [hrec]
    refine ⟨?_, ?_, ?_, ?_, ?_, ?_, fun hon => absurd hon hoff, fun hp => wakeSource_bus_pending (by omega) hp⟩ <;> rw [State.setCan_same]

/-! ### Wake patterns (R727) -/

/-- But for how many of the spec's open numbers are used, `t` is `s`. -/
def SameButFree (s t : State) : Prop := ∃ n, t = { s with free := n }

theorem phaseCounts_sameButFree (fog ns : Nat) (s : State) : SameButFree s (phaseCounts fog ns s).2 := by
  unfold phaseCounts
  split
  · exact ⟨s.free, rfl⟩
  · split
    · exact ⟨s.free, rfl⟩
    · exact ⟨s.free + 1, rfl⟩

theorem scanPhase_sameButFree {fog : Nat} {s : State} {a : PatternScan × State} (h : SameButFree s a.2) (ph : Bool × Nat) :
    SameButFree s (scanPhase fog a ph).2 := by
  obtain ⟨n, hn⟩ := h
  obtain ⟨m, hm⟩ := phaseCounts_sameButFree fog ph.2 a.2
  have hsnd : (scanPhase fog a ph).2 = (phaseCounts fog ph.2 a.2).2 := by
    unfold scanPhase
    dsimp only
    split
    · rfl
    · split <;> rfl
  exact ⟨m, by rw [hsnd, hm, hn]⟩

theorem scanPhases_sameButFree {fog : Nat} {s : State} (l : List (Bool × Nat)) {a : PatternScan × State} (h : SameButFree s a.2) :
    SameButFree s (l.foldl (scanPhase fog) a).2 := by
  induction l generalizing a with
  | nil => exact h
  | cons ph l ih => exact ih (scanPhase_sameButFree h ph)

section
variable {s : State} {b : Nat} {ph : List (Bool × Nat)} (hw : canWatched s b = true)
include hw

theorem runs_wakePattern_woken (hm : wakeMode s b = 1) (hhit : (ph.foldl (scanPhase (tFog s b)) ({}, s)).1.hit = true) :
    Runs (.wakePattern b ph) s (Woken b 1 0 (s.can b).heard s) := by
  obtain ⟨n, hn⟩ := scanPhases_sameButFree (fog := tFog s b) (s := s) ph (a := ({}, s)) ⟨s.free, rfl⟩
  refine ⟨wakePattern b ph s, rfl, ?_⟩
  unfold wakePattern
  rw [if_pos hw]
  dsimp only
  rw [hhit, hn]
  have hm' : wakeMode { s with free := n } b = 1 := hm
  rw [hm', if_neg (by decide), if_pos rfl]
  obtain ⟨h1, h2, h3, h4, h5, h6, h7, h8⟩ := canWake_woken (b := b) (cause := 1) (filter := 0) (f := (s.can b).heard)
    (s := { s with free := n }) (by decide)
  exact ⟨h1, h2, h3, h4, h5, h6, h7, h8⟩

theorem runs_wakePattern_arms (hm : wakeMode s b = 2) (hhit : (ph.foldl (scanPhase (tFog s b)) ({}, s)).1.hit = true) :
    Runs (.wakePattern b ph) s fun t => (t.can b).armed = true ∧ (t.can b).wakes = (s.can b).wakes ∧ t.sl = s.sl := by
  obtain ⟨n, hn⟩ := scanPhases_sameButFree (fog := tFog s b) (s := s) ph (a := ({}, s)) ⟨s.free, rfl⟩
  refine ⟨wakePattern b ph s, rfl, ?_⟩
  unfold wakePattern
  rw [if_pos hw]
  dsimp only
  rw [hhit, hn]
  have hm' : wakeMode { s with free := n } b = 2 := hm
  rw [hm', if_neg (by decide), if_neg (by decide), State.setCan_same]
  exact ⟨rfl, rfl, rfl⟩

end

/-- Three phases that all count, the third within 1.0 ms of the first, are a pattern (R727). -/
theorem scan_hit {fog d1 r d2 : Nat} {s : State} (hfog : 0 < fog) (hlong : 11 * fog ≤ 10 * min d1 (min r d2)) (hsoon : d1 + r + fog ≤ 1000000) :
    (([(true, d1), (false, r), (true, d2)] : List (Bool × Nat)).foldl (scanPhase fog) ({}, s)).1.hit = true := by
  have hcounts (ns : Nat) (u : State) (h : 11 * fog ≤ 10 * ns) : phaseCounts fog ns u = (true, u) := by
    unfold phaseCounts
    rw [if_neg (by omega), if_pos h]
  simp only [List.foldl_cons, List.foldl_nil, scanPhase, hcounts d1 _ (by omega), hcounts r _ (by omega), hcounts d2 _ (by omega)]
  simp
  omega

/-- After a first dominant and a recessive phase the pattern may have begun at 0, and is not complete. -/
theorem scan_two (fog d1 r : Nat) (s : State) :
    let x := (scanPhase fog (scanPhase fog ({}, s) (true, d1)) (false, r)).1
    x.at_ = d1 + r ∧ x.hit = false ∧ ∀ t, x.rec_ = some t → t = 0 := by
  have hfirst : (scanPhase fog ({}, s) (true, d1)).1.at_ = d1 ∧ (scanPhase fog ({}, s) (true, d1)).1.hit = false ∧
      (scanPhase fog ({}, s) (true, d1)).1.rec_ = none ∧ ∀ t, (scanPhase fog ({}, s) (true, d1)).1.dom = some t → t = 0 := by
    unfold scanPhase
    dsimp only
    split <;> simp [eq_comm]
  obtain ⟨hat, hhit, hrec, hdom⟩ := hfirst
  generalize scanPhase fog ({}, s) (true, d1) = a at hat hhit hrec hdom
  unfold scanPhase
  dsimp only
  split
  · exact ⟨by rw [hat], hhit, by simp [hrec]⟩
  · exact ⟨by simp [hat], by simpa using hhit, by simpa using hdom⟩

/-- A third phase too short or too late completes no pattern (R727). -/
theorem scan_miss {fog d1 r d2 : Nat} {s : State} (h : 10 * d2 ≤ 9 * fog ∨ 1000000 < d1 + r + min fog d2) :
    (([(true, d1), (false, r), (true, d2)] : List (Bool × Nat)).foldl (scanPhase fog) ({}, s)).1.hit = false := by
  obtain ⟨hat, hhit, hrec⟩ := scan_two fog d1 r s
  simp only [List.foldl_cons, List.foldl_nil]
  generalize scanPhase fog (scanPhase fog ({}, s) (true, d1)) (false, r) = a at hat hhit hrec
  unfold scanPhase
  dsimp only
  split
  · exact hhit
  · next hc =>
    have hlate : 1000000 < d1 + r + min fog d2 := by
      refine h.resolve_left fun hshort => hc ?_
      simp [phaseCounts, hshort]
    simp only [if_true, hhit, Bool.false_or]
    split
    · next t ht => simp [hrec t ht, hat]; omega
    · rfl

theorem runs_wakePattern_missed {s : State} {b d1 r d2 : Nat} (h : 10 * d2 ≤ 9 * tFog s b ∨ 1000000 < d1 + r + min (tFog s b) d2) :
    Runs (.wakePattern b [(true, d1), (false, r), (true, d2)]) s fun t => t.cn = s.cn ∧ t.sl = s.sl ∧ t.sp = s.sp := by
  obtain ⟨n, hn⟩ := scanPhases_sameButFree (fog := tFog s b) (s := s) [(true, d1), (false, r), (true, d2)] (a := ({}, s)) ⟨s.free, rfl⟩
  refine ⟨wakePattern b [(true, d1), (false, r), (true, d2)] s, rfl, ?_⟩
  unfold wakePattern
  split
  · dsimp only
    rw [scan_miss h, hn]
    exact ⟨rfl, rfl, rfl⟩
  · exact ⟨rfl, rfl, rfl⟩

/-! ### Wake frames (R719, R728, R729) -/

section
variable {s : State} {b : Nat} {f : CanFrame} (hw : canWatched s b = true) (ha : (s.can b).armed = true) (hm : wakeMode s b = 2)
include hw ha hm

theorem runs_wakeFrame_starts :
    Runs (.wakeFrame b f 3) s fun t => (t.can b).inFrame = some (s.can b).filters ∧ (t.can b).wakes = (s.can b).wakes := by
  refine ⟨wakeFrame b f 3 s, rfl, ?_⟩
  simp [wakeFrame, hw, ha, hm]

variable {l : Tab CanFilter} (hl : (s.can b).inFrame = some l)
include hl

theorem runs_wakeFrame_taken {k : Nat} (hk : canTaker l 2 f = some k) :
    Runs (.wakeFrame b f 0) s fun t =>
      (t.can b).cause = 2 ∧ (t.can b).wfilter = k ∧ (t.can b).wframe = some f ∧ (t.can b).armed = false ∧
        (s.power = .parked → t.sl.pending = true) := by
  have hwake : wakeFrame b f 0 s =
      canWake b 2 k (some f) (s.setCan b { s.can b with inFrame := none, heard := some f, fec := (s.can b).fec - 1 }) := by
    simp [wakeFrame, hw, ha, hm, hl, hk]
  obtain ⟨hcause, hfilter, hframe, -, harmed, -, -, hpending⟩ := canWake_woken (b := b) (cause := 2) (filter := k) (f := some f)
    (s := s.setCan b { s.can b with inFrame := none, heard := some f, fec := (s.can b).fec - 1 }) (by decide)
  exact ⟨wakeFrame b f 0 s, rfl, by rw [hwake]; exact ⟨hcause, hfilter, hframe, harmed, hpending⟩⟩

theorem runs_wakeFrame_untaken (hk : canTaker l 2 f = none) :
    Runs (.wakeFrame b f 0) s fun t => (t.can b).heard = some f ∧ (t.can b).wakes = (s.can b).wakes ∧ t.sl = s.sl := by
  refine ⟨wakeFrame b f 0 s, rfl, ?_⟩
  simp [wakeFrame, hw, ha, hm, hl, hk]

theorem runs_wakeFrame_error (hf : (s.can b).fec + 1 ≤ fld (wakeConfig s b) 16 5) :
    Runs (.wakeFrame b f 1) s fun t => (t.can b).fec = (s.can b).fec + 1 ∧ (t.can b).wakes = (s.can b).wakes := by
  have hconfig (x : CanBus) : wakeConfig (s.setCan b x) b = wakeConfig s b := rfl
  refine ⟨wakeFrame b f 1 s, rfl, ?_⟩
  simp [wakeFrame, hw, ha, hm, hl, hconfig, show ¬ fld (wakeConfig s b) 16 5 < (s.can b).fec + 1 by omega]

theorem runs_wakeFrame_errors (hf : fld (wakeConfig s b) 16 5 < (s.can b).fec + 1) :
    Runs (.wakeFrame b f 1) s fun t => (t.can b).cause = 3 ∧ (t.can b).fec = 0 := by
  have hconfig (x : CanBus) : wakeConfig (s.setCan b x) b = wakeConfig s b := rfl
  have hwake : wakeFrame b f 1 s =
      canWake b 3 0 (s.can b).heard (s.setCan b { s.can b with inFrame := none, fec := (s.can b).fec + 1 }) := by
    simp [wakeFrame, hw, ha, hm, hl, hconfig, hf]
  obtain ⟨hcause, -, -, -, -, hfec, -, -⟩ := canWake_woken (b := b) (cause := 3) (filter := 0) (f := (s.can b).heard)
    (s := s.setCan b { s.can b with inFrame := none, fec := (s.can b).fec + 1 }) (by decide)
  exact ⟨wakeFrame b f 1 s, rfl, by rw [hwake]; exact ⟨hcause, hfec⟩⟩

end

theorem runs_sleepEntry {s : State} {b : Nat} (hp : s.power = .on) (hon : s.isOn 13 = true) (hd : (s.can b).depth = .entry)
    (hs : (s.can b).sending = false) :
    Runs (.sleepEntry b) s fun t => (t.can b).depth = .asleep ∧ (t.can b).st = .off ∧ (t.can b).armed = false ∧ Raised s t .cn b 1 0 [] := by
  have hentry : sleepEntry b s = canAsleep b s := by simp [sleepEntry, hon, hd, hs]
  refine runs_mainOn (u := sleepEntry b s) rfl hp ?_
  rw [hentry]
  obtain ⟨hdepth, hst, hraised⟩ := canAsleep_spec (s := s) b hp rfl
  exact ⟨hdepth, hst, by simp [canAsleep], hraised⟩

theorem runs_decoderDisarm {s : State} {b : Nat} (ha : (s.can b).armed = true) :
    Runs (.decoderDisarm b) s fun t => (t.can b).armed = false ∧ (t.can b).fec = 0 := by
  refine ⟨decoderDisarm b s, rfl, ?_⟩
  simp [decoderDisarm, ha]

/-- Settles O34: sleep is entered, phases that make a pattern wake or arm and others do not (`scan_hit`, `scan_miss`), and a wake frame acts by
the filters of its start; a wake is recorded and wakes a parked device (`canWake_woken`). -/
theorem canWakeCommandsComplete : Obligations.CanWakeCommandsComplete := by
  refine ⟨fun s b hp hon hd hs => runs_sleepEntry hp hon hd hs, fun s b ph hw hm hh => ?_, fun s b d1 r d2 hw hm hf h1 h2 => ?_,
    fun s b d1 r d2 h => runs_wakePattern_missed h, fun s b ph hw hm hh => runs_wakePattern_arms hw hm hh,
    fun s b f hw ha hm => runs_wakeFrame_starts hw ha hm, fun s b f k l hw ha hm hl hk => runs_wakeFrame_taken hw ha hm hl hk,
    fun s b f l hw ha hm hl hk => runs_wakeFrame_untaken hw ha hm hl hk, fun s b f l hw ha hm hl hf => runs_wakeFrame_error hw ha hm hl hf,
    fun s b f l hw ha hm hl hf => runs_wakeFrame_errors hw ha hm hl hf, fun s b ha => runs_decoderDisarm ha⟩
  · exact (runs_wakePattern_woken hw hm hh).imp fun t h => ⟨h.cause, h.wakes, h.pending, h.awake⟩
  · exact (runs_wakePattern_woken hw hm (scan_hit hf h1 h2)).imp fun t h => h.cause

end Sys2Proof.Machine
end

section
/-!
SUPPORT. Wand words (chapter 18) and the ends of runs; O31.
-/
namespace Sys2Proof.Machine

/-! ### A word that is at its place (R686) -/

@[simp] theorem advanceClk_valve (t : Nat) (s : State) (n : Nat) : (advanceClk t s).valve n = s.valve n := by
  simp only [State.valve, advanceClk_ez]

@[simp] theorem raise_valve (b : Blk) (i num cls : Nat) (args : List Int) (s : State) (n : Nat) :
    (raise b i num cls args s).valve n = s.valve n := by
  simp only [State.valve, raise_ez]

theorem wandStep_of_free {n : Nat} {p : Nat → Word → Bool} {s : State} (hworks : valveOn s n = true) (hruns : (s.valve n).running = true)
    (hfree : (s.valve n).wait = none) (hp : p (s.valve n).pc ((s.valve n).prog.get (s.valve n).pc 0) = true) (k : Valve → Word → State → State) :
    wandStep n p k s = k (s.valve n) ((s.valve n).prog.get (s.valve n).pc 0) (advanceClk (s.valve n).nextAt s) := by
  have hafter : afterTimeout (s.valve n) = some (s.valve n) := by simp [afterTimeout, hfree]
  unfold wandStep
  rw [hworks, hruns, hafter]
  exact if_pos hp

/-- The word of its opcode that stands next is carried out at its start. -/
theorem WandAt.wandWord {s : State} {n op : Nat} {w : Word} (h : WandAt s n op w) (k : Valve → Word → State → State) :
    Machine.wandWord n op k s = k (s.valve n) w (advanceClk (s.valve n).nextAt s) := by
  obtain ⟨-, hworks, hruns, hfree, hinside, hword, hlegal, hop⟩ := h
  subst hword
  refine wandStep_of_free hworks hruns hfree ?_ k
  simp only [hlegal, hop, hinside, decide_true, Bool.and_true, beq_self_eq_true]

theorem wandNext_valve (n pc dur : Nat) (v : Valve) (s : State) : (wandNext n pc dur v s).valve n = { v with pc, nextAt := v.nextAt + dur } :=
  State.setValve_same ..

/-- A new goal touches the goal, its ramp and a turn-on that is held. -/
theorem newGoal_keep {α : Type} (g : Valve → α)
    (hg : ∀ (v : Valve) goal ramp heldAt heldBit heldSeq, g { v with goal, ramp, heldAt, heldBit, heldSeq } = g v) (v : Valve) (goal : Int)
    (ramp : Option (Int × Nat × Nat)) (clk : Nat) : g (newGoal v goal ramp clk) = g v := by
  unfold newGoal Valve.hold
  dsimp only
  split
  · exact hg v goal ramp (some clk) true none
  · exact hg v goal ramp v.heldAt v.heldBit v.heldSeq

theorem newGoal_goal (v : Valve) (goal : Int) (ramp : Option (Int × Nat × Nat)) (clk : Nat) :
    (newGoal v goal ramp clk).goal = goal ∧ (newGoal v goal ramp clk).ramp = ramp := ⟨rfl, rfl⟩

section
variable {s : State} {n : Nat} {w : Word}

theorem WandAt.does {c : Instr} {op : Nat} {k : Valve → Word → State → State} {P : State → Prop} (h : WandAt s n op w)
    (hc : exec c s = .next (mainOn s (Machine.wandWord n op k s))) (hP : P (k (s.valve n) w (advanceClk (s.valve n).nextAt s))) : Runs c s P :=
  runs_mainOn (hc.trans (by rw [h.wandWord])) h.power hP

theorem runs_seti (h : WandAt s n 1 w) :
    Runs (.seti n) s fun t => (t.valve n).goal = signed 13 (wf w 0 13) ∧ (t.valve n).ramp = none ∧ (t.valve n).pc = (s.valve n).pc + 1 ∧
      (t.valve n).nextAt = (s.valve n).nextAt + 1000 := by
  refine h.does rfl ?_
  dsimp only
  rw [wandNext_valve]
  have hpc := newGoal_keep Valve.pc (fun _ _ _ _ _ _ => rfl) (s.valve n) (signed 13 (wf w 0 13)) none
  have hat := newGoal_keep Valve.nextAt (fun _ _ _ _ _ _ => rfl) (s.valve n) (signed 13 (wf w 0 13)) none
  exact ⟨rfl, rfl, by simp only [hpc], by simp only [hat]⟩

theorem runs_wandRamp (h : WandAt s n 2 w) :
    Runs (.wandRamp n) s fun t => (t.valve n).goal = signed 13 (wf w 0 13) ∧
      (t.valve n).ramp = some (goalAt (s.valve n) t.tk.clk, t.tk.clk, wf w 13 15 * 1000) ∧ (t.valve n).pc = (s.valve n).pc + 1 ∧
      (t.valve n).nextAt = (s.valve n).nextAt + wf w 13 15 * 1000 := by
  refine h.does rfl ?_
  dsimp only
  rw [wandNext_valve]
  have hpc := newGoal_keep Valve.pc (fun _ _ _ _ _ _ => rfl) (s.valve n) (signed 13 (wf w 0 13))
  have hat := newGoal_keep Valve.nextAt (fun _ _ _ _ _ _ => rfl) (s.valve n) (signed 13 (wf w 0 13))
  exact ⟨rfl, rfl, by simp only [hpc], by simp only [hat]⟩

theorem runs_waitt (h : WandAt s n 3 w) :
    Runs (.waitt n) s fun t =>
      (t.valve n).pc = (s.valve n).pc + 1 ∧ (t.valve n).nextAt = (s.valve n).nextAt + wf w 0 28 * 1000 ∧ (t.valve n).goal = (s.valve n).goal := by
  refine h.does rfl ?_
  rw [wandNext_valve]
  exact ⟨rfl, rfl, rfl⟩

theorem runs_waiti (h : WandAt s n 4 w) :
    Runs (.waiti n) s fun t => (t.valve n).pc = (s.valve n).pc ∧
      (t.valve n).wait = some (.level (bitOf w 27) (signed 13 (wf w 0 13)) ((s.valve n).nextAt + wf w 13 14 * 10000)) := by
  refine h.does rfl ?_
  rw [State.setValve_same]
  exact ⟨rfl, rfl⟩

theorem inLevel_advanceClk (t : Nat) (s : State) (i : Nat) : inLevel (advanceClk t s) i = inLevel s i := by
  simp only [inLevel, State.field, advanceClk_ez]

theorem runs_waitin_holds (h : WandAt s n 5 w) (hl : (inLevel s (wf w 22 5) == bitOf w 27) = true) :
    Runs (.waitin n) s fun t =>
      (t.valve n).wait = none ∧ (t.valve n).c = false ∧ (t.valve n).pc = (s.valve n).pc + 1 ∧ (t.valve n).nextAt = (s.valve n).nextAt + 1000 := by
  refine h.does rfl ?_
  dsimp only
  rw [inLevel_advanceClk, hl, if_pos rfl, wandNext_valve]
  exact ⟨h.free, rfl, rfl, rfl⟩

theorem runs_waitin_waits (h : WandAt s n 5 w) (hl : (inLevel s (wf w 22 5) == bitOf w 27) = false) :
    Runs (.waitin n) s fun t => (t.valve n).pc = (s.valve n).pc ∧
      (t.valve n).wait = some (.input (wf w 22 5) (bitOf w 27) (if wf w 0 22 = 0 then none else some ((s.valve n).nextAt + wf w 0 22 * 1000))) := by
  refine h.does rfl ?_
  dsimp only
  rw [inLevel_advanceClk, hl, if_neg Bool.false_ne_true, State.setValve_same]
  exact ⟨rfl, rfl⟩

theorem runs_dither (h : WandAt s n 6 w) :
    Runs (.dither n) s fun t => (t.valve n).pc = (s.valve n).pc + 1 ∧
      (t.valve n).dither = if wf w 20 8 = 0 then none else some (wf w 20 8 * 10, wf w 8 12 * 10000, (s.valve n).nextAt) := by
  have hzero : wf w 20 8 * 10 = 0 ↔ wf w 20 8 = 0 := by omega
  refine h.does rfl ?_
  dsimp only
  rw [wandNext_valve]
  exact ⟨rfl, by simp only [hzero]⟩

theorem runs_wandLoop (h : WandAt s n 7 w) :
    Runs (.wandLoop n) s fun t =>
      ((s.valve n).loop ≠ 1 → ((s.valve n).loop = 0 → wf w 20 8 ≠ 1) → (t.valve n).pc = wf w 0 6 ∧
        (t.valve n).loop = (if (s.valve n).loop = 0 then wf w 20 8 else (s.valve n).loop) - 1) ∧
      ((s.valve n).loop = 1 → (t.valve n).pc = (s.valve n).pc + 1 ∧ (t.valve n).loop = 0) := by
  have hcount : wf w 20 8 ≠ 0 := by
    have hlegal := h.legal
    simp only [wandLegal, h.op, Bool.and_eq_true, bne_iff_ne] at hlegal
    exact hlegal.1
  refine h.does rfl ?_
  dsimp only
  rw [wandNext_valve]
  refine ⟨fun h1 h0 => ⟨?_, rfl⟩, fun h1 => ?_⟩
  · refine if_pos ?_
    split
    · next hz => have := h0 hz; omega
    · omega
  · simp [h1]

theorem runs_wandJif (h : WandAt s n 8 w) :
    Runs (.wandJif n) s fun t => (t.valve n).pc =
      if (match wf w 25 3 with
          | 0 => (s.valve n).c | 1 => !(s.valve n).c | 2 => inLevel s (wf w 20 5) | _ => !inLevel s (wf w 20 5)) = true
        then wf w 0 6 else (s.valve n).pc + 1 := by
  refine h.does rfl ?_
  dsimp only
  rw [wandNext_valve, inLevel_advanceClk] <;> rfl

theorem runs_decay (h : WandAt s n 9 w) :
    Runs (.decay n) s fun t => (t.valve n).fast = bitOf w 27 ∧ (t.valve n).pc = (s.valve n).pc + 1 := by
  refine h.does rfl ?_
  rw [wandNext_valve]
  exact ⟨rfl, rfl⟩

end

/-! ### A run that ends (R692) -/

/-- The settling of a pair touches the pairing of a driver alone (R680). -/
theorem pairSettle_valve_keep {α : Type} (g : Valve → α) (hg : ∀ (v : Valve) pair pairDue, g { v with pair, pairDue } = g v) (n k : Nat) (s : State) :
    g ((pairSettle k s).valve n) = g (s.valve n) := by
  unfold pairSettle
  dsimp only
  split
  · split
    · by_cases hk : n = k / 2 * 2
      · subst hk
        rw [State.setValve_same]
        exact hg ..
      · rw [State.setValve_other _ _ _ _ hk]
    · rfl
  · rfl

theorem legSettle_valve_keep {α : Type} (g : Valve → α) (hg : ∀ (v : Valve) clamping, g { v with clamping } = g v) (n : Nat) (s : State) :
    g ((legSettle n s).valve n) = g (s.valve n) := by
  unfold legSettle
  dsimp only
  split
  · rfl
  · rw [State.setValve_same]
    exact hg ..

/-- What the end of a run, the coil's decay over, leaves of its driver. -/
theorem finishRun_valve_keep {α : Type} (g : Valve → α) (hpair : ∀ (v : Valve) pair pairDue, g { v with pair, pairDue } = g v)
    (hg : ∀ (v : Valve) ending clamping target mean duty idleAt, g { v with ending, clamping, target, mean, duty, idleAt } = g v) (n : Nat)
    (s : State) : g ((finishRun n s).valve n) = g (s.valve n) := by
  unfold finishRun
  dsimp only
  split
  · rw [pairSettle_valve_keep g hpair, raise_valve, State.setValve_same]
    exact hg ..
  · rfl

/-- The driver once its run has ended with a cause and a code, decaying. -/
def ended (v : Valve) (cause code : Nat) (fast : Bool) (clk : Nat) : Valve :=
  { v with
    running := false, ending := true, cause, code, fast := fast || v.fast, goal := 0, ramp := none, dither := none, wait := none, target := 0,
    heldAt := none, openAt := none, highAt := none, lowAt := some (v.lowAt.getD clk), endAt := some clk }

theorem stopRun_of_running {n : Nat} {s : State} (h : (s.valve n).running = true) (cause code : Nat) (fast : Bool) :
    stopRun n cause code fast s =
      let u := legSettle n (s.setValve n (ended (s.valve n) cause code fast s.tk.clk))
      if (s.valve n).mean.natAbs < 10 then finishRun n u else u := by
  unfold stopRun
  dsimp only
  rw [if_pos h]
  rfl

theorem stopRun_ended {n : Nat} {s : State} (h : (s.valve n).running = true) (cause code : Nat) (fast : Bool) :
    ((stopRun n cause code fast s).valve n).running = false ∧ ((stopRun n cause code fast s).valve n).cause = cause ∧
      ((stopRun n cause code fast s).valve n).code = code := by
  have hkeep {α : Type} (g : Valve → α) (hclamp : ∀ (v : Valve) clamping, g { v with clamping } = g v)
      (hpair : ∀ (v : Valve) pair pairDue, g { v with pair, pairDue } = g v)
      (hg : ∀ (v : Valve) ending clamping target mean duty idleAt, g { v with ending, clamping, target, mean, duty, idleAt } = g v) :
      g ((stopRun n cause code fast s).valve n) = g (ended (s.valve n) cause code fast s.tk.clk) := by
    rw [stopRun_of_running h]
    dsimp only
    split
    · rw [finishRun_valve_keep g hpair hg, legSettle_valve_keep g hclamp, State.setValve_same]
    · rw [legSettle_valve_keep g hclamp, State.setValve_same]
  exact ⟨hkeep Valve.running (fun _ _ => rfl) (fun _ _ _ => rfl) fun _ _ _ _ _ _ _ => rfl,
    hkeep Valve.cause (fun _ _ => rfl) (fun _ _ _ => rfl) fun _ _ _ _ _ _ _ => rfl,
    hkeep Valve.code (fun _ _ => rfl) (fun _ _ _ => rfl) fun _ _ _ _ _ _ _ => rfl⟩

theorem pairSettle_sp (n : Nat) (s : State) : (pairSettle n s).sp = s.sp := by
  unfold pairSettle
  dsimp only
  split
  · split <;> rfl
  · rfl

theorem finishRun_making_from {l : List (Nat × Rec)} {s : State} (h : l <+: s.sp.making) (n : Nat) : l <+: (finishRun n s).sp.making := by
  unfold finishRun
  dsimp only
  split
  · rw [pairSettle_sp]
    refine raise_making_from ?_ ..
    exact h
  · exact h

theorem legSettle_sp (n : Nat) (s : State) : (legSettle n s).sp = s.sp := by
  unfold legSettle
  dsimp only
  split <;> rfl

theorem legSettle_power (n : Nat) (s : State) : (legSettle n s).power = s.power := by
  unfold legSettle
  dsimp only
  split <;> rfl

theorem stopRun_making_from {l : List (Nat × Rec)} {s : State} {n : Nat} (hl : l <+: s.sp.making) (h : (s.valve n).running = true)
    (cause code : Nat) (fast : Bool) : l <+: (stopRun n cause code fast s).sp.making := by
  have hlegs : l <+: (legSettle n (s.setValve n (ended (s.valve n) cause code fast s.tk.clk))).sp.making := by
    rw [legSettle_sp]
    exact hl
  rw [stopRun_of_running h]
  dsimp only
  split
  · exact finishRun_making_from hlegs n
  · exact hlegs

theorem finishRun_raised {s u : State} {n : Nat} (hp : u.power = .on) (hmaking : u.sp.making = s.sp.making) (h : (u.valve n).ending = true) :
    Raised s (finishRun n u) .wn n 1 0 [((u.valve n).cause : Nat), ((u.valve n).code : Nat)] := by
  unfold finishRun
  dsimp only
  rw [if_pos h]
  refine Raised.mono (raised_raise _ _ _ _ _ ?_ ?_) (by rw [pairSettle_sp])
  · exact hp
  · exact hmaking

/-- A run that ends without current in the coil raises WAND_END (R692). -/
theorem stopRun_raised {s u : State} {n : Nat} (hp : u.power = .on) (hmaking : u.sp.making = s.sp.making) (h : (u.valve n).running = true)
    (hmean : (u.valve n).mean.natAbs < 10) (cause code : Nat) (fast : Bool) :
    Raised s (stopRun n cause code fast u) .wn n 1 0 [(cause : Nat), (code : Nat)] := by
  have hkeep {α : Type} (g : Valve → α) (hclamp : ∀ (v : Valve) clamping, g { v with clamping } = g v) :
      g ((legSettle n (u.setValve n (ended (u.valve n) cause code fast u.tk.clk))).valve n) = g (ended (u.valve n) cause code fast u.tk.clk) := by
    rw [legSettle_valve_keep g hclamp, State.setValve_same]
  rw [stopRun_of_running h]
  dsimp only
  rw [if_pos hmean]
  have hraised := finishRun_raised (s := s) (by rw [legSettle_power, State.setValve_power, hp])
    (by rw [legSettle_sp, State.setValve_sp, hmaking]) (hkeep Valve.ending fun _ _ => rfl)
  rw [hkeep Valve.cause fun _ _ => rfl, hkeep Valve.code fun _ _ => rfl] at hraised
  exact hraised

theorem runs_endWord {s : State} {n : Nat} {w : Word} (h : WandAt s n 10 w) :
    Runs (.endWord n) s fun t =>
      (t.valve n).running = false ∧ (t.valve n).cause = 1 ∧ (t.valve n).code = wf w 0 8 ∧
        ((s.valve n).mean.natAbs < 10 → Raised s t .wn n 1 0 [1, (wf w 0 8 : Nat)]) := by
  refine h.does rfl ?_
  have hvalve : ((advanceClk (s.valve n).nextAt s).setValve n (s.valve n)).valve n = s.valve n := State.setValve_same ..
  have hruns : (((advanceClk (s.valve n).nextAt s).setValve n (s.valve n)).valve n).running = true := by rw [hvalve, h.runs]
  obtain ⟨hrun, hcause, hcode⟩ := stopRun_ended hruns 1 (wf w 0 8) false
  refine ⟨hrun, hcause, hcode, fun hmean => stopRun_raised ?_ ?_ hruns (by rwa [hvalve]) ..⟩
  · rw [State.setValve_power, advanceClk_power, h.power]
  · rw [State.setValve_sp, advanceClk_sp]

theorem runs_illegalWord {s : State} {n : Nat} (hp : s.power = .on) (hon : valveOn s n = true) (hrun : (s.valve n).running = true)
    (hfree : (s.valve n).wait = none) (hlegal : wandLegal ((s.valve n).prog.get (s.valve n).pc 0) = false) :
    Runs (.illegalWord n) s fun t =>
      (t.valve n).running = false ∧ (t.valve n).cause = 5 ∧
        Raised s t .wn n 2 1 [0, ((s.valve n).pc : Nat), (((s.valve n).prog.get (s.valve n).pc 0).toNat : Nat)] := by
  refine runs_mainOn (u := illegalWord n s) rfl hp ?_
  rw [illegalWord, wandStep_of_free hon hrun hfree (by simp only [hlegal, Bool.not_false, Bool.or_true])]
  have hruns : ((raise .wn n 2 1 [0, ((s.valve n).pc : Nat), (((s.valve n).prog.get (s.valve n).pc 0).toNat : Nat)]
      ((advanceClk (s.valve n).nextAt s).setValve n (s.valve n))).valve n).running = true := by
    rw [raise_valve, State.setValve_same, hrun]
  obtain ⟨hrun', hcause, -⟩ := stopRun_ended hruns 5 0 true
  refine ⟨hrun', hcause, Raised.mono (raised_raise _ _ _ _ _ ?_ ?_) (stopRun_making_from List.prefix_rfl hruns ..)⟩
  · rw [State.setValve_power, advanceClk_power, hp]
  · rw [State.setValve_sp, advanceClk_sp]

/-- Settles O31: each word of its opcode that stands next is carried out at its start (`WandAt.wandWord`), with the effect its clause writes out;
a word that is not legal ends the run with cause 5. -/
theorem wandWordsComplete : Obligations.WandWordsComplete := by
  refine ⟨fun _ _ _ h => runs_seti h, fun _ _ _ h => runs_wandRamp h, fun _ _ _ h => runs_waitt h, fun _ _ _ h => runs_waiti h,
    fun _ _ _ h hl => runs_waitin_holds h hl, fun _ _ _ h hl => runs_waitin_waits h hl, fun _ _ _ h => runs_dither h,
    fun _ _ _ h => runs_wandLoop h, fun _ _ _ h => runs_wandJif h, fun _ _ _ h => runs_decay h, fun _ _ _ h => runs_endWord h,
    fun _ _ hp hon hrun hw hlegal => runs_illegalWord hp hon hrun hw hlegal⟩

end Sys2Proof.Machine
end

section
/-!
SUPPORT. Frames: what the views of a state leave out; the encoders, the sensor port and the fixture buses (chapters 19 and 20); O56.
-/
namespace Sys2Proof.Machine

/-! ### What a view of the state leaves out

A frame says that a command leaves some view `p` of the state as it was.  The lemmas below say for each function which components it may
change: they hold of every view that does not show these.  `bound` chains them along a definition. -/

/-- The view `p` shows the same in `t` as in `s`. -/
structure Same {α : Type} (p : State → α) (s t : State) : Prop where
  eq : p t = p s

/-- `Same p s t`, written as an inequality, so that `bound` finds the lemma of each function called, one after the other. -/
abbrev Keeps {α : Type} (p : State → α) (s t : State) : Prop := True ≤ Same p s t

/-- The view `p` shows nothing of what an event changes: the SQ registers, the host link, the records and what is sent (R82, R303). -/
structure NoEvents {α : Type} (p : State → α) : Prop where
  sq : ∀ (s : State) sqN sqBit, p { s with regs := { s.regs with sqN, sqBit } } = p s
  hl : ∀ (s : State) hl, p { s with hl } = p s
  sp : ∀ (s : State) sp, p { s with sp } = p s
  tx : ∀ (s : State) tx, p { s with tx } = p s

section
variable {α : Type} {p : State → α} {s t : State}

theorem Keeps.eq (h : Keeps p s t) : p t = p s := (h trivial).eq

theorem Keeps.of_eq (h : p t = p s) : Keeps p s t := fun _ => ⟨h⟩

theorem Keeps.refl (p : State → α) (s : State) : Keeps p s s := .of_eq rfl

theorem Keeps.step {u : State} (h : Keeps p s t) (k : p u = p t) : Keeps p s u := .of_eq (k.trans h.eq)

/-- A state that a proof starts from.  The mark keeps `bound` from comparing it with every state made of it. -/
@[bound] theorem reached_keeps (h : Same p s t) : Keeps p s (reached t) := fun _ => h

theorem Keeps.of {f : State → State} (hf : ∀ t, Same p s t → Keeps p s (f (reached t))) (h : Keeps p s t) : Keeps p s (f t) := hf t (h trivial)

@[bound] theorem Keeps.ite {c : Prop} [Decidable c] {u : State} (ht : Keeps p s t) (hu : Keeps p s u) : Keeps p s (if c then t else u) := by
  split
  · exact ht
  · exact hu

@[bound] theorem Keeps.foldl {β : Type} {f : State → β → State} (h : ∀ t a, Same p s t → Keeps p s (f (reached t) a)) (l : List β)
    (ht : Keeps p s t) : Keeps p s (l.foldl f t) := by
  induction l generalizing t with
  | nil => exact ht
  | cons a l ih => exact ih (h t a (ht trivial))

@[bound] theorem mainOn_keeps {u : State} (ht : Keeps p s t) (hu : Keeps p s u) : Keeps p s (mainOn t u) := by
  unfold mainOn
  exact hu.ite ht

/-! ### Events and what is sent -/

section
variable (hp : NoEvents p)
include hp

@[bound] theorem send_keeps (x : Tx) (h : Keeps p s t) : Keeps p s (send x t) := h.step (hp.tx ..)

@[bound] theorem pushRec_keeps (prod : Nat) (r : Rec) (h : Keeps p s t) : Keeps p s (pushRec prod r t) := h.step (hp.sp ..)

@[bound] theorem sqRecord_keeps (key bit : Nat) (h : Keeps p s t) : Keeps p s (sqRecord key bit t) := h.step (hp.sq ..)

@[bound] theorem setFn_keeps (f : Nat) (x : Fn) (h : Keeps p s t) : Keeps p s (t.setFn f x) := h.step (hp.hl ..)

@[bound] theorem traffic_keeps (h : Keeps p s t) : Keeps p s (traffic t) := h.step (hp.hl ..)

@[bound] theorem signal_keeps (f v : Nat) : Keeps p s t → Keeps p s (signal f v t) :=
  .of fun t h => by unfold signal; dsimp only; bound

@[bound] theorem signalSpaced_keeps (v : Nat) (h : Keeps p s t) : Keeps p s (signalSpaced v t) := by
  unfold signalSpaced
  dsimp only
  split
  · exact h.step (hp.hl ..)
  · split
    · exact (signal_keeps hp 0 v h).step (hp.hl ..)
    · exact h.step (hp.hl ..)

@[bound] theorem raiseAs_keeps (b : Blk) (i num cls : Nat) (args : List Int) (src prod : Nat) (h : Keeps p s t) :
    Keeps p s (raiseAs b i num cls args src prod t) := by
  unfold raiseAs
  extract_lets u v
  have hu : Keeps p s u := .ite (sqRecord_keeps hp _ _ h) h
  have hv : Keeps p s v := by
    simp only [v]
    split
    · exact signalSpaced_keeps hp _ hu
    · exact hu
  exact .ite (pushRec_keeps hp _ _ hv) h

@[bound] theorem raise_keeps (b : Blk) (i num cls : Nat) (args : List Int) (h : Keeps p s t) : Keeps p s (raise b i num cls args t) :=
  raiseAs_keeps hp _ _ _ _ _ _ _ h

@[bound] theorem raiseTimed_keeps (b : Blk) (i num cls : Nat) (args : List Int) (time : Nat) (h : Keeps p s t) :
    Keeps p s (raiseTimed b i num cls args time t) := by
  unfold raiseTimed
  extract_lets u v
  have hu : Keeps p s u := .ite (sqRecord_keeps hp _ _ h) h
  have hv : Keeps p s v := by
    simp only [v]
    split
    · exact signalSpaced_keeps hp _ hu
    · exact hu
  exact .ite (pushRec_keeps hp _ _ hv) h

/-- A command's completion changes its ring, and makes events (R269). -/
@[bound] theorem complete_keeps (hrg : ∀ (s : State) rg, p { s with rg } = p s) (r : Nat) (st : Status) (result detail : Nat) (h : Keeps p s t) :
    Keeps p s (complete r st result detail t) :=
  h.step (complete_keep p hrg (fun _ _ => (raise_keeps hp _ _ _ _ _ (.refl p _)).eq) (fun s _ _ => hp.sp s _) ..)

end

/-! ### Time, counters and crossings -/

@[bound] theorem advance_keeps (htk : ∀ (s : State) tk, p { s with tk } = p s) (d : Nat) (h : Keeps p s t) : Keeps p s (advance d t) :=
  h.step (htk ..)

@[bound] theorem advanceTo_keeps (htk : ∀ (s : State) tk, p { s with tk } = p s) (u : Nat) (h : Keeps p s t) : Keeps p s (advanceTo u t) :=
  advance_keeps htk _ h

@[bound] theorem advanceClk_keeps (htk : ∀ (s : State) tk, p { s with tk } = p s) (u : Nat) (h : Keeps p s t) :
    Keeps p s (advanceClk u t) := .ite h (advance_keeps htk _ h)

@[bound] theorem bumpBy_keeps (hcnt : ∀ (s : State) cnt, p { s with regs := { s.regs with cnt } } = p s) (key lim n : Nat) (h : Keeps p s t) :
    Keeps p s (bumpBy key lim n t) := h.step (hcnt ..)

@[bound] theorem bump_keeps (hcnt : ∀ (s : State) cnt, p { s with regs := { s.regs with cnt } } = p s) (key : Nat) (h : Keeps p s t) :
    Keeps p s (bump key t) := bumpBy_keeps hcnt _ _ _ h

/-- The view `p` shows nothing of what an offer at a crossing changes (R147). -/
structure NoCrossings {α : Type} (p : State → α) : Prop where
  cnt   : ∀ (s : State) cnt, p { s with regs := { s.regs with cnt } } = p s
  xings : ∀ (s : State) xings, p { s with xings } = p s
  free  : ∀ (s : State) free, p { s with free } = p s

section
variable (hx : NoCrossings p)
include hx

@[bound] theorem offerOpen_keeps (i j : Nat) (h : Keeps p s t) : Keeps p s (offerOpen i j t) := by
  unfold offerOpen
  split
  · exact ((h.step (hx.free ..)).step (hx.xings ..)).step (hx.free ..)
  · exact (bumpBy_keeps hx.cnt _ _ _ h).step (hx.free ..)

@[bound] theorem crossOpen_keeps (i j : Nat) (h : Keeps p s t) : Keeps p s (crossOpen i j t) := .ite (offerOpen_keeps hx _ _ h) h

@[bound] theorem offer_keeps (i j : Nat) (ws : List (Nat × Word)) (h : Keeps p s t) : Keeps p s (offer i j ws t) :=
  .ite (h.step (hx.xings ..)) (bumpBy_keeps hx.cnt _ _ _ h)

/-- An input on its way to the print engine crosses to its domain, or is lost there (R593). -/
@[bound] theorem toPe_keeps (hpe : ∀ (s : State) pe, p { s with pe } = p s) (d : Nat) (i : PeInput) (h : Keeps p s t) :
    Keeps p s (toPe d i t) := .ite ((offerOpen_keeps hx _ _ h).step (hpe ..)) (offerOpen_keeps hx _ _ h)

end

end

/-! ### What an encoder's commands change (chapter 20) -/

section
variable {α : Type} {p : State → α} {s t : State} {n : Nat}

section
variable (hp : NoEvents p) (henc : ∀ (s : State) e, p (s.setEnc n e) = p s)
include hp henc

omit hp in
@[bound] theorem setEnc_keeps (e : Encoder) (h : Keeps p s t) : Keeps p s (t.setEnc n e) := h.step (henc ..)

@[bound] theorem capEnd_keeps (t0 : Nat) (c0 : Int) (h : Keeps p s t) : Keeps p s (capEnd n t0 c0 t) :=
  raiseTimed_keeps hp _ _ _ _ _ _ (setEnc_keeps henc _ h)

@[bound] theorem capEvent_keeps (k : Nat) (h : Keeps p s t) : Keeps p s (capEvent n k t) := by
  unfold capEvent
  dsimp only
  refine .ite ?_ h
  split
  · exact .ite (capEnd_keeps hp henc _ _ (setEnc_keeps henc _ h)) (.ite (capEnd_keeps hp henc _ _ (setEnc_keeps henc _ h)) (setEnc_keeps henc _ h))
  · exact .ite (setEnc_keeps henc _ (setEnc_keeps henc _ h)) (setEnc_keeps henc _ h)

@[bound] theorem setCount_keeps (v : Int) : Keeps p s t → Keeps p s (setCount n v t) :=
  .of fun t h => by unfold setCount; dsimp only; bound

@[bound] theorem countOne_keeps (d : Int) : Keeps p s t → Keeps p s (countOne n d t) :=
  .of fun t h => by unfold countOne; dsimp only; bound

@[bound] theorem lineFault_keeps (l : Nat) : Keeps p s t → Keeps p s (lineFault n l t) :=
  .of fun t h => by unfold lineFault; dsimp only; bound

omit hp in
@[bound] theorem lineFaultEnd_keeps (l : Nat) : Keeps p s t → Keeps p s (lineFaultEnd n l t) :=
  .of fun t h => by unfold lineFaultEnd; dsimp only; bound

@[bound] theorem indexEdge_keeps (held : Nat) : Keeps p s t → Keeps p s (indexEdge n held t) :=
  .of fun t h => by unfold indexEdge; dsimp only; bound

@[bound] theorem zFalling_keeps (held : Nat) : Keeps p s t → Keeps p s (zFalling n held t) :=
  .of fun t h => by unfold zFalling; dsimp only; bound

variable (hx : NoCrossings p)
include hx

@[bound] theorem quadratureEdge_keeps (a b : Bool) : Keeps p s t → Keeps p s (quadratureEdge n a b t) :=
  .of fun t h => by have hcnt := hx.cnt; unfold quadratureEdge; dsimp only; bound

variable (htk : ∀ (s : State) tk, p { s with tk } = p s) (hpe : ∀ (s : State) pe, p { s with pe } = p s)
include htk hpe

omit hp in
@[bound] theorem takeLatch_keeps : Keeps p s t → Keeps p s (takeLatch n t) :=
  .of fun t h => by unfold takeLatch; dsimp only; bound

omit hp in
@[bound] theorem latchFirst_keeps : Keeps p s t → Keeps p s (latchFirst n t) :=
  .of fun t h => by unfold latchFirst; dsimp only; bound

omit hp in
@[bound] theorem speedLatch_keeps : Keeps p s t → Keeps p s (speedLatch n t) :=
  .of fun t h => by unfold speedLatch; dsimp only; bound

@[bound] theorem abEdge_keeps (a b : Bool) (held : Nat) : Keeps p s t → Keeps p s (abEdge n a b held t) :=
  .of fun t h => by unfold abEdge nextClock; dsimp only; bound

@[bound] theorem serialFrame_keeps (f : FrameIn) : Keeps p s t → Keeps p s (serialFrame n f t) :=
  .of fun t h => by
    have hcnt := hx.cnt
    unfold serialFrame
    dsimp only
    refine .ite ?_ (by bound)
    split <;> bound

end

end

/-! ### What the sensor port's commands change (chapter 20) -/

section
variable {α : Type} {p : State → α} {s t : State} (hp : NoEvents p)
  (hsn : ∀ (s : State) x, x.entries = s.en.sn.entries → x.valid = s.en.sn.valid → p (s.setSn x) = p s)
include hp hsn

omit hp in
@[bound] theorem setSn_keeps {x : SensorPort} (h : Keeps p s t) (he : x.entries = t.en.sn.entries := by rfl)
    (hv : x.valid = t.en.sn.valid := by rfl) : Keeps p s (t.setSn x) := h.step (hsn _ _ he hv)

@[bound] theorem snStart_keeps (h : Keeps p s t) : Keeps p s (snStart t) := by
  unfold snStart
  dsimp only
  split
  · exact send_keeps hp _ (setSn_keeps hsn h)
  · exact h

variable (htk : ∀ (s : State) tk, p { s with tk } = p s)
include htk

@[bound] theorem sensorPollDue_keeps : Keeps p s t → Keeps p s (sensorPollDue t) :=
  .of fun t h => by
    unfold sensorPollDue
    dsimp only
    refine .ite ?_ (by bound)
    split
    · bound
    · bound

variable (hx : NoCrossings p) (hpe : ∀ (s : State) pe, p { s with pe } = p s)
include hx hpe

@[bound] theorem sensorTransferDone_keeps (rx : List Byte) : Keeps p s t → Keeps p s (sensorTransferDone rx t) :=
  .of fun t h => by
    unfold sensorTransferDone
    split
    · bound
    · dsimp only
      bound

end

/-! ### What a fixture bus's commands change (chapter 19) -/

section
variable {α : Type} {p : State → α} {s t : State} {b : Nat} (hp : NoEvents p)
  (hcan : ∀ (s : State) x, x.filters = (s.can b).filters → p (s.setCan b x) = p s)
include hp hcan

omit hp in
@[bound] theorem setCan_keeps {x : CanBus} (h : Keeps p s t) (hf : x.filters = (t.can b).filters := by simp) : Keeps p s (t.setCan b x) :=
  h.step (hcan _ _ hf)

@[bound] theorem canAttempt_keeps : Keeps p s t → Keeps p s (canAttempt b t) :=
  .of fun t h => by
    unfold canAttempt
    dsimp only
    split <;> bound

@[bound] theorem canAsleep_keeps : Keeps p s t → Keeps p s (canAsleep b t) :=
  .of fun t h => by unfold canAsleep; bound

@[bound] theorem canRetry_keeps (tec rec_ : Nat) : Keeps p s t → Keeps p s (canRetry b tec rec_ t) :=
  .of fun t h => by unfold canRetry; dsimp only; bound

@[bound] theorem busOn_keeps : Keeps p s t → Keeps p s (busOn b t) :=
  .of fun t h => by unfold busOn; dsimp only; bound

@[bound] theorem sleepEntry_keeps : Keeps p s t → Keeps p s (sleepEntry b t) :=
  .of fun t h => by unfold sleepEntry; dsimp only; bound

@[bound] theorem canIntegrated_keeps : Keeps p s t → Keeps p s (canIntegrated b t) :=
  .of fun t h => by unfold canIntegrated; dsimp only; bound

@[bound] theorem txdDominant_keeps : Keeps p s t → Keeps p s (txdDominant b t) :=
  .of fun t h => by unfold txdDominant; dsimp only; bound

@[bound] theorem busDominant_keeps : Keeps p s t → Keeps p s (busDominant b t) :=
  .of fun t h => by unfold busDominant; dsimp only; bound

@[bound] theorem wakeRaise_keeps (h : Keeps p s t) : Keeps p s (wakeRaise b t) := by
  unfold wakeRaise
  dsimp only
  refine raise_keeps hp _ _ _ _ _ (setCan_keeps hcan h ?_)
  split <;> rfl

omit hp in
@[bound] theorem decoderDisarm_keeps : Keeps p s t → Keeps p s (decoderDisarm b t) :=
  .of fun t h => by unfold decoderDisarm; dsimp only; bound

omit hp in
@[bound] theorem busIdle_keeps (h : Keeps p s t) : Keeps p s (busIdle b t) := by
  unfold busIdle
  dsimp only
  refine .ite (setCan_keeps hcan h ?_) h
  split <;> rfl

section
variable (hrg : ∀ (s : State) rg, p { s with rg } = p s)
include hrg

@[bound] theorem canAbandon_keeps (detail : Nat) : Keeps p s t → Keeps p s (canAbandon b detail t) :=
  .of fun t h => by
    unfold canAbandon
    dsimp only
    refine .ite ?_ (by bound)
    split <;> bound

@[bound] theorem canAcked_keeps (tec rec_ tdc : Nat) : Keeps p s t → Keeps p s (canAcked b tec rec_ tdc t) :=
  .of fun t h => by
    unfold canAcked
    dsimp only
    refine .ite ?_ (by bound)
    split <;> bound

@[bound] theorem canErrors_keeps (tec rec_ : Nat) : Keeps p s t → Keeps p s (canErrors b tec rec_ t) :=
  .of fun t h => by
    unfold canErrors
    dsimp only
    refine .ite (.ite (by bound) ?_) (by bound)
    split <;> bound

@[bound] theorem canTimeout_keeps (htk : ∀ (s : State) tk, p { s with tk } = p s) : Keeps p s t → Keeps p s (canTimeout b t) :=
  .of fun t h => by
    unfold canTimeout
    split <;> bound

end

@[bound] theorem canRecord_keeps (b' k : Nat) (f : CanFrame) : Keeps p s t → Keeps p s (canRecord b' k f t) :=
  .of fun t h => by unfold canRecord; dsimp only; bound

@[bound] theorem canRx_keeps (hx : NoCrossings p) (hpe : ∀ (s : State) pe, p { s with pe } = p s) (f : CanFrame) (tec rec_ : Nat) :
    Keeps p s t → Keeps p s (canRx b f tec rec_ t) :=
  .of fun t h => by
    have hcnt := hx.cnt
    unfold canRx canToPe
    dsimp only
    refine .ite ?_ (by bound)
    split
    · bound
    · refine .ite (by bound) (.ite (by bound) (by bound))

variable (hsl : ∀ (s : State) sl, p { s with sl } = p s)
include hsl

omit hp hcan in
@[bound] theorem wakeSource_keeps (k : Nat) (h : Keeps p s t) : Keeps p s (wakeSource k t) := by
  unfold wakeSource recordWake
  dsimp only
  refine .ite h ?_
  split
  · exact h.step (hsl ..)
  · exact .ite (h.step (hsl ..)) h
  · exact h

@[bound] theorem canWake_keeps (cause filter : Nat) (f : Option CanFrame) : Keeps p s t → Keeps p s (canWake b cause filter f t) :=
  .of fun t h => by unfold canWake; dsimp only; bound

@[bound] theorem wakeFrame_keeps (f : CanFrame) (kind : Nat) : Keeps p s t → Keeps p s (wakeFrame b f kind t) :=
  .of fun t h => by
    unfold wakeFrame
    dsimp only
    refine .ite ?_ (by bound)
    split
    · bound
    · split <;> bound
    · bound
    · bound
    · bound

@[bound] theorem wakePattern_keeps (hfree : ∀ (s : State) free, p { s with free } = p s) (ph : List (Bool × Nat)) (h : Keeps p s t) :
    Keeps p s (wakePattern b ph t) := by
  obtain ⟨n, hn⟩ := scanPhases_sameButFree (fog := tFog t b) (s := t) ph (a := ({}, t)) ⟨t.free, rfl⟩
  have hscan : Keeps p s (ph.foldl (scanPhase (tFog t b)) ({}, t)).2 := by
    rw [hn]
    exact h.step (hfree ..)
  unfold wakePattern
  dsimp only
  exact .ite (.ite hscan (.ite (canWake_keeps hp hcan hsl _ _ _ hscan) (setCan_keeps hcan hscan rfl))) h

end

/-! ### O56 -/

/-- A command on the main die, done with main power on or off, leaves a view as it was where the function that it calls does. -/
theorem frame_of_mainOn {α : Type} {p : State → α} {c : Instr} {s t u : State} (h : exec c s = .next t) (hc : exec c s = .next (mainOn s u))
    (hu : Keeps p s u) : p t = p s := by
  have ht : t = mainOn s u := Host.Outcome.next.inj (h.symm.trans hc)
  rw [ht]
  exact (mainOn_keeps (.refl p s) hu).eq

theorem frame_of_exec {α : Type} {p : State → α} {c : Instr} {s t u : State} (h : exec c s = .next t) (hc : exec c s = .next u)
    (hu : Keeps p s u) : p t = p s := by
  rw [Host.Outcome.next.inj (h.symm.trans hc)]
  exact hu.eq

/-- What every command of an encoder, the sensor port or a fixture bus leaves as it was. -/
structure FixtureRest where
  val   : Tab Word
  ar    : Archive
  chs   : Tab Chan
  mis   : Tab Meas
  doms  : Tab Dom
  sh    : Shutter
  jl    : Jl
  fx    : Fixer
  ez    : Easel
  sb    : StopBath
  mm    : Memories
  pres  : Presence
  sheet : Sheet

def State.fixtureRest (s : State) : FixtureRest where
  val := s.regs.val
  ar := s.ar
  chs := s.chs
  mis := s.mis
  doms := s.doms
  sh := s.sh
  jl := s.jl
  fx := s.fx
  ez := s.ez
  sb := s.sb
  mm := s.mm
  pres := s.pres
  sheet := s.sheet

/-- What the commands of encoder `n` leave of the rest, with encoder `m`. -/
def encoderView (m : Nat) (s : State) : FixtureRest × Encoder × SensorPort × Rings × Tab CanBus × Safelight :=
  (s.fixtureRest, s.enc m, s.en.sn, s.rg, s.cn, s.sl)

theorem encoderView_noEvents (m : Nat) : NoEvents (encoderView m) := ⟨fun _ _ _ => rfl, fun _ _ => rfl, fun _ _ => rfl, fun _ _ => rfl⟩

theorem encoderView_noCrossings (m : Nat) : NoCrossings (encoderView m) := ⟨fun _ _ => rfl, fun _ _ => rfl, fun _ _ => rfl⟩

theorem encoder_frame {s t : State} {n m : Nat} {a b : Bool} {f : FrameIn} {l held : Nat} (hm : m ≠ n) {c : Instr}
    (hc : c ∈ [Instr.quadratureEdge n a b held, .index n held, .speedLatch n, .serialFrame n f, .lineFault n l, .lineFaultEnd n l,
      .zFallingEdge n held]) (h : exec c s = .next t) : encoderView m t = encoderView m s := by
  have hp := encoderView_noEvents m
  have hx := encoderView_noCrossings m
  have htk (s : State) (tk : Timekeeper) : encoderView m { s with tk } = encoderView m s := rfl
  have hpe (s : State) (pe : PrintEngine) : encoderView m { s with pe } = encoderView m s := rfl
  have henc (s : State) (e : Encoder) : encoderView m (s.setEnc n e) = encoderView m s := by
    simp only [encoderView, State.setEnc_other _ _ _ _ hm]
    rfl
  have hs := Keeps.refl (encoderView m) s
  simp only [List.mem_cons, List.not_mem_nil, or_false] at hc
  rcases hc with rfl | rfl | rfl | rfl | rfl | rfl | rfl
  · exact frame_of_mainOn h rfl (abEdge_keeps hp henc hx htk hpe _ _ _ hs)
  · exact frame_of_mainOn h rfl (indexEdge_keeps hp henc _ hs)
  · exact frame_of_mainOn h rfl (speedLatch_keeps henc hx htk hpe hs)
  · exact frame_of_mainOn h rfl (serialFrame_keeps hp henc hx htk hpe _ hs)
  · exact frame_of_mainOn h rfl (lineFault_keeps hp henc _ hs)
  · exact frame_of_mainOn h rfl (lineFaultEnd_keeps henc _ hs)
  · exact frame_of_mainOn h rfl (zFalling_keeps hp henc _ hs)

/-- What the sensor port's commands leave of the rest, with the encoders and the schedule. -/
def sensorView (s : State) : FixtureRest × Tab Encoder × List (List Byte) × Nat × Rings × Tab CanBus × Safelight :=
  (s.fixtureRest, s.en.en, s.en.sn.entries, s.en.sn.valid, s.rg, s.cn, s.sl)

theorem sensor_frame {s t : State} {rx : List Byte} {c : Instr} (hc : c ∈ [Instr.sensorPollDue, .sensorTransferDone rx])
    (h : exec c s = .next t) : sensorView t = sensorView s := by
  have hp : NoEvents sensorView := ⟨fun _ _ _ => rfl, fun _ _ => rfl, fun _ _ => rfl, fun _ _ => rfl⟩
  have hx : NoCrossings sensorView := ⟨fun _ _ => rfl, fun _ _ => rfl, fun _ _ => rfl⟩
  have htk (s : State) (tk : Timekeeper) : sensorView { s with tk } = sensorView s := rfl
  have hpe (s : State) (pe : PrintEngine) : sensorView { s with pe } = sensorView s := rfl
  have hsn (s : State) (x : SensorPort) (he : x.entries = s.en.sn.entries) (hv : x.valid = s.en.sn.valid) :
      sensorView (s.setSn x) = sensorView s := by
    simp only [sensorView, State.setSn, he, hv]
    rfl
  have hs := Keeps.refl sensorView s
  simp only [List.mem_cons, List.not_mem_nil, or_false] at hc
  rcases hc with rfl | rfl
  · exact frame_of_mainOn h rfl (sensorPollDue_keeps hp hsn htk hs)
  · exact frame_of_mainOn h rfl (sensorTransferDone_keeps hp hsn htk hx hpe rx hs)

/-- What the commands of bus `b` leave of the rest, with bus `m` and the filters of bus `b`. -/
def canView (b m : Nat) (s : State) : FixtureRest × Option CanBus × Tab CanFilter × Encoders :=
  (s.fixtureRest, if m = b then none else some (s.can m), (s.can b).filters, s.en)

theorem can_frame {s t : State} {b m : Nat} {f : CanFrame} {tec rec_ tdc k : Nat} {ph : List (Bool × Nat)} {c : Instr}
    (hc : c ∈ [Instr.canFrameRx b f tec rec_, .canFrameAcknowledged b tec rec_ tdc, .canTxRetry b tec rec_, .canTxTimeout b,
      .canErrorStateChange b tec rec_, .busOn b, .busIdleSettings b, .canIntegrated b, .sleepEntry b, .wakePattern b ph, .wakeFrame b f k,
      .decoderDisarm b, .txdDominant b, .busDominant b]) (h : exec c s = .next t) : canView b m t = canView b m s := by
  have hp : NoEvents (canView b m) := ⟨fun _ _ _ => rfl, fun _ _ => rfl, fun _ _ => rfl, fun _ _ => rfl⟩
  have hx : NoCrossings (canView b m) := ⟨fun _ _ => rfl, fun _ _ => rfl, fun _ _ => rfl⟩
  have htk (s : State) (tk : Timekeeper) : canView b m { s with tk } = canView b m s := rfl
  have hpe (s : State) (pe : PrintEngine) : canView b m { s with pe } = canView b m s := rfl
  have hrg (s : State) (rg : Rings) : canView b m { s with rg } = canView b m s := rfl
  have hsl (s : State) (sl : Safelight) : canView b m { s with sl } = canView b m s := rfl
  have hcan (s : State) (x : CanBus) (hf : x.filters = (s.can b).filters) : canView b m (s.setCan b x) = canView b m s := by
    by_cases hm : m = b
    · simp only [canView, hm, if_true, State.setCan_same, hf]
      rfl
    · simp only [canView, hm, if_false, State.setCan_same, hf, State.setCan_other _ _ _ _ hm]
      rfl
  have hs := Keeps.refl (canView b m) s
  simp only [List.mem_cons, List.not_mem_nil, or_false] at hc
  rcases hc with rfl | rfl | rfl | rfl | rfl | rfl | rfl | rfl | rfl | rfl | rfl | rfl | rfl | rfl
  · exact frame_of_mainOn h rfl (canRx_keeps hp hcan hx hpe _ _ _ hs)
  · exact frame_of_mainOn h rfl (canAcked_keeps hp hcan hrg _ _ _ hs)
  · exact frame_of_mainOn h rfl (canRetry_keeps hp hcan _ _ hs)
  · exact frame_of_mainOn h rfl (canTimeout_keeps hp hcan hrg htk hs)
  · exact frame_of_mainOn h rfl (canErrors_keeps hp hcan hrg _ _ hs)
  · exact frame_of_mainOn h rfl (busOn_keeps hp hcan hs)
  · exact frame_of_mainOn h rfl (busIdle_keeps hcan hs)
  · exact frame_of_mainOn h rfl (canIntegrated_keeps hp hcan hs)
  · exact frame_of_mainOn h rfl (sleepEntry_keeps hp hcan hs)
  · exact frame_of_exec h rfl (wakePattern_keeps hp hcan hsl (fun _ _ => rfl) _ hs)
  · exact frame_of_exec h rfl (wakeFrame_keeps hp hcan hsl _ _ hs)
  · exact frame_of_exec h rfl (decoderDisarm_keeps hcan hs)
  · exact frame_of_mainOn h rfl (txdDominant_keeps hp hcan hs)
  · exact frame_of_mainOn h rfl (busDominant_keeps hp hcan hs)

/-- Settles O56: each function that a command of an encoder, the sensor port or a bus calls keeps every view that does not show what it may change
(the lemmas `…_keeps`), and the views of the clauses show none of it. -/
theorem fixtureCommandsFrame : Obligations.FixtureCommandsFrame := by
  refine ⟨fun s t n a b f l held c hc h => ?_, fun s t rx c hc h => ?_, fun s t b f tec rec_ tdc k ph c hc h => ?_⟩
  · have hview (m : Nat) (hm : m ≠ n) : encoderView m t = encoderView m s := encoder_frame hm hc h
    have hrest := hview (n + 1) (Nat.succ_ne_self n)
    simp only [encoderView, Prod.mk.injEq, State.fixtureRest, FixtureRest.mk.injEq] at hview hrest
    obtain ⟨⟨hval, har, hchs, hmis, hdoms, hsh, hjl, hfx, hez, hsb, hmm, hpres, hsheet⟩, -, hsn, hrg, hcn, hsl⟩ := hrest
    exact ⟨fun m hm => (hview m hm).2.1, hsn, hval, hrg, har, hchs, hmis, hdoms, hsh, hjl, hfx, hcn, hez, hsb, hmm, hsl, hpres, hsheet⟩
  · have hrest := sensor_frame hc h
    simp only [sensorView, Prod.mk.injEq, State.fixtureRest, FixtureRest.mk.injEq] at hrest
    obtain ⟨⟨hval, har, hchs, hmis, hdoms, hsh, hjl, hfx, hez, hsb, hmm, hpres, hsheet⟩, hen, hentries, hvalid, hrg, hcn, hsl⟩ := hrest
    exact ⟨hen, hentries, hvalid, hval, hrg, har, hchs, hmis, hdoms, hsh, hjl, hfx, hcn, hez, hsb, hmm, hsl, hpres, hsheet⟩
  · have hview (m : Nat) : canView b m t = canView b m s := can_frame hc h
    have hrest := hview b
    simp only [canView, Prod.mk.injEq, State.fixtureRest, FixtureRest.mk.injEq] at hview hrest
    obtain ⟨⟨hval, har, hchs, hmis, hdoms, hsh, hjl, hfx, hez, hsb, hmm, hpres, hsheet⟩, -, hfilters, hen⟩ := hrest
    refine ⟨fun m hm => ?_, hfilters, hval, har, hchs, hmis, hdoms, hsh, hjl, hfx, hen, hez, hsb, hmm, hpres, hsheet⟩
    have hother := (hview m).2.1
    rw [if_neg hm, if_neg hm, Option.some.injEq] at hother
    exact hother

end Sys2Proof.Machine
end

section
/-!
SUPPORT. Frames: the valve drivers, the switches and the field die (chapters 17 and 18); O55.
-/
namespace Sys2Proof.Machine

/-! ### What a valve driver's commands change (chapter 18): drivers of its pair -/

section
variable {α : Type} {p : State → α} {s t : State} {g n : Nat} (hn : n / 2 = g)
  (hvalve : ∀ (s : State) k v, k / 2 = g → p (s.setValve k v) = p s)
include hn hvalve

@[bound] theorem setValve_keeps (v : Valve) (h : Keeps p s t) : Keeps p s (t.setValve n v) := h.step (hvalve _ _ _ hn)

@[bound] theorem legSettle_keeps (h : Keeps p s t) : Keeps p s (legSettle n t) := .ite h (setValve_keeps hn hvalve _ h)

@[bound] theorem pairSettle_keeps (h : Keeps p s t) : Keeps p s (pairSettle n t) := by
  have hb : n / 2 * 2 / 2 = g := by omega
  unfold pairSettle
  dsimp only
  split
  · exact .ite (setValve_keeps hb hvalve _ h) h
  · exact h

@[bound] theorem meanSeen_keeps (mean : Int) : Keeps p s t → Keeps p s (meanSeen n mean t) :=
  .of fun t h => by
    unfold meanSeen
    dsimp only
    split
    · refine .ite ?_ (by bound)
      split <;> bound
    · bound

variable (hp : NoEvents p)
include hp

@[bound] theorem finishRun_keeps (h : Keeps p s t) : Keeps p s (finishRun n t) :=
  .ite (pairSettle_keeps hn hvalve (raise_keeps hp _ _ _ _ _ (setValve_keeps hn hvalve _ h))) h

@[bound] theorem stopRun_keeps (cause code : Nat) (fast : Bool) (h : Keeps p s t) : Keeps p s (stopRun n cause code fast t) := by
  have hlegs (v : Valve) : Keeps p s (legSettle n (t.setValve n v)) := legSettle_keeps hn hvalve (setValve_keeps hn hvalve v h)
  unfold stopRun
  dsimp only
  exact .ite (.ite (finishRun_keeps hn hvalve hp (hlegs _)) (hlegs _)) (.ite (hlegs _) h)

@[bound] theorem decayComplete_keeps : Keeps p s t → Keeps p s (decayComplete n t) :=
  .of fun t h => by unfold decayComplete; bound

@[bound] theorem diagOn_keeps : Keeps p s t → Keeps p s (diagOn n t) :=
  .of fun t h => by unfold diagOn; dsimp only; bound

@[bound] theorem legTrip_keeps (leg k kind : Nat) : Keeps p s t → Keeps p s (legTrip n leg k kind t) :=
  .of fun t h => by unfold legTrip; dsimp only; bound

variable (htk : ∀ (s : State) tk, p { s with tk } = p s)
include htk

@[bound] theorem peakCapped_keeps : Keeps p s t → Keeps p s (peakCapped n t) :=
  .of fun t h => by
    unfold peakCapped
    dsimp only
    split <;> bound

@[bound] theorem offStateTest_keeps (v1 v2 : Int) (pulse : Nat) : Keeps p s t → Keeps p s (offStateTest n v1 v2 pulse t) :=
  .of fun t h => by unfold offStateTest; dsimp only; bound

omit hn hvalve hp in
@[bound] theorem wandStep_keeps {f : Nat → Word → Bool} {k : Valve → Word → State → State}
    (hk : ∀ v w u, Keeps p s u → Keeps p s (k v w u)) (h : Keeps p s t) : Keeps p s (wandStep n f k t) := by
  unfold wandStep
  refine .ite ?_ h
  split
  · exact h
  · exact .ite (hk _ _ _ (advanceClk_keeps htk _ h)) h

/-! ### Words (R686–R688, R705) -/

omit hp in
/-- Every word sets its driver, but those that end the run. -/
theorem wandWord_keeps {op : Nat} {k : Valve → Word → State → State} (hk : ∀ v w u, ∃ v', k v w u = u.setValve n v') (h : Keeps p s t) :
    Keeps p s (wandWord n op k t) := by
  refine wandStep_keeps htk (fun v w u hu => ?_) h
  obtain ⟨v', hv'⟩ := hk v w u
  rw [hv']
  exact setValve_keeps hn hvalve _ hu

omit hp in
theorem waitin_keeps (h : Keeps p s t) : Keeps p s (waitin n t) := by
  refine wandWord_keeps hn hvalve htk (fun v w u => ?_) h
  dsimp only
  split
  · exact ⟨_, rfl⟩
  · exact ⟨_, rfl⟩

theorem endW_keeps (h : Keeps p s t) : Keeps p s (endW n t) := by
  unfold endW wandWord
  refine wandStep_keeps htk (fun v w u hu => ?_) h
  exact stopRun_keeps hn hvalve hp _ _ _ (setValve_keeps hn hvalve _ hu)

theorem illegalWord_keeps (h : Keeps p s t) : Keeps p s (illegalWord n t) := by
  unfold illegalWord
  refine wandStep_keeps htk (fun v w u hu => ?_) h
  exact stopRun_keeps hn hvalve hp _ _ _ (raise_keeps hp _ _ _ _ _ (setValve_keeps hn hvalve _ hu))

end

@[bound] theorem regulationPeriod_keeps {α : Type} {p : State → α} {s t : State} {g n : Nat} (hn : n / 2 = g)
    (hvalve : ∀ (s : State) k v, k / 2 = g → p (s.setValve k v) = p s) (hp : NoEvents p) (htk : ∀ (s : State) tk, p { s with tk } = p s)
    (mean : Int) (duty : Nat) (h : Keeps p s t) : Keeps p s (regulationPeriod n mean duty t) := by
  have settled {u : State} (hu : Keeps p s u) (c c' : Prop) [Decidable c] [Decidable c'] :
      Keeps p s (if c then meanSeen n mean (if c' then diagOn n u else u) else (if c' then diagOn n u else u)) := by
    have hd : Keeps p s (if c' then diagOn n u else u) := .ite (diagOn_keeps hn hvalve hp hu) hu
    exact .ite (meanSeen_keeps hn hvalve _ hd) hd
  have hset {u : State} (hu : Keeps p s u) (v : Valve) : Keeps p s (u.setValve n v) := setValve_keeps hn hvalve v hu
  rcases Option.eq_none_or_eq_some (t.valve n).regAt with ha | ⟨at_, ha⟩
  · rcases Option.eq_none_or_eq_some (t.valve n).heldAt with hh | ⟨x, hh⟩
    · simp only [regulationPeriod, ha, hh]
      exact .ite (.ite (hset h _) (settled (hset h _) _ _)) h
    · simp only [regulationPeriod, ha, hh]
      exact .ite (.ite (hset h _) (settled (.ite (raise_keeps hp _ _ _ _ _ (hset h _)) (hset h _)) _ _)) h
  · have hu := advanceClk_keeps htk (at_ + regPeriod (t.valve n).cfg) h
    generalize hw : advanceClk (at_ + regPeriod (t.valve n).cfg) t = w at hu
    rcases Option.eq_none_or_eq_some (w.valve n).heldAt with hh | ⟨x, hh⟩
    · simp only [regulationPeriod, ha, hw, hh]
      exact .ite (.ite (hset hu _) (settled (hset hu _) _ _)) h
    · simp only [regulationPeriod, ha, hw, hh]
      exact .ite (.ite (hset hu _) (settled (.ite (raise_keeps hp _ _ _ _ _ (hset hu _)) (hset hu _)) _ _)) h

/-- The trip of a leg is at its own driver, or at the even one of its bridge (R679). -/
@[bound] theorem drvTrip_keeps {α : Type} {p : State → α} {s t : State} {g n : Nat} (hn : n / 2 = g)
    (hvalve : ∀ (s : State) k v, k / 2 = g → p (s.setValve k v) = p s) (hp : NoEvents p) (htk : ∀ (s : State) tk, p { s with tk } = p s)
    (leg ma since lasts : Nat) (h : Keeps p s t) : Keeps p s (drvTrip n leg ma since lasts t) := by
  have hb : (if pairedOdd t n then n - 1 else n) / 2 = g := by
    split
    · next hodd =>
      simp only [pairedOdd, Bool.and_eq_true, beq_iff_eq] at hodd
      omega
    · exact hn
  unfold drvTrip
  dsimp only
  refine .ite ?_ h
  split
  · exact .ite (raise_keeps hp _ _ _ _ _ (setValve_keeps hb hvalve _ (advanceClk_keeps htk _ h)))
      (legTrip_keeps hb hvalve hp _ _ _ (advanceClk_keeps htk _ h))
  · exact legTrip_keeps hb hvalve hp _ _ _ (advanceClk_keeps htk _ h)
  · exact h

/-! ### The frame of the valve drivers -/

/-- What every command of the field die leaves as it was outside of it. -/
structure FieldRest where
  val   : Tab Word
  rg    : Rings
  ar    : Archive
  chs   : Tab Chan
  mis   : Tab Meas
  doms  : Tab Dom
  sh    : Shutter
  jl    : Jl
  pe    : PrintEngine
  fx    : Fixer
  en    : Encoders
  cn    : Tab CanBus
  sb    : StopBath
  mm    : Memories
  sl    : Safelight
  pres  : Presence
  sheet : Sheet

def State.fieldRest (s : State) : FieldRest where
  val := s.regs.val
  rg := s.rg
  ar := s.ar
  chs := s.chs
  mis := s.mis
  doms := s.doms
  sh := s.sh
  jl := s.jl
  pe := s.pe
  fx := s.fx
  en := s.en
  cn := s.cn
  sb := s.sb
  mm := s.mm
  sl := s.sl
  pres := s.pres
  sheet := s.sheet

/-- What the commands of a valve driver leave of the rest and of the easel, with driver `m`. -/
def valveView (m : Nat) (s : State) : FieldRest × Tab Nat × Valve × Tab Switch × Nat × Bool × Tab Word × EzLink :=
  (s.fieldRest, s.regs.cnt, s.valve m, s.ez.field.switches, s.ez.field.level, s.ez.field.safe, s.ez.slots, s.ez.link)

theorem valve_frame {s t : State} {n m leg ma since lasts duty pulse : Nat} {mean v1 v2 : Int} (hm : m / 2 ≠ n / 2) {c : Instr}
    (hc : c ∈ [Instr.seti n, .wandRamp n, .waitt n, .waiti n, .waitin n, .dither n, .wandLoop n, .wandJif n, .decay n, .endWord n,
      .illegalWord n, .decayComplete n, .regulationPeriod n mean duty, .peakCapped n, .drvTrip n leg ma since lasts,
      .offStateTest n v1 v2 pulse]) (h : exec c s = .next t) : valveView m t = valveView m s := by
  have hp : NoEvents (valveView m) := ⟨fun _ _ _ => rfl, fun _ _ => rfl, fun _ _ => rfl, fun _ _ => rfl⟩
  have htk (s : State) (tk : Timekeeper) : valveView m { s with tk } = valveView m s := rfl
  have hvalve (s : State) (k : Nat) (v : Valve) (hk : k / 2 = n / 2) : valveView m (s.setValve k v) = valveView m s := by
    have hmk : m ≠ k := fun h => hm (h ▸ hk)
    simp only [valveView, State.setValve_other _ _ _ _ hmk]
    rfl
  have hs := Keeps.refl (valveView m) s
  have hword {op : Nat} {k : Valve → Word → State → State} (hk : ∀ v w u, ∃ v', k v w u = u.setValve n v') :
      Keeps (valveView m) s (wandWord n op k s) := wandWord_keeps rfl hvalve htk hk hs
  simp only [List.mem_cons, List.not_mem_nil, or_false] at hc
  rcases hc with rfl | rfl | rfl | rfl | rfl | rfl | rfl | rfl | rfl | rfl | rfl | rfl | rfl | rfl | rfl | rfl
  · exact frame_of_mainOn h rfl (hword fun _ _ _ => ⟨_, rfl⟩)
  · exact frame_of_mainOn h rfl (hword fun _ _ _ => ⟨_, rfl⟩)
  · exact frame_of_mainOn h rfl (hword fun _ _ _ => ⟨_, rfl⟩)
  · exact frame_of_mainOn h rfl (hword fun _ _ _ => ⟨_, rfl⟩)
  · exact frame_of_mainOn h rfl (waitin_keeps rfl hvalve htk hs)
  · exact frame_of_mainOn h rfl (hword fun _ _ _ => ⟨_, rfl⟩)
  · exact frame_of_mainOn h rfl (hword fun _ _ _ => ⟨_, rfl⟩)
  · exact frame_of_mainOn h rfl (hword fun _ _ _ => ⟨_, rfl⟩)
  · exact frame_of_mainOn h rfl (hword fun _ _ _ => ⟨_, rfl⟩)
  · exact frame_of_mainOn h rfl (endW_keeps rfl hvalve hp htk hs)
  · exact frame_of_mainOn h rfl (illegalWord_keeps rfl hvalve hp htk hs)
  · exact frame_of_mainOn h rfl (decayComplete_keeps rfl hvalve hp hs)
  · exact frame_of_mainOn h rfl (regulationPeriod_keeps rfl hvalve hp htk mean duty hs)
  · exact frame_of_mainOn h rfl (peakCapped_keeps rfl hvalve hp htk hs)
  · exact frame_of_mainOn h rfl (drvTrip_keeps rfl hvalve hp htk leg ma since lasts hs)
  · exact frame_of_mainOn h rfl (offStateTest_keeps rfl hvalve hp htk v1 v2 pulse hs)

/-! ### What a switch's commands change (chapter 17): the switch, and that there was an event -/

section
variable {α : Type} {p : State → α} {s t : State} {n : Nat} (hsw : ∀ (s : State) x, p (s.setSw n x) = p s)
  (hfree : ∀ (s : State) free, p { s with free } = p s)
include hsw

@[bound] theorem setSw_keeps (x : Switch) (h : Keeps p s t) : Keeps p s (t.setSw n x) := h.step (hsw ..)

@[bound] theorem swOpenLoadClear_keeps : Keeps p s t → Keeps p s (swOpenLoadClear n t) :=
  .of fun t h => by unfold swOpenLoadClear; bound

@[bound] theorem swShortSupplyClear_keeps : Keeps p s t → Keeps p s (swShortSupplyClear n t) :=
  .of fun t h => by unfold swShortSupplyClear; bound

include hfree

omit hsw in
@[bound] theorem spend_keeps (h : Keeps p s t) : Keeps p s (spend t) := h.step (hfree ..)

@[bound] theorem swOff_keeps : Keeps p s t → Keeps p s (swOff n t) :=
  .of fun t h => by unfold swOff; dsimp only; bound

@[bound] theorem swSettle_keeps : Keeps p s t → Keeps p s (swSettle n t) :=
  .of fun t h => by unfold swSettle; dsimp only; bound

variable (hp : NoEvents p) (hev : ∀ (s : State) b, p (s.setField { s.field with swEvent := b }) = p s)
include hev

omit hsw hfree in
@[bound] theorem swEvent_keeps (h : Keeps p s t) : Keeps p s (swEvent t) := h.step (hev ..)

include hp

@[bound] theorem swLatch_keeps : Keeps p s t → Keeps p s (swLatch n t) :=
  .of fun t h => by unfold swLatch; dsimp only; bound

omit hfree in
@[bound] theorem swOpenLoad_keeps : Keeps p s t → Keeps p s (swOpenLoad n t) :=
  .of fun t h => by unfold swOpenLoad; dsimp only; bound

omit hfree in
@[bound] theorem swOverload_keeps : Keeps p s t → Keeps p s (swOverload n t) :=
  .of fun t h => by unfold swOverload; dsimp only; bound

omit hfree in
@[bound] theorem swShortSupply_keeps : Keeps p s t → Keeps p s (swShortSupply n t) :=
  .of fun t h => by unfold swShortSupply; dsimp only; bound

@[bound] theorem swThermalOff_keeps : Keeps p s t → Keeps p s (swThermalOff n t) :=
  .of fun t h => by unfold swThermalOff; dsimp only; bound

@[bound] theorem swThermalRestart_keeps : Keeps p s t → Keeps p s (swThermalRestart n t) :=
  .of fun t h => by unfold swThermalRestart; dsimp only; bound

@[bound] theorem clampEnd_keeps (htk : ∀ (s : State) tk, p { s with tk } = p s) (h : Keeps p s t) : Keeps p s (clampEnd n t) := by
  unfold clampEnd
  dsimp only
  split
  · refine .ite ?_ h
    split <;> bound
  · exact h

end

/-! ### What the field die's commands change -/

section
variable {α : Type} {p : State → α} {s t : State} (hfield : ∀ (s : State) f, p (s.setField f) = p s)
include hfield

@[bound] theorem setField_keeps (f : FieldDie) (h : Keeps p s t) : Keeps p s (t.setField f) := h.step (hfield ..)

theorem setValve_of_setField (g : Nat) (s : State) (k : Nat) (v : Valve) (_ : k / 2 = g) : p (s.setValve k v) = p s := hfield ..

theorem setSw_of_setField (n : Nat) (s : State) (x : Switch) : p (s.setSw n x) = p s := hfield ..

theorem swEvent_of_setField (s : State) (b : Bool) : p (s.setField { s.field with swEvent := b }) = p s := hfield ..

@[bound] theorem setInput_keeps (n : Nat) (x : FieldInput) (h : Keeps p s t) : Keeps p s (t.setInput n x) := h.step (hfield ..)

@[bound] theorem driver_set_keeps (n : Nat) (v : Valve) (h : Keeps p s t) : Keeps p s (t.setValve n v) := h.step (hfield ..)

@[bound] theorem refilter_keeps (h : Keeps p s t) : Keeps p s (refilter t) := h.step (hfield ..)

@[bound] theorem rejudge_keeps (h : Keeps p s t) : Keeps p s (rejudge t) := h.step (hfield ..)

@[bound] theorem heldTold_keeps (ack : Nat) (h : Keeps p s t) : Keeps p s (heldTold ack t) := h.step (hfield ..)

@[bound] theorem heldCarried_keeps (q addr : Nat) (h : Keeps p s t) : Keeps p s (heldCarried q addr t) :=
  .ite (.ite (h.step (hfield ..)) h) (.ite (.ite (h.step (hfield ..)) h) h)

@[bound] theorem inputSeen_keeps (i : Nat) (level : Bool) (h : Keeps p s t) : Keeps p s (inputSeen i level t) := by
  refine .foldl (fun t n ht => ?_) _ h
  have hr : Keeps p s (reached t) := fun _ => ht
  have hset (v : Valve) : Keeps p s ((reached t).setValve n v) := driver_set_keeps hfield n v hr
  dsimp only
  split
  · refine .ite (.ite ?_ (.ite (hset _) hr)) hr
    split
    · exact hset _
    · exact hr
  · exact hr

@[bound] theorem setLevel_keeps (n : Nat) (b : Bool) (h : Keeps p s t) : Keeps p s (setLevel n b t) :=
  .ite h (inputSeen_keeps hfield _ _ (setField_keeps hfield _ h))

@[bound] theorem acceptLevel_keeps (n : Nat) (h : Keeps p s t) : Keeps p s (acceptLevel n t) := .ite (setLevel_keeps hfield _ _ h) h

@[bound] theorem inputAccepted_keeps (n : Nat) (mv : Int) (ua samples : Nat) : Keeps p s t → Keeps p s (inputAccepted n mv ua samples t) :=
  .of fun t h => by unfold inputAccepted; dsimp only; bound

@[bound] theorem legSettleAll_keeps (h : Keeps p s t) : Keeps p s (legSettleAll t) :=
  .foldl (fun _ n ht => legSettle_keeps (g := n / 2) rfl (setValve_of_setField hfield _) (fun _ => ht)) _ h

@[bound] theorem decayFast_keeps (n : Nat) (h : Keeps p s t) : Keeps p s (decayFast n t) :=
  .ite (legSettle_keeps (g := n / 2) rfl (setValve_of_setField hfield _) (driver_set_keeps hfield n _ h)) h

variable (hfree : ∀ (s : State) free, p { s with free } = p s)
include hfree

@[bound] theorem swSettleAll_keeps (h : Keeps p s t) : Keeps p s (swSettleAll t) :=
  .foldl (fun _ n ht => swSettle_keeps (setSw_of_setField hfield n) hfree (fun _ => ht)) _ h

variable (hp : NoEvents p)
include hp

omit hfree in
@[bound] theorem run_stopped_keeps (n cause code : Nat) (fast : Bool) (h : Keeps p s t) : Keeps p s (stopRun n cause code fast t) :=
  stopRun_keeps (g := n / 2) rfl (setValve_of_setField hfield _) hp _ _ _ h

omit hfree in
@[bound] theorem stopAllRuns_keeps (cause : Nat) (h : Keeps p s t) : Keeps p s (stopAllRuns cause t) :=
  .foldl (fun _ n ht => run_stopped_keeps hfield hp n _ _ _ (fun _ => ht)) _ h

@[bound] theorem fieldSafe_keeps (cause : Nat) : Keeps p s t → Keeps p s (fieldSafe cause t) :=
  .of fun t h => by unfold fieldSafe; dsimp only; bound

@[bound] theorem downlinkWatchdog_keeps (h : Keeps p s t) : Keeps p s (downlinkWatchdog t) := .ite (fieldSafe_keeps hfield hfree hp _ h) h

omit hfree in
@[bound] theorem wireBreak_keeps (n : Nat) : Keeps p s t → Keeps p s (wireBreak n t) :=
  .of fun t h => by unfold wireBreak; dsimp only; bound

omit hfree in
@[bound] theorem wireOk_keeps (n : Nat) : Keeps p s t → Keeps p s (wireOk n t) :=
  .of fun t h => by unfold wireOk; dsimp only; bound

@[bound] theorem supplyOnset_keeps (k cls : Nat) (v : Option Int) : Keeps p s t → Keeps p s (supplyOnset k cls v t) :=
  .of fun t h => by unfold supplyOnset; dsimp only; bound

@[bound] theorem supplyEnd_keeps (k : Nat) : Keeps p s t → Keeps p s (supplyEnd k t) :=
  .of fun t h => by unfold supplyEnd; dsimp only; bound

end

/-! ### What a batch and the frames of the easel link change (chapter 17) -/

section
variable {α : Type} {p : State → α} {s t : State} (hfield : ∀ (s : State) f, p (s.setField f) = p s)
  (hp : NoEvents p) (hfree : ∀ (s : State) free, p { s with free } = p s)
include hfield

@[bound] theorem pair_settle_keeps (n : Nat) (h : Keeps p s t) : Keeps p s (pairSettle n t) :=
  pairSettle_keeps (g := n / 2) rfl (setValve_of_setField hfield _) h

include hp

@[bound] theorem valveConfig_keeps (n : Nat) (w : Word) : Keeps p s t → Keeps p s (valveConfig n w t) :=
  .of fun t h => by unfold valveConfig; dsimp only; bound

@[bound] theorem wandStart_keeps (n : Nat) : Keeps p s t → Keeps p s (wandStart n t) :=
  .of fun t h => by unfold wandStart; dsimp only; bound

@[bound] theorem wandRunBit_keeps (n : Nat) (b : Bool) : Keeps p s t → Keeps p s (wandRunBit n b t) :=
  .of fun t h => by unfold wandRunBit; dsimp only; bound

omit hfield hp in
theorem Keeps.ite_snd {c : Prop} [Decidable c] {a b : Option Nat × State} (ha : Keeps p s a.2) (hb : Keeps p s b.2) :
    Keeps p s (if c then a else b).2 := by
  split
  · exact ha
  · exact hb

theorem applySlot_keeps (ptr : Option Nat) (slot : Nat × Word) (h : Keeps p s t) : Keeps p s (applySlot (ptr, t) slot).2 := by
  have hset (f : FieldDie) : Keeps p s (t.setField f) := setField_keeps hfield f h
  have hdrive (n : Nat) (v : Valve) : Keeps p s (t.setValve n v) := driver_set_keeps hfield n v h
  unfold applySlot
  refine .ite_snd (hset _) (.ite_snd (rejudge_keeps hfield (hset _)) (.ite_snd (hset _) (.ite_snd ?_ (.ite_snd (hset _) ?_))))
  · exact .ite (hset _) (refilter_keeps hfield (hset _))
  refine .ite_snd (.ite (raise_keeps hp _ _ _ _ _ (hset _)) h) (.ite_snd (hdrive _ _) (.ite_snd ?_ (.ite_snd (hdrive _ _) (.ite_snd ?_ h))))
  · split
    · exact .ite (hdrive _ _) h
    · exact h
  · exact valveConfig_keeps hfield hp _ _ h

theorem slots_keeps (slots : List (Nat × Word)) (ptr : Option Nat) (h : Keeps p s t) :
    Keeps p s (slots.foldl applySlot (ptr, t)).2 := by
  induction slots generalizing ptr t with
  | nil => exact h
  | cons slot slots ih => exact ih _ (applySlot_keeps hfield hp ptr slot h)

include hfree

@[bound] theorem applyBatch_keeps (slots : List (Nat × Word)) (sw vd : Nat) (outputs : Bool) (h : Keeps p s t) :
    Keeps p s (applyBatch slots sw vd outputs t) := by
  unfold applyBatch
  refine .ite (swSettleAll_keeps hfield hfree (.ite (.foldl (fun u n hu => ?_) _ ?_) ?_)) ?_
  · exact wandRunBit_keeps hfield hp _ _ fun _ => hu
  · exact setField_keeps hfield _ (slots_keeps hfield hp _ _ h)
  · exact setField_keeps hfield _ (slots_keeps hfield hp _ _ h)
  · exact swSettleAll_keeps hfield hfree (slots_keeps hfield hp _ _ h)

variable (hup : ∀ (s : State) up, p { s with ez := { s.ez with up } } = p s)
include hup

omit hp hfree in
@[bound] theorem sendUplink_keeps (at_ : Nat) (x : FieldIn) : Keeps p s t → Keeps p s (sendUplink at_ x t) := by
    intro h
    unfold sendUplink
    dsimp only
    refine .ite (Keeps.step ?_ (hup ..)) (h.step (hup ..))
    refine setField_keeps hfield _ (heldCarried_keeps hfield _ _ (setField_keeps hfield _ (.ite ?_ h)))
    exact setSw_keeps (setSw_of_setField hfield _) _ h

variable (htk : ∀ (s : State) tk, p { s with tk } = p s)
include htk

omit hp hfree in
@[bound] theorem helloUplink_keeps (x : FieldIn) (h : Keeps p s t) : Keeps p s (helloUplink x t) := by
  unfold helloUplink
  refine .ite ?_ h
  dsimp only
  refine sendUplink_keeps hfield hup _ _ (setField_keeps hfield _ ?_)
  split <;> bound

variable (hdown : ∀ (s : State) down, p { s with ez := { s.ez with down } } = p s)
include hdown

@[bound] theorem downlinkFrame_keeps (line : Option Nat) (x : FieldIn) (h : Keeps p s t) : Keeps p s (downlinkFrame line x t) := by
  have hsent : Keeps p s (if t.field.joined then sendUplink (t.ez.frameAt + 1240) x t else t) := .ite (sendUplink_keeps hfield hup _ _ h) h
  unfold downlinkFrame
  refine .ite ?_ h
  dsimp only
  generalize (if t.field.joined then sendUplink (t.ez.frameAt + 1240) x t else t) = u at hsent ⊢
  have hcome : Keeps p s (advanceTo (if u.ez.down.isSome then u.ez.frameAt + 2800 else u.tk.now) { u with ez := { u.ez with down := none } }) :=
    advanceTo_keeps htk _ (hsent.step (hdown ..))
  generalize advanceTo _ { u with ez := { u.ez with down := none } } = v at hcome ⊢
  split
  · rename_i d _
    have htold (f : FieldDie) : Keeps p s (heldTold d.ack (v.setField f)) := heldTold_keeps hfield _ (setField_keeps hfield f hcome)
    have hsafe (f : FieldDie) := Keeps.ite (c := d.safeNow) (fieldSafe_keeps hfield hfree hp 2 (htold f)) (htold f)
    split
    · exact applyBatch_keeps hfield hp hfree _ _ _ _ (hsafe _)
    · exact hsafe _
  · exact .ite (setField_keeps hfield _ hcome) hcome

end

/-- What the commands of the field die leave of the rest, of the link and of its commands. -/
def fieldView (s : State) : FieldRest × EzLink × Tab Word × List ValveCmd := (s.fieldRest, s.ez.link, s.ez.slots, s.ez.cmds)

theorem field_frame {s t : State} {n ua k : Nat} {mv v : Int} {x : FieldIn} {flip : Option Nat} {c : Instr}
    (hc : c ∈ [Instr.inputAccepted n mv ua k, .wireBreak n, .wireOk n, .reverse v, .fgndLoss, .surge v, .undervolt v, .supplyConditionEnd n,
      .swThermalOff n, .swThermalRestart n, .swOverload n, .swOpenLoad n, .swOpenLoadClear n, .swShortSupply n, .swShortSupplyClear n,
      .clampEnd n, .helloUplink x, .downlinkFrame flip x, .downlinkWatchdog]) (h : exec c s = .next t) : fieldView t = fieldView s := by
  have hp : NoEvents fieldView := ⟨fun _ _ _ => rfl, fun _ _ => rfl, fun _ _ => rfl, fun _ _ => rfl⟩
  have htk (s : State) (tk : Timekeeper) : fieldView { s with tk } = fieldView s := rfl
  have hfield (s : State) (f : FieldDie) : fieldView (s.setField f) = fieldView s := rfl
  have hfree (s : State) (free : Nat) : fieldView { s with free } = fieldView s := rfl
  have hup (s : State) (up : Option UpFrame) : fieldView { s with ez := { s.ez with up } } = fieldView s := rfl
  have hdown (s : State) (down : Option DownFrame) : fieldView { s with ez := { s.ez with down } } = fieldView s := rfl
  have hsw := setSw_of_setField hfield
  have hev := swEvent_of_setField hfield
  have hs := Keeps.refl fieldView s
  simp only [List.mem_cons, List.not_mem_nil, or_false] at hc
  rcases hc with rfl | rfl | rfl | rfl | rfl | rfl | rfl | rfl | rfl | rfl | rfl | rfl | rfl | rfl | rfl | rfl | rfl | rfl | rfl
  · exact frame_of_mainOn h rfl (inputAccepted_keeps hfield _ _ _ _ hs)
  · exact frame_of_mainOn h rfl (wireBreak_keeps hfield hp _ hs)
  · exact frame_of_mainOn h rfl (wireOk_keeps hfield hp _ hs)
  · exact frame_of_mainOn h rfl (supplyOnset_keeps hfield hfree hp _ _ _ hs)
  · exact frame_of_mainOn h rfl (supplyOnset_keeps hfield hfree hp _ _ _ hs)
  · exact frame_of_mainOn h rfl (supplyOnset_keeps hfield hfree hp _ _ _ hs)
  · exact frame_of_mainOn h rfl (supplyOnset_keeps hfield hfree hp _ _ _ hs)
  · exact frame_of_mainOn h rfl (supplyEnd_keeps hfield hfree hp _ hs)
  · exact frame_of_mainOn h rfl (swThermalOff_keeps (hsw n) hfree hp hev hs)
  · exact frame_of_mainOn h rfl (swThermalRestart_keeps (hsw n) hfree hp hev hs)
  · exact frame_of_mainOn h rfl (swOverload_keeps (hsw n) hp hev hs)
  · exact frame_of_mainOn h rfl (swOpenLoad_keeps (hsw n) hp hev hs)
  · exact frame_of_mainOn h rfl (swOpenLoadClear_keeps (hsw n) hs)
  · exact frame_of_mainOn h rfl (swShortSupply_keeps (hsw n) hp hev hs)
  · exact frame_of_mainOn h rfl (swShortSupplyClear_keeps (hsw n) hs)
  · exact frame_of_mainOn h rfl (clampEnd_keeps (hsw n) hfree hp hev htk hs)
  · exact frame_of_mainOn h rfl (helloUplink_keeps hfield hup htk _ hs)
  · exact frame_of_mainOn h rfl (downlinkFrame_keeps hfield hp hfree hup htk hdown _ _ hs)
  · exact frame_of_mainOn h rfl (downlinkWatchdog_keeps hfield hfree hp hs)

/-- What the commands of another switch leave of the field die, with switch `m`. -/
def switchView (m : Nat) (s : State) : Switch × Tab Valve × Nat := (s.sw m, s.ez.field.valves, s.ez.field.level)

theorem switch_frame {s t : State} {n m : Nat} (hm : m ≠ n) {c : Instr}
    (hc : c ∈ [Instr.swThermalOff n, .swThermalRestart n, .swOverload n, .swOpenLoad n, .swOpenLoadClear n, .swShortSupply n,
      .swShortSupplyClear n, .clampEnd n]) (h : exec c s = .next t) : switchView m t = switchView m s := by
  have hp : NoEvents (switchView m) := ⟨fun _ _ _ => rfl, fun _ _ => rfl, fun _ _ => rfl, fun _ _ => rfl⟩
  have htk (s : State) (tk : Timekeeper) : switchView m { s with tk } = switchView m s := rfl
  have hfree (s : State) (free : Nat) : switchView m { s with free } = switchView m s := rfl
  have hev (s : State) (b : Bool) : switchView m (s.setField { s.field with swEvent := b }) = switchView m s := rfl
  have hsw (s : State) (x : Switch) : switchView m (s.setSw n x) = switchView m s := by
    simp only [switchView, State.setSw_other _ _ _ _ hm]
    rfl
  have hs := Keeps.refl (switchView m) s
  simp only [List.mem_cons, List.not_mem_nil, or_false] at hc
  rcases hc with rfl | rfl | rfl | rfl | rfl | rfl | rfl | rfl
  · exact frame_of_mainOn h rfl (swThermalOff_keeps hsw hfree hp hev hs)
  · exact frame_of_mainOn h rfl (swThermalRestart_keeps hsw hfree hp hev hs)
  · exact frame_of_mainOn h rfl (swOverload_keeps hsw hp hev hs)
  · exact frame_of_mainOn h rfl (swOpenLoad_keeps hsw hp hev hs)
  · exact frame_of_mainOn h rfl (swOpenLoadClear_keeps hsw hs)
  · exact frame_of_mainOn h rfl (swShortSupply_keeps hsw hp hev hs)
  · exact frame_of_mainOn h rfl (swShortSupplyClear_keeps hsw hs)
  · exact frame_of_mainOn h rfl (clampEnd_keeps hsw hfree hp hev htk hs)

/-- Settles O55: each function a command's effect is made of leaves the view of the rest as it was. -/
theorem fieldDieCommandsFrame : Obligations.FieldDieCommandsFrame := by
  unfold Obligations.FieldDieCommandsFrame
  refine ⟨fun s t n mean duty leg ma since lasts v1 v2 pulse c hc h => ?_, fun s t n mv ua k v x flip c hc h => ?_,
    fun s t n m hm c hc h => ?_⟩
  · have hall (m : Nat) (hm : m / 2 ≠ n / 2) : valveView m t = valveView m s := valve_frame hm hc h
    have hk := hall (2 * (n / 2 + 1)) (by omega)
    refine ⟨fun m hm => congrArg (·.2.2.1) (hall m hm), congrArg (·.2.2.2.1) hk, congrArg (·.2.2.2.2.1) hk, congrArg (·.2.2.2.2.2.1) hk,
      congrArg (·.2.2.2.2.2.2.1) hk, congrArg (·.2.2.2.2.2.2.2) hk, congrArg (·.1.val) hk, congrArg (·.2.1) hk, congrArg (·.1.rg) hk,
      congrArg (·.1.ar) hk, congrArg (·.1.chs) hk, congrArg (·.1.mis) hk, congrArg (·.1.doms) hk, congrArg (·.1.sh) hk,
      congrArg (·.1.jl) hk, congrArg (·.1.pe) hk, congrArg (·.1.fx) hk, congrArg (·.1.en) hk, congrArg (·.1.cn) hk, congrArg (·.1.sb) hk,
      congrArg (·.1.mm) hk, congrArg (·.1.sl) hk, congrArg (·.1.pres) hk, congrArg (·.1.sheet) hk⟩
  · have hk := field_frame hc h
    exact ⟨congrArg (·.2.1) hk, congrArg (·.2.2.1) hk, congrArg (·.2.2.2) hk, congrArg (·.1.val) hk, congrArg (·.1.rg) hk,
      congrArg (·.1.ar) hk, congrArg (·.1.chs) hk, congrArg (·.1.mis) hk, congrArg (·.1.doms) hk, congrArg (·.1.sh) hk,
      congrArg (·.1.jl) hk, congrArg (·.1.pe) hk, congrArg (·.1.fx) hk, congrArg (·.1.en) hk, congrArg (·.1.cn) hk, congrArg (·.1.sb) hk,
      congrArg (·.1.mm) hk, congrArg (·.1.sl) hk, congrArg (·.1.pres) hk, congrArg (·.1.sheet) hk⟩
  · have hk := switch_frame hm hc h
    exact ⟨congrArg (·.1) hk, congrArg (·.2.1) hk, congrArg (·.2.2) hk⟩

end Sys2Proof.Machine
end

section
/-!
SUPPORT. Frames: rings, DMA, spools, archive filling, memories, prints and presence inputs (chapters 04, 09, 16 and 21); O60.
-/
namespace Sys2Proof.Machine

/-! ### What the command rings and DMA change (chapters 06 and 07) -/

section
variable {α : Type} {p : State → α} {s t : State} (hp : NoEvents p)
include hp

@[bound] theorem setSpool_keeps (n : Nat) (x : Spool) (h : Keeps p s t) : Keeps p s (t.setSpool n x) := h.step (hp.sp ..)

@[bound] theorem setStrip_keeps (n : Nat) (x : Strip) (h : Keeps p s t) : Keeps p s (t.setStrip n x) := h.step (hp.sp ..)

@[bound] theorem setStaged_keeps (prod k : Nat) (ws : List Word) (h : Keeps p s t) : Keeps p s (t.setStaged prod k ws) := h.step (hp.sp ..)

@[bound] theorem dmaCount_keeps (c k : Nat) (h : Keeps p s t) : Keeps p s (dmaCount c k t) := h.step (hp.hl ..)

@[bound] theorem makeEcho_keeps (r : Nat) (c : Cpl) (phase : Bool) (h : Keeps p s t) : Keeps p s (makeEcho r c phase t) := pushRec_keeps hp _ _ h

@[bound] theorem stripItem_keeps (n : Nat) : Keeps p s t → Keeps p s (stripItem n t) :=
  .of fun t h => by unfold stripItem; dsimp only; bound

@[bound] theorem levelRose_keeps (n : Nat) : Keeps p s t → Keeps p s (levelRose n t) :=
  .of fun t h => by unfold levelRose; dsimp only; bound

@[bound] theorem levelFell_keeps (n : Nat) : Keeps p s t → Keeps p s (levelFell n t) :=
  .of fun t h => by unfold levelFell; dsimp only; bound

@[bound] theorem levels_keeps : Keeps p s t → Keeps p s (levels t) :=
  .of fun t h => by unfold levels; bound

@[bound] theorem takeHead_keeps (n : Nat) : Keeps p s t → Keeps p s (takeHead n t) :=
  .of fun t h => by unfold takeHead; dsimp only; split <;> bound

@[bound] theorem markHead_keeps (n strip k : Nat) : Keeps p s t → Keeps p s (markHead n strip k t) :=
  .of fun t h => by unfold markHead; dsimp only; split <;> bound

@[bound] theorem forwardOne_keeps (n : Nat) : Keeps p s t → Keeps p s (forwardOne n t) :=
  .of fun t h => by
    unfold forwardOne
    split
    · split
      · dsimp only
        bound
      · bound
    · bound

@[bound] theorem makeRoom_keeps (n : Nat) (h : Keeps p s t) : Keeps p s (makeRoom n t) := by
  unfold makeRoom
  induction membersOf t n with
  | nil => exact h
  | cons m l ih => exact .ite (forwardOne_keeps hp m ih) ih

@[bound] theorem granuleLost_keeps (ev prod k n : Nat) (ws : List Word) (h : Keeps p s t) : Keeps p s (granuleLost ev prod k n ws t) :=
  raise_keeps hp _ _ _ _ _ (setStaged_keeps hp _ _ _ h)

@[bound] theorem stallEnds_keeps (n : Nat) : Keeps p s t → Keeps p s (stallEnds n t) :=
  .of fun t h => by unfold stallEnds; dsimp only; split <;> bound

@[bound] theorem stallSync_keeps (n : Nat) : Keeps p s t → Keeps p s (stallSync n t) :=
  .of fun t h => by unfold stallSync; dsimp only; bound

@[bound] theorem endBinding_keeps (n : Nat) (drop : Bool) (h : Keeps p s t) : Keeps p s (endBinding n drop t) := by
  have hboth (sp : Spools) (hl : HostLink) : p { t with sp, hl } = p t := (hp.hl { t with sp } hl).trans (hp.sp ..)
  exact setStrip_keeps hp _ _ (h.step (hboth ..))

@[bound] theorem voidFetches_keeps (r : Nat) (h : Keeps p s t) : Keeps p s (voidFetches r t) := h.step (hp.hl ..)

variable (hx : NoCrossings p)
include hx

omit hp in
@[bound] theorem dmaOut_keeps (i : Issuer) (h : Keeps p s t) : Keeps p s (dmaOut i t) := crossOpen_keeps hx _ _ (crossOpen_keeps hx _ _ h)

@[bound] theorem issueRead_keeps (c f addr len : Nat) (i : Issuer) (h : Keeps p s t) : Keeps p s (issueRead c f addr len i t) :=
  .foldl (fun _ _ hu => send_keeps hp _ fun _ => hu) _ ((dmaOut_keeps hx _ (dmaCount_keeps hp _ _ h)).step (hp.hl ..))

@[bound] theorem issueWrite_keeps (c f addr : Nat) (bytes : List Byte) (i : Issuer) (h : Keeps p s t) :
    Keeps p s (issueWrite c f addr bytes i t) :=
  .foldl (fun _ _ hu => send_keeps hp _ fun _ => hu) _ (traffic_keeps hp (dmaOut_keeps hx _ (dmaCount_keeps hp _ _ h)))

@[bound] theorem stripLook_keeps (n : Nat) : Keeps p s t → Keeps p s (stripLook n t) :=
  .of fun t h => by unfold stripLook; dsimp only; bound

variable (hrc : ∀ (s : State) rc, p { s with regs := { s.regs with rc } } = p s)
include hrc

omit hp hx in
@[bound] theorem rcSet_keeps (key : Nat) (bits : Word) (h : Keeps p s t) : Keeps p s (rcSet key bits t) := h.step (hrc ..)

@[bound] theorem spDrop_keeps (n reason : Nat) (r : Rec) : Keeps p s t → Keeps p s (spDrop n reason r t) :=
  .of fun t h => by
    have hcnt := hx.cnt
    unfold spDrop
    dsimp only
    bound

@[bound] theorem settleSpool_keeps (n fuel : Nat) (h : Keeps p s t) : Keeps p s (settleSpool n fuel t) := by
  induction fuel generalizing t with
  | zero => exact h
  | succ fuel ih =>
    have hgone (reason : Nat) (r : Rec) {u : State} (hu : Keeps p s u) :
        Keeps p s (settleSpool n fuel (levelFell n (spDrop n reason r (takeHead n u)))) :=
      ih (levelFell_keeps hp n (spDrop_keeps hp hx hrc n reason r (takeHead_keeps hp n hu)))
    unfold settleSpool
    split
    · exact h
    · dsimp only
      split
      · exact .ite (hgone _ _ h) h
      · exact .ite (hgone _ _ h) (.ite (hgone _ _ (setSpool_keeps hp _ _ h)) h)

variable (hrg : ∀ (s : State) rg, p { s with rg } = p s)
include hrg

omit hp hx hrc in
@[bound] theorem setRing_keeps (r : Nat) (x : Ring) (h : Keeps p s t) : Keeps p s (t.setRing r x) := h.step (hrg ..)

omit hx hrc in
@[bound] theorem releaseDone_keeps (n : Nat) : Keeps p s t → Keeps p s (releaseDone n t) :=
  .of fun t h => by
    unfold releaseDone
    dsimp only
    refine .ite ?_ (by bound)
    split <;> bound

@[bound] theorem settleAll_keeps : Keeps p s t → Keeps p s (settleAll t) :=
  .of fun t h => by
    unfold settleAll
    dsimp only
    bound

omit hx hrc hp in
@[bound] theorem ringEnable_keeps (r : Nat) (h : Keeps p s t) : Keeps p s (ringEnable r t) := setRing_keeps hrg _ _ h

omit hx hrc hp in
@[bound] theorem ringSettle_keeps (r : Nat) : Keeps p s t → Keeps p s (ringSettle r t) :=
  .of fun t h => by unfold ringSettle; dsimp only; bound

omit hx hrc in
@[bound] theorem loseCompletion_keeps (r : Nat) : Keeps p s t → Keeps p s (loseCompletion r t) :=
  .of fun t h => by
    unfold loseCompletion
    dsimp only
    split
    · bound
    · exact ringSettle_keeps hrg _ (makeEcho_keeps hp _ _ _ (raise_keeps hp _ _ _ _ _ (Keeps.step (setRing_keeps hrg _ _ fun _ => h) (hrg ..))))

omit hrc in
@[bound] theorem fetchKick_keeps (r k : Nat) (h : Keeps p s t) : Keeps p s (fetchKick r k t) := by
  induction k generalizing t with
  | zero => exact h
  | succ k ih =>
    unfold fetchKick
    dsimp only
    exact .ite (ih (issueRead_keeps hp hx _ _ _ _ _ (setRing_keeps hrg _ _ h))) h

omit hrc hrg in
@[bound] theorem tableKick_keeps (r : Nat) : Keeps p s t → Keeps p s (tableKick r t) :=
  .of fun t h => by unfold tableKick; split <;> bound

@[bound] theorem kickDma_keeps : Keeps p s t → Keeps p s (kickDma t) :=
  .of fun t h => by unfold kickDma; bound

omit hrc hx in
@[bound] theorem ringFault_keeps (r : Nat) : Keeps p s t → Keeps p s (ringFault r t) :=
  .of fun t h => by unfold ringFault; dsimp only; bound

end

/-! ### What archive filling and zeroing change (chapter 10) -/

section
variable {α : Type} {p : State → α} {s t : State} (har : ∀ (s : State) ar, p { s with ar } = p s)
include har

@[bound] theorem setExt_keeps (x : Nat) (e : Extent) (h : Keeps p s t) : Keeps p s (t.setExt x e) := h.step (har ..)

@[bound] theorem setLease_keeps (l : Nat) (x : Lease) (h : Keeps p s t) : Keeps p s (t.setLease l x) := h.step (har ..)

@[bound] theorem arPut_keeps (a : Nat) (l : List Byte) (h : Keeps p s t) : Keeps p s (arPut a l t) := h.step (har ..)

@[bound] theorem arLine_keeps (line : Nat) (l : List Byte) (h : Keeps p s t) : Keeps p s (arLine line l t) :=
  arPut_keeps har _ _ (h.step (har ..))

@[bound] theorem zeroNext_keeps : Keeps p s t → Keeps p s (zeroNext t) :=
  .of fun t h => by unfold zeroNext; split <;> bound

@[bound] theorem zeroAsk_keeps (first : Bool) (x : Nat) (h : Keeps p s t) : Keeps p s (zeroAsk first x t) :=
  .ite h (zeroNext_keeps har (h.step (har ..)))

@[bound] theorem toZeroing_keeps (x : Nat) (h : Keeps p s t) : Keeps p s (toZeroing x t) := zeroAsk_keeps har _ _ (setExt_keeps har _ _ h)

@[bound] theorem fillZero_keeps (x : Nat) : Keeps p s t → Keeps p s (fillZero x t) :=
  .of fun t h => by unfold fillZero; split <;> bound

@[bound] theorem fillTake_keeps (x : Nat) (h : Keeps p s t) : Keeps p s (fillTake x t) := by
  have htaken (e : Extent) (f : Archive) (bytes : List Byte) : Keeps p s (arLine (x * extBytes) bytes { t.setExt x e with ar := f }) :=
    arLine_keeps har _ _ ((setExt_keeps har x e h).step (har ..))
  unfold fillTake
  dsimp only
  split
  · exact (htaken _ _ _).step (har ..)
  · exact fillZero_keeps har _ ((htaken _ _ _).step (har ..))

@[bound] theorem fillSeal_keeps : Keeps p s t → Keeps p s (fillSeal t) :=
  .of fun t h => by
    unfold fillSeal
    split
    · bound
    · exact (setExt_keeps har _ _ (arPut_keeps har _ _ (arPut_keeps har _ _ (arPut_keeps har _ _ fun _ => h)))).step (har ..)

@[bound] theorem releaseExt_keeps (x : Nat) : Keeps p s t → Keeps p s (releaseExt x t) :=
  .of fun t h => by
    unfold releaseExt
    dsimp only
    refine .ite (.ite ?_ ?_) ?_
    · split <;> bound
    · bound
    · bound

variable (hp : NoEvents p)
include hp

@[bound] theorem fillBlock_keeps (h : Keeps p s t) : Keeps p s (fillBlock t) := .ite h (raise_keeps hp _ _ _ _ _ (h.step (har ..)))

@[bound] theorem fillOpen_keeps : Keeps p s t → Keeps p s (fillOpen t) :=
  .of fun t h => by
    unfold fillOpen
    refine .ite (by bound) ?_
    split <;> bound

@[bound] theorem extentZeroed_keeps (h : Keeps p s t) : Keeps p s (extentZeroed t) := by
  unfold extentZeroed
  split
  · exact h
  · have hone (x : Nat) (e : Extent) (ar : Archive) : Keeps p s (zeroNext { t.setExt x e with ar }) :=
      zeroNext_keeps har ((setExt_keeps har x e h).step (har ..))
    have hall (c : Prop) [Decidable c] (x : Nat) (e : Extent) (ar ar' : Archive) (args : List Int) :
        Keeps p s (if c then raise .ar 0 1 0 args { zeroNext { t.setExt x e with ar } with ar := ar' } else zeroNext { t.setExt x e with ar }) :=
      .ite (raise_keeps hp _ _ _ _ _ ((hone _ _ _).step (har ..))) (hone _ _ _)
    exact .ite (hall _ _ _ _ _ _) (fillOpen_keeps har hp (hall _ _ _ _ _ _))

@[bound] theorem archiveTrainingDone_keeps (failed : Option Nat) (h : Keeps p s t) : Keeps p s (archiveTrainingDone failed t) := by
  refine .ite h ?_
  split
  · exact raise_keeps hp _ _ _ _ _ (h.step (har ..))
  · exact zeroNext_keeps har (h.step (har ..))

variable (htk : ∀ (s : State) tk, p { s with tk } = p s)
include htk

@[bound] theorem heartbeatSample_keeps (h : Keeps p s t) : Keeps p s (heartbeatSample t) := by
  refine .foldl (fun u l hu => ?_) _ (advanceTo_keeps htk _ (h.step (har ..)))
  have hset (x : Lease) : Keeps p s ((reached u).setLease l x) := setLease_keeps har l x fun _ => hu
  have hall (x : Lease) (l : List Nat) : Keeps p s (l.foldl (fun s e => releaseExt e s) ((reached u).setLease _ x)) :=
    .foldl (fun v e hv => releaseExt_keeps har e fun _ => hv) _ (hset x)
  exact .ite (.ite (raise_keeps hp _ _ _ _ _ (setLease_keeps har _ _ (hall _ _))) (hset _)) fun _ => hu

variable (hcnt : ∀ (s : State) cnt, p { s with regs := { s.regs with cnt } } = p s)
include hcnt

omit htk in
@[bound] theorem fillCopy_keeps (sp : Nat) (r : Rec) (h : Keeps p s t) : Keeps p s (fillCopy sp r t) := by
  have hopen := fillOpen_keeps har hp h
  unfold fillCopy
  refine .ite h ?_
  dsimp only
  generalize fillOpen t = u at hopen
  split
  · exact .ite (bump_keeps hcnt _ (hopen.step (har ..))) hopen
  · have hback (c : Prop) [Decidable c] (ar : Archive) (args : List Int) : Keeps p s (if c then raise .ar 0 3 0 args { u with ar } else u) :=
      .ite (raise_keeps hp _ _ _ _ _ (hopen.step (har ..))) hopen
    have hline (c d : Prop) [Decidable c] [Decidable d] (ar ar' : Archive) (args : List Int) (a b : Nat) (l l' : List Byte) :=
      arLine_keeps har b l' (.ite (c := d) (arPut_keeps har a l (hback c ar args)) (hback c ar args)) |>.step (har _ ar')
    exact .ite (fillOpen_keeps har hp (fillSeal_keeps har (hline _ _ _ _ _ _ _ _ _))) (hline _ _ _ _ _ _ _ _ _)

end

/-! ### What reads with errors and the scrub change (chapter 21) -/

section
variable {α : Type} {p : State → α} {s t : State} (hp : NoEvents p) (hmm : ∀ (s : State) mm, p { s with mm } = p s)
include hp hmm

@[bound] theorem latchUncorrectable_keeps (macro_ word : Nat) (src : Option Nat) (scrub : Bool) (h : Keeps p s t) :
    Keeps p s (latchUncorrectable macro_ word src scrub t) := raiseAs_keeps hp _ _ _ _ _ _ _ (h.step (hmm ..))

@[bound] theorem latchUnexposed_keeps (macro_ word : Nat) (src : Option Nat) (h : Keeps p s t) :
    Keeps p s (latchUnexposed macro_ word src t) := raiseAs_keeps hp _ _ _ _ _ _ _ (h.step (hmm ..))

variable (hcnt : ∀ (s : State) cnt, p { s with regs := { s.regs with cnt } } = p s)
include hcnt

@[bound] theorem uncorrectableRead_keeps (macro_ word : Nat) (src : Option Nat) (scrub : Bool) (h : Keeps p s t) :
    Keeps p s (uncorrectableRead macro_ word src scrub t) :=
  .ite ((bump_keeps hcnt _ h).step (hmm ..)) (latchUncorrectable_keeps hp hmm _ _ _ _ (bump_keeps hcnt _ h))

@[bound] theorem unexposedRead_keeps (macro_ word : Nat) (src : Option Nat) (h : Keeps p s t) : Keeps p s (unexposedRead macro_ word src t) :=
  .ite ((bump_keeps hcnt _ h).step (hmm ..)) (latchUnexposed_keeps hp hmm _ _ _ (bump_keeps hcnt _ h))

omit hp hcnt in
@[bound] theorem eccWriteBack_keeps (h : Keeps p s t) : Keeps p s (eccWriteBack t) := h.step (hmm ..)

omit hp hcnt in
@[bound] theorem passBegin_keeps (h : Keeps p s t) : Keeps p s (passBegin t) := h.step (hmm ..)

omit hcnt in
@[bound] theorem scrubStep_keeps (h : Keeps p s t) : Keeps p s (scrubStep t) := by
  have hend (c : State → Bool) (args : List Int) (mm : Memories) :
      Keeps p s (if c (raise .mm 0 2 0 args { t with mm }) then passBegin (raise .mm 0 2 0 args { t with mm }) else raise .mm 0 2 0 args { t with mm }) :=
    have hsaid := raise_keeps hp .mm 0 2 0 args (h.step (hmm _ mm))
    .ite (passBegin_keeps hmm hsaid) hsaid
  unfold scrubStep
  dsimp only
  split
  · refine .ite (h.step (hmm ..)) ?_
    split
    · exact h.step (hmm ..)
    · exact hend (fun u => u.mm.passDue) _ _
  · exact h

variable (htk : ∀ (s : State) tk, p { s with tk } = p s)
include htk

omit hp hcnt in
@[bound] theorem scrubTime_keeps (h : Keeps p s t) : Keeps p s (scrubTime t) :=
  Keeps.step (.ite h (advanceClk_keeps htk _ h)) (hmm ..)

omit hp hcnt in
@[bound] theorem scrubPassStart_keeps (h : Keeps p s t) : Keeps p s (scrubPassStart t) := by
  have hat (tm : Nat) (f : State → Memories) : Keeps p s { advanceTo tm t with mm := f (advanceTo tm t) } := (advanceTo_keeps htk tm h).step (hmm ..)
  exact .ite (.ite ((hat _ fun u => { u.mm with passAt := u.tk.now }).step (hmm ..)) (passBegin_keeps hmm (hat _ fun u => { u.mm with passAt := u.tk.now }))) h

@[bound] theorem scrubAccess_keeps (kind : Nat) (h : Keeps p s t) : Keeps p s (scrubAccess kind t) := by
  have ht := scrubTime_keeps hmm htk h
  refine .ite (scrubStep_keeps hp hmm ?_) h
  split
  · exact (bump_keeps hcnt _ ht).step (hmm ..)
  · exact uncorrectableRead_keeps hp hmm hcnt _ _ _ _ (ht.step (hmm ..))
  · exact ht

end

/-! ### What the spools' commands change (chapter 09) -/

section
variable {α : Type} {p : State → α} {s t : State} (hp : NoEvents p) (hx : NoCrossings p)
  (hrc : ∀ (s : State) rc, p { s with regs := { s.regs with rc } } = p s) (hrg : ∀ (s : State) rg, p { s with rg } = p s)
include hp hx hrc hrg

@[bound] theorem ownerRead_keeps (n slot owner : Nat) : Keeps p s t → Keeps p s (ownerRead n slot owner t) :=
  .of fun t h => by unfold ownerRead; dsimp only; bound

@[bound] theorem tailReadComplete_keeps (h : Keeps p s t) : Keeps p s (tailReadComplete t) := by
  unfold tailReadComplete
  split
  · have ht (hl : HostLink) : Keeps p s { t with hl } := h.step (hp.hl ..)
    dsimp only
    split
    · exact ownerRead_keeps hp hx hrc hrg _ _ _ (ht _)
    · exact settleAll_keeps hp hx hrc hrg (ht _)
  · exact h

omit hx hrc in
@[bound] theorem snapshotIn_keeps (r : Rec) : Keeps p s t → Keeps p s (snapshotIn r t) :=
  .of fun t h => by
    unfold snapshotIn
    refine .ite ?_ (by bound)
    split
    · refine .ite (by bound) ?_
      split <;> bound
    · bound

variable (htk : ∀ (s : State) tk, p { s with tk } = p s)
include htk

omit hrc hrg in
@[bound] theorem stallReread_keeps (n : Nat) : Keeps p s t → Keeps p s (stallReread n t) :=
  .of fun t h => by
    unfold stallReread
    dsimp only
    split <;> bound

omit hx hrc hrg in
@[bound] theorem stripStall_keeps (n : Nat) : Keeps p s t → Keeps p s (stripStall n t) :=
  .of fun t h => by
    unfold stripStall
    dsimp only
    split <;> bound

omit hrc hrg in
@[bound] theorem rewindTailRead_keeps (n : Nat) : Keeps p s t → Keeps p s (rewindTailRead n t) :=
  .of fun t h => by
    unfold rewindTailRead
    dsimp only
    split <;> bound

omit hx hrc hrg in
@[bound] theorem commitCycle_keeps (prod : Nat) (h : Keeps p s t) : Keeps p s (commitCycle prod t) := by
  refine Keeps.step ?_ (hp.sp ..)
  split
  · exact .ite (advance_keeps htk _ h) h
  · exact h

variable (har : ∀ (s : State) ar, p { s with ar } = p s)
include har

omit htk in
@[bound] theorem commitRec_keeps (r : Rec) (h : Keeps p s t) : Keeps p s (commitRec r t) := by
  have hcnt := hx.cnt
  have hseq (sp : Spools) : Keeps p s { t with sp } := h.step (hp.sp ..)
  refine .ite (spDrop_keeps hp hx hrc _ _ _ (hseq _)) (.ite (spDrop_keeps hp hx hrc _ _ _ (hseq _)) ?_)
  have hroom (sp : Spools) := makeRoom_keeps hp (headOf t (routeOf t r.src)) (hseq sp)
  refine .ite (spDrop_keeps hp hx hrc _ _ _ (hroom _)) (settleAll_keeps hp hx hrc hrg ?_)
  exact fillCopy_keeps har hp hcnt _ _ (setSpool_keeps hp _ _ (hroom _))

@[bound] theorem stageWord_keeps (prod k tag : Nat) (w : Word) : Keeps p s t → Keeps p s (stageWord prod k tag w t) :=
  .of fun t h => by
    unfold stageWord
    dsimp only
    split <;> bound

@[bound] theorem recordCommit_keeps (prod spool : Nat) (words : List (Nat × Word)) : Keeps p s t → Keeps p s (recordCommit prod spool words t) :=
  .of fun t h => by
    unfold recordCommit
    refine .ite ?_ (.ite ?_ (by bound))
    · split
      · bound
      · have hmade (sp : Spools) : Keeps p s { reached t with sp } := Keeps.step (fun _ => h) (hp.sp ..)
        have hcross (sp : Spools) (r : Rec) := offer_keeps hx (prodDom prod) 4 (recWords r) (hmade sp)
        refine .ite (snapshotIn_keeps hp hrg _ (commitRec_keeps hp hx hrc hrg har _ (commitCycle_keeps hp htk _ ?_))) (hcross _ _)
        exact .ite (hcross _ _) (granuleLost_keeps hp _ _ _ _ _ (hcross _ _))
    · refine .foldl (fun u w hu => ?_) _ fun _ => h
      have hcross := offer_keeps hx (prodDom prod) 4 [w] (reached_keeps hu)
      exact .ite (stageWord_keeps hp hx hrc hrg htk har _ _ _ _ hcross) hcross

variable (hmm : ∀ (s : State) mm, p { s with mm } = p s)
include hmm

omit htk har in
theorem granuleBad_keeps {n : Nat} {ue : Bool} {g : Granule} {u : State} (hu : granuleBad n ue g t = some u) (h : Keeps p s t) : Keeps p s u := by
  have hcnt := hx.cnt
  unfold granuleBad at hu
  split at hu
  · obtain rfl := Option.some.inj hu
    refine settleAll_keeps hp hx hrc hrg (levelFell_keeps hp _ (spDrop_keeps hp hx hrc _ _ _ (takeHead_keeps hp _ ?_)))
    exact spend_keeps hx.free (.ite (unexposedRead_keeps hp hmm hcnt _ _ _ h) (uncorrectableRead_keeps hp hmm hcnt _ _ _ _ h))
  · simp at hu

omit htk har in
@[bound] theorem cascadeForward_keeps (n : Nat) (ue : Bool) (h : Keeps p s t) : Keeps p s (cascadeForward n ue t) := by
  unfold cascadeForward
  split
  · split
    · refine .ite ?_ h
      split
      · next hu => exact granuleBad_keeps hp hx hrc hrg hmm hu h
      · exact settleAll_keeps hp hx hrc hrg (forwardOne_keeps hp _ h)
    · exact h
  · exact h

omit htk har in
@[bound] theorem slotWrite_keeps (n : Nat) (ue : Bool) (h : Keeps p s t) : Keeps p s (slotWrite n ue t) := by
  have hsettled := settleAll_keeps hp hx hrc hrg h
  unfold slotWrite
  split
  · exact h
  · split
    · next hu => exact granuleBad_keeps hp hx hrc hrg hmm hu h
    · split
      · exact hsettled
      · refine .ite hsettled (settleAll_keeps hp hx hrc hrg (stripItem_keeps hp _ (markHead_keeps hp _ _ _ (setStrip_keeps hp _ _ ?_))))
        exact Keeps.step (issueWrite_keeps hp hx _ _ _ _ _ (issueWrite_keeps hp hx _ _ _ _ _ h)) (hp.sp ..)

end

/-! ### What prints and grades change (chapter 16) -/

section
variable {α : Type} {p : State → α} {s t : State} (hp : NoEvents p) (hpe : ∀ (s : State) pe, p { s with pe } = p s)
include hp hpe

omit hp in
@[bound] theorem setPeCh_keeps (n : Nat) (x : PeCh) (h : Keeps p s t) : Keeps p s (t.setPeCh n x) := h.step (hpe ..)

omit hp in
theorem with_pe_keeps (h : Keeps p s t) (pe : PrintEngine) : Keeps p s { t with pe } := h.step (hpe ..)

@[bound] theorem fuseTemp_keeps (n tol : Nat) (l : List Cand) (h : Keeps p s t) : Keeps p s (fuseTemp n tol l t).1 := by
  refine Keeps.ite (.foldl (fun u x hu => ?_) _ h) h
  have hv (x : PeCh) : Keeps p s ((reached u).setPeCh n x) := setPeCh_keeps hpe _ _ (reached_keeps hu)
  exact .ite (raise_keeps hp _ _ _ _ _ (hv _)) (.ite (raise_keeps hp _ _ _ _ _ (hv _)) (hv _))

@[bound] theorem formPrint_keeps (e : PeEpoch) (g : PeLedger) (l : List PeInput) (h : Keeps p s t) : Keeps p s (formPrint e g l t).2 :=
  have hset (x : PeCh) {u : State} (hu : Keeps p s u) := setPeCh_keeps hpe g.ch x hu
  .ite (raise_keeps hp _ _ _ _ _ (hset _ (fuseTemp_keeps hp hpe _ _ _ h))) (hset _ (fuseTemp_keeps hp hpe _ _ _ h))

omit hp in
@[bound] theorem quietEpoch_keeps (g : PeLedger) (h : Keeps p s t) : Keeps p s (quietEpoch g t) := setPeCh_keeps hpe _ _ h

@[bound] theorem judgeOcv_keeps (e : PeEpoch) (h : Keeps p s t) : Keeps p s (judgeOcv e t) := by
  refine .ite h ?_
  split
  · exact .ite h (raise_keeps hp _ _ _ _ _ (h.step (hpe ..)))
  · exact h.step (hpe ..)

variable (hcnt : ∀ (s : State) cnt, p { s with regs := { s.regs with cnt } } = p s)
include hcnt

@[bound] theorem printInputArrival_keeps (h : Keeps p s t) : Keeps p s (printInputArrival t) := by
  unfold printInputArrival
  split
  · exact h
  · refine .ite (.foldl (fun u n hu => ?_) _ (h.step (hpe ..))) ((h.step (hpe _ _)).step (hpe ..))
    have hlate := bump_keeps hcnt 0x48028 (reached_keeps hu)
    exact .ite hlate (raise_keeps hp _ _ _ _ _ (hlate.step (hpe ..)))

variable (hfx : ∀ (s : State) fx, p { s with fx } = p s)
include hfx

omit hpe in
@[bound] theorem commitGrade_keeps (n : Nat) (g : Grade) (ref : Option Nat) (h : Keeps p s t) : Keeps p s (commitGrade n g ref t) :=
  have hdone (r : Rec) (fx : Fixer) : Keeps p s (bump 0x4901C { pushRec prodFx r t with fx }) :=
    bump_keeps hcnt _ ((pushRec_keeps hp _ r h).step (hfx ..))
  .ite (raise_keeps hp _ _ _ _ _ (hdone _ _)) (hdone _ _)

omit hpe in
@[bound] theorem gradeRuns_keeps (endT : Nat) (h : Keeps p s t) : Keeps p s (gradeRuns endT t) :=
  .foldl (fun _ _ hu => commitGrade_keeps hp hcnt hfx _ _ _ (reached_keeps hu)) _ (h.step (hfx ..))

variable (hx : NoCrossings p) (hprint : ∀ (s : State) n print, p (s.setCh n { s.ch n with print, freshPrint := true }) = p s)
include hx hprint

@[bound] theorem emitOne_keeps (e : PeEpoch) (l : List PeInput) (g : PeLedger) (h : Keeps p s t) : Keeps p s (emitOne e l g t) := by
  unfold emitOne
  have hf : Keeps p s (formPrint e g (l.filter fun i => i.ch == g.ch) t).2 := formPrint_keeps hp hpe _ _ _ h
  generalize formPrint _ _ _ _ = r at hf ⊢
  obtain ⟨x, u⟩ := r
  dsimp only
  have hrec := pushRec_keeps hp prodPe (printRec e g x) hf
  generalize pushRec prodPe (printRec e g x) u = v at hrec ⊢
  have hch : v.ch g.ch = (offerOpen 9 (ciDom g.ch) v).ch g.ch := by simp
  have hcross := offerOpen_keeps hx 9 (ciDom g.ch) hrec
  rw [hch]
  have hfx' := offerOpen_keeps hx 9 10 (.ite (c := (offerOpen 9 (ciDom g.ch) v).isOn (ciDom g.ch)) (hcross.step (hprint _ g.ch (some (x.flags, x.t.v)))) hcross)
  exact .ite (hfx'.step (hfx ..)) hfx'

variable (htk : ∀ (s : State) tk, p { s with tk } = p s)
include htk

@[bound] theorem printEmit_keeps (h : Keeps p s t) : Keeps p s (printEmit t) := by
  unfold printEmit
  split
  · exact h
  · refine gradeRuns_keeps hp hcnt hfx _ (with_pe_keeps hpe (.foldl (fun u g hu => ?_) _ ?_) _)
    · exact emitOne_keeps hp hpe hcnt hfx hx hprint _ _ _ (reached_keeps hu)
    refine .foldl (fun u n hu => ?_) _ (.foldl (fun u g hu => ?_) _ (judgeOcv_keeps hp hpe _ (with_pe_keeps hpe (advanceTo_keeps htk _ h) _)))
    · exact setPeCh_keeps hpe _ _ (reached_keeps hu)
    · exact quietEpoch_keeps hpe _ (reached_keeps hu)

end

/-! ### What the presence inputs change (chapter 04) -/

section
variable {α : Type} {p : State → α} {s t : State} (hp : NoEvents p) (hsl : ∀ (s : State) sl, p { s with sl } = p s)
  (hpres : ∀ (s : State) pres, p { s with pres } = p s)
include hp

@[bound] theorem prEvent_keeps (num cls : Nat) (h : Keeps p s t) : Keeps p s (prEvent num cls t) := raise_keeps hp _ _ _ _ _ h

include hsl

omit hp in
@[bound] theorem tickTo_keeps (n : Nat) (h : Keeps p s t) : Keeps p s (tickTo n t) := h.step (hsl ..)

omit hp in
@[bound] theorem sealLog_keeps (kind : Nat) (h : Keeps p s t) : Keeps p s (sealLog kind t) := h.step (hsl ..)

@[bound] theorem sealChange_keeps (o : Bool) (h : Keeps p s t) : Keeps p s (sealChange o t) := by
  unfold sealChange
  dsimp only
  bound

include hpres

omit hsl in
@[bound] theorem closeWindow_keeps (h : Keeps p s t) : Keeps p s (closeWindow t) := .ite (prEvent_keeps hp _ _ (h.step (hpres ..))) h

@[bound] theorem windowClose_keeps : Keeps p s t → Keeps p s (windowClose t) :=
  .of fun t h => by unfold windowClose; split <;> bound

@[bound] theorem calenChange_keeps (n : Nat) (fitted : Bool) (h : Keeps p s t) : Keeps p s (calenChange n fitted t) :=
  have hset (pres : Presence) : Keeps p s { tickTo n t with pres } := (tickTo_keeps hsl n h).step (hpres ..)
  .ite (.ite (prEvent_keeps hp _ _ (hset _)) (hset _)) h

omit hp in
@[bound] theorem buttonStuck_keeps (n : Nat) (h : Keeps p s t) : Keeps p s (buttonStuck n t) :=
  have hboth (u : State) (pres : Presence) (sl : Safelight) : p { u with pres, sl } = p u := (hsl { u with pres } sl).trans (hpres ..)
  .ite ((tickTo_keeps hsl n h).step (hboth ..)) h

omit hp in
@[bound] theorem presReleased_keeps (n : Nat) (h : Keeps p s t) : Keeps p s (presReleased n t) :=
  have hboth (u : State) (pres : Presence) (sl : Safelight) : p { u with pres, sl } = p u := (hsl { u with pres } sl).trans (hpres ..)
  .ite h ((tickTo_keeps hsl n h).step (hboth ..))

@[bound] theorem sealSample_keeps (n : Nat) (o : Bool) (h : Keeps p s t) : Keeps p s (sealSample n o t) := by
  have hpressed (pres : Presence) : Keeps p s (if (tickTo n t).power = .on then { tickTo n t with pres } else tickTo n t) :=
    .ite ((tickTo_keeps hsl n h).step (hpres ..)) (tickTo_keeps hsl n h)
  refine .ite h ?_
  dsimp only
  exact .ite (sealChange_keeps hp hsl _ ((hpressed _).step (hsl ..))) ((hpressed _).step (hsl ..))

end

/-! ### The frame of the spools, the prints, the memories and the presence inputs

A view of the state is the state itself, with what the commands may change taken out. -/

/-- The state without what the spools' commands change. -/
def recordView (s : State) : State :=
  { s with regs := { val := s.regs.val }, xings := [], tk := {}, hl := {}, rg := {}, sp := {}, ar := {}, mm := {}, tx := [], free := 0 }

theorem record_frame {s t : State} {prod sp n : Nat} {words : List (Nat × Word)} {ue : Bool} {c : Instr}
    (hc : c ∈ [Instr.recordCommit prod sp words, .cascadeForward n ue, .tailReadComplete, .slotWrite n ue, .stallReread n, .stripStall n,
      .rewindTailRead n]) (h : exec c s = .next t) : recordView t = recordView s := by
  have hp : NoEvents recordView := ⟨fun _ _ _ => rfl, fun _ _ => rfl, fun _ _ => rfl, fun _ _ => rfl⟩
  have hx : NoCrossings recordView := ⟨fun _ _ => rfl, fun _ _ => rfl, fun _ _ => rfl⟩
  have hrc (s : State) (rc : Tab Word) : recordView { s with regs := { s.regs with rc } } = recordView s := rfl
  have hrg (s : State) (rg : Rings) : recordView { s with rg } = recordView s := rfl
  have htk (s : State) (tk : Timekeeper) : recordView { s with tk } = recordView s := rfl
  have har (s : State) (ar : Archive) : recordView { s with ar } = recordView s := rfl
  have hmm (s : State) (mm : Memories) : recordView { s with mm } = recordView s := rfl
  have hs := Keeps.refl recordView s
  simp only [List.mem_cons, List.not_mem_nil, or_false] at hc
  rcases hc with rfl | rfl | rfl | rfl | rfl | rfl | rfl
  · exact frame_of_mainOn h rfl (recordCommit_keeps hp hx hrc hrg htk har _ _ _ hs)
  · exact frame_of_mainOn h rfl (cascadeForward_keeps hp hx hrc hrg hmm _ _ hs)
  · exact frame_of_mainOn h rfl (tailReadComplete_keeps hp hx hrc hrg hs)
  · exact frame_of_mainOn h rfl (kickDma_keeps hp hx hrc hrg (slotWrite_keeps hp hx hrc hrg hmm n ue hs))
  · exact frame_of_mainOn h rfl (stallReread_keeps hp hx htk _ hs)
  · exact frame_of_mainOn (u := stripStall n s) h rfl (stripStall_keeps hp htk n hs)
  · exact frame_of_mainOn h rfl (rewindTailRead_keeps hp hx htk _ hs)

/-- The state without what print commands change, with the state and exposure of each channel. -/
def printView (s : State) : State × (Nat → ChState × Int) :=
  ({ s with regs := { val := s.regs.val }, xings := [], tk := {}, hl := {}, sp := {}, chs := [], pe := {}, fx := {}, tx := [], free := 0 },
    fun n => ((s.ch n).st, (s.ch n).expo))

theorem print_frame {s t : State} {c : Instr} (hc : c ∈ [Instr.printInputArrival, .printEmit]) (h : exec c s = .next t) :
    printView t = printView s := by
  have hp : NoEvents printView := ⟨fun _ _ _ => rfl, fun _ _ => rfl, fun _ _ => rfl, fun _ _ => rfl⟩
  have hx : NoCrossings printView := ⟨fun _ _ => rfl, fun _ _ => rfl, fun _ _ => rfl⟩
  have hpe (s : State) (pe : PrintEngine) : printView { s with pe } = printView s := rfl
  have hfx (s : State) (fx : Fixer) : printView { s with fx } = printView s := rfl
  have htk (s : State) (tk : Timekeeper) : printView { s with tk } = printView s := rfl
  have hprint (s : State) (n : Nat) (print : Option (Nat × Int)) :
      printView (s.setCh n { s.ch n with print, freshPrint := true }) = printView s := by
    refine congrArg (Prod.mk _) (funext fun m => ?_)
    by_cases hm : m = n
    · subst hm
      simp only [State.setCh_same]
    · simp only [State.setCh_other _ _ _ _ hm]
  have hs := Keeps.refl printView s
  simp only [List.mem_cons, List.not_mem_nil, or_false] at hc
  rcases hc with rfl | rfl
  · exact frame_of_mainOn h rfl (printInputArrival_keeps hp hpe hx.cnt hs)
  · exact frame_of_mainOn h rfl (printEmit_keeps hp hpe hx.cnt hfx hx hprint htk hs)

/-- The state without what the scrub changes. -/
def scrubView (s : State) : State :=
  { s with regs := { val := s.regs.val }, tk := {}, hl := {}, sp := {}, mm := {}, tx := [] }

theorem scrub_frame {s t : State} {k : Nat} {c : Instr} (hc : c ∈ [Instr.eccWriteBack, .scrubPassStart, .scrubAccess k])
    (h : exec c s = .next t) : scrubView t = scrubView s := by
  have hp : NoEvents scrubView := ⟨fun _ _ _ => rfl, fun _ _ => rfl, fun _ _ => rfl, fun _ _ => rfl⟩
  have hmm (s : State) (mm : Memories) : scrubView { s with mm } = scrubView s := rfl
  have hcnt (s : State) (cnt : Tab Nat) : scrubView { s with regs := { s.regs with cnt } } = scrubView s := rfl
  have htk (s : State) (tk : Timekeeper) : scrubView { s with tk } = scrubView s := rfl
  have hs := Keeps.refl scrubView s
  simp only [List.mem_cons, List.not_mem_nil, or_false] at hc
  rcases hc with rfl | rfl | rfl
  · exact frame_of_mainOn h rfl (eccWriteBack_keeps hmm hs)
  · exact frame_of_mainOn h rfl (scrubPassStart_keeps hmm htk hs)
  · exact frame_of_mainOn h rfl (scrubAccess_keeps hp hmm hcnt htk _ hs)

/-- The state without what the presence inputs change. -/
def presenceView (s : State) : State :=
  { s with regs := { val := s.regs.val, cnt := s.regs.cnt }, pres := {}, hl := {}, sp := {}, sl := {}, tx := [] }

theorem presence_frame {s t : State} {k : Nat} {b : Bool} {c : Instr}
    (hc : c ∈ [Instr.windowClose, .calenChange k b, .sealSample k b, .buttonStuck k, .presReleased k]) (h : exec c s = .next t) :
    presenceView t = presenceView s := by
  have hp : NoEvents presenceView := ⟨fun _ _ _ => rfl, fun _ _ => rfl, fun _ _ => rfl, fun _ _ => rfl⟩
  have hsl (s : State) (sl : Safelight) : presenceView { s with sl } = presenceView s := rfl
  have hpres (s : State) (pres : Presence) : presenceView { s with pres } = presenceView s := rfl
  have hs := Keeps.refl presenceView s
  simp only [List.mem_cons, List.not_mem_nil, or_false] at hc
  rcases hc with rfl | rfl | rfl | rfl | rfl
  · exact frame_of_mainOn h rfl (windowClose_keeps hp hsl hpres hs)
  · exact frame_of_mainOn h rfl (calenChange_keeps hp hsl hpres _ _ hs)
  · exact frame_of_exec h rfl (sealSample_keeps hp hsl hpres _ _ hs)
  · exact frame_of_mainOn h rfl (buttonStuck_keeps hsl hpres _ hs)
  · exact frame_of_exec h rfl (presReleased_keeps hsl hpres _ hs)

/-- Settles O60: each function a command's effect is made of leaves the view of the rest as it was. -/
theorem recordCommandsFrame : Obligations.RecordCommandsFrame := by
  unfold Obligations.RecordCommandsFrame
  refine ⟨fun s t prod sp words n ue c hc h => ?_, fun s t c hc h => ?_, fun s t k c hc h => ?_, fun s t k b c hc h => ?_⟩
  · have hk := record_frame hc h
    exact ⟨congrArg (·.power) hk, congrArg (·.regs.val) hk, congrArg (·.doms) hk, congrArg (·.chs) hk, congrArg (·.mis) hk, congrArg (·.sh) hk,
      congrArg (·.jl) hk, congrArg (·.pe) hk, congrArg (·.fx) hk, congrArg (·.en) hk, congrArg (·.cn) hk, congrArg (·.ez) hk,
      congrArg (·.sb) hk, congrArg (·.sl) hk, congrArg (·.pres) hk, congrArg (·.sheet) hk⟩
  · have hk := print_frame hc h
    have hn (n : Nat) : ((t.ch n).st, (t.ch n).expo) = ((s.ch n).st, (s.ch n).expo) := congrFun (congrArg Prod.snd hk) n
    replace hk := congrArg Prod.fst hk
    exact ⟨fun n => Prod.mk.inj (hn n), congrArg (·.regs.val) hk, congrArg (·.rg) hk, congrArg (·.ar) hk, congrArg (·.doms) hk,
      congrArg (·.mis) hk, congrArg (·.sh) hk, congrArg (·.jl) hk, congrArg (·.en) hk, congrArg (·.cn) hk, congrArg (·.ez) hk,
      congrArg (·.sb) hk, congrArg (·.mm) hk, congrArg (·.sl) hk, congrArg (·.pres) hk, congrArg (·.sheet) hk⟩
  · have hk := scrub_frame hc h
    exact ⟨congrArg (·.regs.val) hk, congrArg (·.rg) hk, congrArg (·.ar) hk, congrArg (·.chs) hk, congrArg (·.doms) hk, congrArg (·.mis) hk,
      congrArg (·.sh) hk, congrArg (·.jl) hk, congrArg (·.pe) hk, congrArg (·.fx) hk, congrArg (·.en) hk, congrArg (·.cn) hk,
      congrArg (·.ez) hk, congrArg (·.sb) hk, congrArg (·.sl) hk, congrArg (·.pres) hk, congrArg (·.sheet) hk⟩
  · have hk := presence_frame hc h
    exact ⟨congrArg (·.power) hk, congrArg (·.regs.val) hk, congrArg (·.regs.cnt) hk, congrArg (·.tk) hk, congrArg (·.rg) hk,
      congrArg (·.ar) hk, congrArg (·.chs) hk, congrArg (·.doms) hk, congrArg (·.mis) hk, congrArg (·.sh) hk, congrArg (·.jl) hk,
      congrArg (·.pe) hk, congrArg (·.fx) hk, congrArg (·.en) hk, congrArg (·.cn) hk, congrArg (·.ez) hk, congrArg (·.sb) hk,
      congrArg (·.mm) hk, congrArg (·.sheet) hk⟩

end Sys2Proof.Machine
end

section
/-!
SUPPORT. Frames: the host link, CXL and the archive (chapters 06 and 10); O59.
-/
namespace Sys2Proof.Machine

/-! ### What the link's commands change (chapter 06) -/

section
variable {α : Type} {p : State → α} {s t : State} (hp : NoEvents p) (hx : NoCrossings p)
include hp

@[bound] theorem with_hl_keeps (hl : HostLink) (h : Keeps p s t) : Keeps p s { t with hl } := h.step (hp.hl ..)

@[bound] theorem with_sp_keeps (sp : Spools) (h : Keeps p s t) : Keeps p s { t with sp } := h.step (hp.sp ..)

@[bound] theorem aerReport_keeps (f e : Nat) (advisory : Bool) (h : Keeps p s t) : Keeps p s (aerReport f e advisory t) := send_keeps hp _ h

@[bound] theorem cfgReset_keeps (f : Nat) (flr : Bool) (h : Keeps p s t) : Keeps p s (cfgReset f flr t) := setFn_keeps hp _ _ h

@[bound] theorem trainLink_keeps (h : Keeps p s t) : Keeps p s (trainLink t) := .ite (with_hl_keeps hp _ h) h

@[bound] theorem perstDeassert_keeps (h : Keeps p s t) : Keeps p s (perstDeassert t) := trainLink_keeps hp (.ite (with_hl_keeps hp _ h) h)

@[bound] theorem linkUp_keeps (speed width : Nat) (h : Keeps p s t) : Keeps p s (linkUp speed width t) :=
  .ite (raise_keeps hp _ _ _ _ _ (with_hl_keeps hp _ h)) h

@[bound] theorem flushVector_keeps (f v : Nat) : Keeps p s t → Keeps p s (flushVector f v t) :=
  .of fun t h => by unfold flushVector; dsimp only; bound

@[bound] theorem flushPending_keeps (f : Nat) : Keeps p s t → Keeps p s (flushPending f t) :=
  .of fun t h => by unfold flushPending; bound

include hx

@[bound] theorem badTlp_keeps (kind fn : Nat) (h : Keeps p s t) : Keeps p s (badTlp kind fn t) := by
  have hcnt := hx.cnt
  unfold badTlp
  split <;> bound

omit hp in
@[bound] theorem corrected_keeps (k : Nat) (h : Keeps p s t) : Keeps p s (corrected k t) := bumpBy_keeps hx.cnt _ _ _ h

omit hp in
@[bound] theorem unleased_keeps (l : Nat) (write : Bool) (h : Keeps p s t) : Keeps p s (unleased l write t) := bump_keeps hx.cnt _ h

@[bound] theorem speedChange_keeps (v : Nat) (h : Keeps p s t) : Keeps p s (speedChange v t) :=
  .ite (raise_keeps hp _ _ _ _ _ (bump_keeps hx.cnt _ (with_hl_keeps hp _ h))) h

@[bound] theorem widthChange_keeps (v : Nat) (h : Keeps p s t) : Keeps p s (widthChange v t) :=
  .ite (raise_keeps hp _ _ _ _ _ (bump_keeps hx.cnt _ (with_hl_keeps hp _ h))) h

@[bound] theorem l1Exit_keeps (h : Keeps p s t) : Keeps p s (l1Exit t) :=
  .ite (bump_keeps hx.cnt _ (traffic_keeps hp (with_hl_keeps hp _ h))) h

omit hx in
@[bound] theorem l1Entry_keeps (htk : ∀ (s : State) tk, p { s with tk } = p s) (sub : Bool) (h : Keeps p s t) : Keeps p s (l1Entry sub t) :=
  .ite (with_hl_keeps hp _ (advanceClk_keeps htk _ h)) h

omit hx in
@[bound] theorem poisonAdd_keeps (line : Nat) (h : Keeps p s t) : Keeps p s (poisonAdd line t) := by
  have hsaid (c : Prop) [Decidable c] (a b : HostLink) : Keeps p s (raise .hl 0 10 1 [] (if c then { t with hl := a } else { t with hl := b })) :=
    raise_keeps hp _ _ _ _ _ (.ite (with_hl_keeps hp _ h) (with_hl_keeps hp _ h))
  refine .ite ?_ (hsaid _ _ _)
  exact .foldl (fun u f hu => signal_keeps hp _ _ (reached_keeps hu)) _ (signalSpaced_keeps hp _ (with_hl_keeps hp _ (hsaid _ _ _)))

@[bound] theorem lineError_keeps (line : Nat) (h : Keeps p s t) : Keeps p s (lineError line t) :=
  poisonAdd_keeps hp _ (bump_keeps hx.cnt _ h)

@[bound] theorem cxlMemRead_keeps (hue : ∀ (s : State) ueLines, p { s with ar := { s.ar with ueLines } } = p s) (l a words : Nat) (ue : Bool)
    (h : Keeps p s t) : Keeps p s (cxlMemRead l a words ue t) := by
  have hpoison (u : State) (hu : Keeps p s u) : Keeps p s (send (.cxlData l [] true) (bump 0x4203C u)) :=
    send_keeps hp _ (bump_keeps hx.cnt _ hu)
  have htr := traffic_keeps hp h
  unfold cxlMemRead
  refine .ite h ?_
  dsimp only
  split
  · exact hpoison _ htr
  · refine .ite (.ite (hpoison _ htr) (send_keeps hp _ htr)) (.ite (hpoison _ (unleased_keeps hx _ _ htr)) ?_)
    generalize traffic t = u at htr ⊢
    have hhit (line : Nat) : Keeps p s (if ue = true ∧ u.ar.fail.isNone = true then
        { u with ar := { u.ar with ueLines := u.ar.ueLines.put line () } } else u) := .ite (htr.step (hue ..)) htr
    replace hhit := hhit (‹Nat› / 64 * 64)
    generalize (if ue = true ∧ u.ar.fail.isNone = true then _ else u) = v at hhit ⊢
    have hcorr : Keeps p s (if v.ar.fail.isSome = true then v else corrected words v) := .ite hhit (corrected_keeps hx _ hhit)
    generalize (if v.ar.fail.isSome = true then v else corrected words v) = w at hcorr ⊢
    exact .ite (hpoison _ (lineError_keeps hp hx _ hcorr)) (.ite (hpoison _ hcorr) (send_keeps hp _ hcorr))

variable (hrc : ∀ (s : State) rc, p { s with regs := { s.regs with rc } } = p s) (hrg : ∀ (s : State) rg, p { s with rg } = p s)
include hrc hrg

@[bound] theorem fnResume_keeps (f : Nat) (h : Keeps p s t) : Keeps p s (fnResume f t) := kickDma_keeps hp hx hrc hrg (flushPending_keeps hp _ h)

@[bound] theorem flrComplete_keeps (f : Nat) : Keeps p s t → Keeps p s (flrComplete f t) :=
  .of fun t h => by unfold flrComplete; dsimp only; bound

@[bound] theorem d3hotEntry_keeps (f : Nat) : Keeps p s t → Keeps p s (d3hotEntry f t) :=
  .of fun t h => by unfold d3hotEntry; bound

@[bound] theorem stripError_keeps (n kind : Nat) : Keeps p s t → Keeps p s (stripError n kind t) :=
  .of fun t h => by unfold stripError; dsimp only; bound

omit hx hrc in
@[bound] theorem cplLost_keeps (r era kind : Nat) (h : Keeps p s t) : Keeps p s (cplLost r era kind t) := by
  have hback (c : Prop) [Decidable c] (x : Ring) (rg : State → Rings) : Keeps p s (raise .rg 0 6 1 []
      { (if c then t.setRing r x else t) with rg := rg (if c then t.setRing r x else t) }) :=
    raise_keeps hp _ _ _ _ _ (Keeps.step (.ite (setRing_keeps hrg _ _ h) h) (hrg ..))
  exact .ite (hback _ _ fun u => { u.rg with lost := (u.rg.lost + 1) % 256 })
    (ringFault_keeps hp hrg _ (hback _ _ fun u => { u.rg with lost := (u.rg.lost + 1) % 256 }))

@[bound] theorem issuerError_keeps (i : Issuer) (kind : Nat) (h : Keeps p s t) : Keeps p s (issuerError i kind t) := by
  unfold issuerError
  split
  · exact .ite h (ringFault_keeps hp hrg _ h)
  · exact .ite h (raise_keeps hp _ _ _ _ _ h)
  · exact stripError_keeps hp hx hrc hrg _ _ h
  · exact h
  · exact stripError_keeps hp hx hrc hrg _ _ h
  · split
    · exact .ite (complete_keeps hp hrg _ _ _ _ h) h
    · exact h
  · exact cplLost_keeps hp hrg _ _ _ h
  · exact h

@[bound] theorem dmaError_keeps (kind fn addr : Nat) (i : Issuer) (h : Keeps p s t) : Keeps p s (dmaError kind fn addr i t) := by
  have hsaid : Keeps p s (match (motive := Nat → State) kind with
      | 1 => aerReport fn aerTimeout false (bump 0x42044 t)
      | k => badTlp k fn t) := by
    split
    · exact aerReport_keeps hp _ _ _ (bump_keeps hx.cnt _ h)
    · exact badTlp_keeps hp hx _ _ h
  unfold dmaError
  dsimp only
  exact issuerError_keeps hp hx hrc hrg _ _ (raise_keeps hp _ _ _ _ _ (bump_keeps hx.cnt _ (with_hl_keeps hp _ hsaid)))

@[bound] theorem failReq_keeps (kind : Nat) (q : Req) (h : Keeps p s t) : Keeps p s (failReq kind q t) :=
  .foldl (fun _ _ hu => dmaError_keeps hp hx hrc hrg _ _ _ _ (reached_keeps hu)) _ h

omit hx hrc in
@[bound] theorem itemBack_keeps (a : Nat) (i : Issuer) : Keeps p s t → Keeps p s (itemBack a i t) :=
  .of fun t h => by unfold itemBack; split <;> bound

@[bound] theorem discardWrites_keeps (q : Nat → Bool) (n kind : Nat) (h : Keeps p s t) : Keeps p s (discardWrites q n kind t) := by
  unfold discardWrites
  dsimp only
  exact .foldl (fun _ _ hu => dmaError_keeps hp hx hrc hrg _ _ _ _ (itemBack_keeps hp hrg _ _ (reached_keeps hu))) _ (h.step (hp.tx ..))

@[bound] theorem copyStops_keeps (k kind : Nat) (h : Keeps p s t) : Keeps p s (copyStops k kind t) := by
  unfold copyStops
  split
  · exact h
  · exact complete_keeps hp hrg _ _ _ _ (dmaError_keeps hp hx hrc hrg _ _ _ _ (.ite h (issueWrite_keeps hp hx _ _ _ _ _ h)))

@[bound] theorem rewindStrips_keeps (q : Nat → Bool) : Keeps p s t → Keeps p s (rewindStrips q t) :=
  .of fun t h => by
    unfold rewindStrips
    dsimp only
    bound

end

section
variable {α : Type} {p : State → α} {n : Nat} {s t : State} (hch : ∀ (s : State) c, p (s.setCh n c) = p s)
include hch

@[bound] theorem setCh_keeps (c : Chan) (h : Keeps p s t) : Keeps p s (t.setCh n c) := h.step (hch ..)

@[bound] theorem cancelQueued_keeps (hp : NoEvents p) (hrg : ∀ (s : State) rg, p { s with rg } = p s) (st : Status) (detail : Nat)
    (h : Keeps p s t) : Keeps p s (cancelQueued n st detail t) := by
  refine .ite ?_ h
  split
  · exact complete_keeps hp hrg _ _ _ _ (setCh_keeps hch _ h)
  · exact setCh_keeps hch _ h

end

section
variable {α : Type} {p : State → α} {s t : State} (hp : NoEvents p) (hx : NoCrossings p)
  (hrc : ∀ (s : State) rc, p { s with regs := { s.regs with rc } } = p s) (hrg : ∀ (s : State) rg, p { s with rg } = p s)
include hp hx hrc hrg

variable (hreset : ∀ (s : State) held shadow snap, p { s with regs := { s.regs with held, shadow, snap } } = p s)
  (hch : ∀ (s : State) chs, p { s with chs } = p s) (hval : ∀ (s : State) w, p (putNow 0x43000 w s) = p s)

omit hp hx hrc hrg in
include hreset in
@[bound] theorem requesterReset_keeps (f : Nat) (h : Keeps p s t) : Keeps p s (requesterReset f t) := h.step (hreset ..)

include hreset in
@[bound] theorem functionLevelReset_keeps (f writes : Nat) (copied : Option Nat) : Keeps p s t → Keeps p s (functionLevelReset f writes copied t) :=
  .of fun t h => by
    unfold functionLevelReset
    refine .ite (by bound) (rewindStrips_keeps hp hx hrc hrg _ ?_)
    dsimp only
    split <;> bound

include hch

omit hx hrc in
@[bound] theorem ringStop_keeps (r : Nat) (h : Keeps p s t) : Keeps p s (ringStop r t) := by
  have hset (x : Ring) : Keeps p s (voidFetches r (t.setRing r x)) := voidFetches_keeps hp _ (setRing_keeps hrg _ _ h)
  have hlose {u : State} (hu : Keeps p s u) : Keeps p s (ringSettle r (if u.hl.link = .up then u else loseCompletion r u)) :=
    ringSettle_keeps hrg _ (.ite hu (loseCompletion_keeps hp hrg _ hu))
  refine .ite ?_ h
  split
  · refine hlose (.ite (cancelQueued_keeps (fun _ _ => hch ..) hp hrg _ _ (hset _)) (hset _))
  · exact hlose (hset _)

include hval

omit hx hrc in
@[bound] theorem ringsDown_keeps (h : Keeps p s t) : Keeps p s (ringsDown t) :=
  .foldl (fun _ _ hu => ringStop_keeps hp hrg hch _ (setRing_keeps hrg _ _ (reached_keeps hu))) _ (h.step (hval ..))

@[bound] theorem linkDown_keeps (writes : Nat) (copied : Option Nat) (h : Keeps p s t) : Keeps p s (linkDown writes copied t) := by
  refine .ite h ?_
  have hdown (hl : HostLink) : Keeps p s (discardWrites (fun _ => true) writes 6
      (t.hl.reqs.foldl (fun s q => failReq 6 q s) (bump 0x4202C (raise .hl 0 1 1 [] { t with hl })))) :=
    discardWrites_keeps hp hx hrc hrg _ _ _ (.foldl (fun _ _ hu => failReq_keeps hp hx hrc hrg _ _ (reached_keeps hu)) _
      (bump_keeps hx.cnt _ (raise_keeps hp _ _ _ _ _ (with_hl_keeps hp _ h))))
  refine rewindStrips_keeps hp hx hrc hrg _ (ringsDown_keeps hp hrg hch hval ?_)
  split
  · exact copyStops_keeps hp hx hrc hrg _ _ (hdown _)
  · exact hdown _

include hreset

@[bound] theorem perstAssert_keeps (writes : Nat) (copied : Option Nat) (h : Keeps p s t) : Keeps p s (perstAssert writes copied t) := by
  have hdown (a : HostLink) (f : State → HostLink) : Keeps p s { linkDown writes copied { t with hl := a } with hl := f (linkDown writes copied { t with hl := a }) } :=
    with_hl_keeps hp _ (linkDown_keeps hp hx hrc hrg hch hval _ _ (with_hl_keeps hp _ h))
  refine .ite h (requesterReset_keeps hreset _ (requesterReset_keeps hreset _ ?_))
  exact .ite (ringsDown_keeps hp hrg hch hval (hdown _ fun u => _)) (hdown _ fun u => _)

end

/-! ### The frame of the host link, of CXL and of the archive (chapters 06 and 10) -/

section
variable {α : Type} (q : Nat → Bool) {k : Nat} (hk : q k = false)
include hk

theorem keep_del_of_not (t : Tab α) : (t.del k).keep q = t.keep q := by
  induction t with
  | nil => rfl
  | cons e t ih =>
    obtain ⟨j, w⟩ := e
    unfold Tab.del
    split
    · next hjk =>
      subst hjk
      simpa [Tab.keep, hk] using ih
    · simp only [Tab.keep, List.filter_cons] at ih ⊢
      rw [ih]

theorem keep_ins_of_not (v : α) (t : Tab α) : (t.ins k v).keep q = t.keep q := by
  induction t with
  | nil => simp [Tab.ins, Tab.keep, hk]
  | cons e t ih =>
    unfold Tab.ins
    split
    · simp [Tab.keep, hk]
    · simp only [Tab.keep, List.filter_cons] at ih ⊢
      rw [ih]

theorem keep_put_of_not (v : α) (t : Tab α) : (t.put k v).keep q = t.keep q :=
  (keep_ins_of_not q hk v _).trans (keep_del_of_not q hk t)

end

/-- The state without what the link's commands change; of archive memory its bytes. -/
def linkView (s : State) : State :=
  { s with regs := { val := s.regs.val.keep fun k => decide (k < 0x43000) }, xings := [], tk := {}, hl := {}, rg := {}, sp := {},
           ar := { mem := s.ar.mem }, chs := [], pres := {}, tx := [], free := 0 }

theorem link_frame {s t : State} {f w a sp l words : Nat} {k : Option Nat} {ue sub : Bool} {c : Instr}
    (hc : c ∈ [Instr.perstAssert w k, .perstDeassert, .linkUp sp l, .linkDown w k, .functionLevelReset f w k, .flrComplete f, .d3hotEntry f,
      .speedChange sp, .widthChange sp, .l1Entry sub, .l1Exit, .cxlMemRead l a words ue]) (h : exec c s = .next t) :
    linkView t = linkView s := by
  have hp : NoEvents linkView := ⟨fun _ _ _ => rfl, fun _ _ => rfl, fun _ _ => rfl, fun _ _ => rfl⟩
  have hx : NoCrossings linkView := ⟨fun _ _ => rfl, fun _ _ => rfl, fun _ _ => rfl⟩
  have hrc (s : State) (rc : Tab Word) : linkView { s with regs := { s.regs with rc } } = linkView s := rfl
  have hrg (s : State) (rg : Rings) : linkView { s with rg } = linkView s := rfl
  have htk (s : State) (tk : Timekeeper) : linkView { s with tk } = linkView s := rfl
  have hch (s : State) (chs : Tab Chan) : linkView { s with chs } = linkView s := rfl
  have hue (s : State) (ueLines : Tab Unit) : linkView { s with ar := { s.ar with ueLines } } = linkView s := rfl
  have hreset (s : State) (held shadow : Tab Word) (snap) : linkView { s with regs := { s.regs with held, shadow, snap } } = linkView s := rfl
  have hval (s : State) (v : Word) : linkView (putNow 0x43000 v s) = linkView s := by
    unfold linkView putNow
    dsimp only
    rw [keep_put_of_not _ (by decide)]
  have hs := Keeps.refl linkView s
  simp only [List.mem_cons, List.not_mem_nil, or_false] at hc
  rcases hc with rfl | rfl | rfl | rfl | rfl | rfl | rfl | rfl | rfl | rfl | rfl | rfl
  · exact frame_of_exec h rfl (perstAssert_keeps hp hx hrc hrg hreset hch hval _ _ hs)
  · exact frame_of_exec h rfl (perstDeassert_keeps hp hs)
  · exact frame_of_mainOn h rfl (linkUp_keeps hp _ _ hs)
  · exact frame_of_mainOn h rfl (linkDown_keeps hp hx hrc hrg hch hval _ _ hs)
  · exact frame_of_mainOn h rfl (functionLevelReset_keeps hp hx hrc hrg hreset _ _ _ hs)
  · exact frame_of_mainOn h rfl (flrComplete_keeps hp hx hrc hrg _ hs)
  · exact frame_of_mainOn h rfl (d3hotEntry_keeps hp hx hrc hrg _ hs)
  · exact frame_of_mainOn h rfl (speedChange_keeps hp hx _ hs)
  · exact frame_of_mainOn h rfl (widthChange_keeps hp hx _ hs)
  · exact frame_of_mainOn h rfl (l1Entry_keeps hp htk _ hs)
  · exact frame_of_mainOn h rfl (l1Exit_keeps hp hx hs)
  · exact frame_of_mainOn h rfl (cxlMemRead_keeps hp hx hue _ _ _ _ hs)

/-- A CXL write that no decoder takes leaves the archive as it was (R311). -/
theorem cxlMemWrite_unhit_ar {s : State} {l a : Nat} {bytes : List Byte} {poison : Bool} (hhit : hdmHit s l a = none) :
    Keeps State.ar s (cxlMemWrite l a bytes poison s) := by
  have hp : NoEvents State.ar := ⟨fun _ _ _ => rfl, fun _ _ => rfl, fun _ _ => rfl, fun _ _ => rfl⟩
  have hx : NoCrossings State.ar := ⟨fun _ _ => rfl, fun _ _ => rfl, fun _ _ => rfl⟩
  have htr := traffic_keeps hp (.refl _ s)
  refine .ite (.refl _ s) ?_
  have hhit' : hdmHit (traffic s) l a = none := hhit
  dsimp only
  rw [hhit']
  exact unleased_keeps hx _ _ htr

/-- A CXL write changes no byte of archive memory outside the line its decoder finds (R311). -/
theorem cxlMemWrite_byte {s : State} {l a o b : Nat} {bytes : List Byte} {poison : Bool} (hhit : hdmHit s l a = some o)
    (hb : b < o / 64 * 64 ∨ o / 64 * 64 + 64 ≤ b) : Keeps (fun u => memGet u.ar.mem b) s (cxlMemWrite l a bytes poison s) := by
  have hp : NoEvents fun u : State => memGet u.ar.mem b := ⟨fun _ _ _ => rfl, fun _ _ => rfl, fun _ _ => rfl, fun _ _ => rfl⟩
  have hx : NoCrossings fun u : State => memGet u.ar.mem b := ⟨fun _ _ => rfl, fun _ _ => rfl, fun _ _ => rfl⟩
  have hput (u : State) (l : List Byte) (hl : o / 64 * 64 + 64 - o ≥ l.length) (h : Keeps (fun u => memGet u.ar.mem b) s u) :
      Keeps (fun u => memGet u.ar.mem b) s (arPut o l u) := by
    refine h.step (memGet_write_outside l _ _ _ ?_)
    omega
  have htr := traffic_keeps hp (.refl _ s)
  refine .ite (.refl _ s) ?_
  have hhit' : hdmHit (traffic s) l a = some o := hhit
  dsimp only
  rw [hhit']
  dsimp only
  refine .ite (unleased_keeps hx _ _ htr) (.ite (.ite (htr.step rfl) (unleased_keeps hx _ _ htr)) (.ite (unleased_keeps hx _ _ htr) (.ite ?_ ?_)))
  · exact poisonAdd_keeps hp _ (hput _ _ (by simp) (htr.step rfl))
  · split
    · next hline =>
      have hline : o = o / 64 * 64 := hline.1
      rw [← hline]
      exact hput _ _ (by simp; omega) (htr.step rfl)
    · exact hput _ _ (by simp) htr

/-- CLEAR POISON changes no byte outside its 64 (log entry 56). -/
theorem clearPoison_byte {s : State} {l a b : Nat} {data : List Byte} (hb : b < a ∨ a + 64 ≤ b) :
    Keeps (fun u => memGet u.ar.mem b) s (clearPoison l a data s) := by
  have hp : NoEvents fun u : State => memGet u.ar.mem b := ⟨fun _ _ _ => rfl, fun _ _ => rfl, fun _ _ => rfl, fun _ _ => rfl⟩
  have hs := Keeps.refl (fun u => memGet u.ar.mem b) s
  have hanswer {u : State} (code : Nat) (h : Keeps (fun u => memGet u.ar.mem b) s u) : Keeps (fun u => memGet u.ar.mem b) s (mailbox l code [] u) := by
    have hsent := send_keeps hp (.mailbox l code []) (traffic_keeps hp h)
    exact .ite (signalSpaced_keeps hp _ hsent) (signal_keeps hp _ _ hsent)
  refine .ite hs (.ite (hanswer _ hs) (.ite (hanswer _ hs) (hanswer _ ?_)))
  refine Keeps.of_eq (memGet_write_outside _ _ _ _ ?_)
  rw [List.length_take]
  omega

/-- The state without what the archive's events change. -/
def archiveView (s : State) : State :=
  { s with regs := { val := s.regs.val }, tk := {}, hl := {}, sp := {}, ar := {}, tx := [] }

theorem archive_frame {s t : State} {fail : Option Nat} {c : Instr}
    (hc : c ∈ [Instr.extentZeroed, .heartbeatSample, .archiveTrainingDone fail]) (h : exec c s = .next t) : archiveView t = archiveView s := by
  have hp : NoEvents archiveView := ⟨fun _ _ _ => rfl, fun _ _ => rfl, fun _ _ => rfl, fun _ _ => rfl⟩
  have har (s : State) (ar : Archive) : archiveView { s with ar } = archiveView s := rfl
  have htk (s : State) (tk : Timekeeper) : archiveView { s with tk } = archiveView s := rfl
  have hs := Keeps.refl archiveView s
  simp only [List.mem_cons, List.not_mem_nil, or_false] at hc
  rcases hc with rfl | rfl | rfl
  · exact frame_of_mainOn h rfl (extentZeroed_keeps har hp hs)
  · exact frame_of_mainOn h rfl (heartbeatSample_keeps har hp htk hs)
  · exact frame_of_mainOn h rfl (archiveTrainingDone_keeps har hp _ hs)

/-- Settles O59: each function a command's effect is made of leaves the view of the rest as it was. -/
theorem hostAndArchiveCommandsFrame : Obligations.HostAndArchiveCommandsFrame := by
  unfold Obligations.HostAndArchiveCommandsFrame
  refine ⟨fun s t f w k a ue l sp words sub c hc h => ?_, fun s t l a o bytes poison b h hhit hb => ?_, fun s t l a bytes poison h hhit => ?_,
    fun s t l a data b h hb => ?_, fun s t fail c hc h => ?_⟩
  · have hk := link_frame hc h
    exact ⟨congrArg (·.power) hk, congrArg (·.regs.val) hk, congrArg (memRead ·.ar.mem) hk, congrArg (·.doms) hk, congrArg (·.mis) hk,
      congrArg (·.sh) hk, congrArg (·.jl) hk, congrArg (·.pe) hk, congrArg (·.fx) hk, congrArg (·.en) hk, congrArg (·.cn) hk,
      congrArg (·.ez) hk, congrArg (·.sb) hk, congrArg (·.mm) hk, congrArg (·.sl) hk, congrArg (·.sheet) hk⟩
  · exact frame_of_mainOn (p := fun u => memGet u.ar.mem b) h rfl (cxlMemWrite_byte hhit hb)
  · exact frame_of_mainOn (p := State.ar) h rfl (cxlMemWrite_unhit_ar hhit)
  · exact frame_of_mainOn (p := fun u => memGet u.ar.mem b) h rfl (clearPoison_byte hb)
  · have hk := archive_frame hc h
    exact ⟨congrArg (·.power) hk, congrArg (·.regs.val) hk, congrArg (·.doms) hk, congrArg (·.chs) hk, congrArg (·.mis) hk, congrArg (·.sh) hk,
      congrArg (·.jl) hk, congrArg (·.pe) hk, congrArg (·.fx) hk, congrArg (·.en) hk, congrArg (·.cn) hk, congrArg (·.ez) hk,
      congrArg (·.sb) hk, congrArg (·.mm) hk, congrArg (·.sl) hk, congrArg (·.sheet) hk⟩

end Sys2Proof.Machine
end

section
/-!
SUPPORT. Frames: the power path and the measurement islands (chapters 11 to 13); O58.
-/
namespace Sys2Proof.Machine

/-! ### What the commands of a channel change (chapters 11 to 13) -/

/-- The view `p` shows nothing of what a command of channel `n` may change: the channel itself, the measurement islands, the registers, rings and
records, and the domains that take its values. -/
structure WithinChannel {α : Type} (p : State → α) (n : Nat) : Prop extends NoEvents p, NoCrossings p where
  ch     : ∀ (s : State) c, p (s.setCh n c) = p s
  regs   : ∀ (s : State) regs, p { s with regs } = p s
  rg     : ∀ (s : State) rg, p { s with rg } = p s
  tk     : ∀ (s : State) tk, p { s with tk } = p s
  mm     : ∀ (s : State) mm, p { s with mm } = p s
  mis    : ∀ (s : State) mis, p { s with mis } = p s
  ladder : ∀ (s : State) ladder, p { s with ladder } = p s
  fx     : ∀ (s : State) fx, p { s with fx } = p s
  pe     : ∀ (s : State) pe, p { s with pe } = p s

section
variable {α : Type} {p : State → α} {s t : State}

@[bound] theorem setMi_keeps (hmis : ∀ (s : State) mis, p { s with mis } = p s) (k : Nat) (m : Meas) (h : Keeps p s t) :
    Keeps p s (t.setMi k m) := h.step (hmis ..)

@[bound] theorem with_regs_keeps (hregs : ∀ (s : State) regs, p { s with regs } = p s) (regs : Regs) (h : Keeps p s t) :
    Keeps p s { t with regs } := h.step (hregs ..)

@[bound] theorem with_mm_keeps (hmm : ∀ (s : State) mm, p { s with mm } = p s) (mm : Memories) (h : Keeps p s t) :
    Keeps p s { t with mm } := h.step (hmm ..)

@[bound] theorem with_fx_keeps (hfx : ∀ (s : State) fx, p { s with fx } = p s) (fx : Fixer) (h : Keeps p s t) :
    Keeps p s { t with fx } := h.step (hfx ..)

@[bound] theorem setStage_keeps (hrg : ∀ (s : State) rg, p { s with rg } = p s) (r : Nat) (g : Stage) : Keeps p s t → Keeps p s (setStage r g t) :=
  .of fun t h => by unfold setStage; dsimp only; bound

@[bound] theorem actTaken_keeps (hregs : ∀ (s : State) regs, p { s with regs } = p s) (q : Nat → Bool) (take : Bool) (h : Keeps p s t) :
    Keeps p s (actTaken q take t) := h.step (hregs ..)

@[bound] theorem takeNear_keeps (hfree : ∀ (s : State) free, p { s with free } = p s) (q : Nat → Bool) (h : Keeps p s t) :
    Keeps p s (takeNear q t).2 := by
  unfold takeNear
  split
  · exact spend_keeps hfree h
  · exact h

end

section
variable {α : Type} {p : State → α} {n : Nat} {s t : State}

/-- A function of the state keeps the view where it does under the facts about the view, which `bound` takes up. -/
theorem WithinChannel.of (hn : WithinChannel p n) {f : State → State}
    (hf : ∀ t, Same p s t → NoEvents p → NoCrossings p → (∀ (s : State) cnt, p { s with regs := { s.regs with cnt } } = p s) →
      (∀ (s : State) free, p { s with free } = p s) → (∀ (s : State) regs, p { s with regs } = p s) → (∀ (s : State) rg, p { s with rg } = p s) →
      (∀ (s : State) tk, p { s with tk } = p s) → (∀ (s : State) mm, p { s with mm } = p s) → (∀ (s : State) mis, p { s with mis } = p s) →
      (∀ (s : State) fx, p { s with fx } = p s) → (∀ (s : State) pe, p { s with pe } = p s) → (∀ (s : State) c, p (s.setCh n c) = p s) → Keeps p s (f (reached t)))
    (h : Keeps p s t) : Keeps p s (f t) :=
  hf t (h trivial) hn.toNoEvents hn.toNoCrossings hn.cnt hn.free hn.regs hn.rg hn.tk hn.mm hn.mis hn.fx hn.pe hn.ch

variable (hn : WithinChannel p n)
include hn

@[bound] theorem cutChannel_within : Keeps p s t → Keeps p s (cutChannel n t) :=
  hn.of fun t h => by intros; unfold cutChannel; dsimp only; bound

@[bound] theorem fadeChannel_within : Keeps p s t → Keeps p s (fadeChannel n t) :=
  hn.of fun t h => by intros; unfold fadeChannel; dsimp only; bound

@[bound] theorem fxRun_within (f : FxRun → FxRun) : Keeps p s t → Keeps p s (fxRun n f t) :=
  hn.of fun t h => by intros; unfold fxRun; bound

@[bound] theorem fxRunStart_within (gen : Nat) : Keeps p s t → Keeps p s (fxRunStart n gen t) :=
  hn.of fun t h => by intros; unfold fxRunStart; bound

@[bound] theorem fxRunEnd_within (why : EndReason) : Keeps p s t → Keeps p s (fxRunEnd n why t) :=
  hn.of fun t h => by intros; unfold fxRunEnd; dsimp only; bound

@[bound] theorem fxStepStart_within (rest : Bool) : Keeps p s t → Keeps p s (fxStepStart n rest t) :=
  hn.of fun t h => by intros; unfold fxStepStart; bound

@[bound] theorem fxStepEnd_within (t_ : Nat) (dq de : Int) : Keeps p s t → Keeps p s (fxStepEnd n t_ dq de t) :=
  hn.of fun t h => by intros; unfold fxStepEnd; dsimp only; bound

@[bound] theorem stepEnd_within (term : Option Nat) (short overrun : Bool) : Keeps p s t → Keeps p s (stepEnd n term short overrun t) :=
  hn.of fun t h => by intros; unfold stepEnd; dsimp only; bound

@[bound] theorem settleCmds_within (st : Status) (detail : Nat) : Keeps p s t → Keeps p s (settleCmds n st detail t) :=
  hn.of fun t h => by intros; unfold settleCmds; bound

@[bound] theorem endRun_within (why : EndReason) (arg : Int) (byHub : Bool) : Keeps p s t → Keeps p s (endRun n why arg byHub t) :=
  hn.of fun t h => by intros; unfold endRun; dsimp only; bound

@[bound] theorem latchFault_within (bit cause : Nat) : Keeps p s t → Keeps p s (latchFault bit cause n t) :=
  hn.of fun t h => by intros; unfold latchFault; dsimp only; bound

@[bound] theorem progFault_within (cause word : Nat) : Keeps p s t → Keeps p s (progFault n cause word t) :=
  hn.of fun t h => by intros; unfold progFault; dsimp only; bound

@[bound] theorem limitTrip_within (item : Nat) (value : Int) : Keeps p s t → Keeps p s (limitTrip n item value t) :=
  hn.of fun t h => by intros; unfold limitTrip; dsimp only; bound

@[bound] theorem noPhase_within : Keeps p s t → Keeps p s (noPhase n t) :=
  hn.of fun t h => by intros; unfold noPhase; dsimp only; bound

@[bound] theorem stateReads_within (base : Nat) (ks : List Nat) : Keeps p s t → Keeps p s (stateReads base n ks t) :=
  hn.of fun t h => by intros; unfold stateReads; dsimp only; bound

@[bound] theorem limitTest_within (item need : Nat) (bad : Bool) (value : Int) : Keeps p s t → Keeps p s (limitTest n item need bad value t) :=
  hn.of fun t h => by intros; unfold limitTest; dsimp only; bound

@[bound] theorem swapBank_within (mark : Nat) : Keeps p s t → Keeps p s (swapBank n mark t) :=
  hn.of fun t h => by intros; unfold swapBank; dsimp only; bound

@[bound] theorem channelShort_within (j k : Nat) (avg share : Int) : Keeps p s t → Keeps p s (channelShort n j k avg share t) :=
  hn.of fun t h => by intros; unfold channelShort; dsimp only; bound

@[bound] theorem tripOut_within (j ev : Nat) (h : Keeps p s t) : Keeps p s (tripOut n j ev t) := by
  unfold tripOut
  extract_lets c ph now retry args recent fourth due ph' _ u v w
  have hu : Keeps p s u := raise_keeps hn.toNoEvents _ _ _ _ _ (setCh_keeps hn.ch _ h)
  have hv : Keeps p s v := .ite (raise_keeps hn.toNoEvents _ _ _ _ _ hu) hu
  have hw : Keeps p s w := .ite (cancelQueued_keeps hn.ch hn.toNoEvents hn.rg _ _ hv) hv
  split
  · exact channelShort_within hn _ _ _ _ hu
  · exact noPhase_within hn hw

@[bound] theorem actStep_within : Keeps p s t → Keeps p s (actStep n t) :=
  hn.of fun t h => by intros; unfold actStep; dsimp only; bound

theorem fetchWord_error_within {pc k : Nat} {u : State} (h : Keeps p s t) (hu : fetchWord n pc t = .error (k, u)) : Keeps p s u := by
  simp only [fetchWord] at hu
  (repeat' split at hu) <;> cases hu
  · exact h
  · exact uncorrectableRead_keeps hn.toNoEvents hn.mm hn.cnt _ _ _ _ h
  · exact unexposedRead_keeps hn.toNoEvents hn.mm hn.cnt _ _ _ h

theorem readTerms_error_within {pc m k : Nat} {u : State} (h : Keeps p s t) (hu : readTerms n pc m t = .error (k, u)) : Keeps p s u := by
  induction m generalizing pc with
  | zero => cases hu
  | succ m ih =>
    simp only [readTerms] at hu
    split at hu
    · next hf => cases hu; exact fetchWord_error_within hn h hf
    · next hf => cases hu; exact fetchWord_error_within hn h hf
    · split at hu
      · cases hu; exact h
      · split at hu
        · cases hu; exact h
        · split at hu
          · next hr => cases hu; exact ih hr
          · cases hu

theorem beginStep_error_within {pc k : Nat} {w : BitVec 64} {u : State} (h : Keeps p s t) (hu : beginStep n pc w t = .error (k, u)) :
    Keeps p s u := by
  simp only [beginStep] at hu
  split at hu
  · cases hu; bound
  · split at hu
    · cases hu; bound
    · split at hu
      · next hr => cases hu; exact readTerms_error_within hn (actStep_within hn h) hr
      · cases hu

theorem beginStep_within {pc : Nat} {w : BitVec 64} {u : State} (h : Keeps p s t) (hu : beginStep n pc w t = .ok u) : Keeps p s u := by
  have hch := hn.ch
  simp only [beginStep] at hu
  split at hu
  · cases hu
  · split at hu
    · cases hu
    · split at hu
      · cases hu
      · cases hu; bound

theorem setv_within {w : BitVec 64} {u : State} (h : Keeps p s t) (hu : setv n w t = some u) : Keeps p s u := by
  have hset (c : Chan) {v : State} (hv : Keeps p s v) : Keeps p s (v.setCh n c) := setCh_keeps hn.ch c hv
  simp only [setv] at hu
  (repeat' split at hu) <;> cases hu
  all_goals first
    | exact hset _ h
    | exact hset _ (spend_keeps hn.free h)

theorem flowInstr_within {pc : Nat} {w : BitVec 64} {u : State} {f : Flow} (h : Keeps p s t) (hu : flowInstr n pc w t = (f, u)) : Keeps p s u := by
  have hch := hn.ch
  simp only [flowInstr] at hu
  split at hu
  case h_10 =>
    split at hu
    · next hv => cases hu; exact setv_within hn h hv
    · cases hu; exact h
  all_goals (repeat' split at hu) <;> cases hu <;> bound

@[bound] theorem execFlow_within (fuel pc : Nat) (h : Keeps p s t) : Keeps p s (execFlow n fuel pc t) := by
  have hch := hn.ch
  have hp := hn.toNoEvents
  induction fuel using Nat.strong_induction_on generalizing pc t with
  | _ fuel ih =>
    unfold execFlow
    split
    · next hf => exact progFault_within hn _ _ (setCh_keeps hn.ch _ (fetchWord_error_within hn h hf))
    · dsimp only
      split
      · bound
      · split
        · split
          · next hb => exact progFault_within hn _ _ (setCh_keeps hn.ch _ (beginStep_error_within hn h hb))
          · next hb => exact beginStep_within hn h hb
        · split
          · bound
          · split
            · split
              · split
                · next hf => exact progFault_within hn _ _ (setCh_keeps hn.ch _ (flowInstr_within hn h hf))
                · exact flowInstr_within hn h rfl
              · bound
            · split
              · next hf => exact ih _ (Nat.lt_succ_self _) _ (flowInstr_within hn h hf)
              · next hf => exact fadeChannel_within hn (endRun_within hn _ _ _ (setCh_keeps hn.ch _ (flowInstr_within hn h hf)))
              · next hf => exact flowInstr_within hn h hf
              · next hf => exact progFault_within hn _ _ (setCh_keeps hn.ch _ (flowInstr_within hn h hf))

@[bound] theorem endStep_within (k : Nat) (st : StepSt) : Keeps p s t → Keeps p s (endStep n k st t) :=
  hn.of fun t h => by intros; unfold endStep; dsimp only; bound

@[bound] theorem stepPeriod_within : Keeps p s t → Keeps p s (stepPeriod n t) :=
  hn.of fun t h => by intros; unfold stepPeriod; dsimp only; bound

@[bound] theorem developerTurn_within : Keeps p s t → Keeps p s (developerTurn n t) :=
  hn.of fun t h => by intros; unfold developerTurn; dsimp only; bound

@[bound] theorem beginRun_within (a : StartArgs) : Keeps p s t → Keeps p s (beginRun n a t) :=
  hn.of fun t h => by intros; unfold beginRun; dsimp only; bound

@[bound] theorem integrate_within (h : Keeps p s t) : Keeps p s (integrate n t) := by
  have hset (c : Chan) : Keeps p s (t.setCh n c) := setCh_keeps hn.ch c h
  have hlim (a : Prop) [Decidable a] (c : Chan) (args : List Int) :
      Keeps p s (if a then raise .dv n 16 1 args (t.setCh n c) else t.setCh n c) := .ite (raise_keeps hn.toNoEvents _ _ _ _ _ (hset c)) (hset c)
  unfold integrate
  dsimp only
  refine .ite ?_ (hlim _ _ _)
  split
  · exact complete_keeps hn.toNoEvents hn.rg _ _ _ _ (hlim _ _ _)
  · exact hlim _ _ _

@[bound] theorem setCommand_within (raw integ : Rat) : Keeps p s t → Keeps p s (setCommand n raw integ t) :=
  hn.of fun t h => by intros; unfold setCommand; dsimp only; bound

@[bound] theorem loopCommand_within : Keeps p s t → Keeps p s (loopCommand n t) :=
  hn.of fun t h => by intros; unfold loopCommand; dsimp only; bound

@[bound] theorem setDuties_within : Keeps p s t → Keeps p s (setDuties n t) :=
  hn.of fun t h => by intros; unfold setDuties; dsimp only; bound

@[bound] theorem actFound_within (which : Nat → Bool) : Keeps p s t → Keeps p s (actFound which n t) :=
  hn.of fun t h => by intros; unfold actFound; dsimp only; bound

@[bound] theorem testPhases_within (codes : List (List Int)) : Keeps p s t → Keeps p s (testPhases n codes t) :=
  hn.of fun t h => by intros; unfold testPhases; dsimp only; bound

@[bound] theorem fadeStep_within : Keeps p s t → Keeps p s (fadeStep n t) :=
  hn.of fun t h => by intros; unfold fadeStep; dsimp only; bound

@[bound] theorem commandsAndTurn_within : Keeps p s t → Keeps p s (commandsAndTurn n t) :=
  hn.of fun t h => by intros; unfold commandsAndTurn; dsimp only; bound

@[bound] theorem stageVolts_within : Keeps p s t → Keeps p s (stageVolts n t) :=
  hn.of fun t h => by intros; unfold stageVolts; dsimp only; bound

@[bound] theorem fxCurrentStep_within (was : Rat) : Keeps p s t → Keeps p s (fxCurrentStep n was t) :=
  hn.of fun t h => by intros; unfold fxCurrentStep; dsimp only; bound

@[bound] theorem ciStateReads_within : Keeps p s t → Keeps p s (ciStateReads n t) :=
  hn.of fun t h => by intros; unfold ciStateReads; dsimp only; bound

@[bound] theorem retryReturns_within : Keeps p s t → Keeps p s (retryReturns n t) :=
  hn.of fun t h => by intros; unfold retryReturns; dsimp only; bound

@[bound] theorem gangCross_within : Keeps p s t → Keeps p s (gangCross n t) :=
  hn.of fun t h => by intros; unfold gangCross; bound

@[bound] theorem pwmBoundary_within (codes : List (List Int)) (h : Keeps p s t) : Keeps p s (pwmBoundary n codes t) := by
  unfold pwmBoundary
  extract_lets len t1 old c c' t2 t3 t4 t5 i fifty t6 t7 t8 t9 t10 was t11 c''
  have h1 : Keeps p s t1 := gangCross_within hn (ciStateReads_within hn (actTaken_keeps hn.regs _ _ (takeNear_keeps hn.free _ h)))
  have h3 : Keeps p s t3 := testPhases_within hn _ (actFound_within hn _ (setCh_keeps hn.ch _ h1))
  have h5 : Keeps p s t5 := stepPeriod_within hn (integrate_within hn (retryReturns_within hn (actFound_within hn _ h3)))
  have h7 : Keeps p s t7 := limitTest_within hn _ _ _ _ (limitTest_within hn _ _ _ _ h5)
  have h8 : Keeps p s t8 := fadeStep_within hn (commandsAndTurn_within hn h7)
  have h9 : Keeps p s t9 := .ite h8 (actStep_within hn h8)
  have h10 : Keeps p s t10 := .ite (noPhase_within hn h9) h9
  have h11 : Keeps p s t11 := stageVolts_within hn (fxCurrentStep_within hn _ (setDuties_within hn (loopCommand_within hn h10)))
  exact .ite (setCh_keeps hn.ch _ h11) h

@[bound] theorem normalTrip_within (j : Nat) (ua : Int) (at_ lasts : Nat) : Keeps p s t → Keeps p s (normalTrip n j ua at_ lasts t) :=
  hn.of fun t h => by intros; unfold normalTrip; dsimp only; bound

@[bound] theorem hardTrip_within (j : Nat) (ua : Int) : Keeps p s t → Keeps p s (hardTrip n j ua t) :=
  hn.of fun t h => by intros; unfold hardTrip; dsimp only; bound

@[bound] theorem driverFault_within (j : Nat) (low : Bool) : Keeps p s t → Keeps p s (driverFault n j low t) :=
  hn.of fun t h => by intros; unfold driverFault; dsimp only; bound

@[bound] theorem phRetry_within (j : Nat) : Keeps p s t → Keeps p s (phRetry n j t) :=
  hn.of fun t h => by intros; unfold phRetry; dsimp only; bound

@[bound] theorem leaveLadder_within (hold k : Nat) (h : Keeps p s t) : Keeps p s (leaveLadder hold k t) :=
  (setMi_keeps hn.mis k _ h).step (hn.ladder ..)

@[bound] theorem calAbandon_within (all : Bool) : Keeps p s t → Keeps p s (calAbandon n all t) :=
  hn.of fun t h => by intros; unfold calAbandon; dsimp only; bound

@[bound] theorem calCheck_within : Keeps p s t → Keeps p s (calCheck n t) :=
  hn.of fun t h => by intros; unfold calCheck; dsimp only; bound

@[bound] theorem pushNegative_within (x : Sample) (flags rate : Nat) (snap : Bool) :
    Keeps p s t → Keeps p s (pushNegative n x flags rate snap t) :=
  hn.of fun t h => by intros; unfold pushNegative; dsimp only; bound

@[bound] theorem rateStep_within (x : Sample) : Keeps p s t → Keeps p s (rateStep n x t) :=
  hn.of fun t h => by intros; unfold rateStep; dsimp only; bound

@[bound] theorem pathCheck_within (gap : Bool) (v fast : Int) : Keeps p s t → Keeps p s (pathCheck n gap v fast t) :=
  hn.of fun t h => by intros; unfold pathCheck; dsimp only; bound

@[bound] theorem gangCheck_within (gap : Bool) (v v2 : Int) : Keeps p s t → Keeps p s (gangCheck n gap v v2 t) :=
  hn.of fun t h => by intros; unfold gangCheck; dsimp only; bound

@[bound] theorem toCi_within (x : Sample) : Keeps p s t → Keeps p s (toCi n x t) :=
  hn.of fun t h => by intros; unfold toCi; dsimp only; bound

@[bound] theorem toFixer_within (x : Sample) : Keeps p s t → Keeps p s (toFixer n x t) :=
  hn.of fun t h => by intros; unfold toFixer; dsimp only; bound

@[bound] theorem takeValues_within (k : Nat) (l : List DecVal) : Keeps p s t → Keeps p s (takeValues k l t) :=
  hn.of fun t h => by intros; unfold takeValues; bound

@[bound] theorem windowOver_within (k t_ : Nat) : Keeps p s t → Keeps p s (windowOver k t_ t) :=
  hn.of fun t h => by intros; unfold windowOver; bound

@[bound] theorem ownSample_within (k at_ : Nat) (l : List DecVal) (h : Keeps p s t) : Keeps p s (ownSample t k at_ l).2 := by
  unfold ownSample
  extract_lets m jl gap th range thBad formed ti t1 temp ov smp o hi t2 t3
  have h2 : Keeps p s t2 := setMi_keeps hn.mis _ _ (.ite (spend_keeps hn.free h) h)
  have h3 : Keeps p s t3 := .ite (raise_keeps hn.toNoEvents _ _ _ _ _ h2) h2
  exact .ite (raise_keeps hn.toNoEvents _ _ _ _ _ h3) h3

@[bound] theorem sampleWindowEnd_within (w w2 : List DecVal) (delay : Nat) (h : Keeps p s t) :
    Keeps p s (sampleWindowEnd n w w2 delay t) := by
  unfold sampleWindowEnd
  extract_lets m at_ t1 pair t2 t3 l l2 final t4 _ was
  have h2 : Keeps p s t2 := takeValues_within hn _ _ (stateReads_within hn _ _ (advanceTo_keeps hn.tk _ h))
  have h3 : Keeps p s t3 := .ite (takeValues_within hn _ _ h2) h2
  have hfin {u : State} (hu : Keeps p s u) : Keeps p s (final u) := .ite (windowOver_within hn _ _ (windowOver_within hn _ _ hu)) (windowOver_within hn _ _ hu)
  refine .ite (.ite (setMi_keeps hn.mis _ _ (hfin h3)) ?_) h
  clear_value t3 final
  have h4 : Keeps p s (ownSample t3 n at_ l).2 := ownSample_within hn _ _ _ h3
  generalize ownSample t3 n at_ l = r at h4 ⊢
  obtain ⟨own, u⟩ := r
  have h5 : Keeps p s (if pair then ownSample u (n + 1) at_ l2 else (own, u)).2 := by
    split
    · exact ownSample_within hn _ _ _ h4
    · exact h4
  dsimp -zeta only
  generalize (if pair then ownSample u (n + 1) at_ l2 else (own, u)) = r at h5 ⊢
  obtain ⟨own2, v⟩ := r
  dsimp -zeta only
  extract_lets g names v1 gap fast ov late q _ v2 v3 v4 v5 v6 v7 v8 v9 v10 v11 v12 _
  have hv3 : Keeps p s v3 := .ite (raise_keeps hn.toNoEvents _ _ _ _ _ (setMi_keeps hn.mis _ _ (hfin h5))) (setMi_keeps hn.mis _ _ (hfin h5))
  have hv4 : Keeps p s v4 := pathCheck_within hn _ _ _ hv3
  have hv5 : Keeps p s v5 := .ite (gangCheck_within hn _ _ _ hv4) hv4
  have hv8 : Keeps p s v8 := toPe_keeps hn.toNoCrossings hn.pe _ _ (toFixer_within hn _ (toCi_within hn _ hv5))
  have hv9 : Keeps p s v9 := .ite hv8 (toPe_keeps hn.toNoCrossings hn.pe _ _ hv8)
  have hv10 : Keeps p s v10 := .ite (toPe_keeps hn.toNoCrossings hn.pe _ _ hv9) hv9
  have hv11 : Keeps p s v11 := rateStep_within hn _ hv10
  have hv12 : Keeps p s v12 := by
    unfold v12
    split
    · exact setStage_keeps hn.rg _ _ hv11
    · exact hv11
  exact .ite (pushNegative_within hn _ _ _ _ (setMi_keeps hn.mis _ _ hv12)) hv11

@[bound] theorem fastTaken_within (v sh sh2 : Int) : Keeps p s t → Keeps p s (fastTaken n v sh sh2 t) :=
  hn.of fun t h => by intros; unfold fastTaken; dsimp only; bound

@[bound] theorem fastValue_within (v sh sh2 : Int) : Keeps p s t → Keeps p s (fastValue n v sh sh2 t) :=
  hn.of fun t h => by intros; unfold fastValue; dsimp only; bound

@[bound] theorem startActs_within (r : Nat) (d : List Byte) (h : Keeps p s t) : Keeps p s (startActs r n d t) := by
  unfold startActs
  split
  · exact complete_keeps hn.toNoEvents hn.rg _ _ _ _ h
  · exact setStage_keeps hn.rg _ _ (setCh_keeps hn.ch _ h)

@[bound] theorem reachesDark_within (h : Keeps p s t) : Keeps p s (reachesDark n t) := by
  unfold reachesDark
  extract_lets c _ u v _ w
  have hu : Keeps p s u := setCh_keeps hn.ch _ h
  have hv : Keeps p s v := .ite (swapBank_within hn _ hu) hu
  have hw : Keeps p s w := setCh_keeps hn.ch _ hv
  refine .ite ?_ hv
  split
  · exact startActs_within hn _ _ hw
  · exact hw

@[bound] theorem dischargeEnd_within (h : Keeps p s t) : Keeps p s (dischargeEnd n t) := by
  unfold dischargeEnd
  extract_lets c
  split
  · split
    · exact reachesDark_within hn (advanceClk_keeps hn.tk _ h)
    · exact h
  · exact h

end

/-! ### What calibration commands change (chapter 12) -/

section
variable {α : Type} {p : State → α} {s t : State} (hmis : ∀ (s : State) mis, p { s with mis } = p s)
  (hladder : ∀ (s : State) ladder, p { s with ladder } = p s)
include hmis hladder

@[bound] theorem leaveLadder_keeps (hold k : Nat) (h : Keeps p s t) : Keeps p s (leaveLadder hold k t) :=
  (setMi_keeps hmis k _ h).step (hladder ..)

@[bound] theorem endCal_keeps (k : Nat) (pass : Bool) (x : CalIn) (h : Keeps p s t) : Keeps p s (endCal k pass x t) :=
  setMi_keeps hmis _ _ (leaveLadder_keeps hmis hladder _ _ h)

@[bound] theorem ladderGrant_keeps (h : Keeps p s t) : Keeps p s (ladderGrant t) := by
  unfold ladderGrant
  split
  · exact h
  · exact .ite (Keeps.step (.foldl (fun _ _ hu => setMi_keeps hmis _ _ (reached_keeps hu)) _ h) (hladder ..)) h

variable (hp : NoEvents p)
include hp

omit hladder in
@[bound] theorem modFault_keeps (n chain : Nat) (h : Keeps p s t) : Keeps p s (modFault n chain t) :=
  .ite (raise_keeps hp _ _ _ _ _ (setMi_keeps hmis _ _ h)) h

omit hladder in
theorem judgeCal_keeps (k : Nat) (x : CalIn) (h : Keeps p s t) : Keeps p s (judgeCal k x t).2 := by
  have hset (m : Meas) : Keeps p s (t.setMi k m) := setMi_keeps hmis k m h
  unfold judgeCal
  dsimp only
  split
  · exact raise_keeps hp _ _ _ _ _ (hset _)
  split
  · exact raise_keeps hp _ _ _ _ _ (hset _)
  split
  · exact hset _
  · exact Keeps.ite (raise_keeps hp _ _ _ _ _ (raise_keeps hp _ _ _ _ _ (hset _))) (raise_keeps hp _ _ _ _ _ (hset _))

variable (htk : ∀ (s : State) tk, p { s with tk } = p s)
include htk

omit hladder hp in
@[bound] theorem calDue_keeps (n : Nat) (h : Keeps p s t) : Keeps p s (calDue n t) := by
  unfold calDue
  dsimp only
  split
  · exact .ite (setMi_keeps hmis _ _ (advanceClk_keeps htk _ h)) h
  · exact h

omit hladder in
@[bound] theorem calForced_keeps (n : Nat) (h : Keeps p s t) : Keeps p s (calForced n t) := by
  unfold calForced
  dsimp only
  split
  · exact .ite (raise_keeps hp _ _ _ _ _ (setMi_keeps hmis _ _ (advanceClk_keeps htk _ h))) h
  · exact h

omit hladder hp in
@[bound] theorem calHoldoffEnd_keeps (n : Nat) (h : Keeps p s t) : Keeps p s (calHoldoffEnd n t) :=
  .ite h (setMi_keeps hmis _ _ (advanceClk_keeps htk _ h))

@[bound] theorem calWindowEnd_keeps (n : Nat) (x y : CalIn) (h : Keeps p s t) : Keeps p s (calWindowEnd n x y t) := by
  unfold calWindowEnd
  split
  · next at_ _ =>
    extract_lets forced old pair u
    have hu : Keeps p s u := advanceClk_keeps htk _ h
    clear_value u
    have hj : Keeps p s (judgeCal n x u).2 := judgeCal_keeps hmis hp _ _ hu
    generalize judgeCal n x u = j at hj ⊢
    obtain ⟨pass, v⟩ := j
    have hk : Keeps p s (if pair then judgeCal (n + 1) y v else (true, v)).2 := by
      split
      · exact judgeCal_keeps hmis hp _ _ hj
      · exact hj
    dsimp -zeta only
    generalize (if pair then judgeCal (n + 1) y v else (true, v)) = k at hk ⊢
    obtain ⟨q, w⟩ := k
    have hw : Keeps p s (endCal n pass x (advanceClk (at_ + 2000000) w)) := endCal_keeps hmis hladder _ _ _ (advanceClk_keeps htk _ hk)
    exact .ite (raise_keeps hp _ _ _ _ _ (.ite (endCal_keeps hmis hladder _ _ _ hw) hw)) h
  · exact h

end

/-! ### The frame of the power path and the measurement islands -/

/-- The state without what a channel's commands change, with channel `m`. -/
def channelView (m : Nat) (s : State) : State × Chan :=
  ({ s with regs := {}, xings := [], tk := {}, hl := {}, rg := {}, sp := {}, chs := [], mis := [], ladder := {}, pe := {}, fx := {}, mm := {},
            tx := [], free := 0 }, s.ch m)

theorem channelView_within {m n : Nat} (hm : m ≠ n) : WithinChannel (channelView m) n where
  sq _ _ _ := rfl
  hl _ _ := rfl
  sp _ _ := rfl
  tx _ _ := rfl
  cnt _ _ := rfl
  xings _ _ := rfl
  free _ _ := rfl
  ch s c := congrArg (Prod.mk _) (State.setCh_other _ _ _ _ hm)
  regs _ _ := rfl
  rg _ _ := rfl
  tk _ _ := rfl
  mm _ _ := rfl
  mis _ _ := rfl
  ladder _ _ := rfl
  fx _ _ := rfl
  pe _ _ := rfl

theorem channel_frame {s t : State} {n m j at_ lasts delay : Nat} {ua v sh sh2 : Int} {b : Bool} {codes : List (List Int)} {w w2 : List DecVal}
    (hm : m ≠ n) {c : Instr}
    (hc : c ∈ [Instr.pwmPeriodBoundary n codes, .normalTrip n j ua at_ lasts, .hardTrip n j ua, .driverFault n j b, .phRetry n j,
      .dischargeEnd n, .sampleWindowEnd n w w2 delay, .fastValue n v sh sh2]) (h : exec c s = .next t) :
    channelView m t = channelView m s := by
  have hn := channelView_within hm
  have hs := Keeps.refl (channelView m) s
  simp only [List.mem_cons, List.not_mem_nil, or_false] at hc
  rcases hc with rfl | rfl | rfl | rfl | rfl | rfl | rfl | rfl
  · exact frame_of_mainOn h rfl (calCheck_within hn (pwmBoundary_within hn _ hs))
  · exact frame_of_mainOn h rfl (normalTrip_within hn _ _ _ _ hs)
  · exact frame_of_mainOn h rfl (hardTrip_within hn _ _ hs)
  · exact frame_of_mainOn h rfl (driverFault_within hn _ _ hs)
  · exact frame_of_mainOn h rfl (phRetry_within hn _ hs)
  · exact frame_of_mainOn h rfl (dischargeEnd_within hn hs)
  · exact frame_of_mainOn h rfl (sampleWindowEnd_within hn _ _ _ hs)
  · exact frame_of_mainOn h rfl (fastValue_within hn _ _ _ hs)

/-- The state without what calibration commands change. -/
def calibrationView (s : State) : State :=
  { s with regs := { val := s.regs.val }, tk := {}, hl := {}, sp := {}, mis := [], ladder := {}, tx := [] }

theorem calibration_frame {s t : State} {n k : Nat} {x y : CalIn} {c : Instr}
    (hc : c ∈ [Instr.calDue n, .calForced n, .calRequestHoldoffEnd n, .ladderGrant, .calWindowEnd n x y, .modFault n k])
    (h : exec c s = .next t) : calibrationView t = calibrationView s := by
  have hp : NoEvents calibrationView := ⟨fun _ _ _ => rfl, fun _ _ => rfl, fun _ _ => rfl, fun _ _ => rfl⟩
  have htk (s : State) (tk : Timekeeper) : calibrationView { s with tk } = calibrationView s := rfl
  have hmis (s : State) (mis : Tab Meas) : calibrationView { s with mis } = calibrationView s := rfl
  have hladder (s : State) (ladder : Ladder) : calibrationView { s with ladder } = calibrationView s := rfl
  have hs := Keeps.refl calibrationView s
  simp only [List.mem_cons, List.not_mem_nil, or_false] at hc
  rcases hc with rfl | rfl | rfl | rfl | rfl | rfl
  · exact frame_of_mainOn h rfl (calDue_keeps hmis htk _ hs)
  · exact frame_of_mainOn h rfl (calForced_keeps hmis hp htk _ hs)
  · exact frame_of_mainOn h rfl (calHoldoffEnd_keeps hmis htk _ hs)
  · exact frame_of_mainOn h rfl (ladderGrant_keeps hmis hladder hs)
  · exact frame_of_mainOn h rfl (calWindowEnd_keeps hmis hladder hp htk _ _ _ hs)
  · exact frame_of_mainOn h rfl (modFault_keeps hmis hp _ _ hs)

/-- Settles O58: each function a command's effect is made of leaves the view of the rest as it was. -/
theorem channelCommandsFrame : Obligations.ChannelCommandsFrame := by
  unfold Obligations.ChannelCommandsFrame
  refine ⟨fun s t n j b ua at_ lasts codes w w2 delay v sh sh2 c hc h => ?_, fun s t n x y k c hc h => ?_⟩
  · have hall (m : Nat) (hm : m ≠ n) : channelView m t = channelView m s := channel_frame hm hc h
    have hk := congrArg Prod.fst (hall (n + 1) (Nat.succ_ne_self n))
    exact ⟨fun m hm => congrArg Prod.snd (hall m hm), congrArg (·.ar) hk, congrArg (·.doms) hk, congrArg (·.sh) hk, congrArg (·.jl) hk,
      congrArg (·.en) hk, congrArg (·.cn) hk, congrArg (·.ez) hk, congrArg (·.sb) hk, congrArg (·.sl) hk, congrArg (·.pres) hk,
      congrArg (·.sheet) hk⟩
  · have hk := calibration_frame hc h
    exact ⟨congrArg (·.chs) hk, congrArg (·.regs.val) hk, congrArg (·.rg) hk, congrArg (·.ar) hk, congrArg (·.doms) hk, congrArg (·.sh) hk,
      congrArg (·.jl) hk, congrArg (·.pe) hk, congrArg (·.fx) hk, congrArg (·.en) hk, congrArg (·.cn) hk, congrArg (·.ez) hk,
      congrArg (·.sb) hk, congrArg (·.mm) hk, congrArg (·.sl) hk, congrArg (·.pres) hk, congrArg (·.sheet) hk⟩

end Sys2Proof.Machine
end
